-- ==== Sys2Proof/Word.lean ====
section
/-! DEFINITION. The word types of the QK4's manual (R5) and nothing else that a test could show wrong. -/

namespace Sys2Proof

/-- A byte. -/
abbrev Byte := BitVec 8
/-- A 16-bit field. -/
abbrev U16 := BitVec 16
/-- A 32-bit field or register. -/
abbrev U32 := BitVec 32
/-- A 64-bit field. -/
abbrev U64 := BitVec 64
/-- An FP32 value by its encoding (R68). -/
abbrev F32 := BitVec 32
/-- A BF16 value by its encoding (R68). -/
abbrev BF16 := BitVec 16
/-- A message, a record or a block as bytes in the order in which they travel or lie. -/
abbrev Bytes := List Byte

end Sys2Proof
end

