-- ==== Sys2Proof/Syntax.lean ====
section
/-! DEFINITION. The commands of the block: one constructor of `Instr` for each row of spec/opcode_table.json, with
the row's operands. Messages, packets and mailbox buffers are carried as the bytes that arrive. -/

namespace Sys2Proof

/-- A message received whole on a queue pair (R187, R206): its connection, MSN, PSN of its last packet, OPCODE of
its GWT header and body. -/
structure Msg where
  qpn : Nat
  msn : Nat
  psn : Nat
  opcode : Nat
  body : Bytes
deriving DecidableEq, Repr

/-- A received Ethernet frame that carries a GWT packet (R182, R186, R219). -/
structure Frame where
  link : Nat            -- port × 4 + link
  pcp : Nat             -- 802.1Q priority, or the one the DSCP field maps to (R184)
  framed : Bool         -- the framing of R182 holds (FCS, IP header, UDP checksum)
  tagged : Bool         -- the frame carries one 802.1Q tag (R182)
  udpPort : Nat         -- UDP destination port (R182)
  ce : Bool             -- IP ECN field is CE (R205)
  wire : Nat            -- bytes from destination MAC to FCS (R246, R296)
  src : Bytes           -- source address
  head : Bytes          -- the 32 bytes of the GWT header
  txCount : Nat         -- TX_COUNT, when ENC is set (R219)
  payload : Bytes
  tag : Bytes           -- the 16-byte tag, when ENC is set
deriving DecidableEq, Repr

/-- A CONNECT packet (R192, R193): the service QP it names or that it comes from, the source address, the VERSION byte
of its header and its 64-byte body. -/
structure Connect where
  qp : Nat
  src : Bytes
  version : Nat
  body : Bytes
deriving DecidableEq, Repr

/-- A mailbox exchange (R357): the mailbox and the message written into its buffer. -/
structure Mbx where
  box : Nat
  bytes : Bytes
deriving DecidableEq, Repr

/-- One (layer, KV head, block) of a sequence. -/
structure BlockRef where
  paddock : Nat
  seq : Nat
  layer : Nat
  head : Nat
  block : Nat
deriving DecidableEq, Repr

/-- What a read of memory brought back (R119, R149, R150): the data, a poisoned line, or a failed tag. -/
inductive ReadOutcome where
  | good
  | poisoned
  | badCheck
deriving DecidableEq, Repr

/-- An object that a restoration concerns (R120). -/
inductive Restored where
  | block (b : BlockRef)
  | tail (b : BlockRef)
  | page (paddock seq page : Nat)
  | whole (paddock seq : Nat)
deriving DecidableEq, Repr

/-- A lease request of O3 (R164, R177). -/
structure LeaseReq where
  stack : Nat
  pcs : List Nat
  durationNs : Nat
  frames : List Nat
  paddock : Nat
  program : Nat
  abi : Nat             -- [15:8] major, [7:0] minor
  param0 : Nat
  param1 : Nat
deriving DecidableEq, Repr

/-- What a stall program left in its call block (R177, R178). -/
structure ProgramResult where
  result : Nat
  nextFrame : Nat
  cycles : Nat
  failures : List Nat        -- failure list: frames
  blocks : List BlockRef     -- blocks that the result concerns: failed (SCRUB), moved (COMPACT), summarised (SUMMARISE)
deriving DecidableEq, Repr

/-- A hardware error report (R365, R366). -/
structure ErrRep where
  severity : Nat        -- 0 Corrected, 1 Contained, 2 Uncontained, 3 Fatal
  unitKind : Nat
  code : Nat
  paddock : Nat
  unit : Nat
  address : Nat
  object : Nat
  data : Bytes
deriving DecidableEq, Repr

/-- A vendor-defined request in an SPDM session (R283): the session and the payload, from the command byte on. -/
structure VendorReq where
  sess : Nat
  payload : Bytes
deriving DecidableEq, Repr

/-- A KEY_EXCHANGE (R282): the path (0 DOE, 1 MCTP, 2 GWT), the connection of a GWT session, whether it asks for
mutual authentication, the DER SubjectPublicKeyInfo of the requester's leaf key, and the exchange data. -/
structure KeyExchange where
  path : Nat
  qpn : Nat
  mutualAuth : Bool
  leafSpki : Bytes
  exchange : Bytes
deriving DecidableEq, Repr

/-- TDISP requests that move the TDI (R286). -/
inductive Tdisp where
  | getVersion
  | getCapabilities
  | getReport
  | getState
  | lockInterface
  | startInterface
  | stopInterface
deriving DecidableEq, Repr

/-- JTAG instructions (R288, R324). -/
inductive Jtag where
  | idcode
  | bypass
  | boundaryScan
  | internalScan (part : Nat)   -- partition, in the order of the table of R324
deriving DecidableEq, Repr

/-- PLDM requests of the board controller (R422). -/
inductive Pldm where
  | powerState
  | bootStat
  | retainedLog
  | health
  | power
deriving DecidableEq, Repr

/-- Configuration writes to F0 (R287, R376). -/
inductive CfgWrite where
  | setD0
  | lockedRegister
  | other
deriving DecidableEq, Repr

/-- The commands of the block. -/
inductive Instr where
  -- cache service
  | step (m : Msg)
  | append (m : Msg)
  | seqCreate (m : Msg)
  | seqFork (m : Msg)
  | seqTruncate (m : Msg)
  | seqRelease (m : Msg)
  | prefixLookup (m : Msg)
  | seqQuery (m : Msg)
  | prefetch (m : Msg)
  -- remote lines
  | lread (m : Msg)
  | lwrite (m : Msg)
  | lwriteFinal (m : Msg)
  | lreadResponse (m : Msg)
  | finalTakesEffect (qpn psn : Nat)
  | handover (qpn psn : Nat)
  | forceOwner (qpn psn : Nat)
  -- map epochs
  | epochStage (qpn psn : Nat)
  | epochPublish (qpn psn : Nat)
  | drainEnd
  | clearingDone
  -- mirroring
  | pairCommit (qpn psn : Nat)
  | pairCommitAck (stream seq : Nat)
  | mirrorHoldExpiry (stream : Nat)
  | deadlineReportTimer
  -- connections
  | hello (c : Connect)
  | proof (c : Connect)
  | challenge (c : Connect)
  | accept (c : Connect)
  | refuse (c : Connect)
  | connectResendTimeout (initQpn : Nat)
  | windowTakeoverAccept (window : Nat)
  | disconnect (m : Msg)
  | disconnectAcked (qpn : Nat)
  -- attestation and keys
  | spdmTunnel (m : Msg)
  | keyExchange (k : KeyExchange)
  | getMeasurements (sess index : Nat) (nonce : Bytes)
  | selectPaddock (v : VendorReq)
  | seal (v : VendorReq)
  | windowKey (v : VendorReq)
  | teardown (v : VendorReq)
  | tallyRead (v : VendorReq)
  | tdispMessage (t : Tdisp)
  -- packets
  | dataPacket (f : Frame)
  | sprayedDataPacket (f : Frame)
  | ackReceive (f : Frame)
  | nakReceive (f : Frame)
  | rnrNakReceive (f : Frame)
  | cnpReceive (f : Frame)
  | rtoExpiry (qpn : Nat)
  | ackDelayExpiry (qpn : Nat)
  | holeTimerExpiry (qpn : Nat)
  | rnrDelayExpiry (qpn : Nat)
  | qpErrorHoldExpiry (qpn : Nat)
  | qpnQuarantineExpiry (qpn : Nat)
  | contextFetchDone (qpn : Nat) (good : Bool)
  | contextWriteBackDone (qpn : Nat)
  -- links
  | pfcFrameReceive (link prio : Nat) (pause : Bool)
  | linkDown (link : Nat)
  | linkUp (link : Nat)
  | lldpduReceive (link : Nat) (chassis port : Bytes)
  | ptpMessage (offsetNs : Int) (locked : Bool)
  -- scheduling
  | egressServe (link : Nat)
  | admissionServe (slice : Nat)
  | wheelSlotStart (sched : Nat)
  | gateEntryBoundary (sched : Nat)
  | gclCycleStart (sched lateNs : Nat)
  | starveTimeExpiry (sched cls paddock : Nat)
  | frontDelayRelease (slice : Nat)
  -- the attention engine
  | outriderReadIssue (die cluster : Nat)
  | walkFillDone (die paddock seq page : Nat) (r : ReadOutcome)
  | blockReadDone (op head block : Nat) (r : ReadOutcome)
  | subtreeRootDone (op unit : Nat) (faulty : Bool)   -- faulty: its cluster computed a wrong root
  | stepEnd (op : Nat) (faulty : Bool)                -- faulty: the step combiner formed a wrong root
  | clusterFault (die cluster : Nat)
  | weightSlotLoadDone (die slot : Nat)
  -- blocks and sequences
  | blockClose (b : BlockRef) (r : ReadOutcome)
  | closeRetryTimer (b : BlockRef)
  | deferredFree (block : Nat)
  | ttlExpiry (paddock seq : Nat)
  | releaseRefZero (desc : Nat)
  | restoreComplete (x : Restored)
  | heatEpochSweep (die : Nat)
  | migrationMoveIssue (slice : Nat)
  | migrationMoveDone (move : Nat) (r : ReadOutcome)
  | resyncBlockSend (stream : Nat)
  -- tiers
  | tier2PortLost (port : Nat)
  | stackStop (stack : Nat)
  | stackTempReport (stack : Nat) (hot : Bool)
  | refreshDue (stack pc : Nat)
  | cxlEventRecord (port : Nat) (record : Bytes)
  -- leases
  | leaseRequest (r : LeaseReq)
  | leaseRoundTimer (slice : Nat)
  | leaseHandoverDone (lease : Nat)
  | leaseRefreshDue (lease pc : Nat)
  | fenceFault (lease address : Nat)
  | leaseExpiry (lease nextFrame : Nat)
  | stallProgramDone (lease : Nat) (r : ProgramResult)
  | leaseReturnDone (lease : Nat)
  -- repair, windows, accounting
  | lbistSwapTimer (die : Nat)
  | lbistDone (die cluster : Nat) (pass : Bool)
  | spareWaitExpiry (die cluster : Nat)
  | windowFree (window : Nat)
  | teardownComplete (paddock : Nat)
  | tallyOccupancyTick
  -- mailbox commands
  | nodeInfo (m : Mbx)
  | fwLoad (m : Mbx)
  | fwStart (m : Mbx)
  | rimWrite (m : Mbx)
  | rimCommit (m : Mbx)
  | rimReject (m : Mbx)
  | rimStatus (m : Mbx)
  | warmReset (m : Mbx)
  | ostlerRestart (m : Mbx)
  | portCtlDisable (m : Mbx)
  | portCtlEnable (m : Mbx)
  | sliceCtlStop (m : Mbx)
  | sliceCtlStart (m : Mbx)
  | functionShutdownComplete (kind id : Nat)
  | portEgressDiscard (link : Nat)
  | paddockCreate (m : Mbx)
  | paddockTeardown (m : Mbx)
  | paddockQuery (m : Mbx)
  | auditMode (m : Mbx)
  | windowInstall (m : Mbx)
  | windowRemove (m : Mbx)
  | regionSet (m : Mbx)
  | weightCreate (m : Mbx)
  | weightCommit (m : Mbx)
  | weightRemove (m : Mbx)
  | schedSet (m : Mbx)
  | gclSet (m : Mbx)
  | tallySnapshot (m : Mbx)
  | tallyFetch (m : Mbx)
  | logRead (m : Mbx)
  | healthRead (m : Mbx)
  | powerSet (m : Mbx)
  | notifyClear
  | errorReport (e : ErrRep)
  -- registers
  | resetCtlWarm (value : Nat)
  | dbgCtlRequest (value : Nat)
  | dbgCtlWithdraw (value : Nat)
  | debugRequestDone (zeroised : Bool)
  | tlyCtlSnap (value : Nat)
  | tallyLatch
  | registerPairLoRead (offset : Nat)
  | registerWrite (offset size value : Nat)
  -- power and start
  | vauxUp (mgmtSel : Bool) (mgmtId : Nat) (testMode : Bool)
  | powerGood (mgmtSel : Bool) (mgmtId : Nat) (testMode : Bool)
  | powerPhaseReady
  | a384PhaseDelayEnd (ivr osc logic : Bool) (sites : Nat)
  | powerPhaseTimeout
  | powerRetryTimer
  | powerGoodLoss
  | nodeRstN (lowNs : Nat)
  | perst
  | flr
  | imageSelect
  | bistStageDone (failed0 failed1 : List Nat)
  | hbmTrainingDone (stack : Nat)
  | hbmTrainingTimeout (stack : Nat)
  | linkStageTimeout
  | discoveryEnd
  | beaconSlotTimer
  | joinTimeout
  | joinReply (reply : Bytes)
  | probationTimeExpiry
  | probationServeExpiry
  | refclkLoss (ref : Nat)
  | refclkRestore (ref : Nat)
  -- power states
  | k1IdleExpiry (die cluster : Nat)
  | k2IdleExpiry (die cluster : Nat)
  | n2IdleExpiry
  | n2Wake (source port : Nat)
  | n2ExitPhaseReady
  | n2ExitTimeout
  | timebaseAlarm
  | powerAverageTick (deciWatts : Nat)
  | throttleStepTimer (die : Nat) (deciC : Int)
  | tEmergCross (die : Nat) (deciC : Int)
  | tTripCross (die : Nat) (deciC : Int)
  -- ostlers
  | watchdogExpiry (ostler : Nat)
  | protectionViolation (ostler address : Nat)
  -- Sherun monitor
  | shrHelp
  | shrVer
  | shrStage
  | shrHealth
  | shrLog (n : Option Nat)
  | shrTally (paddock : Nat)
  | shrBistStatus
  | shrBistRun (die cluster : Nat)
  | shrBaud (rate : Nat)
  | shrMr (addr : Nat) (n : Option Nat)
  | shrMw (addr value : Nat)
  | shrTraceStart
  | shrTraceStop
  | shrTraceDump
  -- the rest
  | tier2PortReturn (port capacityFrames : Nat)
  | tEmergRelease (die : Nat) (deciC : Int)
  | n2EntryComplete
  | k2EntryComplete (die cluster : Nat)
  | ostlerRestartComplete (ostler : Nat)
  | configurationWrite (w : CfgWrite)
  | ideFailure
  | pldmRequest (p : Pldm)
  | jtagInstruction (j : Jtag)
  | vauxLoss
  | ppsPulse
  | shrLongLine (line : Bytes)
deriving DecidableEq, Repr

end Sys2Proof
end

