-- ==== Sys2Proof/Config.lean ====
section
/-! DEFINITION. What an implementation fixes and the manual leaves open, or takes from another standard: constants
without a body, so that no proof can see a value of them. Every one is a free value named in the assumption log. -/

namespace Sys2Proof.Config

/-- The entry after T[63] that exp2_ref reaches for an argument just below 0 (R76, R77; log 20). -/
opaque exp2BeyondTable : F32

/-- Random bytes (`n` of them) of the draw with this number: nonces, TKEYs, PSNs, keys (log 7). -/
opaque random : (n draw : Nat) → Bytes

/-- An element of a root that a faulty cluster or step combiner delivers (R318; log 37). -/
opaque faultyValue : (draw : Nat) → F32

/-- SHA-384 (log 6). -/
opaque sha384 : Bytes → Bytes
/-- HMAC-SHA-256 of a message under a key (log 6). -/
opaque hmacSha256 : (key message : Bytes) → Bytes
/-- HKDF-SHA-256 and HKDF-SHA-384: input key material, salt, info (log 6). -/
opaque hkdfSha256 : (ikm salt info : Bytes) → Bytes
opaque hkdfSha384 : (ikm salt info : Bytes) → Bytes
/-- The GCM tag and ciphertext of AES-256-GCM: key, IV, authenticated data, plaintext (log 6). -/
opaque gcmTag : (key iv aad plain : Bytes) → Bytes
opaque gcmCipher : (key iv text : Bytes) → Bytes
/-- Whether an ECDSA P-384 signature over a message verifies under a public key (log 6). -/
opaque ecdsaOk : (key message signature : Bytes) → Bool
/-- An ECDSA P-384 signature of the device identity, and its public key (log 6). -/
opaque ecdsaSign : (key message : Bytes) → Bytes
opaque publicKey : Bytes → Bytes
/-- The ECDH secret of the node's ephemeral key of a draw and a peer's public key (log 6). -/
opaque ecdh : (draw : Nat) → Bytes → Bytes
/-- The Export Master Secret of an SPDM key exchange (log 6). -/
opaque exportSecret : (draw : Nat) → Bytes → Bytes
/-- The boot ROM, which measurement index 1 covers (R284; log 10). -/
opaque bootRom : Bytes
/-- The session keys of an SPDM key exchange, a secured message under them, and the value type of a measurement block
(R274, R280, R284; logs 6, 134). -/
opaque sessionKeys : (draw : Nat) → Bytes → Bytes
opaque securedMessage : (keys : Bytes) → (draw : Nat) → Bytes → Bytes
opaque measurementType : (index : Nat) → Nat
/-- A TDISP device interface report over its MMIO ranges (base, bytes), saying whether the function issues DMA beyond MSI-X
writes (R286; log 6). -/
opaque deviceReport : (draw : Nat) → (ranges : List (Nat × Nat)) → (dma : Bool) → Bytes
/-- Answers of the SPDM, TDISP, IDE_KM and PLDM protocols whose bytes their own standards fix (log 6). -/
opaque spdmAnswer : (path session draw : Nat) → Bytes → Bytes
opaque tdispAnswer : (state request draw : Nat) → Bytes
opaque pldmFrame : (i3c : Bool) → (address request : Nat) → Bytes → Bytes

/-- Which of the legal places an allocation takes (R94; log 8). -/
opaque placement : (draw choices : Nat) → Nat
/-- Which Ledger row, window index, descriptor page or region index is taken among the free ones (log 8). -/
opaque rowChoice : (draw choices : Nat) → Nat

/-- The key of the open paddocks' pair window between two nodes (R302; log 41). -/
opaque pairKey : (node partner : Nat) → Bytes
/-- The key of the loader window of a weight set (R363; log 41). -/
opaque loaderKey : (setId : Nat) → Bytes
/-- RESULT of an EPOCH_PUBLISH that names no staged and no current epoch, and of a FORCE_OWNER that names a region that is
not active (R231, R244; log 39). -/
opaque publishResult : (draw : Nat) → Nat

/-- The settings of an image section as the image's bytes give them: section type, section bytes, word (log 10). -/
opaque sectionWord : (type : Nat) → (section_ : Bytes) → (word : Nat) → Nat
/-- Whether an image passes check 0x08 and, for a bundle, the component table of check 0x09 (log 10). -/
opaque rangesHold : Bytes → Bool
opaque bundleMatches : (image bundle : Bytes) → Bool
/-- REASON of an image on probation that failed by a cause without a code: a Fatal error, PROBATION_SERVE, ostler
restarts, RIM_REJECT (R335; log 47). -/
opaque probationReason : (cause : Nat) → Nat
/-- STATUS (1–14) and DETAIL of an FW_START that failed with this FW_CAUSE (R352; log 48). -/
opaque fwRefusal : (cause : Nat) → Nat × Nat
/-- The fused secret of the device identity (R274; log 6). -/
opaque deviceSecret : Bytes
/-- Capacity in frames, and poison list, of the device on a Tier-2 port at enumeration (R157, R158; log 28). -/
opaque cxlFrames : (port : Nat) → Nat
opaque cxlPoison : (port : Nat) → List Nat
/-- The MAC address to which a link sends a frame for an IP address, the IP address of a node, and the fields of an IP
header that R182 leaves open: hop limit (TTL), flow label, identification; the UDP source port of CONNECT packets (log
116). -/
opaque nextHop : (link : Nat) → (address : Bytes) → Bytes
opaque nodeAddress : (node : Nat) → Bytes
opaque hopLimit : Nat
opaque flowLabel : (port : Nat) → Nat
opaque ipIdent : Nat
opaque connectPort : Nat
/-- AES-256 key wrap (R212; log 6). -/
opaque keyWrap : (key plain : Bytes) → Bytes
/-- Whether post-package repair returns a retired frame of a stack to service (R320; log 128). -/
opaque rowRepaired : (stack frame : Nat) → Bool
/-- Whether the certificate chain of an image or a bundle leads to the fused root (log 6). -/
opaque chainOk : (root certificate : Bytes) → Bool

/-- Internal registers that only firmware and lowest-level debug reach (R144, R369): a word by address (log 26). -/
opaque internalRegister : (address draw : Nat) → Nat
/-- The check byte of an 8-byte word under the (72, 64) SECDED code, whose matrix R149 does not give (log 26). -/
opaque secded : Bytes → Nat
/-- The bytes of a data-path trace (R288; log 26). -/
opaque traceData : (draw : Nat) → Bytes
/-- Text of Sherun answers whose wording the manual does not give (R369; log 27). -/
opaque sherunText : (command : Nat) → (values : List Nat) → Bytes
/-- What ends a line of a Sherun answer, the status of a command that the boot ROM does not serve, and the words that
`mr` reads when n is left out (R369; log 27). -/
opaque sherunEol : Bytes
opaque sherunRefusal : Nat
opaque sherunWords : Nat
/-- CODE of a log record whose cause has no named code (R366; log 46). -/
opaque errorCode : (cause : Nat) → Nat
/-- DATA of a log record, which is cause-specific (R366; log 46). -/
opaque errorData : (code draw : Nat) → Bytes
/-- Whether a CXL event record is a fatal device event (R157, R160; log 28). -/
opaque cxlFatal : Bytes → Bool
/-- Text of the General Media and DRAM event records read from a CXL device: severity and frame (R157; log 28). -/
opaque cxlSeverity : Bytes → Nat
opaque cxlFrame : Bytes → Nat

/-- A stall program of the running bundle: the ABI that it declares ([15:8] major, [7:0] minor) and its entry point in the
instruction SRAM (R176, R177; log 112). -/
opaque programAbi : (bundle : Bytes) → (program : Nat) → Nat
opaque programEntry : (bundle : Bytes) → (program : Nat) → Nat
/-- The instructions of a stall program, as O3 loads them (R177; log 112). -/
opaque programText : (bundle : Bytes) → (program : Nat) → Bytes
/-- What a lease's program leaves in its core's registers, and in data SRAM beyond the call block and its results (R163; log
112). -/
opaque coreRegister : (lease register : Nat) → Nat
opaque coreData : (lease : Nat) → Bytes
/-- Whether a program that expired had reached an object of the frames that it completed: moved it (COMPACT), or, in a sealed
paddock, listed it as failed (SCRUB) (R178; log 113). -/
opaque expiredResult : (lease index : Nat) → Bool
/-- Core cycles that a program had used when the base die halted it (R177, R178; log 112). -/
opaque stallCycles : (draw : Nat) → Nat

end Sys2Proof.Config
end

