-- ==== Sys2Proof/Machine/Bits.lean ====
section
/-! DEFINITION. Byte order (R6), bit fields (R5), the two CRCs (R85, R105) and the plain list operations
that every other file of the machine uses. -/

namespace Sys2Proof.Machine

/-! ### Bytes and numbers -/

/-- The number that `bs` spells in network byte order (R6). -/
def beNat (bs : Bytes) : Nat := bs.foldl (fun a b => a * 256 + b.toNat) 0

/-- The number that `bs` spells little-endian (R6). -/
def leNat : Bytes → Nat
  | [] => 0
  | b :: bs => b.toNat + 256 * leNat bs

/-- `n` as `k` bytes, little-endian. -/
def toLe : Nat → Nat → Bytes
  | 0, _ => []
  | k + 1, n => BitVec.ofNat 8 n :: toLe k (n / 256)

/-- `n` as `k` bytes in network byte order. -/
def toBe (k n : Nat) : Bytes := (toLe k n).reverse

/-- `len` bytes of `bs` from offset `off`; a missing byte reads 0. -/
def sub (bs : Bytes) (off len : Nat) : Bytes :=
  let t := (bs.drop off).take len
  t ++ List.replicate (len - t.length) 0

/-- The big-endian field of `len` bytes at `off`. -/
def be (bs : Bytes) (off len : Nat) : Nat := beNat (sub bs off len)

/-- The little-endian field of `len` bytes at `off`. -/
def le (bs : Bytes) (off len : Nat) : Nat := leNat (sub bs off len)

/-- Bits `[hi:lo]` of `n` (R5). -/
def bits (n hi lo : Nat) : Nat := (n / 2 ^ lo) % 2 ^ (hi + 1 - lo)

/-- Bit `k` of `n`. -/
def bit (n k : Nat) : Bool := (n / 2 ^ k) % 2 == 1

/-- A flag as a one-bit number. -/
def flag (b : Bool) : Nat := if b then 1 else 0

/-- `n` zero bytes: a reserved field of a message (R7). -/
def zeros (n : Nat) : Bytes := List.replicate n 0

/-- Division rounded up. -/
def ceilDiv (a b : Nat) : Nat := (a + b - 1) / b

/-- The ASCII bytes of a string. -/
def ascii (s : String) : Bytes := s.toList.map fun c => BitVec.ofNat 8 c.toNat

/-- `a` limited to the largest value of `w` bits ("saturating"). -/
def saturate (w a : Nat) : Nat := min a (2 ^ w - 1)

/-! ### CRCs -/

/-- One bit of the reflected CRC-32C. -/
def crc32cBit (c : Nat) : Nat := if c % 2 == 1 then Nat.xor (c / 2) 0x82F63B78 else c / 2

/-- One byte of the reflected CRC-32C. -/
def crc32cByte (c : Nat) (b : Byte) : Nat :=
  crc32cBit <| crc32cBit <| crc32cBit <| crc32cBit <|
  crc32cBit <| crc32cBit <| crc32cBit <| crc32cBit (Nat.xor c b.toNat)

/-- CRC-32C of R105: polynomial 0x1EDC_6F41, reflected, initial value and final XOR 0xFFFF_FFFF. -/
def crc32c (bs : Bytes) : U32 := BitVec.ofNat 32 (Nat.xor (bs.foldl crc32cByte 0xFFFFFFFF) 0xFFFFFFFF)

/-- One bit of the CRC-64 of R85 (not reflected). -/
def crc64Bit (c : Nat) : Nat :=
  let d := (c * 2) % 2 ^ 64
  if c / 2 ^ 63 % 2 == 1 then Nat.xor d 0x42F0E1EBA9EA3693 else d

/-- One byte of the CRC-64, bit 7 first. -/
def crc64Byte (c : Nat) (b : Byte) : Nat :=
  crc64Bit <| crc64Bit <| crc64Bit <| crc64Bit <|
  crc64Bit <| crc64Bit <| crc64Bit <| crc64Bit (Nat.xor c (b.toNat * 2 ^ 56))

/-- The witness CRC of R85: polynomial 0x42F0_E1EB_A9EA_3693, initial value 0, no final XOR. -/
def crc64 (bs : Bytes) : U64 := BitVec.ofNat 64 (bs.foldl crc64Byte 0)

/-! ### Lists of records by key -/

/-- The first element that `p` selects, replaced by its image under `f`. -/
def updateFirst {α : Type} (p : α → Bool) (f : α → α) : List α → List α
  | [] => []
  | x :: xs => if p x then f x :: xs else x :: updateFirst p f xs

/-- Every element that `p` selects, replaced by its image. -/
def updateAll {α : Type} (p : α → Bool) (f : α → α) (xs : List α) : List α :=
  xs.map fun x => if p x then f x else x

/-- Element `i` replaced by its image; a list too short is left alone. -/
def updateAt {α : Type} : Nat → (α → α) → List α → List α
  | _, _, [] => []
  | 0, f, x :: xs => f x :: xs
  | i + 1, f, x :: xs => x :: updateAt i f xs

/-- Cut into pieces of `n` elements, `fuel` at most. -/
def chunksFuel {α : Type} (n : Nat) : Nat → List α → List (List α)
  | 0, _ => []
  | _, [] => []
  | k + 1, xs => xs.take n :: chunksFuel n k (xs.drop n)

/-- Cut into pieces of `n` elements, the last one possibly shorter. -/
def chunks {α : Type} (n : Nat) (xs : List α) : List (List α) := chunksFuel n (xs.length) xs

/-- A number put into an ascending list. -/
def insertNat (x : Nat) : List Nat → List Nat
  | [] => [x]
  | y :: ys => if x ≤ y then x :: y :: ys else y :: insertNat x ys

/-- Numbers in ascending order. -/
def sortNat (xs : List Nat) : List Nat := xs.foldr insertNat []

/-- Sum of a list of numbers. -/
def sumNat (xs : List Nat) : Nat := xs.foldl (· + ·) 0

/-- The least element by a key, the earliest among equals. -/
def minBy {α : Type} (key : α → Nat) : List α → Option α
  | [] => none
  | x :: xs =>
    match minBy key xs with
    | none => some x
    | some y => if key y < key x then some y else some x

/-- The greatest element by a key, the earliest among equals. -/
def maxBy {α : Type} (key : α → Nat) : List α → Option α
  | [] => none
  | x :: xs =>
    match maxBy key xs with
    | none => some x
    | some y => if key x < key y then some y else some x

end Sys2Proof.Machine
end

