-- ==== Sys2Proof/Machine/MapTypes.lean ====
section
/-! DEFINITION. Windows (R225), regions (R229), Ledger entries (R234–R236), map slots and epochs (R240–R245), the
pair stream (R302–R309, R427) and the fault status line (R317). -/

namespace Sys2Proof.Machine

/-- W_STATE of R225. -/
inductive WindowState where
  | free | active | closing
deriving DecidableEq, Repr

/-- What a window serves besides plain RLA. -/
inductive WindowUse where
  | plain
  | fabricManager          -- lines 0 and 1 are the map status and fault status lines (R243, R317)
  | pair                   -- R302
  | loader (setId : Nat)   -- R363
deriving DecidableEq, Repr

/-- A window table entry (R225) and the last control record written through it (R231). -/
structure Window where
  index : Nat
  srcNode : Nat
  srcPaddock : Nat
  localPaddock : Nat
  read : Bool
  write : Bool
  notice : Bool
  state : WindowState
  gen : Nat
  base : Nat
  length : Nat
  key : Bytes              -- empty: no key yet (R278)
  use : WindowUse
  control : Bytes          -- last control record with RESULT in byte 20; empty when none
  appliedSeq : Nat         -- pair windows: status line (R303)
  refusedSeq : Nat
  refusedPaddock : Nat
  refuseReason : Nat
  refusedSequence : Nat
  parts : List Bytes       -- records of CONTINUED commits held out of reach (R427)
  takeover : Option Nat    -- connection that waits for the old one's placed writes (R227)
deriving DecidableEq, Repr

/-- A region table entry (R229). -/
structure Region where
  index : Nat
  base : Nat
  sizeLog2 : Nat
  active : Bool
  ownerNode : Nat
  ownerPaddock : Nat
  gen : Nat
deriving DecidableEq, Repr

/-- A Ledger entry (R234, R236): 128-bit key, 128-bit mask of compared bits, 64-bit result, map slot membership. -/
structure LedgerEntry where
  row : Nat
  key : Nat
  mask : Nat
  result : Nat
  members : List Nat       -- map slots (R240); empty for kinds 1 and 2
  own : Bool               -- inserted by the node for a create or a fork (R242)
  partition : Nat          -- slice + 1, or 0 for paddock 0 (R239)
deriving DecidableEq, Repr

/-- The pre-filter of a group of 512 rows (R237): its 16-bit tag and mask, compared with key bits [127:116] and
[111:108]. -/
structure LedgerGroup where
  index : Nat
  tag : Nat
  mask : Nat
deriving DecidableEq, Repr

/-- Roles of a map slot (R240). -/
inductive SlotRole where
  | current | previous | staging | clearing | idle
deriving DecidableEq, Repr

/-- Map epochs (R240–R245). -/
structure Epochs where
  current : Nat
  previous : Nat
  staged : Nat                       -- 0 when nothing is staged
  stageResult : Nat                  -- STAGE_RESULT of the map status line
  roles : List SlotRole              -- of slots 0–3
  drainEnd : Option Nat
  drainWaits : Bool                  -- the drain has ended and waits for an earlier clearing (R245)
  heldPublish : Option Nat
  staging : Option (Nat × Nat × Bytes)   -- EPOCH_STAGE in progress: epoch, bytes asked for, area read so far
  headerRead : Bool                  -- an LREAD of the publication header is outstanding (R244)
  firstPublish : Option Nat          -- time of the first published epoch (R316)
deriving DecidableEq, Repr

/-- One commit written to a partner's ring and not yet acknowledged (R303, R306). -/
structure Commit where
  seq : Nat
  ringStart : Nat
  ringEnd : Nat
  continued : Bool
  records : List Bytes               -- the records' bytes in whole lines
  op : Nat                           -- the operation, 0 for records of no operation
deriving DecidableEq, Repr

/-- Records of one operation that wait for the ring (R306) or for a connection. -/
structure WaitingRecords where
  op : Nat
  records : List Bytes
deriving DecidableEq, Repr

/-- A pair stream of this node as sender (R302–R309). -/
structure Stream where
  id : Nat
  partner : Nat
  paddock : Nat                      -- 0 for the open paddocks' window
  key : Bytes
  qpn : Option Nat
  windowLength : Nat                 -- WINDOW_LENGTH as read; 0 before the status line was read
  nextSeq : Nat
  ringHead : Nat
  unacked : List Commit
  waiting : List WaitingRecords
  holdUntil : Option Nat             -- MIRROR_HOLD runs (R309)
  givenUp : List (Nat × Nat)         -- (paddock, sequence) refused until a later epoch (R309)
  noMirrorSince : Nat                -- epoch current when the partner was given up
  resync : List BlockRef             -- closed blocks still to send (R313 step 3)
  resyncing : List (Nat × Nat)       -- sequences whose step 1 is not acknowledged yet
  sending : List (Nat × Nat)         -- sequences with BLOCK records of a resync on their way, not acknowledged yet
deriving DecidableEq, Repr

/-- The fault status line (R317). -/
structure FaultLine where
  seq : Nat
  lostPartner : Nat
  health : Nat
  stoppedSlices : List Nat
  shadowMismatches : Nat
  doubleLost : Nat
  retiredClusters : Nat
deriving DecidableEq, Repr

/-- The I/O die's tables and the pair streams. -/
structure Maps where
  windows : List Window
  regions : List Region
  ledger : List LedgerEntry
  groups : List LedgerGroup            -- groups that hold entries
  epochs : Epochs
  streams : List Stream
  nextStream : Nat
  deadlines : List (Nat × Nat × Nat)   -- deadlines a mirror has formed: paddock, sequence, ns (R308)
  fault : FaultLine
deriving DecidableEq, Repr

end Sys2Proof.Machine
end

