-- ==== Sys2Proof/Machine/Float.lean ====
section
/-! DEFINITION. The FP32 and BF16 arithmetic of R68, and the two reference functions exp2_ref (R76, R77)
and tanh_ref (R75). Every operation converts to exact integers, computes exactly and rounds once. -/

namespace Sys2Proof.Machine

/-- A value as R68 sees it: a NaN, an infinity, or sign and magnitude `mant × 2^exp`. -/
inductive Num where
  | nan
  | inf (neg : Bool)
  | fin (neg : Bool) (mant : Nat) (exp : Int)
deriving DecidableEq, Repr

/-- The canonical NaN of R68. -/
def nan32 : F32 := 0x7FC00000
/-- +infinity. -/
def pinf32 : F32 := 0x7F800000
/-- -infinity, the m of the identity partial (R45). -/
def ninf32 : F32 := 0xFF800000
/-- 1.0. -/
def one32 : F32 := 0x3F800000
/-- +0.0. -/
def zero32 : F32 := 0

/-- Read an FP32 encoding. A subnormal input becomes zero with its sign kept (R68). -/
def num32 (x : F32) : Num :=
  let n := x.toNat
  let neg := bit n 31
  let e := bits n 30 23
  let f := bits n 22 0
  if e == 255 then (if f == 0 then .inf neg else .nan)
  else if e == 0 then .fin neg 0 0
  else .fin neg (2 ^ 23 + f) ((e : Int) - 150)

/-- A magnitude rounded to `prec` significant bits, to nearest, ties to even, the exponent unbounded (R68). -/
def roundMag (prec m : Nat) (e : Int) : Nat × Int :=
  let n := Nat.log2 m + 1
  if n ≤ prec then (m, e)
  else
    let s := n - prec
    let q := m / 2 ^ s
    let r := m % 2 ^ s
    let half := 2 ^ (s - 1)
    let up := r > half || (r == half && q % 2 == 1)
    ((if up then q + 1 else q), e + (s : Int))

/-- Encode a rounded magnitude of at most 24 bits: below 2^−126 it becomes zero with its sign kept,
beyond the FP32 range an infinity (R68). -/
def pack32 (neg : Bool) (m : Nat) (e : Int) : F32 :=
  let s := if neg then 2 ^ 31 else 0
  if m == 0 then BitVec.ofNat 32 s
  else
    let l := Nat.log2 m
    let x : Int := e + (l : Int)
    if x < -126 then BitVec.ofNat 32 s
    else if x > 127 then BitVec.ofNat 32 (s + 255 * 2 ^ 23)
    else
      let f := if l ≤ 23 then m * 2 ^ (23 - l) else m / 2 ^ (l - 23)
      BitVec.ofNat 32 (s + (x + 127).toNat * 2 ^ 23 + (f - 2 ^ 23))

/-- Round an exact value to FP32 (R68). -/
def round32 (neg : Bool) (m : Nat) (e : Int) : F32 :=
  let r := roundMag 24 m e
  pack32 neg r.1 r.2

/-- The exact signed integer of a finite value over the common exponent `e`. -/
def scaled (neg : Bool) (m : Nat) (x e : Int) : Int :=
  let v : Int := (m : Int) * 2 ^ (x - e).toNat
  if neg then -v else v

/-- FP32 addition (R68). -/
def fadd (a b : F32) : F32 :=
  match num32 a, num32 b with
  | .nan, _ => nan32
  | _, .nan => nan32
  | .inf s, .inf t => if s == t then (if s then ninf32 else pinf32) else nan32
  | .inf s, _ => if s then ninf32 else pinf32
  | _, .inf t => if t then ninf32 else pinf32
  | .fin s 0 _, .fin t 0 _ => pack32 (s && t) 0 0
  | .fin _ 0 _, .fin t m x => pack32 t m x
  | .fin s m x, .fin _ 0 _ => pack32 s m x
  | .fin s m x, .fin t n y =>
    let e := min x y
    let v := scaled s m x e + scaled t n y e
    round32 (v < 0) v.natAbs e

/-- Change of sign; a NaN stays the canonical NaN. -/
def fneg (a : F32) : F32 :=
  match num32 a with
  | .nan => nan32
  | _ => a ^^^ 0x80000000

/-- FP32 subtraction. -/
def fsub (a b : F32) : F32 := fadd a (fneg b)

/-- FP32 multiplication (R68). -/
def fmul (a b : F32) : F32 :=
  match num32 a, num32 b with
  | .nan, _ => nan32
  | _, .nan => nan32
  | .inf s, .inf t => if s == t then pinf32 else ninf32
  | .inf s, .fin t n _ => if n == 0 then nan32 else if s == t then pinf32 else ninf32
  | .fin s m _, .inf t => if m == 0 then nan32 else if s == t then pinf32 else ninf32
  | .fin s m x, .fin t n y => round32 (s != t) (m * n) (x + y)

/-- FP32 division (R68). The quotient carries 30 bits and a sticky bit, so one rounding is exact. -/
def fdiv (a b : F32) : F32 :=
  match num32 a, num32 b with
  | .nan, _ => nan32
  | _, .nan => nan32
  | .inf _, .inf _ => nan32
  | .inf s, .fin t _ _ => if s == t then pinf32 else ninf32
  | .fin s _ _, .inf t => pack32 (s != t) 0 0
  | .fin s m x, .fin t n y =>
    if n == 0 then (if m == 0 then nan32 else if s == t then pinf32 else ninf32)
    else
      let q := m * 2 ^ 30 / n
      let r := m * 2 ^ 30 % n
      round32 (s != t) (2 * q + (if r == 0 then 0 else 1)) (x - y - 31)

/-- `a < b`, false when either is a NaN. -/
def flt (a b : F32) : Bool :=
  match num32 a, num32 b with
  | .nan, _ => false
  | _, .nan => false
  | .inf s, .inf t => s && !t
  | .inf s, _ => s
  | _, .inf t => !t
  | .fin s m x, .fin t n y =>
    let e := min x y
    scaled s m x e < scaled t n y e

/-- Whether an encoding is a NaN. -/
def isNan (a : F32) : Bool :=
  match num32 a with
  | .nan => true
  | _ => false

/-- max of R68: the later operand only when it is greater, so the earlier of equals wins. -/
def fmax (a b : F32) : F32 := if flt a b then b else a

/-- |a|; a NaN stays the canonical NaN. -/
def fabs (a : F32) : F32 :=
  match num32 a with
  | .nan => nan32
  | _ => a &&& 0x7FFFFFFF

/-- Replacement of an infinite score by the largest finite value of its sign (R69). -/
def clampInf (t : F32) : F32 :=
  match num32 t with
  | .inf true => 0xFF7FFFFF
  | .inf false => 0x7F7FFFFF
  | _ => t

/-- to_bf16 of R68: to nearest, ties to even, with the flush; a NaN gives 0x7FC0. -/
def toBf16 (x : F32) : BF16 :=
  match num32 x with
  | .nan => 0x7FC0
  | .inf s => if s then 0xFF80 else 0x7F80
  | .fin s m e =>
    let r := roundMag 8 m e
    (pack32 s r.1 r.2 >>> 16).setWidth 16

/-- A BF16 input as FP32; a subnormal becomes zero with its sign kept (R68). -/
def ofBf16 (x : BF16) : F32 :=
  match num32 (x.setWidth 32 <<< 16) with
  | .nan => nan32
  | .inf s => if s then ninf32 else pinf32
  | .fin s m e => pack32 s m e

/-- Whether a BF16 element is a NaN or an infinity, which a request may not carry (R69). -/
def bf16Special (x : BF16) : Bool := bits x.toNat 14 7 == 255

/-- BF16 input after the flush rule of R68, as code 0 stores it (R71). -/
def bf16Flush (x : BF16) : BF16 := (ofBf16 x >>> 16).setWidth 16

/-! ### exp2_ref and tanh_ref -/

/-- T[j] of R77: the FP32 value nearest to 2^(j/64). -/
def exp2Table : List F32 :=
  [0x3F800000, 0x3F8164D2, 0x3F82CD87, 0x3F843A29, 0x3F85AAC3, 0x3F871F62, 0x3F88980F, 0x3F8A14D5,
   0x3F8B95C2, 0x3F8D1ADF, 0x3F8EA43A, 0x3F9031DC, 0x3F91C3D3, 0x3F935A2B, 0x3F94F4F0, 0x3F96942D,
   0x3F9837F0, 0x3F99E046, 0x3F9B8D3A, 0x3F9D3EDA, 0x3F9EF532, 0x3FA0B051, 0x3FA27043, 0x3FA43516,
   0x3FA5FED7, 0x3FA7CD94, 0x3FA9A15B, 0x3FAB7A3A, 0x3FAD583F, 0x3FAF3B79, 0x3FB123F6, 0x3FB311C4,
   0x3FB504F3, 0x3FB6FD92, 0x3FB8FBAF, 0x3FBAFF5B, 0x3FBD08A4, 0x3FBF179A, 0x3FC12C4D, 0x3FC346CD,
   0x3FC5672A, 0x3FC78D75, 0x3FC9B9BE, 0x3FCBEC15, 0x3FCE248C, 0x3FD06334, 0x3FD2A81E, 0x3FD4F35B,
   0x3FD744FD, 0x3FD99D16, 0x3FDBFBB8, 0x3FDE60F5, 0x3FE0CCDF, 0x3FE33F89, 0x3FE5B907, 0x3FE8396A,
   0x3FEAC0C7, 0x3FED4F30, 0x3FEFE4BA, 0x3FF28177, 0x3FF5257D, 0x3FF7D0DF, 0x3FFA83B3, 0x3FFD3E0C]

/-- The entry that exp2_ref reads. Entry 64, which the table of R77 does not hold, is a free value: an
argument just below 0 reaches it, because R68 rounds x − floor(x) to 1.0 there (log 20). -/
def exp2Entry (j : Nat) : F32 := if j < 64 then exp2Table.getD j one32 else Config.exp2BeyondTable

/-- floor of a finite value. -/
def floorNum (neg : Bool) (m : Nat) (e : Int) : Int :=
  let v : Int := if neg then -(m : Int) else (m : Int)
  if e ≥ 0 then v * 2 ^ e.toNat else v / (2 ^ (-e).toNat : Int)

/-- floor of a value that is finite and not negative. -/
def floorNat (x : F32) : Nat :=
  match num32 x with
  | .fin s m e => (floorNum s m e).toNat
  | _ => 0

/-- An integer as FP32, rounded by R68. -/
def ofInt32 (n : Int) : F32 := round32 (n < 0) n.natAbs 0

/-- ldexp of R76: insertion of the exponent. -/
def ldexp (m : F32) (n : Int) : F32 :=
  match num32 m with
  | .fin s k e => pack32 s k (e + n)
  | .nan => nan32
  | .inf s => if s then ninf32 else pinf32

/-- exp2_ref of R76. -/
def exp2Ref (x : F32) : F32 :=
  match num32 x with
  | .nan => nan32
  | .inf s => if s then zero32 else pinf32
  | .fin s m e =>
    if !flt x 0x43000000 then pinf32
    else if flt x 0xC2FC0000 then zero32
    else
      let n := floorNum s m e
      let f := fsub x (ofInt32 n)
      let j := floorNat (fmul f 0x42800000)
      let r := fsub f (fdiv (ofInt32 (j : Int)) 0x42800000)
      let p := fmul 0x3E75FDF0 r
      let p := fadd p 0x3F317218
      let p := fmul p r
      let p := fadd p one32
      ldexp (fmul (exp2Entry j) p) n

/-- tanh_ref of R75. -/
def tanhRef (y : F32) : F32 :=
  if isNan y then nan32
  else
    let a := fabs y
    let h :=
      if !flt a 0x41100000 then one32
      else if flt a 0x39800000 then a
      else
        let v := exp2Ref (fmul a 0x4038AA3B)
        fsub one32 (fdiv 0x40000000 (fadd v one32))
    if flt y zero32 then fneg h else h

end Sys2Proof.Machine
end

