-- ==== Sys2Proof/Machine/Formats.lean ====
section
/-! DEFINITION. Element formats (R70), the quantiser (R71), expansion (R72), the raw block layout (R96),
the Compressed Block Format (R102–R104) and block summaries (R43). -/

namespace Sys2Proof.Machine

/-- The KV formats of R70. -/
inductive Fmt where
  | bf16 | fp8 | mxfp8 | mxfp6 | mxfp4
deriving DecidableEq, Repr

/-- Format codes 0, 2, 3, 4 and 5; every other code is reserved (R52, R70). -/
def Fmt.ofCode : Nat → Option Fmt
  | 0 => some .bf16
  | 2 => some .fp8
  | 3 => some .mxfp8
  | 4 => some .mxfp6
  | 5 => some .mxfp4
  | _ => none

/-- Element width in bits (R70). -/
def Fmt.width : Fmt → Nat
  | .bf16 => 16
  | .fp8 => 8
  | .mxfp8 => 8
  | .mxfp6 => 6
  | .mxfp4 => 4

/-- Exponent bias (R70). -/
def Fmt.bias : Fmt → Int
  | .bf16 => 127
  | .fp8 => 7
  | .mxfp8 => 7
  | .mxfp6 => 1
  | .mxfp4 => 1

/-- Mantissa bits. -/
def Fmt.mbits : Fmt → Nat
  | .bf16 => 7
  | .fp8 => 3
  | .mxfp8 => 3
  | .mxfp6 => 3
  | .mxfp4 => 1

/-- emax of R70. -/
def Fmt.emax : Fmt → Int
  | .bf16 => 127
  | .fp8 => 8
  | .mxfp8 => 8
  | .mxfp6 => 2
  | .mxfp4 => 2

/-- The code of the largest finite magnitude (R70). -/
def Fmt.maxCode : Fmt → Nat
  | .bf16 => 0x7F7F
  | .fp8 => 0x7E
  | .mxfp8 => 0x7E
  | .mxfp6 => 0x1F
  | .mxfp4 => 0x7

/-- Bytes of scales that a vector of `d` channels carries (R96). -/
def Fmt.scaleBytes (f : Fmt) (d : Nat) : Nat :=
  match f with
  | .bf16 => 0
  | .fp8 => 4
  | _ => d / 32

/-- Bytes of codes of a vector of `d` channels (R96). -/
def Fmt.codeBytes (f : Fmt) (d : Nat) : Nat := d * f.width / 8

/-- Bytes of the record of a vector of `d` channels (R96). -/
def Fmt.recBytes (f : Fmt) (d : Nat) : Nat := f.codeBytes d + f.scaleBytes d

/-- Channels that one scale covers (R70); a format without scales has one group per vector. -/
def Fmt.group (f : Fmt) (d : Nat) : Nat :=
  match f with
  | .bf16 => d
  | .fp8 => d
  | _ => 32

/-- A quantised vector: the codes and the scale codes (E8M0 bytes, or one FP32 encoding, or none). -/
structure QVec where
  codes : List Nat
  scales : List Nat
deriving DecidableEq, Repr

/-! ### Quantisation (R71) -/

/-- floor(log2) of a magnitude that is not zero. -/
def exponentOf (m : Nat) (e : Int) : Int := e + (Nat.log2 m : Int)

/-- Nearest integer to `m × 2^e`, ties to even. -/
def rneInt (m : Nat) (e : Int) : Nat :=
  if e ≥ 0 then m * 2 ^ e.toNat
  else
    let d := 2 ^ (-e).toNat
    let q := m / d
    let r := m % d
    if 2 * r > d || (2 * r == d && q % 2 == 1) then q + 1 else q

/-- encode_rne_sat of R71 for a magnitude `m × 2^e`: nearest element, ties to the even code, saturating. -/
def encodeMag (f : Fmt) (m : Nat) (e : Int) : Nat :=
  if m == 0 then 0
  else
    let l := exponentOf m e
    let lo : Int := 1 - f.bias
    let c :=
      if l < lo then rneInt m (e - (lo - (f.mbits : Int)))
      else
        let q := rneInt m (e - (l - (f.mbits : Int)))
        ((l + f.bias).toNat * 2 ^ f.mbits) + q - 2 ^ f.mbits
    min c f.maxCode

/-- encode_rne_sat with sign; every zero element is stored with sign 0 (R71). -/
def encodeElem (f : Fmt) (neg : Bool) (m : Nat) (e : Int) : Nat :=
  let c := encodeMag f m e
  if c == 0 then 0 else if neg then c + 2 ^ (f.width - 1) else c

/-- The largest |x| of a group (R71). -/
def amax (xs : List F32) : F32 := xs.foldl (fun a x => fmax a (fabs x)) zero32

/-- The scale exponent of a group (R71). -/
def scaleExp (f : Fmt) (xs : List F32) : Int :=
  let xmin : Int := if f = .fp8 then -126 else -127
  match num32 (amax xs) with
  | .fin _ m e => if m == 0 then xmin else max xmin (min 127 (exponentOf m e - f.emax))
  | _ => 127

/-- One group of R71: the codes and the scale. -/
def quantiseGroup (f : Fmt) (xs : List F32) : List Nat × Nat :=
  let e := scaleExp f xs
  let codes := xs.map fun x =>
    match num32 x with
    | .fin s m k => encodeElem f s m (k - e)
    | _ => 0
  (codes, if f = .fp8 then (pack32 false 1 e).toNat else (e + 127).toNat)

/-- The quantiser of R71 on one vector; code 0 stores each input after the flush rule. -/
def quantise (f : Fmt) (xs : List BF16) : QVec :=
  match f with
  | .bf16 => ⟨xs.map fun x => (bf16Flush x).toNat, []⟩
  | _ =>
    let gs := (chunks (f.group xs.length) xs).map fun g => quantiseGroup f (g.map ofBf16)
    ⟨(gs.map (·.1)).flatten, gs.map (·.2)⟩

/-! ### Expansion (R72) -/

/-- The exact magnitude of an element code without its sign bit (R70). -/
def elemMag (f : Fmt) (c : Nat) : Nat × Int :=
  let e := c / 2 ^ f.mbits
  let m := c % 2 ^ f.mbits
  if e == 0 then (m, 1 - f.bias - (f.mbits : Int))
  else (2 ^ f.mbits + m, (e : Int) - f.bias - (f.mbits : Int))

/-- The NaN encodings of R70: S.1111.111 of E4M3, and code 0xFF of E8M0. -/
def nanCode (f : Fmt) (scale code : Nat) : Bool :=
  match f with
  | .bf16 => false
  | .fp8 => code % 128 == 127
  | .mxfp8 => code % 128 == 127 || scale == 255
  | .mxfp6 => scale == 255
  | .mxfp4 => scale == 255

/-- An element times its scale, as FP32 under R68 (R72). The scale of code 2 is the FP32 number itself, whatever its
value; an E8M0 code k stands for 2^(k − 127). A NaN encoding expands to the canonical NaN (R68, R70). -/
def expandElem (f : Fmt) (scale code : Nat) : F32 :=
  if nanCode f scale code then nan32
  else
    let m := elemMag f (code % 2 ^ (f.width - 1))
    let neg := bit code (f.width - 1)
    match f with
    | .bf16 => ofBf16 (BitVec.ofNat 16 code)
    | .fp8 => fmul (round32 neg m.1 m.2) (BitVec.ofNat 32 scale)
    | _ => round32 neg m.1 (m.2 + ((scale : Int) - 127))

/-- Every element of a stored vector (R72). -/
def expand (f : Fmt) (v : QVec) : List F32 :=
  match f with
  | .bf16 => v.codes.map (expandElem f 0)
  | _ =>
    ((chunks (f.group v.codes.length) v.codes).zip v.scales).map
      (fun (cs, s) => cs.map (expandElem f s)) |>.flatten

/-! ### Records (R96) -/

/-- Least significant bit first: `n` as `w` bits. -/
def bitsOf : Nat → Nat → List Bool
  | 0, _ => []
  | w + 1, n => (n % 2 == 1) :: bitsOf w (n / 2)

/-- Bits, least significant first, as a number. -/
def natOfBits : List Bool → Nat
  | [] => 0
  | b :: bs => (if b then 1 else 0) + 2 * natOfBits bs

/-- A bit stream as bytes: bit k of the stream is bit k mod 8 of byte k / 8, zero bits at the end (R96, R102). -/
def packBits (bs : List Bool) : Bytes := (chunks 8 bs).map fun c => BitVec.ofNat 8 (natOfBits c)

/-- Bytes as a bit stream. -/
def unpackBits (bs : Bytes) : List Bool := (bs.map fun b => bitsOf 8 b.toNat).flatten

/-- The scales of a vector as stored (R96). -/
def scaleToBytes (f : Fmt) (ss : List Nat) : Bytes :=
  match f with
  | .bf16 => []
  | .fp8 => (ss.map (toLe 4)).flatten
  | _ => ss.map (BitVec.ofNat 8)

/-- The scales of a vector of `d` channels read back. -/
def scalesOfBytes (f : Fmt) (d : Nat) (bs : Bytes) : List Nat :=
  match f with
  | .bf16 => []
  | .fp8 => [le bs 0 4]
  | _ => (sub bs 0 (d / 32)).map (·.toNat)

/-- The record of one vector: codes, then scales (R96). -/
def vecToBytes (f : Fmt) (v : QVec) : Bytes :=
  packBits ((v.codes.map (bitsOf f.width)).flatten) ++ scaleToBytes f v.scales

/-- The vector of `d` channels that a record holds (R96). -/
def vecOfBytes (f : Fmt) (d : Nat) (bs : Bytes) : QVec :=
  let n := f.codeBytes d
  ⟨(chunks f.width (unpackBits (sub bs 0 n))).map natOfBits, scalesOfBytes f d (bs.drop n)⟩

/-- The vectors that one token record of a sequence holds: K then V, or the single latent vector (R96). -/
structure RecShape where
  kFmt : Fmt
  vFmt : Fmt
  kDim : Nat
  vDim : Nat       -- 0 for a latent sequence, whose one vector serves as K and V
deriving DecidableEq, Repr

/-- Bytes of one token record of one KV head (R96). -/
def RecShape.bytes (r : RecShape) : Nat :=
  r.kFmt.recBytes r.kDim + (if r.vDim == 0 then 0 else r.vFmt.recBytes r.vDim)

/-- Quantise the BF16 elements of one token of one KV head into its record (R71, R96). -/
def RecShape.quantise (r : RecShape) (xs : List BF16) : Bytes :=
  let k := vecToBytes r.kFmt (Machine.quantise r.kFmt (xs.take r.kDim))
  if r.vDim == 0 then k
  else k ++ vecToBytes r.vFmt (Machine.quantise r.vFmt ((xs.drop r.kDim).take r.vDim))

/-- The expanded K vector of a record (R72). -/
def RecShape.k (r : RecShape) (rec : Bytes) : List F32 := expand r.kFmt (vecOfBytes r.kFmt r.kDim rec)

/-- The expanded V vector of a record; for a latent sequence channels 0 to latent − 1 of K (R70). -/
def RecShape.v (r : RecShape) (latent : Nat) (rec : Bytes) : List F32 :=
  if r.vDim == 0 then (r.k rec).take latent
  else expand r.vFmt (vecOfBytes r.vFmt r.vDim (rec.drop (r.kFmt.recBytes r.kDim)))

/-! ### Compressed Block Format (R102–R104) -/

/-- The ordered code of R103. -/
def toOrdered (w c : Nat) : Nat :=
  if bit c (w - 1) then 2 ^ w - 1 - c else c + 2 ^ (w - 1)

/-- from_ordered of R104. -/
def fromOrdered (w u : Nat) : Nat :=
  if bit u (w - 1) then u - 2 ^ (w - 1) else 2 ^ w - 1 - u

/-- Least element of a list of numbers. -/
def minNat (xs : List Nat) : Nat := xs.foldl min (xs.headD 0)

/-- Width field of a group of ordered codes (R103). -/
def cbfWidth (w : Nat) (us : List Nat) : Nat :=
  let d := us.foldl max 0 - minNat us
  let x := if d == 0 then 0 else Nat.log2 d + 1
  if 16 * x + w ≥ 16 * w then 15 else x

/-- The groups of a section in group order: channel g / 4, tokens 16 (g mod 4) to 16 (g mod 4) + 15 (R102). -/
def cbfGroups (d : Nat) (codes : List (List Nat)) : List (List Nat) :=
  (List.range (4 * d)).map fun g =>
    ((codes.drop (16 * (g % 4))).take 16).map fun tok => tok.getD (g / 4) 0

/-- One section of 64 vectors as packed bytes, scales excluded (R102, R103). -/
def cbfSection (w d : Nat) (codes : List (List Nat)) : Bytes :=
  let gs := (cbfGroups d codes).map fun g => g.map (toOrdered w)
  let ws := gs.map (cbfWidth w)
  let table := (ws.map (bitsOf 4)).flatten
  let bases := ((gs.zip ws).map fun (g, x) => if x == 15 then [] else bitsOf w (minNat g)).flatten
  let payload := ((gs.zip ws).map fun (g, x) =>
    (g.map fun u => if x == 15 then bitsOf w u else bitsOf x (u - minNat g)).flatten).flatten
  packBits (table ++ bases ++ payload)

/-- Read `n` fields of `w` bits; `none` where the stream ends first. -/
def readFields (w : Nat) : Nat → List Bool → Option (List Nat × List Bool)
  | 0, bs => some ([], bs)
  | n + 1, bs =>
    if bs.length < w then none
    else
      match readFields w n (bs.drop w) with
      | none => none
      | some (xs, rest) => some (natOfBits (bs.take w) :: xs, rest)

/-- The bases of R104, one per group; a width other than 15 that is not below `w` is malformed. -/
def readBases (w : Nat) : List Nat → List Bool → Option (List Nat × List Bool)
  | [], bs => some ([], bs)
  | x :: xs, bs =>
    if x == 15 then
      (readBases w xs bs).map fun (r, rest) => (0 :: r, rest)
    else if x ≥ w then none
    else
      match readFields w 1 bs with
      | none => none
      | some (b, bs') => (readBases w xs bs').map fun (r, rest) => (b.headD 0 :: r, rest)

/-- The ordered codes of R104, group by group; a code of 2^w or more is malformed. -/
def readPayload (w : Nat) : List (Nat × Nat) → List Bool → Option (List (List Nat) × List Bool)
  | [], bs => some ([], bs)
  | (x, base) :: gs, bs =>
    match readFields (if x == 15 then w else x) 16 bs with
    | none => none
    | some (vs, bs') =>
      let us := if x == 15 then vs else vs.map (base + ·)
      if us.any (· ≥ 2 ^ w) then none
      else (readPayload w gs bs').map fun (r, rest) => (us.map (fromOrdered w) :: r, rest)

/-- The decoder of R104 on one section: the codes by token and the bytes used; `none` is malformed. -/
def cbfDecode (w d : Nat) (bs : Bytes) : Option (List (List Nat) × Nat) :=
  let all := unpackBits bs
  match readFields 4 (4 * d) all with
  | none => none
  | some (ws, r1) =>
    match readBases w ws r1 with
    | none => none
    | some (bases, r2) =>
      match readPayload w (ws.zip bases) r2 with
      | none => none
      | some (gs, r3) =>
        let used := all.length - r3.length
        let pad := (8 - used % 8) % 8
        if (r3.take pad).any id then none
        else
          let codes := (List.range 64).map fun t =>
            (List.range d).map fun c => (gs.getD (4 * c + t / 16) []).getD (t % 16) 0
          some (codes, (used + pad) / 8)

/-- One packed section with its scales, from 64 stored vectors (R102). -/
def packSection (f : Fmt) (d : Nat) (vs : List QVec) : Bytes :=
  cbfSection f.width d (vs.map (·.codes)) ++ (vs.map fun v => scaleToBytes f v.scales).flatten

/-- The 64 vectors of a packed section and the bytes after it. -/
def unpackSection (f : Fmt) (d : Nat) (bs : Bytes) : Option (List QVec × Bytes) :=
  match cbfDecode f.width d bs with
  | none => none
  | some (codes, n) =>
    let sb := f.scaleBytes d
    let rest := bs.drop n
    if rest.length < 64 * sb then none
    else
      some ((List.range 64).map (fun t =>
        ⟨codes.getD t [], scalesOfBytes f d (sub rest (t * sb) sb)⟩), rest.drop (64 * sb))

/-- The K vectors of 64 records. -/
def kVecs (r : RecShape) (recs : List Bytes) : List QVec := recs.map (vecOfBytes r.kFmt r.kDim)

/-- The V vectors of 64 records. -/
def vVecs (r : RecShape) (recs : List Bytes) : List QVec :=
  recs.map fun b => vecOfBytes r.vFmt r.vDim (b.drop (r.kFmt.recBytes r.kDim))

/-- A whole block in CBF: K section, then V section, or one section for a latent sequence (R102). -/
def cbfEncode (r : RecShape) (recs : List Bytes) : Bytes :=
  packSection r.kFmt r.kDim (kVecs r recs)
    ++ (if r.vDim == 0 then [] else packSection r.vFmt r.vDim (vVecs r recs))

/-- The 64 records of a stored block (R102, R104). CODING 0x2 is the raw block; a malformed section or a
length that the shape does not imply is a failed check value. -/
def blockRecords (r : RecShape) (coding : Nat) (stored : Bytes) : Option (List Bytes) :=
  if coding == 3 then
    match unpackSection r.kFmt r.kDim stored with
    | none => none
    | some (ks, rest) =>
      if r.vDim == 0 then
        (if rest.length == 0 then some (ks.map (vecToBytes r.kFmt)) else none)
      else
        match unpackSection r.vFmt r.vDim rest with
        | none => none
        | some (vs, rest') =>
          if rest'.length == 0 then
            some ((ks.zip vs).map fun (k, v) => vecToBytes r.kFmt k ++ vecToBytes r.vFmt v)
          else none
  else if stored.length == 64 * r.bytes then some (chunks r.bytes stored)
  else none

/-- The stored form of a full block (R99 step 2, R103): CBF when it takes fewer units than the raw block and
decodes to its input, raw otherwise. -/
def storedForm (r : RecShape) (unit : Nat) (recs : List Bytes) : Nat × Bytes :=
  let raw := recs.flatten
  let packed := cbfEncode r recs
  if ceilDiv packed.length unit < ceilDiv raw.length unit && blockRecords r 3 packed == some recs then
    (3, packed)
  else (2, raw)

/-- Whether the CBF form of a block fails to decode to its input (R99 step 2). -/
def cbfMismatch (r : RecShape) (recs : List Bytes) : Bool := blockRecords r 3 (cbfEncode r recs) != some recs

/-! ### Summaries (R43) -/

/-- Channel-wise FP32 sum in ascending position, beginning with the first position (R43; log 21). -/
def sumChannels : List (List F32) → List F32
  | [] => []
  | v :: vs => vs.foldl (fun acc x => List.zipWith fadd acc x) v

/-- The BF16 summary of a block's 64 expanded K vectors (R43). -/
def summary (ks : List (List F32)) : List BF16 := (sumChannels ks).map fun s => toBf16 (fmul s 0x3C800000)

end Sys2Proof.Machine
end

