-- ==== Sys2Proof/Machine/Attention.lean ====
section
/-! DEFINITION. The reference arithmetic of a step (R73–R85): dot product, scores and cap, leaf, combine, the
canonical reduction tree, the positions that a step covers (R34–R36, R82), sparse scores (R42) and the partials
section (R44). Every function is pure: R67 makes the partial a function of these inputs alone. -/

namespace Sys2Proof.Machine

/-! ### Dot product and scores -/

/-- One level of the fixed pairwise tree of R73. -/
def pairSums : List F32 → List F32
  | a :: b :: xs => fadd a b :: pairSums xs
  | xs => xs

/-- The sum of up to 32 products by five levels of the pairwise tree (R73). -/
def treeSum (xs : List F32) : F32 :=
  (pairSums <| pairSums <| pairSums <| pairSums <| pairSums xs).headD zero32

/-- The dot product of R73 of a BF16 operand and an expanded vector; groups of 32 join in ascending order. -/
def dot (q : List BF16) (k : List F32) : F32 :=
  match (chunks 32 (List.zipWith (fun a b => fmul (ofBf16 a) b) q k)).map treeSum with
  | [] => zero32
  | g :: gs => gs.foldl fadd g

/-- L2E of R74. -/
def l2e : F32 := 0x3FB8AA3B

/-- The score of R74, before R69 replaces an infinity. -/
def rawScore (scale : F32) (cap : Option F32) (d : F32) : F32 :=
  match cap with
  | none => fmul d (fmul scale l2e)
  | some cv => fmul (tanhRef (fmul (fmul d scale) (fdiv one32 cv))) (fmul cv l2e)

/-- The score t of R74 after R69. -/
def score (scale : F32) (cap : Option F32) (d : F32) : F32 := clampInf (rawScore scale cap d)

/-! ### Partials -/

/-- A softmax partial (m, l, o). -/
structure Partial where
  m : F32
  l : F32
  o : List F32
deriving DecidableEq, Repr

/-- The identity partial of R45. -/
def Partial.identity (d : Nat) : Partial := ⟨ninf32, zero32, List.replicate d zero32⟩

/-- The NaN partial of R69. -/
def Partial.nan (d : Nat) : Partial := ⟨nan32, nan32, List.replicate d nan32⟩

/-- One covered token added to l and o (R78). -/
def leafAdd (m : F32) (acc : F32 × List F32) (tv : F32 × List F32) : F32 × List F32 :=
  let p := exp2Ref (fsub tv.1 m)
  let pb := ofBf16 (toBf16 p)
  (fadd acc.1 p, List.zipWith (fun o v => fadd o (fmul pb v)) acc.2 tv.2)

/-- The leaf partial of R78 over the covered tokens in ascending position: (score, V vector) each. -/
def leaf (d : Nat) (ts : List (F32 × List F32)) : Partial :=
  match ts with
  | [] => .identity d
  | t0 :: rest =>
    if ts.any (fun t => isNan t.1) then .nan d
    else
      let m := rest.foldl (fun m t => fmax m t.1) t0.1
      let r := ts.foldl (leafAdd m) (zero32, List.replicate d zero32)
      ⟨m, r.1, r.2⟩

/-- combine of R79; the left operand covers the lower positions. -/
def combine (a b : Partial) : Partial :=
  if isNan a.m || isNan b.m then .nan a.o.length
  else if a.m = ninf32 then b
  else if b.m = ninf32 then a
  else
    let m := fmax a.m b.m
    let sa := exp2Ref (fsub a.m m)
    let sb := exp2Ref (fsub b.m m)
    ⟨m, fadd (fmul a.l sa) (fmul b.l sb),
      List.zipWith (fun x y => fadd (fmul x sa) (fmul y sb)) a.o b.o⟩

/-- reduce of R80 over the 2^h leaves from `first`. -/
def reduceTree (leafOf : Nat → Partial) : Nat → Nat → Partial
  | 0, first => leafOf first
  | h + 1, first => combine (reduceTree leafOf h first) (reduceTree leafOf h (first + 2 ^ h))

/-- Least h with 2^h ≥ n: the height of the canonical tree (R80). -/
def treeHeight (n : Nat) : Nat := if n ≤ 1 then 0 else Nat.log2 (n - 1) + 1

/-! ### What a step sees (R34–R36, R82) -/

/-- The parameters of a step that decide coverage and arithmetic. -/
structure Attn where
  kvHeads : Nat
  qheads : Nat
  qtokens : Nat
  queryPos : Nat
  prefill : Bool
  tree : Bool
  treeKv : Bool
  window : Option Nat
  sinks : Nat
  scale : F32
  cap : Option F32
  sparseK : Option Nat
  shardStart : Nat        -- S
  committed : Nat         -- C
deriving DecidableEq, Repr

/-- The position of query token i (R34); `none` for a tree step at position 0, which sees no committed position. -/
def Attn.queryAt (a : Attn) (i : Nat) : Option Nat :=
  if a.tree then (if a.queryPos == 0 then none else some (a.queryPos - 1))
  else if a.prefill then some (a.queryPos + i)
  else some a.queryPos

/-- The window condition of R35. -/
def Attn.inWindow (a : Attn) (q p : Nat) : Bool :=
  match a.window with
  | none => true
  | some w => q < p + w || p < a.sinks

/-- Whether query token i sees committed position p (R34, R35), before sparse selection. -/
def Attn.sees (a : Attn) (i p : Nat) : Bool :=
  match a.queryAt i with
  | none => false
  | some q => a.shardStart ≤ p && p < a.committed && p ≤ q && a.inWindow q p

/-- One past the highest committed position that query token i sees before the window (R34). -/
def Attn.seenEnd (a : Attn) (i : Nat) : Nat :=
  match a.queryAt i with
  | none => a.shardStart
  | some q => max a.shardStart (min a.committed (q + 1))

/-- The positions of block b that query token i sees, ascending. -/
def Attn.blockPositions (a : Attn) (i b : Nat) : List Nat :=
  (List.range 64).map (64 * b + ·) |>.filter (a.sees i)

/-- RANGE_START and RANGE_END of the response (R44): before window masking; 0 and 0 when none. -/
def Attn.range (a : Attn) : Nat × Nat :=
  let e := (List.range a.qtokens).foldl (fun m i => max m (a.seenEnd i)) 0
  if a.shardStart < e then (a.shardStart, e) else (0, 0)

/-- One past the last block that any query token's committed positions or tree tokens reach (R80). -/
def Attn.blockEnd (a : Attn) : Nat :=
  if a.treeKv then (a.committed + a.qtokens - 1) / 64 + 1
  else ceilDiv a.range.2 64

/-- b_lo of R80. -/
def Attn.blockLo (a : Attn) : Nat := a.shardStart / 64

/-- Blocks that hold a covered position of some query token (R35: no other block is fetched). -/
def Attn.coveredBlocks (a : Attn) : List Nat :=
  (List.range (a.blockEnd - a.blockLo)).map (a.blockLo + ·)
    |>.filter fun b => (List.range a.qtokens).any fun i => (a.blockPositions i b).length > 0

/-- The tree tokens that query token i sees, ascending (R36, R82); mask bits at or beyond QTOKENS are ignored. -/
def treeSeen (mask : List Nat) (qtokens i : Nat) : List Nat :=
  if i < qtokens then (List.range qtokens).filter fun j => bit (mask.getD i 0) j else []

/-- The k-th seen tree token has virtual position C + k: those that fall into block b (R82). -/
def treeInBlock (a : Attn) (mask : List Nat) (i b : Nat) : List Nat :=
  ((treeSeen mask a.qtokens i).zip (List.range 64)).filter (fun jk => (a.committed + jk.2) / 64 == b)
    |>.map (·.1)

/-- Query heads per KV head, G of R33. -/
def Attn.group (a : Attn) : Nat := if a.kvHeads == 0 then 1 else a.qheads / a.kvHeads

/-! ### Sparse selection (R42) -/

/-- Whether score x ranks above score y: NaN, +∞, finite by value, −∞; equals tie (R42). -/
def ranksAbove (x y : F32) : Bool := if isNan x then !isNan y else if isNan y then false else flt y x

/-- The largest score under the rank order. -/
def bestScore : List F32 → F32
  | [] => ninf32
  | s :: ss => ss.foldl (fun m x => if ranksAbove x m then x else m) s

/-- Insert a candidate (block, score) after every one that ranks at least as high (lower block first). -/
def insertRanked (c : Nat × F32) : List (Nat × F32) → List (Nat × F32)
  | [] => [c]
  | d :: ds => if ranksAbove c.2 d.2 then c :: d :: ds else d :: insertRanked c ds

/-- The SPARSE_K highest-ranking candidates, from candidates in ascending block order (R42 step 3). -/
def selectBlocks (k : Nat) (cands : List (Nat × F32)) : List Nat :=
  ((cands.foldl (fun l c => insertRanked c l) []).take k).map (·.1)

/-- The last covered block of R42. -/
def Attn.lastCovered (a : Attn) : Option Nat := a.coveredBlocks.getLast?

/-- Blocks that R42 step 4 always adds: the last covered block and every block with a covered sink position. -/
def Attn.forcedBlocks (a : Attn) : List Nat :=
  a.coveredBlocks.filter fun b =>
    some b == a.lastCovered ||
      (a.window.isSome && (a.blockPositions 0 b).any (· < a.sinks))

/-- The candidate blocks of R42 step 1. -/
def Attn.candidates (a : Attn) : List Nat := a.coveredBlocks.filter fun b => !a.forcedBlocks.contains b

/-- Score of one candidate: the best of the G query heads against the block summary (R42 step 2). -/
def sparseScore (queries : List (List BF16)) (summ : List BF16) : F32 :=
  bestScore (queries.map fun q => dot q (summ.map ofBf16))

/-! ### The partials section (R44, R83) -/

/-- One partial as bytes: m, l, then o in FP32 or BF16, little-endian (R6, R44). -/
def Partial.bytes (outBf16 : Bool) (p : Partial) : Bytes :=
  toLe 4 p.m.toNat ++ toLe 4 p.l.toNat ++
    (p.o.map fun x => if outBf16 then toLe 2 (toBf16 x).toNat else toLe 4 x.toNat).flatten

/-- W_PROJ: the absorbed query of one head (R83, R139): absorption rows first, rotary channels unchanged. -/
def absorbQuery (rows : List (List F32)) (qn : Nat) (q : List BF16) : List BF16 :=
  rows.map (fun r => toBf16 (dot (q.take qn) r)) ++ q.drop qn

/-- W_PROJ: o′[r] = dot(to_bf16(o), value row r) (R83). A head that sees no position returns the identity partial, every
element zero (R45). -/
def projectOut (rows : List (List F32)) (p : Partial) : Partial :=
  if p.m = ninf32 then .identity rows.length else { p with o := rows.map fun r => dot (p.o.map toBf16) r }

/-- Requester merge of R84 over shard partials in ascending shard token start, and its normalisation. -/
def mergeShards (d : Nat) (ps : List Partial) : List F32 :=
  let acc := ps.foldl combine (.identity d)
  acc.o.map fun x => if acc.l = zero32 then zero32 else fdiv x acc.l

end Sys2Proof.Machine
end

