-- ==== Sys2Proof/Machine/KvTypes.lean ====
section
/-! DEFINITION. What the node stores of sequences: shapes (R51), descriptors (R87), directory entries (R95), tail
slots (R97), closed blocks with their summary records (R102–R107), and the free units of the tiers (R147, R152). -/

namespace Sys2Proof.Machine

/-- The tier of an allocation (R95): Tier-1, the Tier-2 port 0–2 on F1–F3 (R144), or none, TIER 3, of a block of which
nothing is stored. -/
inductive Tier where
  | tier1
  | tier2 (port : Nat)
  | absent
deriving DecidableEq, Repr

/-- Where an allocation lies (R94, R95): frame number, first granule and units of 512 × 2^shift bytes. -/
structure Place where
  tier : Tier
  frame : Nat
  granule : Nat
  units : Nat
  shift : Nat
deriving DecidableEq, Repr

/-- The shape of a sequence, bytes 8–23 of the SEQ_CREATE body, MAX_LENGTH rounded up (R51, R87). -/
structure Shape where
  layers : Nat
  kvHeads : Nat
  latent : Bool
  pin : Bool
  headDim : Nat
  ropeDim : Nat
  kFmt : Fmt
  vFmt : Fmt
  maxLength : Nat
  shardStart : Nat
deriving DecidableEq, Repr

/-- A tail slot (R97): its token records, one per committed token, and its header records, one per data granule. -/
structure TailSlot where
  place : Place
  generation : Nat        -- of the sequence that it is bound to (R89)
  slotVersion : Nat       -- VERSION of the entry: the slot identifier when sealed
  born : Nat              -- C_L at its allocation, under which granules without committed bytes are sealed
  recs : List Bytes
  checks : List Bytes
  lost : Bool
deriving DecidableEq, Repr

/-- What a directory entry points to (R95): a tail slot, or a closed block by its number in `Store.blocks`. -/
inductive Slot where
  | tail (t : TailSlot)
  | closed (block : Nat)
deriving DecidableEq, Repr

/-- A directory entry that is not empty (R95). VERSION, CODING, SIZE, LOST, SUMMARY and CHECK of a closed block
stand with the block, which every sharer sees alike; HEAT is the entry's or the heat array's counter (R118). -/
structure Entry where
  layer : Nat
  head : Nat
  block : Nat
  slot : Slot
  heat : Nat
  shared : Bool
  pinned : Bool
deriving DecidableEq, Repr

/-- A closed block (R99, R102, R105–R107). `stored` is the block in its coding; in a sealed paddock the tier holds `cipher`,
the same bytes as one GCM message, and `stored` is what the controller's engine recovers from it (R159). `refs` is the
share count, a record of the share-count table when it is above 1. `layer`, `head` and `index` are those of its
authenticated data (R115). -/
structure Block where
  num : Nat
  paddock : Nat
  slice : Nat
  place : Place
  summaryUnits : Nat
  coding : Nat
  stored : Bytes
  cipher : Bytes             -- empty in an open paddock
  version : Nat
  check : Bytes
  summary : Bytes
  hasSummary : Bool
  lost : Bool
  refs : Nat
  layer : Nat
  head : Nat
  index : Nat
deriving DecidableEq, Repr

/-- STATE of a descriptor that is not free (R87): 1, 2 or 3. `lostReleasing` is STATE 3 of a sequence whose release was
under way when its slice stopped (R113, R160). -/
inductive SeqState where
  | live | releasing | lost | lostReleasing
deriving DecidableEq, Repr

/-- Whether a sequence's release has begun: its Ledger entries are gone (R113). -/
def SeqState.leaving : SeqState → Bool
  | .live => false
  | .releasing => true
  | .lost => false
  | .lostReleasing => true

/-- The seals of the integrity tree that a descriptor carries (R87, R114). -/
structure Seals where
  l1Version : Nat
  tailVersion : Nat
  tailTag : Bytes
  prefixVersion : Nat
  prefixTag : Bytes
deriving DecidableEq, Repr

/-- A backed directory page (R90) as its L1 entry names it (R91): address, version, tag and the LOST flag; `stored` is what
a sealed page holds, as it was last sealed. -/
structure DirPage where
  index : Nat
  address : Nat
  stored : Bytes
  version : Nat
  tag : Bytes
  lost : Bool
deriving DecidableEq, Repr

/-- The trailer of an L1 page (R92): the page's index within the table and its GCM tag, 0 in an open paddock. `lost` is
LOST in its entries that name no directory page (R119). -/
structure L1Page where
  index : Nat
  tag : Bytes
  lost : Bool
deriving DecidableEq, Repr

/-- How a child was forked (R54, R87, R304). -/
structure Fork where
  parent : Nat
  length : Nat
  sharedBlocks : Nat
  copiedTokens : Nat
deriving DecidableEq, Repr

/-- A live, releasing or lost sequence: its descriptor (R87), tail table, prefix page and directory entries.
COMMITTED_LEN, T1_BYTES, T2_BYTES and DIR_PAGES are computed from the rest. -/
structure Seq where
  desc : Nat                 -- descriptor index (R88)
  generation : Nat
  paddock : Nat
  id : Nat
  state : SeqState
  modelId : Nat
  shape : Shape
  created : Bytes            -- the SEQ_CREATE body as stored (R52)
  ttl : Nat
  weightSet : Nat
  sealed : Bool
  mirrorCopy : Bool
  granShift : Nat
  ref : Nat
  deadline : Nat
  slice : Nat
  addresses : List Nat       -- L1_BASE, TAIL_TABLE, PREFIX_PAGE, HEAT_BASE
  seals : Seals
  l1 : List L1Page           -- trailers of the L1 table
  forked : Option Fork
  lens : List Nat            -- tail table: C_L per layer
  hashes : List (Nat × Nat)  -- prefix page: (block k, hash), PREFIX_MASK
  pages : List DirPage
  entries : List Entry
deriving DecidableEq, Repr

/-- A deferred free (R100): the old place of a relocated block, the descriptor and generation that it belongs to (R89) and
the operations admitted before the switch. -/
structure DeferredFree where
  block : Nat
  desc : Nat
  generation : Nat
  paddock : Nat
  place : Place
  after : List Nat
deriving DecidableEq, Repr

/-- A move of the migration engine (R153, R155). -/
structure Move where
  id : Nat
  block : Nat
  source : Place
  target : Place
deriving DecidableEq, Repr

/-- An allocated descriptor page (R88) and the paddock it belongs to; `stored` is what a sealed page holds, as it was last
sealed. -/
structure DescPage where
  page : Nat
  paddock : Nat
  stored : Bytes
deriving DecidableEq, Repr

/-- A root of the root SRAM (R114): page, version, paddock, sealed state and 64-bit tag. -/
structure Root where
  page : Nat
  version : Nat
  paddock : Nat
  sealed : Bool
  tag : Bytes
deriving DecidableEq, Repr

/-- A Tier-2 port (R145, R157, R161). -/
structure Tier2Port where
  port : Nat
  present : Bool             -- the image gives the flex port the CXL role
  lost : Bool
  frames : Nat               -- capacity of the attached device
  poisoned : List Nat        -- frames retired by the device poison list
deriving DecidableEq, Repr

/-- A stack (R142, R143): trained, stopped, hot, and per pseudo-channel who owns it and the postponed refreshes. -/
structure Stack where
  index : Nat
  trained : Bool
  retrained : Bool
  stopped : Bool
  hot : Bool                 -- reports above 85 °C
  refreshes : List Nat       -- refreshes issued per pseudo-channel
  postponed : List Nat       -- postponed refreshes per pseudo-channel
deriving DecidableEq, Repr

/-- A weight set (R139, R363): header fields and the bytes of its layers. -/
structure WeightSet where
  setId : Nat
  paddock : Nat
  header : Bytes
  bytes : Bytes
  slices : List Nat
  committed : Bool
  removing : Bool
  window : Option Nat        -- its loader window
  base : Nat
  copies : List Nat          -- its places in the other slices
  length : Nat
deriving DecidableEq, Repr

/-- A slot of a die's weight window (R140). -/
structure WeightSlot where
  die : Nat
  slot : Nat
  content : Option (Nat × Nat × Nat)   -- paddock, weight set, layer
  loading : Bool
  lastUse : Nat
deriving DecidableEq, Repr

/-- A PREFETCH hint (R61, R62). -/
structure Hint where
  paddock : Nat
  seq : Nat
  order : List Nat
  at_ : Option Nat           -- the place in the order of the layer that is in use
  warm : Option (Nat × Nat)
deriving DecidableEq, Repr

/-- What the controller of a pseudo-channel holds while a lease has it (R167): a block read of a step, the writes of an
append, a walk, the copy of a move, or a mirror's commit that appends. -/
inductive HeldWork where
  | read (op run head block : Nat)
  | write (op : Nat)
  | walk (die paddock seq page : Nat) (r : ReadOutcome)
  | move (id : Nat) (r : ReadOutcome)
  | commit (qpn psn : Nat)
deriving DecidableEq, Repr

/-- A request that a lease holds, in arrival order; `served` once its pseudo-channels are back (R167). -/
structure HeldReq where
  work : HeldWork
  channels : List (Nat × Nat)          -- (stack, pseudo-channel)
  served : Bool
deriving DecidableEq, Repr

/-- Everything the tiers hold. -/
structure Store where
  seqs : List Seq
  blocks : List Block
  nextBlock : Nat
  nextMove : Nat
  generations : List (Nat × Nat)       -- GENERATION of every descriptor slot ever used
  descPages : List DescPage
  roots : List Root
  deferred : List DeferredFree
  moves : List Move
  dirty : List Nat                     -- freed frames that wait for their zero-fill (R113)
  retired : List Nat                   -- retired frames (R321)
  leaseTouched : List (Nat × Nat)      -- metadata frames touched by a lease since the last write (R175)
  retries : List (BlockRef × Nat)      -- closes that wait for their retry, and its instant (R99)
  held : List HeldReq
  ports : List Tier2Port
  hbms : List Stack
  weights : List WeightSet
  weightSlots : List WeightSlot
  hints : List Hint
  arrivals : List (Nat × Nat × Nat)    -- (paddock, weight set, layer) of W_PROJ steps, the one that arrived last at the end (R140)
  demoting : List (Nat × Nat)          -- (slice, paddock or 0) whose demotion has begun and not stopped (R153)
  heatEpochs : Nat                     -- sweeps completed (R151)
  heatSince : List Nat                 -- when the heat epoch of each die began (R151, R374)
  poisonLines : List Nat               -- 64-byte lines marked poisoned (R149, R228)
  checkErrors : List (Nat × Nat)       -- 8-byte words of metadata whose check byte is not their code's, and how it differs (R149)
  parts : List (Nat × Place × Nat)     -- units that hold CONTINUED commits out of reach: window, place, paddock (R427)
  expired : List (Nat × Nat)           -- (paddock, sequence) released by expiry and not used again (R57)
deriving DecidableEq, Repr

end Sys2Proof.Machine
end

