-- ==== Sys2Proof/Machine/WorkTypes.lean ====
section
/-! DEFINITION. Operations of the cache service in flight (R25, R29, R305), work units (R124–R137), clusters (R121,
R320–R323), walkers (R93), schedulers (R246–R265), leases (R163–R180). -/

namespace Sys2Proof.Machine

/-- A request of the cache service (R25) with the connection it came by. -/
structure Req where
  qpn : Nat
  msn : Nat
  opcode : Nat              -- of the GWT header (R28)
  inner : Nat               -- of the operation header
  paddock : Nat
  epoch : Nat
  tag : Nat
  seq : Nat
  layer : Nat
  bodyLen : Nat
  head : Bytes             -- the 32 bytes of the operation header as received
  body : Bytes
deriving DecidableEq, Repr

/-- A block that a step covers, as it was when the step was admitted (R29): the token records it holds, how many of
its stored bytes a read moves, and where it lies. -/
structure Cover where
  head : Nat
  block : Nat
  recs : List Bytes
  bytes : Nat
  object : Option Nat        -- closed block number; none for a tail slot
  summary : Option Bytes     -- the summary record where SUMMARY is set and the step is sparse
deriving DecidableEq, Repr

/-- A leaf partial of one query row (R78). -/
structure Leaf where
  head : Nat
  block : Nat
  row : Nat                  -- query token × G + query head within the group
  part : Partial
deriving DecidableEq, Repr

/-- A work unit (R124, R125). -/
structure WorkUnit where
  index : Nat
  run : Nat                  -- 0, or 1 and 2 for shadow runs (R318)
  head : Nat
  first : Nat                -- first leaf of the subtree, counted from b_lo
  height : Nat               -- 2^height leaves
  rowFirst : Nat
  rowCount : Nat
  clusters : List (Nat × Nat)   -- (die, logical cluster) of the gang; empty while not resident
  toIssue : List Nat            -- blocks whose reads are not issued, ascending
  outstanding : List Nat        -- blocks whose reads are issued
  rooted : Bool                 -- its subtree root has reached the step combiner
  roots : List Partial          -- the subtree root of each of its rows
deriving DecidableEq, Repr

/-- The execution of one STEP. -/
structure StepWork where
  attn : Attn
  recShape : RecShape
  latentDim : Nat                     -- 0 for a standard sequence
  outDim : Nat
  outBf16 : Bool
  wProj : Option (Nat × Nat)          -- weight set and its query dimension
  queries : List (List BF16)          -- absorbed where W_PROJ; by head, token, head within the group
  covers : List Cover
  treeRecs : List Bytes               -- quantised tree tokens by token and KV head
  mask : List Nat
  scoring : List (Nat × Nat)          -- (head, block) of candidates not scored yet
  scores : List (Nat × Nat × F32)     -- head, block, score
  selected : List (Nat × List Nat)    -- per head, once selection is made
  units : List WorkUnit
  leaves : List Leaf
  blocksRead : Nat
  bytesRead : Nat
  shadow : Bool
deriving DecidableEq, Repr

/-- What an operation does to the node's own committed state when its commit is acknowledged (R305). -/
inductive Effect where
  | none
  /-- (layer, records by token then KV head) from `pos`; `tokens` per layer; hashes of the blocks from `hashFirst`. -/
  | append (pos tokens : Nat) (layers : List (Nat × List Bytes)) (hashFirst : Nat) (hashes : List Nat)
  | hashes (hashFirst : Nat) (hashes : List Nat)
  /-- slice (R123) and whether an expired sequence of the same ID is released first (R52) -/
  | create (slice : Nat) (replace : Bool)
  | fork (child length maxLength ttl : Nat)
  | truncate (length : Nat)
  | release
deriving DecidableEq, Repr

/-- How far an operation has come. -/
inductive OpPhase where
  | front (releaseAt : Nat)   -- waits out FRONT_DELAY (R292)
  | held                      -- waits for an earlier mutating operation of its sequence (R29)
  | queued                    -- in its admission scheduler
  | weights                   -- admission holds a W_PROJ step whose layer is in no slot (R140)
  | admitted
deriving DecidableEq, Repr

/-- The commit of an operation (R305, R309). -/
inductive CommitState where
  | notNeeded | pending | done | failed
deriving DecidableEq, Repr

/-- An operation of the cache service from the end of its reception to the release of its response. -/
structure Op where
  id : Nat
  req : Req
  phase : OpPhase
  slice : Nat
  cls : Nat                     -- 0 latency, 1 bulk, 2 background (R247)
  cost : Nat                    -- work units charged (R253)
  desc : Option (Nat × Nat)     -- descriptor and generation that its REF holds
  partner : Nat
  below : Nat                   -- primary of the shard below, of the map's result
  effect : Effect
  commit : CommitState
  parts : Nat                   -- commits of it that are not acknowledged
  status : Nat                  -- OK, or the status a fault gave it
  detail : Nat
  hint : Nat
  step : Option StepWork
  discarded : Bool              -- its response is discarded (R217)
deriving DecidableEq, Repr

/-! ### Clusters and walkers -/

/-- What a physical cluster is used for (R320–R323). -/
inductive ClusterUse where
  | mapped (logical : Nat)
  | spare (passed : Bool)
  | draining (logical : Nat)    -- under swap: receives no work (R323)
  | testing
  | swapping (logical : Nat)    -- under test, its logical ID out of service until it passes (R323 step 3)
  | retired
  | disabled
  | rerun (disabled : Bool)     -- a retired or disabled cluster under test for the monitor (R369); it stays out of use
deriving DecidableEq, Repr

/-- K states of a cluster (R370, R371). -/
inductive KState where
  | k0 | k1 | enteringK2 | k2
deriving DecidableEq, Repr

/-- A KTB entry (R93). -/
structure KtbEntry where
  paddock : Nat
  desc : Nat
  generation : Nat
  page : Nat                    -- directory page
deriving DecidableEq, Repr

/-- A physical cluster (R121–R131). -/
structure Cluster where
  die : Nat
  phys : Nat
  use : ClusterUse
  k : KState
  ktb : List KtbEntry
  result : Nat                  -- last LBIST: 0 not run, 1 pass, 2 fail
  exitPending : Bool            -- a work unit arrived during the entry into K2 (R371)
  spareSince : Option (Nat × Nat)   -- logical ID it will take, and the time its LBIST passed (R320); 0 before that
  lastUnit : Option (Nat × Nat)     -- operation and work unit of the last block read it issued (R131)
  idleAt : Option Nat           -- since when it has been idle (R370)
deriving DecidableEq, Repr

/-- A line of a die's descriptor cache and its paddock tag (R88, R270). -/
structure DescLine where
  die : Nat
  desc : Nat
  paddock : Nat
deriving DecidableEq, Repr

/-- The attention engine. -/
structure Engine where
  clusters : List Cluster
  sharedKtb : List (Nat × KtbEntry)       -- (die, entry)
  descCache : List DescLine               -- 32,768 lines per die, least recently used first (R88)
  ops : List Op
  nextOp : Nat
  shadowCount : List (Nat × Nat)          -- STEPs counted per slice (R318)
  lbistNext : List Nat                    -- next physical cluster per die (R323)
  suspects : List (Nat × Nat)             -- units other than clusters, as UNIT_KIND and UNIT, that the next start tests (R271)
deriving DecidableEq, Repr

/-! ### Schedulers -/

/-- A bridle (R256). -/
structure Bridle where
  rate : Nat                    -- MB/s
  burst : Nat                   -- KiB
  credit : Int                  -- thousandths of a byte
  last : Nat                    -- ns at which the credit was last brought up to date
deriving DecidableEq, Repr

/-- What a frame at egress is (R182, R185, R343): a GWT packet, an LLDPDU with its chassis and port ID, a beacon with its
UDP destination, or a PTP delay request. -/
inductive FrameKind where
  | packet
  | lldp (chassis port : Bytes)
  | beacon (dest : Bytes) (port : Nat)
  | delayReq
deriving DecidableEq, Repr

/-- A frame that waits at egress: the connection (none for frames outside connections), the packet's PSN or the bytes
of a control packet, whether it is a first transmission, its bytes from the destination MAC address on, without the FCS
(for a beacon, its UDP payload), and its length with the FCS (R246). -/
structure OutFrame where
  qpn : Nat
  psn : Nat
  bytes : Bytes
  wire : Nat
  first : Bool
  data : Bool
  kind : FrameKind
deriving DecidableEq, Repr

/-- Kinds of node-internal work (R247): block closes, frees after release, moves, lease dispatch, mirror resync, and the
zero-fill of Tier-2. -/
inductive WorkKind where
  | close | free | move | lease | resync | zero
deriving DecidableEq, Repr

/-- A piece of node-internal work: its kind, and what it is about (a block, a sequence, frames). -/
structure Work where
  kind : WorkKind
  paddock : Nat
  about : List Nat
deriving DecidableEq, Repr

/-- What a queue holds: an operation that waits for admission, a piece of node-internal work, or a frame. -/
inductive Item where
  | op (id : Nat)
  | work (w : Work)
  | frame (f : OutFrame)
deriving DecidableEq, Repr

/-- One queue of a scheduler (R250, R252). -/
structure Queue where
  cls : Nat
  paddock : Nat
  items : List (Item × Nat)     -- with its cost in work units
  deficit : Int
  quantum : Nat
  visited : Bool
  wheelAt : Option Nat          -- eligible time while on the timing wheel (R257)
  since : Nat                   -- start of the stretch that its starvation clock counts (R262)
  counted : Nat                 -- ns counted before that stretch
  counting : Bool
  promoted : Bool
deriving DecidableEq, Repr

/-- One class's ring (R250, R251). -/
structure Ring where
  cls : Nat
  order : List Nat              -- paddocks of the active queues, head first
  round : Nat                   -- visits left in this round
  vtime : Nat
deriving DecidableEq, Repr

/-- A promotion bucket (R263): the paddock whose share it is of, 0 where the whole scheduler has one, its level in bytes,
and the time of that level. -/
structure Bucket where
  share : Nat
  level : Int
  at_ : Nat
deriving DecidableEq, Repr

/-- A gate control list entry (R258). -/
structure Gate where
  interval : Nat
  mask : Nat
  sliceSel : Nat
deriving DecidableEq, Repr

/-- A scheduler: admission of slice `id` for 0–15, egress of link `id − 16` otherwise (R246). -/
structure Sched where
  id : Nat
  rings : List Ring
  queues : List Queue
  gcl : List Gate
  newGcl : Option (Nat × Nat × List Gate)   -- cycle from which it applies, CYCLE, list (R260)
  cycle : Nat
  base : Nat
  cycleStart : Nat              -- when the cycle under way began
  length : Nat                  -- its length after catch-up
  entry : Nat                   -- entry in force
  phaseErr : Nat
  catchupMax : Nat
  starve : Nat
  buckets : List Bucket         -- promotion buckets (R263, R264)
  paused : List Nat             -- priorities paused by PFC (egress)
  inUseUnits : Nat              -- admission window (R254)
  inUseOps : Nat
deriving DecidableEq, Repr

/-- The schedulers; egress bridles are node-wide (R256). -/
structure Scheds where
  scheds : List Sched
  granted : List Work                         -- work that admission has released and that its engine has not begun (R247)
  bridles : List (Nat × Nat × Nat × Bridle)   -- scheduler (16 for every egress), class, paddock
deriving DecidableEq, Repr

/-! ### Leases -/

/-- Phases of a lease (R166). -/
inductive LeasePhase where
  | draining | running | returning
  | returned                    -- back with the controller, its call block not read yet: O3 restarts (R179)
deriving DecidableEq, Repr

/-- A lease and its call block (R164, R177). -/
structure Lease where
  id : Nat
  req : LeaseReq
  phase : LeasePhase
  expires : Nat
  result : Option ProgramResult
  code : Nat                    -- RESULT
  firstFrame : Nat
  refreshRate : Nat             -- 1, or 2 when doubled (R171)
  passed : List (Nat × Nat)     -- per pseudo-channel the postponed refreshes that the handover passed on (R171)
  core : Option Nat             -- the core that its program runs on; none before the handover and in a round without work
  paused : Nat                  -- refreshes issued by the base die during it (R172)
  fixed : Bool                  -- part of a fixed round (R168)
deriving DecidableEq, Repr

/-- A stallholder core (R163, R177), an RV32IMC core: the paddock it last served, the program that it runs, its instruction SRAM
of 64 KiB and its data SRAM of 128 KiB from 0x1000_0000 on (zero beyond the bytes listed), the registers x0–x31 (a0 is x10) and
the entry point it starts at. -/
structure StallCore where
  stack : Nat
  core : Nat
  paddock : Nat
  program : Nat
  code : Bytes
  data : Bytes
  regs : List Nat
  entry : Nat
deriving DecidableEq, Repr

/-- Work for stall programs that O3 has not dispatched yet (R113, R178, R180). -/
structure Chore where
  program : Nat
  paddock : Nat
  frames : List Nat
  first : Nat
  param0 : Nat
  param1 : Nat
deriving DecidableEq, Repr

/-- The base dies (R163–R180). -/
structure Leases where
  leases : List Lease
  nextLease : Nat
  chores : List Chore
  withheld : List (Nat × Nat)   -- (stack, program) withheld after a fence fault (R169)
  rotation : List (Nat × Nat)   -- (stack, next pseudo-channel) of the fixed rounds
  rounds : List (Nat × Nat)     -- (slice, instant of its last fixed round) (R168)
  cores : List StallCore        -- cores that have served a paddock (R177)
  fenceRecords : List (Nat × Nat × Nat)   -- lease, program, refused address
  programs : List (Nat × Nat)   -- (program, ABI that it declares) of the running bundle (R176)
deriving DecidableEq, Repr

end Sys2Proof.Machine
end

