-- ==== Sys2Proof/Machine/NetTypes.lean ====
section
/-! DEFINITION. Links (R181–R185, R342), queue pairs and their contexts (R186–R221), miss buffers (R212–R215), CONNECT
state (R192–R196). -/

namespace Sys2Proof.Machine

/-- Connection states (R197). -/
inductive QpState where
  | ready | draining | error | quarantine
deriving DecidableEq, Repr

/-- A packet of this node that is not acknowledged (R202). -/
structure OutPkt where
  psn : Nat
  msn : Nat
  opcode : Nat
  flags : Nat
  offset : Nat
  len : Nat
  payload : Bytes
  sentAt : Nat
  resent : Bool
  tc : Nat                      -- traffic class
  frees : Option Nat            -- MSN of the request that is consumed once this packet is sent (R198)
deriving DecidableEq, Repr

/-- A message that is being received (R187, R209). -/
structure InMsg where
  msn : Nat
  opcode : Nat
  len : Nat
  firstPsn : Nat
  got : List (Nat × Bytes)      -- (packet index, payload)
  final : Bool
  lastPsn : Nat
deriving DecidableEq, Repr

/-- A message of this node that waits to be cut into packets (R187). -/
structure OutMsg where
  opcode : Nat
  body : Bytes
  final : Bool
  pcp : Nat
  answers : Option Nat          -- MSN of the request that it answers
deriving DecidableEq, Repr

/-- A LWRITE_FINAL whose line waits to take effect (R207): its packet's PSN, its message's MSN and body, and whether
what must precede the effect is done: O2's work on a control record (R231), the commit of a pair window (R307). -/
structure FinalWrite where
  psn : Nat
  msn : Nat
  body : Bytes
  settled : Bool
deriving DecidableEq, Repr

/-- The PSNs that a message of a sprayed connection takes (R187): its MSN, its first PSN, its packets. -/
structure Span where
  msn : Nat
  first : Nat
  packets : Nat
deriving DecidableEq, Repr

/-- The receiving side of a connection. -/
structure RxSide where
  expect : Nat                  -- E (R200)
  accepted : List Nat           -- PSNs accepted beyond E (sprayed)
  msgs : List InMsg             -- being reassembled
  nextMsn : Nat                 -- next MSN to deliver; sprayed: the lowest not opened
  slots : Nat                   -- RECV_SLOTS this node offers
  used : List (Nat × Nat)       -- (MSN, bytes) of messages that hold a slot and staging (R198)
  nakSent : Bool
  refusing : Option Nat         -- PSN under RNR_NAK (R199)
  sinceAck : Nat
  ackAt : Option Nat            -- ACK_DELAY deadline
  lastAck : Option Nat
  lastCnp : Option Nat
  hole : Option Nat             -- hole timer deadline (R210)
  finals : List FinalWrite      -- FINAL packets that wait, oldest first (R207)
  held : List InMsg             -- whole messages whose FINAL has not taken effect, other than LWRITE_FINAL (R207)
  outstanding : List (Nat × Nat)             -- (MSN, opcode) delivered and not answered
  prios : List (Nat × Nat)                   -- (MSN, priority of its LAST packet) (R184)
  lastErrNak : Option Nat                    -- R217 step 4
  drainFrom : Option Nat                     -- MSN of the DISCONNECT received
  txHigh : Nat                               -- highest TX_COUNT accepted (R221)
  txSeen : List Nat
  nextFirst : Nat               -- sprayed: the PSN at which message nextMsn begins
  spans : List Span             -- sprayed: messages opened beyond nextMsn
deriving DecidableEq, Repr

/-- The sending side of a connection. -/
structure TxSide where
  nextPsn : Nat
  nextMsn : Nat
  queue : List OutMsg
  ready : List OutPkt           -- cut into packets and not sent yet
  unacked : List OutPkt
  w : Nat
  credit : Nat
  srtt : Nat
  holdUntil : Nat
  retries : Nat
  rtoAt : Option Nat
  rnrCount : Nat
  rnrPsn : Nat
  rnrUntil : Option Nat
  peerSlots : Nat
  sentDisconnect : Bool
  disconnectPsn : Option Nat
  txCount : Nat
  asked : List (Nat × Nat)      -- requests of this node without a response: (opcode, tag)
  control : List (Nat × Nat × Nat)   -- control packets that wait for the context: PKT_TYPE, PSN, MSG_OFFSET (R213)
deriving DecidableEq, Repr

/-- A queue pair's context (R190–R221). -/
structure Qp where
  qpn : Nat
  state : QpState
  service : Nat
  paddock : Nat
  version : Nat                 -- VERSIONS bit in force: 1, 2 or 4
  enc : Bool
  spray : Bool
  mtu : Nat
  peerQpn : Nat
  myTkey : Nat
  peerTkey : Nat
  srcNode : Nat
  window : Option (Nat × Nat)   -- window index and W_GEN (R226)
  initiator : Bool              -- this node opened it
  keys : Bytes                  -- packet keys and salts (R220)
  homeSlice : Nat
  homePort : Nat                -- link
  udpPort : Nat
  src : Bytes                   -- peer's address
  stateUntil : Nat              -- end of ERROR hold or QUARANTINE
  pinned : Bool                 -- R292
  wrapped : Bytes               -- TKEY, keys and salts as the context store holds them; none before a write-back (R212)
  mgmtSession : Option Nat
  rx : RxSide
  tx : TxSide
deriving DecidableEq, Repr

/-- An ACCEPT kept for a repeated PROOF (R196). -/
structure RecentAccept where
  src : Bytes
  nonceI : Bytes
  initQpn : Nat
  respQpn : Nat
  accept : Bytes
  at_ : Nat
  sent : Bool                   -- false while a takeover waits (R227)
deriving DecidableEq, Repr

/-- A CHALLENGE that this node gave and that a PROOF may still carry (R192, R196): whom it answered, the two nonces
and the interval of the timebase. -/
structure Issued where
  src : Bytes
  nonceI : Bytes
  nonceN : Bytes
  fields : Bytes
  at_ : Nat
deriving DecidableEq, Repr

/-- A CONNECT attempt of this node (R196). -/
structure Attempt where
  initQpn : Nat
  partner : Nat
  paddock : Nat
  key : Bytes
  phase : Nat                   -- 1 HELLO sent, 3 PROOF sent
  hello : Bytes
  nonceI : Bytes
  nonceN : Bytes
  resends : Nat
  sentAt : Nat
  stream : Option Nat
deriving DecidableEq, Repr

/-- A link Pn.k (R181, R342, R368). -/
structure Link where
  id : Nat                      -- port × 4 + k
  up : Bool
  enabled : Bool
  shuttingDown : Option Nat     -- since when (R368)
  reenable : Bool
  gen : Nat
  rate : Nat                    -- Gb/s
  chassis : Bytes
  peerPort : Bytes
  neighbour : Bool
  discarded : Nat               -- port error counter (R182)
  xoffSent : List Nat           -- priorities for which XOFF is in force (R214)
deriving DecidableEq, Repr

/-- Everything of the network side. -/
structure Net where
  links : List Link
  qps : List Qp
  cached : List Nat             -- QPNs in the context cache, least recently used first (R212)
  evicting : List Nat           -- contexts that leave the cache: the first is being written back (R215)
  fetches : List (Nat × Nat)    -- (port, QPN) in flight (R213)
  miss : List (Nat × Frame)     -- (port, frame) held in the miss buffers, arrival order
  blocked : List (Nat × Frame)  -- packets at the head of a stopped ingress queue (R214)
  discards : Nat                -- packets discarded and counted (R190, R221)
  recent : List RecentAccept
  issued : List Issued
  attempts : List Attempt
  inbox : List Msg              -- delivered messages (R206), newest last
  ptpLocked : Bool
  ptpOffset : Int
deriving DecidableEq, Repr

end Sys2Proof.Machine
end

