-- ==== Sys2Proof/Machine/NodeTypes.lean ====
section
/-! DEFINITION. Paddocks (R267–R300), SPDM and TDISP (R280–R287), debug (R288, R289, R403), the image's settings
(R328), start-up (R332–R348), ostlers (R349–R355), mailboxes (R356–R364), the log (R365–R367), power (R370–R388), the
registers that hold a value of their own (chapter "Register reference") and the Sherun monitor (R369). -/

namespace Sys2Proof.Machine

/-! ### Paddocks -/

/-- States of a tenant paddock (R267). -/
inductive PadState where
  | free | open_ | awaitSeal | sealed | teardown
deriving DecidableEq, Repr

/-- A Tally record (R297): the instant, the generation and counters 0–9 (R296). -/
structure TallyRec where
  instant : Nat
  generation : Nat
  counters : List Nat
deriving DecidableEq, Repr

/-- The configuration that PADDOCK_CREATE gives (R285, R298). -/
structure PadConfig where
  requireSeal : Bool
  tier2 : Bool
  weights : Bool
  sliceMask : Nat
  seqQuota : Nat
  t1Allow : Nat
  t2Allow : Nat
  connQuota : Nat
  keyHash : Bytes
deriving DecidableEq, Repr

/-- A paddock; paddock 0 is node management. -/
structure Pad where
  id : Nat
  state : PadState
  generation : Nat
  config : PadConfig
  ktp : Bytes                    -- transport key store entry (R274, R275); empty: zeroised
  kmem : List Bytes              -- its key slot on each attention die; empty: zeroised
  writeCounter : Nat             -- R115
  audit : Bool                   -- R318
  counters : List Nat            -- Tally counters 0–9 (R296)
  final : Option TallyRec        -- final snapshot of the last generation (R299)
  queued : Option (PadConfig × Bytes)   -- PADDOCK_CREATE queued during teardown (R300), with its K_tp
  sealedTeardown : Bool          -- the teardown that runs is of a sealed paddock
  zeroing : Bool                 -- the teardown has dispatched the zero-fill of its frames (R180, R299 step 4)
deriving DecidableEq, Repr

/-! ### SPDM, TDISP, debug -/

/-- An SPDM session (R280, R282): path 0 DOE, 1 MCTP, 2 GWT. -/
structure Session where
  id : Nat
  path : Nat
  qpn : Nat
  leafHash : Bytes               -- hash of the leaf key with mutual authentication; empty otherwise
  ems : Bytes                    -- Export Master Secret (R276)
  keys : Bytes                   -- session keys (R274)
  selected : Nat                 -- paddock of measurement index 5
deriving DecidableEq, Repr

/-- TDI states (R286, R287). -/
inductive Tdi where
  | unlocked | locked | run | error
deriving DecidableEq, Repr

/-- Security state: sessions, TDI, DICE identity, debug policy and `DBG_STAT` (R403), JTAG (R288, R324). -/
structure Security where
  sessions : List Session
  nextSession : Nat
  tdi : Tdi
  bar0Shut : Bool                -- the TDI has been in ERROR and the interface is not locked again yet (R287)
  deviceIdentity : Bytes
  wrapKey : Bytes                -- context wrapping key (R212)
  connectSecret : Bytes          -- secret of the CHALLENGE nonces (R192)
  permitted : Bool
  sticky : Bool
  dbgBusy : Bool
  dbgReason : Nat
  dbgChanged : Bool
  withdrawPending : Bool
  jtag : Jtag
  zeroised : List Nat            -- partitions zeroised for internal scan (R324)
deriving DecidableEq, Repr

/-! ### The image's settings (R328) -/

/-- Settings of one slice: SLICES, TIERS, SCHEDULE, PADDOCK_POLICY and SERVICE values. -/
structure SliceCfg where
  id : Nat
  groups : List (Nat × Nat)      -- (die, cluster group)
  hbms : List Nat
  policy : Nat                   -- 0 open, 1 sealed, 2 hard
  metaFrames : Nat               -- M in frames (R147)
  descFirst : Nat                -- descriptor page range (R148)
  descCount : Nat
  ledgerRows : Nat               -- its Ledger partition (R239)
  staging : Nat                  -- receive staging bytes (R198)
  freeCrit : Nat                 -- percent (R152)
  freeLow : Nat
  freeHigh : Nat
  demoteHeat : Nat
  promoteHeat : Nat
  portShare : Nat
  leaseTime : Nat                -- ns (R165)
  leaseTimeMax : Nat
  leasePcs : Nat
  leasePeriod : Nat
  admitWindow : Nat
  admitSteps : Nat
  shares : List (Nat × Nat)      -- (paddock, SHARE in 1/256)
  reserved : List (Nat × Nat)    -- (paddock, reserved clusters per die)
  frontDelay : Nat               -- ns; 0 when not applied
  clockMhz : Nat                 -- pinned CLOCK_MHZ; 0 when not pinned
deriving DecidableEq, Repr

/-- A link's own addresses and VLAN (R181, R328): the MAC address, the IPv4 and IPv6 address, the VLAN ID. -/
structure LinkAddr where
  link : Nat
  mac : Bytes
  ipv4 : Bytes
  ipv6 : Bytes
  vlan : Nat
deriving DecidableEq, Repr

/-- Transport values (R203) and PORTS values (R181–R185). -/
structure TransportCfg where
  rto : Nat
  retryMax : Nat
  rnrDelay : Nat                 -- µs
  rnrRetryMax : Nat
  ackEvery : Nat
  ackDelay : Nat
  sprayTimeout : Nat
  cnpInterval : Nat
  errorHold : Nat
  quarantine : Nat
  udpPort : Nat
  frame8318 : List Nat           -- ports that admit frames of 8,318 bytes (R183)
  prioMap : List (Nat × Nat)     -- (traffic class, PFC priority)
  pfcOn : List Nat               -- priorities with PFC on
  ptpPort : Nat
  modes : List Nat               -- links per port: 1, 2 or 4 (R181)
  tagged : List Nat              -- ports whose frames carry an 802.1Q tag (R182)
  addresses : List LinkAddr      -- of each link (R181)
deriving DecidableEq, Repr

/-- POWER section and thermal values (R380–R383). -/
structure PowerCfg where
  limits : Nat × Nat             -- lowest and highest POWER_LIMIT in W that POWER_SET may set (R328, R331)
  k1Idle : Nat
  k2Idle : Nat
  n2Idle : Nat
  points : List (Nat × Nat)      -- DVFS points: MHz, mV
  tThrottle : Int                -- 0.1 °C
  throttleFloor : Nat
  tEmerg : Int
deriving DecidableEq, Repr

/-- SERVICE, SECURITY, INTERFACES and FABRIC values. -/
structure ServiceCfg where
  drainTime : Nat                -- ns
  ledgerPart0 : Nat
  ledgerReserve : Nat
  shareRecords : Nat             -- size of the share-count table (R107)
  subtree : Nat                  -- log2 of s (R124)
  heatEpoch : Nat
  pairOpen : Nat
  pairSealed : Nat
  mirrorHold : Nat
  shadowRate : Nat               -- one STEP in this many; 0 off
  spareWait : Nat
  frameCeLimit : Nat
  lbistPeriod : Nat
  connQuota : Nat
  contextSlice : Nat             -- home of the QP context store
  sealedTc : Nat
  sealedContexts : Nat
  debugAllowed : Bool
  rollbackFloor : Nat
  majors : List Nat              -- accepted mailbox majors
  bundleMin : Nat                -- accepted bundle versions, major × 256 + minor
  bundleMax : Nat
  fmHashes : List Bytes
  fmAddresses : List Bytes
  joinPort : Nat
  probation : Nat × Nat × Nat    -- PROBATION_TIME, PROBATION_SERVE, JOIN_TIMEOUT in ns
deriving DecidableEq, Repr

/-- The limits that an image sets to SCHED_SET and GCL_SET (R331). -/
structure SchedLimits where
  quantum : Nat                  -- highest QUANTUM
  rate : Nat                     -- highest RATE
  burst : Nat                    -- highest BURST
  cycleMin : Nat
  cycleMax : Nat
deriving DecidableEq, Repr

/-- A region of an ostler's memory protection (R349, R350): its addresses [base, base + length). -/
structure ProtRegion where
  ostler : Nat
  base : Nat
  length : Nat
deriving DecidableEq, Repr

/-- FIRMWARE section (R328, R350): the ostler of each component, and the protection regions. -/
structure FirmwareCfg where
  components : List (Nat × Nat)  -- (COMP_ID, TARGET)
  regions : List ProtRegion
deriving DecidableEq, Repr

/-- Scheduler defaults (R265). -/
structure SchedCfg where
  limits : SchedLimits
  quantumAdmit : Nat
  quantumEgress : Nat
  quanta : List (Nat × Nat × Nat × Nat)              -- scheduler, class, paddock, QUANTUM
  cycle : Nat
  gateBase : Nat
  catchupMax : Nat
  starveTime : Nat
  gcls : List (Nat × Nat × List (Nat × Nat × Nat))   -- scheduler, CYCLE, entries: INTERVAL, GATE_MASK, SLICE_SEL
  bridles : List (Nat × Nat × Nat × Nat × Nat)       -- scheduler (16: egress), class, paddock, RATE, BURST
  timings : List (Nat × Nat × Nat × Nat)             -- scheduler, GATE_BASE, CATCHUP_MAX, STARVE_TIME of its own (R265)
deriving DecidableEq, Repr

/-- The image in force as settings. -/
structure Image where
  loaded : Bool
  version : Nat
  securityEpoch : Nat
  slices : List SliceCfg
  transport : TransportCfg
  power : PowerCfg
  service : ServiceCfg
  sched : SchedCfg
  firmware : FirmwareCfg
  cxlPorts : List Nat            -- Tier-2 ports of the image (R145)
  t2Ports : List (Nat × Nat)     -- (slice, port 0–2 dedicated to it) (R158)
  t2Allow : List (Nat × Nat)     -- (paddock, Tier-2 allowance in bytes) (R156)
deriving DecidableEq, Repr

/-! ### Start-up -/

/-- Slot states (R333). -/
inductive SlotState where
  | empty | pending | probation | active | fallback | failed
deriving DecidableEq, Repr

/-- One slot of the slot control record, and the bytes written into it. -/
structure ImageSlot where
  state : SlotState
  reason : Nat
  version : Nat
  epoch : Nat
  bytes : List Host.Cell
deriving DecidableEq, Repr

/-- A copy of the slot control record (R332): its sequence number, the state and REASON of each slot, and its CRC-32C. -/
structure CtrlCopy where
  seq : Nat
  slots : List (SlotState × Nat)
  check : Nat
deriving DecidableEq, Repr

/-- Code of a slot state in RIM_STAT. -/
def SlotState.code : SlotState → Nat
  | .empty => 0
  | .pending => 1
  | .probation => 2
  | .active => 3
  | .fallback => 4
  | .failed => 5

/-- The bytes that the CRC-32C of a copy of the slot control record covers; the record's layout is open (R332; log 127). -/
def CtrlCopy.bytes (c : CtrlCopy) : Bytes :=
  toLe 4 c.seq ++ (c.slots.map fun x => toLe 1 x.1.code ++ toLe 1 x.2).flatten

/-- A copy of the slot control record with its check. -/
def CtrlCopy.sealed_ (seq : Nat) (slots : List (SlotState × Nat)) : CtrlCopy :=
  ⟨seq, slots, (crc32c (CtrlCopy.bytes ⟨seq, slots, 0⟩)).toNat⟩

/-- Power-up (R337–R339) and the pins of chapter 17. -/
structure PowerUp where
  vaux : Bool
  powerGood : Bool
  rstN : Bool
  phase : Nat                    -- 0 off, 1 regulators … 4 logic, 5 done
  on : List Nat                  -- phases turned on
  ready : List Nat               -- ready signals seen: phases 1–4
  retryAt : Option Nat
  held : Bool                    -- stays off until the next power-good or NODE_RST_N pulse
  pwrok : Bool
  thermtripN : Bool
  mgmtSel : Bool                 -- straps sampled (R411)
  mgmtId : Nat
  testMode : Bool
deriving DecidableEq, Repr

/-- An accepted or running join (R343–R345). -/
structure Join where
  attempt : Nat
  nonce : Bytes
  ephemeral : Nat                -- draw that names NODE_EPH
  link : Nat                     -- link of the last beacon
  sent : Option Nat              -- when the current beacon left
  nextAt : Option Nat            -- next beacon slot
  beacon : Bytes                 -- the current beacon, which the reply's signature covers
deriving DecidableEq, Repr

/-- Boot state: `BOOT_STAT`, the slots, the bundle, the join. -/
structure Boot where
  stage : Nat
  lastFail : Nat
  powerPhase : Nat
  attempts : Nat
  fwCause : Nat
  stacksStopped : Nat
  imageLock : Bool
  slots : List ImageSlot         -- slots 0 and 1
  inForce : Nat
  rimReason : Nat
  floor : Nat
  ctrl : List CtrlCopy           -- the two copies of the slot control record
  probationEnd : Option Nat
  startedAt : Nat                -- power-good of this start
  stageAt : Nat
  fwTotal : Option Nat
  fwPieces : List (Nat × Bytes)  -- FW_LOAD data by offset, newest first
  bundle : Option (Nat × Bytes)  -- running bundle: version, bytes
  join : Join
  nodeId : Nat
  nodeValid : Bool
  fmNode : Nat
  fmKey : Bytes
  fmAddress : Bytes
deriving DecidableEq, Repr

/-- An ostler (R349, R353), an RV32IMC core. -/
structure Ostler where
  id : Nat
  running : Bool
  restarting : Bool
  loaded : List (Nat × Bytes)    -- components in its SRAM of 256 KiB and 512 KiB, each at its LOAD address
  data : Bytes                   -- the rest of its data SRAM; zero beyond the bytes listed
  regs : List Nat                -- x0–x31
  regions : List ProtRegion      -- its protection unit, 16 regions at most
  inbox : List (List Bytes)      -- the hardware queue from each ostler to it
  restarts : List Nat            -- times of its restarts
  probationRestarts : Nat
deriving DecidableEq, Repr

/-! ### Mailboxes and log -/

/-- A mailbox (R356, R397). -/
structure Mailbox where
  buffer : Bytes
  busy : Bool
  done : Bool
  rejected : Bool
  notify : Bool
  irqEn : Bool
  latch : List TallyRec          -- TALLY_SNAPSHOT records
deriving DecidableEq, Repr

/-- A queued notification (R364): opcode, header PADDOCK, body after DROPPED. -/
structure Notice where
  opcode : Nat
  paddock : Nat
  body : Bytes
deriving DecidableEq, Repr

/-- A log record (R366). -/
structure LogRec where
  time : Nat
  seq : Nat
  severity : Nat
  unitKind : Nat
  code : Nat
  paddock : Nat
  masked : Bool
  unit : Nat
  count : Nat
  address : Nat
  object : Nat
  data : Bytes
deriving DecidableEq, Repr

/-- O5's log (R365–R367) and the ERR_* registers. -/
structure Log where
  records : List LogRec          -- ring of 65,536, newest last
  nextSeq : Nat
  retained : List LogRec
  replaced : Nat
  queue : List (ErrRep × Nat)    -- hardware error queue while O5 restarts, each report with its time of detection
  lostReports : Nat
  summary : Nat                  -- ERR_SUMMARY[4:0]
  irqEn : Nat                    -- ERR_CTL
  countCe : Nat
  countCt : Nat
  countUc : Nat
  countFt : Nat
  ceHistory : List (Nat × Nat)   -- (frame, time) of corrected errors (R320)
deriving DecidableEq, Repr

/-- A slice (KIND 2) or an ostler (KIND 3) under R368. -/
structure Function_ where
  kind : Nat
  id : Nat
  generation : Nat
  shutting : Bool
  reenable : Bool
deriving DecidableEq, Repr

/-- The host interface. -/
structure Host_ where
  boxes : List Mailbox           -- MBX0–MBX3
  doorbells : List Nat           -- doorbells that wait while O7 restarts
  notices : List Notice
  dropped : Nat
  functions : List Function_     -- slices and ostlers that a command has stopped or restarted (R368)
  slicesOff : List Nat           -- slices stopped by SLICE_CTL (R368)
  major : Nat                    -- header major of the host's last request, 0 before the first (R359)
deriving DecidableEq, Repr

/-! ### Power -/

/-- Node states (R372) with the phases of entry and exit. -/
inductive NState where
  | n0 | enteringN2 | n2 | exitingN2 (phase : Nat)
deriving DecidableEq, Repr

/-- Power and clocks (R370–R388). -/
structure Power where
  state : NState
  wakeSource : Nat
  wakePort : Nat
  wakeCount : Nat
  wakePending : Option (Nat × Nat × Nat)   -- a wake event during the entry: its SOURCE, port and time
  exitEnd : Nat                      -- when the exit ends at its maximum (R378)
  rnrSent : List Nat                 -- connections that had their RNR_NAK of this wake
  alarm : Option Nat
  idleSince : Nat
  pinned : List Nat                  -- contexts pinned on entry to N2
  points : List Nat                  -- point in force of groups 0–15
  ceilings : List Nat                -- point that POWER_SET last set
  forced : List Bool                 -- die held at the lowest point
  limit : Nat                        -- W
  average : Nat                      -- 0.1 W
  temps : List Int                   -- 0.1 °C: attention dies 0 and 1, I/O die
  throttle : List Bool
  throttleEvt : Bool
  emergEvt : Bool
  irqEn : Bool
  refOk : List Bool                  -- PCIe, Ethernet A, Ethernet B, system
  refLost : List Bool
  holdover : Bool
  f0Up : Bool
deriving DecidableEq, Repr

/-! ### Registers of their own -/

/-- Registers that hold a value no other unit holds. -/
structure Regs where
  n2Disable : Bool               -- NODE_CTL
  monitorDisable : Bool
  resetCause : Nat               -- RESET_STAT
  warmCount : Nat
  stageIrqEn : Bool              -- BOOT_CTL
  tlySel : Nat
  tlyIrqEn : Bool
  tlyPending : Option Nat        -- paddock of the pending snapshot
  tlyDone : Bool
  tlyOverrun : Bool
  tlyPaddock : Nat
  tlyState : Nat
  tlyLatch : TallyRec
  msixTable : List Nat           -- 32 words of 32 bits
  msixPba : Nat
  hiLatch : Option (Nat × Nat)   -- offset of the _HI register and its latched half (R390)
deriving DecidableEq, Repr

/-- The Sherun monitor (R369). -/
structure Sherun where
  executing : Bool
  rxOverflow : Bool
  lineDiscarded : Bool
  baud : Nat
  okCount : Nat
  errCount : Nat
  tracing : Bool
  trace : Bytes
deriving DecidableEq, Repr

/-- Identity and fuses (R1, R3, R393). -/
structure Fused where
  a768 : Bool                    -- QK4-A768, else QK4-A384
  revision : Nat
  serial : Bytes
  debugOff : Bool
  disabled : List (Nat × Nat)    -- clusters disabled by eFuse
  imageRoot : Bytes
  firmwareRoot : Bytes
deriving DecidableEq, Repr

/-- The Farrier record area (R320): retired frames and clusters, kept across starts. -/
structure Farrier where
  frames : List Nat
  clusters : List (Nat × Nat)
deriving DecidableEq, Repr

/-- What leaves the node other than by a connection. -/
inductive Output where
  | frame (link : Nat) (bytes : Bytes)
  | uart (bytes : Bytes)
  | msix (vector : Nat)
  | spdm (path session : Nat) (bytes : Bytes)
  | pldm (bytes : Bytes)
  | beacon (link : Nat) (dest : Bytes) (port : Nat) (bytes : Bytes)
  | lldp (link : Nat) (chassis port : Bytes)
  | delayReq (link : Nat)
  | pfc (link prio : Nat) (pause : Bool)
  | bar0 (bytes : Bytes)
  | configRetry                  -- Configuration Request Retry Status (R340)
  | jtag (code : Nat)
  | pps
deriving DecidableEq, Repr

end Sys2Proof.Machine
end

