-- ==== Sys2Proof/Machine/State.lean ====
section
/-! DEFINITION. The state of the QK4 as a block: every register, table, queue and pin of the manual, the queue of
waiting commands, and the state right after a cold reset with VAUX_1P8 up and power-good absent (R392, R411). -/

namespace Sys2Proof.Machine

/-- Why a command stops the machine. -/
inductive Fault where
  /-- Raised by SHR_MR and SHR_MW at a physical address that R144 and R145 reserve: no memory and no register exists
  there. Safe: the model stops where the manual gives no value. -/
  | reservedAddress
deriving DecidableEq, Repr

/-- Why a command has no meaning in the model. -/
inductive Refusal where
  /-- Answered only by an arm of exec that has no meaning yet. Safe: nothing is claimed about such a command. -/
  | notModelled (mnemonic : String)
deriving DecidableEq, Repr

/-- The state of the node. `pending` is the queue of waiting commands, first in, first out. `out` is what has left the
node (log 5); `rng` is the counter that draws and free values are applied to (log 7). -/
structure State where
  pending : List Instr
  out : List Output
  rng : Nat
  time : Nat
  fused : Fused
  farrier : Farrier
  power : PowerUp
  boot : Boot
  img : Image
  regs : Regs
  host : Host_
  log : Log
  ostlers : List Ostler
  pads : List Pad
  sec : Security
  net : Net
  maps : Maps
  store : Store
  eng : Engine
  sch : Scheds
  leases : Leases
  pwr : Power
  shr : Sherun
  mem : List Host.Cell
deriving DecidableEq, Repr

/-! ### Settings and contents at reset -/

/-- Defaults of a default slice (R122, R147, R152, R165, R198, R265). -/
def defaultSlice (a768 : Bool) (die : Nat) : SliceCfg where
  id := die
  groups := (List.range 8).map fun g => (die, g)
  hbms := (List.range (if a768 then 6 else 3)).map (die * 6 + ·)
  policy := 0
  metaFrames := 262144
  descFirst := die * 32768
  descCount := 32768
  ledgerRows := 245760
  staging := 1073741824
  freeCrit := 1
  freeLow := 4
  freeHigh := 8
  demoteHeat := 1
  promoteHeat := 6
  portShare := 25
  leaseTime := 50000
  leaseTimeMax := 1000000
  leasePcs := 4
  leasePeriod := 1000000
  admitWindow := 262144
  admitSteps := 32768
  shares := []
  reserved := []
  frontDelay := 0
  clockMhz := 0

/-- Defaults of R183, R184, R203. No port is tagged until an image says so (DESIGN CHOICE, log 11: R182 gives no value
before an image). -/
def defaultTransport : TransportCfg where
  rto := 64000
  retryMax := 7
  rnrDelay := 20
  rnrRetryMax := 7
  ackEvery := 16
  ackDelay := 2000
  sprayTimeout := 16000
  cnpInterval := 4000
  errorHold := 10000000
  quarantine := 100000000
  udpPort := 19830
  frame8318 := []
  prioMap := (List.range 8).map fun t => (t, t)
  pfcOn := [1, 3, 5, 6]
  ptpPort := 0
  modes := List.replicate 8 1
  tagged := []
  addresses := (List.range 8).map fun p => ⟨4 * p, zeros 6, zeros 4, zeros 16, 0⟩

/-- Defaults of R380, R381 and R383. -/
def defaultPower : PowerCfg where
  limits := (500, 1250)
  k1Idle := 20000
  k2Idle := 1000000
  n2Idle := 2000000000
  points := [(1750, 750), (1500, 700), (1250, 650), (1000, 600), (850, 575), (600, 550)]
  tThrottle := 950
  throttleFloor := 3
  tEmerg := 1020

/-- Defaults of R107, R124, R151, R203, R237, R245, R292, R320, R325, R335 and R343. -/
def defaultService : ServiceCfg where
  drainTime := 50000000
  ledgerPart0 := 32768
  ledgerReserve := 8
  shareRecords := 4194304
  subtree := 3
  heatEpoch := 100000000
  pairOpen := 2097152
  pairSealed := 262144
  mirrorHold := 20000000
  shadowRate := 65536
  spareWait := 1000000000
  frameCeLimit := 8
  lbistPeriod := 600000000000
  connQuota := 65536
  contextSlice := 0
  sealedTc := 4
  sealedContexts := 2048
  debugAllowed := false
  rollbackFloor := 0
  majors := [1, 2]
  bundleMin := 0
  bundleMax := 65535
  fmHashes := []
  fmAddresses := []
  joinPort := 19831
  probation := (600000000000, 120000000000, 100000000)

/-- Defaults of R265. -/
def defaultSched : SchedCfg where
  limits := ⟨65535, 16777215, 65536, 10000, 10000000⟩
  quantumAdmit := 64
  quantumEgress := 32
  quanta := []
  cycle := 100000
  gateBase := 0
  catchupMax := 1000000
  starveTime := 200000000
  gcls := []
  bridles := []
  timings := []

/-- The settings before an image is in force: every default of the manual (R328; log 11). -/
def defaultImage (a768 : Bool) : Image where
  loaded := false
  version := 0
  securityEpoch := 0
  slices := [defaultSlice a768 0, defaultSlice a768 1]
  transport := defaultTransport
  power := defaultPower
  service := defaultService
  sched := defaultSched
  firmware := ⟨[], []⟩
  cxlPorts := []
  t2Ports := []
  t2Allow := []

/-- A ring with nothing in it (R250). -/
def Ring.fresh (c : Nat) : Ring := ⟨c, [], 0, 0⟩

/-- The gate list that the image gives a scheduler: its CYCLE and entries; else one entry with every gate open. -/
def SchedCfg.gates (c : SchedCfg) (id : Nat) : Nat × List Gate :=
  match c.gcls.find? (·.1 == id) with
  | some g => (g.2.1, g.2.2.map fun e => ⟨e.1, e.2.1, e.2.2⟩)
  | none => (c.cycle, [⟨c.cycle, 255, 15⟩])

/-- GATE_BASE, CATCHUP_MAX and STARVE_TIME of a scheduler (R265). -/
def SchedCfg.timing (c : SchedCfg) (id : Nat) : Nat × Nat × Nat :=
  ((c.timings.find? (·.1 == id)).map (·.2)).getD (c.gateBase, c.catchupMax, c.starveTime)

/-- When the cycle under way at a time began: cycle k begins at GATE_BASE + k × CYCLE (R258). -/
def cycleBegan (base cycle now : Nat) : Nat := base + (now - base) / max 1 cycle * cycle

/-- The entry of a cycle that is in force some time after its start. -/
def entryAt : List Gate → Nat → Nat
  | [], _ => 0
  | [_], _ => 0
  | g :: gs, t => if t < g.interval then 0 else entryAt gs (t - g.interval) + 1

/-- A scheduler in its settings at a time (R258, R265). -/
def Sched.fresh (c : SchedCfg) (now id : Nat) : Sched where
  id := id
  rings := (List.range (if id < 16 then 3 else 8)).map Ring.fresh
  queues := []
  gcl := (c.gates id).2
  newGcl := none
  cycle := (c.gates id).1
  base := (c.timing id).1
  cycleStart := cycleBegan (c.timing id).1 (c.gates id).1 now
  length := (c.gates id).1
  entry := entryAt (c.gates id).2 (now - cycleBegan (c.timing id).1 (c.gates id).1 now)
  phaseErr := 0
  catchupMax := (c.timing id).2.1
  starve := (c.timing id).2.2
  buckets := []
  paused := []
  inUseUnits := 0
  inUseOps := 0

/-- A physical cluster before the Farrier has mapped it (R320). -/
def Cluster.fresh (die phys : Nat) : Cluster := ⟨die, phys, .spare false, .k0, [], 0, false, none, none, some 0⟩

/-- A link before it is trained. -/
def Link.fresh (id : Nat) : Link := ⟨id, false, true, none, false, 0, 1600, [], [], false, 0, []⟩

/-- A stack before training. -/
def Stack.fresh (i : Nat) : Stack :=
  ⟨i, false, false, false, false, List.replicate 64 0, List.replicate 64 0⟩

/-- A paddock that has never left FREE since cold reset. -/
def Pad.fresh (id : Nat) : Pad :=
  ⟨id, if id == 0 then .open_ else .free, 0, ⟨false, false, false, 0, 0, 0, 0, 0, []⟩, [], [], 0, false,
    List.replicate 10 0, none, none, false, false⟩

/-- A mailbox after reset. -/
def Mailbox.fresh : Mailbox := ⟨[], false, false, false, false, false, []⟩

/-- A Tally latch that reads 0. -/
def TallyRec.zero : TallyRec := ⟨0, 0, List.replicate 10 0⟩

/-- An ostler that has not started. -/
def Ostler.fresh (id : Nat) : Ostler :=
  ⟨id, false, false, [], [], List.replicate 32 0, [], List.replicate 8 [], [], 0⟩

/-- An empty image slot. -/
def ImageSlot.fresh : ImageSlot := ⟨.empty, 0, 0, 0, []⟩

/-- Nothing of a join yet. -/
def Join.fresh : Join := ⟨0, [], 0, 0, none, none, []⟩

/-- The stacks fitted (R1). -/
def Fused.hbms (f : Fused) : List Nat := if f.a768 then List.range 12 else [0, 1, 2, 6, 7, 8]

/-- Thermal design power in W (R1). -/
def Fused.tdp (f : Fused) : Nat := if f.a768 then 1250 else 950

/-- What the fuses hold in the model (log 1). -/
def Fused.standard : Fused where
  a768 := true
  revision := 0
  serial := zeros 16
  debugOff := false
  disabled := []
  imageRoot := zeros 48
  firmwareRoot := zeros 48

/-- Boot state at a cold reset. -/
def Boot.fresh (slots : List ImageSlot) (floor : Nat) (ctrl : List CtrlCopy) : Boot where
  stage := 0
  lastFail := 0
  powerPhase := 0
  attempts := 0
  fwCause := 0
  stacksStopped := 0
  imageLock := false
  slots := slots
  inForce := 0
  rimReason := 0
  floor := floor
  ctrl := ctrl
  probationEnd := none
  startedAt := 0
  stageAt := 0
  fwTotal := none
  fwPieces := []
  bundle := none
  join := Join.fresh
  nodeId := 0
  nodeValid := false
  fmNode := 0
  fmKey := []
  fmAddress := []

/-- Registers of their own at a cold reset (chapter "Register reference"). -/
def Regs.fresh : Regs where
  n2Disable := false
  monitorDisable := false
  resetCause := 0
  warmCount := 0
  stageIrqEn := false
  tlySel := 0
  tlyIrqEn := false
  tlyPending := none
  tlyDone := false
  tlyOverrun := false
  tlyPaddock := 0
  tlyState := 0
  tlyLatch := TallyRec.zero
  msixTable := (List.range 32).map fun i => if i % 4 == 3 then 1 else 0
  msixPba := 0
  hiLatch := none

/-- The log at a cold reset; ERR_CTL resets to 0b11100. -/
def Log.fresh : Log where
  records := []
  nextSeq := 1
  retained := []
  replaced := 0
  queue := []
  lostReports := 0
  summary := 0
  irqEn := 28
  countCe := 0
  countCt := 0
  countUc := 0
  countFt := 0
  ceHistory := []

/-- The host interface at a reset. -/
def Host_.fresh : Host_ := ⟨List.replicate 4 Mailbox.fresh, [], [], 0, [], [], 0⟩

/-- Security state at a reset; the keys are derived again at each start. -/
def Security.fresh : Security where
  sessions := []
  nextSession := 0
  tdi := .unlocked
  bar0Shut := false
  deviceIdentity := []
  wrapKey := []
  connectSecret := []
  permitted := false
  sticky := false
  dbgBusy := false
  dbgReason := 0
  dbgChanged := false
  withdrawPending := false
  jtag := .idcode
  zeroised := []

/-- The network at a reset. -/
def Net.fresh : Net where
  links := (List.range 8).map fun p => Link.fresh (p * 4)
  qps := []
  cached := []
  evicting := []
  fetches := []
  miss := []
  blocked := []
  discards := 0
  recent := []
  issued := []
  attempts := []
  inbox := []
  ptpLocked := false
  ptpOffset := 0

/-- Epoch state with no map: the current epoch is 0 (R240). -/
def Epochs.fresh : Epochs where
  current := 0
  previous := 0
  staged := 0
  stageResult := 0
  roles := [.current, .idle, .idle, .idle]
  drainEnd := none
  drainWaits := false
  heldPublish := none
  staging := none
  headerRead := false
  firstPublish := none

/-- Tables of the I/O die at a reset. -/
def Maps.fresh : Maps where
  windows := []
  regions := []
  ledger := []
  groups := []
  epochs := Epochs.fresh
  streams := []
  nextStream := 0
  deadlines := []
  fault := ⟨0, 0, 0, [], 0, 0, 0⟩

/-- The tiers at a reset of a part: nothing stored. -/
def Store.fresh (f : Fused) (retired : List Nat) : Store where
  seqs := []
  blocks := []
  nextBlock := 0
  nextMove := 0
  generations := []
  descPages := []
  roots := []
  deferred := []
  moves := []
  dirty := []
  retired := retired
  leaseTouched := []
  retries := []
  held := []
  ports := (List.range 3).map fun p => ⟨p, false, false, 0, []⟩
  hbms := f.hbms.map Stack.fresh
  weights := []
  weightSlots := (List.range 6).map fun i => ⟨i / 3, i % 3, none, false, 0⟩
  hints := []
  arrivals := []
  demoting := []
  heatEpochs := 0
  heatSince := [0, 0]
  poisonLines := []
  checkErrors := []
  parts := []
  expired := []

/-- The engine at a reset. -/
def Engine.fresh : Engine where
  clusters := ((List.range 2).map fun d => (List.range 68).map (Cluster.fresh d)).flatten
  sharedKtb := []
  descCache := []
  ops := []
  nextOp := 1
  shadowCount := []
  lbistNext := [0, 0]
  suspects := []

/-- The links of the ports in their modes (R181). -/
def TransportCfg.linkIds (c : TransportCfg) : List Nat :=
  ((List.range 8).map fun p => (List.range (c.modes.getD p 1)).map fun k => p * 4 + k).flatten

/-- The bridles of an image; a bridle starts with its BURST as credit. -/
def Image.freshBridles (img : Image) (now : Nat) : List (Nat × Nat × Nat × Bridle) :=
  img.sched.bridles.map fun b => (b.1, b.2.1, b.2.2.1, ⟨b.2.2.2.1, b.2.2.2.2, ((b.2.2.2.2 * 1024000 : Nat) : Int), now⟩)

/-- The schedulers of an image. -/
def Scheds.fresh (img : Image) (now : Nat) : Scheds where
  scheds := (img.slices.map fun c => Sched.fresh img.sched now c.id)
    ++ (img.transport.linkIds.map fun l => Sched.fresh img.sched now (16 + l))
  granted := []
  bridles := img.freshBridles now

/-- No lease. -/
def Leases.fresh : Leases := ⟨[], 0, [], [], [], [], [], [], []⟩

/-- Power at a reset of a part. -/
def Power.fresh (f : Fused) : Power where
  state := .n0
  wakeSource := 0
  wakePort := 0
  wakeCount := 0
  wakePending := none
  exitEnd := 0
  rnrSent := []
  alarm := none
  idleSince := 0
  pinned := []
  points := List.replicate 16 0
  ceilings := List.replicate 16 0
  forced := [false, false]
  limit := f.tdp
  average := 0
  temps := [0, 0, 0]
  throttle := [false, false]
  throttleEvt := false
  emergEvt := false
  irqEn := false
  refOk := List.replicate 4 false
  refLost := List.replicate 4 false
  holdover := false
  f0Up := false

/-- The monitor at a reset (115,200 baud). -/
def Sherun.fresh : Sherun := ⟨false, false, false, 115200, 0, 0, false, []⟩

/-- Power-up state with VAUX_1P8 up and power-good absent; NODE_PWROK low, THERMTRIP_N high (R411, R421). -/
def PowerUp.fresh : PowerUp where
  vaux := true
  powerGood := false
  rstN := true
  phase := 0
  on := []
  ready := []
  retryAt := none
  held := false
  pwrok := false
  thermtripN := true
  mgmtSel := false
  mgmtId := 0
  testMode := false

/-- The machine right after a cold reset (R392): every register at its Reset value, empty tables and queues. -/
def State.reset : State where
  pending := []
  out := []
  rng := 0
  time := 0
  fused := Fused.standard
  farrier := ⟨[], []⟩
  power := PowerUp.fresh
  boot := Boot.fresh [ImageSlot.fresh, ImageSlot.fresh] 0 (List.replicate 2 (CtrlCopy.sealed_ 0 [(.empty, 0), (.empty, 0)]))
  img := defaultImage true
  regs := Regs.fresh
  host := Host_.fresh
  log := Log.fresh
  ostlers := (List.range 8).map Ostler.fresh
  pads := [Pad.fresh 0]
  sec := Security.fresh
  net := Net.fresh
  maps := Maps.fresh
  store := Store.fresh Fused.standard []
  eng := Engine.fresh
  sch := Scheds.fresh (defaultImage true) 0
  leases := Leases.fresh
  pwr := Power.fresh Fused.standard
  shr := Sherun.fresh
  mem := []

end Sys2Proof.Machine
end

