-- ==== Sys2Proof/Machine/Ops.lean ====
section
/-! DEFINITION. Operations over the state that several families share: the timebase, draws, outputs, MSI-X (R399),
byte memory, paddocks, sequences, notifications (R364), the log (R365–R367) and the resets (R392). -/

namespace Sys2Proof.Machine

/-- What a command answers. -/
abbrev Result := Host.Outcome State Fault Refusal

/-! ### Time, draws, outputs -/

/-- The timebase at a deadline that has come (log 3). -/
def State.advanceTo (s : State) (t : Nat) : State := { s with time := max s.time t }

/-- `n` random bytes (log 7). -/
def State.draw (s : State) (n : Nat) : Bytes × State := (Config.random n s.rng, { s with rng := s.rng + 1 })

/-- A random number of `n` bytes. -/
def State.drawNat (s : State) (n : Nat) : Nat × State := (beNat (sub (Config.random n s.rng) 0 n), { s with rng := s.rng + 1 })

/-- One of `n` free choices, below `n` (log 8). -/
def State.choose (s : State) (f : Nat → Nat → Nat) (n : Nat) : Nat × State :=
  (if n ≤ 1 then 0 else f s.rng n % n, { s with rng := s.rng + 1 })

/-- Something that keeps the node out of N2 ends now: N2_IDLE runs anew (R373). -/
def State.stir (s : State) : State := { s with pwr := { s.pwr with idleSince := s.time } }

/-- Something leaves the node. -/
def State.emit (s : State) (o : Output) : State := { s with out := s.out ++ [o] }

/-! ### MSI-X (R399) -/

/-- The mask bit of a vector: bit 0 of its vector control word. -/
def Regs.vectorMasked (r : Regs) (v : Nat) : Bool := bit (r.msixTable.getD (4 * v + 3) 0) 0

/-- Send a vector's message, or set its pending bit while it is masked. -/
def State.sendVector (s : State) (v : Nat) : State :=
  if s.regs.vectorMasked v then
    { s with regs := { s.regs with msixPba := Nat.lor s.regs.msixPba (2 ^ v) } }
  else s.emit (.msix v)

/-- An event bit goes from `old` to `new` under an enable (R399). -/
def State.eventBit (s : State) (v : Nat) (enable old new : Bool) : State :=
  if enable && !old && new then s.sendVector v else s

/-! ### Byte memory -/

/-- What an address reads as: the listed byte, else 0 (log 12). -/
def Memory.read : List Host.Cell → Nat → Byte
  | [], _ => 0
  | (k, b) :: m, a => if k = a then b else if a < k then 0 else Memory.read m a

/-- Write one byte; writing 0 removes the entry, so that equal memories are equal lists. -/
def Memory.write : List Host.Cell → Nat → Byte → List Host.Cell
  | [], a, v => if v = 0 then [] else [(a, v)]
  | (k, b) :: m, a, v =>
    if a < k then (if v = 0 then (k, b) :: m else (a, v) :: (k, b) :: m)
    else if a = k then (if v = 0 then m else (a, v) :: m)
    else (k, b) :: Memory.write m a v

/-- Canonical form: addresses strictly rising, no byte equal to 0. -/
def Memory.wf : List Host.Cell → Bool
  | [] => true
  | [(_, b)] => b != 0
  | (a, b) :: (c, d) :: m => b != 0 && decide (a < c) && Memory.wf ((c, d) :: m)

/-- Bytes from an address on. -/
def Memory.readBytes (m : List Host.Cell) (a n : Nat) : Bytes := (List.range n).map fun i => Memory.read m (a + i)

/-- Write bytes from an address on. -/
def Memory.writeBytes (m : List Host.Cell) (a : Nat) : Bytes → List Host.Cell
  | [] => m
  | b :: bs => Memory.writeBytes (Memory.write m a b) (a + 1) bs

/-! ### Lookups -/

/-- A paddock; one without a record has never left FREE. -/
def State.pad (s : State) (p : Nat) : Pad := (s.pads.find? (·.id == p)).getD (Pad.fresh p)

/-- Store a paddock's record. -/
def State.putPad (s : State) (p : Pad) : State :=
  { s with pads := if s.pads.any (·.id == p.id) then updateFirst (·.id == p.id) (fun _ => p) s.pads else s.pads ++ [p] }

/-- Change a paddock. -/
def State.modPad (s : State) (p : Nat) (f : Pad → Pad) : State := s.putPad (f (s.pad p))

/-- Settings of a slice. -/
def State.sliceCfg (s : State) (i : Nat) : Option SliceCfg := s.img.slices.find? (·.id == i)

/-- A tenant paddock's part, in 256ths, of what a slice divides among its tenants (R264, R291, R292): its SHARE in a slice of
sealed policy, everything in a hard slice, of which it is the one tenant (R269); no division in an open-policy slice. -/
def SliceCfg.shareOf (c : SliceCfg) (paddock : Nat) : Option Nat :=
  if paddock == 0 || c.policy == 0 then none
  else if c.policy == 2 then some 256
  else some (((c.shares.find? (·.1 == paddock)).map (·.2)).getD 0)

/-- A paddock's own share in 256ths (R264, R292): SHARE, all of it in a hard slice. Paddock 0 has what the shares leave (DESIGN
CHOICE, log 131). -/
def SliceCfg.partOf (c : SliceCfg) (paddock : Nat) : Nat :=
  (c.shareOf paddock).getD (256 - min 256 (sumNat (c.shares.map (·.2))))

/-! ### Where metadata lies (R88, R90, R144–R148) -/

/-- Frames of one stack's region (R144). -/
def regionFrames : Nat := 2097152

/-- The slice's frame with a slice-local index (R146): regions in ascending order. -/
def SliceCfg.frameOf (c : SliceCfg) (i : Nat) : Nat :=
  c.hbms.getD (i / regionFrames) 0 * regionFrames + i % regionFrames

/-- The slice-local index of a frame. -/
def SliceCfg.localOf (c : SliceCfg) (frame : Nat) : Option Nat :=
  match c.hbms.findIdx? (· == frame / regionFrames) with
  | none => none
  | some k => some (k * regionFrames + frame % regionFrames)

/-- Records of the share-count table in a slice: the table is divided in proportion to stack counts. -/
def State.sharePart (s : State) (slice : Nat) : Nat :=
  match s.sliceCfg slice with
  | none => 0
  | some c => s.img.service.shareRecords * c.hbms.length / max 1 (sumNat (s.img.slices.map fun x => x.hbms.length))

/-- Bytes of a metadata region that serve descriptor pages, the share-count table, receive staging and the QP context
store. DESIGN CHOICE (log 101): they lie at the top of the region. -/
def State.metaFixed (s : State) (c : SliceCfg) : Nat :=
  c.descCount * 4096 + s.sharePart c.id * 16 + c.staging + (if s.img.service.contextSlice == c.id then 134217728 else 0)

/-- The physical address of a byte of a metadata region. -/
def SliceCfg.metaAddress (c : SliceCfg) (off : Nat) : Nat := c.frameOf (off / 32768) * 32768 + off % 32768

/-- The physical address of a descriptor page (R88): in the fixed part of its slice's region. -/
def State.descAddress (s : State) (c : SliceCfg) (page : Nat) : Nat :=
  c.metaAddress (c.metaFrames * 32768 - s.metaFixed c + (page - c.descFirst) * 4096)

/-- Directory entries of a sequence: E of R90. -/
def Shape.blocksPerRow (h : Shape) : Nat := (h.maxLength - h.shardStart) / 64
def Shape.entryCount (h : Shape) : Nat := h.blocksPerRow * h.layers * h.kvHeads
/-- L1_PAGES of R91. -/
def Shape.l1Pages (h : Shape) : Nat := ceilDiv (ceilDiv h.entryCount 128) 127

/-- The place of an entry in the order of R90. -/
def Shape.entryIndex (h : Shape) (layer head block : Nat) : Nat :=
  (layer * h.kvHeads + head) * h.blocksPerRow + (block - h.shardStart / 64)

/-- Directory page of an entry (R90). -/
def Shape.pageOf (h : Shape) (layer head block : Nat) : Nat := h.entryIndex layer head block / 128

/-- The metadata frames that the controller writes when a sequence changes: those of directory pages, tail table, prefix page,
heat array and descriptor (R87–R91, R118). -/
def State.seqWrites (s : State) (q x : Seq) : List Nat :=
  let entries := fun (y : Seq) (page : Nat) => (y.entries.filter fun e => y.shape.pageOf e.layer e.head e.block == page).map
    fun (e : Entry) => if y.sealed then { e with heat := 0 } else e
  let heats := fun (y : Seq) => y.entries.map fun (e : Entry) => (y.shape.entryIndex e.layer e.head e.block, e.heat)
  let pages := (x.pages.filter fun y => entries q y.index != entries x y.index).map fun (y : DirPage) => y.address
  let heat := if x.sealed then ((heats x).filter fun h => !(heats q).contains h).map fun h => x.addresses.getD 3 0 + h.1 / 2 else []
  let table := if q.lens == x.lens then [] else [x.addresses.getD 1 0]
  let hashes := if q.hashes == x.hashes then [] else [x.addresses.getD 2 0]
  let bare := fun (y : Seq) => { y with entries := [], pages := [] }
  let desc := if bare q == bare x then []
    else ((s.sliceCfg x.slice).map fun c => s.descAddress c (x.desc / 16) + x.desc % 16 * 256).toList
  (pages ++ heat ++ table ++ hashes ++ desc).map (· / 32768)

/-- The record of metadata frames that a lease has touched, once sequences have changed: a frame that the controller has
written since is on it no more (R175). -/
def State.touchedAfter (s : State) (f : Seq → Seq) : List (Nat × Nat) :=
  if s.store.leaseTouched.isEmpty then s.store.leaseTouched
  else
    let fs := (s.store.seqs.map fun q => s.seqWrites q (f q)).flatten
    s.store.leaseTouched.filter fun x => !fs.contains x.1

/-- The sequence that a paddock holds under an ID, live or lost; one in STATE 2 is found no more (R113). -/
def State.findSeq (s : State) (p q : Nat) : Option Seq :=
  s.store.seqs.find? fun x => x.paddock == p && x.id == q && !x.state.leaving

/-- The sequence in a descriptor slot. -/
def State.seqAt (s : State) (d : Nat) : Option Seq := s.store.seqs.find? (·.desc == d)

/-- Change the sequence in a descriptor slot. -/
def State.modSeq (s : State) (d : Nat) (f : Seq → Seq) : State :=
  { s with store := { s.store with
      seqs := updateFirst (·.desc == d) f s.store.seqs
      leaseTouched := s.touchedAfter fun q => if q.desc == d then f q else q } }

/-- A closed block by number. -/
def State.block (s : State) (n : Nat) : Option Block := s.store.blocks.find? (·.num == n)

/-- Change a closed block. -/
def State.modBlock (s : State) (n : Nat) (f : Block → Block) : State :=
  { s with store := { s.store with blocks := updateFirst (·.num == n) f s.store.blocks } }

/-- An operation in flight. -/
def State.op (s : State) (i : Nat) : Option Op := s.eng.ops.find? (·.id == i)

/-- Change an operation in flight. -/
def State.modOp (s : State) (i : Nat) (f : Op → Op) : State :=
  { s with eng := { s.eng with ops := updateFirst (·.id == i) f s.eng.ops } }

/-- A queue pair. -/
def State.qp (s : State) (q : Nat) : Option Qp := s.net.qps.find? (·.qpn == q)

/-- Change a queue pair. -/
def State.modQp (s : State) (q : Nat) (f : Qp → Qp) : State :=
  { s with net := { s.net with qps := updateFirst (·.qpn == q) f s.net.qps } }

/-- A window by index. -/
def State.window (s : State) (i : Nat) : Option Window := s.maps.windows.find? (·.index == i)

/-- Change a window. -/
def State.modWindow (s : State) (i : Nat) (f : Window → Window) : State :=
  { s with maps := { s.maps with windows := updateFirst (·.index == i) f s.maps.windows } }

/-- A pair stream by id. -/
def State.stream (s : State) (i : Nat) : Option Stream := s.maps.streams.find? (·.id == i)

/-- Change a pair stream. -/
def State.modStream (s : State) (i : Nat) (f : Stream → Stream) : State :=
  { s with maps := { s.maps with streams := updateFirst (·.id == i) f s.maps.streams } }

/-- Change a scheduler. -/
def State.modSched (s : State) (i : Nat) (f : Sched → Sched) : State :=
  { s with sch := { s.sch with scheds := updateFirst (·.id == i) f s.sch.scheds } }

/-- A scheduler by id. -/
def State.sched (s : State) (i : Nat) : Option Sched := s.sch.scheds.find? (·.id == i)

/-- Change an ostler. -/
def State.modOstler (s : State) (i : Nat) (f : Ostler → Ostler) : State :=
  { s with ostlers := updateFirst (·.id == i) f s.ostlers }

/-- Whether an ostler is restarting. -/
def State.restarting (s : State) (i : Nat) : Bool := s.ostlers.any fun o => o.id == i && o.restarting

/-- Change a link. -/
def State.modLink (s : State) (i : Nat) (f : Link → Link) : State :=
  { s with net := { s.net with links := updateFirst (·.id == i) f s.net.links } }

/-- Change a mailbox. -/
def State.modBox (s : State) (i : Nat) (f : Mailbox → Mailbox) : State :=
  { s with host := { s.host with boxes := updateAt i f s.host.boxes } }

/-- A mailbox. -/
def State.box (s : State) (i : Nat) : Mailbox := s.host.boxes.getD i Mailbox.fresh

/-- Whether an allocation, page or error that concerns a paddock is masked outside the node (R290). -/
def State.sealedPad (s : State) (p : Nat) : Bool := decide ((s.pad p).state = .sealed) || (s.pad p).sealedTeardown

/-- Add to a Tally counter, modulo 2^64 (R296). -/
def State.tally (s : State) (p counter amount : Nat) : State :=
  s.modPad p fun x => { x with counters := updateAt counter (fun c => (c + amount) % 2 ^ 64) x.counters }

/-! ### Notifications (R364) -/

/-- O7 writes the next queued notification once NOTIFY is clear. -/
def State.postNotice (s : State) : State :=
  if (s.box 3).notify || s.restarting 7 then s
  else
    match s.host.notices with
    | [] => s
    | n :: rest =>
      let body := toLe 4 s.host.dropped ++ n.body
      let head := toLe 1 1 ++ toLe 1 2 ++ toLe 2 n.opcode ++ toLe 4 body.length ++ zeros 8
        ++ toLe 2 n.paddock ++ toLe 2 2 ++ zeros 12
      let s := { s with host := { s.host with notices := rest } }
      let s := s.modBox 3 fun b => { b with buffer := head ++ body, notify := true }
      s.eventBit 3 (s.box 3).irqEn false true

/-- Queue a notification while O7 runs, the image accepts header major 2 and the host does not use major 1 (R352, R359): 256 at
most, the oldest dropped and counted. DESIGN CHOICE (log 125): the host uses the major of its last request. -/
def State.notify (s : State) (n : Notice) : State :=
  let q := s.host.notices ++ [n]
  let runs := s.ostlers.any fun o => o.id == 7 && (o.running || o.restarting)
  let s :=
    if !runs || !s.img.service.majors.contains 2 || s.host.major == 1 then s
    else if q.length > 256 then { s with host := { s.host with notices := q.drop 1, dropped := s.host.dropped + 1 } }
    else { s with host := { s.host with notices := q } }
  s.postNotice

/-! ### Resets (R392) -/

/-- What survives a node stop in flash, fuses and the always-on domain, with everything else at its reset value. -/
def State.afterStop (s : State) (boot : Boot) (regs : Regs) (log : Log) (sec : Security) (pwr : Power)
    (pads : List Pad) : State :=
  { State.reset with
    pending := s.pending, out := s.out, rng := s.rng, fused := s.fused, farrier := s.farrier, power := s.power,
    img := defaultImage s.fused.a768, boot := boot, regs := regs, log := log, sec := sec, pwr := pwr, pads := pads,
    sch := Scheds.fresh (defaultImage s.fused.a768) 0, store := Store.fresh s.fused s.farrier.frames }

/-- Paddocks after a reset: every tenant paddock FREE; what counts "since cold reset" stays over a warm one. -/
def Pad.afterWarm (p : Pad) : Pad :=
  { Pad.fresh p.id with generation := p.generation, final := p.final }

/-- A change of stage is an event of vector 5 and a STAGE notification (R364, R399). -/
def State.setStage (s : State) (st : Nat) : State :=
  if s.boot.stage == st then s
  else
    let s := { s with boot := { s.boot with stage := st, stageAt := s.time } }
    let s := if s.regs.stageIrqEn then s.sendVector 5 else s
    s.notify ⟨0x0102, 0, toLe 1 st⟩

/-- LAST_FAIL after an attempt that ended in a stage before SERVING (R340). -/
def Boot.failedAt (b : Boot) : Nat := if b.stage < 12 then max b.lastFail b.stage else b.lastFail

/-- A warm reset with its cause: in-flight work is discarded as at a node stop, every field but those that R392
keeps goes to its reset value, and the start begins again from ROM. -/
def State.warmReset (s : State) (cause : Nat) : State :=
  let boot := { Boot.fresh s.boot.slots s.boot.floor s.boot.ctrl with
    lastFail := if cause == 4 then s.boot.failedAt else s.boot.lastFail, stage := 2, startedAt := 0 }
  let regs := { Regs.fresh with resetCause := cause, warmCount := saturate 16 (s.regs.warmCount + 1) }
  let log := { Log.fresh with nextSeq := s.log.nextSeq, retained := s.log.retained, replaced := s.log.replaced }
  let sec := { Security.fresh with sticky := s.sec.sticky }
  let pwr := { Power.fresh s.fused with
    wakeCount := s.pwr.wakeCount, refOk := s.pwr.refOk, holdover := s.pwr.holdover, f0Up := s.pwr.f0Up }
  s.afterStop boot regs log sec pwr (s.pads.map Pad.afterWarm)

/-- A cold reset with its cause, power-good absent: the phases are off and NODE_PWROK is low (R417, R418). -/
def State.coldReset (s : State) (cause : Nat) : State :=
  let boot := Boot.fresh s.boot.slots s.boot.floor s.boot.ctrl
  let regs := { Regs.fresh with resetCause := cause, warmCount := 0 }
  let log := { Log.fresh with retained := s.log.retained, replaced := s.log.replaced }
  let t := s.afterStop boot regs log Security.fresh (Power.fresh s.fused) [Pad.fresh 0]
  { t with power := { s.power with
      powerGood := false, phase := 0, on := [], ready := [], retryAt := none, pwrok := false } }

/-! ### The log (R365–R367) -/

/-- Causes whose DATA names no layer, block or token position: the program of a fence fault, the structure and paddocks of a tag
mismatch, the number of lost reports. -/
def plainData (code : Nat) : Bool := code == 0x3004 || code == 0x5001 || code == 0x5006

/-- A record as it leaves the node (R290, R366). The DATA of a masked record reads as 0 unless its cause puts no masked value
there (DESIGN CHOICE, log 135). -/
def LogRec.bytes (r : LogRec) : Bytes :=
  toLe 8 r.time ++ toLe 4 r.seq ++ toLe 1 r.severity ++ toLe 1 r.unitKind ++ toLe 2 r.code
    ++ toLe 2 (r.paddock % 4096 + (if r.masked then 32768 else 0)) ++ toLe 2 r.unit ++ toLe 4 r.count
    ++ toLe 8 (if r.masked then 0 else r.address) ++ toLe 8 r.object
    ++ (if r.masked && !plainData r.code then zeros 16 else sub r.data 0 16) ++ zeros 8

/-- The retained log of 65 records (R367). -/
def Log.retain (l : Log) (r : LogRec) : Log :=
  if r.severity < 2 then l
  else if l.retained.length < 65 then { l with retained := l.retained ++ [r] }
  else
    let victim := if l.retained.any (·.severity == 2) then 2 else 3
    { l with
      retained := l.retained.eraseP (·.severity == victim) ++ [r]
      replaced := saturate 8 (l.replaced + 1) }

/-- The counter of a severity, saturating (ERR_COUNT_*). -/
def Log.count (l : Log) (severity : Nat) : Log :=
  match severity with
  | 0 => { l with countCe := saturate 32 (l.countCe + 1) }
  | 1 => { l with countCt := saturate 32 (l.countCt + 1) }
  | 2 => { l with countUc := saturate 32 (l.countUc + 1) }
  | _ => { l with countFt := saturate 32 (l.countFt + 1) }

/-- Set a bit of ERR_SUMMARY, with its MSI-X message. -/
def State.errSummary (s : State) (b : Nat) : State :=
  let old := bit s.log.summary b
  let s := { s with log := { s.log with summary := Nat.lor s.log.summary (2 ^ b) } }
  s.eventBit 4 (bit s.log.irqEn b) old true

/-- Whether a record coalesces with one that is held: Corrected, same CODE and unit, within 1 s (R365). -/
def LogRec.coalesces (r : LogRec) (e : ErrRep) (now : Nat) : Bool :=
  r.severity == 0 && e.severity == 0 && r.code == e.code && r.unitKind == e.unitKind && r.unit == e.unit
    && now ≤ r.time + 1000000000

/-- Add a record to the ring, the retained log, the counters and the summary; its TIME is that of the detection (R366). -/
def State.addRecord (s : State) (e : ErrRep) (detected : Nat := s.time) : State :=
  let sev := min e.severity 3
  let r : LogRec := ⟨detected, s.log.nextSeq, sev, e.unitKind, e.code, e.paddock, s.sealedPad e.paddock, e.unit, 1,
    e.address, e.object, if e.data.isEmpty then Config.errorData e.code s.log.nextSeq else e.data⟩
  let ring := s.log.records ++ [r]
  let l := { s.log with
    records := if ring.length > 65536 then ring.drop 1 else ring
    nextSeq := s.log.nextSeq + 1 }
  let s := { s with log := (l.retain r).count sev }
  let s := s.errSummary sev
  if sev ≥ 2 then s.notify ⟨0x0100, 0, r.bytes⟩ else s

/-- Whether the CRC-32C of a copy of the slot control record holds (R332). -/
def CtrlCopy.valid (c : CtrlCopy) : Bool := (crc32c c.bytes).toNat == c.check

/-- The valid copy of the slot control record with the higher sequence number (R332). -/
def Boot.record (b : Boot) : Option CtrlCopy :=
  (b.ctrl.filter CtrlCopy.valid).foldl (fun best c => match best with
    | none => some c
    | some x => if x.seq < c.seq then some c else best) none

/-- O1 writes the older copy of the slot control record: the one that is not in force (R332). -/
def Boot.writeRecord (b : Boot) : Boot :=
  let now := b.record
  let old := (b.ctrl.findIdx? fun c => some c != now).getD 0
  let new := CtrlCopy.sealed_ (((now.map (·.seq)).getD 0) + 1) (b.slots.map fun x => (x.state, x.reason))
  { b with ctrl := updateAt old (fun _ => new) b.ctrl }

/-- O1 takes the slots' states from the slot control record (R332). -/
def Boot.readRecord (b : Boot) : Boot :=
  match b.record with
  | none => b
  | some c => { b with slots := (b.slots.zip c.slots).map fun x => { x.1 with state := x.2.1, reason := x.2.2 } }

/-- The image on probation fails (R335): FAILED with its cause, logged as CODE 0x1002. The node goes on under it. -/
def State.failProbation (s : State) (reason : Nat) : State :=
  match s.boot.probationEnd with
  | none => s
  | some _ =>
    let i := s.boot.inForce
    let boot := { s.boot with
      probationEnd := none, rimReason := reason
      slots := updateAt i (fun x => { x with state := .failed, reason := reason }) s.boot.slots }
    let s := { s with boot := boot.writeRecord }
    let s := s.notify ⟨0x0103, 0, toLe 1 i ++ toLe 1 5 ++ toLe 1 reason⟩
    s.addRecord ⟨1, 0, 0x1002, 0, i, 0, 0, []⟩

/-- A Fatal record is logged and reaches the board controller over PLDM. -/
def State.fatalEvent (s : State) (e : ErrRep) (detected : Nat := s.time) : State :=
  let s := s.addRecord e detected
  s.emit (.pldm (((s.log.retained.getLast?).map LogRec.bytes).getD []))

/-- O5 logs a report that is not Fatal (R365): it joins a record that it coalesces with, or becomes one. -/
def State.logReport (s : State) (e : ErrRep) (detected : Nat := s.time) : State :=
  match s.log.records.find? (fun r => r.coalesces e detected) with
  | some r =>
    { s with log := { s.log with
      records := updateFirst (·.seq == r.seq) (fun x => { x with count := x.count + 1 }) s.log.records } }
  | none => s.addRecord e detected

/-- O5's handling of a report (R365): it is logged; a Fatal one fails a probation, reaches the board controller over
PLDM, and a warm reset follows. -/
def State.handleError (s : State) (e : ErrRep) (detected : Nat := s.time) : State :=
  if e.severity < 3 then s.logReport e detected
  else ((s.failProbation (Config.probationReason 0 % 256)).fatalEvent e detected).warmReset 4

/-- A report waits in the queue of 1,024 while O5 restarts (R354). -/
def State.queueReport (s : State) (e : ErrRep) : State :=
  if s.log.queue.length < 1024 then { s with log := { s.log with queue := s.log.queue ++ [(e, s.time)] } }
  else
    let s := { s with log := { s.log with lostReports := s.log.lostReports + 1 } }
    s.errSummary 4

/-- A report that is not Fatal, of the hardware or of an ostler. -/
def State.note (s : State) (e : ErrRep) : State := if s.restarting 5 then s.queueReport e else s.logReport e

/-- An error report of the hardware or of an ostler: O5 handles it, or it waits while O5 restarts. -/
def State.report (s : State) (e : ErrRep) : State := if s.restarting 5 then s.queueReport e else s.handleError e

/-- A unit other than a cluster is suspect: the next start tests it (R271; DESIGN CHOICE, log 105: R323 tests only clusters in
service). -/
def State.suspectUnit (s : State) (kind unit : Nat) : State :=
  { s with eng := { s.eng with suspects := s.eng.suspects.filter (· != (kind, unit)) ++ [(kind, unit)] } }

/-- A change of the fault status line (R317). -/
def State.modFault (s : State) (f : FaultLine → FaultLine) : State :=
  let g := f s.maps.fault
  if g = s.maps.fault then s
  else { s with maps := { s.maps with fault := { g with seq := (s.maps.fault.seq + 1) % 2 ^ 32 } } }

end Sys2Proof.Machine
end

