-- ==== Sys2Proof/Machine/Queues.lean ====
section
/-! DEFINITION. Queues, rings and waking (R246, R250, R252): an item joins its queue, and an empty queue that receives
one joins its ring's tail with a deficit of 0. Gates (R258–R261, R292), bridles (R256), and starvation clocks (R262). -/

namespace Sys2Proof.Machine

/-- The queue of a class and paddock. -/
def Sched.queue (d : Sched) (cls paddock : Nat) : Option Queue :=
  d.queues.find? fun q => q.cls == cls && q.paddock == paddock

/-- Change the queue of a class and paddock. -/
def Sched.modQueue (d : Sched) (cls paddock : Nat) (f : Queue → Queue) : Sched :=
  { d with queues := updateFirst (fun q => q.cls == cls && q.paddock == paddock) f d.queues }

/-- Change the ring of a class. -/
def Sched.modRing (d : Sched) (cls : Nat) (f : Ring → Ring) : Sched :=
  { d with rings := updateFirst (·.cls == cls) f d.rings }

/-- The ring of a class. -/
def Sched.ring (d : Sched) (cls : Nat) : Ring := (d.rings.find? (·.cls == cls)).getD (Ring.fresh cls)

/-- Join the tail of a ring: the last to be visited in the round under way, before the queues that the round has visited
already (R252). -/
def Ring.join (r : Ring) (paddock : Nat) : Ring :=
  if r.order.contains paddock then r
  else { r with order := r.order.take r.round ++ paddock :: r.order.drop r.round, round := r.round + 1 }

/-- Leave a ring. -/
def Ring.leave (r : Ring) (paddock : Nat) : Ring :=
  match r.order.findIdx? (· == paddock) with
  | none => r
  | some i => { r with order := r.order.filter (· != paddock), round := if i < r.round then r.round - 1 else r.round }

/-- An item joins its queue; a queue that was empty wakes (R252). -/
def Sched.enqueue (d : Sched) (quantum now cls paddock : Nat) (item : Item) (cost : Nat) : Sched :=
  let d : Sched := match d.queue cls paddock with
    | some _ => d
    | none => { d with queues := d.queues ++ [⟨cls, paddock, [], 0, quantum, false, none, now, 0, true, false⟩] }
  let empty := ((d.queue cls paddock).map (·.items.isEmpty)).getD true
  let d := d.modQueue cls paddock fun q => { q with items := q.items ++ [(item, cost)] }
  if empty then
    let d := d.modQueue cls paddock fun q => { q with
        deficit := 0, visited := false, wheelAt := none, since := now, counted := 0, counting := true }
    d.modRing cls fun r => r.join paddock
  else d

/-- QUANTUM of a queue: what the image sets per scheduler, class and paddock, else the default (R250, R265). -/
def State.quantum (s : State) (sched cls paddock : Nat) : Nat :=
  match s.img.sched.quanta.find? fun x => x.1 == sched && x.2.1 == cls && x.2.2.1 == paddock with
  | some x => x.2.2.2
  | none => if sched < 16 then s.img.sched.quantumAdmit else s.img.sched.quantumEgress

/-- Remove items that a test selects from every queue of a scheduler; queues left empty leave their rings. -/
def Sched.discard (d : Sched) (p : Item → Bool) : Sched :=
  let d : Sched := { d with queues := d.queues.map fun (q : Queue) => { q with items := q.items.filter fun i => !p i.1 } }
  let idle := fun (r : Ring) (k : Nat) => ((d.queue r.cls k).map (·.items.isEmpty)).getD true
  { d with rings := d.rings.map fun (r : Ring) => (r.order.filter (idle r)).foldl Ring.leave r }

/-! ### Gates (R258, R259, R261, R292) -/

/-- The list of a run-time change that the cycle starting now reaches (R260). -/
def Sched.adopt (d : Sched) (k : Nat) : Sched :=
  match d.newGcl with
  | some (from_, cycle, list) => if from_ ≤ k then { d with gcl := list, cycle := cycle, length := cycle, newGcl := none } else d
  | none => d

/-- The scheduler in its next cycle, when the one under way ends `late` ns after its end by the list (R258, R260, R261). -/
def Sched.nextCycle (d : Sched) (late : Nat) : Sched :=
  let start := d.cycleStart + d.length + late
  let e := d.phaseErr - (d.cycle - d.length) + late
  let k := if d.cycle == 0 then 0 else (start - e - d.base) / d.cycle
  let d := { d with cycleStart := start, length := d.cycle, entry := 0, phaseErr := e }.adopt k
  { d with length := d.cycle - min e (d.cycle / 8) }

/-- Lengths of the entries of a cycle of a given length: each scaled and rounded down to 8 ns, the last takes the
remainder (R261). -/
def Sched.durations (d : Sched) (length : Nat) : List Nat :=
  let scaled := d.gcl.map fun g => if d.cycle == 0 then g.interval else g.interval * length / d.cycle / 8 * 8
  let head := scaled.dropLast
  head ++ [length - sumNat head]

/-- The entries of the cycle under way and of those that follow, with their lengths as they stand now (R259–R261). -/
def Sched.coming : Nat → Sched → List (Gate × Nat)
  | 0, _ => []
  | n + 1, d => d.gcl.zip (d.durations d.length) ++ Sched.coming n (d.nextCycle 0)

/-- When an entry of the cycle under way begins. -/
def Sched.entryStart (d : Sched) (i : Nat) : Nat := d.cycleStart + sumNat ((d.durations d.length).take i)

/-- Whether a paddock's slices have a sealed policy (R269). -/
def State.sealedSlices (s : State) (paddock : Nat) : Bool :=
  s.img.slices.any fun c => c.policy != 0 && bit (s.pad paddock).config.sliceMask c.id

/-- Whether a queue carries the packets of a sealed-policy slice's connections (R249, R292). -/
def State.sealedQueue (s : State) (cls paddock : Nat) : Bool :=
  cls == s.img.service.sealedTc && paddock != 0 && s.sealedSlices paddock

/-- Whether an entry opens a class for a paddock: GATE_MASK, and SLICE_SEL on egress (R258); classes 6 and 7 are never
gated outside SEALED_TC (R249). -/
def State.gateOpen (s : State) (d : Sched) (g : Gate) (cls paddock : Nat) : Bool :=
  let egress := 16 ≤ d.id
  if egress && 6 ≤ cls && !s.sealedQueue cls paddock then true
  else bit g.mask cls && (!egress || g.sliceSel == 15 || bit (s.pad paddock).config.sliceMask g.sliceSel)

/-- The sub-window of a paddock in a slice's egress window: offset and width (R292). -/
def SliceCfg.subWindow (c : SliceCfg) (width paddock : Nat) : Nat × Nat :=
  let all := c.shares.filter (·.1 != 0)
  let total := max 1 (sumNat (all.map (·.2)))
  let w := fun (x : Nat × Nat) => width * x.2 / total / 8 * 8
  (sumNat ((all.filter (·.1 < paddock)).map w), ((all.find? (·.1 == paddock)).map w).getD 0)

/-- The sealed-policy slice whose sub-windows a paddock's frames wait for in an entry: the one that SLICE_SEL names, or the
paddock's own where it names none. DESIGN CHOICE (log 114): a window for every slice is split like the slice's own, for a
frame starts only in its paddock's sub-window (R292). -/
def State.sealedWindow (s : State) (d : Sched) (g : Gate) (cls paddock : Nat) : Option SliceCfg :=
  if d.id < 16 || !s.sealedQueue cls paddock then none
  else s.img.slices.find? fun c => c.policy == 1 && bit (s.pad paddock).config.sliceMask c.id && (g.sliceSel == 15 || g.sliceSel == c.id)

/-- How long a class stays open for a paddock from now on: `none` while it is closed, `some none` without end. Sixteen cycles
are looked at, which no gated element outlasts. -/
def State.gateLeft (s : State) (d : Sched) (cls paddock : Nat) : Option (Option Nat) :=
  if d.newGcl.isNone && d.gcl.all fun g => s.gateOpen d g cls paddock && (s.sealedWindow d g cls paddock).isNone then some none
  else
    match d.gcl[d.entry]? with
    | none => some none
    | some g =>
      if !s.gateOpen d g cls paddock then none
      else
        let start := d.entryStart d.entry
        let width := (d.durations d.length).getD d.entry 0
        match s.sealedWindow d g cls paddock with
        | some c =>
          let w := c.subWindow width paddock
          if start + w.1 ≤ s.time && s.time < start + w.1 + w.2 then some (some (start + w.1 + w.2 - s.time)) else none
        | none =>
          let run := ((Sched.coming 16 d).drop d.entry).takeWhile fun x => s.gateOpen d x.1 cls paddock
          some (some (start + sumNat (run.map (·.2)) - s.time))

/-- Nanoseconds that a work unit takes: its leaves' raw stored bytes at 230 GB/s (R259). -/
def StepWork.unitTime (w : StepWork) (u : WorkUnit) : Nat :=
  let mine := w.covers.filter fun c => c.head == u.head && w.attn.blockLo + u.first ≤ c.block
    && c.block < w.attn.blockLo + u.first + 2 ^ u.height
  ceilDiv (sumNat (mine.map fun c => c.recs.length * w.recShape.bytes)) 230

/-- Nanoseconds that the first gated element of an item takes: a frame at the link's rate, an operation's first work unit
(R246, R259). -/
def State.elementTime (s : State) (d : Sched) (i : Item) : Nat :=
  match i with
  | .work _ => 0
  | .frame f =>
    let rate := ((s.net.links.find? fun l => l.id + 16 == d.id).map (·.rate)).getD 1600
    ceilDiv (f.wire * 8) (max 1 rate)
  | .op id =>
    match (s.op id).bind (·.step) with
    | none => 0
    | some w => ((w.units.head?).map w.unitTime).getD 0

/-- Whether an element that takes some time fits the open window of its queue (R259). -/
def State.timeFits (s : State) (d : Sched) (cls paddock ns : Nat) : Bool :=
  match s.gateLeft d cls paddock with
  | none => false
  | some none => true
  | some (some t) => ns ≤ t

/-- Whether an item's gated element fits the open window. -/
def State.gateFits (s : State) (d : Sched) (q : Queue) (i : Item) : Bool := s.timeFits d q.cls q.paddock (s.elementTime d i)

/-- Whether a work unit of an admitted step fits the open window of its queue (R246, R259). -/
def State.unitFits (s : State) (o : Op) (w : StepWork) (u : WorkUnit) : Bool :=
  match s.sched o.slice with
  | none => true
  | some d => s.timeFits d o.cls o.req.paddock (w.unitTime u)

/-- Queues whose gate has closed leave their rings; those whose gate is open again re-enter at the tail with their deficit, in
ascending paddock order (R252, R266). -/
def State.regate (s : State) (d : Sched) : Sched :=
  let all := d.queues.filter fun q => !q.items.isEmpty && q.wheelAt.isNone
  let sorted := all.foldl (fun (l : List Queue) q =>
    l.takeWhile (fun x => x.paddock ≤ q.paddock) ++ q :: l.dropWhile fun x => x.paddock ≤ q.paddock) []
  sorted.foldl (fun (e : Sched) q =>
    let isOpen := (s.gateLeft e q.cls q.paddock).isSome
    let inside := (e.ring q.cls).order.contains q.paddock
    if isOpen && !inside then e.modRing q.cls fun r => r.join q.paddock
    else if !isOpen && inside then
      (e.modQueue q.cls q.paddock fun x => { x with visited := false }).modRing q.cls fun r => r.leave q.paddock
    else e) d

/-! ### Bridles and the timing wheel (R256, R257) -/

/-- The key of a scheduler's bridles: egress bridles are node-wide. -/
def Sched.bridleKey (d : Sched) : Nat := min d.id 16

/-- The bridle of a queue. -/
def State.bridle (s : State) (d : Sched) (cls paddock : Nat) : Option Bridle :=
  (s.sch.bridles.find? fun b => b.1 == d.bridleKey && b.2.1 == cls && b.2.2.1 == paddock).map (·.2.2.2)

/-- A bridle's credit brought up to a time, capped at BURST. -/
def Bridle.at_ (b : Bridle) (now : Nat) : Bridle :=
  { b with credit := min ((b.burst * 1024 * 1000 : Nat) : Int) (b.credit + ((b.rate * (now - b.last) : Nat) : Int)), last := now }

/-- Bytes that a bridle counts for an item: work units × 1,024 on admission, frame bytes on egress. -/
def itemBytes (cost : Nat) : Item → Nat
  | .op _ => cost * 1024
  | .work _ => cost * 1024
  | .frame f => f.wire

/-- Nanoseconds until the credit reaches the smaller of the cost and BURST; 0 when it is there. -/
def Bridle.wait (b : Bridle) (bytes : Nat) : Nat :=
  let goal : Int := ((min bytes (b.burst * 1024) * 1000 : Nat) : Int)
  if goal ≤ b.credit then 0 else ceilDiv (goal - b.credit).toNat (max 1 b.rate)

/-- Store a bridle. -/
def State.putBridle (s : State) (d : Sched) (cls paddock : Nat) (b : Bridle) : State :=
  let others := s.sch.bridles.filter fun x => !(x.1 == d.bridleKey && x.2.1 == cls && x.2.2.1 == paddock)
  { s with sch := { s.sch with bridles := others ++ [(d.bridleKey, cls, paddock, b)] } }

/-- Charge a release to its queue's bridle. -/
def State.chargeBridle (s : State) (d : Sched) (q : Queue) (bytes : Nat) : State :=
  match s.bridle d q.cls q.paddock with
  | none => s
  | some b =>
    let b := b.at_ s.time
    s.putBridle d q.cls q.paddock { b with credit := b.credit - ((bytes * 1000 : Nat) : Int) }

/-- Store a scheduler. -/
def State.putSched (s : State) (d : Sched) : State := s.modSched d.id fun _ => d

/-! ### Starvation clocks (R262) -/

/-- Whether PFC pauses a class at egress (R248). -/
def State.classPaused (s : State) (d : Sched) (cls : Nat) : Bool :=
  16 ≤ d.id && ((s.img.transport.prioMap.find? (·.1 == cls)).map (·.2)).any d.paused.contains

/-- Stop or start a queue's starvation clock. -/
def Queue.stop (q : Queue) (now : Nat) : Queue :=
  if q.counting then { q with counted := q.counted + (now - q.since), counting := false } else q
def Queue.start (q : Queue) (now : Nat) : Queue := if q.counting then q else { q with since := now, counting := true }

/-- Time that a queue's starvation clock has counted. -/
def Queue.clock (q : Queue) (now : Nat) : Nat := q.counted + (if q.counting then now - q.since else 0)

/-- Starvation clocks run only while a queue is off the wheel, its gate open and its class not paused (R262). -/
def State.reclock (s : State) (d : Sched) : Sched :=
  { d with queues := d.queues.map fun (q : Queue) =>
      if q.wheelAt.isSome then q
      else if (s.gateLeft d q.cls q.paddock).isSome && !s.classPaused d q.cls then q.start s.time else q.stop s.time }

/-- Put an item into a scheduler's queue. -/
def State.enqueue (s : State) (sched cls paddock : Nat) (item : Item) (cost : Nat) : State :=
  s.modSched sched fun d => s.reclock (d.enqueue (s.quantum sched cls paddock) s.time cls paddock item cost)

end Sys2Proof.Machine
end

