-- ==== Sys2Proof/Machine/Contexts.lean ====
section
/-! DEFINITION. The QP context cache on both ways (R212–R215): its places, evictions and fetches, and the GWT header of a
received frame (R186), which names the context. -/

namespace Sys2Proof.Machine

/-! ### The GWT header of a received frame (R186) -/

/-- Fields of the GWT header; reserved bits are ignored, except [23:18] of DEST_QPN (R190). -/
structure PktHead where
  type : Nat
  flags : Nat
  dest : Nat
  psn : Nat
  opcode : Nat
  len : Nat
  msn : Nat
  offset : Nat
  msgLen : Nat
  tkey : Nat
deriving DecidableEq, Repr

/-- Read the header. -/
def PktHead.parse (b : Bytes) : PktHead where
  type := be b 1 1
  flags := be b 2 2
  dest := be b 4 4 % 2 ^ 24
  psn := be b 8 4 % 2 ^ 24
  opcode := be b 12 1
  len := be b 14 2
  msn := be b 16 4 % 2 ^ 24
  offset := be b 20 4
  msgLen := be b 24 4
  tkey := be b 28 4

/-- FIRST, LAST, FINAL, SPRAY, ENC, ACK_REQ. -/
def PktHead.first (h : PktHead) : Bool := bit h.flags 0
def PktHead.last (h : PktHead) : Bool := bit h.flags 1
def PktHead.final (h : PktHead) : Bool := bit h.flags 2
def PktHead.spray (h : PktHead) : Bool := bit h.flags 3
def PktHead.enc (h : PktHead) : Bool := bit h.flags 4
def PktHead.ackReq (h : PktHead) : Bool := bit h.flags 5

/-- The header of a frame. -/
def hdr (f : Frame) : PktHead := PktHead.parse f.head

/-! ### Places (R212, R292) -/

/-- Whether a context is pinned in the cache: a sealed-policy slice's connection. -/
def State.contextPinned (s : State) (qpn : Nat) : Bool := ((s.qp qpn).map (·.pinned)).getD false

/-- Whether a context may be evicted (R212, R292). -/
def State.evictable (s : State) (qpn : Nat) : Bool :=
  match s.qp qpn with
  | none => true
  | some q => !q.pinned && !s.pwr.pinned.contains qpn && q.tx.unacked.isEmpty && q.rx.msgs.isEmpty && q.rx.finals.isEmpty
      && q.rx.held.isEmpty && q.tx.rnrUntil.isNone && !(s.net.inbox.any fun m => m.qpn == qpn && m.opcode == 0x42)
      && !((s.net.miss ++ s.net.blocked).any fun x => (hdr x.2).dest == qpn)

/-- A paddock's part of the SEALED_CONTEXTS reserved places, `none` outside slices of sealed policy (R292). DESIGN
CHOICE (log 133): the slices of sealed policy divide the places evenly, each among its tenants by SHARE. -/
def State.contextPart (s : State) (paddock : Nat) : Option Nat :=
  let all := (s.img.slices.filter fun c => c.policy != 0).length
  minBy id (s.img.slices.filterMap fun c => if bit (s.pad paddock).config.sliceMask c.id then
    (c.shareOf paddock).map fun n => s.img.service.sealedContexts * n / (256 * max 1 all) else none)

/-- Connections of a paddock that are not in QUARANTINE, with those that the node is opening. -/
def State.conCount (s : State) (paddock : Nat) : Nat :=
  (s.net.qps.filter fun q => q.paddock == paddock && decide (q.state ≠ .quarantine)).length
    + (s.net.attempts.filter fun a => a.paddock == paddock).length

/-- Whether a paddock's part of the reserved places has one more: the node's own connections hold theirs like a
requester's, so a pinned context always finds its place (R292, R294). -/
def State.contextPartLeft (s : State) (paddock : Nat) : Bool :=
  match s.contextPart paddock with
  | none => true
  | some n => s.conCount paddock < n

/-- Places of contexts that are not pinned: SEALED_CONTEXTS are reserved for those that are (R292). -/
def State.contextPlaces (s : State) : Nat :=
  8192 - (if s.img.slices.any (·.policy != 0) then s.img.service.sealedContexts else 0)

/-- Contexts of a list that are not pinned. -/
def State.loose (s : State) (qpns : List Nat) : Nat := (qpns.filter fun q => !s.contextPinned q).length

/-- Whether a context finds a place: one under write-back still holds its own (R215). -/
def State.contextFits (s : State) (qpn : Nat) : Bool :=
  let held := s.net.cached ++ s.net.evicting
  if s.contextPinned qpn then held.length < 8192 else s.loose held < s.contextPlaces && held.length < 8192

/-- The least recently used evictable context is chosen for write-back while the fetches under way find no place (R212). -/
def State.makeRoom (s : State) : State :=
  if s.contextPlaces < s.loose s.net.cached + s.net.fetches.length then
    match s.net.cached.find? s.evictable with
    | none => s
    | some v => { s with net := { s.net with cached := s.net.cached.filter (· != v), evicting := s.net.evicting ++ [v] } }
  else s


/-- A context is used: it becomes the most recent. -/
def State.touchContext (s : State) (qpn : Nat) : State :=
  if s.net.cached.contains qpn then { s with net := { s.net with cached := s.net.cached.filter (· != qpn) ++ [qpn] } }
  else s

/-- Fetch a context on a port, unless one fetch of it is in flight, its write-back is under way, or the port has 64
fetches in flight (R213, R215). -/
def State.startFetch (s : State) (port qpn : Nat) : State :=
  if s.net.fetches.any (·.2 == qpn) || s.net.evicting.contains qpn || 64 ≤ (s.net.fetches.filter (·.1 == port)).length then s
  else State.makeRoom { s with net := { s.net with fetches := s.net.fetches ++ [(port, qpn)] } }

/-- What the context store holds of a context's secrets: TKEYs, keys and salts wrapped under the device key (R212). -/
def State.wrapContext (s : State) (q : Qp) : Bytes :=
  Config.keyWrap s.sec.wrapKey (toBe 4 q.myTkey ++ toBe 4 q.peerTkey ++ q.keys)

/-- A new context enters the cache where there is a place; else it lies wrapped in the store, and a fetch of it waits for the
place that the eviction of the least recently used context gives (R212). -/
def State.cacheNew (s : State) (qpn : Nat) : State :=
  if s.contextFits qpn then { s with net := { s.net with cached := s.net.cached ++ [qpn] } }
  else
    let t := s.modQp qpn fun q => { q with wrapped := s.wrapContext q }
    t.startFetch (((s.qp qpn).map fun q => q.homePort / 4).getD 0) qpn

/-- Whether a context is at hand. An eviction whose write-back has not started is cancelled (R215): the I/O die writes one
context back at a time, the one chosen first (DESIGN CHOICE, log 115). -/
def State.atHand (s : State) (qpn : Nat) : Option State :=
  if s.net.cached.contains qpn then some (s.touchContext qpn)
  else if s.net.evicting.tail.contains qpn then
    some (State.makeRoom { s with net := { s.net with
      evicting := s.net.evicting.filter (· != qpn), cached := s.net.cached ++ [qpn] } })
  else none

end Sys2Proof.Machine
end

