-- ==== Sys2Proof/Machine/Send.lean ====
section
/-! DEFINITION. The sending side of the transport: cutting messages into packets (R186, R187, R201), the congestion
window (R204), packet encryption (R219), frames given to the egress scheduler (R184, R246), control packets (R188). -/

namespace Sys2Proof.Machine

/-! ### Headers and frames -/

/-- PKT_FLAGS bits (R186). -/
def flagFirst : Nat := 1
def flagLast : Nat := 2
def flagFinal : Nat := 4
def flagSpray : Nat := 8
def flagEnc : Nat := 16
def flagAckReq : Nat := 32

/-- VERSION byte of a negotiated VERSIONS bit (R186, R193): 1.2, 2.0 or 2.1. -/
def versionByte (bit_ : Nat) : Nat := if bit_ == 1 then 0x12 else if bit_ == 2 then 0x20 else 0x21

/-- The GWT header of R186. -/
def gwtHeader (version type flags dest psn opcode len msn offset msgLen tkey : Nat) : Bytes :=
  toBe 1 version ++ toBe 1 type ++ toBe 2 flags ++ toBe 4 (dest % 2 ^ 24) ++ toBe 4 (psn % 2 ^ 24) ++ toBe 1 opcode
    ++ zeros 1 ++ toBe 2 len ++ toBe 4 (msn % 2 ^ 24) ++ toBe 4 offset ++ toBe 4 msgLen ++ toBe 4 tkey

/-! ### Ethernet, IP and UDP (R182–R185) -/

/-- The sum of a sequence of 16-bit words in network byte order. -/
def wordSum : Bytes → Nat
  | [] => 0
  | [a] => a.toNat * 256
  | a :: b :: r => a.toNat * 256 + b.toNat + wordSum r

/-- The one's complement of the one's complement sum. -/
def ipChecksum (bs : Bytes) : Nat :=
  let fold := fun (n : Nat) => n % 65536 + n / 65536
  65535 - fold (fold (fold (wordSum bs)))

/-- The UDP header and data between two addresses; the checksum is never zero (R182). -/
def udpDatagram (src dst : Bytes) (srcPort dstPort : Nat) (data : Bytes) : Bytes :=
  let n := 8 + data.length
  let pseudo := if dst.length == 4 then src ++ dst ++ toBe 2 17 ++ toBe 2 n else src ++ dst ++ toBe 4 n ++ toBe 4 17
  let head := toBe 2 srcPort ++ toBe 2 dstPort ++ toBe 2 n
  let c := ipChecksum (pseudo ++ head ++ zeros 2 ++ data)
  head ++ toBe 2 (if c == 0 then 65535 else c) ++ data

/-- The IP packet of a datagram: IPv4 without options and with DF, or IPv6 without extension headers, by the destination's
length; ECT(0) in the ECN field (R182, R185). -/
def ipPacket (src dst : Bytes) (dscp srcPort : Nat) (udp : Bytes) : Bytes :=
  let tos := dscp % 64 * 4 + 2
  if dst.length == 4 then
    let a := toBe 1 0x45 ++ toBe 1 tos ++ toBe 2 (20 + udp.length) ++ toBe 2 Config.ipIdent ++ toBe 2 0x4000
      ++ toBe 1 Config.hopLimit ++ toBe 1 17
    a ++ toBe 2 (ipChecksum (a ++ zeros 2 ++ src ++ dst)) ++ src ++ dst ++ udp
  else
    toBe 4 (6 * 2 ^ 28 + tos * 2 ^ 20 + Config.flowLabel srcPort % 2 ^ 20) ++ toBe 2 udp.length ++ toBe 1 17
      ++ toBe 1 Config.hopLimit ++ src ++ dst ++ udp

/-- The priority of a traffic class (R184). -/
def State.prioOf (s : State) (tc : Nat) : Nat := ((s.img.transport.prioMap.find? (·.1 == tc)).map (·.2)).getD tc

/-- Whether a link's frames carry an 802.1Q tag (R182). -/
def State.taggedLink (s : State) (link : Nat) : Bool := s.img.transport.tagged.contains (link / 4)

/-- A link's own addresses (R181). -/
def State.linkAddr (s : State) (link : Nat) : LinkAddr :=
  (s.img.transport.addresses.find? (·.link == link)).getD ⟨link, zeros 6, zeros 4, zeros 16, 0⟩

/-- An IP address: an IPv4-mapped one is the IPv4 address (R345). -/
def plainAddr (a : Bytes) : Bytes := if a.take 12 == zeros 10 ++ toBe 2 0xFFFF then a.drop 12 else a

/-- A frame that carries a GWT packet, from the destination MAC address on: tagged with the priority in PCP, or untagged
with the priority in the DSCP field (R182, R184). The Class Selector code point of a priority stands for it (PRESUMED, log
116). -/
def State.gwtFrame (s : State) (link tc srcPort : Nat) (dst gwt : Bytes) : Bytes :=
  let a := s.linkAddr link
  let dst := plainAddr dst
  let tagged := s.taggedLink link
  let v4 := dst.length == 4
  let src := if v4 then a.ipv4 else a.ipv6
  let prio := s.prioOf tc % 8
  sub (Config.nextHop link dst) 0 6 ++ a.mac ++ (if tagged then toBe 2 0x8100 ++ toBe 2 (prio * 8192 + a.vlan) else [])
    ++ toBe 2 (if v4 then 0x0800 else 0x86DD)
    ++ ipPacket src dst (if tagged then 0 else prio * 8) srcPort (udpDatagram src dst srcPort s.img.transport.udpPort gwt)

/-- Bytes of such a frame with its FCS, for a payload (R183, R246). -/
def State.wireBytes (s : State) (link : Nat) (dst : Bytes) (payload : Nat) (enc : Bool) : Nat :=
  18 + (if s.taggedLink link then 4 else 0) + (if (plainAddr dst).length == 4 then 28 else 48) + 32 + payload + (if enc then 24 else 0)

/-- The packet key and salt of a direction: 0 initiator to node, 1 node to initiator (R220). -/
def Qp.packetKey (q : Qp) (dir : Nat) : Bytes × Bytes := (sub q.keys (dir * 36) 32, sub q.keys (dir * 36 + 32) 4)

/-- Header, extension, payload and tag as they leave, with the next TX_COUNT when ENC is in force (R219). -/
def Qp.seal (q : Qp) (header payload : Bytes) : Bytes × Qp :=
  if q.enc then
    let n := q.tx.txCount + 1
    let k := q.packetKey (if q.initiator then 0 else 1)
    let iv := k.2 ++ toBe 8 n
    let aad := header ++ toBe 8 n
    (aad ++ Config.gcmCipher k.1 iv payload ++ Config.gcmTag k.1 iv aad payload,
      { q with tx := { q.tx with txCount := n } })
  else (header ++ payload, q)

/-- The traffic class that carries a priority (R184). -/
def State.classOf (s : State) (prio : Nat) : Nat :=
  ((s.img.transport.prioMap.find? (·.2 == prio)).map (·.1)).getD prio

/-- The traffic class of a connection's packets: SEALED_TC in a sealed-policy slice (R249, R292). -/
def State.connClass (s : State) (q : Qp) (tc : Nat) : Nat :=
  if q.paddock != 0 && s.sealedSlices q.paddock then s.img.service.sealedTc else tc

/-- Give a frame to the egress scheduler of a link; its cost is counted in 256-byte units (R246). -/
def State.egress (s : State) (link tc paddock : Nat) (f : OutFrame) : State :=
  s.enqueue (16 + link) tc paddock (.frame f) (ceilDiv f.wire 256)

/-- Give a frame outside GWT to the egress scheduler: LLDP and beacons in class 0, PTP in class 7 (R184, R246). -/
def State.egressOther (s : State) (link tc : Nat) (kind : FrameKind) (bytes : Bytes) (wire : Nat) : State :=
  s.egress link tc 0 ⟨0, 0, bytes, wire, false, false, kind⟩

/-- Send one data packet of a connection. -/
def State.sendPkt (s : State) (qpn : Nat) (p : OutPkt) (first : Bool) : State :=
  match s.qp qpn with
  | none => s
  | some q =>
    let flags := Nat.lor p.flags ((if q.spray then flagSpray else 0) + (if q.enc then flagEnc else 0))
    let h := gwtHeader (versionByte q.version) 0 flags q.peerQpn p.psn p.opcode p.payload.length p.msn p.offset p.len q.peerTkey
    let (bytes, q') := q.seal h p.payload
    let s := (s.modQp qpn fun _ => q').touchContext qpn
    let tc := s.connClass q p.tc
    s.egress q.homePort tc q.paddock ⟨qpn, p.psn, s.gwtFrame q.homePort tc q.udpPort q.src bytes,
      s.wireBytes q.homePort q.src p.payload.length q.enc, first, true, .packet⟩

/-- Send a control packet: ACK 1, NAK 2, RNR_NAK 3, CNP 4 (R188); it waits for a context that must be fetched (R213). -/
def State.control (s : State) (qpn type psn offset : Nat) : State :=
  match s.qp qpn with
  | none => s
  | some q =>
    match s.atHand qpn with
    | none => (s.modQp qpn fun x => { x with tx := { x.tx with control := x.tx.control ++ [(type, psn, offset)] } }).startFetch
        (q.homePort / 4) qpn
    | some s =>
      let h := gwtHeader (versionByte q.version) type (if q.enc then flagEnc else 0) q.peerQpn psn 0 0 0 offset 0 q.peerTkey
      let (bytes, q') := q.seal h []
      let s := s.modQp qpn fun _ => q'
      let tc := s.connClass q 6
      s.egress q.homePort tc q.paddock ⟨qpn, psn, s.gwtFrame q.homePort tc q.udpPort q.src bytes,
        s.wireBytes q.homePort q.src 0 q.enc, true, false, .packet⟩

/-- The control packets that waited for the context. -/
def State.flushControl (s : State) (qpn : Nat) : State :=
  match s.qp qpn with
  | none => s
  | some q =>
    let s := s.modQp qpn fun x => { x with tx := { x.tx with control := [] } }
    q.tx.control.foldl (fun t c => t.control qpn c.1 c.2.1 c.2.2) s

/-! ### Messages -/

/-- Cut a message into packets from a PSN and MSN on; ACK_REQ on the LAST packet and every 64th (R187, R201). -/
def cutMessage (mtu psn msn : Nat) (m : OutMsg) : List OutPkt :=
  let pieces := if m.body.isEmpty then [[]] else chunks mtu m.body
  let n := pieces.length
  ((List.range n).zip pieces).map fun (i, b) =>
    let last := i + 1 == n
    let flags := (if i == 0 then flagFirst else 0) + (if last then flagLast else 0)
      + (if last && m.final then flagFinal else 0) + (if last || i % 64 == 63 then flagAckReq else 0)
    ⟨(psn + i) % 2 ^ 24, msn, m.opcode, flags, i * mtu, m.body.length, b, 0, false, m.pcp, if last then m.answers else none⟩

/-- The message of a connection that is next to be cut. -/
def Qp.cutNext (q : Qp) : Qp :=
  match q.tx.queue with
  | [] => q
  | m :: rest =>
    let ps := cutMessage q.mtu q.tx.nextPsn q.tx.nextMsn m
    { q with tx := { q.tx with
      queue := rest, ready := q.tx.ready ++ ps
      nextPsn := (q.tx.nextPsn + ps.length) % 2 ^ 24
      nextMsn := (q.tx.nextMsn + 1) % 2 ^ 24
      sentDisconnect := q.tx.sentDisconnect || m.opcode == 0x61
      disconnectPsn := if m.opcode == 0x61 then some q.tx.nextPsn else q.tx.disconnectPsn } }

/-- The retransmission timeout of a connection: at least two cycles of the port's gate list in a slice of sealed policy
(R203, R292). -/
def State.rtoOf (s : State) (q : Qp) : Nat :=
  let r := s.img.transport.rto
  if q.paddock != 0 && s.sealedSlices q.paddock then
      max r (2 * ((s.sched (16 + q.homePort)).map fun (d : Sched) => d.cycle).getD 0) else r

/-- A request gives up its receive slot and staging bytes (R198). -/
def State.releaseSlot (s : State) (qpn msn : Nat) : State :=
  s.modQp qpn fun q => { q with rx := { q.rx with used := q.rx.used.filter (·.1 != msn) } }

/-- Send what the window allows: at most `fuel` packets (R204), once the context is at hand (R213). A response that is sent
frees its request's slot (R198). -/
def State.pumpFuel (qpn : Nat) : Nat → State → State
  | 0, s => s
  | fuel + 1, s =>
    match s.qp qpn with
    | none => s
    | some q =>
      if q.tx.w ≤ q.tx.unacked.length || q.tx.rnrUntil.isSome then s
      else
        match q.tx.ready with
        | [] => s
        | p :: rest =>
          match s.atHand qpn with
          | none => s.startFetch (q.homePort / 4) qpn
          | some s =>
            let p := { p with sentAt := s.time }
            let s := s.modQp qpn fun x => { x with tx := { x.tx with
              ready := rest, unacked := x.tx.unacked ++ [p]
              rtoAt := match x.tx.rtoAt with | some t => some t | none => some (s.time + s.rtoOf q) } }
            let s := s.sendPkt qpn p true
            State.pumpFuel qpn fuel (match p.frees with | none => s | some m => s.releaseSlot qpn m)

/-- Cut every waiting message and send what the window allows. -/
def State.pumpOnce (s : State) (qpn : Nat) : State :=
  match s.qp qpn with
  | none => s
  | some q =>
    let s := s.modQp qpn fun x => (List.range x.tx.queue.length).foldl (fun y _ => y.cutNext) x
    State.pumpFuel qpn (q.tx.w + 1) s

/-- In DRAINING, the node's own DISCONNECT follows the last response (R197); QP_ERROR_HOLD runs from it. -/
def State.sendDisconnect (s : State) (qpn : Nat) : State :=
  match s.qp qpn with
  | none => s
  | some q =>
    if decide (q.state = .draining) && q.rx.drainFrom.isSome && !q.tx.sentDisconnect && q.rx.used.isEmpty then
      let s := s.modQp qpn fun x => { x with
        stateUntil := s.time + s.img.transport.errorHold
        tx := { x.tx with queue := x.tx.queue ++ [⟨0x61, [], false, 6, none⟩] } }
      s.pumpOnce qpn
    else s

/-- Send what can be sent on a connection. -/
def State.pump (s : State) (qpn : Nat) : State := (s.pumpOnce qpn).sendDisconnect qpn

/-- Send a message on a connection that still sends (R197, R217). -/
def State.sendMsg (s : State) (qpn opcode tc : Nat) (body : Bytes) (final : Bool) (answers : Option Nat) : State :=
  match s.qp qpn with
  | none => s
  | some q =>
    match q.state with
    | .ready | .draining =>
      if q.tx.sentDisconnect && answers.isNone then s
      else
        let s := s.modQp qpn fun x => { x with tx := { x.tx with queue := x.tx.queue ++ [⟨opcode, body, final, tc, answers⟩] } }
        s.pump qpn
    | _ => s

/-- A request is consumed: its receive slot and staging bytes are free again (R198). -/
def State.consume (s : State) (qpn msn : Nat) : State :=
  let s := s.modQp qpn fun q => { q with rx := { q.rx with
    used := q.rx.used.filter (·.1 != msn)
    outstanding := q.rx.outstanding.filter (·.1 != msn)
    prios := q.rx.prios.filter (·.1 != msn) } }
  let s := { s with net := { s.net with inbox := s.net.inbox.filter fun m => !(m.qpn == qpn && m.msn == msn) } }
  s.sendDisconnect qpn

/-- The traffic class of the answer to a request: the priority on which its LAST packet arrived (R184). -/
def State.answerClass (s : State) (qpn msn default_ : Nat) : Nat :=
  match s.qp qpn with
  | none => default_
  | some q => ((q.rx.prios.find? (·.1 == msn)).map fun p => s.classOf p.2).getD default_

/-- Answer a request by a message: it is worked on, and its slot is free once the response is sent (R198). -/
def State.answer (s : State) (qpn msn opcode : Nat) (body : Bytes) : State :=
  let tc := s.answerClass qpn msn 5
  let live : Bool := match s.qp qpn with
    | none => false
    | some q => decide (q.state = .ready) || decide (q.state = .draining)
  let done := fun (q : Qp) => { q with rx := { q.rx with
    outstanding := q.rx.outstanding.filter (·.1 != msn), prios := q.rx.prios.filter (·.1 != msn) } }
  let s := { s with net := { s.net with inbox := s.net.inbox.filter fun m => !(m.qpn == qpn && m.msn == msn) } }
  let s := s.modQp qpn done
  if live then s.sendMsg qpn opcode tc body false (some msn) else s.consume qpn msn

end Sys2Proof.Machine
end

