-- ==== Sys2Proof/Machine/Space.lean ====
section
/-! DEFINITION. Frames and granules (R94, R144–R148): which are in use, allocation, freeing, zero-fill of freed
frames, free units of a slice and a paddock's use of its allowances (R152, R296). -/

namespace Sys2Proof.Machine

/-- Granules of 512 bytes that a place takes. -/
def Place.granules (p : Place) : Nat := p.units * 2 ^ p.shift

/-- Bytes that a place takes. -/
def Place.bytes (p : Place) : Nat := p.granules * 512

/-- The frames that a place touches. -/
def Place.frames (p : Place) : List Nat :=
  (List.range (ceilDiv (p.granule + p.granules) 64)).map (p.frame + ·)

/-- Granules of a place in one frame, as [start, end). -/
def Place.span (p : Place) (frame : Nat) : Nat × Nat :=
  let first := p.frame * 64 + p.granule
  let last := first + p.granules
  (max first (frame * 64) - frame * 64, min last (frame * 64 + 64) - frame * 64)

/-- A block's units and those of its summary record (R106). -/
def Block.whole (b : Block) : Place := { b.place with units := b.place.units + b.summaryUnits }

/-- The tail slots of a sequence. -/
def Seq.tails (q : Seq) : List TailSlot :=
  q.entries.filterMap fun e => match e.slot with | .tail t => some t | .closed _ => none

/-- The paddock whose block a move carries. -/
def Store.movePad (t : Store) (m : Move) : Nat := ((t.blocks.find? (·.num == m.block)).map (·.paddock)).getD 0

/-- Every allocation of data units, with its paddock. -/
def Store.places (t : Store) : List (Place × Nat) :=
  (t.blocks.map fun b => (b.whole, b.paddock))
    ++ (t.seqs.map fun q => q.tails.map fun x => (x.place, q.paddock)).flatten
    ++ (t.deferred.map fun d => (d.place, d.paddock)) ++ (t.moves.map fun m => (m.target, t.movePad m))
    ++ (t.parts.map fun x => x.2)

/-- Frames that a lease has marked (R170). -/
def State.leasedFrames (s : State) : List Nat := (s.leases.leases.map (·.req.frames)).flatten

/-- Frames that hold something or that nothing may be allocated in. -/
def State.busyFrames (s : State) : List Nat :=
  ((s.store.places.map fun p => p.1.frames).flatten) ++ s.store.dirty ++ s.store.retired ++ s.leasedFrames

/-- Data frames of a slice: those outside the metadata region and the ECC area (R147). -/
def SliceCfg.dataFrames (c : SliceCfg) : Nat :=
  c.hbms.length * regionFrames - c.metaFrames - c.metaFrames / 8

/-- place of R146: stack index, pseudo-channel and offset of a slice-local frame. -/
def framePlace (i n : Nat) : Nat × Nat × Nat :=
  let w := 64 * n
  let q := i / w
  let k := (i % w + q * 37) % w
  (k % n, k / n, q * 32768)

/-- The stack and pseudo-channel that hold a frame of a slice. -/
def SliceCfg.channelOf (c : SliceCfg) (frame : Nat) : Option (Nat × Nat) :=
  match c.localOf frame with
  | none => none
  | some i =>
    let p := framePlace i c.hbms.length
    some (c.hbms.getD p.1 0, p.2.1)

/-- The kind of a frame of the slice: 0 metadata, 1 data, 2 ECC area (R147). -/
def SliceCfg.kindOf (c : SliceCfg) (frame : Nat) : Nat :=
  match c.localOf frame with
  | none => 1
  | some i =>
    if i < c.metaFrames then 0
    else if i < c.hbms.length * regionFrames - c.metaFrames / 8 then 1 else 2

/-- The slice that a Tier-1 frame belongs to. -/
def State.sliceOfFrame (s : State) (frame : Nat) : Option SliceCfg :=
  s.img.slices.find? fun c => (c.localOf frame).isSome

/-- Whether a lease has a pseudo-channel, from its grant to its return (R167). -/
def State.channelLeased (s : State) (x : Nat × Nat) : Bool :=
  s.leases.leases.any fun l => l.req.stack == x.1 && l.req.pcs.contains x.2 && decide (l.phase ≠ .returned)

/-- The pseudo-channels that a place lies on (R146). -/
def State.channelsOf (s : State) (p : Place) : List (Nat × Nat) :=
  match p.tier with
  | .tier1 => p.frames.filterMap fun f => (s.sliceOfFrame f).bind fun c => c.channelOf f
  | .tier2 _ => []
  | .absent => []

/-- Whether a request for some pseudo-channels is held: a lease has one of them, or an earlier request for one of them waits
(R167). -/
def State.mustHold (s : State) (xs : List (Nat × Nat)) : Bool :=
  xs.any fun x => s.channelLeased x || s.store.held.any fun h => !h.served && h.channels.contains x

/-- The controller holds a request. -/
def State.hold (s : State) (w : HeldWork) (xs : List (Nat × Nat)) : State :=
  { s with store := { s.store with held := s.store.held ++ [⟨w, xs, false⟩] } }

/-- Whether a request is still held, or one that arrived before it for one of its pseudo-channels is (R167). -/
def State.heldBack (s : State) (w : HeldWork) : Bool :=
  match s.store.held.findIdx? (·.work == w) with
  | none => false
  | some i =>
    match s.store.held[i]? with
    | none => false
    | some h => !h.served || (s.store.held.take i).any fun g => g.channels.any h.channels.contains

/-- Hold a request that is not held yet. -/
def State.holdOnce (s : State) (w : HeldWork) (xs : List (Nat × Nat)) : State :=
  if s.store.held.any (·.work == w) then s else s.hold w xs

/-- A held request is done, or nobody waits for it any more. -/
def State.dropHeld (s : State) (p : HeldWork → Bool) : State :=
  { s with store := { s.store with held := s.store.held.filter fun h => !p h.work } }

/-- Whether a held request is a read of a step. -/
def HeldWork.readOf (op : Nat) : HeldWork → Bool
  | .read o .. => o == op
  | .write _ => false
  | .walk .. => false
  | .move .. => false
  | .commit .. => false

/-- Whether a held request belongs to an operation. -/
def HeldWork.of (op : Nat) : HeldWork → Bool
  | .read o .. => o == op
  | .write o => o == op
  | .walk .. => false
  | .move .. => false
  | .commit .. => false

/-- The place of what an entry points to. -/
def State.entryPlace (s : State) (e : Entry) : Option Place :=
  match e.slot with
  | .tail t => some t.place
  | .closed n => (s.block n).map fun (b : Block) => b.whole

/-- The pseudo-channel that a frame lies on (R146). -/
def State.frameChannel (s : State) (f : Nat) : Option (Nat × Nat) := (s.sliceOfFrame f).bind fun c => c.channelOf f

/-- The pseudo-channels that a change of sequences writes to: those of the tails and blocks that are new or written anew, and of
the metadata frames (R101, R146, R167). -/
def State.writtenChannels (s t : State) : List (Nat × Nat) :=
  ((t.store.seqs.map fun x =>
    match s.seqAt x.desc with
    | none => []
    | some q =>
      let places := (x.entries.filter fun e => !q.entries.contains e).filterMap t.entryPlace
      (places.map t.channelsOf).flatten ++ (t.seqWrites q x).filterMap t.frameChannel).flatten).eraseDups

/-- The check-byte area of a metadata frame: ECC-area frame i / 8, at offset (i mod 8) × 4 KiB (R149, R174). -/
def SliceCfg.eccPlace (c : SliceCfg) (frame : Nat) : Option (Nat × Nat) :=
  (c.localOf frame).bind fun i =>
    if i < c.metaFrames then
      some (c.frameOf (c.hbms.length * regionFrames - c.metaFrames / 8 + i / 8), i % 8 * 4096)
    else none

/-- The 8-byte word of the metadata region whose check byte lies at an address of the ECC area (R149). -/
def SliceCfg.checkedWord (c : SliceCfg) (a : Nat) : Option Nat :=
  (c.localOf (a / 32768)).bind fun i =>
    let first := c.hbms.length * regionFrames - c.metaFrames / 8
    let frame := (i - first) * 8 + a % 32768 / 4096
    if first ≤ i && frame < c.metaFrames then some (c.frameOf frame * 32768 + a % 4096 * 8) else none

/-- First frame of a Tier-2 port's range (R144). -/
def tier2Base (port : Nat) : Nat := 536870912 + port * 134217728

/-- Starts in one frame at which `n` granules, aligned to 2^shift, are free (R94). -/
def freeStarts (used : List (Nat × Nat)) (shift n : Nat) : List Nat :=
  ((List.range (64 / 2 ^ shift)).map (· * 2 ^ shift)).filter fun a =>
    a + n ≤ 64 && used.all fun u => a + n ≤ u.1 || u.2 ≤ a

/-- Places in frames that the paddock already uses, outside `closed` frames. -/
def openPlaces (places : List (Place × Nat)) (paddock : Nat) (inRange : Nat → Bool) (closed : List Nat) (t : Tier)
    (shift units : Nat) : List Place :=
  let n := units * 2 ^ shift
  if n > 64 then []
  else
    let mine := places.filter fun p => p.2 == paddock && decide (p.1.tier = t)
    let fs := ((mine.map fun p => p.1.frames).flatten.eraseDups).filter fun f => inRange f && !closed.contains f
    (fs.map fun f =>
      let used := (places.filter fun p => decide (p.1.tier = t) && p.1.frames.contains f).map fun p => p.1.span f
      (freeStarts used shift n).map fun a => ⟨t, f, a, units, shift⟩).flatten

/-- `k` free frames with consecutive numbers (R94), searched upwards from index `i` of `count` with wrap-around. -/
def freshFrames (frameAt : Nat → Nat) (busy : List Nat) (count k : Nat) : Nat → Nat → Option Nat
  | 0, _ => none
  | fuel + 1, i =>
    let j := i % count
    if j + k ≤ count && (List.range k).all (fun d => frameAt (j + d) == frameAt j + d && !busy.contains (frameAt j + d)) then
      some (frameAt j)
    else freshFrames frameAt busy count k fuel (i + 1)

/-- Allocate units of 512 × 2^shift bytes for a paddock in a range of frames, at a place that R94 allows; which of
them is free (log 8). `none` when there is no room. -/
def State.allocIn (s : State) (paddock : Nat) (t : Tier) (frameAt : Nat → Nat) (count : Nat) (inRange : Nat → Bool)
    (shift units : Nat) : Option (Place × State) :=
  let places := s.store.places
  let closed := s.store.dirty ++ s.store.retired ++ s.leasedFrames
  let opens := openPlaces places paddock inRange closed t shift units
  let k := max 1 (ceilDiv (units * 2 ^ shift) 64)
  let busy := s.busyFrames
  let (start, s1) := s.choose Config.placement count
  let fresh := if count == 0 then none else freshFrames frameAt busy count k ((busy.length + 1) * k + 1) start
  let all := opens ++ (match fresh with | none => [] | some f => [⟨t, f, 0, units, shift⟩])
  let (i, s2) := s1.choose Config.placement all.length
  (all[i]?).map fun p => (p, s2)

/-- Allocate in Tier-1 of a slice. -/
def State.allocT1 (s : State) (slice paddock shift units : Nat) : Option (Place × State) :=
  match s.sliceCfg slice with
  | none => none
  | some c =>
    s.allocIn paddock .tier1 (fun i => c.frameOf (c.metaFrames + i)) c.dataFrames
      (fun f => (c.localOf f).isSome) shift units

/-- Frames that a Tier-2 port serves (R145). -/
def Tier2Port.count (p : Tier2Port) : Nat := min p.frames 134217728

/-- Whether blocks of a slice may lie on a Tier-2 port: one dedicated to a slice serves that slice alone, and a slice of
sealed policy uses no other (R154, R158, R291). -/
def State.portServes (s : State) (slice port : Nat) : Bool :=
  match s.img.t2Ports.find? (·.2 == port) with
  | some x => x.1 == slice
  | none => (s.sliceCfg slice).any (·.policy == 0)

/-- Allocate on the first Tier-2 port in service that serves the slice and has room. -/
def State.allocT2 (s : State) (slice paddock shift units : Nat) : Option (Place × State) :=
  (s.store.ports.filter fun p => p.present && !p.lost && s.portServes slice p.port).findSome? fun p =>
    s.allocIn paddock (.tier2 p.port) (fun i => tier2Base p.port + i) p.count
      (fun f => tier2Base p.port ≤ f && f < tier2Base p.port + p.count) shift units

/-- Granules of a place outside some frames. -/
def Place.granulesOutside (p : Place) (shut : List Nat) : Nat :=
  sumNat ((p.frames.filter fun f => !shut.contains f).map fun f => (p.span f).2 - (p.span f).1)

/-- Free granules of a slice's data frames: none in a frame that is retired or waits for its zero-fill. -/
def State.freeGranules (s : State) (slice : Nat) : Nat :=
  match s.sliceCfg slice with
  | none => 0
  | some c =>
    let shut := (s.store.dirty ++ s.store.retired).eraseDups.filter fun f => (c.localOf f).isSome && c.kindOf f == 1
    let used := sumNat ((s.store.places.filter fun p => decide (p.1.tier = .tier1) && (c.localOf p.1.frame).isSome).map
      fun p => p.1.granulesOutside shut)
    c.dataFrames * 64 - used - shut.length * 64

/-- Whether the slice's free units are below a percentage (R152). -/
def State.freeBelow (s : State) (c : SliceCfg) (percent : Nat) : Bool :=
  s.freeGranules c.id * 100 < c.dataFrames * 64 * percent

/-- 64-byte lines of a test have been written whole, with their check bytes: none of them is poisoned (R149). -/
def Store.cleanLines (t : Store) (p : Nat → Bool) : Store :=
  { t with
    poisonLines := t.poisonLines.filter fun l => !p l
    checkErrors := t.checkErrors.filter fun x => !p (x.1 / 64) }

/-! ### Use of allowances -/

/-- Bytes of a heat array: 4 bits for each directory entry (R118). -/
def Shape.heatBytes (h : Shape) : Nat := ceilDiv h.entryCount 2

/-- The metadata objects of a sequence as (physical address, bytes): L1 table, tail table, prefix page, heat array,
directory pages (R87, R91, R148). -/
def Seq.metaObjects (q : Seq) : List (Nat × Nat) :=
  [(q.addresses.getD 0 0, q.shape.l1Pages * 4096), (q.addresses.getD 1 0, 1024)]
    ++ (if q.addresses.getD 2 0 == 0 then [] else [(q.addresses.getD 2 0, 512)])
    ++ (if q.sealed then [(q.addresses.getD 3 0, q.shape.heatBytes)] else [])
    ++ q.pages.map fun p => (p.address, 4096)

/-- Metadata bytes of a sequence (R148). -/
def Seq.metaBytes (q : Seq) : Nat := sumNat (q.metaObjects.map (·.2))

/-- T1_BYTES and T2_BYTES of a descriptor (R87). -/
def State.tierBytes (s : State) (q : Seq) (tier1 : Bool) : Nat :=
  sumNat (q.entries.map fun e =>
    match e.slot with
    | .tail t => if tier1 then t.place.bytes else 0
    | .closed n =>
      match s.block n with
      | none => 0
      | some b => if decide (b.place.tier = .tier1) == tier1 then b.whole.bytes else 0)

/-- Tier-1 bytes that a paddock uses: its sequences, its windows in Tier-1, its weight sets (R296). -/
def State.t1Use (s : State) (paddock : Nat) : Nat :=
  sumNat ((s.store.seqs.filter (·.paddock == paddock)).map fun q => s.tierBytes q true + q.metaBytes)
    + sumNat ((s.maps.windows.filter fun w => w.localPaddock == paddock && decide (w.state ≠ .free)
        && w.base < 0xC000000000).map (·.length))
    + sumNat ((s.store.weights.filter (·.paddock == paddock)).map (·.length))

/-- Tier-2 bytes that a paddock uses. -/
def State.t2Use (s : State) (paddock : Nat) : Nat :=
  sumNat ((s.store.seqs.filter (·.paddock == paddock)).map fun q => s.tierBytes q false)

/-- Bytes of a tier that moves under way will take for a paddock's blocks (R153, R156). -/
def State.movingUse (s : State) (paddock : Nat) (tier1 : Bool) : Nat :=
  sumNat ((s.store.moves.filter fun m => s.store.movePad m == paddock && decide (m.target.tier = .tier1) == tier1).map fun m =>
    m.target.bytes)

/-- Tier-1 bytes that a paddock uses or that moves under way will take for it. -/
def State.t1Taken (s : State) (paddock : Nat) : Nat := s.t1Use paddock + s.movingUse paddock true

/-- Whether `bytes` more would pass the paddock's Tier-1 allowance. -/
def State.passesAllowance (s : State) (paddock bytes : Nat) : Bool :=
  (s.pad paddock).config.t1Allow < s.t1Taken paddock + bytes

/-! ### Freeing -/

/-- A frame whose granules have all become free waits for its zero-fill (R113): ZERO under a lease in Tier-1, the
migration engine in Tier-2. -/
def State.emptyFrame (s : State) (paddock frame : Nat) : State :=
  if (s.store.places.any fun p => p.1.frames.contains frame) || s.store.dirty.contains frame
      || s.store.retired.contains frame then s
  else
    let s := { s with store := { s.store with dirty := s.store.dirty ++ [frame] } }
    if frame < 12 * regionFrames then
      { s with leases := { s.leases with chores := s.leases.chores ++ [⟨4, paddock, [frame], 0, 0, 0⟩] } }
    else s

/-- Free a place that nothing refers to any more. -/
def State.freePlace (s : State) (paddock : Nat) (p : Place) : State :=
  p.frames.foldl (fun t f => t.emptyFrame paddock f) s

/-- Free the old place of a relocated block: at once, or once every operation admitted before the switch has ended
(R100). -/
def State.freeOld (s : State) (block desc generation paddock : Nat) (p : Place) : State :=
  let holders := (s.eng.ops.filter fun o => decide (o.phase = .admitted)).map fun (o : Op) => o.id
  if holders.isEmpty then s.freePlace paddock p
  else { s with store := { s.store with deferred := s.store.deferred ++ [⟨block, desc, generation, paddock, p, holders⟩] } }

/-- Drop one reference from a closed block; at none left the block goes and its units are free (R56, R107). -/
def State.dropRef (s : State) (n : Nat) : State :=
  match s.block n with
  | none => s
  | some b =>
    if b.refs > 1 then s.modBlock n fun x => { x with refs := x.refs - 1 }
    else
      let s := { s with store := { s.store with blocks := s.store.blocks.filter (·.num != n) } }
      s.freePlace b.paddock b.whole

/-- Free what one directory entry holds. -/
def State.freeSlot (s : State) (paddock : Nat) (x : Slot) : State :=
  match x with
  | .tail t => s.freePlace paddock t.place
  | .closed n => s.dropRef n

/-- Give up moves of a test: their new copies are freed (R155). -/
def State.abandonMoves (s : State) (p : Move → Bool) : State :=
  let gone := s.store.moves.filter p
  let s := { s with store := { s.store with moves := s.store.moves.filter fun m => !p m } }
  let s := if gone.isEmpty then s else s.stir
  gone.foldl (fun t m => t.freePlace (t.store.movePad m) m.target) s

/-- A version drawn from the paddock's write counter (R115); 0 in an open paddock. -/
def State.version (s : State) (paddock : Nat) (sealed : Bool) : Nat × State :=
  if sealed then
    ((s.pad paddock).writeCounter, s.modPad paddock fun p => { p with writeCounter := p.writeCounter + 1 })
  else (0, s)

end Sys2Proof.Machine
end

