-- ==== Sys2Proof/Machine/Ledger.lean ====
section
/-! DEFINITION. The Ledger (R234–R239), map slots and the decision of a request by its epoch (R240–R242). -/

namespace Sys2Proof.Machine

/-! ### Keys (R234) -/

/-- Key of a kind-0 search or entry, bits [3:0] left out. -/
def mapKey (paddock seq layer block : Nat) : Nat :=
  paddock % 4096 * 2 ^ 116 + seq % 2 ^ 48 * 2 ^ 64 + layer % 256 * 2 ^ 56 + block % 2 ^ 24 * 2 ^ 32

/-- Key of a kind-1 entry or search. -/
def prefixKey (paddock modelId k hash : Nat) : Nat :=
  paddock % 4096 * 2 ^ 116 + 2 ^ 112 + modelId % 2 ^ 48 * 2 ^ 64 + k % 2 ^ 24 * 2 ^ 32 + hash % 2 ^ 32

/-- Key of a kind-2 entry or search. -/
def windowKeyBits (paddock node : Nat) : Nat := paddock % 4096 * 2 ^ 116 + 2 * 2 ^ 112 + node % 65536 * 2 ^ 64

/-- Compared bits of an exact map entry: paddock, kind, sequence ID and bits [31:4]. -/
def exactMask : Nat := (2 ^ 64 - 1) * 2 ^ 64 + (2 ^ 28 - 1) * 16

/-- Compared bits of a placement entry with PREFIX_LEN `n`. -/
def placementMask (n : Nat) : Nat := (2 ^ 16 - 1) * 2 ^ 112 + (2 ^ n - 1) * 2 ^ (112 - n) + (2 ^ 28 - 1) * 16

/-- Every bit compared (kinds 1 and 2). -/
def fullMask : Nat := 2 ^ 128 - 1

/-- Number of set bits among the low `w`. -/
def popcount : Nat → Nat → Nat
  | 0, _ => 0
  | w + 1, n => n % 2 + popcount w (n / 2)

/-- Mask length of R235: compared bits in [127:4]. -/
def maskLength (mask : Nat) : Nat := popcount 124 (mask / 16)

/-- The kind of a key: bits [115:112]. -/
def keyKind (key : Nat) : Nat := key / 2 ^ 112 % 16

/-- Whether an entry matches a key in a map slot (R234, R240). -/
def LedgerEntry.hits (e : LedgerEntry) (key slot : Nat) : Bool :=
  Nat.land (Nat.xor e.key key) e.mask == 0 && (keyKind e.key != 0 || e.members.contains slot)

/-- R235: the longest mask wins, then the lower entry index. -/
def LedgerEntry.beats (a b : LedgerEntry) : Bool :=
  maskLength b.mask < maskLength a.mask || (maskLength a.mask == maskLength b.mask && a.row < b.row)

/-- The best of the matching entries. -/
def bestEntry : List LedgerEntry → Option LedgerEntry
  | [] => none
  | e :: es =>
    match bestEntry es with
    | none => some e
    | some f => if f.beats e then some f else some e

/-- A Ledger search. -/
def ledgerSearch (es : List LedgerEntry) (key slot : Nat) : Option LedgerEntry :=
  bestEntry (es.filter fun e => e.hits key slot)

/-! ### Results (R236) -/

/-- A local result. -/
def localResult (mirror : Bool) (slice : Nat) (placement : Bool) (desc partner below : Nat) : Nat :=
  flag mirror * 2 ^ 61 + slice % 16 * 2 ^ 57 + flag placement * 2 ^ 56 + desc % 2 ^ 20 * 2 ^ 32
    + partner % 65536 * 65536 + below % 65536

/-- A remote result. -/
def remoteResult (holder : Nat) : Nat := 2 ^ 62 + holder % 65536

/-- What a kind-0 result says. -/
inductive MapResult where
  | here (mirror : Bool) (slice : Nat) (placement : Bool) (desc partner below : Nat)
  | remote (holder : Nat)
  | refuse (status hint : Nat)
deriving DecidableEq, Repr

/-- Read a kind-0 result. -/
def readMap (r : Nat) : MapResult :=
  match bits r 63 62 with
  | 0 => .here (bit r 61) (bits r 60 57) (bit r 56) (bits r 51 32) (bits r 31 16) (bits r 15 0)
  | 1 => .remote (bits r 15 0)
  | _ => .refuse (bits r 7 0) (bits r 23 8)

/-! ### Update -/

/-- Rows of a partition (R239): 0 is paddock 0's, slice + 1 a slice's. -/
def State.partitionRows (s : State) (p : Nat) : Nat :=
  if p == 0 then s.img.service.ledgerPart0 else ((s.sliceCfg (p - 1)).map (·.ledgerRows)).getD 0

/-- Entries counted against a partition. -/
def State.partitionUse (s : State) (p : Nat) : Nat := (s.maps.ledger.filter (·.partition == p)).length

/-- Entries that operations in flight will insert when their commits are acknowledged (R242), of the paddocks of a test. -/
def State.pendingEntries (s : State) (slice : Nat) (p : Nat → Bool) : Nat :=
  (s.eng.ops.filter fun o => o.slice == slice && p o.req.paddock && decide (o.commit = .pending) &&
    (match o.effect with | .create _ replace => !replace | .fork .. => true | _ => false)).length

/-- Whether a partition has a free entry: for an entry of a create or fork of the node's own, any; for another one, one
besides those that creates and forks in flight will take (R239, R242). A tenant of a sealed-policy slice has its own rows,
in proportion to its SHARE, and what others hold does not count (R291, R295). -/
def State.ledgerRoom (s : State) (own : Bool) (p key : Nat) : Bool :=
  let paddock := key / 2 ^ 116
  let coming := fun (q : Nat → Bool) => if own || p == 0 then 0 else s.pendingEntries (p - 1) q
  match (if p == 0 then none else (s.sliceCfg (p - 1)).bind fun c => c.shareOf paddock) with
  | none => s.partitionUse p + coming (fun _ => true) < s.partitionRows p
  | some n =>
    (s.maps.ledger.filter fun e => e.partition == p && e.key / 2 ^ 116 == paddock).length + coming (· == paddock)
      < s.partitionRows p * n / 256

/-- The key bits that a pre-filter compares: {[127:116], [111:108]} (R237). -/
def preBits (k : Nat) : Nat := bits k 127 116 * 16 + bits k 111 108

/-- Whether a search enables a group (R237). -/
def LedgerGroup.enabled (g : LedgerGroup) (key : Nat) : Bool := Nat.land (Nat.xor g.tag (preBits key)) g.mask == 0

/-- Whether a group's tag covers an entry: every key that the entry matches enables the group. -/
def LedgerGroup.covers (g : LedgerGroup) (key mask : Nat) : Bool :=
  Nat.land g.mask (preBits mask) == g.mask && g.enabled key

/-- The entries of a group. -/
def groupEntries (es : List LedgerEntry) (g : Nat) : List LedgerEntry := es.filter fun e => e.row / 512 == g

/-- The place of a new entry in its group, 0–512: after the last entry of its run; a run of its own begins after the longer
masks and the reserve that the image keeps for them (R237). -/
def insertionPoint (reserve len : Nat) (mine : List LedgerEntry) : Nat :=
  let rows := fun (p : Nat → Bool) => (mine.filter fun e => p (maskLength e.mask)).map fun (e : LedgerEntry) => e.row % 512
  match (rows (· == len)).max? with
  | some r => r + 1
  | none =>
    match (rows (len < ·)).max? with
    | none => 0
    | some r => min (r + 1 + reserve) ((rows (· < len)).min?.getD 512)

/-- The row of a new entry at a place of its group, and the rows of the others: those between the place and the next free
row move down by one. DESIGN CHOICE (log 100): where the rows below are all taken, those above move up instead. -/
def openRow (g point : Nat) (mine : List LedgerEntry) : Nat × (LedgerEntry → LedgerEntry) :=
  let used := mine.map fun e => e.row % 512
  let move := fun (lo hi : Nat) (step : Nat → Nat) (e : LedgerEntry) =>
    if e.row / 512 == g && lo ≤ e.row % 512 && e.row % 512 < hi then { e with row := step e.row } else e
  match (List.range (512 - point)).find? fun d => !used.contains (point + d) with
  | some d => (g * 512 + point, move point (point + d) (· + 1))
  | none =>
    let d := ((List.range point).find? fun d => !used.contains (point - 1 - d)).getD 0
    (g * 512 + point - 1, move (point - d) point (· - 1))

/-- The groups that may take an entry: those whose tag covers it and that have a free row, and a group that holds nothing,
with a tag of the entry's own. DESIGN CHOICE (log 100): when there is none of these, the first group with a free row takes
a tag that covers every entry; which of several groups O2 takes is open (log 8). -/
def ledgerChoices (groups : List LedgerGroup) (es : List LedgerEntry) (key mask : Nat) : List LedgerGroup :=
  let used := groups.filter fun g => !(groupEntries es g.index).isEmpty
  let open_ := used.filter fun g => (groupEntries es g.index).length < 512
  let fresh := ((List.range 1024).find? fun i => !(used.any (·.index == i))).map fun i =>
    (⟨i, Nat.land (preBits key) (preBits mask), preBits mask⟩ : LedgerGroup)
  let fit := open_.filter (fun g => g.covers key mask) ++ fresh.toList
  if fit.isEmpty then (open_.take 1).map fun g => { g with tag := 0, mask := 0 } else fit

/-- Whether an entry can be inserted: its partition has room, and a group a free row (R238, R239). -/
def State.ledgerFits (s : State) (partition key mask : Nat) : Bool :=
  s.ledgerRoom false partition key && !(ledgerChoices s.maps.groups s.maps.ledger key mask).isEmpty

/-- Insert an entry in a group (R237); without a row or room in its partition nothing changes (R238, R239). -/
def State.ledgerInsert (s : State) (key mask result : Nat) (members : List Nat) (own : Bool) (partition : Nat) : State :=
  if !s.ledgerRoom own partition key then s
  else
    let all := ledgerChoices s.maps.groups s.maps.ledger key mask
    let (i, s) := s.choose Config.rowChoice all.length
    match all[i]? with
    | none => s
    | some g =>
      let mine := groupEntries s.maps.ledger g.index
      let r := openRow g.index (insertionPoint s.img.service.ledgerReserve (maskLength mask) mine) mine
      let e : LedgerEntry := ⟨r.1, key, mask, result, members, own, partition⟩
      { s with maps := { s.maps with
          ledger := s.maps.ledger.map r.2 ++ [e]
          groups := s.maps.groups.filter (·.index != g.index) ++ [g] } }

/-- A search of the Ledger: only the groups whose tag matches take part (R235, R237). -/
def State.ledgerFind (s : State) (key slot : Nat) : Option LedgerEntry :=
  ledgerSearch (s.maps.ledger.filter fun e => s.maps.groups.any fun g => g.index == e.row / 512 && g.enabled key) key slot

/-- Remove the entries that a test selects; a group that holds none has no tag. -/
def State.ledgerRemove (s : State) (p : LedgerEntry → Bool) : State :=
  let left := s.maps.ledger.filter fun e => !p e
  { s with maps := { s.maps with
      ledger := left
      groups := s.maps.groups.filter fun g => !(groupEntries left g.index).isEmpty } }

/-- Whether a create or fork in a slice finds an entry besides those that others in flight will take (R242). -/
def State.entryRoom (s : State) (slice paddock seq : Nat) : Bool :=
  s.ledgerFits (slice + 1) (mapKey paddock seq 0 0) exactMask

/-- The exact entry of a sequence. -/
def LedgerEntry.isExact (e : LedgerEntry) (paddock seq : Nat) : Bool :=
  keyKind e.key == 0 && e.mask == exactMask && e.key / 2 ^ 64 == mapKey paddock seq 0 0 / 2 ^ 64

/-- The prefix entries of a sequence: kind 1 with its descriptor and generation. -/
def LedgerEntry.isPrefixOf (e : LedgerEntry) (desc generation : Nat) : Bool :=
  keyKind e.key == 1 && bits e.result 51 32 == desc && bits e.result 31 0 == generation

/-! ### Map slots and epochs -/

/-- The slot that holds a role. -/
def Epochs.slotOf (e : Epochs) (r : SlotRole) : Option Nat := e.roles.findIdx? (· == r)

/-- Give a slot a role. -/
def Epochs.setRole (e : Epochs) (slot : Nat) (r : SlotRole) : Epochs := { e with roles := updateAt slot (fun _ => r) e.roles }

/-- Slots that a new entry of the node joins: current, and staging when one exists (R242). -/
def Epochs.liveSlots (e : Epochs) : List Nat := (e.slotOf .current).toList ++ (e.slotOf .staging).toList

/-- Epoch a is newer than b (R240). -/
def newer (a b : Nat) : Bool :=
  let d := (a + 2 ^ 32 - b % 2 ^ 32) % 2 ^ 32
  1 ≤ d && d ≤ 2 ^ 31 - 1

/-- The classes of R240. -/
inductive EpochClass where
  | current | previous | ahead | stale
deriving DecidableEq, Repr

/-- The class of a request's EPOCH (R240). A node whose current epoch is 0 answers every request EPOCH_AHEAD. -/
def Epochs.classify (e : Epochs) (epoch : Nat) : EpochClass :=
  if e.current == 0 then .ahead
  else if epoch == e.current then .current
  else if epoch == e.previous && e.previous != 0 && e.drainEnd.isSome then .previous
  else if epoch != 0 && newer epoch e.current then .ahead
  else .stale

/-- HINT of R27: a retry delay, rounded up. -/
def hintOf (ns : Nat) : Nat :=
  let u := ceilDiv ns 10000
  if u ≤ 32767 then u else 32768 + min 32767 (ceilDiv ns 1000000)

/-- HINT of an EPOCH_AHEAD: DRAIN_LEFT while a publish of that epoch is held (R244), else 200 µs (R241). -/
def State.aheadHint (s : State) (epoch : Nat) : Nat :=
  match s.maps.epochs.heldPublish with
  | some e => if e == epoch then hintOf ((s.maps.epochs.drainEnd.getD s.time) - s.time) else 20
  | none => 20

/-- What the map says of a request. -/
inductive MapAnswer where
  | serve (desc : Nat) (mirror : Bool) (partner below : Nat)   -- live, or lost in STATE 3
  | place (mirror : Bool) (slice partner : Nat)     -- placement result (SEQ_CREATE only)
  | moved (holder : Nat)
  | status (code hint : Nat)
  | unknown
deriving DecidableEq, Repr

/-- A search of one slot, with R241's treatment of local results. -/
def State.mapSearch (s : State) (slot : Option Nat) (key : Nat) : MapAnswer :=
  match slot with
  | none => .unknown
  | some sl =>
    match s.ledgerFind key sl with
    | none => .unknown
    | some e =>
      match readMap e.result with
      | .remote h => .moved h
      | .refuse st hint => .status st hint
      | .here mirror slice placement desc partner below =>
        if placement then .place mirror slice partner
        else
          match s.seqAt desc with
          | none => .unknown
          | some q =>
            if q.state.leaving then .unknown else .serve desc mirror partner below

/-- Whether an answer is local in the sense of R241. -/
def MapAnswer.isLocal : MapAnswer → Bool
  | .serve .. => true
  | _ => false

/-- R241: the map's answer to a request of the current or the previous epoch. -/
def State.mapAnswer (s : State) (c : EpochClass) (key : Nat) (mutates : Bool) : MapAnswer :=
  let cur := s.mapSearch (s.maps.epochs.slotOf .current) key
  match c with
  | .previous =>
    let prev := s.mapSearch (s.maps.epochs.slotOf .previous) key
    if prev.isLocal && !mutates then prev else cur
  | _ => cur

/-- The line 0 of the fabric manager's window (R243). -/
def State.mapStatusLine (s : State) : Bytes :=
  let e := s.maps.epochs
  toBe 4 e.current ++ toBe 4 e.staged ++ toBe 1 e.stageResult ++ zeros 3
    ++ toBe 4 (match e.drainEnd with | none => 0 | some d => ceilDiv (d - s.time) 1000) ++ zeros 112

end Sys2Proof.Machine
end

