-- ==== Sys2Proof/Machine/Status.lean ====
section
/-! DEFINITION. The shared status codes (R63) and the DETAIL codes (R66, R363). -/

namespace Sys2Proof.Machine.St

def ok : Nat := 0x00
def moved : Nat := 0x01
def epochAhead : Nat := 0x02
def staleEpoch : Nat := 0x03
def noSequence : Nat := 0x04
def badParam : Nat := 0x05
def quota : Nat := 0x06
def lostBlocks : Nat := 0x07
def appendConflict : Nat := 0x08
def busyTeardown : Nat := 0x09
def denied : Nat := 0x0A
def integrity : Nat := 0x0B
def degradedRetry : Nat := 0x0C
def formatUnsupported : Nat := 0x0D
def version : Nat := 0x0E

end Sys2Proof.Machine.St
end

