-- ==== Sys2Proof/Machine/Seqs.lean ====
section
/-! DEFINITION. Sequences in storage: shapes, directory entries, tail slots and their checks (R97, R98), the integrity
tree (R114–R117), append, close, fork, truncation, creation and release as changes of the store (R46–R57, R97–R113). -/

namespace Sys2Proof.Machine

/-! ### Shapes -/

/-- What one token record of the shape holds (R96). -/
def Shape.recShape (h : Shape) : RecShape :=
  if h.latent then ⟨h.kFmt, h.vFmt, h.headDim + h.ropeDim, 0⟩ else ⟨h.kFmt, h.vFmt, h.headDim, h.headDim⟩

/-- BF16 elements of one token over every KV head: Da of R33. -/
def Shape.tokenElems (h : Shape) : Nat :=
  if h.latent then h.headDim + h.ropeDim else h.kvHeads * 2 * h.headDim

/-- BF16 elements of one token of one KV head. -/
def Shape.headElems (h : Shape) : Nat := if h.latent then h.headDim + h.ropeDim else 2 * h.headDim

/-- Bytes of a raw block (R96). -/
def Shape.rawBlock (h : Shape) : Nat := 64 * h.recShape.bytes

/-- Units of a tail slot at a shift: header units, then data units (R97). -/
def Shape.tailUnits (h : Shape) (shift : Nat) : Nat :=
  let u := 512 * 2 ^ shift
  ceilDiv (ceilDiv h.rawBlock 512 * 16) u + ceilDiv h.rawBlock u

/-- GRAN_SHIFT of R94. -/
def Shape.granShift (h : Shape) : Nat :=
  if h.tailUnits 0 ≤ 127 then 0 else if h.tailUnits 1 ≤ 127 then 1 else 2

/-- Every (layer, KV head) row. -/
def Shape.rows (h : Shape) : List (Nat × Nat) :=
  ((List.range h.layers).map fun l => (List.range h.kvHeads).map fun k => (l, k)).flatten

/-- WINDOW_BYTES of R51. -/
def Shape.windowBytes (h : Shape) : Nat := h.entryCount * 32

/-! ### Entries -/

/-- The committed length C_L of a layer. -/
def Seq.len (q : Seq) (layer : Nat) : Nat := q.lens.getD layer q.shape.shardStart

/-- The sequence's committed length (R48). -/
def Seq.committed (q : Seq) : Nat := q.lens.foldl min (q.lens.headD q.shape.shardStart)

/-- A directory entry; `none` reads as TIER 3 (R90). -/
def Seq.entry (q : Seq) (layer head block : Nat) : Option Entry :=
  q.entries.find? fun e => e.layer == layer && e.head == head && e.block == block

/-- Store an entry in its directory page, which is backed (R90). -/
def Seq.setEntry (q : Seq) (e : Entry) : Seq :=
  let same := fun (x : Entry) => x.layer == e.layer && x.head == e.head && x.block == e.block
  { q with
    entries := if q.entries.any same then updateFirst same (fun _ => e) q.entries else q.entries ++ [e] }

/-- Remove an entry. -/
def Seq.dropEntry (q : Seq) (layer head block : Nat) : Seq :=
  { q with entries := q.entries.filter fun e => !(e.layer == layer && e.head == head && e.block == block) }

/-- Whether the directory page of an entry is marked lost (R119). -/
def Seq.pageLost (q : Seq) (layer head block : Nat) : Bool :=
  let p := q.shape.pageOf layer head block
  q.pages.any fun x => x.index == p && x.lost

/-- Whether the object behind an entry is lost: the page, the closed block or the tail (R119). -/
def State.entryLost (s : State) (q : Seq) (e : Entry) : Bool :=
  q.pageLost e.layer e.head e.block ||
    match e.slot with
    | .tail t => t.lost
    | .closed n =>
      match s.block n with
      | none => true
      | some b => b.lost || (match b.place.tier with
        | .tier1 => false
        | .tier2 p => s.store.ports.any fun x => x.port == p && x.lost
        | .absent => true)

/-! ### Refuse entries of a restoration (R236) -/

/-- Compared bits of a refuse entry: those of an exact entry, the layer and the block. -/
def refuseMask : Nat := exactMask + (2 ^ 32 - 1) * 2 ^ 32

/-- Whether an entry refuses a block range of a sequence. -/
def LedgerEntry.isRefusal (e : LedgerEntry) (paddock seq : Nat) : Bool :=
  e.mask == refuseMask && e.key / 2 ^ 64 == mapKey paddock seq 0 0 / 2 ^ 64

/-- O2 refuses what names a lost block's layer and block while the block is restored. R236 gives no STATUS: DEGRADED_RETRY
with HINT 0, as R119 answers an append there. DESIGN CHOICE (log 108). -/
def State.refuseBlock (s : State) (q : Seq) (layer block : Nat) : State :=
  let key := mapKey q.paddock q.id layer block
  if (s.maps.ledger.any fun e => e.key == key && e.mask == refuseMask) || !s.ledgerFits (q.slice + 1) key refuseMask then s
  else s.ledgerInsert key refuseMask (2 ^ 63 + St.degradedRetry) s.maps.epochs.liveSlots false (q.slice + 1)

/-- Refuse entries of a sequence leave once nothing of their block is lost any more. -/
def State.endRefusals (s : State) (d : Nat) : State :=
  match s.seqAt d with
  | none => s
  | some q =>
    if !(s.maps.ledger.any fun e => e.isRefusal q.paddock q.id) then s
    else s.ledgerRemove fun e => e.isRefusal q.paddock q.id &&
      !(q.entries.any fun x => x.layer == bits e.key 63 56 && x.block == bits e.key 55 32 && s.entryLost q x)

/-! ### Checks and seals -/

/-- The IV of R115. -/
def sealIv (version kind index : Nat) : Bytes := toBe 6 version ++ toBe 1 kind ++ toBe 5 index

/-- The memory key of a paddock. -/
def State.kmem (s : State) (paddock : Nat) : Bytes := (s.pad paddock).kmem.headD []

/-- The data granules of a tail slot: the raw block, zero beyond the committed tokens, each granule of 512 bytes (R97). -/
def Shape.granules (h : Shape) (recs : List Bytes) : List Bytes :=
  let raw := sub recs.flatten 0 h.rawBlock
  (List.range (ceilDiv h.rawBlock 512)).map fun g => sub raw (g * 512) 512

/-- The C_L that a granule of a sealed tail is sealed under: the layer's where it holds committed bytes, which every append
re-seals (R98), else the one of the slot's allocation. DESIGN CHOICE (log 122): R98 does not name the granules without
committed bytes; they keep the seal that they got when the slot was allocated. -/
def TailSlot.sealedAt (t : TailSlot) (granule cl : Nat) : Nat := if granule * 512 < t.recs.flatten.length then cl else t.born

/-- Header records of a tail slot, one for each data granule (R97): its CRC-32C, or its GCM tag (R115). The authenticated
data carries its fields in the order of R115, each in network byte order and as wide as the paddock, sequence and
descriptor fields of R25 and R87: 2, 6, 4, 1, 1 and 3 bytes. DESIGN CHOICE (log 102). -/
def State.tailChecks (s : State) (q : Seq) (layer head block cl : Nat) (t : TailSlot) : List Bytes :=
  let gs := q.shape.granules t.recs
  if q.sealed then
    ((List.range gs.length).zip gs).map fun (g, d) =>
      Config.gcmTag (s.kmem q.paddock) (sealIv t.slotVersion 2 (g * 2 ^ 32 + t.sealedAt g cl))
        (toBe 2 q.paddock ++ toBe 6 q.id ++ toBe 4 q.generation ++ toBe 1 layer ++ toBe 1 head ++ toBe 3 block) d
  else gs.map fun d => toLe 4 (crc32c d).toNat ++ zeros 12

/-- A tail slot whose records are rewritten and re-checked (R98). -/
def State.tailWith (s : State) (q : Seq) (layer head block cl : Nat) (t : TailSlot) (recs : List Bytes) : TailSlot :=
  let u := { t with recs := recs }
  { u with checks := s.tailChecks q layer head block cl u }

/-- Whether the memory that an allocation names exists and can be read (R144, R145, R161): a fitted stack's region, or the
range of a Tier-2 port in service up to its capacity. -/
def State.placeOk (s : State) (p : Place) : Bool :=
  match p.tier with
  | .tier1 => p.frames.all fun f => s.fused.hbms.contains (f / regionFrames)
  | .tier2 i => s.store.ports.any fun x =>
      x.port == i && x.present && !x.lost && p.frames.all fun f => tier2Base i ≤ f && f < tier2Base i + x.count
  | .absent => false

/-- Whether a tail's binding is of the sequence's generation (R89), its FRAME lies in its tier (R145), and every granule
verifies. -/
def State.tailOk (s : State) (q : Seq) (layer head block : Nat) (t : TailSlot) : Bool :=
  t.generation == q.generation && s.placeOk t.place && t.checks == s.tailChecks q layer head block (q.len layer) t

/-- The bytes of a tail slot as they lie in Tier-1: header units, then data units (R97); sealed granules as ciphertext. -/
def State.tailBytes (s : State) (q : Seq) (layer : Nat) (t : TailSlot) : Bytes :=
  let u := 512 * 2 ^ t.place.shift
  let gs := q.shape.granules t.recs
  let data := if q.sealed then
      ((List.range gs.length).zip gs).map fun (g, d) =>
        Config.gcmCipher (s.kmem q.paddock) (sealIv t.slotVersion 2 (g * 2 ^ 32 + t.sealedAt g (q.len layer))) d
    else gs
  sub t.checks.flatten 0 (ceilDiv (gs.length * 16) u * u) ++ sub data.flatten 0 (ceilDiv q.shape.rawBlock u * u)

/-- CHECK of a closed block (R95, R105, R115). -/
def State.blockCheck (s : State) (paddock : Nat) (sealed : Bool) (version layer head block coding units : Nat)
    (stored : Bytes) : Bytes :=
  if sealed then
    Config.gcmTag (s.kmem paddock) (sealIv version 1 0)
      (toBe 2 paddock ++ toBe 1 layer ++ toBe 1 head ++ toBe 3 block ++ toBe 1 coding ++ toBe 1 units) stored
  else toLe 4 (crc32c stored).toNat ++ zeros 12

/-- The ciphertext of a sealed block's stored bytes (R159); nothing in an open paddock. -/
def State.blockCipher (s : State) (paddock : Nat) (sealed : Bool) (version : Nat) (stored : Bytes) : Bytes :=
  if sealed then Config.gcmCipher (s.kmem paddock) (sealIv version 1 0) stored else []

/-- Whether a closed block's FRAME lies in its tier (R145), its check value or tag verifies and its contents decode (R104,
R105). -/
def State.blockOk (s : State) (sealed : Bool) (r : RecShape) (b : Block) : Bool :=
  s.placeOk b.place && b.cipher == s.blockCipher b.paddock sealed b.version b.stored &&
  b.check == s.blockCheck b.paddock sealed b.version b.layer b.head b.index b.coding b.place.units b.stored
    && (blockRecords r b.coding b.stored).isSome

/-- The records behind an entry, without any verification. -/
def State.entryRecs (s : State) (q : Seq) (e : Entry) : List Bytes :=
  match e.slot with
  | .tail t => t.recs
  | .closed n =>
    match s.block n with
    | none => []
    | some b => (blockRecords q.shape.recShape b.coding b.stored).getD []

/-- Whether what an entry points to verifies. -/
def State.entryOk (s : State) (q : Seq) (e : Entry) : Bool :=
  match e.slot with
  | .tail t => s.tailOk q e.layer e.head e.block t
  | .closed n =>
    match s.block n with
    | none => false
    | some b => s.blockOk q.sealed q.shape.recShape b

/-- A directory entry as stored (R95). -/
def State.entryBytes (s : State) (q : Seq) (e : Entry) : Bytes :=
  let heat := if q.sealed then 0 else e.heat
  let state (tokens : Nat) (lost summ : Bool) :=
    tokens + flag e.shared * 128 + flag e.pinned * 256 + flag lost * 512 + flag summ * 1024
  match e.slot with
  | .tail t =>
    toLe 5 t.place.frame ++ toLe 1 t.place.granule ++ toLe 1 t.place.units ++ toLe 1 (16 + heat)
      ++ toLe 6 t.slotVersion ++ toLe 2 (state 0 t.lost false) ++ zeros 16
  | .closed n =>
    match s.block n with
    | none => zeros 32
    | some b =>
      let tier := match b.place.tier with | .tier1 => 0 | .tier2 _ => 64 | .absent => 192
      toLe 5 b.place.frame ++ toLe 1 (b.place.granule + tier) ++ toLe 1 (b.place.units + 128)
        ++ toLe 1 (b.coding * 16 + heat) ++ toLe 6 b.version ++ toLe 2 (state 64 b.lost b.hasSummary)
        ++ sub b.check 0 16

/-- A directory page as stored (R90): 128 entries, all-zero where nothing is written. -/
def State.pageBytes (s : State) (q : Seq) (page : Nat) : Bytes :=
  ((List.range 128).map fun i =>
    let e := page * 128 + i
    let row := e / q.shape.blocksPerRow
    let b := e % q.shape.blocksPerRow + q.shape.shardStart / 64
    match q.entry (row / q.shape.kvHeads) (row % q.shape.kvHeads) b with
    | none => zeros 32
    | some x => s.entryBytes q x).flatten

/-- The tail table as stored (R87). -/
def Seq.tailTableBytes (q : Seq) : Bytes := sub ((q.lens.map (toLe 4)).flatten) 0 1024

/-- The prefix page as stored, each hash little-endian as metadata is (R6, R87). -/
def Seq.prefixPageBytes (q : Seq) : Bytes :=
  ((List.range 64).map fun k =>
    match q.hashes.find? (·.1 == k) with
    | none => zeros 8
    | some h => toLe 8 h.2).flatten

/-- An L1 page as stored (R91, R92): 127 entries, and its trailer without the tag. -/
def Seq.l1PageBytes (q : Seq) (n : Nat) : Bytes :=
  ((List.range 127).map fun i =>
    match q.pages.find? (·.index == n * 127 + i) with
    | none => zeros 5 ++ toLe 1 (2 * flag (q.l1.any fun x => x.index == n && x.lost)) ++ zeros 26
    | some p => toLe 5 (p.address / 4096) ++ toLe 1 (1 + 2 * flag p.lost) ++ toLe 6 p.version ++ zeros 4
        ++ sub (if q.sealed then p.tag else []) 0 16).flatten ++ toLe 4 n ++ zeros 12

/-- SHAPE of a descriptor: the values of bytes 8–23 of the SEQ_CREATE body, little-endian (R87). -/
def Shape.descBytes (h : Shape) (code : Nat) : Bytes :=
  toLe 2 h.layers ++ toLe 1 h.kvHeads ++ toLe 1 (flag h.latent + 2 * flag h.pin) ++ toLe 2 h.headDim ++ toLe 1 h.ropeDim
    ++ toLe 1 code ++ toLe 4 h.maxLength ++ toLe 4 h.shardStart

/-- A sequence descriptor as stored (R87). DESIGN CHOICE (log 122): HASHED stands while a prompt-block hash is recorded. -/
def State.descriptorBytes (s : State) (q : Seq) : Bytes :=
  let st := match q.state with | .live => 1 | .releasing => 2 | .lost => 3 | .lostReleasing => 3
  let mask := (q.hashes.map fun h => 2 ^ h.1).foldl Nat.lor 0
  let fk := q.forked
  toLe 8 (q.id + q.paddock * 2 ^ 48 + st * 2 ^ 60) ++ toLe 8 q.modelId ++ q.shape.descBytes (be q.created 15 1) ++ toLe 4 q.ttl
    ++ toLe 2 q.weightSet ++ toLe 1 (flag q.sealed + 2 * flag q.mirrorCopy + 4 * flag (!q.hashes.isEmpty))
    ++ toLe 1 q.granShift ++ toLe 4 q.committed ++ toLe 4 q.ref ++ toLe 4 q.generation ++ toLe 4 q.shape.l1Pages
    ++ toLe 8 q.deadline ++ (q.addresses.map (toLe 8)).flatten ++ toLe 6 q.seals.l1Version
    ++ toLe 6 q.seals.tailVersion ++ toLe 6 q.seals.prefixVersion ++ zeros 2 ++ toLe 4 q.pages.length
    ++ toLe 8 (s.tierBytes q true) ++ toLe 8 (s.tierBytes q false) ++ sub q.seals.tailTag 0 16
    ++ sub q.seals.prefixTag 0 16 ++ toLe 8 mask
    ++ toLe 8 (match fk with | none => 0 | some f => f.parent + 2 ^ 63)
    ++ toLe 4 (match fk with | none => 0 | some f => f.length)
    ++ toLe 4 (match fk with | none => 0 | some f => f.sharedBlocks)
    ++ toLe 4 (match fk with | none => 0 | some f => f.copiedTokens) ++ zeros 60

/-- The authenticated data of a sequence's metadata objects (R115). -/
def Seq.metaAad (q : Seq) : Bytes := toBe 2 q.paddock ++ toBe 6 q.id ++ toBe 4 q.generation

/-- The authenticated data and tag of a sealed metadata object of a sequence. -/
def State.metaTag (s : State) (q : Seq) (version kind index : Nat) (content : Bytes) : Bytes :=
  Config.gcmTag (s.kmem q.paddock) (sealIv version kind index) q.metaAad content

/-- A descriptor page as stored: its 16 descriptors by slot, a free one all-zero (R88). -/
def State.descPageBytes (s : State) (page : Nat) : Bytes :=
  ((List.range 16).map fun i =>
    match s.seqAt (page * 16 + i) with
    | none => zeros 256
    | some q => s.descriptorBytes q).flatten

/-- Re-seal a descriptor page: a new version and a new root on both dies (R114, R117). -/
def State.resealDescPage (s : State) (q : Seq) : State :=
  if !q.sealed then s
  else
    let page := q.desc / 16
    let (v, s) := s.version q.paddock true
    let content := s.descPageBytes page
    let written := ((s.sliceCfg q.slice).map fun c => s.descAddress c page / 32768).toList
    let s := { s with store := { s.store with
      descPages := updateAll (·.page == page) (fun x => { x with stored := content }) s.store.descPages
      leaseTouched := s.store.leaseTouched.filter fun x => !written.contains x.1 } }
    let r : Root := ⟨page, v, q.paddock, true,
      sub (Config.gcmTag (s.kmem q.paddock) (sealIv v 7 page) (toBe 2 q.paddock) content) 0 8⟩
    { s with store := { s.store with roots := s.store.roots.filter (·.page != page) ++ [r] } }

/-- Re-seal the tail table and the descriptor page (R117). -/
def State.resealTailTable (s : State) (d : Nat) : State :=
  match s.seqAt d with
  | none => s
  | some q =>
    if !q.sealed then s
    else
      let (v, s) := s.version q.paddock true
      let tag := s.metaTag q v 5 0 q.tailTableBytes
      let s := s.modSeq d fun x => { x with seals := { x.seals with tailVersion := v, tailTag := tag } }
      s.resealDescPage q

/-- Re-seal the prefix page and the descriptor page. -/
def State.resealPrefix (s : State) (d : Nat) : State :=
  match s.seqAt d with
  | none => s
  | some q =>
    if !q.sealed then s
    else
      let (v, s) := s.version q.paddock true
      let tag := s.metaTag q v 6 0 q.prefixPageBytes
      let s := s.modSeq d fun x => { x with seals := { x.seals with prefixVersion := v, prefixTag := tag } }
      s.resealDescPage q

/-- The controller has written bytes of the metadata region: lines written whole are poisoned no more, and no lease has
touched their frames since (R149, R175). -/
def State.metaWritten (s : State) (address bytes : Nat) : State :=
  { s with store := { s.store.cleanLines fun l => address ≤ l * 64 && (l + 1) * 64 ≤ address + bytes with
      leaseTouched := s.store.leaseTouched.filter fun x =>
        x.1 < address / 32768 || (address + max 1 bytes - 1) / 32768 < x.1 } }

/-- KTB entries of directory pages leave both dies before a change of their L1 entries is visible (R93). -/
def State.ktbInvalidate (s : State) (d : Nat) (pages : List Nat) : State :=
  let out := fun (k : KtbEntry) => !(k.desc == d && pages.contains k.page)
  { s with eng := { s.eng with
      clusters := s.eng.clusters.map fun c => { c with ktb := c.ktb.filter out }
      sharedKtb := s.eng.sharedKtb.filter fun k => out k.2 } }

/-- Re-seal one directory page under a new version. -/
def State.resealPage (s : State) (d page : Nat) : State :=
  match s.seqAt d with
  | none => s
  | some q =>
    let (v, t) := s.version q.paddock true
    let content := t.pageBytes q page
    let tag := t.metaTag q v 3 page content
    let address := ((q.pages.find? (·.index == page)).map fun (y : DirPage) => y.address).getD 0
    (t.metaWritten address 4096).modSeq d fun x => { x with
      pages := updateFirst (·.index == page) (fun y => { y with version := v, tag := tag, stored := content }) x.pages }

/-- Re-seal the whole L1 table under one new L1_VERSION, every page with its trailer's tag, and the descriptor page
(R92, R115, R117). -/
def State.resealL1 (s : State) (d : Nat) : State :=
  match s.seqAt d with
  | none => s
  | some q =>
    let (v, s) := s.version q.paddock true
    let trailers := (List.range q.shape.l1Pages).map fun n =>
      (⟨n, s.metaTag q v 4 n (q.l1PageBytes n), q.l1.any fun x => x.index == n && x.lost⟩ : L1Page)
    let s := (s.metaWritten (q.addresses.getD 0 0) (q.shape.l1Pages * 4096)).modSeq d fun x =>
      { x with seals := { x.seals with l1Version := v }, l1 := trailers }
    s.resealDescPage q

/-- What has changed in a sealed sequence's directory is sealed again as one operation: each changed page under a new
version, the whole L1 table under another, and the descriptor page; the changed L1 entries leave the KTBs first (R93,
R117). -/
def State.reseal (s : State) (d : Nat) : State :=
  match s.seqAt d with
  | none => s
  | some q =>
    if !q.sealed then s
    else
      let changed := (q.pages.filter fun p => p.stored != s.pageBytes q p.index).map fun (p : DirPage) => p.index
      if changed.isEmpty then s
      else (changed.foldl (fun t p => t.resealPage d p) (s.ktbInvalidate d changed)).resealL1 d

/-- An L1 entry has changed: its KTB entries leave, and a sealed L1 table is sealed again (R93, R117). -/
def State.l1Changed (s : State) (d page : Nat) : State :=
  let s := s.ktbInvalidate d [page]
  if (s.seqAt d).any (·.sealed) then s.resealL1 d else s

/-- Every granule with committed bytes of a layer's tails is sealed under the layer's C_L (R98). -/
def State.resealTails (s : State) (d : Nat) (layers : List Nat) : State :=
  s.modSeq d fun q =>
    if !q.sealed then q
    else { q with entries := q.entries.map fun (e : Entry) =>
      match e.slot with
      | .closed _ => e
      | .tail t =>
        if layers.contains e.layer then { e with slot := .tail (s.tailWith q e.layer e.head e.block (q.len e.layer) t t.recs) }
        else e }

/-- Whether a metadata object at an address can be read: it lies in a fitted stack, no line of it is poisoned, and no check
byte of it differs from its code in more than one bit, which SECDED cannot correct, or at all where a lease has touched the
frame (R144, R149, R175). -/
def State.metaReadable (s : State) (address bytes : Nat) : Bool :=
  s.fused.hbms.contains (address / 68719476736) &&
    (s.store.poisonLines.all fun l => (l + 1) * 64 ≤ address || address + bytes ≤ l * 64) &&
    s.store.checkErrors.all fun x =>
      (popcount 8 x.2 ≤ 1 && !s.store.leaseTouched.any (·.1 == x.1 / 32768)) || x.1 + 8 ≤ address || address + bytes ≤ x.1

/-- Whether a directory page verifies as a walk reads it: in a sealed paddock under DIR_VERSION and DIR_TAG (R93). -/
def State.walkOk (s : State) (q : Seq) (p : DirPage) : Bool :=
  s.metaReadable p.address 4096 && (!q.sealed || p.tag == s.metaTag q p.version 3 p.index p.stored)

/-- Whether an L1 page verifies, in a sealed paddock under L1_VERSION (R93). -/
def State.l1Ok (s : State) (q : Seq) (n : Nat) : Bool :=
  s.metaReadable (q.addresses.getD 0 0 + n * 4096) 4096 &&
    (!q.sealed || q.l1.any fun x => x.index == n && x.tag == s.metaTag q q.seals.l1Version 4 n (q.l1PageBytes n))

/-- Whether the tail table and the prefix page that a descriptor names verify (R114, R119). -/
def State.tablesOk (s : State) (q : Seq) : Bool :=
  s.metaReadable (q.addresses.getD 1 0) 1024 && (q.hashes.isEmpty || s.metaReadable (q.addresses.getD 2 0) 512) &&
    (!q.sealed || (q.seals.tailTag == s.metaTag q q.seals.tailVersion 5 0 q.tailTableBytes &&
      (q.hashes.isEmpty || q.seals.prefixTag == s.metaTag q q.seals.prefixVersion 6 0 q.prefixPageBytes)))

/-- Whether a descriptor page verifies against its root (R114); a page of an open paddock has none. -/
def State.rootOk (s : State) (page : Nat) : Bool :=
  match s.store.roots.find? (·.page == page), s.store.descPages.find? (·.page == page) with
  | some r, some p => !r.sealed ||
      r.tag == sub (Config.gcmTag (s.kmem r.paddock) (sealIv r.version 7 page) (toBe 2 r.paddock) p.stored) 0 8
  | _, _ => true

/-! ### Metadata region (R91, R147, R148) -/

/-- The byte of a slice's metadata region at an address. -/
def SliceCfg.metaOffset (c : SliceCfg) (a : Nat) : Option Nat :=
  (c.localOf (a / 32768)).bind fun i => if i < c.metaFrames then some (i * 32768 + a % 32768) else none

/-- Frames of a metadata region in which nothing may be allocated: retired, under a lease, or waiting for a zero-fill. -/
def State.shutMeta (s : State) (c : SliceCfg) : List (Nat × Nat) :=
  (s.store.retired ++ s.store.dirty ++ s.leasedFrames).filterMap fun f =>
    (c.metaOffset (f * 32768)).map fun o => (o, 32768)

/-- What some paddocks have allocated in a slice's metadata region, as (offset, bytes): metadata objects of sequences,
windows in Tier-1, weight sets (R148, R225). -/
def State.metaExtentsOf (s : State) (c : SliceCfg) (p : Nat → Bool) : List (Nat × Nat) :=
  let all := ((s.store.seqs.filter fun q => q.slice == c.id && p q.paddock).map (·.metaObjects)).flatten
    ++ ((s.maps.windows.filter fun w => decide (w.state ≠ .free) && p w.localPaddock).map fun w => (w.base, w.length))
    ++ (((s.store.weights.filter fun w => p w.paddock).map fun w => ((w.base :: w.copies).map fun a => (a, w.length))).flatten)
  all.filterMap fun x => (c.metaOffset x.1).map fun o => (o, x.2)

/-- Everything that is allocated in a slice's metadata region. -/
def State.metaExtents (s : State) (c : SliceCfg) : List (Nat × Nat) := s.metaExtentsOf c fun _ => true

/-- The part of a metadata region that a paddock allocates in, as [start, end): all that is not fixed, and for a tenant of a
slice of sealed policy its own part, so that what others hold there shows in no status (R295). DESIGN CHOICE (log 124): the
parts follow each other in the order of the slice's shares, each in proportion to SHARE. -/
def State.metaPart (s : State) (c : SliceCfg) (paddock : Nat) : Nat × Nat :=
  let limit := c.metaFrames * 32768 - s.metaFixed c
  match c.shareOf paddock with
  | none => (0, limit)
  | some n =>
    let before := if c.policy == 2 then 0 else sumNat ((c.shares.takeWhile (·.1 != paddock)).map (·.2))
    (limit * before / 256, limit * (before + n) / 256)

/-- Where a contiguous run of a metadata region may start for a paddock, beside runs that are being taken with it. -/
def State.metaStarts (s : State) (c : SliceCfg) (paddock bytes align : Nat) (taken : List (Nat × Nat)) : List Nat :=
  let busy := s.metaExtents c ++ s.shutMeta c ++ taken.filterMap fun x => (c.metaOffset x.1).map fun o => (o, x.2)
  let part := s.metaPart c paddock
  ((ceilDiv part.1 align * align :: busy.map fun x => ceilDiv (x.1 + x.2) align * align).filter fun a =>
    part.1 ≤ a && a + bytes ≤ part.2 && (busy.all fun x => a + bytes ≤ x.1 || x.1 + x.2 ≤ a)
      && (a + bytes - 1) / 68719476736 == a / 68719476736).eraseDups

/-- Allocate a contiguous, zero-filled run of a metadata region for a paddock (R91), beside runs that are being taken with it:
which free run is open (log 8). -/
def State.allocMeta (s : State) (slice paddock bytes align : Nat) (taken : List (Nat × Nat) := []) : Option (Nat × State) :=
  match s.sliceCfg slice with
  | none => none
  | some c =>
    let starts := s.metaStarts c paddock bytes align taken
    let (i, t) := s.choose Config.placement starts.length
    (starts[i]?).map fun a => (c.metaAddress a, t.metaWritten (c.metaAddress a) bytes)

/-- Back the directory page of an entry, zero-filled (R90); `none` without room. -/
def State.backPage (s : State) (d page : Nat) : Option State :=
  match s.seqAt d with
  | none => none
  | some q =>
    if q.pages.any (·.index == page) then some s
    else
      (s.allocMeta q.slice q.paddock 4096 4096).map fun r =>
        (r.2.ktbInvalidate d [page]).modSeq d fun x => { x with pages := x.pages ++ [⟨page, r.1, [], 0, zeros 16, false⟩] }

/-! ### Tail slots and closes -/

/-- A refusal: status and DETAIL. -/
abbrev Refused := Nat × Nat

/-- The refusal of a full metadata region, which R160 answers by operation: no status of its own. -/
def metaFull : Refused := (0, 0x12)

/-- The record of a full metadata region (R160): Contained (log 46). -/
def metaFullReport : ErrRep := ⟨1, 0, Config.errorCode 15 % 65536, 0, 0, 0, 0, []⟩

/-- Allocate an empty tail slot for a block that has no entry (R97). -/
def State.newTail (s : State) (d layer head block : Nat) : Except Refused State :=
  match s.seqAt d with
  | none => .error (St.degradedRetry, 0)
  | some q =>
    match s.backPage d (q.shape.pageOf layer head block) with
    | none => .error metaFull
    | some s =>
      match s.allocT1 q.slice q.paddock q.granShift (q.shape.tailUnits q.granShift) with
      | none => .error (St.degradedRetry, 0)
      | some (p, s) =>
        let (v, s) := s.version q.paddock q.sealed
        let cl := q.len layer
        let t := s.tailWith q layer head block cl ⟨p, q.generation, v, cl, [], [], false⟩ []
        .ok (s.modSeq d fun x => x.setEntry ⟨layer, head, block, .tail t, 0, false, q.shape.pin⟩)

/-- The Tier-2 allowance of a paddock in bytes, 0 when none: PADDOCK_CREATE's, and no more than the image's (R156). -/
def State.t2Allowance (s : State) (paddock : Nat) : Nat :=
  let own := (s.pad paddock).config.t2Allow
  match (s.img.t2Allow.find? (·.1 == paddock)).map (·.2) with
  | none => own
  | some n => if own == 0 then n else min own n

/-- Whether a block of the paddock may be written to Tier-2 (R154, R156). -/
def State.tier2Open (s : State) (paddock bytes : Nat) : Bool :=
  let c := (s.pad paddock).config
  let limit := s.t2Allowance paddock
  c.tier2 && (limit == 0 || s.t2Use paddock + s.movingUse paddock false + bytes ≤ limit)

/-- Room for a closed block: Tier-2 while the slice's free units are below T1_FREE_CRIT, else Tier-1 (R154). -/
def State.allocClosed (s : State) (q : Seq) (units : Nat) : Option (Place × State) :=
  let crit := match s.sliceCfg q.slice with
    | none => false
    | some c =>
      if c.policy == 0 then s.freeBelow c c.freeCrit
      else (s.pad q.paddock).config.t1Allow * (100 - c.freeCrit) < s.t1Taken q.paddock * 100
  let t2 := if crit && !q.shape.pin && s.tier2Open q.paddock (units * 512 * 2 ^ q.granShift)
    then s.allocT2 q.slice q.paddock q.granShift units else none
  match t2 with
  | some r => some r
  | none => s.allocT1 q.slice q.paddock q.granShift units

/-- Units of a summary record (R106); sealed blocks have none. -/
def Seq.summaryUnits (q : Seq) : Nat :=
  if q.sealed then 0 else ceilDiv (2 * q.shape.recShape.kDim + 4) (512 * 2 ^ q.granShift)

/-- The record of a block whose CBF form does not decode to its input (R99). -/
def cbfMismatchReport (q : Seq) (block : Nat) : ErrRep := ⟨1, 4, 0x3005, q.paddock, 0, block, q.id, []⟩

/-- Write a full block closed (R99 steps 2–5): code it, allocate, check or seal it, and write its entry in one
write. A close (R99, R101) may take Tier-2 by R154, a fork's copy may not (R158). The entry's old slot, when it has one,
is freed by the caller. -/
def State.writeClosed (s : State) (close : Bool) (d layer head block : Nat) (recs : List Bytes) : Except Refused State :=
  match s.seqAt d with
  | none => .error (St.degradedRetry, 0)
  | some q =>
    let (coding, stored) := storedForm q.shape.recShape (512 * 2 ^ q.granShift) recs
    let s := if cbfMismatch q.shape.recShape recs then s.note (cbfMismatchReport q block) else s
    let units := ceilDiv stored.length (512 * 2 ^ q.granShift)
    match s.backPage d (q.shape.pageOf layer head block) with
    | none => .error metaFull
    | some s =>
      match (if close then s.allocClosed q (units + q.summaryUnits)
          else s.allocT1 q.slice q.paddock q.granShift (units + q.summaryUnits)) with
      | none => .error (St.degradedRetry, 0)
      | some (p, s) =>
        let (v, s) := s.version q.paddock q.sealed
        let n := s.store.nextBlock
        let b : Block := ⟨n, q.paddock, q.slice, { p with units := units }, q.summaryUnits, coding, stored,
          s.blockCipher q.paddock q.sealed v stored, v,
          s.blockCheck q.paddock q.sealed v layer head block coding units stored,
          if q.sealed then [] else zeros (2 * q.shape.recShape.kDim + 4), false, false, 1, layer, head, block⟩
        let s := { s with store := { s.store with blocks := s.store.blocks ++ [b], nextBlock := n + 1 } }
        let heat := ((q.entry layer head block).map (·.heat)).getD 0
        .ok (s.modSeq d fun x => x.setEntry ⟨layer, head, block, .closed n, heat, false, q.shape.pin⟩)

/-- Insert the kind-1 entry of block k once it is closed on every row and its hash is recorded (R110, R239). -/
def State.registerPrefix (s : State) (d k : Nat) : State :=
  match s.seqAt d with
  | none => s
  | some q =>
    match q.hashes.find? (·.1 == k) with
    | none => s
    | some h =>
      let closed := q.shape.rows.all fun r =>
        match q.entry r.1 r.2 k with
        | some ⟨_, _, _, .closed _, _, _, _⟩ => true
        | _ => false
      let part := q.slice + 1
      let key := prefixKey q.paddock q.modelId k h.2
      let have_ := s.maps.ledger.any fun e => e.isPrefixOf q.desc q.generation && e.key == key
      if closed && !have_ && s.ledgerFits part key fullMask then
        s.ledgerInsert key fullMask (q.desc * 2 ^ 32 + q.generation) [] false part
      else s

/-- Remove the prefix entries and the hashes of block `k` and above (R110). -/
def State.dropPrefixes (s : State) (d k : Nat) : State :=
  match s.seqAt d with
  | none => s
  | some q =>
    let s := s.ledgerRemove fun e => e.isPrefixOf q.desc q.generation && k ≤ bits e.key 55 32
    s.modSeq d fun x => { x with hashes := x.hashes.filter fun h => h.1 < k }

/-- Close a full tail block (R99). The tail must verify; `Except.error` leaves everything as it was. -/
def State.closeTail (s : State) (d layer head block : Nat) : Except Refused State :=
  match s.seqAt d with
  | none => .error (St.degradedRetry, 0)
  | some q =>
    match q.entry layer head block with
    | some ⟨_, _, _, .tail t, _, _, _⟩ =>
      if t.recs.length < 64 then .error (St.badParam, 0)
      else
        match s.writeClosed true d layer head block t.recs with
        | .error e => .error e
        | .ok s =>
          let s := s.freeOld (s.store.nextBlock - 1) d q.generation q.paddock t.place
          let next := (q.entry layer head (block + 1)).isSome || q.shape.maxLength ≤ 64 * (block + 1)
          match (if next then .ok s else s.newTail d layer head (block + 1)) with
          | .error e => .error e
          | .ok s => .ok ((s.reseal d).registerPrefix d block)
    | _ => .error (St.badParam, 0)

/-! ### Append (R46, R47, R97, R98, R101) -/

/-- Write one row's records from position `pos` on, block by block: into the tail slot, or closed by R101 when a
whole block starts at the row's length. -/
def State.appendRow (s : State) (close : Bool) (d layer head : Nat) : Nat → Nat → List Bytes → Except Refused State
  | 0, _, _ => .ok s
  | _, _, [] => .ok s
  | fuel + 1, pos, recs =>
    match s.seqAt d with
    | none => .error (St.degradedRetry, 0)
    | some q =>
      let b := pos / 64
      let n := min recs.length (64 - pos % 64)
      let now := recs.take n
      let cl := pos + n
      let tail := match q.entry layer head b with
        | some ⟨_, _, _, .tail t, h, sh, pn⟩ => some (t, h, sh, pn)
        | _ => none
      if n == 64 && (match tail with | none => true | some (t, _) => t.recs.isEmpty) then
        match s.writeClosed close d layer head b now with
        | .error e => .error e
        | .ok s =>
          let s := match tail with | none => s | some (t, _) => s.freePlace q.paddock t.place
          let more := recs.drop n
          if more.length ≥ 64 || q.shape.maxLength ≤ 64 * (b + 1) then State.appendRow s close d layer head fuel cl more
          else
            match s.newTail d layer head (b + 1) with
            | .error e => .error e
            | .ok s => State.appendRow s close d layer head fuel cl more
      else
        match (match tail with | none => s.newTail d layer head b | some _ => .ok s) with
        | .error e => .error e
        | .ok s =>
          let s := s.modSeq d fun x =>
            match x.entry layer head b with
            | some ⟨l, h, k, .tail t, heat, sh, pn⟩ =>
              x.setEntry ⟨l, h, k, .tail (s.tailWith x layer head b cl t (t.recs ++ now)), heat, sh, pn⟩
            | _ => x
          State.appendRow s close d layer head fuel cl (recs.drop n)

/-- Every `n`-th record of a layer's list that belongs to a KV head: records by token, then head. -/
def rowRecs (kvHeads head : Nat) (recs : List Bytes) : List Bytes :=
  ((List.range recs.length).zip recs).filterMap fun (i, r) => if i % kvHeads == head then some r else none

/-- The rows of one layer of an append. -/
def State.appendLayer (s : State) (d pos kvHeads layer : Nat) (recs : List Bytes) : Except Refused State :=
  (List.range kvHeads).foldlM (fun t h =>
    let rs := rowRecs kvHeads h recs
    t.appendRow true d layer h (rs.length + 1) pos rs) s

/-- Allocate the prefix page of a sequence that has none yet (R87): PREFIX_PAGE is 0 until then. DESIGN CHOICE (log 101):
without room for it, in the region or in the paddock's allowance, the hashes are discarded, for the APPEND is not refused for
a hash (R50). -/
def State.backPrefix (s : State) (d : Nat) : Option State :=
  match s.seqAt d with
  | none => none
  | some q =>
    if q.addresses.getD 2 0 != 0 then some s
    else if s.passesAllowance q.paddock 512 then none
    else
      (s.allocMeta q.slice q.paddock 512 512).map fun r =>
        r.2.modSeq d fun x => { x with addresses := updateAt 2 (fun _ => r.1) x.addresses }

/-- Record the hashes of an APPEND for blocks that hold none (R50, R110). -/
def State.recordHashes (s : State) (d first : Nat) (hs : List Nat) : State :=
  match s.seqAt d with
  | none => s
  | some q =>
    let ks := ((List.range hs.length).zip hs).map fun (i, h) => (first + i, h)
    let new := ks.filter fun kh =>
      kh.1 < 64 && q.shape.shardStart == 0 && !(q.hashes.any (·.1 == kh.1))
    if new.isEmpty then s
    else
      match s.backPrefix d with
      | none => s
      | some s =>
        let s := s.modSeq d fun x => { x with hashes := x.hashes ++ new }
        let s := s.resealPrefix d
        new.foldl (fun t kh => t.registerPrefix d kh.1) s

/-- Commit an append: every layer's records, then the committed lengths together (R47). -/
def State.applyAppend (s : State) (d pos tokens : Nat) (layers : List (Nat × List Bytes)) : Except Refused State :=
  match s.seqAt d with
  | none => .error (St.degradedRetry, 0)
  | some q =>
    match layers.foldlM (fun t lr => t.appendLayer d pos q.shape.kvHeads lr.1 lr.2) s with
    | .error e => .error e
    | .ok s =>
      let s := s.modSeq d fun x =>
        { x with lens := layers.foldl (fun l lr => updateAt lr.1 (fun _ => pos + tokens) l) x.lens }
      let s := (s.resealTails d (layers.map (·.1))).resealTailTable d
      let s := s.reseal d
      let blocks := (List.range (ceilDiv (pos + tokens) 64 - pos / 64)).map (pos / 64 + ·)
      .ok (blocks.foldl (fun t k => t.registerPrefix d k) s)

/-- The check of R116 on a change that was tried out: its versions stay within the write counter. -/
def State.counterFits (t : State) (paddock : Nat) : Except Refused State :=
  if (t.pad paddock).writeCounter > 0xFFFF00000000 then .error (St.quota, 0x12) else .ok t

/-- The checks of R97 and R116 on a change that was tried out: allowance and write counter. -/
def State.fits (s t : State) (paddock : Nat) : Except Refused State :=
  if s.t1Use paddock < t.t1Use paddock && (t.pad paddock).config.t1Allow < t.t1Taken paddock then
    .error (St.quota, 0x12)
  else t.counterFits paddock

/-- Whether the paddock's sequence quota admits another sequence, those counted that operations in flight will create
(R64). -/
def State.seqRoom (s : State) (paddock : Nat) : Bool :=
  let coming := s.eng.ops.filter fun o => o.req.paddock == paddock && decide (o.commit = .pending) &&
    (match o.effect with | .create _ replace => !replace | .fork .. => true | _ => false)
  (s.store.seqs.filter (·.paddock == paddock)).length + coming.length < (s.pad paddock).config.seqQuota

/-! ### Creation (R51, R52, R87–R91, R123) -/

/-- The descriptor slots of a descriptor page. -/
def pageSlots (page : Nat) : List Nat := (List.range 16).map (page * 16 + ·)

/-- A free descriptor slot for a paddock in a slice: in one of the paddock's pages, or in a new page (R88); in a slice of
sealed policy one of the SEQ_QUOTA pages that are reserved for it (R291). -/
def State.freeDescriptor (s : State) (c : SliceCfg) (paddock : Nat) : Option (Nat × State) :=
  let used := s.store.seqs.map (·.desc)
  let mine := s.store.descPages.filter fun p =>
    p.paddock == paddock && c.descFirst ≤ p.page && p.page < c.descFirst + c.descCount
  match (mine.map fun p => (pageSlots p.page).filter fun d => !used.contains d).flatten with
  | d :: _ => some (d, s)
  | [] =>
    let taken := s.store.descPages.map (·.page)
    let full : Bool := match c.shareOf paddock with
      | none => c.descCount ≤ (taken.filter fun p => c.descFirst ≤ p && p < c.descFirst + c.descCount).length
      | some _ => (s.pad paddock).config.seqQuota ≤ mine.length
    if full then none
    else
      match (List.range (taken.length + 1)).find? (fun i => !taken.contains (c.descFirst + i)) with
      | none => none
      | some i =>
        let p := c.descFirst + i
        some (p * 16, { s with store := { s.store with descPages := s.store.descPages ++ [⟨p, paddock, []⟩] } })

/-- The slice of a paddock that meets a test and has the most free units, then the lower number (R123). -/
def State.bestSlice (s : State) (paddock : Nat) (p : SliceCfg → Bool) : Option Nat :=
  let mine := s.img.slices.filter fun c => bit (s.pad paddock).config.sliceMask c.id && p c
  (maxBy (fun (c : SliceCfg) => s.freeGranules c.id) mine).map (·.id)

/-- The slice of R123 for a new sequence of a paddock, among those that are not stopped. -/
def State.creationSlice (s : State) (paddock : Nat) : Option Nat :=
  s.bestSlice paddock fun c => !s.maps.fault.stoppedSlices.contains c.id

/-- GENERATION of a descriptor slot when it becomes live again (R89). -/
def State.nextGeneration (s : State) (d : Nat) : Nat × State :=
  let g := (((s.store.generations.find? (·.1 == d)).map (·.2)).getD 0 + 1) % 2 ^ 32
  (g, { s with store := { s.store with generations := s.store.generations.filter (·.1 != d) ++ [(d, g)] } })

/-- DEADLINE of R112. -/
def State.deadline (s : State) (ttl : Nat) : Nat := if ttl == 0 then 0 else s.time + ttl * 1000000000

/-- Addresses of the metadata that a sequence gets at creation: the L1 table as one run, the tail table, no prefix page, and a
heat array where it is sealed (R87, R91, R118); `none` without a free run for each. -/
def State.seqMeta (s : State) (slice paddock : Nat) (sealed : Bool) (shape : Shape) : Option (List Nat × State) :=
  let run := shape.l1Pages * 4096
  (s.allocMeta slice paddock run 4096).bind fun l1 =>
    (l1.2.allocMeta slice paddock 1024 1024 [(l1.1, run)]).bind fun tails =>
      if sealed then
        (tails.2.allocMeta slice paddock shape.heatBytes 64 [(l1.1, run), (tails.1, 1024)]).map fun heat =>
          ([l1.1, tails.1, 0, heat.1], heat.2)
      else some ([l1.1, tails.1, 0, 0], tails.2)

/-- Make a descriptor live: generation, addresses, an empty window (R87–R91). -/
def State.newSeq (s : State) (slice paddock id modelId : Nat) (shape : Shape) (created : Bytes) (ttl weightSet len : Nat)
    (mirror : Bool) (forked : Option Fork) : Except Refused (Nat × State) :=
  match s.sliceCfg slice with
  | none => .error (St.degradedRetry, 0)
  | some c =>
    if (s.store.seqs.filter (·.paddock == paddock)).length ≥ (s.pad paddock).config.seqQuota then
      .error (St.quota, 0x10)
    else
      match s.freeDescriptor c paddock with
      | none => .error (St.quota, 0x11)
      | some (d, s) =>
        let sealed := decide ((s.pad paddock).state = .sealed)
        let (g, s) := s.nextGeneration d
        let blank : Seq := {
          desc := d, generation := g, paddock := paddock, id := id, state := .live, modelId := modelId,
          shape := shape, created := created, ttl := ttl, weightSet := weightSet, sealed := sealed, mirrorCopy := mirror,
          granShift := shape.granShift, ref := 0, deadline := if mirror then 0 else s.deadline ttl, slice := slice,
          addresses := [], seals := ⟨0, 0, [], 0, []⟩, l1 := (List.range shape.l1Pages).map fun n => ⟨n, zeros 16, false⟩,
          forked := forked, lens := List.replicate shape.layers len, hashes := [], pages := [], entries := [] }
        match s.seqMeta slice paddock sealed shape with
        | none => .error metaFull
        | some (addresses, s) =>
          let s := s.metaWritten (s.descAddress c (d / 16) + d % 16 * 256) 256
          .ok (d, { s with store := { s.store with seqs := s.store.seqs ++ [{ blank with addresses := addresses }] } })

/-- Allocate the tail slots of every row for the block that holds a length (R97). -/
def State.newTails (s : State) (d len : Nat) : Except Refused State :=
  match s.seqAt d with
  | none => .error (St.degradedRetry, 0)
  | some q =>
    if q.shape.maxLength ≤ len then .ok s
    else q.shape.rows.foldlM (fun t r => t.newTail d r.1 r.2 (len / 64)) s

/-- Seal the metadata of a new sequence. -/
def State.sealNew (s : State) (d : Nat) : State :=
  match s.seqAt d with
  | none => s
  | some q =>
    let s := (s.resealTails d (List.range q.shape.layers)).resealTailTable d
    let s := if q.hashes.isEmpty then s else s.resealPrefix d
    if q.sealed && q.pages.isEmpty then s.resealL1 d else s.reseal d

/-- Create a sequence as SEQ_CREATE does (R52). -/
def State.createSeq (s : State) (slice paddock id modelId : Nat) (shape : Shape) (created : Bytes) (ttl weightSet : Nat)
    (mirror : Bool) : Except Refused (Nat × State) :=
  match s.newSeq slice paddock id modelId shape created ttl weightSet shape.shardStart mirror none with
  | .error e => .error e
  | .ok (d, s) =>
    match s.newTails d shape.shardStart with
    | .error e => .error e
    | .ok s => .ok (d, s.sealNew d)

/-- O2's exact entry for a sequence that the node creates, forks or copies (R242). -/
def State.insertExact (s : State) (d : Nat) (mirror : Bool) (partner below : Nat) : State :=
  match s.seqAt d with
  | none => s
  | some q =>
    let s := s.ledgerRemove fun e => e.isExact q.paddock q.id && e.own
    s.ledgerInsert (mapKey q.paddock q.id 0 0) exactMask (localResult mirror q.slice false d partner below)
      s.maps.epochs.liveSlots true (q.slice + 1)

/-! ### Release (R56, R113) -/

/-- LOST_PARTNER is cleared once no sequence given up towards that partner remains (R309). -/
def State.settleLost (s : State) : State :=
  if s.maps.streams.any fun x => x.partner == s.maps.fault.lostPartner && !x.givenUp.isEmpty then s
  else s.modFault fun f => { f with lostPartner := 0 }

/-- A sequence is given up towards no partner any more: a later map or its release ends that (R309). -/
def State.regain (s : State) (paddock seq : Nat) : State :=
  let clear := fun (x : Stream) => { x with givenUp := x.givenUp.filter (· != (paddock, seq)) }
  ({ s with maps := { s.maps with streams := s.maps.streams.map clear } }).settleLost

/-- Step 1 of R113: the Ledger entries go and STATE becomes 2. -/
def State.startRelease (s : State) (d : Nat) : State :=
  match s.seqAt d with
  | none => s
  | some q =>
    let s := (s.dropPrefixes d 0).regain q.paddock q.id
    let s := s.ledgerRemove fun e => e.isRefusal q.paddock q.id || (e.isExact q.paddock q.id
      && (match readMap e.result with | .here _ _ false x _ _ => x == d | _ => false))
    s.modSeq d fun x => { x with state := .releasing }

/-- Steps 3 and 4 of R113: references, tail slots, metadata and the descriptor. -/
def State.finishRelease (s : State) (d : Nat) : State :=
  match s.seqAt d with
  | none => s
  | some q =>
    let s := match s.sliceCfg q.slice with
      | none => s
      | some c => s.metaWritten (s.descAddress c (d / 16) + d % 16 * 256) 256
    let s := { s with store := { s.store with seqs := s.store.seqs.filter (·.desc != d) } }
    let s := q.entries.foldl (fun t e => t.freeSlot q.paddock e.slot) s
    let page := d / 16
    let s := s.ktbInvalidate d (q.pages.map (·.index))
    if s.store.seqs.any fun x => x.desc / 16 == page then s
    else
      { s with store := { s.store with
          descPages := s.store.descPages.filter (·.page != page)
          roots := s.store.roots.filter (·.page != page) } }

/-- A release of a sequence that no operation holds ends at once; otherwise RELEASE_REF_ZERO ends it. -/
def State.release (s : State) (d : Nat) : State :=
  let s := s.startRelease d
  match s.seqAt d with
  | none => s
  | some q => if q.ref == 0 then s.finishRelease d else s

/-! ### Truncation (R55) -/

/-- Cut one row to a length. The block that holds the length becomes the tail again. -/
def State.cutRow (s : State) (d layer head len : Nat) : Except Refused State :=
  match s.seqAt d with
  | none => .error (St.degradedRetry, 0)
  | some q =>
    let gone := q.entries.filter fun e => e.layer == layer && e.head == head && len ≤ 64 * e.block
    let s := s.modSeq d fun x =>
      { x with entries := x.entries.filter fun e => !(e.layer == layer && e.head == head && len ≤ 64 * e.block) }
    let s := gone.foldl (fun t e => t.freeSlot q.paddock e.slot) s
    if len % 64 == 0 then
      if q.shape.maxLength ≤ len then .ok s else s.newTail d layer head (len / 64)
    else
      match q.entry layer head (len / 64) with
      | none => .ok s
      | some e =>
        match e.slot with
        | .tail t =>
          .ok (s.modSeq d fun x => x.setEntry { e with slot := .tail (s.tailWith q layer head e.block len t (t.recs.take (len % 64))) })
        | .closed n =>
          let recs := s.entryRecs q e
          let s := s.modSeq d fun x => x.dropEntry layer head e.block
          match s.newTail d layer head e.block with
          | .error r => .error r
          | .ok s =>
            let s := s.modSeq d fun x =>
              match x.entry layer head e.block with
              | some ⟨l, h, k, .tail t, heat, sh, pn⟩ =>
                x.setEntry ⟨l, h, k, .tail (s.tailWith x layer head k len t (recs.take (len % 64))), heat, sh, pn⟩
              | _ => x
            .ok (s.dropRef n)

/-- Layers that a truncation cuts. -/
def Seq.cutLayers (q : Seq) (len : Nat) : List Nat := (List.range q.shape.layers).filter fun l => len < q.len l

/-- BLOCKS_RELEASED of R55: closed blocks from which the cut drops a reference. -/
def Seq.blocksReleased (q : Seq) (len : Nat) : Nat :=
  (q.entries.filter fun e =>
    (q.cutLayers len).contains e.layer && len < 64 * (e.block + 1) &&
      (match e.slot with | .closed _ => true | .tail _ => false)).length

/-- Truncate a sequence (R55). Prefix entries go before anything is freed (R110). -/
def State.applyTruncate (s : State) (d len : Nat) : Except Refused State :=
  match s.seqAt d with
  | none => .error (St.degradedRetry, 0)
  | some q =>
    let s := s.dropPrefixes d (len / 64)
    let rows := ((q.cutLayers len).map fun l => (List.range q.shape.kvHeads).map fun h => (l, h)).flatten
    match rows.foldlM (fun t r => t.cutRow d r.1 r.2 len) s with
    | .error e => .error e
    | .ok s =>
      let s := s.modSeq d fun x => { x with lens := x.lens.map fun l => min l len }
      let s := if q.hashes.any fun h => len / 64 ≤ h.1 then s.resealPrefix d else s
      let s := s.resealTails d (q.cutLayers len)
      .ok (((s.resealTailTable d).reseal d).endRefusals d)

/-! ### Fork (R53, R54, R107, R108) -/

/-- Records of a slice's part of the share-count table in use: blocks with a count above 1 (R107, R148). -/
def State.shareRecords (s : State) (slice : Nat) : Nat :=
  (s.store.blocks.filter fun b => b.slice == slice && b.refs > 1).length

/-- An entry takes the place of another; a tail slot that stood there is free (R113). -/
def State.replaceEntry (s : State) (d : Nat) (e : Entry) : State :=
  match s.seqAt d with
  | none => s
  | some q =>
    let old := match q.entry e.layer e.head e.block with | some ⟨_, _, _, .tail t, _, _, _⟩ => some t.place | _ => none
    let s := s.modSeq d fun x => x.setEntry e
    match old with | none => s | some p => s.freePlace q.paddock p

/-- Share one closed block with the child, or copy its stored bytes when the share-count table is full (R107, R108).
The numbers are SHARED_BLOCKS and COPIED_TOKENS so far. -/
def State.forkClosed (s : State) (d : Nat) (e : Entry) (n : Nat) (acc : Nat × Nat) : Except Refused (State × Nat × Nat) :=
  match s.block n, s.seqAt d with
  | some b, some q =>
    match s.backPage d (q.shape.pageOf e.layer e.head e.block) with
    | none => .error metaFull
    | some s =>
    if b.refs == 1 && s.sharePart q.slice ≤ s.shareRecords q.slice then
      match s.allocT1 q.slice q.paddock q.granShift (b.place.units + b.summaryUnits) with
      | none => .error (St.degradedRetry, 0)
      | some (p, s) =>
        let m := s.store.nextBlock
        let c := { b with num := m, place := { p with units := b.place.units }, refs := 1 }
        let s := { s with store := { s.store with blocks := s.store.blocks ++ [c], nextBlock := m + 1 } }
        .ok (s.replaceEntry d { e with slot := .closed m, shared := false }, acc.1, acc.2 + 64)
    else
      let s := s.modBlock n fun x => { x with refs := x.refs + 1 }
      .ok (s.replaceEntry d { e with shared := true }, acc.1 + 1, acc.2)
  | _, _ => .error (St.degradedRetry, 0)

/-- Give the child one of the parent's entries below FORK_LENGTH. -/
def State.forkEntry (d len : Nat) (parent : Seq) (acc : State × Nat × Nat) (e : Entry) :
    Except Refused (State × Nat × Nat) :=
  let s := acc.1
  let n := min 64 (len - 64 * e.block)
  match e.slot with
  | .closed m =>
    if n == 64 then s.forkClosed d e m acc.2
    else
      let recs := (s.entryRecs parent e).take n
      match s.appendRow false d e.layer e.head 2 (64 * e.block) recs with
      | .error r => .error r
      | .ok s => .ok (s, acc.2.1, acc.2.2 + n)
  | .tail t =>
    match s.appendRow false d e.layer e.head 2 (64 * e.block) (t.recs.take n) with
    | .error r => .error r
    | .ok s => .ok (s, acc.2.1, acc.2.2 + min n t.recs.length)

/-- A child takes over its parent's hashes (R110); without room for its prefix page it has none (log 101). -/
def State.inheritHashes (s : State) (d : Nat) (hs : List (Nat × Nat)) : State :=
  if hs.isEmpty then s
  else
    match s.backPrefix d with
    | none => s
    | some s => s.modSeq d fun x => { x with hashes := hs }

/-- Fork a child from a parent at a length (R54). DESIGN CHOICE (log 103): where the share-count table fills part way, the
closed blocks are shared in the order of the parent's entries, and the later ones copied; R107 gives no order. -/
def State.applyFork (s : State) (parent : Seq) (child len maxLength ttl : Nat) (mirror : Bool) :
    Except Refused (Nat × State) :=
  let shape := { parent.shape with maxLength := maxLength }
  let created := toBe 8 parent.modelId ++ sub parent.created 8 8 ++ toBe 4 maxLength ++ sub parent.created 20 4
    ++ toBe 4 ttl ++ sub parent.created 28 4
  match s.newSeq parent.slice parent.paddock child parent.modelId shape created ttl parent.weightSet len mirror
      (some ⟨parent.id, len, 0, 0⟩) with
  | .error e => .error e
  | .ok (d, s) =>
    let mine := parent.entries.filter fun e => 64 * e.block < len
    match mine.foldlM (State.forkEntry d len parent) (s, 0, 0) with
    | .error e => .error e
    | .ok (s, shared, copied) =>
      let s := s.modSeq parent.desc fun x =>
        { x with entries := x.entries.map fun e =>
            match e.slot with
            | .closed n => if ((s.block n).map (·.refs)).getD 1 > 1 then { e with shared := true } else e
            | .tail _ => e }
      let s := s.modSeq d fun x => { x with forked := some ⟨parent.id, len, shared, saturate 32 copied⟩ }
      match s.seqAt d with
      | none => .error (St.degradedRetry, 0)
      | some q =>
        let missing := shape.rows.filter fun r => (q.entry r.1 r.2 (len / 64)).isNone
        match (if maxLength ≤ len then .ok s else missing.foldlM (fun t r => t.newTail d r.1 r.2 (len / 64)) s) with
        | .error e => .error e
        | .ok s =>
          let hs := parent.hashes.filter fun h => 64 * (h.1 + 1) ≤ len
          let s := (s.inheritHashes d hs).sealNew d
          let s := hs.foldl (fun t h => t.registerPrefix d h.1) s
          .ok (d, s.reseal parent.desc)

end Sys2Proof.Machine
end

