-- ==== Sys2Proof/Machine/PairSend.lean ====
section
/-! DEFINITION. The pair stream as sender (R302–R306, R427): pair records, the ring, commits, and what an error of a
connection does to everything that used it (R216, R217, R309). -/

namespace Sys2Proof.Machine

/-! ### Pair records (R304) -/

/-- Pad to whole lines of 128 bytes. -/
def wholeLines (bs : Bytes) : Bytes := bs ++ zeros (ceilDiv bs.length 128 * 128 - bs.length)

/-- The fields of a pair record header. -/
structure PairHead where
  type : Nat
  paddock : Nat
  seq : Nat
  position : Nat := 0
  count : Nat := 0
  layerFirst : Nat := 0
  layerCount : Nat := 0
  kvHead : Nat := 0
  coding : Nat := 0
  block : Nat := 0
  aux : Nat := 0
  body : Bytes := []
  parent : Nat := 0
  forkLength : Nat := 0
deriving DecidableEq, Repr

/-- A pair record: header line and payload in whole lines. -/
def pairRecord (h : PairHead) (payload : Bytes) : Bytes :=
  let p := wholeLines payload
  toBe 1 h.type ++ zeros 1 ++ toBe 2 h.paddock ++ toBe 4 (1 + p.length / 128) ++ toBe 8 h.seq ++ toBe 4 h.position
    ++ toBe 4 h.count ++ toBe 1 h.layerFirst ++ toBe 1 (h.layerCount % 256) ++ toBe 1 h.kvHead ++ toBe 1 h.coding
    ++ toBe 4 h.block ++ toBe 8 h.aux ++ sub h.body 0 32 ++ toBe 8 h.parent ++ toBe 4 h.forkLength ++ zeros 44 ++ p

/-- APPEND records of some layers (each with its records by token, then head), cut by layer and token range so that
each takes at most `room` lines (R427). -/
def appendRecords (paddock seq pos tokens kvHeads recBytes room : Nat) (layers : List (Nat × List Bytes)) : List Bytes :=
  let perToken := kvHeads * recBytes
  let cut := max 1 ((room - 1) * 128 / max 1 perToken)
  (layers.map fun lr =>
    ((List.range (ceilDiv tokens cut)).map fun i =>
      let recs := (lr.2.drop (i * cut * kvHeads)).take (cut * kvHeads)
      pairRecord { type := 5, paddock := paddock, seq := seq, position := pos + i * cut,
                   count := recs.length / max 1 kvHeads, layerFirst := lr.1, layerCount := 1 } recs.flatten)).flatten

/-! ### Streams -/

/-- Ring size N of a window (R303). -/
def ringSize (length : Nat) : Nat := length / 128 - 3

/-- The stream that carries a paddock's records to a partner: the paddock-0 window for open paddocks, a window of its
own for a sealed one (R302). -/
def State.streamOf (s : State) (partner paddock : Nat) : Option Stream :=
  let k := if s.sealedPad paddock then paddock else 0
  s.maps.streams.find? fun x => x.partner == partner && x.paddock == k

/-- The stream towards a partner, made when there is none. -/
def State.ensureStream (s : State) (partner paddock : Nat) : State :=
  match s.streamOf partner paddock with
  | some _ => s
  | none =>
    let k := if s.sealedPad paddock then paddock else 0
    let n := s.maps.nextStream
    let key := ((s.maps.windows.find? fun w => w.srcNode == partner && w.localPaddock == k && decide (w.use = .pair)).map
      (·.key)).getD []
    let x : Stream := ⟨n, partner, k, key, none, 0, 1, 0, [], [], none, [], 0, [], [], []⟩
    { s with maps := { s.maps with streams := s.maps.streams ++ [x], nextStream := n + 1 } }

/-- Lines that one commit of a stream can hold (R303); before the status line is read, by this node's own setting. -/
def State.streamRoom (s : State) (partner paddock : Nat) : Nat :=
  let own := if s.sealedPad paddock then s.img.service.pairSealed else s.img.service.pairOpen
  let len := match s.streamOf partner paddock with
    | none => own
    | some x => if x.windowLength == 0 then own else x.windowLength
  ringSize len - 1

/-- Whether mutating operations of a sequence cannot be committed towards its partner: no mirror (R310), given up
(R309), or a resync whose first commit is not acknowledged (R313). The number is the HINT. -/
def State.mirrorMissing (s : State) (partner paddock seq : Nat) : Option Nat :=
  if partner == 0 || partner == s.boot.nodeId then some 0
  else
    match s.streamOf partner paddock with
    | none => none
    | some x =>
      if x.givenUp.contains (paddock, seq) then some (hintOf s.img.service.mirrorHold)
      else if x.resyncing.contains (paddock, seq) then some 100
      else none

/-- An APPEND or TAIL record of one layer that is too long for a commit of `room` lines, cut by token range, at whole blocks
where they fit (R427). -/
def State.cutRecord (s : State) (room : Nat) (r : Bytes) : List Bytes :=
  let type := be r 0 1
  if r.length / 128 ≤ room || !(type == 5 || type == 8) || be r 25 1 != 1 then [r]
  else
    match s.findSeq (be r 2 2 % 4096) (be r 8 8 % 2 ^ 48) with
    | none => [r]
    | some q =>
      let perToken := q.shape.kvHeads * q.shape.recShape.bytes
      let fit := max 1 ((room - 1) * 128 / max 1 perToken)
      let cut := if 64 ≤ fit then fit / 64 * 64 else fit
      let n := be r 20 4
      (List.range (ceilDiv n cut)).map fun i =>
        let k := min cut (n - i * cut)
        pairRecord { type := type, paddock := q.paddock, seq := q.id, position := be r 16 4 + i * cut, count := k,
                     layerFirst := be r 24 1, layerCount := 1, kvHead := be r 26 1 }
          (sub r (128 + i * cut * perToken) (k * perToken))

/-- Group the records of one operation into commits of at most `room` lines and 4,096 records. -/
def groupCommits (room : Nat) : List Bytes → List (List Bytes)
  | [] => []
  | r :: rs =>
    match groupCommits room rs with
    | [] => [[r]]
    | g :: gs =>
      if (r.length + (g.map (·.length)).foldl (· + ·) 0) / 128 ≤ room && g.length < 4096 then (r :: g) :: gs
      else [r] :: g :: gs

/-- A commit line (R303). -/
def commitLine (c : Commit) : Bytes :=
  toBe 8 c.seq ++ toBe 4 c.ringStart ++ toBe 4 c.ringEnd ++ toBe 2 c.records.length ++ toBe 1 (flag c.continued)
    ++ zeros 1 ++ toBe 4 (crc32c c.records.flatten).toNat ++ zeros 104

/-- An RLA message body: header, then line data (R222). -/
def rlaBody (addr lines status tag : Nat) (data : Bytes) : Bytes :=
  toBe 8 addr ++ toBe 2 lines ++ toBe 1 status ++ zeros 1 ++ toBe 4 tag ++ data

/-- Write ring lines by LWRITE in a traffic class, at most 4,096 lines a message, wrapping at the ring's end. -/
def State.writeRing (qpn size tc : Nat) : Nat → Nat → Bytes → State → State
  | 0, _, _, s => s
  | fuel + 1, i, data, s =>
    if data.isEmpty then s
    else
      let n := min (min (data.length / 128) (size - i)) 4096
      let s := s.sendMsg qpn 0x41 tc (rlaBody ((2 + i) * 128) n 0 0 (data.take (n * 128))) false none
      State.writeRing qpn size tc fuel ((i + n) % size) (data.drop (n * 128)) s

/-- The traffic class of a commit (R184): mirror commits travel in class 6; BLOCK records and LOST_NOTICEs that no operation
waits for, those of a resync (R313) and of a restoration (log 117), in the background class 1. -/
def Commit.trafficClass (c : Commit) : Nat :=
  if c.op == 0 && (match c.records.head? with | some r => be r 0 1 == 7 || be r 0 1 == 11 | none => false) then 1 else 6

/-- Send one commit: its ring lines, then the commit line by LWRITE_FINAL (R305 step 3). -/
def State.sendCommit (s : State) (qpn length : Nat) (c : Commit) : State :=
  let tc := c.trafficClass
  let s := State.writeRing qpn (ringSize length) tc (c.records.flatten.length + 1) c.ringStart c.records.flatten s
  s.sendMsg qpn 0x42 tc (rlaBody 0 1 0 0 (commitLine c)) true none

/-- Ring lines that unacknowledged commits hold. -/
def Stream.used (x : Stream) : Nat := sumNat (x.unacked.map fun c => (c.records.map (·.length)).foldl (· + ·) 0 / 128)

/-- Form commits while the ring has room (R306). -/
def State.pumpStreamFuel (i : Nat) : Nat → State → State
  | 0, s => s
  | fuel + 1, s =>
    match s.stream i with
    | none => s
    | some x =>
      match x.qpn, x.waiting with
      | some qpn, w :: rest =>
        if x.windowLength == 0 then s
        else
          let size := ringSize x.windowLength
          match groupCommits (size - 1) ((w.records.map (s.cutRecord (size - 1))).flatten) with
          | [] => State.pumpStreamFuel i fuel (s.modStream i fun y => { y with waiting := rest })
          | g :: gs =>
            let lines := (g.map (·.length)).foldl (· + ·) 0 / 128
            if x.used + lines > size - 1 then s
            else
              let c : Commit := ⟨x.nextSeq, x.ringHead, (x.ringHead + lines) % size, !gs.isEmpty, g, w.op⟩
              let left := if gs.isEmpty then rest else { w with records := gs.flatten } :: rest
              let s := s.modStream i fun y => { y with
                nextSeq := y.nextSeq + 1, ringHead := c.ringEnd, unacked := y.unacked ++ [c], waiting := left }
              let s := if w.op == 0 then s else s.modOp w.op fun o => { o with parts := o.parts + 1 }
              State.pumpStreamFuel i fuel (s.sendCommit qpn x.windowLength c)
      | _, _ => s

/-- Form what commits the ring has room for. -/
def State.pumpStream (s : State) (i : Nat) : State :=
  match s.stream i with
  | none => s
  | some x => State.pumpStreamFuel i (sumNat (x.waiting.map fun w => w.records.length + 1) + 1) s

/-- Queue the records of an operation (0: of none) towards a partner. -/
def State.queueRecords (s : State) (partner paddock op : Nat) (records : List Bytes) : State :=
  if partner == 0 || records.isEmpty then s
  else
    let s := s.ensureStream partner paddock
    match s.streamOf partner paddock with
    | none => s
    | some x =>
      let s := s.modStream x.id fun y => { y with waiting := y.waiting ++ [⟨op, records⟩] }
      s.pumpStream x.id

/-! ### Parts of a commit held by the receiver (R427) -/

/-- A window's parts give up their units; freed frames are zero-filled (R113). -/
def State.freeParts (s : State) (w : Nat) : State :=
  let mine := s.store.parts.filter (·.1 == w)
  let s := { s with store := { s.store with parts := s.store.parts.filter (·.1 != w) } }
  mine.foldl (fun t x => t.freePlace x.2.2 x.2.1) s

/-- The parts that a window holds are discarded. -/
def State.dropParts (s : State) (w : Window) : State := (s.freeParts w.index).modWindow w.index fun x => { x with parts := [] }

/-! ### The partner of a sequence -/

/-- PARTNER of the current map's local entry for a sequence; 0 when there is none. -/
def State.partnerOf (s : State) (paddock seq : Nat) : Nat :=
  match s.maps.epochs.slotOf .current with
  | none => 0
  | some sl =>
    match ledgerSearch s.maps.ledger (mapKey paddock seq 255 0xFFFFFF) sl with
    | none => 0
    | some e => match readMap e.result with | .here _ _ false _ p _ => p | _ => 0

/-! ### Connection errors (R216, R217, R309) -/

/-- A connection enters ERROR: nothing more is sent, unsent responses and unadmitted messages are discarded, admitted
operations go on without their response, and a pair stream on it holds its commits. -/
def State.connError (s : State) (qpn : Nat) : State :=
  match s.qp qpn with
  | none => s
  | some q =>
    match q.state with
    | .error | .quarantine => s
    | _ =>
      let s := s.modQp qpn fun x => { x with
        state := .error, stateUntil := s.time + s.img.transport.errorHold
        tx := { x.tx with queue := [], ready := [], unacked := [], rtoAt := none, rnrUntil := none, asked := [] }
        rx := { x.rx with msgs := [], used := [], outstanding := [], finals := [], held := [], hole := none, ackAt := none, accepted := [] } }
      let s := { s with net := { s.net with inbox := s.net.inbox.filter (·.qpn != qpn) } }
      let gone := fun (o : Op) => o.req.qpn == qpn && decide (o.phase ≠ .admitted)
      let dead := (s.eng.ops.filter gone).map (·.id)
      let mark := fun (o : Op) => if o.req.qpn == qpn then { o with discarded := true } else o
      let s := { s with eng := { s.eng with ops := (s.eng.ops.filter fun o => !gone o).map mark } }
      let mine := fun (i : Item) => match i with | .frame f => f.qpn == qpn && f.data | .op n => dead.contains n | .work _ => false
      let s := { s with sch := { s.sch with scheds := s.sch.scheds.map fun (d : Sched) => d.discard mine } }
      let s := if dead.isEmpty then s else s.stir
      let hold := fun (x : Stream) =>
        if x.qpn == some qpn then { x with qpn := none, holdUntil := some (s.time + s.img.service.mirrorHold) } else x
      { s with maps := { s.maps with streams := s.maps.streams.map hold } }

/-- Whether a connection admits a message's opcode from its peer (R191, R208). -/
def Qp.admits (q : Qp) (opcode : Nat) : Bool :=
  if opcode == 0x61 then true
  else if q.initiator then q.service == 2 && opcode == 0xC0
  else
    match q.service with
    | 0 => if q.spray then opcode == 2 else 1 ≤ opcode && opcode ≤ 9
    | 1 => opcode == 0x70
    | _ => if q.spray then opcode == 0x41 || opcode == 0x42 else 0x40 ≤ opcode && opcode ≤ 0x42

/-- Answer a packet or message that breaks a rule with a NAK, and enter ERROR (R187, R189, R216). -/
def State.nakError (s : State) (qpn psn syndrome : Nat) : State := (s.control qpn 2 psn syndrome).connError qpn

/-! ### Lost objects (R119, R120) -/

/-- The RESTORE_REQ for a range of blocks of a sequence (R315); KV head 255 names all. -/
def State.restoreRange (s : State) (q : Seq) (layer layers head block count : Nat) : State :=
  s.queueRecords (s.partnerOf q.paddock q.id) q.paddock 0
    [pairRecord { type := 10, paddock := q.paddock, seq := q.id, count := count, layerFirst := layer, layerCount := layers,
                  kvHead := head, block := block } []]

/-- The RESTORE_REQ for a block or tail of a sequence, which O2 refuses while it is restored (R236); without a partner there
is no restoration. -/
def State.restoreReq (s : State) (q : Seq) (layer head block : Nat) : State :=
  let partner := s.partnerOf q.paddock q.id
  if partner == 0 || partner == s.boot.nodeId then s
  else (s.refuseBlock q layer block).restoreRange q layer 1 head block 1

/-- The RESTORE_REQ for a whole sequence: every layer, KV head and block that holds something. -/
def State.restoreAll (s : State) (q : Seq) : State :=
  let first := q.shape.shardStart / 64
  s.restoreRange q 0 q.shape.layers 255 first (max 1 (ceilDiv (q.lens.foldl max 0) 64 - first))

/-- The Farrier stops allocation in a frame that is to be retired (R321). -/
def State.stopFrame (s : State) (frame : Nat) : State :=
  if s.store.retired.contains frame then s else { s with store := { s.store with retired := s.store.retired ++ [frame] } }

/-- Whether no live object is left in a frame: what is lost there needs no move (R321). -/
def State.frameClear (s : State) (frame : Nat) : Bool :=
  (s.store.blocks.all fun b => b.lost || !b.whole.frames.contains frame) &&
    s.store.seqs.all fun q => (q.tails.all fun t => t.lost || !t.place.frames.contains frame) &&
      { q with pages := q.pages.filter fun y => !y.lost }.metaObjects.all fun x =>
        frame < x.1 / 32768 || (x.1 + max 1 x.2 - 1) / 32768 < frame

/-- The Farrier writes the record of a frame that it has emptied, up to 65,536 records; a frame that still holds something keeps
waiting (R320, R321). -/
def State.recordFrame (s : State) (frame : Nat) : State :=
  if s.store.retired.contains frame && !s.farrier.frames.contains frame && s.farrier.frames.length < 65536 && s.frameClear frame
  then { s with farrier := { s.farrier with frames := s.farrier.frames ++ [frame] } }
  else s

/-- The entries that name a closed block. -/
def State.namers (s : State) (n : Nat) : List (Seq × Entry) :=
  (s.store.seqs.map fun q => (q.entries.filter fun e => decide (e.slot = .closed n)).map fun e => (q, e)).flatten

/-- Refuse entries of every sequence that shares a block leave once nothing of theirs is lost any more (R120, R236). -/
def State.endNamerRefusals (s : State) (n : Nat) : State :=
  ((s.namers n).map (·.1.desc)).eraseDups.foldl (fun t d => t.endRefusals d) s

/-- The record of a failed check: Contained, with the frame or page address (R119). -/
def checkReport (q : Seq) (address : Nat) : ErrRep := ⟨1, 4, 0x3002, q.paddock, 0, address, q.id, []⟩

/-- Re-seal the pages of the entries that name a block, in every sequence that shares it (R117). -/
def State.resealNamers (s : State) (n : Nat) : State :=
  ((s.namers n).map (·.1.desc)).eraseDups.foldl (fun t d => t.reseal d) s

/-- Whether a lease has marked a frame of a place: its source stays where it is until the mark is gone (R170). -/
def State.marked (s : State) (p : Place) : Bool := p.frames.any s.leasedFrames.contains

/-- Relocate one closed block to a new place in Tier-1; a shared block too, before its frame is retired. A block that fails
its check is marked lost and restored (R100, R117, R321). One in a frame that a lease has marked waits for the return of
the lease (R170). -/
def State.relocateBlock (s : State) (b : Block) : State :=
  match (s.namers b.num).head? with
  | none => s
  | some x =>
    if s.marked b.whole then s
    else if !s.blockOk x.1.sealed x.1.shape.recShape b then
      (((s.modBlock b.num fun y => { y with lost := true }).resealNamers b.num).note (checkReport x.1 b.place.frame)).restoreReq
        x.1 x.2.layer x.2.head x.2.block
    else
      match s.allocT1 b.slice b.paddock x.1.granShift (b.place.units + b.summaryUnits) with
      | none => s
      | some (p, s) =>
        ((s.modBlock b.num fun y => { y with place := { p with units := b.place.units } }).resealNamers b.num).freeOld
          b.num x.1.desc x.1.generation b.paddock b.whole

/-- Relocate one tail slot; one that fails its check is marked lost and restored (R100, R117, R321). -/
def State.relocateTail (s : State) (q : Seq) (e : Entry) (x : TailSlot) : State :=
  if s.marked x.place then s
  else if !s.tailOk q e.layer e.head e.block x then
    (((s.modSeq q.desc fun y => y.setEntry { e with slot := .tail { x with lost := true } }).reseal q.desc).note
      (checkReport q x.place.frame)).restoreReq q e.layer e.head e.block
  else
    match s.allocT1 q.slice q.paddock q.granShift x.place.units with
    | none => s
    | some (p, s) =>
      ((s.modSeq q.desc fun y => y.setEntry { e with slot := .tail { x with place := p } }).reseal q.desc).freeOld
        0 q.desc q.generation q.paddock x.place

/-! A lost directory page, L1 page or sequence (R119, R120). -/

/-- The entries of a sequence under some directory pages. -/
def Seq.under (q : Seq) (pages : List Nat) : List Entry :=
  q.entries.filter fun e => pages.contains (q.shape.pageOf e.layer e.head e.block)

/-- Directory pages of a sequence are lost: LOST in their L1 entries, a Contained error with the address that failed, and a
RESTORE_REQ for every block that they map (R119, R120). -/
def State.losePages (s : State) (q : Seq) (pages : List Nat) (address : Nat) : State :=
  let mark := fun (y : DirPage) => if pages.contains y.index then { y with lost := true } else y
  let s := (s.ktbInvalidate q.desc pages).modSeq q.desc fun x => { x with pages := x.pages.map mark }
  let s := if q.sealed then s.resealL1 q.desc else s
  let s := s.note (checkReport q address)
  (q.under pages).foldl (fun t e => t.restoreReq q e.layer e.head e.block) s

/-- A sequence is lost: STATE 3, a Contained error with the address that failed, and a RESTORE_REQ for all of it (R119,
R120). -/
def State.loseSeq (s : State) (q : Seq) (address : Nat) : State :=
  if decide (q.state ≠ .live) then s
  else
    let s := (s.modSeq q.desc fun x => { x with state := .lost }).resealDescPage q
    (s.note (checkReport q address)).restoreAll q

/-- Every backed directory page that an L1 page maps. -/
def Seq.pagesOfL1 (q : Seq) (n : Nat) : List Nat := (q.pages.map (·.index)).filter fun p => p / 127 == n

/-- Move one metadata object of a sequence out of a retired frame; without room it stays. -/
def State.moveMeta (s : State) (q : Seq) (bytes align : Nat) (put : Nat → Seq → Seq) : State :=
  match s.allocMeta q.slice q.paddock bytes align with
  | none => s
  | some (a, t) => t.modSeq q.desc (put a)

/-- One of a sequence's tables moves when a test holds: 0 the L1 run, 1 the tail table, 2 the prefix page, 3 the heat array. -/
def State.moveTable (s : State) (q : Seq) (i bytes align : Nat) (hit : Bool) : State :=
  let base := q.addresses.getD i 0
  let marked := s.leasedFrames.any fun f => base / 32768 ≤ f && f ≤ (base + max 1 bytes - 1) / 32768
  if hit && !marked then s.moveMeta q bytes align (fun a x => { x with addresses := updateAt i (fun _ => a) x.addresses }) else s

/-- Metadata objects of a sequence in a retired frame move, each verified; one that fails its check is lost (R119, R321). In a
frame that a lease has marked they wait for the return of the lease (R170). -/
def State.relocateMeta (s : State) (q : Seq) (frame : Nat) : State :=
  if s.leasedFrames.contains frame then s
  else
  let here := fun (address bytes : Nat) => address / 32768 ≤ frame && frame ≤ (address + max 1 bytes - 1) / 32768
  let base := q.addresses.getD 0 0
  let run := q.shape.l1Pages * 4096
  let badL1 := (List.range q.shape.l1Pages).filter fun n => here (base + n * 4096) 4096 && !s.l1Ok q n
  let s := badL1.foldl (fun t n => t.losePages q (q.pagesOfL1 n) (base + n * 4096)) s
  let s := s.moveTable q 0 run 4096 (here base run)
  let s := q.pages.foldl (fun t p =>
    if !here p.address 4096 || p.lost then t
    else if !t.walkOk q p then t.losePages q [p.index] p.address
    else t.moveMeta q 4096 4096 fun a x =>
      { x with pages := updateFirst (·.index == p.index) (fun y => { y with address := a }) x.pages }) s
  let tables := here (q.addresses.getD 1 0) 1024 || (!q.hashes.isEmpty && here (q.addresses.getD 2 0) 512)
  let s := if tables && !s.tablesOk q then s.loseSeq q (q.addresses.getD 1 0) else s
  let s := s.moveTable q 1 1024 1024 (here (q.addresses.getD 1 0) 1024)
  let s := s.moveTable q 2 512 512 (!q.hashes.isEmpty && here (q.addresses.getD 2 0) 512)
  let s := s.moveTable q 3 q.shape.heatBytes 64 (q.sealed && here (q.addresses.getD 3 0) q.shape.heatBytes)
  let s := if q.metaObjects.any fun x => here x.1 x.2 then s.ktbInvalidate q.desc (q.pages.map (·.index)) else s
  if q.sealed && (q.metaObjects.any fun x => here x.1 x.2) then s.resealL1 q.desc else s

/-- The live objects of a retired frame move to other frames; nothing is allocated in the frame again (R321). The tables of
descriptors, shares, staging and contexts, windows and weight sets keep their places: R321 moves objects by R100, which
names blocks and entries only. DESIGN CHOICE (log 104). -/
def State.relocateFrame (s : State) (frame : Nat) : State :=
  let bs := s.store.blocks.filter fun b => b.whole.frames.contains frame && !b.lost
  let s := bs.foldl (fun t b => t.relocateBlock b) s
  let s := s.store.seqs.foldl (fun t q =>
    q.entries.foldl (fun t e =>
      match e.slot with
      | .tail x => if x.place.frames.contains frame && !x.lost then t.relocateTail q e x else t
      | .closed _ => t) t) s
  s.store.seqs.foldl (fun t q => t.relocateMeta q frame) s

/-- A frame is retired: no allocation in it, its live objects move, then its record is written (R321). -/
def State.retireFrame (s : State) (frame : Nat) : State := ((s.stopFrame frame).relocateFrame frame).recordFrame frame

/-- Frames that could not be emptied when they were to be retired are tried again. -/
def State.retireRest (s : State) : State :=
  (s.store.retired.filter fun f => !s.farrier.frames.contains f).foldl (fun t f => t.retireFrame f) s

/-- Lines of a metadata frame are poisoned, from one on (R149, R175). -/
def State.poisonFrame (s : State) (frame line n : Nat) : State :=
  if (s.sliceOfFrame frame).any fun c => c.kindOf frame == 0 then
    let ls := ((List.range n).map fun i => frame * 512 + line + i).filter fun l => !s.store.poisonLines.contains l
    { s with store := { s.store with poisonLines := s.store.poisonLines ++ ls } }
  else s

/-- Whether a word of a frame has a non-zero SECDED syndrome (R149). -/
def State.syndrome (s : State) (frame : Nat) : Bool := s.store.checkErrors.any fun x => x.1 / 32768 == frame

/-- The lease that has touched a metadata frame since the controller's last write to it (R175). -/
def State.touchedBy (s : State) (frame : Nat) : Option Nat := (s.store.leaseTouched.find? (·.1 == frame)).map (·.2)

/-- Any syndrome, correctable or not, in a metadata frame that a lease has touched is ECC_DOMAIN: it is logged with the
frame and the lease, every line of the frame is poisoned and the Farrier retires it (R175). -/
def State.eccDomain (s : State) (paddock unit frame : Nat) : State :=
  match s.touchedBy frame with
  | none => s
  | some lease => ((s.note ⟨1, 4, 0x3001, paddock, unit, frame, lease, []⟩).poisonFrame frame 0 512).retireFrame frame

/-- The object behind an entry failed its check: LOST is set in one write, a Contained error is logged, the frame goes
to the Farrier, and a RESTORE_REQ leaves at once (R119, R120). -/
def State.markLost (s : State) (d layer head block : Nat) : State :=
  match s.seqAt d with
  | none => s
  | some q =>
    match q.entry layer head block with
    | none => s
    | some e =>
      let place := match e.slot with
        | .tail t => t.place
        | .closed n => ((s.block n).map fun (b : Block) => b.place).getD ⟨.absent, 0, 0, 0, 0⟩
      let s := match e.slot with
        | .tail t => s.modSeq d fun x => x.setEntry { e with slot := .tail { t with lost := true } }
        | .closed n => s.modBlock n fun b => { b with lost := true }
      let s := match e.slot with
        | .tail _ => s.reseal d
        | .closed n => s.resealNamers n
      let s := s.note (checkReport q place.frame)
      let s := if decide (place.tier = .absent) then s else s.retireFrame place.frame
      s.restoreReq q layer head block

/-- What some entries point to is verified before it is used: what fails is marked lost (R105, R119). -/
def State.verify (s : State) (d : Nat) (at_ : List (Nat × Nat × Nat)) : State :=
  at_.foldl (fun t x =>
    match t.seqAt d with
    | none => t
    | some q =>
      match q.entry x.1 x.2.1 x.2.2 with
      | none => t
      | some e => if t.entryLost q e || t.entryOk q e then t else t.markLost d x.1 x.2.1 x.2.2) s

/-- A frame of the metadata region goes to the Farrier, which retires it and moves what lives there (R119, R321). -/
def State.loseFrameOf (s : State) (address : Nat) : State :=
  let frame := address / 32768
  (if s.syndrome frame then s.eccDomain 0 0 frame else s).retireFrame frame

/-- A directory page failed its check: LOST in its L1 entry; every block that it maps counts as lost (R119). -/
def State.markPageLost (s : State) (d page : Nat) : State :=
  match s.seqAt d with
  | none => s
  | some q =>
    let address := ((q.pages.find? (·.index == page)).map fun (y : DirPage) => y.address).getD 0
    (s.losePages q [page] address).loseFrameOf address

/-- An L1 page failed its check at a KTB fill: LOST in every entry of the page, those that name no page too (R119). -/
def State.markL1Lost (s : State) (d n : Nat) : State :=
  match s.seqAt d with
  | none => s
  | some q =>
    let address := q.addresses.getD 0 0 + n * 4096
    let s := s.modSeq d fun x => { x with l1 := updateFirst (·.index == n) (fun y => { y with lost := true }) x.l1 }
    (s.losePages q (q.pagesOfL1 n) address).loseFrameOf address

/-- A descriptor fetch, with every check of R119: the page against its root (all its sequences are lost on a failure), then
the descriptor's own lines, the tail table and the prefix page. -/
def State.fetchChecks (s : State) (d : Nat) : State :=
  match s.seqAt d with
  | none => s
  | some q =>
    let address := ((s.sliceCfg q.slice).map fun c => s.descAddress c (d / 16)).getD 0
    if !s.rootOk (d / 16) || (q.sealed && !s.metaReadable address 4096) then
      let mine := s.store.seqs.filter fun x => x.desc / 16 == d / 16
      (mine.foldl (fun t x => t.loseSeq x address) s).loseFrameOf address
    else if !s.metaReadable (address + d % 16 * 256) 256 then
      (s.loseSeq q (address + d % 16 * 256)).loseFrameOf address
    else if !s.tablesOk q then
      (s.loseSeq q (q.addresses.getD 1 0)).loseFrameOf (q.addresses.getD 1 0)
    else s

end Sys2Proof.Machine
end

