-- ==== Sys2Proof/Machine/Operands.lean ====
section
/-! DEFINITION. Every operand form of the cache service: request and response headers (R25, R26), the STEP parameter
block and its sections (R31, R33), the bodies of the other requests (R49–R62) and of the responses (R44, R51–R59). -/

namespace Sys2Proof.Machine

/-! ### Headers -/

/-- A request as received (R25). -/
def Req.parse (m : Msg) : Req where
  qpn := m.qpn
  msn := m.msn
  opcode := m.opcode
  inner := be m.body 0 1
  paddock := be m.body 2 2 % 4096
  epoch := be m.body 4 4
  tag := be m.body 8 8
  seq := be m.body 16 8 % 2 ^ 48
  layer := be m.body 28 1
  bodyLen := be m.body 24 4
  head := sub m.body 0 32
  body := m.body.drop 32

/-- A response header (R26): PADDOCK, TAG and SEQUENCE copied from the request. -/
def respHeader (q : Req) (epoch status detail load hint bodyLen : Nat) : Bytes :=
  toBe 1 (q.opcode % 128 + 128) ++ toBe 1 status ++ sub q.head 2 2 ++ toBe 4 epoch ++ sub q.head 8 16
    ++ toBe 4 bodyLen ++ toBe 1 detail ++ toBe 1 load ++ toBe 2 hint

/-- Cut two bytes at a time: BF16 elements, little-endian (R6). -/
def bf16s : Bytes → List BF16
  | a :: b :: rest => BitVec.ofNat 16 (a.toNat + 256 * b.toNat) :: bf16s rest
  | _ => []

/-! ### STEP (R31, R33) -/

/-- The STEP parameter block. -/
structure StepParams where
  flags : Nat
  qheads : Nat
  queryPos : Nat
  qtokens : Nat
  sinks : Nat
  windowLen : Nat
  scale : F32
  capValue : F32
  sparseK : Nat
deriving DecidableEq, Repr

/-- The parameter block of a STEP body. -/
def StepParams.parse (b : Bytes) : StepParams where
  flags := be b 0 2
  qheads := be b 2 2
  queryPos := be b 4 4
  qtokens := be b 8 2
  sinks := be b 10 2
  windowLen := be b 12 4
  scale := BitVec.ofNat 32 (be b 16 4)
  capValue := BitVec.ofNat 32 (be b 20 4)
  sparseK := be b 24 2

/-- The flags of R31. -/
def StepParams.append (p : StepParams) : Bool := bit p.flags 0
def StepParams.outBf16 (p : StepParams) : Bool := bit p.flags 1
def StepParams.window (p : StepParams) : Bool := bit p.flags 2
def StepParams.cap (p : StepParams) : Bool := bit p.flags 3
def StepParams.tree (p : StepParams) : Bool := bit p.flags 4
def StepParams.sparse (p : StepParams) : Bool := bit p.flags 5
def StepParams.prefill (p : StepParams) : Bool := bit p.flags 6
def StepParams.wProj (p : StepParams) : Bool := bit p.flags 7
def StepParams.treeKv (p : StepParams) : Bool := bit p.flags 8

/-- Whether a version has the flags of a STEP (R32): TREE, TREE_KV and SPARSE need 2.0, W_PROJ needs 2.1. -/
def StepParams.versionOk (p : StepParams) (version : Nat) : Bool :=
  (!(p.tree || p.treeKv || p.sparse) || 2 ≤ version) && (!p.wProj || 4 ≤ version)

/-- The refused combinations of R32 (DETAIL 0x02). -/
def StepParams.combinationBad (p : StepParams) (latent : Bool) : Bool :=
  (p.tree && (p.append || p.prefill || p.sparse)) || (p.treeKv && !p.tree) || (p.prefill && p.sparse)
    || (p.sparse && p.qtokens != 1) || (p.qtokens > 1 && !p.tree && !p.prefill) || (p.sinks > 0 && !p.window)
    || (p.wProj && !latent)

/-- Positive, finite and normal. -/
def posNormal (x : F32) : Bool :=
  let n := x.toNat
  n < 0x7F800000 && 0x00800000 ≤ n

/-- The field ranges of R31 (DETAIL 0x01). -/
def StepParams.rangeBad (p : StepParams) (maxLength layer layers : Nat) : Bool :=
  let most := if p.tree then 64 else if p.prefill then 256 else 1
  p.qtokens < 1 || most < p.qtokens || 64 < p.sinks
    || (if p.window then p.windowLen < 1 || maxLength < p.windowLen else p.windowLen != 0)
    || !posNormal p.scale
    || (if p.cap then !posNormal p.capValue || 0x47800000 < p.capValue.toNat else p.capValue != 0)
    || (if p.sparse then p.sparseK < 1 || 4096 < p.sparseK else p.sparseK != 0)
    || layers ≤ layer

/-- The fit of R38: query heads against the shape, and a W_PROJ step needs a sequence with a weight set (DETAIL 0x0A). -/
def StepParams.shapeBad (p : StepParams) (h : Shape) (weightSet : Nat) : Bool :=
  if h.latent then p.qheads < 1 || 256 < p.qheads || (p.wProj && weightSet == 0)
  else h.kvHeads == 0 || p.qheads % h.kvHeads != 0 || p.qheads < h.kvHeads || 32 * h.kvHeads < p.qheads

/-- Sections of a STEP after the parameter block (R33). -/
structure StepSections where
  query : Bytes
  append : Bytes
  tree : Bytes
  mask : Bytes
deriving DecidableEq, Repr

/-- Section sizes: query, append, tree K/V, tree mask. -/
def StepParams.sizes (p : StepParams) (h : Shape) (dq : Nat) : Nat × Nat × Nat × Nat :=
  (p.qtokens * p.qheads * dq * 2, if p.append then p.qtokens * h.tokenElems * 2 else 0,
    if p.treeKv then p.qtokens * h.tokenElems * 2 else 0, if p.treeKv then 512 else 0)

/-- The body length that R33 requires. -/
def StepParams.bodyLength (p : StepParams) (h : Shape) (dq : Nat) : Nat :=
  let z := p.sizes h dq
  32 + z.1 + z.2.1 + z.2.2.1 + z.2.2.2

/-- Cut the sections. -/
def StepParams.sections (p : StepParams) (h : Shape) (dq : Nat) (body : Bytes) : StepSections :=
  let z := p.sizes h dq
  let b := body.drop 32
  ⟨b.take z.1, (b.drop z.1).take z.2.1, (b.drop (z.1 + z.2.1)).take z.2.2.1, (b.drop (z.1 + z.2.1 + z.2.2.1)).take z.2.2.2⟩

/-- The tensor data of a STEP body: every byte after the parameter block but the tree mask, which is the last section
(R33). Where the sections fit the body these are the query, append and tree sections (log 99). -/
def StepParams.tensor (p : StepParams) (body : Bytes) : Bytes :=
  let b := body.drop 32
  if p.treeKv then b.take (b.length - 512) else b

/-- The rows of the tree mask: 64 rows of 8 bytes, bit j % 8 of byte 8i + j/8 (R33). -/
def maskRows (b : Bytes) : List Nat := (chunks 8 b).map leNat

/-- The query vectors of a section, in its order (R33). -/
def queryVectors (dq : Nat) (b : Bytes) : List (List BF16) := chunks dq (bf16s b)

/-- One token's quantised records per KV head, from its BF16 elements (R33, R71, R96). -/
def Shape.quantiseToken (h : Shape) (xs : List BF16) : List Bytes :=
  (List.range h.kvHeads).map fun k => h.recShape.quantise ((xs.drop (k * h.headElems)).take h.headElems)

/-- The records of a section of tokens: token ascending, then KV head ascending. -/
def Shape.quantiseSection (h : Shape) (b : Bytes) : List Bytes :=
  ((chunks h.tokenElems (bf16s b)).map h.quantiseToken).flatten

/-- The STEP response body before its partials (R44). -/
def stepBody (range : Nat × Nat) (committed qheads qtokens outDim : Nat) (outBf16 : Bool) (blocksRead : Nat)
    (partials : Bytes) : Bytes :=
  toBe 4 range.1 ++ toBe 4 range.2 ++ toBe 4 committed ++ toBe 2 qheads ++ toBe 2 qtokens ++ toBe 2 outDim
    ++ toBe 1 (flag outBf16) ++ zeros 1 ++ toBe 4 blocksRead ++ toBe 8 (crc64 partials).toNat ++ partials

/-! ### APPEND (R49) -/

/-- The APPEND body. -/
structure AppendBody where
  layerFirst : Nat
  layerCount : Nat
  hashesSet : Bool
  hashCount : Nat
  position : Nat
  tokens : Nat
  hashes : List Nat
  kv : Bytes
deriving DecidableEq, Repr

/-- LAYER_COUNT with 0 read as 256. -/
def countOf (n : Nat) : Nat := if n == 0 then 256 else n

/-- Parse an APPEND body. -/
def AppendBody.parse (b : Bytes) : AppendBody :=
  let n := be b 3 1
  { layerFirst := be b 0 1, layerCount := countOf (be b 1 1), hashesSet := bit (be b 2 1) 0, hashCount := n,
    position := be b 4 4, tokens := be b 8 4, hashes := (List.range n).map fun i => be b (16 + 8 * i) 8,
    kv := b.drop (16 + 8 * n) }

/-- The body length that R49 requires. -/
def AppendBody.length (a : AppendBody) (h : Shape) : Nat :=
  16 + 8 * a.hashCount + a.layerCount * a.tokens * h.tokenElems * 2

/-- Each layer's records. -/
def AppendBody.layers (a : AppendBody) (h : Shape) : List (Nat × List Bytes) :=
  let n := a.tokens * h.tokenElems * 2
  (List.range a.layerCount).map fun i => (a.layerFirst + i, h.quantiseSection ((a.kv.drop (i * n)).take n))

/-- Ranges of R49 and R50 (DETAIL 0x01). -/
def AppendBody.rangeBad (a : AppendBody) (h : Shape) : Bool :=
  h.layers < a.layerFirst + a.layerCount || a.tokens < 1 || 64 < a.hashCount || (!a.hashesSet && a.hashCount != 0)
    || (a.hashesSet && (a.position % 64 != 0 || a.tokens < 64 * a.hashCount))

/-! ### SEQ_CREATE (R51, R52) -/

/-- The SEQ_CREATE body. -/
structure CreateBody where
  modelId : Nat
  layers : Nat
  kvHeads : Nat
  latent : Bool
  pin : Bool
  headDim : Nat
  ropeDim : Nat
  kCode : Nat
  vCode : Nat
  maxLength : Nat      -- rounded up to a multiple of 64
  shardStart : Nat
  ttl : Nat
  weightSet : Nat
deriving DecidableEq, Repr

/-- `n` rounded up to a multiple of 64. -/
def roundUp64 (n : Nat) : Nat := ceilDiv n 64 * 64

/-- Parse a SEQ_CREATE body. -/
def CreateBody.parse (b : Bytes) : CreateBody where
  modelId := be b 0 8
  layers := be b 8 2
  kvHeads := be b 10 1
  latent := bit (be b 11 1) 0
  pin := bit (be b 11 1) 1
  headDim := be b 12 2
  ropeDim := be b 14 1
  kCode := be b 15 1 / 16
  vCode := be b 15 1 % 16
  maxLength := roundUp64 (be b 16 4)
  shardStart := be b 20 4
  ttl := be b 24 4
  weightSet := be b 28 2

/-- The shape of a body whose format codes are accepted. -/
def CreateBody.shape (c : CreateBody) : Option Shape :=
  match Fmt.ofCode c.kCode, Fmt.ofCode c.vCode with
  | some k, some v =>
    some ⟨c.layers, c.kvHeads, c.latent, c.pin, c.headDim, c.ropeDim, k, v, c.maxLength, c.shardStart⟩
  | _, _ => none

/-- Field ranges of R51 and R52 (DETAIL 0x01); `raw` is MAX_LENGTH as sent. -/
def CreateBody.rangeBad (c : CreateBody) (raw : Nat) : Bool :=
  c.layers < 1 || 256 < c.layers || c.kvHeads < 1 || 16 < c.kvHeads || (c.latent && c.kvHeads != 1)
    || c.headDim % 32 != 0 || c.headDim < 32 || (if c.latent then 1024 else 256) < c.headDim
    || (if c.latent then !([0, 32, 64, 96, 128].contains c.ropeDim) else c.ropeDim != 0)
    || (c.latent && c.kCode != c.vCode) || raw < 64 || 4194304 < raw
    || c.shardStart % 64 != 0 || c.maxLength ≤ c.shardStart || (c.weightSet != 0 && !c.latent)

/-- The stored SEQ_CREATE body: reserved bytes 0, MAX_LENGTH rounded up (R7, R58, R87). -/
def CreateBody.stored (c : CreateBody) : Bytes :=
  toBe 8 c.modelId ++ toBe 2 c.layers ++ toBe 1 c.kvHeads ++ toBe 1 (flag c.latent + 2 * flag c.pin) ++ toBe 2 c.headDim
    ++ toBe 1 c.ropeDim ++ toBe 1 (c.kCode * 16 + c.vCode) ++ toBe 4 c.maxLength ++ toBe 4 c.shardStart
    ++ toBe 4 c.ttl ++ toBe 2 c.weightSet ++ zeros 2

/-- The SEQ_CREATE response body (R51). -/
def createResponse (h : Shape) : Bytes := toBe 4 h.shardStart ++ zeros 4 ++ toBe 8 h.windowBytes

/-! ### SEQ_FORK, PREFIX_LOOKUP, PREFETCH -/

/-- The SEQ_FORK body (R53). -/
structure ForkBody where
  child : Nat
  length : Nat
  maxLength : Nat      -- 0 takes the parent's
  ttl : Nat
deriving DecidableEq, Repr

/-- Parse a SEQ_FORK body. -/
def ForkBody.parse (b : Bytes) : ForkBody := ⟨be b 0 8 % 2 ^ 48, be b 8 4, be b 12 4, be b 16 4⟩

/-- The child's maximum length. -/
def ForkBody.childMax (f : ForkBody) (h : Shape) : Nat := if f.maxLength == 0 then h.maxLength else roundUp64 f.maxLength

/-- Ranges of R53 (DETAIL 0x01). -/
def ForkBody.rangeBad (f : ForkBody) (h : Shape) (committed : Nat) : Bool :=
  let m := f.childMax h
  f.length < h.shardStart || committed < f.length || m < f.length || m ≤ h.shardStart || 4194304 < m

/-- The PREFIX_LOOKUP body (R59). -/
structure PrefixBody where
  modelId : Nat
  count : Nat
  hashes : List Nat
deriving DecidableEq, Repr

/-- Parse a PREFIX_LOOKUP body. -/
def PrefixBody.parse (b : Bytes) : PrefixBody :=
  ⟨be b 0 8, be b 8 1, (List.range (be b 8 1)).map fun i => be b (16 + 8 * i) 8⟩

/-- The PREFETCH body (R61). -/
structure PrefetchBody where
  order : Bool
  warm : Bool
  count : Nat
  first : Nat
  last : Nat
  layers : List Nat
deriving DecidableEq, Repr

/-- Parse a PREFETCH body. -/
def PrefetchBody.parse (b : Bytes) : PrefetchBody :=
  let order := bit (be b 0 1) 0
  let n := if order then countOf (be b 1 1) else 0
  ⟨order, bit (be b 0 1) 1, n, be b 4 4, be b 8 4, (List.range n).map fun i => be b (16 + i) 1⟩

/-! ### SEQ_QUERY response (R58) -/

/-- The counters of the SEQ_QUERY response: Tier-1, Tier-2, lost, shared; what is lost counts as lost only. -/
def State.queryCounts (s : State) (q : Seq) : Nat × Nat × Nat × Nat :=
  q.entries.foldl (fun (a : Nat × Nat × Nat × Nat) e =>
    let lost := s.entryLost q e
    match e.slot with
    | .tail t =>
      if t.recs.isEmpty then a
      else if lost then (a.1, a.2.1, a.2.2.1 + 1, a.2.2.2) else (a.1 + 1, a.2.1, a.2.2.1, a.2.2.2)
    | .closed n =>
      match s.block n with
      | none => a
      | some b =>
        let sh := a.2.2.2 + (if b.refs > 1 then 1 else 0)
        if lost then (a.1, a.2.1, a.2.2.1 + 1, a.2.2.2)
        else if decide (b.place.tier = .tier1) then (a.1 + 1, a.2.1, a.2.2.1, sh)
        else (a.1, a.2.1 + 1, a.2.2.1, sh)) (0, 0, 0, 0)

/-- Seconds remaining until DEADLINE, rounded up (R58). -/
def State.ttlLeft (s : State) (q : Seq) : Nat := if q.deadline == 0 then 0 else ceilDiv (q.deadline - s.time) 1000000000

/-- The SEQ_QUERY response body. -/
def State.queryBody (s : State) (q : Seq) (perLayer : Bool) : Bytes :=
  let c := s.queryCounts q
  toBe 8 q.modelId ++ sub q.created 8 16 ++ toBe 4 (s.ttlLeft q) ++ sub q.created 28 4 ++ toBe 4 q.committed
    ++ toBe 4 c.1 ++ toBe 4 c.2.1 ++ toBe 4 c.2.2.1 ++ toBe 4 c.2.2.2 ++ zeros 12
    ++ (if perLayer then (q.lens.map (toBe 4)).flatten else [])

end Sys2Proof.Machine
end

