-- ==== Sys2Proof/Machine/Flags.lean ====
section
/-! DEFINITION. Status computations: the fault status line and HEALTH (R317), the load report (R27, R254, R316), BOOT
and link status bits that registers and messages report. -/

namespace Sys2Proof.Machine

/-! ### Clusters as counted by the fault status line -/

/-- Whether a die's clusters have been mapped by the Farrier since the start (R320). -/
def State.dieMapped (s : State) (die : Nat) : Bool :=
  s.eng.clusters.any fun c => c.die == die && decide (c.use ≠ .spare false)

/-- Logical IDs that a physical cluster of the die holds. -/
def State.mappedIds (s : State) (die : Nat) : List Nat :=
  s.eng.clusters.filterMap fun c =>
    if c.die == die then match c.use with | .mapped l => some l | .draining l => some l | _ => none else none

/-- UNMAPPED of a die: logical clusters without a physical cluster. -/
def State.unmapped (s : State) (die : Nat) : Nat := if s.dieMapped die then 64 - (s.mappedIds die).length else 0

/-- SPARES of a die. -/
def State.spares (s : State) (die : Nat) : Nat :=
  if s.dieMapped die then
    (s.eng.clusters.filter fun c => c.die == die && (match c.use with | .spare _ => true | _ => false)).length
  else 0

/-- Number of set bits that a list of indices gives. -/
def bitMask (xs : List Nat) : Nat := xs.foldl (fun m i => Nat.lor m (2 ^ i)) 0

/-- LOST_PORTS: bits for the Tier-2 ports F1–F3. -/
def State.lostPorts (s : State) : Nat := bitMask ((s.store.ports.filter (·.lost)).map (·.port))

/-- HEALTH (R317): 2 for a fault that no spare repairs, 1 while something is lost or stopped (log 33). -/
def State.health (s : State) : Nat :=
  let f := s.maps.fault
  if f.health == 2 || s.unmapped 0 > 0 || s.unmapped 1 > 0 then 2
  else if f.lostPartner != 0 || !f.stoppedSlices.isEmpty || s.lostPorts != 0 then 1 else 0

/-- The fault status line after FAULT_SEQ (R317). -/
def State.faultData (s : State) : Bytes :=
  let f := s.maps.fault
  toBe 2 f.lostPartner ++ toBe 1 s.health ++ zeros 1 ++ toBe 2 (bitMask f.stoppedSlices) ++ toBe 1 s.lostPorts
    ++ toBe 1 (s.spares 0 % 16 + s.spares 1 % 16 * 16) ++ toBe 1 (s.unmapped 0 % 16 + s.unmapped 1 % 16 * 16) ++ zeros 3
    ++ toBe 4 f.retiredClusters ++ toBe 4 f.shadowMismatches ++ toBe 8 f.doubleLost ++ toBe 4 s.store.retired.length
    ++ zeros 92

/-- The fault status line (R317). -/
def State.faultLine (s : State) : Bytes := toBe 4 s.maps.fault.seq ++ s.faultData

/-- FAULT_SEQ after a command that changed the line's computed fields. -/
def State.refault (t s : State) : State :=
  if t.faultData == s.faultData || t.maps.fault.seq != s.maps.fault.seq then t
  else { t with maps := { t.maps with fault := { t.maps.fault with seq := (s.maps.fault.seq + 1) % 2 ^ 32 } } }

/-- A command that may change the fault status line ends with FAULT_SEQ brought up to date (R317). -/
def State.finish (s t : State) : Result := .next (t.refault s)

/-! ### LOAD (R27, R254, R316) -/

/-- The dies that a slice has cluster groups on. -/
def SliceCfg.dies (c : SliceCfg) : List Nat := (c.groups.map (·.1)).eraseDups

/-- Logical clusters of a slice on a die. -/
def SliceCfg.clusters (c : SliceCfg) : List (Nat × Nat) :=
  (c.groups.map fun g => (List.range 8).map fun i => (g.1, g.2 * 8 + i)).flatten

/-- Whether LOAD reports for a slice (R316); a resync runs at the receiver while a block of its copy has never come;
before the first published epoch the node is in start-up (R16). -/
def State.loadReports (s : State) (slice : Nat) : Bool :=
  match s.sliceCfg slice with
  | none => false
  | some c =>
    (match s.maps.epochs.firstPublish with | none => true | some t => s.time < t + 60000000000)
      || (s.maps.streams.any fun x => x.resync.any (fun r => (s.findSeq r.paddock r.seq).any fun q => q.slice == slice)
          || (x.resyncing ++ x.sending).any fun r => (s.findSeq r.1 r.2).any fun q => q.slice == slice)
      || (s.store.blocks.any fun b => b.lost && b.check.isEmpty && b.slice == slice && (s.store.seqs.any fun q => q.mirrorCopy
          && q.slice == slice && q.entries.any fun e => decide (e.slot = .closed b.num)))
      || (s.eng.clusters.any fun k => c.dies.contains k.die && k.spareSince.isSome)
      || (s.eng.clusters.any fun k => match k.use with | .draining l => c.clusters.contains (k.die, l) | _ => false)
      || (s.store.hbms.any (·.stopped))

/-- The percentage of the admission window in use (R254). -/
def State.loadPercent (s : State) (slice : Nat) : Nat :=
  match s.sliceCfg slice, s.sched slice with
  | some c, some d =>
    min 100 (max (if c.admitWindow == 0 then 0 else d.inUseUnits * 100 / c.admitWindow)
      (if c.admitSteps == 0 then 0 else d.inUseOps * 100 / c.admitSteps))
  | _, _ => 0

/-- The LOAD byte of a response of a slice. -/
def State.loadByte (s : State) (slice : Nat) : Nat := if s.loadReports slice then 128 + s.loadPercent slice else 0

/-- The slice that answers for a request: the sequence's, else the first of the paddock's (R123). -/
def State.sliceFor (s : State) (paddock seq : Nat) : Nat :=
  match s.findSeq paddock seq with
  | some q => q.slice
  | none => ((s.img.slices.find? fun c => bit (s.pad paddock).config.sliceMask c.id).map (·.id)).getD 0

end Sys2Proof.Machine
end

