-- ==== Sys2Proof/Machine/StepForm.lean ====
section
/-! DEFINITION. How a STEP becomes work (R124, R125, R130) and what it computes: weight sets (R139), leaves, subtree
roots, the combined partials and the response (R33–R45, R78–R85), its cost and what it reads (R253, R296). -/

namespace Sys2Proof.Machine

/-! ### Weight sets (R139) -/

/-- The fields of a weight-set header. -/
structure WeightDims where
  layers : Nat
  heads : Nat
  qn : Nat
  latent : Nat
  rope : Nat
  format : Nat
  vDim : Nat
  layerBytes : Nat
deriving DecidableEq, Repr

/-- The header's fields, little-endian. -/
def WeightSet.dims (w : WeightSet) : WeightDims :=
  ⟨le w.header 4 2, le w.header 6 2, le w.header 8 2, le w.header 10 2, le w.header 12 1, le w.header 13 1,
    le w.header 14 2, le w.header 16 8⟩

/-- The element format of a weight set. -/
def WeightDims.fmt (d : WeightDims) : Fmt := (Fmt.ofCode d.format).getD .bf16

/-- A row of weights expanded to FP32 (R72, R96). -/
def expandRow (f : Fmt) (d : Nat) (b : Bytes) : List F32 := expand f (vecOfBytes f d b)

/-- Absorption row r of a head of a layer. -/
def WeightSet.absorption (w : WeightSet) (layer head r : Nat) : List F32 :=
  let d := w.dims
  let n := d.fmt.recBytes d.qn
  expandRow d.fmt d.qn (sub w.bytes (layer * d.layerBytes + (head * d.latent + r) * n) n)

/-- Value row r of a head of a layer. -/
def WeightSet.valueRow (w : WeightSet) (layer head r : Nat) : List F32 :=
  let d := w.dims
  let n := d.fmt.recBytes d.latent
  let base := layer * d.layerBytes + d.heads * d.latent * d.fmt.recBytes d.qn
  expandRow d.fmt d.latent (sub w.bytes (base + (head * d.vDim + r) * n) n)

/-- The absorption rows of a head. -/
def WeightSet.absorptionRows (w : WeightSet) (layer head : Nat) : List (List F32) :=
  (List.range w.dims.latent).map (w.absorption layer head)

/-- The value rows of a head. -/
def WeightSet.valueRows (w : WeightSet) (layer head : Nat) : List (List F32) :=
  (List.range w.dims.vDim).map (w.valueRow layer head)

/-- A weight set of an ID that is installed (R40, R363). -/
def State.installedSet (s : State) (setId : Nat) : Option WeightSet :=
  s.store.weights.find? fun w => w.setId == setId && w.committed && !w.removing

/-- A committed set, also one under removal, which admitted steps still use (R363). -/
def State.storedSet (s : State) (setId : Nat) : Option WeightSet :=
  s.store.weights.find? fun w => w.setId == setId && w.committed

/-- Whether an installed set suits a sequence: of its paddock, on the stacks of its slice, of its dimensions (R40,
R139). DESIGN CHOICE (log 121): LAYERS is one of the dimensions that must be the sequence's. -/
def WeightSet.suits (w : WeightSet) (q : Seq) : Bool :=
  w.paddock == q.paddock && w.slices.contains q.slice && w.dims.latent == q.shape.headDim && w.dims.rope == q.shape.ropeDim
    && w.dims.layers == q.shape.layers

/-! ### Forming a step -/

/-- The attention parameters of a step against a sequence whose layer has committed length `c`. -/
def StepParams.attn (p : StepParams) (h : Shape) (c : Nat) : Attn where
  kvHeads := h.kvHeads
  qheads := p.qheads
  qtokens := p.qtokens
  queryPos := p.queryPos
  prefill := p.prefill
  tree := p.tree
  treeKv := p.treeKv
  window := if p.window then some p.windowLen else none
  sinks := p.sinks
  scale := p.scale
  cap := if p.cap then some p.capValue else none
  sparseK := if p.sparse then some p.sparseK else none
  shardStart := h.shardStart
  committed := c

/-- The blocks a step may read per KV head: its covered blocks (R35). -/
def State.cover (s real : State) (q : Seq) (layer head block : Nat) (sparse : Bool) : Cover :=
  match q.entry layer head block with
  | none => ⟨head, block, [], 0, none, none⟩
  | some e =>
    match e.slot with
    | .tail t => ⟨head, block, t.recs, sumNat (t.recs.map (·.length)), none, none⟩
    | .closed n =>
      match s.block n with
      | none => ⟨head, block, [], 0, none, none⟩
      | some b =>
        ⟨head, block, (blockRecords q.shape.recShape b.coding b.stored).getD [], b.stored.length,
          if (real.block n).isSome then some n else none,
          if sparse && b.hasSummary then some b.summary else none⟩

/-- Every (head, block) that the step covers. -/
def Attn.headBlocks (a : Attn) : List (Nat × Nat) :=
  ((List.range a.kvHeads).map fun h => a.coveredBlocks.map fun b => (h, b)).flatten

/-- Rows of one KV head. -/
def Attn.rowCount (a : Attn) : Nat := a.qtokens * a.group

/-- Step-area bytes of one row (R130). -/
def rowNeed (dq dOut h : Nat) : Nat := 2 * dq + 256 + (h + 2) * (8 + 4 * dOut)

/-- The size of a row group (R125): the largest power of two, at most 128, whose need fits 1,536 KiB. -/
def rowGroup (need : Nat) : Nat :=
  ([128, 64, 32, 16, 8, 4, 2].find? fun g => g * need ≤ 1572864).getD 1

/-- Leaves N of the canonical tree and its height (R80). -/
def Attn.leaves (a : Attn) : Nat := a.blockEnd - a.blockLo
def Attn.height (a : Attn) : Nat := treeHeight a.leaves

/-- Whether block b of a step has a leaf that is not identity for some row. -/
def Attn.liveBlock (a : Attn) (mask : List Nat) (b : Nat) : Bool :=
  a.coveredBlocks.contains b ||
    (a.treeKv && (List.range a.qtokens).any fun i => !(treeInBlock a mask i b).isEmpty)

/-- The aligned subtrees of one KV head that have work (R81, R124): first leaf and the blocks to read. -/
def Attn.subtrees (a : Attn) (mask : List Nat) (h : Nat) : List (Nat × List Nat) :=
  let n := 2 ^ h
  ((List.range (ceilDiv a.leaves n)).map (· * n)).filterMap fun first =>
    let bs := (List.range n).map (a.blockLo + first + ·)
    if bs.any (a.liveBlock mask) then some (first, bs.filter a.coveredBlocks.contains) else none

/-- The work units of one run of a step. -/
def planUnits (a : Attn) (mask : List Nat) (subtree run firstIndex : Nat) (candidates : List Nat) (sparse : Bool) :
    List WorkUnit :=
  let h := min subtree a.height
  let all := ((List.range a.kvHeads).map fun k => (a.subtrees mask h).map fun t => (k, t)).flatten
  ((List.range all.length).zip all).map fun (i, k, t) =>
    { index := firstIndex + i, run := run, head := k, first := t.1, height := h, rowFirst := 0, rowCount := a.rowCount,
      clusters := [], toIssue := if sparse then t.2.filter candidates.contains else t.2, outstanding := [],
      rooted := false, roots := [] }

/-- The step as it is admitted: `t` is the state with the carried append tried out (R34), `s` the node's own. -/
def State.formStep (s t : State) (q : Seq) (layer : Nat) (p : StepParams) (sec : StepSections) (ws : Option WeightSet)
    (shadow : Bool) : StepWork :=
  let h := q.shape
  let a := p.attn h (q.len layer)
  let qdim := match ws with
    | none => h.recShape.kDim
    | some w => w.dims.qn + w.dims.rope
  let raw := queryVectors qdim sec.query
  let queries := match ws with
    | none => raw
    | some w => ((List.range raw.length).zip raw).map fun (i, v) =>
        absorbQuery (w.absorptionRows layer (i / (a.qtokens * a.group) * a.group + i % a.group)) w.dims.qn v
  let mask := maskRows sec.mask
  let cands := if p.sparse then a.candidates else []
  let n := s.img.service.subtree
  let first := planUnits a mask n 0 0 cands (!cands.isEmpty)
  let second := if shadow then planUnits a mask n 1 first.length [] (!cands.isEmpty) else []
  { attn := a, recShape := h.recShape, latentDim := if h.latent then h.headDim else 0,
    outDim := match ws with | none => h.headDim | some w => w.dims.vDim,
    outBf16 := p.outBf16, wProj := ws.map fun w => (w.setId, w.dims.qn + w.dims.rope),
    queries := queries,
    covers := a.headBlocks.map fun hb => t.cover s q layer hb.1 hb.2 p.sparse,
    treeRecs := h.quantiseSection sec.tree, mask := mask,
    scoring := ((List.range a.kvHeads).map fun k => cands.map fun b => (k, b)).flatten,
    scores := [], selected := [], units := first ++ second, leaves := [], blocksRead := 0, bytesRead := 0,
    shadow := shadow }

/-! ### Arithmetic of a step -/

/-- D_out inside the latent space. -/
def StepWork.leafDim (w : StepWork) : Nat := if w.latentDim == 0 then w.recShape.kDim else w.latentDim

/-- The query of a row of a KV head. -/
def StepWork.query (w : StepWork) (head row : Nat) : List BF16 :=
  w.queries.getD (head * w.attn.rowCount + row) []

/-- The covered block of a step. -/
def StepWork.coverOf (w : StepWork) (head block : Nat) : Option Cover :=
  w.covers.find? fun c => c.head == head && c.block == block

/-- Whether a block is attended for a KV head: every covered block, or after selection the chosen and the forced ones
(R42). -/
def StepWork.attends (w : StepWork) (head block : Nat) : Bool :=
  match w.attn.sparseK with
  | none => true
  | some _ =>
    (w.attn.forcedBlocks.contains block) || (w.selected.any fun x => x.1 == head && x.2.contains block)

/-- Score and V vector of a record for a query. -/
def StepWork.token (w : StepWork) (q : List BF16) (rec : Bytes) : F32 × List F32 :=
  (score w.attn.scale w.attn.cap (dot q (w.recShape.k rec)), w.recShape.v w.latentDim rec)

/-- The covered tokens of a row in a block, ascending: committed positions, then tree tokens (R78, R82). -/
def StepWork.tokens (w : StepWork) (head block row : Nat) : List (F32 × List F32) :=
  let i := row / w.attn.group
  let q := w.query head row
  let committed :=
    if w.attends head block then
      match w.coverOf head block with
      | none => []
      | some c => (w.attn.blockPositions i block).filterMap fun p => (c.recs[p - 64 * block]?).map (w.token q)
    else []
  let tree := if w.attn.treeKv then
      (treeInBlock w.attn w.mask i block).map fun j => w.token q (w.treeRecs.getD (j * w.attn.kvHeads + head) [])
    else []
  committed ++ tree

/-- The leaf partial of a row in a block. -/
def StepWork.leafOf (w : StepWork) (head block row : Nat) : Partial := leaf w.leafDim (w.tokens head block row)

/-- The leaf that the cluster formed, or the one that needs no block read. -/
def StepWork.leafAt (w : StepWork) (head block row : Nat) : Partial :=
  match w.leaves.find? fun l => l.head == head && l.block == block && l.row == row with
  | some l => l.part
  | none => if w.attn.liveBlock w.mask block then w.leafOf head block row else .identity w.leafDim

/-- The subtree root of one row of a work unit (R80, R81). -/
def StepWork.unitRoot (w : StepWork) (u : WorkUnit) (row : Nat) : Partial :=
  reduceTree (fun k => w.leafAt u.head (w.attn.blockLo + k) row) u.height u.first

/-- Every row's subtree root. -/
def StepWork.unitRoots (w : StepWork) (u : WorkUnit) : List Partial :=
  (List.range u.rowCount).map fun r => w.unitRoot u (u.rowFirst + r)

/-- The root of a subtree in a run: the stored root, or the identity for a subtree without work. -/
def StepWork.storedRoot (w : StepWork) (run head first row : Nat) : Partial :=
  match w.units.find? fun u => u.run == run && u.head == head && u.first == first with
  | none => .identity w.leafDim
  | some u => u.roots.getD row (.identity w.leafDim)

/-- The step's root for one row, formed above the subtree roots at their fixed places (R81, R137). -/
def StepWork.root (w : StepWork) (run subtree head row : Nat) : Partial :=
  let h := min subtree w.attn.height
  reduceTree (fun k => w.storedRoot run head (k * 2 ^ h) row) (w.attn.height - h) 0

/-- The partials section (R44, R83): per query token, then query head. -/
def StepWork.partials (w : StepWork) (subtree layer : Nat) (ws : Option WeightSet) : Bytes :=
  let g := w.attn.group
  ((List.range w.attn.qtokens).map fun i =>
    (List.range w.attn.qheads).map fun q =>
      let p := w.root 0 subtree (q / g) (i * g + q % g)
      let p := match ws with | none => p | some x => projectOut (x.valueRows layer q) p
      p.bytes w.outBf16).flatten.flatten

/-- MACS of a step (R296): covered tokens times (Dq + D_out) for every row, plus both projections. -/
def StepWork.macs (w : StepWork) (ws : Option WeightSet) : Nat :=
  let live := (List.range w.attn.leaves).map (w.attn.blockLo + ·)
  let tokens := sumNat (((List.range w.attn.kvHeads).map fun h =>
    live.map fun b => sumNat ((List.range w.attn.rowCount).map fun r => (w.tokens h b r).length)).flatten)
  tokens * (w.recShape.kDim + w.leafDim) + (match ws with
    | none => 0
    | some x => w.attn.qtokens * w.attn.qheads * (x.dims.latent * x.dims.qn + x.dims.vDim * x.dims.latent))

/-- B of R253: the raw stored size of the covered positions. -/
def StepWork.rawBytes (w : StepWork) : Nat :=
  sumNat (w.covers.map fun c => if c.recs.length == 64 then 64 * w.recShape.bytes else sumNat (c.recs.map (·.length)))

/-- The tail of a block summary record: 2 × D_K bytes, then its CRC-32C (R106). -/
def summaryOk (dk : Nat) (rec : Bytes) : Bool := le rec (2 * dk) 4 == (crc32c (sub rec 0 (2 * dk))).toNat

/-- The summary of a candidate: the stored record when it verifies, else from the whole block (R43, R106). -/
def StepWork.summaryOf (w : StepWork) (c : Cover) : List BF16 :=
  match c.summary with
  | some r => if summaryOk w.recShape.kDim r then bf16s (sub r 0 (2 * w.recShape.kDim)) else summary (c.recs.map w.recShape.k)
  | none => summary (c.recs.map w.recShape.k)

/-- The score of a candidate for a KV head (R42 step 2). -/
def StepWork.candidateScore (w : StepWork) (head : Nat) (c : Cover) : F32 :=
  sparseScore ((List.range w.attn.rowCount).map (w.query head)) (w.summaryOf c)

/-- Every unit of the step has delivered its subtree roots. -/
def StepWork.complete (w : StepWork) : Bool := w.units.all (·.rooted)

end Sys2Proof.Machine
end

