-- ==== Sys2Proof/Machine/Checks.lean ====
section
/-! DEFINITION. The checks of a request of the cache service in the order of R28, one function for each operation,
and the plan of an operation that passes them (R28–R64, R119, R241, R242). -/

namespace Sys2Proof.Machine

/-- Why a request is refused; `lost` are the objects whose check failed on the way (R119), by descriptor, layer, KV
head and block; `ahead` starts the fetch of R244. -/
structure CheckFail where
  status : Nat
  detail : Nat
  hint : Nat
  lost : List (Nat × Nat × Nat × Nat)
  restore : List (Nat × Nat × Nat × Nat)   -- lost before: only the restoration is asked for (R47)
  ahead : Bool
  full : Bool                              -- a metadata region had no room: logged (R160)
  tag : Option Nat                         -- the paddock whose tag a descriptor line carried instead (R270)
deriving DecidableEq, Repr

/-- Refuse with a status. -/
def refuse {α : Type} (status detail : Nat) (hint : Nat := 0) : Except CheckFail α :=
  .error ⟨status, detail, hint, [], [], false, false, none⟩

/-- Refuse unless a condition holds. -/
def need (ok : Bool) (status detail : Nat) : Except CheckFail Unit := if ok then .ok () else refuse status detail

/-- A refusal of the store as a refusal of SEQ_CREATE or SEQ_FORK: a full metadata region draws QUOTA 0x12 (R160). -/
def liftRefused {α : Type} : Except Refused α → Except CheckFail α
  | .ok a => .ok a
  | .error e => if e = metaFull then .error ⟨St.quota, 0x12, 0, [], [], false, true, none⟩ else refuse e.1 e.2

/-- A refusal of the store as a refusal of an append or a truncation: a full metadata region draws DEGRADED_RETRY
(R160). -/
def liftWrite {α : Type} : Except Refused α → Except CheckFail α
  | .ok a => .ok a
  | .error e => if e = metaFull then .error ⟨St.degradedRetry, 0, 0, [], [], false, true, none⟩ else refuse e.1 e.2

/-- The refusal with one status alone: any other waits for its place in the order of R28. -/
def onlyStatus {α : Type} (status : Nat) : Except CheckFail α → Except CheckFail Unit
  | .ok _ => .ok ()
  | .error e => if e.status == status then .error e else .ok ()

/-- What an operation that passes its checks will do. -/
structure Plan where
  desc : Option Nat
  mirror : Bool
  partner : Nat
  below : Nat
  slice : Nat
  cls : Nat
  cost : Nat
  effect : Effect
  step : Option StepWork
deriving DecidableEq, Repr

/-! ### Mutation, position, class -/

/-- Whether a request mutates (R29). -/
def Req.mutates (r : Req) : Bool :=
  match r.opcode with
  | 1 => bit (be r.body 0 2) 0
  | 2 => true
  | 3 => true
  | 4 => true
  | 5 => true
  | 6 => true
  | _ => false

/-- The sequence whose mutations are ordered: the child for SEQ_FORK (R29). -/
def Req.orderKey (r : Req) : Nat × Nat := (r.paddock, if r.opcode == 4 then be r.body 0 8 % 2 ^ 48 else r.seq)

/-- The append position of a request, when it has one. -/
def Req.appendPos (r : Req) : Option Nat :=
  match r.opcode with
  | 1 => if bit (be r.body 0 2) 0 then some (be r.body 4 4) else none
  | 2 => some (be r.body 4 4)
  | _ => none

/-- The block bits of the kind-0 search (R234). -/
def Req.searchBlock (r : Req) : Nat := match r.appendPos with | some p => p / 64 | none => 0xFFFFFF

/-- Admission class (R247). -/
def Req.cls (r : Req) : Nat :=
  match r.opcode with
  | 1 => if bit (be r.body 0 2) 6 then 1 else 0
  | 2 => 1
  | _ => 0

/-- Cost of an operation other than a STEP (R253). -/
def Req.bodyCost (r : Req) : Nat := max 1 (ceilDiv r.body.length 1024)

/-! ### Access, epoch, routing -/

/-- VERSION, DENIED and BUSY_TEARDOWN (R32, R64, R267). -/
def State.checkAccess (s : State) (q : Qp) (r : Req) : Except CheckFail Unit :=
  if r.inner != r.opcode then refuse St.badParam 0x01
  else if r.opcode == 1 && !(StepParams.parse r.body).versionOk q.version then refuse St.version 0
  else if r.paddock != q.paddock then refuse St.denied 0
  else
    match (s.pad r.paddock).state with
    | .free => refuse St.denied 0
    | .awaitSeal => refuse St.denied 0
    | .teardown => refuse St.busyTeardown 0
    | .sealed => if q.enc then .ok () else refuse St.denied 0
    | .open_ => .ok ()

/-- The epoch class of a request, or its refusal (R240, R241, R244). -/
def State.checkEpoch (s : State) (r : Req) : Except CheckFail EpochClass :=
  match s.maps.epochs.classify r.epoch with
  | .ahead => .error ⟨St.epochAhead, 0, s.aheadHint r.epoch, [], [], true, false, none⟩
  | .stale => refuse St.staleEpoch 0
  | c => .ok c

/-- NO_SEQUENCE for an ID the map does not serve; 0x0C once the sequence has expired (R57). -/
def State.noSequence {α : Type} (s : State) (r : Req) : Except CheckFail α :=
  refuse St.noSequence (if s.store.expired.contains (r.paddock, r.seq) then 0x0C else 0)

/-- Whether a resolved sequence's descriptor carries another paddock's tag (R88, R270). -/
def Req.foreign (r : Req) (q : Seq) : Bool := q.paddock != r.paddock

/-- Resolve a request that names a sequence, whose descriptor is of its paddock (R88, R271): the sequence, MIRROR,
PARTNER and BELOW (R241, R236, R46, R112). DESIGN CHOICE (log 121): an APPEND's search carries its header's LAYER too
(R234), which R49 ignores otherwise. -/
def State.route (s : State) (c : EpochClass) (r : Req) : Except CheckFail (Seq × Bool × Nat × Nat) :=
  match s.mapAnswer c (mapKey r.paddock r.seq r.layer r.searchBlock) r.mutates with
  | .moved h => refuse St.moved 0 h
  | .status code hint => refuse code 0 hint
  | .place .. => s.noSequence r
  | .unknown => s.noSequence r
  | .serve d mirror partner below =>
    match s.seqAt d with
    | none => s.noSequence r
    | some q =>
      if r.foreign q then .error ⟨St.degradedRetry, 0, 0, [], [], false, false, some q.paddock⟩
      else if r.mutates && mirror then refuse St.moved 0 partner
      else if (match r.appendPos with | some p => p < q.shape.shardStart | none => false) && below != 0 then
        refuse St.moved 0 below
      else if q.deadline != 0 && q.deadline ≤ s.time then refuse St.noSequence 0x0C
      else .ok (q, mirror, partner, below)

/-! Shared caches (R88, R93, R292). -/

/-- A paddock's allotment of a die's cache of `total` lines, in proportion to its SHARE in a slice of sealed policy, of
which the die's part counts; none in other slices. The division of a die among slices is not said. DESIGN CHOICE (log
105). -/
def State.allotment (s : State) (die total paddock : Nat) : Option Nat :=
  (s.img.slices.find? fun c => (c.shareOf paddock).isSome && bit (s.pad paddock).config.sliceMask c.id).bind fun c =>
    (c.shareOf paddock).map fun n => max 1 (total * (c.groups.filter (·.1 == die)).length * n / 2048)

/-- What the paddocks without an allotment share. -/
def State.unallotted (s : State) (die total : Nat) : Nat :=
  total - sumNat (s.pads.map fun x => (s.allotment die total x.id).getD 0)

/-- The first `n` elements of a test leave a list. -/
def dropFirst {α : Type} (p : α → Bool) : Nat → List α → List α
  | 0, xs => xs
  | _, [] => []
  | n + 1, x :: xs => if p x then dropFirst p n xs else x :: dropFirst p (n + 1) xs

/-- A line is used in a die's cache of `total` lines, least recently used first: it goes to the young end, and what leaves for
it is the least recently used line of the same paddock's allotment, or of the paddocks without one (R292). That the least
recently used line leaves is the model's choice. DESIGN CHOICE (log 105). -/
def State.useLine {α : Type} [BEq α] (s : State) (die total : Nat) (pad : α → Nat) (x : α) (xs : List α) : List α :=
  let ys := xs.filter (· != x)
  let own := s.allotment die total (pad x)
  let same := fun (y : α) => if own.isSome then pad y == pad x else (s.allotment die total (pad y)).isNone
  dropFirst same ((ys.filter same).length + 1 - own.getD (s.unallotted die total)) ys ++ [x]

/-- A line of both dies' descriptor caches is used: 32,768 lines a die, each with the tag of its descriptor's paddock; a
fetch is checked (R88, R119, R292). -/
def State.useDescriptor (s : State) (q : Seq) : State :=
  let dies := (((s.sliceCfg q.slice).map fun (c : SliceCfg) => c.clusters.map (·.1)).getD []).eraseDups
  dies.foldl (fun t die =>
    let line : DescLine := ⟨die, q.desc, q.paddock⟩
    let t := if t.eng.descCache.contains line then t else t.fetchChecks q.desc
    let mine := t.useLine die 32768 DescLine.paddock line (t.eng.descCache.filter fun x => x.die == die)
    { t with eng := { t.eng with descCache := (t.eng.descCache.filter fun x => x.die != die) ++ mine } }) s

/-- The descriptor fetch of a request that resolves to a sequence (R88, R93, R119). -/
def State.fetchDescriptor (s : State) (qp : Option Qp) (r : Req) : State :=
  let found : Except CheckFail Seq := do
    match qp with
    | some q => s.checkAccess q r
    | none => .ok ()
    let c ← s.checkEpoch r
    if r.opcode == 3 || r.opcode == 7 then refuse St.ok 0
    let x ← s.route c r
    .ok x.1
  match found with
  | .error _ => s
  | .ok q => s.useDescriptor q

/-- The body length that a body of fixed size must have (R33, R66). -/
def Req.lengthIs (r : Req) (n : Nat) : Bool := r.bodyLen == r.body.length && r.body.length == n

/-- A lost sequence (STATE 3): LOST_BLOCKS to a STEP, DEGRADED_RETRY to the rest (R119, R241). -/
def Seq.checkLost (q : Seq) (r : Req) : Except CheckFail Unit :=
  match q.state with
  | .lost => if r.opcode == 1 then refuse St.lostBlocks 0 else refuse St.degradedRetry 0
  | _ => .ok ()

/-- QUOTA 0x12 once the paddock's write counter is spent (R116). -/
def State.checkCounter (s : State) (r : Req) : Except CheckFail Unit :=
  need (!(r.mutates && decide ((s.pad r.paddock).state = .sealed) && 0xFFFF00000000 ≤ (s.pad r.paddock).writeCounter))
    St.quota 0x12

/-- DEGRADED_RETRY last: a slice that SLICE_CTL stopped, a mutation that no mirror commits (R309, R310, R313, R368). -/
def State.checkRetry (s : State) (r : Req) (slice partner : Nat) : Except CheckFail Unit :=
  if s.host.slicesOff.contains slice then refuse St.degradedRetry 0
  else if r.mutates then
    match s.mirrorMissing partner r.paddock r.orderKey.2 with
    | some h => refuse St.degradedRetry 0 h
    | none => .ok ()
  else .ok ()

/-- While O2 restarts, what needs a Ledger entry of it draws DEGRADED_RETRY (R64, R242, R311, R354; log 106). -/
def State.checkO2 (s : State) : Except CheckFail Unit := need (!s.restarting 2) St.degradedRetry 0

/-! ### Append outcomes (R46, R47) -/

/-- What one layer of an append does. A conflict and a retry name the objects whose check failed on the way and those that
were lost before. -/
inductive LayerOutcome where
  | write
  | again
  | conflict (detail : Nat) (lost restore : List (Nat × Nat × Nat × Nat))
  | retry (lost restore : List (Nat × Nat × Nat × Nat))
deriving DecidableEq, Repr

/-- Two outcomes of parts of one append: a conflict goes before what only draws DEGRADED_RETRY (R28). -/
def LayerOutcome.join (a b : LayerOutcome) : LayerOutcome :=
  match a, b with
  | .again, o => o
  | o, .again => o
  | .write, o => o
  | o, .write => o
  | .conflict d l r, .conflict _ l2 r2 => .conflict d (l ++ l2).eraseDups (r ++ r2).eraseDups
  | .conflict d l r, .retry l2 r2 => .conflict d (l ++ l2).eraseDups (r ++ r2).eraseDups
  | .retry l r, .conflict d l2 r2 => .conflict d (l ++ l2).eraseDups (r ++ r2).eraseDups
  | .retry l r, .retry l2 r2 => .retry (l ++ l2).eraseDups (r ++ r2).eraseDups

/-- The outcome of every part together. -/
def joinOutcomes (os : List LayerOutcome) : LayerOutcome := os.foldl LayerOutcome.join .again

/-- Compare one stored token with the one sent. -/
def State.compareToken (s : State) (q : Seq) (layer head p : Nat) (rec : Bytes) : LayerOutcome :=
  let here := (q.desc, layer, head, p / 64)
  match q.entry layer head (p / 64) with
  | none => .retry [] [here]
  | some e =>
    if s.entryLost q e then .retry [] [here]
    else if !s.entryOk q e then .retry [here] []
    else if (s.entryRecs q e)[p % 64]? == some rec then .again
    else .conflict 0x08 [] []

/-- Compare a row's stored codes with those sent. -/
def State.compareRow (s : State) (q : Seq) (layer head pos : Nat) (recs : List Bytes) : LayerOutcome :=
  joinOutcomes (((List.range recs.length).zip recs).map fun ir => s.compareToken q layer head (pos + ir.1) ir.2)

/-- The tails that a write extends must be in order (R119). -/
def State.tailsReady (s : State) (q : Seq) (layer pos : Nat) : LayerOutcome :=
  joinOutcomes ((List.range q.shape.kvHeads).map fun h =>
    match q.entry layer h (pos / 64) with
    | none => .again
    | some e =>
      if s.entryLost q e then .retry [] [(q.desc, layer, h, pos / 64)]
      else if !s.entryOk q e then .retry [(q.desc, layer, h, pos / 64)] [] else .again)

/-- R46 and R47 for one layer whose records are by token, then KV head. -/
def State.layerOutcome (s : State) (q : Seq) (pos tokens layer : Nat) (recs : List Bytes) : LayerOutcome :=
  let c := q.len layer
  if c == pos then
    match s.tailsReady q layer pos with
    | .again => .write
    | o => o
  else if c == pos + tokens then
    joinOutcomes ((List.range q.shape.kvHeads).map fun h => s.compareRow q layer h pos (rowRecs q.shape.kvHeads h recs))
  else if pos < c then .conflict 0x08 [] []
  else .conflict 0x07 [] []

/-- Decide every layer before any is written: the layers to write, or the refusal (R47). -/
def decideLayers (os : List ((Nat × List Bytes) × LayerOutcome)) : Except CheckFail (List (Nat × List Bytes)) :=
  match joinOutcomes (os.map (·.2)) with
  | .conflict d l r => .error ⟨St.appendConflict, d, 0, l, r, false, false, none⟩
  | .retry l r => .error ⟨St.degradedRetry, 0, 0, l, r, false, false, none⟩
  | _ => .ok ((os.filter fun x => decide (x.2 = .write)).map (·.1))

/-- The state with units to spare on every slice, for judging an allowance while no unit is free: QUOTA goes before
DEGRADED_RETRY (R28, R97). Two stacks that no part has stand for the room; which tier takes a close stays as it is. -/
def State.roomy (s : State) : State :=
  let wide := fun (c : SliceCfg) => { c with
    hbms := c.hbms ++ [1000, 1001], metaFrames := c.metaFrames + 1048576
    freeCrit := if c.policy == 0 then (if s.freeBelow c c.freeCrit then 101 else 0) else c.freeCrit }
  { s with img := { s.img with slices := s.img.slices.map wide } }

/-- A change tried out: where it finds no room, it is tried again with room to spare, and a refusal that goes before
DEGRADED_RETRY is the answer (R28). -/
def quotaFirst {α : Type} (real : Except CheckFail α) (spare : Except CheckFail Unit) : Except CheckFail α :=
  match real with
  | .ok a => .ok a
  | .error e =>
    if e.status == St.degradedRetry then
      match onlyStatus St.quota spare with
      | .ok _ => .error e
      | .error f => .error f
    else .error e

/-- The append as a change of a state, its hashes with it, with the checks of R97 and R116. -/
def State.tryAppendOn (s : State) (q : Seq) (pos tokens : Nat) (layers : List (Nat × List Bytes)) (hs : List Nat) :
    Except CheckFail State :=
  match liftWrite (if layers.isEmpty then .ok s else s.applyAppend q.desc pos tokens layers) with
  | .error e => .error e
  | .ok t => liftRefused (s.fits (t.recordHashes q.desc (pos / 64) hs) q.paddock)

/-- The append tried out on the state. -/
def State.tryAppend (s : State) (q : Seq) (pos tokens : Nat) (layers : List (Nat × List Bytes)) (hs : List Nat) :
    Except CheckFail State :=
  if layers.isEmpty && hs.isEmpty then .ok s
  else quotaFirst (s.tryAppendOn q pos tokens layers hs) ((s.roomy.tryAppendOn q pos tokens layers hs).map fun _ => ())

/-- The layers that an append would write. -/
def writtenLayers (os : List ((Nat × List Bytes) × LayerOutcome)) : List (Nat × List Bytes) :=
  (os.filter fun x => decide (x.2 = .write)).map (·.1)

/-! ### STEP -/

/-- The weight set of a W_PROJ step, or DETAIL 0x0B (R40, R139). DESIGN CHOICE (log 99): a step with more query heads than
the set has HEADS draws 0x0B too, for the set holds no rows for them; the manual states no answer. -/
def State.checkWeights (s : State) (q : Seq) (p : StepParams) : Except CheckFail (Option WeightSet) :=
  if p.wProj then
    match s.installedSet q.weightSet with
    | none => refuse St.badParam 0x0B
    | some w => if w.suits q && p.qheads ≤ w.dims.heads then .ok (some w) else refuse St.badParam 0x0B
  else .ok none

/-- A NaN or an infinity in a tensor section (R69). -/
def specialIn (b : Bytes) : Bool := (bf16s b).any bf16Special

/-- Covered blocks that a step must read at its admission and that are lost (R119). -/
def State.lostCover (s : State) (q : Seq) (layer : Nat) (w : StepWork) : Bool :=
  w.covers.any fun c =>
    ((w.attn.sparseK == none) || (w.attn.forcedBlocks.contains c.block) || c.summary == none) &&
      (match q.entry layer c.head c.block with | none => false | some e => s.entryLost q e)

/-- LOST_BLOCKS before what the step's append is refused for (R28). -/
def lostFirst {α : Type} (lost : Bool) : Except CheckFail α → Except CheckFail α
  | .ok a => if lost then refuse St.lostBlocks 0 else .ok a
  | .error e => .error (if lost then { e with status := St.lostBlocks, detail := 0 } else e)

/-- Whether this STEP of a slice is shadowed: by rate, or by audit mode (R318). -/
def State.shadowed (s : State) (paddock slice : Nat) : Bool :=
  (s.pad paddock).audit ||
    (s.img.service.shadowRate != 0 &&
      ((((s.eng.shadowCount.find? (·.1 == slice)).map (·.2)).getD 0 + 1) % s.img.service.shadowRate == 0))

/-- The checks of a STEP once it is resolved (R31–R47). -/
def State.planStep (s : State) (r : Req) (q : Seq) (mirror : Bool) (partner below : Nat) : Except CheckFail Plan := do
  need (32 ≤ r.body.length) St.badParam 0x03
  let p := StepParams.parse r.body
  let h := q.shape
  need (!p.combinationBad h.latent) St.badParam 0x02
  need (!p.rangeBad h.maxLength r.layer h.layers && !specialIn (p.tensor r.body)) St.badParam 0x01
  need (!p.shapeBad h q.weightSet) St.badParam 0x0A
  let ws ← s.checkWeights q p
  let dq := match ws with | none => h.recShape.kDim | some w => w.dims.qn + w.dims.rope
  need (r.lengthIs (p.bodyLength h dq)) St.badParam 0x03
  let sec := p.sections h dq r.body
  need (!(p.treeKv && q.len r.layer != p.queryPos)) St.badParam 0x04
  need (!(p.append && h.maxLength < p.queryPos + p.qtokens)) St.badParam 0x05
  need (!(p.append && p.queryPos < h.shardStart)) St.badParam 0x09
  s.checkCounter r
  let recs := if p.append then h.quantiseSection sec.append else []
  let outcomes := if p.append then [((r.layer, recs), s.layerOutcome q p.queryPos p.qtokens r.layer recs)] else []
  let tried := s.tryAppend q p.queryPos p.qtokens (writtenLayers outcomes) []
  onlyStatus St.quota tried
  onlyStatus St.appendConflict (decideLayers outcomes)
  q.checkLost r
  let t := match decideLayers outcomes, tried with
    | .ok _, .ok t => t
    | _, _ => s
  let w := s.formStep t ((t.seqAt q.desc).getD q) r.layer p sec ws (s.shadowed r.paddock q.slice)
  let layers ← lostFirst (s.lostCover q r.layer w) (decideLayers outcomes)
  let _ ← tried
  s.checkRetry r q.slice partner
  .ok ⟨some q.desc, mirror, partner, below, q.slice, r.cls, ceilDiv w.rawBytes 1024,
    if layers.isEmpty then .none else .append p.queryPos p.qtokens layers 0 [], some w⟩

/-! ### The other operations -/

/-- Hashes of an APPEND that blocks without a hash would take (R50, R110). -/
def Seq.freshHashes (q : Seq) (first : Nat) (hs : List Nat) : Bool :=
  q.shape.shardStart == 0 && ((List.range hs.length).any fun k => first + k < 64 && !(q.hashes.any (·.1 == first + k)))

/-- The checks of an APPEND (R46–R50). -/
def State.planAppend (s : State) (r : Req) (q : Seq) (partner below : Nat) : Except CheckFail Plan := do
  need (16 ≤ r.body.length) St.badParam 0x03
  let a := AppendBody.parse r.body
  let h := q.shape
  need (!a.rangeBad h && !specialIn a.kv) St.badParam 0x01
  need (r.lengthIs (a.length h)) St.badParam 0x03
  need (a.position + a.tokens ≤ h.maxLength) St.badParam 0x05
  need (h.shardStart ≤ a.position) St.badParam 0x09
  s.checkCounter r
  let outcomes := (a.layers h).map fun l => (l, s.layerOutcome q a.position a.tokens l.1 l.2)
  let first := a.position / 64
  let hs := if a.hashesSet && q.freshHashes first a.hashes then a.hashes else []
  let tried := s.tryAppend q a.position a.tokens (writtenLayers outcomes) hs
  onlyStatus St.quota tried
  onlyStatus St.appendConflict (decideLayers outcomes)
  q.checkLost r
  let layers ← decideLayers outcomes
  let _ ← tried
  s.checkRetry r q.slice partner
  let e : Effect := if !layers.isEmpty then .append a.position a.tokens layers first hs
    else if hs.isEmpty then .none else .hashes first hs
  .ok ⟨some q.desc, false, partner, below, q.slice, 1, r.bodyCost, e, none⟩

/-- The checks of a SEQ_CREATE, decided by the current slot (R51, R52, R242). While every slice of the paddock is stopped, its
quotas are judged on the one that it would have got (R28). -/
def State.planCreate (s : State) (r : Req) : Except CheckFail Plan := do
  let place ← match s.mapSearch (s.maps.epochs.slotOf .current) (mapKey r.paddock r.seq r.layer 0xFFFFFF) with
    | .moved h => refuse St.moved 0 h
    | .status code hint => refuse code 0 hint
    | .unknown => refuse St.noSequence 0x0D
    | .place mirror _ partner => if mirror then refuse St.moved 0 partner else .ok (partner, 0)
    | .serve _ mirror partner below => if mirror then refuse St.moved 0 partner else .ok (partner, below)
  need (32 ≤ r.body.length) St.badParam 0x03
  let c := CreateBody.parse r.body
  let shape ← match c.shape with
    | none => refuse St.formatUnsupported 0
    | some h => .ok h
  need (!c.rangeBad (be r.body 16 4)) St.badParam 0x01
  need (match s.installedSet c.weightSet with
    | none => true
    | some w => c.weightSet == 0 || (w.paddock == r.paddock && w.dims.latent == c.headDim && w.dims.rope == c.ropeDim
        && w.dims.layers == c.layers)) St.badParam 0x0B
  need (r.lengthIs 32) St.badParam 0x03
  let old := s.findSeq r.paddock r.seq
  let expired := match old with | none => false | some q => q.deadline != 0 && q.deadline ≤ s.time
  match old with
  | some q =>
    if !expired then
      if q.created == c.stored && q.committed == q.shape.shardStart then
        s.checkCounter r
        q.checkLost r
        s.checkRetry r q.slice place.1
        return ⟨some q.desc, false, place.1, place.2, q.slice, 0, r.bodyCost, .none, none⟩
      else refuse St.badParam 0x06
    else .ok ()
  | none => .ok ()
  s.checkCounter r
  let base := match old with | some q => if expired then s.release q.desc else s | none => s
  need (base.seqRoom r.paddock) St.quota 0x10
  let slice ← match (base.creationSlice r.paddock).orElse fun _ => base.bestSlice r.paddock fun _ => true with
    | none => refuse St.degradedRetry 0
    | some i => .ok i
  let create := fun (x : State) => match liftRefused (x.createSeq slice r.paddock r.seq c.modelId shape c.stored c.ttl c.weightSet false) with
    | .error e => .error e
    | .ok t => liftRefused (x.fits t.2 r.paddock)
  let tried := quotaFirst (create base) ((create base.roomy).map fun _ => ())
  onlyStatus St.quota tried
  need (base.entryRoom slice r.paddock r.seq) St.quota 0x13
  need (base.creationSlice r.paddock).isSome St.degradedRetry 0
  let _ ← tried
  s.checkRetry r slice place.1
  s.checkO2
  .ok ⟨none, false, place.1, 0, slice, 0, r.bodyCost, .create slice expired, none⟩

/-- The parent's entries that a fork must read: the tails and the cut block, and the closed blocks that it copies because
the share-count table has filled by then (R54, R107, R108, R119). -/
def State.forkReads (s : State) (q : Seq) (len : Nat) : List Entry :=
  let once := q.entries.filter fun e => 64 * (e.block + 1) ≤ len &&
    (match e.slot with | .tail _ => false | .closed n => ((s.block n).map (·.refs)).getD 1 == 1)
  (q.entries.filter fun e => 64 * e.block < len &&
    (match e.slot with | .tail t => !t.recs.isEmpty | .closed _ => len < 64 * (e.block + 1)))
    ++ once.drop (s.sharePart q.slice - s.shareRecords q.slice)

/-- The entries that a truncation must read: the blocks that it reopens or keeps as tails (R55, R119). -/
def Seq.cutReads (q : Seq) (len : Nat) : List Entry :=
  if len % 64 == 0 then []
  else q.entries.filter fun e => (q.cutLayers len).contains e.layer && e.block == len / 64

/-- Reads of an operation other than a STEP: lost objects draw DEGRADED_RETRY, failed checks INTEGRITY (R119). -/
def State.checkReads (s : State) (q : Seq) (es : List Entry) : Except CheckFail Unit :=
  let at_ := fun (e : Entry) => (q.desc, e.layer, e.head, e.block)
  match es.find? fun e => !s.entryLost q e && !s.entryOk q e with
  | some e => .error ⟨St.integrity, 0, 0, [at_ e], [], false, false, none⟩
  | none => if es.any (s.entryLost q) then refuse St.degradedRetry 0 else .ok ()

/-- The checks of a SEQ_FORK (R53, R54). -/
def State.planFork (s : State) (r : Req) (q : Seq) (partner below : Nat) : Except CheckFail Plan := do
  need (24 ≤ r.body.length) St.badParam 0x03
  let f := ForkBody.parse r.body
  need (!f.rangeBad q.shape q.committed) St.badParam 0x01
  need (r.lengthIs 24) St.badParam 0x03
  match s.findSeq r.paddock f.child with
  | some c =>
    let same := match c.forked with
      | none => false
      | some k => k.parent == q.id && k.length == f.length
    if same && { c.shape with maxLength := 0 } = { q.shape with maxLength := 0 }
        && c.shape.maxLength == f.childMax q.shape && c.committed == f.length then
      s.checkCounter r
      q.checkLost r
      s.checkRetry r q.slice partner
      return ⟨some q.desc, false, partner, below, q.slice, 0, r.bodyCost, .none, none⟩
    else refuse St.badParam 0x06
  | none => .ok ()
  s.checkCounter r
  let fork := fun (x : State) => match liftRefused (x.applyFork q f.child f.length (f.childMax q.shape) f.ttl false) with
    | .error e => .error e
    | .ok t => liftRefused (x.fits t.2 r.paddock)
  let tried := quotaFirst (fork s) ((fork s.roomy).map fun _ => ())
  onlyStatus St.quota tried
  need (s.entryRoom q.slice r.paddock f.child) St.quota 0x13
  q.checkLost r
  s.checkReads q (s.forkReads q f.length)
  let _ ← tried
  s.checkRetry r q.slice partner
  s.checkO2
  .ok ⟨some q.desc, false, partner, below, q.slice, 0, r.bodyCost,
    .fork f.child f.length (f.childMax q.shape) f.ttl, none⟩

/-- The checks of a SEQ_TRUNCATE (R55). -/
def State.planTruncate (s : State) (r : Req) (q : Seq) (partner below : Nat) : Except CheckFail Plan := do
  need (4 ≤ r.body.length) St.badParam 0x03
  let len := be r.body 0 4
  need (q.shape.shardStart ≤ len && len ≤ q.committed) St.badParam 0x01
  need (r.lengthIs 4) St.badParam 0x03
  s.checkCounter r
  let tried := match liftWrite (s.applyTruncate q.desc len) with
    | .error e => .error e
    | .ok t => liftRefused (t.counterFits r.paddock)
  onlyStatus St.quota tried
  q.checkLost r
  s.checkReads q (q.cutReads len)
  let _ ← tried
  s.checkRetry r q.slice partner
  .ok ⟨some q.desc, false, partner, below, q.slice, 0, r.bodyCost, .truncate len, none⟩

/-- The checks of a SEQ_RELEASE (R56). -/
def State.planRelease (s : State) (r : Req) (q : Seq) (partner below : Nat) : Except CheckFail Plan := do
  need (r.lengthIs 0) St.badParam 0x03
  s.checkCounter r
  q.checkLost r
  s.checkRetry r q.slice partner
  .ok ⟨some q.desc, false, partner, below, q.slice, 0, r.bodyCost, .release, none⟩

/-- The checks of a SEQ_QUERY (R58). -/
def State.planQuery (s : State) (r : Req) (q : Seq) (mirror : Bool) (partner below : Nat) : Except CheckFail Plan := do
  need (r.lengthIs 4) St.badParam 0x03
  q.checkLost r
  s.checkRetry r q.slice partner
  .ok ⟨some q.desc, mirror, partner, below, q.slice, 0, r.bodyCost, .none, none⟩

/-- The checks of a PREFIX_LOOKUP (R59). -/
def State.planLookup (s : State) (r : Req) : Except CheckFail Plan := do
  need (16 ≤ r.body.length) St.badParam 0x03
  let b := PrefixBody.parse r.body
  need (1 ≤ b.count && b.count ≤ 64) St.badParam 0x01
  need (r.lengthIs (16 + 8 * b.count)) St.badParam 0x03
  let slice := s.sliceFor r.paddock r.seq
  s.checkRetry r slice 0
  .ok ⟨none, false, 0, 0, slice, 0, r.bodyCost, .none, none⟩

/-- The checks of a PREFETCH (R61, R62). -/
def State.planPrefetch (s : State) (r : Req) (q : Seq) (mirror : Bool) (partner below : Nat) : Except CheckFail Plan := do
  need (16 ≤ r.body.length) St.badParam 0x03
  let b := PrefetchBody.parse r.body
  need (!(b.layers.any fun l => q.shape.layers ≤ l)) St.badParam 0x01
  need (r.lengthIs (16 + b.count)) St.badParam 0x03
  q.checkLost r
  s.checkRetry r q.slice partner
  .ok ⟨some q.desc, mirror, partner, below, q.slice, 0, r.bodyCost, .none, none⟩

/-- The checks of a request after those of its access, in the order of R28. -/
def State.checkPlan (s : State) (r : Req) : Except CheckFail Plan := do
  let c ← s.checkEpoch r
  match r.opcode with
  | 3 => s.planCreate r
  | 7 => s.planLookup r
  | _ =>
    let x ← s.route c r
    match r.opcode with
    | 1 => s.planStep r x.1 x.2.1 x.2.2.1 x.2.2.2
    | 2 => s.planAppend r x.1 x.2.2.1 x.2.2.2
    | 4 => s.planFork r x.1 x.2.2.1 x.2.2.2
    | 5 => s.planTruncate r x.1 x.2.2.1 x.2.2.2
    | 6 => s.planRelease r x.1 x.2.2.1 x.2.2.2
    | 8 => s.planQuery r x.1 x.2.1 x.2.2.1 x.2.2.2
    | _ => s.planPrefetch r x.1 x.2.1 x.2.2.1 x.2.2.2

/-- Every check of a request in the order of R28. -/
def State.check (s : State) (qp : Qp) (r : Req) : Except CheckFail Plan := do
  s.checkAccess qp r
  s.checkPlan r

/-- The checks at admission, when the connection may be gone (R217). -/
def State.recheck (s : State) (r : Req) : Except CheckFail Plan :=
  match s.qp r.qpn with
  | some q => s.check q r
  | none => s.checkPlan r

end Sys2Proof.Machine
end

