-- ==== Sys2Proof/Machine/Initiator.lean ====
section
/-! DEFINITION. The node as RLA initiator: CONNECT attempts (R192–R196), LREADs of a partner's status line (R303) and of
the fabric manager's publication area (R243, R244), and commits queued with their connection. -/

namespace Sys2Proof.Machine

/-- A QPN that is free: one of QPs 2–262,143 that no connection and no attempt uses (R190; log 8). -/
def State.freeQpn (s : State) : Option Nat × State :=
  let used := s.net.qps.map (·.qpn) ++ s.net.attempts.map (·.initQpn)
  let (i, s) := s.choose Config.rowChoice 262142
  (((List.range (used.length + 1)).map fun k => 2 + (i + k) % 262142).find? fun q => !used.contains q, s)

/-- A link that is up, the lowest. -/
def State.someLink (s : State) : Nat := ((s.net.links.find? fun l => l.up && l.enabled).map (·.id)).getD 0

/-- Whether the image admits 8,318-byte frames on every port that is up (R183). -/
def State.bigFrames (s : State) : Bool :=
  s.net.links.all fun l => !l.up || s.img.transport.frame8318.contains (l.id / 4)

/-- A CONNECT packet (R192, R193). -/
def connectPacket (dest : Nat) (body : Bytes) : Bytes := gwtHeader 0x21 0 3 dest 0 0x60 64 0 0 64 0 ++ body

/-- Send a CONNECT packet to an address on a link; QP 0 and QP 1 traffic travels in class 6 (R184). -/
def State.sendConnect (s : State) (link : Nat) (target : Bytes) (dest : Nat) (body : Bytes) : State :=
  s.egress link 6 0 ⟨dest, 0, s.gwtFrame link 6 Config.connectPort target (connectPacket dest body), s.wireBytes link target 64
    false, true, false, .packet⟩

/-- The IP address of a node: the fabric manager's came with its reply (R345). -/
def State.addressOf (s : State) (node : Nat) : Bytes :=
  if node == s.boot.fmNode && !s.boot.fmAddress.isEmpty then s.boot.fmAddress else Config.nodeAddress node

/-- The fields that HELLO and PROOF repeat (R193): SERVICE and PADDOCK, INIT_QPN, then VERSIONS to TKEY. -/
def connectFields (body : Bytes) : Bytes := sub body 1 7 ++ sub body 12 12

/-- The initiator's proof (R195). -/
def initiatorProof (key nonceI nonceN body : Bytes) : Bytes :=
  sub (Config.hmacSha256 key (ascii "GWT-P" ++ nonceI ++ nonceN ++ connectFields body)) 0 16

/-- The node's proof of an ACCEPT (R195): the PROOF body and the ACCEPT body. -/
def nodeProof (key nonceI nonceN proof accept : Bytes) : Bytes :=
  sub (Config.hmacSha256 key (ascii "GWT-N" ++ nonceI ++ nonceN ++ sub proof 1 7 ++ sub proof 12 12 ++ sub accept 12 2
    ++ sub accept 8 4 ++ sub accept 14 10)) 0 16

/-- Start a CONNECT attempt of SERVICE 2 to a partner, in the name of a paddock (R192, R196). -/
def State.startConnect (s : State) (partner paddock : Nat) (key : Bytes) (stream : Option Nat) : State :=
  match s.freeQpn with
  | (none, s) => s
  | (some q, s) =>
    let (nonce, s) := s.draw 16
    let (psn, s) := s.drawNat 3
    let (tkey, s) := s.drawNat 4
    let (slots, s) := s.choose Config.placement 1024
    let flags := flag (s.sealedPad paddock) + 4 * flag s.bigFrames
    let body := toBe 1 1 ++ toBe 1 2 ++ toBe 2 paddock ++ toBe 4 q ++ zeros 4 ++ toBe 1 7 ++ toBe 1 flags
      ++ toBe 2 (slots + 1) ++ toBe 4 psn ++ toBe 4 tkey ++ toBe 2 s.boot.nodeId ++ zeros 6 ++ sub nonce 0 16 ++ zeros 16
    let a : Attempt := ⟨q, partner, paddock, key, 1, body, sub nonce 0 16, [], 0, s.time, stream⟩
    let s := { s with net := { s.net with attempts := s.net.attempts ++ [a] } }
    s.sendConnect s.someLink (s.addressOf partner) 0 body

/-- Whether a stream's connection must wait: for the key of a sealed paddock's windows (R278), or for a place of the paddock's
contexts (R292). -/
def State.streamWaits (s : State) (x : Stream) : Bool :=
  (s.sealedPad x.paddock && x.key.isEmpty) || !s.contextPartLeft x.paddock

/-- Make sure that a stream has a connection or an attempt at one, unless it must wait. -/
def State.connectStream (s : State) (i : Nat) : State :=
  match s.stream i with
  | none => s
  | some x =>
    if x.qpn.isSome || s.net.attempts.any (·.stream == some i) || s.streamWaits x then s
    else s.startConnect x.partner x.paddock x.key (some i)

/-- A new attempt for every stream that lost its connection (R309), or has records to send, and has none under way. -/
def State.reconnect (s : State) : State :=
  (s.maps.streams.filter fun x => x.qpn.isNone && (x.holdUntil.isSome || !(x.waiting.isEmpty && x.unacked.isEmpty))).foldl
    (fun t x => t.connectStream x.id) s

/-- A failed connection to the fabric manager's window: a publication area under way is not read to its end, and STAGE_RESULT
says so (R243). -/
def State.dropStaging (s : State) (qpn : Nat) : State :=
  match s.qp qpn with
  | none => s
  | some q =>
    if !(q.initiator && q.service == 2 && q.paddock == 0 && q.srcNode == s.boot.fmNode) then s
    else
      let s := { s with maps := { s.maps with epochs := { s.maps.epochs with headerRead := false } } }
      if s.maps.epochs.staging.isSome then
        { s with maps := { s.maps with epochs := { s.maps.epochs with staged := 0, stageResult := 4, staging := none } } }
      else s

/-- A connection enters ERROR, and pair streams on it reconnect (R216, R309). -/
def State.failConn (s : State) (qpn : Nat) : State := ((s.connError qpn).dropStaging qpn).reconnect

/-- A NAK that puts the connection into ERROR (R189, R216). -/
def State.nakFail (s : State) (qpn psn syndrome : Nat) : State := ((s.nakError qpn psn syndrome).dropStaging qpn).reconnect

/-- Queue the records of an operation (0: none) towards a partner and see to the connection. -/
def State.queueCommit (s : State) (partner paddock op : Nat) (records : List Bytes) : State :=
  let s := s.queueRecords partner paddock op records
  match s.streamOf partner paddock with
  | none => s
  | some x => s.connectStream x.id

/-- An LREAD of this node, remembered by its tag: 1 publication header, 2 publication area, 3 status line. -/
def State.rlaRead (s : State) (qpn addr lines tag : Nat) : State :=
  match s.qp qpn with
  | none => s
  | some _ =>
    let s := s.modQp qpn fun q => { q with tx := { q.tx with asked := q.tx.asked ++ [(0x40, tag)] } }
    s.sendMsg qpn 0x40 6 (rlaBody addr lines 0 tag []) false none

/-- The connection to the fabric manager's window for this node. -/
def State.fmQp (s : State) : Option Nat :=
  (s.net.qps.find? fun q => q.initiator && q.service == 2 && q.srcNode == s.boot.fmNode && q.paddock == 0
    && decide (q.state = .ready)).map (·.qpn)

/-- LREAD the fabric manager's publication area, over the connection or after opening one (R243, R244). -/
def State.askFm (s : State) (addr lines tag : Nat) : State :=
  match s.fmQp with
  | some q => s.rlaRead q addr lines tag
  | none =>
    if s.boot.fmNode == 0 || s.net.attempts.any (fun a => a.partner == s.boot.fmNode && a.stream.isNone) then s
    else s.startConnect s.boot.fmNode 0 s.boot.fmKey none

/-- The fetch of the publication header that an EPOCH_AHEAD starts (R244). -/
def State.fetchHeader (s : State) : State :=
  if s.maps.epochs.headerRead then s
  else
    let s := { s with maps := { s.maps with epochs := { s.maps.epochs with headerRead := true } } }
    s.askFm 0 1 1

end Sys2Proof.Machine
end

