-- ==== Sys2Proof/Machine/Resync.lean ====
section
/-! DEFINITION. Building a mirror's copy as sender (R313): step 1 in one commit, then a BLOCK or LOST_NOTICE record for
each closed block. -/

namespace Sys2Proof.Machine

/-- The oldest block of a layer that some row has not closed (R304); the block after the last when all are closed. -/
def Seq.oldestOpen (q : Seq) (layer : Nat) : Nat :=
  let c := q.len layer
  let open_ := q.entries.filterMap fun e =>
    if e.layer == layer && 64 * e.block < c then
      match e.slot with | .tail _ => some e.block | .closed _ => none
    else none
  open_.foldl min (ceilDiv c 64)

/-- The record of one position of a row; zeros where the object behind it is lost. -/
def State.recordAt (s : State) (q : Seq) (layer head pos : Nat) : Bytes :=
  match q.entry layer head (pos / 64) with
  | none => zeros q.shape.recShape.bytes
  | some e =>
    if s.entryLost q e then zeros q.shape.recShape.bytes
    else (s.entryRecs q e).getD (pos % 64) (zeros q.shape.recShape.bytes)

/-- A LOST_NOTICE for one block (R304, R315). -/
def lostNotice (paddock seq layer head block : Nat) : Bytes :=
  pairRecord { type := 11, paddock := paddock, seq := seq, count := 1, layerFirst := layer, layerCount := 1,
               kvHead := head, block := block } []

/-- The TAIL record of a layer, with LOST_NOTICEs for the tails that are lost (R304, R313). -/
def State.tailRecords (s : State) (q : Seq) (layer : Nat) : List Bytes :=
  let first := q.oldestOpen layer * 64
  let first := min first (q.len layer)
  let n := q.len layer - first
  let recs := ((List.range n).map fun i =>
    (List.range q.shape.kvHeads).map fun h => s.recordAt q layer h (first + i)).flatten
  let lost := q.entries.filter fun e => e.layer == layer && first ≤ 64 * e.block &&
    (match e.slot with | .tail _ => true | .closed _ => false) && s.entryLost q e
  pairRecord { type := 8, paddock := q.paddock, seq := q.id, position := first, count := n, layerFirst := layer,
               layerCount := 1, kvHead := 255 } recs.flatten
    :: lost.map fun e => lostNotice q.paddock q.id layer e.head e.block

/-- A HASHES record (R304). -/
def hashesRecord (paddock seq first : Nat) (hs : List Nat) : Bytes :=
  pairRecord { type := 6, paddock := paddock, seq := seq, count := hs.length, block := first } ((hs.map (toBe 8)).flatten)

/-- The records of R313 step 1. -/
def State.resyncRecords (s : State) (q : Seq) : List Bytes :=
  let create := match q.forked with
    | none => pairRecord { type := 1, paddock := q.paddock, seq := q.id, aux := 1, body := q.created } []
    | some f => pairRecord { type := 1, paddock := q.paddock, seq := q.id, aux := 1, body := q.created,
                             parent := f.parent + 2 ^ 63, forkLength := f.length } []
  create :: ((List.range q.shape.layers).map (s.tailRecords q)).flatten
    ++ q.hashes.map fun h => hashesRecord q.paddock q.id h.1 [h.2]

/-- The closed blocks that step 3 sends, in ascending layer, KV head and block index. -/
def Seq.resyncBlocks (q : Seq) : List BlockRef :=
  (q.shape.rows.map fun r =>
    (List.range (q.oldestOpen r.1)).filterMap fun b =>
      match q.entry r.1 r.2 b with
      | some ⟨_, _, _, .closed _, _, _, _⟩ => some ⟨q.paddock, q.id, r.1, r.2, b⟩
      | _ => none).flatten

/-- Start R313 towards a mirror; the tails that step 1 sends are verified first (R105). -/
def State.startResync (s : State) (partner : Nat) (q : Seq) : State :=
  if partner == 0 then s
  else
    let tails := q.entries.filter fun e => match e.slot with | .tail _ => true | .closed _ => false
    let s := s.verify q.desc (tails.map fun e => (e.layer, e.head, e.block))
    let q := (s.seqAt q.desc).getD q
    let s := s.ensureStream partner q.paddock
    match s.streamOf partner q.paddock with
    | none => s
    | some x =>
      let mine := fun (b : BlockRef) => b.paddock == q.paddock && b.seq == q.id
      let s := s.modStream x.id fun y => { y with
        resyncing := y.resyncing.filter (· != (q.paddock, q.id)) ++ [(q.paddock, q.id)]
        resync := y.resync.filter (fun b => !mine b) ++ q.resyncBlocks
        givenUp := y.givenUp.filter (· != (q.paddock, q.id)) }
      s.queueCommit partner q.paddock 0 (s.resyncRecords q)

/-- The BLOCK record of a closed block, or its LOST_NOTICE (R304, R313, R315). -/
def State.blockRecord (s : State) (q : Seq) (layer head block : Nat) : Bytes :=
  match q.entry layer head block with
  | some e =>
    (match e.slot with
     | .closed n =>
       match s.block n with
       | none => lostNotice q.paddock q.id layer head block
       | some b =>
         if s.entryLost q e then lostNotice q.paddock q.id layer head block
         else
           pairRecord { type := 7, paddock := q.paddock, seq := q.id, count := b.stored.length, layerFirst := layer,
                        layerCount := 1, kvHead := head, coding := b.coding, block := block,
                        aux := flag b.hasSummary } (b.stored ++ (if b.hasSummary then b.summary else []))
     | .tail _ => lostNotice q.paddock q.id layer head block)
  | none => lostNotice q.paddock q.id layer head block

end Sys2Proof.Machine
end

