-- ==== Sys2Proof/Machine/Serve.lean ====
section
/-! DEFINITION. The life of an operation of the cache service: reception and checks (R28, R29), its admission (R250,
R292), its commit (R305) and the release of its response (R26, R30, R89). -/

namespace Sys2Proof.Machine

/-! ### Answers -/

/-- Answer a request: the response header and, with OK, the body (R26). -/
def State.answerReq (s : State) (r : Req) (slice status detail hint : Nat) (body : Bytes) : State :=
  let b := if status == St.ok then body else []
  let h := if status == St.moved || status == St.epochAhead || status == St.degradedRetry then hint else 0
  let d := if status == St.ok then 0 else detail
  s.answer r.qpn r.msn (r.opcode % 128 + 128)
    (respHeader r s.maps.epochs.current status d (s.loadByte slice) h b.length ++ b)

/-- The record of an access to the descriptor cache under another paddock's tag (R271): Uncontained; the structure's place
in the table of R270 and the two paddocks are its data (log 105). -/
def tagReport (asked tagged : Nat) : ErrRep := ⟨2, 0, 0x5001, asked, 0, 0, 0, toBe 2 3 ++ toBe 2 asked ++ toBe 2 tagged⟩

/-- What a failed check does besides the answer: objects whose check failed are marked lost, those lost before are asked
for again (R47, R119), a newer epoch starts the fetch of R244, and a full metadata region is logged (R160). -/
def State.checkEffects (s : State) (r : Req) (e : CheckFail) : State :=
  let s := e.lost.foldl (fun t x => t.markLost x.1 x.2.1 x.2.2.1 x.2.2.2) s
  let s := e.restore.foldl (fun t x =>
    match t.seqAt x.1 with
    | none => t
    | some q => t.restoreReq q x.2.1 x.2.2.1 x.2.2.2) s
  let s := if e.full then s.note metaFullReport else s
  let s := match e.tag with | none => s | some p => (s.suspectUnit 0 0).note (tagReport r.paddock p)
  if e.ahead then s.fetchHeader else s

/-- Refuse a request. -/
def State.refuseReq (s : State) (r : Req) (e : CheckFail) : State :=
  (s.checkEffects r e).answerReq r (s.sliceFor r.paddock r.seq) e.status e.detail e.hint []

/-! ### Weight-window slots (R140) -/

/-- Whether a layer is in a loaded slot of a die. -/
def State.slotLoaded (s : State) (die paddock set layer : Nat) : Bool :=
  s.store.weightSlots.any fun w => w.die == die && !w.loading && w.content == some (paddock, set, layer)

/-- Whether every die of a slice has a layer in a slot. -/
def State.weightReady (s : State) (slice paddock set layer : Nat) : Bool :=
  match s.sliceCfg slice with
  | none => true
  | some c => c.dies.all fun d => s.slotLoaded d paddock set layer

/-- How far ahead of the layer in use an announced order has a layer; layers that are not ahead stand last. -/
def Hint.ahead (h : Hint) (layer : Nat) : Nat :=
  let first := match h.at_ with | none => 0 | some i => i + 1
  (((h.order.drop first).findIdx? (· == layer)).map (· + 1)).getD 257

/-- How far ahead a layer is announced. DESIGN CHOICE (log 107): where several sequences of a paddock announced an order,
the nearest announcement counts. -/
def State.announced (s : State) (paddock layer : Nat) : Nat :=
  ((s.store.hints.filter (·.paddock == paddock)).map fun h => h.ahead layer).foldl min 257

/-- The two layers that follow a layer in a list in which it stands, from its start again at the end. -/
def followers (xs : List Nat) (layer : Nat) : List Nat :=
  match xs.findIdx? (· == layer) with
  | none => []
  | some i => ((xs.drop (i + 1)) ++ xs.take i).take 2

/-- The next two layers after one in use: in the order that PREFETCH announced for the sequence, and, as far as that does
not name them, in the order in which layers of the set last arrived (R62, R140). -/
def State.nextLayers (s : State) (paddock seq set layer : Nat) : List Nat :=
  let told := match s.store.hints.find? fun h => h.paddock == paddock && h.seq == seq with
    | none => []
    | some h =>
      let i := match (h.order.drop ((h.at_.map (· + 1)).getD 0)).findIdx? (· == layer) with
        | some k => (h.at_.map (· + 1)).getD 0 + k + 1
        | none => ((h.order.findIdx? (· == layer)).map (· + 1)).getD h.order.length
      (h.order.drop i).take 2
  let seen := followers ((s.store.arrivals.filter fun x => x.1 == paddock && x.2.1 == set).map fun x => x.2.2) layer
  (told ++ seen.filter fun l => !told.contains l).take 2

/-- Whether an admitted step uses a slot's content. -/
def State.slotUsed (s : State) (die : Nat) (content : Option (Nat × Nat × Nat)) : Bool :=
  match content with
  | none => false
  | some c => s.eng.ops.any fun o =>
      decide (o.phase = .admitted) && o.req.paddock == c.1 && o.req.layer == c.2.2
        && (match o.step with | some w => (w.wProj.map (·.1)) == some c.2.1 | none => false)
        && ((s.sliceCfg o.slice).any fun k => k.dies.contains die)

/-- The slot that a load takes on a die: an empty one, else the one whose layer is announced furthest ahead, else, with none
announced, the least recently used; the lower index among equals (R140). The slots of `keep`, the layer in use and the next
two, stay. The start of a load counts as a use (log 107). -/
def State.victimSlot (s : State) (die : Nat) (keep : List (Nat × Nat × Nat)) : Option WeightSlot :=
  let kept := fun (w : WeightSlot) => (w.content.map keep.contains).getD false
  let free := s.store.weightSlots.filter fun w => w.die == die && !w.loading && !s.slotUsed die w.content && !kept w
  match free.find? (·.content == none) with
  | some w => some w
  | none =>
    let far := fun (w : WeightSlot) => (w.content.map fun c => s.announced c.1 c.2.2).getD 257
    match maxBy far (free.filter fun w => far w < 257) with
    | some w => some w
    | none => minBy (fun (x : WeightSlot) => x.lastUse) free

/-- Start to load a layer on a die, unless it is there or on its way. -/
def State.loadSlot (s : State) (keep : List (Nat × Nat × Nat)) (die paddock set layer : Nat) : State :=
  if s.store.weightSlots.any fun w => w.die == die && w.content == some (paddock, set, layer) then s
  else
    match s.victimSlot die keep with
    | none => s
    | some v =>
      let take := fun (w : WeightSlot) =>
        if w.die == v.die && w.slot == v.slot then
            { w with content := some (paddock, set, layer), loading := true, lastUse := s.time } else w
      { s with store := { s.store with weightSlots := s.store.weightSlots.map take } }

/-- Start the loads of a layer on every die of a slice; the layers of `keep` stay in their slots. -/
def State.loadLayer (s : State) (keep : List (Nat × Nat × Nat)) (slice paddock set layer : Nat) : State :=
  match s.sliceCfg slice with
  | none => s
  | some c => c.dies.foldl (fun t d => t.loadSlot keep d paddock set layer) s

/-- A W_PROJ step has arrived for a layer: it is now the layer that arrived last (R140). -/
def State.layerArrived (s : State) (paddock set layer : Nat) : State :=
  { s with store := { s.store with
      arrivals := s.store.arrivals.filter (· != (paddock, set, layer)) ++ [(paddock, set, layer)] } }

/-- An admitted W_PROJ step uses its layer: its slots are used now, the orders of its sequence stand at it, and the next two
layers are loaded on the slice's dies (R62, R140). -/
def State.useLayer (s : State) (slice paddock seq set layer : Nat) : State :=
  let dies := ((s.sliceCfg slice).map (·.dies)).getD []
  let used := fun (w : WeightSlot) =>
    if dies.contains w.die && w.content == some (paddock, set, layer) then { w with lastUse := s.time } else w
  let next := s.nextLayers paddock seq set layer
  let stand := fun (h : Hint) =>
    if h.paddock == paddock && h.seq == seq then
      let i := (h.at_.map (· + 1)).getD 0
      match (h.order.drop i).findIdx? (· == layer) with
      | some k => { h with at_ := some (i + k) }
      | none => { h with at_ := (h.order.findIdx? (· == layer)).orElse fun _ => h.at_ }
    else h
  let s := { s with store := { s.store with
    weightSlots := s.store.weightSlots.map used, hints := s.store.hints.map stand } }
  let keep := (layer :: next).map fun l => (paddock, set, l)
  next.foldl (fun t l => t.loadLayer keep slice paddock set l) s

/-! ### Acceptance -/

/-- An operation joins its slice's admission scheduler. -/
def State.queueOp (s : State) (o : Op) : State :=
  let s := s.modOp o.id fun x => { x with phase := .queued }
  s.enqueue o.slice o.cls o.req.paddock (.op o.id) o.cost

/-- What admission does to the sequence an operation names: REF, and its time-to-live but for SEQ_QUERY (R57, R89,
R112). A mirror records the deadline instead (R308; log 29). -/
def State.holdSeq (s : State) (r : Req) (p : Plan) : State :=
  match p.desc with
  | none => s
  | some d =>
    let s := s.modSeq d fun q => { q with ref := q.ref + 1 }
    match s.seqAt d with
    | none => s
    | some q =>
      if r.opcode == 8 || q.ttl == 0 then s
      else if p.mirror || q.mirrorCopy then
        let others := s.maps.deadlines.filter fun x => !(x.1 == q.paddock && x.2.1 == q.id)
        { s with maps := { s.maps with deadlines := others ++ [(q.paddock, q.id, s.deadline q.ttl)] } }
      else s.modSeq d fun q => { q with deadline := s.deadline q.ttl }

/-- Count a STEP of a slice for the shadow rate (R318). -/
def State.countStep (s : State) (slice : Nat) : State :=
  let n := ((s.eng.shadowCount.find? (·.1 == slice)).map (·.2)).getD 0 + 1
  { s with eng := { s.eng with shadowCount := s.eng.shadowCount.filter (·.1 != slice) ++ [(slice, n)] } }

/-- Whether admission holds a step: its weight layer is not in a slot of every die of its slice (R140). -/
def State.stepWaits (s : State) (r : Req) (slice : Nat) (w : Option StepWork) : Bool :=
  match w.bind (·.wProj) with
  | some x => !s.weightReady slice r.paddock x.1 r.layer
  | none => false

/-- Admission holds a step until its layer is in a slot (R140). -/
def State.holdForWeights (s : State) (o : Op) : State :=
  match o.step.bind (·.wProj) with
  | some x => (s.modOp o.id fun y => { y with phase := .weights }).loadLayer [] o.slice o.req.paddock x.1 o.req.layer
  | none => s

/-- A request whose checks passed at the end of its reception waits for its admission in its slice's scheduler; what the
operation holds and does is settled then (R29, R250; log 9). -/
def State.acceptReq (s : State) (r : Req) (p : Plan) : State :=
  let id := s.eng.nextOp
  let o : Op := ⟨id, r, .queued, p.slice, p.cls, p.cost, none, p.partner, p.below, p.effect, .notNeeded, 0, St.ok, 0, 0,
    p.step, false⟩
  let s := { s with eng := { s.eng with ops := s.eng.ops ++ [o], nextOp := id + 1 } }
  let s := match p.step.bind (·.wProj) with | none => s | some x => s.layerArrived r.paddock x.1 r.layer
  if s.stepWaits r p.slice p.step then s.holdForWeights o else s.queueOp o

/-- Check a request and accept or refuse it. -/
def State.runReq (s : State) (r : Req) : State :=
  match s.qp r.qpn with
  | none => s
  | some q =>
    let s := s.fetchDescriptor (some q) r
    match s.check q r with
    | .error e => s.refuseReq r e
    | .ok p => s.acceptReq r p

/-- Whether a mutating operation of the same sequence is unfinished (R29). -/
def State.orderBusy (s : State) (r : Req) : Bool :=
  r.mutates && s.eng.ops.any fun o => o.req.mutates && o.req.orderKey == r.orderKey &&
    (match o.phase with | .front _ => false | _ => true)

/-- Put a request aside: held behind its sequence's mutations, or in the front end (R29, R292). -/
def State.parkReq (s : State) (r : Req) (phase : OpPhase) : State :=
  let id := s.eng.nextOp
  let o : Op := ⟨id, r, phase, s.sliceFor r.paddock r.seq, 0, 0, none, 0, 0, .none, .notNeeded, 0, St.ok, 0, 0, none, false⟩
  { s with eng := { s.eng with ops := s.eng.ops ++ [o], nextOp := id + 1 } }

/-- A request reaches admission: it waits behind an unfinished mutation of its sequence, or is checked. -/
def State.considerReq (s : State) (r : Req) : State :=
  if s.orderBusy r then s.parkReq r .held else s.runReq r

/-- FRONT_DELAY of the slice that a request names; 0 outside sealed-policy slices (R292). -/
def State.frontDelay (s : State) (r : Req) : Nat :=
  match s.sliceCfg (s.sliceFor r.paddock r.seq) with
  | none => 0
  | some c => if c.policy == 0 then 0 else c.frontDelay

/-- A message of the cache service is received whole (R23, R29, R206, R292). -/
def State.receiveCache (s : State) (m : Msg) (opcode : Nat) : State :=
  match s.qp m.qpn with
  | none => s
  | some q =>
    match q.state with
    | .error => s
    | .quarantine => s
    | _ =>
      if !q.admits opcode then s.nakFail m.qpn m.psn 0x01
      else if m.body.length < 32 then s.nakFail m.qpn m.psn 0x01
      else
        let r := Req.parse { m with opcode := opcode }
        let d := s.frontDelay r
        if d == 0 then s.considerReq r else s.parkReq r (.front (s.time + d))

/-! ### Release -/

/-- Requests held behind a sequence's mutation run in the order of their reception until one is accepted (R29). -/
def State.runHeldFuel (key : Nat × Nat) : Nat → State → State
  | 0, s => s
  | fuel + 1, s =>
    if s.eng.ops.any (fun o => o.req.mutates && o.req.orderKey == key &&
        (match o.phase with | .front _ => false | .held => false | _ => true)) then s
    else
      match s.eng.ops.find? fun o => o.req.orderKey == key && decide (o.phase = .held) with
      | none => s
      | some o =>
        let s := { s with eng := { s.eng with ops := s.eng.ops.filter (·.id != o.id) } }
        State.runHeldFuel key fuel (s.runReq o.req)

/-- Held requests whose sequence no longer has an unfinished mutation before them, as after its connection entered ERROR
(R29, R217). -/
def State.runHeld (s : State) : State :=
  (s.eng.ops.filter fun o => decide (o.phase = .held)).foldl
    (fun t o => State.runHeldFuel o.req.orderKey (t.eng.ops.length + 1) t) s

/-- Drop one reference; a releasing sequence at 0 waits for RELEASE_REF_ZERO (R89, R113). -/
def State.unref (s : State) (o : Op) : State :=
  match o.desc with
  | none => s
  | some d => s.modSeq d.1 fun q => if q.generation == d.2 then { q with ref := q.ref - 1 } else q

/-- Give an operation's charge back to the admission window (R254). -/
def State.returnCharge (s : State) (o : Op) : State :=
  if decide (o.phase = .admitted) then
    s.modSched o.slice fun d => { d with inUseUnits := d.inUseUnits - o.cost, inUseOps := d.inUseOps - 1 }
  else s

/-- Sets under removal leave once no operation uses them (R363). -/
def State.dropRemoved (s : State) : State :=
  let used := fun (w : WeightSet) => s.eng.ops.any fun o => (o.step.bind fun x => x.wProj.map (·.1)) == some w.setId
  let gone := ((s.store.weights.filter fun w => w.removing && !used w)).map fun (w : WeightSet) => w.setId
  if gone.isEmpty then s
  else
    let empty := fun (x : WeightSlot) =>
      if (match x.content with | some c => gone.contains c.2.1 | none => false) then { x with content := none, loading := false } else x
    { s with store := { s.store with
      weights := s.store.weights.filter fun w => !gone.contains w.setId
      weightSlots := s.store.weightSlots.map empty } }

/-- The end of an operation: its response, its REF, its charge; the next held request of its sequence runs. -/
def State.endOp (s : State) (o : Op) (status detail hint : Nat) (body : Bytes) : State :=
  let s := ((s.returnCharge o).unref o).dropHeld (HeldWork.of o.id)
  let s := { s with
    eng := { s.eng with ops := s.eng.ops.filter (·.id != o.id) }
    sch := { s.sch with scheds := s.sch.scheds.map fun (d : Sched) => d.discard fun (i : Item) => decide (i = Item.op o.id) } }
  let s := s.stir
  let s := if o.discarded then s.consume o.req.qpn o.req.msn else s.answerReq o.req o.slice status detail hint body
  let s := s.dropRemoved
  if o.req.mutates then State.runHeldFuel o.req.orderKey (s.eng.ops.length + 1) s else s

/-- End an operation with a status other than OK; nothing of it is written (R311). -/
def State.failOp (s : State) (o : Op) (status detail hint : Nat) : State := s.endOp o status detail hint []

/-- Tokens times layers that an effect commits (R296). -/
def Effect.tokenLayers : Effect → Nat
  | .append _ n ls _ _ => n * ls.length
  | _ => 0

/-- Tally of an operation answered OK (R296): STEPS or OPS, and the tokens it committed. -/
def State.countOk (s : State) (o : Op) : State :=
  let s := s.tally o.req.paddock (if o.req.opcode == 1 then 6 else 9) 1
  s.tally o.req.paddock 7 o.effect.tokenLayers

/-- The OK body of an operation other than a STEP. `pre` is the state before its effect. -/
def State.okBody (s pre : State) (o : Op) : Bytes :=
  match o.req.opcode with
  | 3 =>
    (match s.findSeq o.req.paddock o.req.seq with
     | none => []
     | some q => createResponse q.shape)
  | 4 =>
    (match (s.findSeq o.req.paddock (be o.req.body 0 8 % 2 ^ 48)).bind (·.forked) with
     | none => zeros 8
     | some f => toBe 4 f.sharedBlocks ++ toBe 4 f.copiedTokens)
  | 5 =>
    (match o.desc with
     | none => []
     | some d =>
       match pre.seqAt d.1, s.seqAt d.1 with
       | some p, some q => toBe 4 q.committed ++ toBe 4 (p.blocksReleased (be o.req.body 0 4))
       | _, _ => [])
  | 8 =>
    (match o.desc.bind fun d => s.seqAt d.1 with
     | none => []
     | some q => s.queryBody q (bit (be o.req.body 0 4) 0))
  | _ => []

/-! ### PREFIX_LOOKUP (R59, R111) and PREFETCH (R62) -/

/-- The confirmed holder of a prefix of k + 1 blocks: the one hit of the search, which is a miss when it fails the
confirmation (R111, R235). -/
def State.prefixHolder (s : State) (paddock : Nat) (b : PrefixBody) (k : Nat) : Option Seq :=
  ((s.ledgerFind (prefixKey paddock b.modelId k (b.hashes.getD k 0)) 0).bind fun e =>
    (s.seqAt (bits e.result 51 32)).filter fun q => q.generation == bits e.result 31 0).filter fun q =>
      decide (q.state = .live) && q.paddock == paddock && q.modelId == b.modelId
        && 64 * (k + 1) ≤ q.committed && q.hashes.contains (k, b.hashes.getD k 0)

/-- The longest match: MATCHED and the holder. -/
def State.prefixMatch (s : State) (paddock : Nat) (b : PrefixBody) : Nat → Nat × Option Seq
  | 0 => (0, none)
  | n + 1 =>
    match s.prefixHolder paddock b n with
    | none => State.prefixMatch s paddock b n
    | some q => (n + 1, some q)

/-- The PREFIX_LOOKUP response body: SOURCE follows from where O2 placed the entries (R59; log 19). -/
def State.lookupBody (s : State) (r : Req) : Bytes :=
  let b := PrefixBody.parse r.body
  let m := s.prefixMatch r.paddock b b.count
  match m.2 with
  | none => zeros 20
  | some q => toBe 1 m.1 ++ zeros 7 ++ toBe 8 q.id ++ toBe 4 q.committed

/-- Whether an admitted step of a sequence uses a layer of its weight set. -/
def State.layerInUse (s : State) (q : Seq) : Option Nat :=
  ((s.eng.ops.filter fun o => decide (o.phase = .admitted) && o.req.paddock == q.paddock && o.req.seq == q.id
    && (o.step.bind (·.wProj)).isSome).getLast?).map fun o => o.req.layer

/-- Record a hint. DESIGN CHOICE (log 107): the newest PREFETCH of a sequence stands for it; one without ORDER leaves no
announced order. Then load what its order announces: after the layer in use the next two, else the first three (R62,
R140). -/
def State.recordHint (s : State) (o : Op) : State :=
  let b := PrefetchBody.parse o.req.body
  let h : Hint := ⟨o.req.paddock, o.req.seq, b.layers, none, if b.warm then some (b.first, b.last) else none⟩
  let others := s.store.hints.filter fun x => !(x.paddock == h.paddock && x.seq == h.seq)
  let s := { s with store := { s.store with hints := others ++ [h] } }
  match o.desc.bind fun d => s.seqAt d.1 with
  | none => s
  | some q =>
    match s.installedSet q.weightSet with
    | none => s
    | some _ =>
      if b.layers.isEmpty then s
      else
        match s.layerInUse q with
        | some l => s.useLayer q.slice q.paddock q.id q.weightSet l
        | none =>
          let first := b.layers.take 3
          first.foldl (fun t l =>
            t.loadLayer (first.map fun x => (q.paddock, q.weightSet, x)) q.slice q.paddock q.weightSet l) s

/-! ### Commit and effect (R305) -/

/-- The pair records of an operation (R304). -/
def State.effectRecords (s : State) (o : Op) : List Bytes :=
  let p := o.req.paddock
  let q := o.req.seq
  let hashes (first : Nat) (hs : List Nat) := if hs.isEmpty then [] else [hashesRecord p q first hs]
  match o.effect with
  | .none => []
  | .append pos n layers hf hs =>
    (match o.desc.bind fun d => s.seqAt d.1 with
     | none => []
     | some x => hashes hf hs ++ appendRecords p q pos n x.shape.kvHeads x.shape.recShape.bytes
         (s.streamRoom o.partner p) layers)
  | .hashes hf hs => hashes hf hs
  | .create _ replace =>
    (if replace then [pairRecord { type := 4, paddock := p, seq := q } []] else [])
      ++ [pairRecord { type := 1, paddock := p, seq := q, body := o.req.body } []]
  | .fork child len _ _ =>
    [pairRecord { type := 2, paddock := p, seq := q, position := len, aux := child, body := o.req.body } []]
  | .truncate len => [pairRecord { type := 3, paddock := p, seq := q, position := len } []]
  | .release => [pairRecord { type := 4, paddock := p, seq := q } []]

/-- An ID is used again (R57). -/
def State.reuseId (s : State) (p q : Nat) : State :=
  { s with store := { s.store with expired := s.store.expired.filter (· != (p, q)) } }

/-- Apply an operation's effect to the node's own state (R305 step 5). -/
def State.applyEffect (s : State) (o : Op) : Except Refused State :=
  let d := (o.desc.map (·.1)).getD 0
  match o.effect with
  | .none => .ok s
  | .append pos n layers hf hs =>
    (match s.applyAppend d pos n layers with
     | .error e => .error e
     | .ok t => .ok (if hs.isEmpty then t else t.recordHashes d hf hs))
  | .hashes hf hs => .ok (s.recordHashes d hf hs)
  | .create slice replace =>
    let s := if replace then
        (match s.findSeq o.req.paddock o.req.seq with | none => s | some q => s.release q.desc)
      else s
    let c := CreateBody.parse o.req.body
    (match c.shape with
     | none => .error (St.formatUnsupported, 0)
     | some h =>
       match s.createSeq slice o.req.paddock o.req.seq c.modelId h c.stored c.ttl c.weightSet false with
       | .error e => .error e
       | .ok (k, t) => .ok ((t.insertExact k false o.partner 0).reuseId o.req.paddock o.req.seq))
  | .fork child len maxLen ttl =>
    (match s.seqAt d with
     | none => .error (St.degradedRetry, 0)
     | some q =>
       match s.applyFork q child len maxLen ttl false with
       | .error e => .error e
       | .ok (k, t) => .ok ((t.insertExact k false o.partner o.below).reuseId o.req.paddock child))
  | .truncate len => s.applyTruncate d len
  | .release => .ok (s.startRelease d)

/-- The sequence that an effect concerns, after it. -/
def State.effectSeq (s : State) (o : Op) : Option Seq := s.findSeq o.req.paddock o.req.orderKey.2

/-- Release an operation other than a STEP. -/
def State.finishOther (s pre : State) (o : Op) : State :=
  let s := s.countOk o
  match o.req.opcode with
  | 7 => s.endOp o St.ok 0 0 (s.lookupBody o.req)
  | 9 => (s.recordHint o).endOp o St.ok 0 0 []
  | _ => s.endOp o St.ok 0 0 (s.okBody pre o)

/-- An operation that the scheduler admits: it holds its sequence, a STEP becomes work for the clusters, a mutation sends
its records, and what needs neither is answered (R29, R89, R112, R136, R305). The list of operations keeps the order of
admission (R126). -/
def State.admitOp (s : State) (o : Op) (p : Plan) : State :=
  let s := s.holdSeq o.req p
  let s := if o.req.opcode == 1 then s.countStep o.slice else s
  let gen := (p.desc.bind fun d => (s.seqAt d).map fun q => (d, q.generation))
  let o : Op := { o with
    phase := .admitted, cost := p.cost, desc := gen, partner := p.partner, below := p.below, effect := p.effect,
    commit := if decide (p.effect = Effect.none) then .notNeeded else .pending, step := p.step }
  let s := s.modSched o.slice fun (x : Sched) => { x with inUseUnits := x.inUseUnits + o.cost, inUseOps := x.inUseOps + 1 }
  let s := { s with eng := { s.eng with ops := s.eng.ops.filter (fun (x : Op) => x.id != o.id) ++ [o] } }
  let s := match p.step.bind (·.wProj) with
    | none => s
    | some x => s.useLayer o.slice o.req.paddock o.req.seq x.1 o.req.layer
  match p.effect with
  | .none => if o.req.opcode == 1 then s else s.finishOther s o
  | _ => s.queueCommit o.partner o.req.paddock o.id (s.effectRecords o)

/-- An operation reaches admission: it is checked against the state of that moment (R28, R29, R112), and admitted, held
for its weights, or refused. -/
def State.releaseOp (s : State) (o : Op) : State :=
  let s := s.fetchDescriptor (s.qp o.req.qpn) o.req
  match s.recheck o.req with
  | .error e => (s.checkEffects o.req e).endOp o e.status e.detail e.hint []
  | .ok p => if s.stepWaits o.req o.slice p.step then s.holdForWeights { o with step := p.step } else s.admitOp o p

/-- The work units that admission charges an item (R253): a STEP's by what it covers now; nothing for a request that
will be refused or held (R28, R140). -/
def State.itemCost (s : State) (i : Item) (cost : Nat) : Nat :=
  match i with
  | .frame _ => cost
  | .work _ => cost
  | .op id =>
    match s.op id with
    | none => cost
    | some o =>
      match s.recheck o.req with
      | .error _ => 0
      | .ok p => if s.stepWaits o.req o.slice p.step then 0 else p.cost

end Sys2Proof.Machine
end

