-- ==== Sys2Proof/Machine/Drr.lean ====
section
/-! DEFINITION. A scheduler's decision (R248–R256, R262–R264): the admission window, the timing wheel, deficit round robin with
folding, promotion of starved work, and the turn of node-internal work (R247, R253). -/

namespace Sys2Proof.Machine

/-! ### The admission window (R254, R264) -/

/-- Admitted operations of a slice, all or of one paddock: their charge and their number. -/
def State.charges (s : State) (slice : Nat) (paddock : Option Nat) : Nat × Nat :=
  let mine := s.eng.ops.filter fun o => o.slice == slice && decide (o.phase = .admitted)
    && (match paddock with | none => true | some p => o.req.paddock == p)
  (sumNat (mine.map (·.cost)), mine.length)

/-- Whether a paddock admits against its own share alone: in a slice of sealed policy (R264, R269). -/
def State.ownShare (s : State) (d : Sched) : Bool := d.id < 16 && (s.sliceCfg d.id).any fun c => c.policy != 0

/-- room_for() of the admission window; in a sealed-policy slice within the paddock's own share. Node-internal work asks
for room like an operation, and holds none once it is released (DESIGN CHOICE, log 9). -/
def State.roomFor (s : State) (d : Sched) (paddock cost : Nat) : Bool :=
  if 16 ≤ d.id then true
  else
    match s.sliceCfg d.id with
    | none => true
    | some c =>
      if c.policy != 0 then
        let share := c.partOf paddock
        let use := s.charges d.id (some paddock)
        use.2 == 0 || (use.1 + cost ≤ c.admitWindow * share / 256 && use.2 + 1 ≤ c.admitSteps * share / 256)
      else
        d.inUseOps == 0 || (d.inUseUnits + cost ≤ c.admitWindow && d.inUseOps + 1 ≤ c.admitSteps)

/-! ### The timing wheel (R257) -/

/-- The wheel slot of an eligible time: rounded up to 64 ns, at most the wheel's span ahead. -/
def wheelSlot (now t : Nat) : Nat := ceilDiv (min t (now + 268435456)) 64 * 64

/-- A queue leaves its ring for the wheel, its deficit kept; the list keeps the order in which queues left (R266). -/
def Sched.toWheel (d : Sched) (now cls paddock t : Nat) : Sched :=
  let here := fun (q : Queue) => q.cls == cls && q.paddock == paddock
  let moved := (d.queues.filter here).map fun (q : Queue) => { q.stop now with
      wheelAt := some (wheelSlot now t), visited := false, promoted := false }
  let d : Sched := { d with queues := d.queues.filter (fun q => !here q) ++ moved }
  d.modRing cls fun r => r.leave paddock

/-! ### Deficit round robin (R250, R251) -/

/-- A round is complete: virtual time moves on, and every queue of the ring is to be visited again. -/
def Ring.newRound (r : Ring) : Ring := { r with vtime := (r.vtime + 1) % 2 ^ 64, round := r.order.length }

/-- A visit ends with its queue at the tail. -/
def Ring.next (r : Ring) (paddock : Nat) : Ring :=
  let x := r.leave paddock
  if r.order.contains paddock then { x with order := x.order ++ [paddock] } else x

/-- Further visits after which a queue's head fits; none for one whose visit has begun. -/
def Queue.visits (q : Queue) : Nat :=
  match q.items with
  | [] => 0
  | i :: _ => if q.visited then 0 else max 1 (ceilDiv ((i.2 : Int) - q.deficit).toNat (max 1 q.quantum))

/-- At the start of a round, fold the rounds in which no queue of the ring could release its head (R251). A queue whose head
waits for its gate gets no new quantum (R250). -/
def Sched.fold (d : Sched) (cls : Nat) (waiting : List Nat) : Sched :=
  let r := d.ring cls
  let inside := fun (q : Queue) => q.cls == cls && r.order.contains q.paddock && !waiting.contains q.paddock
  let k := minNat ((d.queues.filter inside).map Queue.visits)
  if r.round != r.order.length || k ≤ 1 then d
  else
    let add := fun (q : Queue) => if inside q then { q with deficit := q.deficit + (((k - 1) * q.quantum : Nat) : Int) } else q
    { d with
      queues := d.queues.map add
      rings := updateFirst (·.cls == cls) (fun (x : Ring) => { x with vtime := (x.vtime + (k - 1)) % 2 ^ 64 }) d.rings }

/-- What serving a class comes to: nothing, a head item that waits for the admission window, or a released item. -/
inductive Served where
  | nothing
  | blocked
  | item (q : Queue) (i : Item) (cost : Nat)
deriving DecidableEq, Repr

/-- Take the head item out of a queue. -/
def Sched.takeHead (d : Sched) (now cls paddock cost : Nat) : Sched :=
  d.modQueue cls paddock fun q => { q with
    items := q.items.drop 1, deficit := q.deficit - (cost : Int), since := now, counted := 0, counting := true }

/-- After a release: an empty queue leaves its ring, one whose next head does not fit goes to the tail. -/
def Sched.settle (d : Sched) (cls paddock : Nat) : Sched :=
  match d.queue cls paddock with
  | none => d
  | some q =>
    match q.items with
    | [] => (d.modQueue cls paddock fun x => { x with
        visited := false, deficit := 0, promoted := false }).modRing cls fun r => r.leave paddock
    | i :: _ =>
      if (i.2 : Int) ≤ q.deficit then d
      else (d.modQueue cls paddock fun x => { x with visited := false }).modRing cls fun r => r.next paddock

/-- More visits than a class of `n` queues can need for a decision: after a fold some head fits within a round, and each
round but the last sends a queue to the wheel or lets it wait. -/
def visitBound (n : Nat) : Nat := (2 * n + 4) * (n + 4)

/-- Visits of a class until an item is released, or nothing can be; `fuel` bounds them. A queue of `waiting` has had its
quantum in this visit and keeps its place, while its head waits for a window that it fits, or for its paddock's own share;
smaller elements of other queues start meanwhile (R250, R259, R264). -/
def State.serveClass (s : State) (cls : Nat) : Nat → List Nat → Sched → Sched × Served
  | 0, _, d => (d, .nothing)
  | fuel + 1, waiting, d =>
    match (d.ring cls).order.findIdx? fun p => !waiting.contains p with
    | none => (d, .nothing)
    | some n =>
      let d := if (d.ring cls).round ≤ n then d.modRing cls Ring.newRound else d
      let d := d.fold cls waiting
      let p := (d.ring cls).order.getD n 0
      match d.queue cls p with
      | none => (d, .nothing)
      | some q =>
        let q := if q.visited then q else { q with deficit := q.deficit + (q.quantum : Int), visited := true }
        let d := d.modQueue cls p fun _ => q
        match q.items with
        | [] => (d, .nothing)
        | i :: _ =>
          if (i.2 : Int) ≤ q.deficit then
            match (s.bridle d cls p).map fun b => (b.at_ s.time).wait (itemBytes i.2 i.1) with
            | some (m + 1) => s.serveClass cls fuel waiting (d.toWheel s.time cls p (s.time + m + 1))
            | _ =>
              if !s.gateFits d q i.1 then s.serveClass cls fuel (p :: waiting) d
              else if s.roomFor d p i.2 then ((d.takeHead s.time cls p i.2).settle cls p, .item q i.1 i.2)
              else if s.ownShare d then s.serveClass cls fuel (p :: waiting) d
              else (d, .blocked)
          else
            s.serveClass cls fuel waiting ((d.modQueue cls p fun x => { x with visited := false }).modRing cls fun r => r.next p)

/-- Classes in the order of R248 that are neither paused nor empty. -/
def State.classOrder (s : State) (d : Sched) : List Nat :=
  let cs := if d.id < 16 then [0, 1, 2] else [7, 6, 5, 4, 3, 2, 1, 0]
  cs.filter fun c => !(d.ring c).order.isEmpty && !s.classPaused d c

/-- Serve classes in order; a head that only waits for the admission window keeps lower classes back. -/
def State.serveClasses (s : State) : List Nat → Sched → Sched × Served
  | [], d => (d, .nothing)
  | c :: cs, d =>
    match s.serveClass c (visitBound (d.ring c).order.length) [] d with
    | (d, .nothing) => s.serveClasses cs d
    | r => r

/-! ### Promotion (R262–R264) -/

/-- Bytes of a work unit. -/
def Sched.unitBytes (d : Sched) : Nat := if d.id < 16 then 1024 else 256

/-- The share whose promotion bucket a paddock's queues draw on: its own in a sealed-policy slice (R264). -/
def State.shareKey (s : State) (d : Sched) (paddock : Nat) : Nat := if s.ownShare d then paddock else 0

/-- The promotion bucket of a share at this time: bytes, filling at 1 % of its capacity, up to 1 % of its capacity over 100 ms
(R263). -/
def State.bucketAt (s : State) (d : Sched) (key : Nat) : Int :=
  let b := (d.buckets.find? (·.share == key)).getD ⟨key, 0, 0⟩
  let dt := s.time - b.at_
  if d.id < 16 then
    let n := ((s.sliceCfg d.id).map (·.hbms.length)).getD 0
    let part := if s.ownShare d then ((s.sliceCfg d.id).map (·.partOf key)).getD 0 else 256
    min (b.level + ((dt * 24576 * n * part / 256000 : Nat) : Int)) ((2457600000 * n * part / 256 : Nat) : Int)
  else
    let rate := ((s.net.links.find? fun l => l.id + 16 == d.id).map (·.rate)).getD 1600
    min (b.level + ((dt * rate / 800 : Nat) : Int)) ((rate * 125000 : Nat) : Int)

/-- Charge a promotion's release to its bucket, in full (R263). -/
def State.chargeBucket (s : State) (d : Sched) (key bytes : Nat) : Sched :=
  let b : Bucket := ⟨key, s.bucketAt d key - (bytes : Int), s.time⟩
  { d with buckets := d.buckets.filter (·.share != key) ++ [b] }

/-- Classes whose queues can starve: bulk and background, traffic classes 0–4 (R262). -/
def Sched.canStarve (d : Sched) (cls : Nat) : Bool := if d.id < 16 then 1 ≤ cls && cls ≤ 2 else cls ≤ 4

/-- The first of some queues in the order of R266: longer starved, then ring order, then lower paddock. -/
def State.firstStarved (s : State) (d : Sched) (cs : List Nat) (p : Queue → Bool) : Option Queue :=
  maxBy (fun (q : Queue) => q.clock s.time) ((cs.map fun c => (d.ring c).order.filterMap fun k =>
    (d.queue c k).bind fun q => if p q then some q else none).flatten)

/-- The queue that starves and is promoted next within a share (R262, R263). -/
def State.nextStarved (s : State) (d : Sched) (key : Nat) : Option Queue :=
  s.firstStarved d ((d.rings.map (·.cls)).filter d.canStarve) fun q =>
    !q.promoted && s.shareKey d q.paddock == key && d.starve ≤ q.clock s.time

/-- In each share, the starved queue that is first is promoted, with one added QUANTUM, when the bucket holds that and no
promotion is under way (R262, R263). -/
def State.promote (s : State) (d : Sched) : Sched :=
  (((d.queues.map fun (q : Queue) => s.shareKey d q.paddock)).eraseDups).foldl (fun (e : Sched) key =>
    if e.queues.any fun q => q.promoted && s.shareKey e q.paddock == key then e
    else
      match s.nextStarved e key with
      | none => e
      | some q =>
        if s.bucketAt e key < ((q.quantum * e.unitBytes : Nat) : Int) then e
        else e.modQueue q.cls q.paddock fun x => { x with promoted := true, deficit := x.deficit + (x.quantum : Int) }) d

/-- The promoted queue that goes first: longer starved, then ring order, then lower paddock (R262, R266). -/
def State.promotedQueue (s : State) (d : Sched) : Option Queue := s.firstStarved d (s.classOrder d) (·.promoted)

/-- One visit of a promoted queue ahead of every class (R262, R263). -/
def State.servePromoted (s : State) (d : Sched) : Option (Sched × Served) :=
  match s.promotedQueue d with
  | none => none
  | some q =>
    match q.items with
    | [] => none
    | i :: _ =>
      let ok := s.gateFits d q i.1 && (((s.bridle d q.cls q.paddock).map fun b => (b.at_ s.time).wait (itemBytes i.2 i.1)).getD 0) == 0
      if (i.2 : Int) ≤ q.deficit && ok && s.roomFor d q.paddock i.2 then
        let d := d.takeHead s.time q.cls q.paddock i.2
        let d := s.chargeBucket d (s.shareKey d q.paddock) (itemBytes i.2 i.1)
        let more := match q.items.drop 1 with | [] => false | j :: _ => (j.2 : Int) ≤ q.deficit - (i.2 : Int)
        let d := if more then d else d.modQueue q.cls q.paddock fun x => { x with promoted := false }
        let d := if (q.items.drop 1).isEmpty then d.settle q.cls q.paddock else d
        some (d, .item q i.1 i.2)
      else none

/-- The visit of a promoted queue is over when its head does not fit its deficit: the starvation clock restarts (R262). -/
def Sched.endSpent (d : Sched) (now : Nat) : Sched :=
  let over_ := fun (q : Queue) => q.promoted && (match q.items with | [] => true | i :: _ => decide (q.deficit < (i.2 : Int)))
  { d with queues := d.queues.map fun (q : Queue) => if over_ q then { q with promoted := false, since := now, counted := 0 } else q }

/-- One decision of a scheduler: its new state and what it releases. -/
def State.serve (s : State) (d : Sched) : Sched × Served :=
  let d := s.promote (d.endSpent s.time)
  match s.servePromoted d with
  | some r => r
  | none => s.serveClasses (s.classOrder d) d

/-- Every item of an admission scheduler at its cost of this moment (R253). -/
def State.recost (s : State) (d : Sched) : Sched :=
  let f := fun (x : Item × Nat) => (x.1, s.itemCost x.1 x.2)
  { d with queues := d.queues.map fun (q : Queue) => { q with items := q.items.map f } }

/-! ### Node-internal work (R247, R253)

Block closes, migration, lease dispatch, resync, frees and the zero-fill of Tier-2 are events of their engines. The first
event of a piece of work puts it into its queue, and the work goes on in an event that comes once the scheduler has released it:
in that same event when the next decision is for it (DESIGN CHOICE, log 9). -/

/-- Whether a piece of work waits in a queue. -/
def Sched.holdsWork (d : Sched) (cls paddock : Nat) (w : Work) : Bool :=
  (d.queue cls paddock).any fun q => q.items.any fun i => decide (i.1 = Item.work w)

/-- The turn of a piece of work of some bytes (R253: it costs what it moves, at least one work unit): whether it may go on. -/
def State.takeTurn (s : State) (slice cls paddock : Nat) (w : Work) (bytes : Nat) : State × Bool :=
  if s.sch.granted.contains w then ({ s with sch := { s.sch with granted := s.sch.granted.filter (· != w) } }, true)
  else
    let queued := (s.sched slice).any fun d => d.holdsWork cls paddock w
    let s := if queued then s else s.enqueue slice cls paddock (.work w) (max 1 (ceilDiv bytes 1024))
    match s.sched slice with
    | none => (s, true)
    | some d =>
      match s.serve (s.regate (s.recost d)) with
      | (d, .item q (.work x) cost) => if x == w then ((s.putSched d).chargeBridle d q (cost * 1024), true) else (s, false)
      | _ => (s, false)

/-- Work of a paddock that is gone leaves its queues (R299). -/
def State.dropWork (s : State) (p : Nat) : State :=
  let gone := fun (i : Item) => match i with | .work w => w.paddock == p | _ => false
  { s with sch := { s.sch with
    granted := s.sch.granted.filter (·.paddock != p), scheds := s.sch.scheds.map fun (d : Sched) => d.discard gone } }

end Sys2Proof.Machine
end

