-- ==== Sys2Proof/Machine/Clusters.lean ====
section
/-! DEFINITION. Clusters: what is resident on them and the placement of work units (R125, R126, R130, R134, R255,
R292), retirement, spares and the swap of R320–R324. -/

namespace Sys2Proof.Machine

/-! ### Units and their needs -/

/-- Step-area bytes of one row of a unit (R130). DESIGN CHOICE (log 121): Dq and D_out of a W_PROJ step are those of the
absorbed query and of the latent output, with which the cluster works, and not the weight set's own. -/
def StepWork.rowBytes (w : StepWork) (u : WorkUnit) : Nat := rowNeed w.recShape.kDim w.leafDim u.height

/-- Rows that each member of a unit's gang has resident at a time: one row group, or what is left for the last member
(R124, R125). Where the gang would be larger than the clusters at hand, a member has several row groups and runs them in
turn over each block that it is given, so that the block is still fetched once (R39; log 34). -/
def StepWork.memberRows (w : StepWork) (u : WorkUnit) (place : Nat) : Nat :=
  let g := rowGroup (w.rowBytes u)
  min g (u.rowCount - place * g)

/-- Whether a unit is resident. -/
def WorkUnit.resident (u : WorkUnit) : Bool := !u.clusters.isEmpty && !u.rooted

/-- The resident units of every step, with their operation. -/
def State.residents (s : State) : List (Op × StepWork × WorkUnit) :=
  (s.eng.ops.map fun o =>
    match o.step with
    | none => []
    | some w => (w.units.filter (·.resident)).map fun u => (o, w, u)).flatten

/-- What a logical cluster holds: row sets, step-area bytes, threads. -/
structure ClusterLoad where
  rowSets : Nat
  stepBytes : Nat
  threads : Nat
deriving DecidableEq, Repr

/-- The load of a logical cluster. -/
def State.clusterLoad (s : State) (c : Nat × Nat) : ClusterLoad :=
  s.residents.foldl (fun (l : ClusterLoad) (x : Op × StepWork × WorkUnit) =>
    match x.2.2.clusters.findIdx? (· == c) with
    | none => l
    | some i =>
      let rows := x.2.1.memberRows x.2.2 i
      ⟨l.rowSets + ceilDiv rows 8, l.stepBytes + rows * x.2.1.rowBytes x.2.2, l.threads + 1⟩) ⟨0, 0, 0⟩

/-- Logical clusters of a slice that have a physical cluster taking work units. -/
def State.usable (s : State) (c : SliceCfg) : List (Nat × Nat) :=
  c.clusters.filter fun x => s.eng.clusters.any fun k => k.die == x.1 && decide (k.use = .mapped x.2)

/-- The clusters of a slice that a paddock's units may use: its reserved ones, which follow each other on each die in
the order of the image; one without a reservation has the rest (R292; log 36). -/
def SliceCfg.allowed (c : SliceCfg) (paddock : Nat) (x : Nat × Nat) : Bool :=
  let ids := (c.clusters.filter (·.1 == x.1)).map (·.2)
  let at_ := (ids.findIdx? (· == x.2)).getD 0
  let before := sumNat ((c.reserved.takeWhile (·.1 != paddock)).map (·.2))
  match c.reserved.find? (·.1 == paddock) with
  | some r => before ≤ at_ && at_ < before + r.2
  | none => sumNat (c.reserved.map (·.2)) ≤ at_

/-- The place of a (die, logical cluster) in the order of logical IDs. DESIGN CHOICE (log 109): of two clusters with the same
ID in a slice that spans both dies, the one on die 0 is the lower. -/
def logicalRank (x : Nat × Nat) : Nat := x.2 * 2 + x.1

/-- Order of R126: more free row sets first, then the lower logical ID. -/
def insertCluster (x : (Nat × Nat) × Nat) : List ((Nat × Nat) × Nat) → List ((Nat × Nat) × Nat)
  | [] => [x]
  | y :: ys =>
    if x.2 > y.2 || (x.2 == y.2 && logicalRank x.1 < logicalRank y.1) then x :: y :: ys else y :: insertCluster x ys

/-- The clusters that a unit takes, in ascending logical ID, so that the first one fetches for the gang (R125); `none` while
it waits (R130, R134). DESIGN CHOICE (log 121): each member is asked the room of a full row group, the last one too. -/
def State.chooseClusters (s : State) (o : Op) (w : StepWork) (u : WorkUnit) : Option (List (Nat × Nat)) :=
  match s.sliceCfg o.slice with
  | none => none
  | some c =>
    let others := (w.units.filter fun x => x.run != u.run && x.head == u.head && x.first == u.first).map (·.clusters)
    let pool := (s.usable c).filter fun x => c.allowed o.req.paddock x && !others.flatten.contains x
    let size := min pool.length (max 1 (ceilDiv u.rowCount (rowGroup (w.rowBytes u))))
    let rows := w.memberRows u 0
    let open_ := pool.filter fun x =>
      let l := s.clusterLoad x
      l.threads < 16 && l.rowSets + ceilDiv rows 8 ≤ 16 && l.stepBytes + rows * w.rowBytes u ≤ 1572864
    if open_.length < size || pool.isEmpty then none
    else
      let ranked := (open_.map fun x => (x, 16 - (s.clusterLoad x).rowSets)).foldl (fun l x => insertCluster x l) []
      let taken := (ranked.take size).map (·.1)
      some (((List.range 128).map fun r => (r % 2, r / 2)).filter taken.contains)

/-- Store the clusters of a unit; they leave K1 and K2 for it (R371). -/
def State.putUnit (s : State) (op index : Nat) (cs : List (Nat × Nat)) : State :=
  let s := s.modOp op fun o => { o with step := o.step.map fun w =>
    { w with units := updateFirst (·.index == index) (fun u => { u with clusters := cs }) w.units } }
  let wake := fun (k : Cluster) =>
    if (match k.use with | .mapped l => cs.contains (k.die, l) | _ => false) then
      (match k.k with
       | .enteringK2 => { k with exitPending := true, idleAt := none }
       | _ => { k with k := .k0, idleAt := none })
    else k
  { s with eng := { s.eng with clusters := s.eng.clusters.map wake } }

/-- How the placement of a step's units ends: nothing waits, or a unit waits for clusters, or for a window that it fits. -/
inductive Placed where
  | all
  | full
  | gated
deriving DecidableEq, Repr

/-- Place the units of one step in order. -/
def State.placeUnits (op : Nat) : List Nat → State → State × Placed
  | [], s => (s, .all)
  | i :: is, s =>
    match s.op op with
    | none => (s, .all)
    | some o =>
      match o.step.bind fun w => (w.units.find? (·.index == i)).map fun u => (w, u) with
      | none => State.placeUnits op is s
      | some (w, u) =>
        if u.rooted || !u.clusters.isEmpty then State.placeUnits op is s
        else if !s.unitFits o w u then (s, .gated)
        else
          match s.chooseClusters o w u with
          | none => (s, .full)
          | some cs => State.placeUnits op is (s.putUnit op i cs)

/-- Place the units of admitted steps in admission order: a later step's never overtakes an earlier one's of its slice (R126,
R255), but for one of another queue while the earlier one waits for its window (R259). -/
def State.placeOps : List Nat → List Nat → List (Nat × Nat × Nat) → State → State
  | [], _, _, s => s
  | i :: is, full, gated, s =>
    match s.op i with
    | none => State.placeOps is full gated s
    | some o =>
      let key := (o.slice, o.cls, o.req.paddock)
      if full.contains o.slice || gated.contains key || !decide (o.phase = .admitted) then State.placeOps is full gated s
      else
        let r := State.placeUnits i ((o.step.map fun w => w.units.map (·.index)).getD []) s
        match r.2 with
        | .all => State.placeOps is full gated r.1
        | .full => State.placeOps is (o.slice :: full) gated r.1
        | .gated => State.placeOps is full (key :: gated) r.1

/-- Place whatever fits now. -/
def State.place (s : State) : State := State.placeOps (s.eng.ops.map (·.id)) [] [] s

/-- Whether any resident unit uses a logical cluster. -/
def State.inUse (s : State) (c : Nat × Nat) : Bool := s.residents.any fun x => x.2.2.clusters.contains c

/-- Clusters whose last resident unit has ended are idle from now on (R370). -/
def State.markIdle (s : State) : State :=
  let mark := fun (k : Cluster) =>
    let busy := match k.use with
      | .mapped l => s.inUse (k.die, l)
      | .draining l => s.inUse (k.die, l)
      | _ => false
    if busy then { k with idleAt := none } else { k with idleAt := some (k.idleAt.getD s.time) }
  { s with eng := { s.eng with clusters := s.eng.clusters.map mark } }

/-! ### A step's end by a fault -/

/-- Whether the records of an operation all wait for the ring still: its first record heads what waits of it. -/
def State.recordsWait (s : State) (o : Op) : Bool :=
  s.maps.streams.any fun x => x.waiting.any fun w => w.op == o.id && w.records.head? == (s.effectRecords o).head?

/-- The append that a broken step carries is written nowhere (R28, R47, R311): records that still wait are dropped. Once the
mirror may hold some, the commit runs to its end, and the sequence is built there anew (R313; log 35). -/
def State.dropAppend (s : State) (o : Op) : State :=
  if !decide (o.commit = .pending) then s
  else if s.recordsWait o then
    let drop := fun (x : Stream) => { x with waiting := x.waiting.filter fun w => w.op != o.id }
    ({ s with maps := { s.maps with streams := s.maps.streams.map drop } }).modOp o.id fun x =>
      { x with effect := .none, commit := .failed }
  else s.modOp o.id fun x => { x with effect := .none }

/-- Discard every work unit of a step, drop the append that it carries, and give it the status that its response will carry
(R119, R126, R311). -/
def State.breakStep (s : State) (op status : Nat) : State :=
  match s.op op with
  | none => s
  | some o =>
    if o.status == St.ok then
      (((s.dropHeld (HeldWork.readOf op)).dropAppend o).modOp op fun x =>
        { x with status := status, step := x.step.map fun w => { w with units := [], scoring := [] } }).markIdle
    else s

/-- Break every admitted step that a test selects. -/
def State.breakSteps (s : State) (p : Op → Bool) (status : Nat) : State :=
  let hit := s.eng.ops.filter fun o => o.step.isSome && decide (o.phase = .admitted) && p o
  hit.foldl (fun t o => t.breakStep o.id status) s

/-! ### Physical clusters -/

/-- Change a physical cluster. -/
def State.modCluster (s : State) (die phys : Nat) (f : Cluster → Cluster) : State :=
  { s with eng := { s.eng with clusters := updateFirst (fun k => k.die == die && k.phys == phys) f s.eng.clusters } }

/-- The physical cluster of a logical one. -/
def State.clusterOf (s : State) (die logical : Nat) : Option Cluster :=
  s.eng.clusters.find? fun k => k.die == die &&
    (match k.use with | .mapped l => l == logical | .draining l => l == logical | _ => false)

/-- A cluster cleared as R324 requires before and after a scan. -/
def Cluster.cleared (k : Cluster) : Cluster := { k with ktb := [], k := .k0, exitPending := false, lastUnit := none }

/-- Test the lowest spare of a die so that it can take a logical ID (R320). -/
def State.testSpare (s : State) (die logical : Nat) : State :=
  let free := fun (k : Cluster) =>
    k.die == die && (match k.use with | .spare _ => true | _ => false) && k.spareSince.isNone
  match s.eng.clusters.find? free with
  | none => s
  | some k => s.modCluster die k.phys fun x => { x.cleared with use := .testing, spareSince := some (logical, 0) }

/-- The lowest logical ID of a die that a retired cluster has left and that no cluster holds or is to take (R320). -/
def State.vacant (s : State) (die : Nat) : Option Nat :=
  let holds := fun (l : Nat) (k : Cluster) => k.die == die && (k.spareSince.any (·.1 == l) ||
    match k.use with | .mapped x => x == l | .draining x => x == l | .swapping x => x == l | _ => false)
  (List.range 64).find? fun l => !s.eng.clusters.any (holds l)

/-- Break the steps that have a work unit on a logical cluster (R126). -/
def State.breakOn (s : State) (die logical : Nat) (p : Op → Bool) : State :=
  s.breakSteps (fun o => p o && (o.step.map fun w => w.units.any fun u =>
    u.resident && u.clusters.contains (die, logical)).getD false) St.degradedRetry

/-- Retire a physical cluster (R320): its record persists, its logical ID stays unmapped until a spare takes it, and
steps with a unit on it end (R126). -/
def State.retireCluster (s : State) (die phys : Nat) : State :=
  match s.eng.clusters.find? fun k => k.die == die && k.phys == phys with
  | none => s
  | some k =>
    let gone := match k.use with | .retired => true | .disabled => true | .rerun _ => true | _ => false
    if gone then s
    else
      let logical := match k.use with
        | .mapped l => some l
        | .draining l => some l
        | .swapping l => some l
        | _ => k.spareSince.map (·.1)
      let s := s.modCluster die phys fun x => { x.cleared with use := .retired, spareSince := none }
      let s := { s with
        farrier := { s.farrier with clusters := s.farrier.clusters ++ [(die, phys)] }
        maps := { s.maps with fault := { s.maps.fault with retiredClusters := s.maps.fault.retiredClusters + 1 } } }
      let s := match k.use with
        | .mapped l => s.breakOn die l fun _ => true
        | .draining l => s.breakOn die l fun _ => true
        | _ => s
      match logical with
      | none => s
      | some l => s.testSpare die l

/-- A spare that passed its LBIST takes its logical ID, if no other cluster holds it (R320). -/
def State.takeIds (s : State) (p : Cluster → Bool) : State :=
  let ready := s.eng.clusters.filter fun k =>
    (match k.use with | .spare true => true | _ => false) && k.spareSince.isSome && p k
  let s := ready.foldl (fun t k =>
    match k.spareSince with
    | none => t
    | some x =>
      if (t.clusterOf k.die x.1).isSome then t.modCluster k.die k.phys fun y => { y with spareSince := none }
      else t.modCluster k.die k.phys fun y => { y.cleared with use := .mapped x.1, spareSince := none }) s
  if ready.isEmpty then s else s.place

/-- A draining cluster whose resident units have ended: a passed spare takes its ID, and it is tested; without a spare
its ID stays out of service for the test and comes back with it (R323). -/
def State.settleDrains (s : State) : State :=
  s.eng.clusters.foldl (fun t k =>
    match k.use with
    | .draining l =>
      if t.inUse (k.die, l) then t
      else
        let spare := t.eng.clusters.find? fun x => x.die == k.die && decide (x.use = .spare true) && x.spareSince.isNone
        match spare with
        | some x =>
          let t := t.modCluster k.die k.phys fun y => { y.cleared with use := .testing }
          t.modCluster x.die x.phys fun y => { y.cleared with use := .mapped l }
        | none => t.modCluster k.die k.phys fun y => { y.cleared with use := .swapping l }
    | _ => t) s

/-- After units have ended: drains settle, waiting units are placed, and clusters left without one begin to idle. -/
def State.afterUnits (s : State) : State := ((s.settleDrains).place).markIdle

end Sys2Proof.Machine
end

