-- ==== Sys2Proof/Machine/Windows.lean ====
section
/-! DEFINITION. The window table (R225–R227), the windows that O2 installs for partners (R302), and the state of a
window's lines (R231, R303). -/

namespace Sys2Proof.Machine

/-- Landing SRAM (R225). -/
def landingBase : Nat := 0xF10000000000

/-- The slice whose metadata region holds a Tier-1 window: the first of the paddock's, else the first. -/
def State.windowSlice (s : State) (paddock : Nat) : Option SliceCfg :=
  match s.img.slices.find? fun c => bit (s.pad paddock).config.sliceMask c.id with
  | some c => some c
  | none => s.img.slices.head?

/-- Chunks of a size that windows in a range take. -/
def State.windowChunks (s : State) (base size : Nat) : List Nat :=
  ((s.maps.windows.filter fun w => decide (w.state ≠ .free) && base ≤ w.base).map fun w =>
    (List.range (ceilDiv w.length size)).map fun i => (w.base - base) / size + i).flatten

/-- A free place for a paddock's window in a slice's metadata region, 2 MiB aligned (R225). -/
def State.windowPlaceIn (s : State) (c : SliceCfg) (paddock length : Nat) : Option (Nat × State) :=
  s.allocMeta c.id paddock length 2097152

/-- A free place for a window: in landing SRAM, whose first chunk is the fabric manager's (R346), or in the metadata
region of the paddock's slice. -/
def State.windowPlace (s : State) (paddock length : Nat) (landing : Bool) : Option (Nat × State) :=
  if landing then
    let (i, t) := s.choose Config.placement 512
    let busy := 0 :: s.windowChunks landingBase 65536
    (freshFrames (fun k => k) busy 512 (ceilDiv length 65536) 513 i).map fun k => (landingBase + k * 65536, t)
  else
    match s.windowSlice paddock with
    | none => none
    | some c => s.windowPlaceIn c paddock length

/-- A free window index; index 0 is the fabric manager's (R346). -/
def State.freeWindow (s : State) : Option Nat × State :=
  let used := 0 :: (s.maps.windows.filter fun w => decide (w.state ≠ .free)).map fun (w : Window) => w.index
  let (i, t) := s.choose Config.rowChoice 65536
  (((List.range (used.length + 1)).map fun k => (i + k) % 65536).find? fun k => !used.contains k, t)

/-- A kind-2 result (R236): W_GEN and the window index. -/
def windowResult (gen index : Nat) : Nat := gen % 2 ^ 32 * 65536 + index % 65536

/-- Whether the kind-2 entry of a window finds room in paddock 0's partition (R226, R238, R239). -/
def State.windowEntryFits (s : State) (srcNode srcPaddock : Nat) : Bool :=
  s.ledgerFits 0 (windowKeyBits srcPaddock srcNode) fullMask

/-- Store an active window at an index: W_GEN goes up, the kind-2 entry is made (R225, R226). -/
def State.openWindow (s : State) (index srcNode srcPaddock localPaddock : Nat) (rights : Nat) (base length : Nat)
    (key : Bytes) (use : WindowUse) : State :=
  let gen := (((s.maps.windows.find? (·.index == index)).map (·.gen)).getD 0 + 1) % 2 ^ 32
  let w : Window := {
    index := index, srcNode := srcNode, srcPaddock := srcPaddock, localPaddock := localPaddock,
    read := bit rights 0, write := bit rights 1, notice := bit rights 2, state := .active, gen := gen, base := base,
    length := length, key := key, use := use, control := [], appliedSeq := 0, refusedSeq := 0, refusedPaddock := 0,
    refuseReason := 0, refusedSequence := 0, parts := [], takeover := none }
  let s := { s with maps := { s.maps with windows := s.maps.windows.filter (fun (x : Window) => x.index != index) ++ [w] } }
  s.ledgerInsert (windowKeyBits srcPaddock srcNode) fullMask (windowResult gen index) [] false 0

/-- Install a window; `none` without room. -/
def State.installWindow (s : State) (srcNode srcPaddock localPaddock : Nat) (rights : Nat) (landing : Bool)
    (length : Nat) (key : Bytes) (use : WindowUse) : Option (Nat × State) :=
  if !s.windowEntryFits srcNode srcPaddock then none
  else
  match s.freeWindow with
  | (none, _) => none
  | (some i, s) =>
    (s.windowPlace localPaddock length landing).map fun p =>
      (i, p.2.openWindow i srcNode srcPaddock localPaddock rights p.1 length key use)

/-- Nodes that kind-0 entries of the current or staging slot, or of the node's own, name as PARTNER, with the paddocks
of those entries (R302). -/
def State.partners (s : State) : List (Nat × Nat) :=
  let live := s.maps.epochs.liveSlots
  (s.maps.ledger.filterMap fun e =>
    if keyKind e.key == 0 && (e.members.any live.contains || e.own) then
      match readMap e.result with
      | .here _ _ _ _ p _ => if p == 0 || p == s.boot.nodeId then none else some (p, e.key / 2 ^ 116)
      | _ => none
    else none).eraseDups

/-- Whether an active pair window for a node and paddock exists. -/
def State.hasPairWindow (s : State) (node paddock : Nat) : Bool :=
  s.maps.windows.any fun w => w.srcNode == node && w.localPaddock == paddock && decide (w.use = .pair) && decide (w.state = .active)

/-- Install the pair windows that are missing (R302). The key of an open pair window is open (log 41); a sealed one has
none until WINDOW_KEY (R278). -/
def State.pairWindows (s : State) : State :=
  s.partners.foldl (fun t x =>
    let sealed := t.sealedPad x.2
    let p := if sealed then x.2 else 0
    if t.hasPairWindow x.1 p then t
    else
      let r := if sealed then t.installWindow x.1 p p 3 true t.img.service.pairSealed [] .pair
        else t.installWindow x.1 0 0 3 false t.img.service.pairOpen (Config.pairKey t.boot.nodeId x.1) .pair
      match r with
      | none => t
      | some r => r.2) s

/-- The regions of a window that is freed are free again: every region lies inside a window (R229). -/
def State.dropRegions (s : State) (w : Window) : State :=
  let drop := fun (r : Region) => if w.base ≤ r.base && r.base < w.base + w.length then { r with active := false } else r
  { s with maps := { s.maps with regions := s.maps.regions.map drop } }

/-- A window is set to closing: its kind-2 entry goes, its connections enter ERROR (R226). -/
def State.closeWindow (s : State) (index : Nat) : State :=
  match s.window index with
  | none => s
  | some w =>
    let s := (s.dropParts w).modWindow index fun x => { x with state := .closing }
    let s := s.ledgerRemove fun e => keyKind e.key == 2 && e.result == windowResult w.gen index
    let qs := (s.net.qps.filter fun q => q.window == some (index, w.gen)).map (·.qpn)
    qs.foldl (fun t q => t.failConn q) s

/-- The window of an RLA connection while it is the one the connection was bound to. -/
def State.boundWindow (s : State) (q : Qp) : Option Window :=
  q.window.bind fun x => (s.window x.1).filter fun w => w.gen == x.2 && decide (w.state = .active)

/-! ### Lines -/

/-- The status line of a pair window (R303). -/
def Window.statusLine (w : Window) : Bytes :=
  toBe 8 w.appliedSeq ++ toBe 8 w.refusedSeq ++ toBe 2 w.refusedPaddock ++ toBe 1 w.refuseReason ++ zeros 1
    ++ toBe 8 w.refusedSequence ++ toBe 8 w.length ++ zeros 92

/-- What a line of a window reads as. -/
def State.windowLine (s : State) (w : Window) (i : Nat) : Bytes :=
  if (i + 1) * 128 == w.length then sub w.control 0 128
  else
    match w.use with
    | .fabricManager => if i == 0 then s.mapStatusLine else if i == 1 then s.faultLine else zeros 128
    | .pair => if i == 1 then w.statusLine else Memory.readBytes s.mem (w.base + i * 128) 128
    | _ => Memory.readBytes s.mem (w.base + i * 128) 128

/-- Whether the sender may write a line at all: the node's own lines and the control line are shut to LWRITE, the
commit line too (R231, R303, R317, R346). -/
def Window.lineOpen (w : Window) (i : Nat) (final : Bool) : Bool :=
  if (i + 1) * 128 == w.length then final && w.notice
  else
    match w.use with
    | .fabricManager => false
    | .pair => i != 1 && (final || i != 0)
    | _ => true

end Sys2Proof.Machine
end

