-- ==== Sys2Proof/Machine/Epochs.lean ====
section
/-! DEFINITION. Map epochs in service (R240–R245): staging, publication, the drain and what a publish does to mirrors
(R309, R313, R314) and spares (R320). -/

namespace Sys2Proof.Machine

/-- A map record of the publication area (R243). -/
structure MapRecord where
  paddock : Nat
  role : Nat
  prefixLen : Nat
  shardStart : Nat
  seq : Nat
  primary : Nat
  mirror : Nat
  below : Nat
deriving DecidableEq, Repr

/-- Read one 32-byte record. -/
def MapRecord.parse (b : Bytes) : MapRecord :=
  ⟨be b 0 2 % 4096, be b 2 1, be b 3 1, be b 4 4, be b 8 8 % 2 ^ 48, be b 16 2, be b 18 2, be b 20 2⟩

/-- Change the epoch state. -/
def State.modEpochs (s : State) (f : Epochs → Epochs) : State := { s with maps := { s.maps with epochs := f s.maps.epochs } }

/-- Take a slot out of every entry's membership; map entries left with none go (R243, R245). -/
def State.dropSlot (s : State) (slot : Nat) : State :=
  let out := fun (e : LedgerEntry) => { e with members := e.members.filter (· != slot) }
  let s := { s with maps := { s.maps with ledger := s.maps.ledger.map out } }
  s.ledgerRemove fun e => keyKind e.key == 0 && e.members.isEmpty

/-- A live descriptor of a sequence on the node (STATE 1). -/
def State.liveSeq (s : State) (paddock seq : Nat) : Option Seq := (s.findSeq paddock seq).filter fun q => decide (q.state = .live)

/-- A fault of a record (STAGE_RESULT 2). -/
def State.recordBad (s : State) (r : MapRecord) : Bool :=
  2 < r.role || 47 < r.prefixLen || r.shardStart % 64 != 0 || (r.prefixLen != 0 && r.shardStart != 0)
    || (r.prefixLen == 0 && r.role == 1 && (s.liveSeq r.paddock r.seq).isNone)

/-- Key, mask, result and Ledger partition of the entry that a record stages. -/
def State.recordEntry (s : State) (r : MapRecord) : Nat × Nat × Nat × Nat :=
  let key := mapKey r.paddock r.seq 0 0
  if r.prefixLen == 0 then
    match r.role, s.liveSeq r.paddock r.seq with
    | 1, some q => (key, exactMask, localResult false q.slice false q.desc r.mirror r.below, q.slice + 1)
    | 2, some q => (key, exactMask, localResult true q.slice false q.desc r.primary r.below, q.slice + 1)
    | 0, _ => (key, exactMask, remoteResult r.primary, s.sliceFor r.paddock r.seq + 1)
    | _, _ => (key, exactMask, localResult true 0 true 0 r.primary 0, s.sliceFor r.paddock r.seq + 1)
  else
    let m := placementMask r.prefixLen
    let k := Nat.land key m
    let p := s.sliceFor r.paddock r.seq + 1
    match r.role with
    | 1 => (k, m, localResult false 0 true 0 r.mirror 0, p)
    | 2 => (k, m, localResult true 0 true 0 r.primary 0, p)
    | _ => (k, m, remoteResult r.primary, p)

/-- The staging slot holds no other result for a key that a record names: one staged before it in the same area is changed
(R243). -/
def State.unstage (s : State) (slot key mask result : Nat) : State :=
  let other := fun (e : LedgerEntry) =>
    e.key == key && e.mask == mask && e.result != result && e.members.contains slot
  let s := { s with maps := { s.maps with
    ledger := s.maps.ledger.map fun e => if other e then { e with members := e.members.filter (· != slot) } else e } }
  s.ledgerRemove fun e => e.key == key && e.mask == mask && keyKind e.key == 0 && e.members.isEmpty

/-- Stage one record into a slot: an equal entry joins it, else a new one is inserted; `none` without a free row. -/
def State.stageRecord (s : State) (slot : Nat) (r : MapRecord) : Option State :=
  let x := s.recordEntry r
  let s := s.unstage slot x.1 x.2.1 x.2.2.1
  let same := fun (e : LedgerEntry) => e.key == x.1 && e.mask == x.2.1 && e.result == x.2.2.1 && !e.own && keyKind e.key == 0
  if s.maps.ledger.any same then
    let join := fun (e : LedgerEntry) => { e with members := if e.members.contains slot then e.members else e.members ++ [slot] }
    some { s with maps := { s.maps with ledger := updateFirst same join s.maps.ledger } }
  else if s.ledgerFits x.2.2.2 x.1 x.2.1 then some (s.ledgerInsert x.1 x.2.1 x.2.2.1 [slot] false x.2.2.2)
  else none

/-- Whether a record names an entry: its key and mask, or, for a refuse entry, the sequence that it belongs to (R236). -/
def LedgerEntry.namedBy (e : LedgerEntry) (named : List (Nat × Nat)) : Bool :=
  named.contains (e.key, e.mask)
    || (e.mask == refuseMask && named.any fun n => n.2 == exactMask && n.1 / 2 ^ 64 == e.key / 2 ^ 64)

/-- Carry over what no record names: every current entry, or with FULL those that the node inserted itself for a create or a
fork (R243). An entry of the node that an earlier map's record named is in the current slot no more, and stays out. -/
def State.carryOver (s : State) (slot : Nat) (cur : Option Nat) (full : Bool) (named : List (Nat × Nat)) : State :=
  let keep := fun (e : LedgerEntry) =>
    keyKind e.key == 0 && !e.namedBy named && (!full || e.own) && (cur.isNone || cur.any e.members.contains)
  let join := fun (e : LedgerEntry) =>
    if keep e && !e.members.contains slot then { e with members := e.members ++ [slot] } else e
  { s with maps := { s.maps with ledger := s.maps.ledger.map join } }

/-- A failed staging: nothing is staged, the cause stands in the map status line (R243). -/
def State.stageFail (s : State) (cause : Nat) : State :=
  let s := match s.maps.epochs.slotOf .staging with
    | none => s
    | some k => (s.dropSlot k).modEpochs fun e => e.setRole k .idle
  s.modEpochs fun e => { e with staged := 0, stageResult := cause, staging := none }

/-- The slot for a new staging: the staging one emptied, or an idle one. -/
def State.stagingSlot (s : State) : Option Nat × State :=
  match s.maps.epochs.slotOf .staging with
  | some k => (some k, s.dropSlot k)
  | none =>
    match s.maps.epochs.slotOf .idle with
    | none => (none, s)
    | some k => (some k, s.modEpochs fun e => e.setRole k .staging)

/-- Stage a publication area that was read whole (R243). -/
def State.stageArea (s : State) (area : Bytes) : State :=
  let base := be area 0 4
  let next := be area 4 4
  let n := be area 12 4
  let full := bit (be area 16 1) 0
  let rs := (chunks 32 ((area.drop 128).take (n * 32))).map MapRecord.parse
  if base != s.maps.epochs.current && !full then s.stageFail 3
  else if next == 0 || !newer next s.maps.epochs.current || rs.any s.recordBad then s.stageFail 2
  else
    match s.stagingSlot with
    | (none, s) => s.stageFail 1
    | (some k, s) =>
      match rs.foldlM (fun (t : State) r => t.stageRecord k r) s with
      | none => s.stageFail 1
      | some t =>
        let named := rs.map fun r => let x := s.recordEntry r; (x.1, x.2.1)
        let t := t.carryOver k (t.maps.epochs.slotOf .current) full named
        (t.modEpochs fun e => { e with staged := next, stageResult := 0, staging := none }).pairWindows

/-! ### Publication (R244) -/

/-- The current map's local answer for a sequence that the node holds: MIRROR and PARTNER. -/
def State.mapRole (s : State) (slot : Option Nat) (q : Seq) : Option (Bool × Nat) :=
  match s.mapSearch slot (mapKey q.paddock q.id 255 0xFFFFFF) with
  | .serve d mirror partner _ => if d == q.desc then some (mirror, partner) else none
  | _ => none

/-- What lies beyond APPLIED_SEQ in the window of a stopped node is discarded: parts that are held out of reach, commit lines
that wait to be applied, and lines on their way into the ring; what the ring holds without a commit line is read no more
(R314, R427). -/
def State.dropStopped (s : State) (w : Window) : State :=
  let s := s.dropParts w
  let on := fun (q : Qp) => q.window == some (w.index, w.gen)
  let waits := fun (f : FinalWrite) => !f.settled && be f.body 0 8 == 0
  let mine := fun (m : Msg) => (s.net.qps.any fun q => q.qpn == m.qpn && on q) && (m.opcode == 0x41 || m.opcode == 0x42)
  let cut := fun (q : Qp) =>
    if on q then
      let gone := ((q.rx.finals.filter waits).map (·.msn)) ++ ((s.net.inbox.filter fun m => m.qpn == q.qpn && mine m).map (·.msn))
      { q with rx := { q.rx with
          finals := q.rx.finals.filter fun f => !waits f
          used := q.rx.used.filter fun x => !gone.contains x.1
          outstanding := q.rx.outstanding.filter fun x => !gone.contains x.1
          prios := q.rx.prios.filter fun x => !gone.contains x.1 } }
    else q
  { s with net := { s.net with qps := s.net.qps.map cut, inbox := s.net.inbox.filter fun m => !mine m } }

/-- What a publish does to one held sequence: a promoted mirror clears MIRROR_COPY, drops what the stopped node left and
restarts its DEADLINE (R314); a new mirror, or one that was given up, is built anew (R309, R313; log 40). -/
def State.adoptRole (s : State) (old : Option Nat) (d : Nat) : State :=
  match s.seqAt d with
  | none => s
  | some q =>
    match s.mapRole (s.maps.epochs.slotOf .current) q with
    | none => s
    | some (true, _) => s.modSeq d fun x => { x with mirrorCopy := true, deadline := 0 }
    | some (false, partner) =>
      let s := if q.mirrorCopy then
          let was := (s.mapRole old q).map (·.2)
          let s := (s.maps.windows.filter fun w => some w.srcNode == was && decide (w.use = .pair)).foldl
            (fun t w => t.dropStopped w) s
          s.modSeq d fun x => { x with mirrorCopy := false, deadline := s.deadline x.ttl }
        else s
      let gone := s.maps.streams.any fun x => x.givenUp.contains (q.paddock, q.id)
      if partner == 0 || partner == s.boot.nodeId then s
      else if q.mirrorCopy || gone || s.mapRole old q != some (false, partner) then
        let s := s.regain q.paddock q.id
        s.startResync partner ((s.seqAt d).getD q)
      else s

/-- Publish the staged epoch: the role changes of R244, then what follows from the new map. -/
def State.publish (s : State) : State :=
  match s.maps.epochs.slotOf .staging with
  | none => s
  | some k =>
    let old := s.maps.epochs.slotOf .current
    let t := s.modEpochs fun e =>
      let e := match old with | none => e | some c => e.setRole c .previous
      let e := e.setRole k .current
      { e with previous := e.current, current := e.staged, staged := 0, heldPublish := none,
               drainEnd := some (s.time + s.img.service.drainTime),
               firstPublish := match e.firstPublish with | none => some s.time | some x => some x }
    let t := (t.store.seqs.map (·.desc)).foldl (fun u d => u.adoptRole old d) t
    let t := (t.settleLost.pairWindows).takeIds fun _ => true
    if t.boot.stage == 11 then t.setStage 12 else t

/-- Publish an epoch that is staged, or hold it while the role previous is taken (R244). -/
def State.publishOrHold (s : State) : State :=
  if (s.maps.epochs.slotOf .previous).isSome then s.modEpochs fun e => { e with heldPublish := some e.staged }
  else s.publish

/-! ### The drain (R245) -/

/-- Release the sequences whose exact entry in the current slot gives no local result any more. -/
def State.releaseUnmapped (s : State) : State :=
  (s.store.seqs.filter fun q => !q.state.leaving).foldl (fun t q =>
    match t.mapRole (t.maps.epochs.slotOf .current) q with
    | some _ => t
    | none => t.release q.desc) s

/-- The previous slot becomes clearing; a held publish follows. -/
def State.endDrain (s : State) : State :=
  match s.maps.epochs.slotOf .previous with
  | none => s
  | some k =>
    let s := s.modEpochs fun e => { e.setRole k .clearing with drainEnd := none, drainWaits := false, previous := 0 }
    let s := s.releaseUnmapped
    match s.maps.epochs.heldPublish with
    | none => s
    | some _ => s.publish

end Sys2Proof.Machine
end

