-- ==== Sys2Proof/Machine/PairRecv.lean ====
section
/-! DEFINITION. The pair stream as receiver (R303, R304, R307, R313, R315, R427): reading a commit out of the ring and
applying its records to the mirror's copy, or refusing the whole commit. -/

namespace Sys2Proof.Machine

/-- A pair record as received: header fields and payload lines. -/
structure PairRec where
  head : PairHead
  payload : Bytes
deriving DecidableEq, Repr

/-- Read one record header (R304). -/
def PairHead.parse (b : Bytes) : PairHead where
  type := be b 0 1
  paddock := be b 2 2 % 4096
  seq := be b 8 8 % 2 ^ 48
  position := be b 16 4
  count := be b 20 4
  layerFirst := be b 24 1
  layerCount := countOf (be b 25 1)
  kvHead := be b 26 1
  coding := be b 27 1
  block := be b 28 4
  aux := be b 32 8
  body := sub b 40 32
  parent := be b 72 8
  forkLength := be b 80 4

/-- Split the lines of a commit into records; `none` when they do not split. -/
def splitRecords : Nat → Bytes → Option (List PairRec)
  | 0, b => if b.isEmpty then some [] else none
  | fuel + 1, b =>
    if b.isEmpty then some []
    else
      let n := be b 4 4
      if n == 0 || b.length < n * 128 then none
      else (splitRecords fuel (b.drop (n * 128))).map fun rs =>
        ⟨PairHead.parse b, (b.take (n * 128)).drop 128⟩ :: rs

/-- The ring lines of a commit, in ring order. -/
def State.ringLines (s : State) (w : Window) (start finish : Nat) : Bytes :=
  let n := ringSize w.length
  let count := (finish + n - start) % n
  ((List.range count).map fun i => Memory.readBytes s.mem (w.base + (2 + (start + i) % n) * 128) 128).flatten

/-! ### Applying one record; the error is REFUSE_REASON -/

/-- The sequence that a record of a restoration needs: one that is lost takes it (R120, R315). -/
def State.heldSeq (s : State) (h : PairHead) : Except Nat Seq :=
  match s.findSeq h.paddock h.seq with
  | none => .error 2
  | some q => .ok q

/-- The sequence a record needs. -/
def State.recordSeq (s : State) (h : PairHead) : Except Nat Seq :=
  match s.findSeq h.paddock h.seq with
  | none => .error 2
  | some q => if decide (q.state = .lost) then .error 5 else .ok q

/-- A refusal of the store as a REFUSE_REASON: no space. -/
def noSpace {α : Type} : Except Refused α → Except Nat α
  | .ok a => .ok a
  | .error _ => .error 4

/-- O2's entry for a mirror's copy: a placement result staged for this one sequence becomes local, else an exact entry
is inserted (R242, R243). -/
def State.insertMirror (s : State) (d partner below : Nat) : State :=
  match s.seqAt d with
  | none => s
  | some q =>
    let staged := fun (e : LedgerEntry) => e.isExact q.paddock q.id &&
      (match readMap e.result with | .here _ _ true _ _ _ => true | _ => false)
    let turn := fun (e : LedgerEntry) =>
      if staged e then { e with result := localResult true q.slice false d partner below } else e
    let live := s.maps.ledger.any fun e => staged e && e.members.any s.maps.epochs.liveSlots.contains
    let s := { s with maps := { s.maps with ledger := s.maps.ledger.map turn } }
    if live then s else s.insertExact d true partner below

/-- CREATE (R304, R307, R313). -/
def State.recvCreate (s : State) (from_ : Nat) (h : PairHead) : Except Nat State :=
  let c := CreateBody.parse h.body
  let resync := bit h.aux 0
  match c.shape with
  | none => .error 3
  | some shape =>
    let held := s.findSeq h.paddock h.seq
    match held, resync with
    | some q, false =>
      if q.created == c.stored && q.committed == q.shape.shardStart then .ok s else .error 1
    | _, _ =>
      let s := match held with | none => s | some q => s.release q.desc
      match s.creationSlice h.paddock with
      | none => .error 4
      | some slice =>
        if !s.ledgerFits (slice + 1) (mapKey h.paddock h.seq 0 0) exactMask then .error 4
        else
          match s.createSeq slice h.paddock h.seq c.modelId shape c.stored c.ttl c.weightSet true with
          | .error _ => .error 4
          | .ok (d, t) =>
            match s.fits t h.paddock with
            | .error _ => .error 4
            | .ok t =>
              let fork := if bit h.parent 63 then
                  some (⟨h.parent % 2 ^ 48, h.forkLength, 0,
                    saturate 32 ((h.forkLength - shape.shardStart) * shape.layers * shape.kvHeads)⟩ : Fork)
                else none
              let t := t.modSeq d fun q => { q with forked := fork }
              .ok ((t.insertMirror d from_ 0).reuseId h.paddock h.seq)

/-- FORK. -/
def State.recvFork (s : State) (from_ : Nat) (h : PairHead) : Except Nat State := do
  let q ← s.recordSeq h
  let f := ForkBody.parse h.body
  let child := h.aux % 2 ^ 48
  match s.findSeq h.paddock child with
  | some c =>
    if c.forked.any (fun k => k.parent == q.id && k.length == h.position) && c.committed == h.position then .ok s
    else .error 1
  | none =>
    if q.committed < h.position || h.position < q.shape.shardStart then .error 1
    else if (s.forkReads q h.position).any fun e => s.entryLost q e || !s.entryOk q e then .error 5
    else if !s.ledgerFits (q.slice + 1) (mapKey h.paddock child 0 0) exactMask then .error 4
    else
      let r ← noSpace (s.applyFork q child h.position (f.childMax q.shape) f.ttl true)
      let t ← noSpace (s.fits r.2 h.paddock)
      let below := match s.mapSearch (s.maps.epochs.slotOf .current) (mapKey h.paddock h.seq 255 0xFFFFFF) with
        | .serve _ _ _ b => b
        | _ => 0
      .ok ((t.insertExact r.1 true from_ below).reuseId h.paddock child)

/-- TRUNCATE. -/
def State.recvTruncate (s : State) (h : PairHead) : Except Nat State := do
  let q ← s.recordSeq h
  if h.position < q.shape.shardStart || q.committed < h.position then .error 1
  else if (q.cutReads h.position).any fun e => s.entryLost q e || !s.entryOk q e then .error 5
  else
    let t ← noSpace (s.applyTruncate q.desc h.position)
    noSpace (t.counterFits h.paddock)

/-- APPEND (R46 on the receiver's own committed lengths). A node counts the tokens it commits as mirror (R296). -/
def State.recvAppend (s : State) (r : PairRec) : Except Nat State := do
  let h := r.head
  let q ← s.recordSeq h
  let n := q.shape.recShape.bytes
  let perLayer := h.count * q.shape.kvHeads
  if h.count == 0 || q.shape.layers < h.layerFirst + h.layerCount || r.payload.length < h.layerCount * perLayer * n then .error 3
  else if q.shape.maxLength < h.position + h.count || h.position < q.shape.shardStart then .error 1
  else
    let recs := (chunks n (r.payload.take (h.layerCount * perLayer * n)))
    let layers := (List.range h.layerCount).map fun i => (h.layerFirst + i, (recs.drop (i * perLayer)).take perLayer)
    let os := layers.map fun l => (l, s.layerOutcome q h.position h.count l.1 l.2)
    if os.any fun o => (match o.2 with | .conflict .. => true | _ => false) then .error 1
    else if os.any fun o => (match o.2 with | .retry _ _ => true | _ => false) then .error 5
    else
      let new := (os.filter fun o => decide (o.2 = .write)).map (·.1)
      if new.isEmpty then .ok s
      else
        let t ← noSpace (s.applyAppend q.desc h.position h.count new)
        let t ← noSpace (s.fits t h.paddock)
        .ok (t.tally h.paddock 7 (h.count * new.length))

/-- A closed block of which nothing is held yet: its entry, with TIER 3 and no units (R95), is marked LOST until its BLOCK
record comes (R313). -/
def State.lostBlock (s : State) (q : Seq) (layer head block : Nat) : Except Nat State :=
  match s.backPage q.desc (q.shape.pageOf layer head block) with
  | none => .error 4
  | some s =>
    let n := s.store.nextBlock
    let b : Block := ⟨n, q.paddock, q.slice, ⟨.absent, 0, 0, 0, q.granShift⟩, 0, 0, [], [], 0, [], [], false, true, 1, layer,
      head, block⟩
    let s := { s with store := { s.store with blocks := s.store.blocks ++ [b], nextBlock := n + 1 } }
    .ok (s.modSeq q.desc fun x => x.setEntry ⟨layer, head, block, .closed n, 0, false, x.shape.pin⟩)

/-- The rows of a resync's TAIL record: closed blocks below it are marked lost, the rest is written (R313). -/
def State.fillRow (s : State) (q : Seq) (layer head pos : Nat) (recs : List Bytes) : Except Nat State := do
  let first := q.shape.shardStart / 64
  let s := if pos / 64 == first then s
    else
      let t := s.modSeq q.desc fun x => x.dropEntry layer head first
      match q.entry layer head first with
      | some ⟨_, _, _, .tail x, _, _, _⟩ => t.freePlace q.paddock x.place
      | _ => t
  let s ← (List.range (pos / 64 - first)).foldlM (fun t i => t.lostBlock q layer head (first + i)) s
  let s ← noSpace (s.appendRow true q.desc layer head (recs.length + 1) pos recs)
  match (s.seqAt q.desc).bind fun x => x.entry layer head ((pos + recs.length) / 64) with
  | some _ => .ok s
  | none =>
    if q.shape.maxLength ≤ pos + recs.length then .ok s
    else noSpace (s.newTail q.desc layer head ((pos + recs.length) / 64))

/-- A lost closed block takes stored bytes anew: placed in Tier-1 (R158), checked or sealed, and no longer LOST for any sequence
that shares it (R120, R313). -/
def State.refill (s : State) (q : Seq) (b : Block) (coding : Nat) (stored : Bytes) (summary : Option Bytes) :
    Except Nat State := do
  let units := ceilDiv stored.length (512 * 2 ^ q.granShift)
  match s.allocT1 q.slice q.paddock q.granShift (units + q.summaryUnits) with
  | none => .error 4
  | some (p, t) =>
    let (v, t) := t.version q.paddock q.sealed
    let t := t.modBlock b.num fun x => { x with
      place := { p with units := units }, summaryUnits := q.summaryUnits, coding := coding, stored := stored,
      cipher := t.blockCipher q.paddock q.sealed v stored, version := v, lost := false, hasSummary := summary.isSome,
      check := t.blockCheck q.paddock q.sealed v b.layer b.head b.index coding units stored,
      summary := if q.sealed then [] else summary.getD (zeros (2 * q.shape.recShape.kDim + 4)) }
    let t := if b.whole.units == 0 then t else t.freePlace b.paddock b.whole
    let t ← noSpace (s.fits t q.paddock)
    .ok ((t.resealNamers b.num).endNamerRefusals b.num)

/-- One entry of a row restored from the records that a TAIL record carries from a position on (R315): a lost tail takes
those that fall into it, and is lost no more once its last token has come; a lost closed block takes a whole block. -/
def State.restoreEntry (s : State) (d layer head pos : Nat) (recs : List Bytes) (block : Nat) : Except Nat State :=
  match (s.seqAt d).bind fun q => (q.entry layer head block).map fun e => (q, e) with
  | none => .ok s
  | some (q, e) =>
    let cl := q.len layer
    match e.slot with
    | .tail t =>
      let first := max pos (64 * block)
      let now := (recs.drop (first - pos)).take (64 * (block + 1) - first)
      let merged := sub t.recs.flatten 0 ((first - 64 * block) * q.shape.recShape.bytes)
      let rest := t.recs.drop (first - 64 * block + now.length)
      let u := s.tailWith q layer head block cl t (chunks q.shape.recShape.bytes merged ++ now ++ rest)
      if t.lost && !now.isEmpty then
        .ok (s.modSeq d fun x => x.setEntry { e with slot := .tail { u with
          lost := decide (pos + recs.length < min cl (64 * (block + 1))) } })
      else .ok s
    | .closed n =>
      match s.block n with
      | none => .ok s
      | some b =>
        if b.lost && pos ≤ 64 * block && 64 * (block + 1) ≤ pos + recs.length then
          let form := storedForm q.shape.recShape (512 * 2 ^ q.granShift) ((recs.drop (64 * block - pos)).take 64)
          s.refill q b form.1 form.2 none
        else .ok s

/-- Lost tails and lost closed blocks of a row restored from a TAIL record (R315). -/
def State.restoreRow (s : State) (d layer head pos : Nat) (recs : List Bytes) : Except Nat State :=
  (List.range (ceilDiv (pos + recs.length) 64 - pos / 64)).foldlM
    (fun t i => t.restoreEntry d layer head pos recs (pos / 64 + i)) s

/-- TAIL (R304, R313, R315): tokens up to C_L restore what is lost; a mirror's copy that holds nothing of the layer yet is
filled, and a part that follows on its C_L goes on with that (R427). -/
def State.recvTail (s : State) (r : PairRec) : Except Nat State := do
  let h := r.head
  let q ← s.heldSeq h
  let n := q.shape.recShape.bytes
  let cl := h.position + h.count
  if q.shape.layers ≤ h.layerFirst || r.payload.length < h.count * q.shape.kvHeads * n then .error 3
  else
    let recs := chunks n (r.payload.take (h.count * q.shape.kvHeads * n))
    let heads := List.range q.shape.kvHeads
    let row := fun (k : Nat) => rowRecs q.shape.kvHeads k recs
    if cl ≤ q.len h.layerFirst && cl != q.shape.shardStart then
      let t ← heads.foldlM (fun t k => t.restoreRow q.desc h.layerFirst k h.position (row k)) s
      let t ← noSpace (((t.resealTailTable q.desc).reseal q.desc).counterFits h.paddock)
      .ok (t.endRefusals q.desc)
    else if q.len h.layerFirst == q.shape.shardStart && q.mirrorCopy then
      let t ← heads.foldlM (fun t k => t.fillRow q h.layerFirst k h.position (row k)) s
      let t := t.modSeq q.desc fun x => { x with lens := updateAt h.layerFirst (fun _ => cl) x.lens }
      let t ← noSpace (s.fits t h.paddock)
      noSpace ((((t.resealTails q.desc [h.layerFirst]).resealTailTable q.desc).reseal q.desc).counterFits h.paddock)
    else if q.len h.layerFirst == h.position && q.mirrorCopy then
      let t ← noSpace (s.applyAppend q.desc h.position h.count [(h.layerFirst, recs)])
      noSpace (s.fits t h.paddock)
    else .error 1

/-- BLOCK: a lost closed block, or a lost tail that the sender has closed, takes the stored bytes (R313, R315). -/
def State.recvBlock (s : State) (r : PairRec) : Except Nat State := do
  let h := r.head
  let q ← s.heldSeq h
  let stored := sub r.payload 0 h.count
  let shape := q.shape.recShape
  match if h.coding == 2 || h.coding == 3 then blockRecords shape h.coding stored else none with
  | none => .error 3
  | some recs =>
    match q.entry h.layerFirst h.kvHead h.block with
    | none => .ok s
    | some e =>
      match e.slot with
      | .tail t =>
        if t.lost && recs.length == 64 then
          let u ← noSpace (s.writeClosed false q.desc h.layerFirst h.kvHead h.block recs)
          let u := (u.freePlace q.paddock t.place).reseal q.desc
          let u ← noSpace (s.fits u h.paddock)
          .ok ((u.registerPrefix q.desc h.block).endRefusals q.desc)
        else .ok s
      | .closed n =>
        match s.block n with
        | none => .ok s
        | some b =>
          if !b.lost then .ok s
          else
            let summ := q.summaryUnits != 0 && bit h.aux 0
            s.refill q b h.coding stored (if summ then some (sub (r.payload.drop h.count) 0 (2 * shape.kDim + 4)) else none)

/-- The (layer, KV head, block) triples that a RESTORE_REQ or LOST_NOTICE names. -/
def PairHead.range (h : PairHead) (q : Seq) : List (Nat × Nat × Nat) :=
  let heads := if h.kvHead == 255 then List.range q.shape.kvHeads else [h.kvHead]
  ((List.range h.layerCount).map fun i => (heads.map fun k =>
    (List.range h.count).map fun j => (h.layerFirst + i, k, h.block + j)).flatten).flatten

/-- The answer to a RESTORE_REQ: BLOCK or TAIL records, or LOST_NOTICEs (R315), of what is verified first (R105). -/
def State.answerRestore (s : State) (from_ : Nat) (h : PairHead) : State :=
  match s.findSeq h.paddock h.seq with
  | none => s
  | some q =>
    let s := s.verify q.desc (h.range q)
    let q := (s.seqAt q.desc).getD q
    let tails := ((h.range q).filter fun x =>
      match q.entry x.1 x.2.1 x.2.2 with
      | some e => (match e.slot with | .tail _ => true | .closed _ => false) && !s.entryLost q e
      | none => false).map (·.1)
    let blocks := (h.range q).filterMap fun x =>
      match q.entry x.1 x.2.1 x.2.2 with
      | some ⟨_, _, _, .tail t, _, _, _⟩ => if t.lost then some (lostNotice q.paddock q.id x.1 x.2.1 x.2.2) else none
      | _ => some (s.blockRecord q x.1 x.2.1 x.2.2)
    s.queueCommit from_ h.paddock 0 (blocks ++ (tails.eraseDups.map (s.tailRecords q)).flatten)

/-- LOST_NOTICE: the object stays lost on both holders and is counted (R315, R317). -/
def State.noticeLost (s : State) (h : PairHead) : State :=
  match s.findSeq h.paddock h.seq with
  | none => s
  | some q =>
    let mine := (h.range q).filter fun x => (q.entry x.1 x.2.1 x.2.2).isSome
    let s := mine.foldl (fun t x =>
      match q.entry x.1 x.2.1 x.2.2 with
      | some ⟨l, k, b, .tail y, heat, sh, pn⟩ =>
        t.modSeq q.desc fun z => z.setEntry ⟨l, k, b, .tail { y with lost := true }, heat, sh, pn⟩
      | some ⟨_, _, _, .closed n, _, _, _⟩ => (t.modBlock n fun y => { y with lost := true }).resealNamers n
      | none => t) s
    let s := (s.reseal q.desc).ledgerRemove fun e => e.isRefusal q.paddock q.id &&
      mine.any fun x => x.1 == bits e.key 63 56 && x.2.2 == bits e.key 55 32
    s.modFault fun f => { f with doubleLost := f.doubleLost + mine.length }

/-- Apply one record. -/
def State.recvRecord (s : State) (from_ : Nat) (r : PairRec) : Except Nat State :=
  let h := r.head
  match h.type with
  | 1 => s.recvCreate from_ h
  | 2 => s.recvFork from_ h
  | 3 => s.recvTruncate h
  | 4 => .ok (match s.findSeq h.paddock h.seq with | none => s | some q => s.release q.desc)
  | 5 => s.recvAppend r
  | 6 =>
    (match s.recordSeq h with
     | .error e => .error e
     | .ok q => noSpace ((s.recordHashes q.desc h.block ((chunks 8 (r.payload.take (8 * h.count))).map beNat)).counterFits
         h.paddock))
  | 7 => s.recvBlock r
  | 8 => s.recvTail r
  | 9 =>
    .ok (match s.findSeq h.paddock h.seq with
      | none => s
      | some q => if q.ttl == 0 then s else s.modSeq q.desc fun x => { x with deadline := max x.deadline h.aux })
  | 10 => .ok (s.answerRestore from_ h)
  | 11 => .ok (s.noticeLost h)
  | _ => .error 3

/-! ### The commit (R303, R307, R427) -/

/-- Whether a window carries a record's paddock (R302). -/
def State.carries (s : State) (w : Window) (paddock : Nat) : Bool :=
  if w.localPaddock == 0 then !s.sealedPad paddock else paddock == w.localPaddock

/-- Records in ring order; the error is REFUSE_REASON and the sequence and paddock of the failing record. -/
def State.recvAll (w : Window) : List PairRec → State → Except (Nat × Nat × Nat) State
  | [], s => .ok s
  | r :: rs, s =>
    if !s.carries w r.head.paddock then .error (3, r.head.paddock, r.head.seq)
    else
      match s.recvRecord w.srcNode r with
      | .error e => .error (e, r.head.paddock, r.head.seq)
      | .ok t => State.recvAll w rs t

/-- The commit line of a FINAL write to line 0. -/
structure CommitLine where
  seq : Nat
  start : Nat
  finish : Nat
  records : Nat
  continued : Bool
  check : Nat
deriving DecidableEq, Repr

/-- Read a commit line. -/
def CommitLine.parse (b : Bytes) : CommitLine := ⟨be b 0 8, be b 8 4, be b 12 4, be b 16 2, bit (be b 18 1) 0, be b 20 4⟩

/-- Whether a record can follow another one as the next of the same operation: the same sequence, and the order in which the
sender divides (R313, R315, R427): an append or a tail goes on by token range and then by layer range, hashes by block. -/
def PairHead.follows (b a first : PairHead) : Bool :=
  let onward := b.layerFirst == a.layerFirst && b.position == a.position + a.count
  a.paddock == b.paddock && a.seq == b.seq &&
    match a.type, b.type with
    | 5, 5 => onward || (a.layerFirst + a.layerCount ≤ b.layerFirst && b.position == first.position)
    | 8, 8 => onward || a.layerFirst < b.layerFirst || a.kvHead != b.kvHead
    | 11, 8 => true
    | 1, 8 => true
    | 7, 8 => true
    | 5, 6 => true
    | 6, 6 => a.block < b.block
    | 1, 6 => true
    | 8, 6 => true
    | 11, 6 => true
    | 7, 7 => true
    | 7, 11 => true
    | 8, 11 => true
    | 11, 7 => true
    | 11, 11 => true
    | _, _ => false

/-- Whether a commit is the next part of the operation whose parts are held out of reach (R427). The commit line does not name
the operation: its records tell. DESIGN CHOICE (log 123). -/
def samePart (parts new : List PairRec) : Bool :=
  match parts.head?, parts.getLast?, new.head? with
  | some f, some a, some b => b.head.follows a.head f.head
  | _, _, _ => true

/-- Decide a commit: the records to hold or to apply; the error names REFUSE_REASON, paddock and sequence. -/
def State.readCommit (s : State) (w : Window) (line : Bytes) : Except (Nat × Nat × Nat) (List PairRec) :=
  let c := CommitLine.parse line
  let n := ringSize w.length
  if c.start == c.finish || n ≤ c.start || n ≤ c.finish || c.records == 0 || 4096 < c.records then .error (3, 0, 0)
  else if c.seq != w.appliedSeq + 1 then .error (5, 0, 0)
  else
    let data := s.ringLines w c.start c.finish
    if (crc32c data).toNat != c.check then .error (3, 0, 0)
    else
      match splitRecords (data.length / 128) data with
      | none => .error (3, 0, 0)
      | some rs => if rs.length == c.records then .ok rs else .error (3, 0, 0)

/-- Records of the parts that a window holds. -/
def Window.heldRecords (w : Window) : List PairRec := (w.parts.map fun b => (splitRecords (b.length / 128) b).getD []).flatten

/-- Units that a commit takes: those that are allocated once it is applied and were not before. -/
def newUnits (s t : State) : List (Place × Nat) := t.store.places.filter fun p => !s.store.places.contains p

/-- The state in which a commit is judged, and the records that it makes visible with its own: those of the parts that it goes
on with, whose units it takes over; other parts are discarded, their units zero-filled (R427). -/
def State.withParts (s : State) (w : Window) (rs : List PairRec) : State × List PairRec :=
  if samePart w.heldRecords rs then
    ({ s with store := { s.store with parts := s.store.parts.filter (·.1 != w.index) } }, w.heldRecords)
  else (s.dropParts w, [])

/-- Apply a commit line in full, or say why it is refused. A CONTINUED commit is written to new units out of reach of every
read (R427). -/
def State.recvCommit (s : State) (w : Window) (line : Bytes) : Except (Nat × Nat × Nat) State :=
  match s.readCommit w line with
  | .error e => .error e
  | .ok rs =>
    let c := CommitLine.parse line
    let (s, held) := s.withParts w rs
    match State.recvAll w (held ++ rs) s with
    | .error e => .error e
    | .ok t =>
      if c.continued then
        let s := s.modWindow w.index fun x => { x with
          appliedSeq := c.seq, parts := (if held.isEmpty then [] else x.parts) ++ [s.ringLines w c.start c.finish] }
        .ok { s with store := { s.store with parts := s.store.parts ++ (newUnits s t).map fun p => (w.index, p) } }
      else .ok (t.modWindow w.index fun x => { x with appliedSeq := c.seq, parts := [] })

/-- The pseudo-channels that a commit with appends writes to, applied to a state (R167). -/
def State.commitChannels (s : State) (w : Window) (line : Bytes) (t : State) : List (Nat × Nat) :=
  match s.readCommit w line with
  | .ok rs => if rs.any fun r => r.head.type == 5 then s.writtenChannels t else []
  | .error _ => []

/-- What a refused record found that failed its check (R119): entries by descriptor, layer, KV head and block. -/
def State.readFailures (s : State) (r : PairRec) : List (Nat × Nat × Nat × Nat) :=
  let h := r.head
  match s.findSeq h.paddock h.seq with
  | none => []
  | some q =>
    let bad := fun (es : List Entry) => (es.filter fun e => !s.entryLost q e && !s.entryOk q e).map fun e =>
      (q.desc, e.layer, e.head, e.block)
    match h.type with
    | 2 => bad (s.forkReads q h.position)
    | 3 => bad (q.cutReads h.position)
    | 5 =>
      let first := h.position / 64
      bad (q.entries.filter fun e => h.layerFirst ≤ e.layer && e.layer < h.layerFirst + h.layerCount
        && first ≤ e.block && 64 * e.block < h.position + max 1 h.count)
    | _ => []

/-- The failures that the record at which a commit is refused found. -/
def State.commitFailures (w : Window) : List PairRec → State → List (Nat × Nat × Nat × Nat)
  | [], _ => []
  | r :: rs, s =>
    if !s.carries w r.head.paddock then []
    else
      match s.recvRecord w.srcNode r with
      | .error _ => s.readFailures r
      | .ok t => State.commitFailures w rs t

/-- A commit is refused (R307): nothing of it is written, the parts before it are discarded (R427), and what failed its check
is marked lost (R119). -/
def State.refuseCommit (s : State) (w : Window) (line : Bytes) (reason paddock seq : Nat) : State :=
  let bad := match s.readCommit w line with
    | .error _ => []
    | .ok rs => State.commitFailures w ((s.withParts w rs).2 ++ rs) (s.withParts w rs).1
  let s := (s.dropParts w).modWindow w.index fun x => { x with
    refusedSeq := be line 0 8, refusedPaddock := paddock, refuseReason := reason, refusedSequence := seq }
  bad.foldl (fun t x => t.verify x.1 [x.2]) s

end Sys2Proof.Machine
end

