-- ==== Sys2Proof/Machine/PairAck.lean ====
section
/-! DEFINITION. The pair stream as sender, second part: what an acknowledged commit completes (R305 step 5), what a
status line read after a reconnection decides (R309 steps 2–5), and a partner given up. -/

namespace Sys2Proof.Machine

/-- The pseudo-channels that an append writes to (R101, R146, R167). -/
def State.writeChannels (s : State) (o : Op) : List (Nat × Nat) :=
  match o.effect with
  | .append .. => (match s.applyEffect o with | .ok t => s.writtenChannels t | .error _ => [])
  | _ => []

/-- Complete the operation of a commit: its effect is applied, a response other than a STEP's is released. A step that broke
meanwhile writes nothing; its mirror, which holds the append, is built anew (R311, R313; log 35). -/
def State.settleNow (s : State) (o : Op) : State :=
  match s.applyEffect o with
  | .ok t =>
    let t := t.modOp o.id fun x => { x with commit := .done }
    if o.req.opcode == 1 then
      (if o.status == St.ok then t
       else match t.effectSeq o with | none => t | some q => t.startResync o.partner q)
    else
      match o.status with
      | 0 => t.finishOther s { o with commit := .done }
      | st => t.failOp o st o.detail o.hint
  | .error _ =>
    let t := s.modOp o.id fun x => { x with commit := .done, status := St.degradedRetry }
    let t := match t.effectSeq o with | none => t | some q => t.startResync o.partner q
    if o.req.opcode == 1 then t.breakStep o.id St.degradedRetry else t.failOp o St.degradedRetry 0 0

/-- Complete the operation of a commit, or hold its writes while a lease has a pseudo-channel that they need (R167). -/
def State.settleOp (s : State) (o : Op) : State :=
  let cs := s.writeChannels o
  if s.mustHold cs then s.hold (.write o.id) cs else s.settleNow o

/-- The sequence whose resync some records start: the first is a CREATE with RESYNC (R313). -/
def resyncOf (records : List Bytes) : Option (Nat × Nat) :=
  match records.head? with
  | none => none
  | some r =>
    let h := PairHead.parse r
    if h.type == 1 && bit h.aux 0 then some (h.paddock, h.seq) else none

/-- The sequence whose resync a commit starts. -/
def Commit.resyncOf (c : Commit) : Option (Nat × Nat) := Machine.resyncOf c.records

/-- The sequence whose step 1 of R313 an acknowledged commit completes: its first record names it, no part of step 1
follows, and none of a resync of it begun anew is still under way (R427). -/
def State.resyncDone (s : State) (stream : Nat) (c : Commit) : Option (Nat × Nat) :=
  match c.records.head?, s.stream stream with
  | some r, some x =>
    let h := PairHead.parse r
    let k := (h.paddock, h.seq)
    let again := (x.unacked.any fun d => d.resyncOf == some k) || x.waiting.any fun w => Machine.resyncOf w.records == some k
    if c.continued || again then none else some k
  | _, _ => none

/-- Whether BLOCK records of a sequence are on their way. -/
def Stream.sends (x : Stream) (k : Nat × Nat) : Bool :=
  ((x.unacked.map (·.records)) ++ x.waiting.map (·.records)).any fun rs => rs.any fun r =>
    let h := PairHead.parse r
    h.type == 7 && h.paddock == k.1 && h.seq == k.2

/-- A commit is acknowledged (R305 step 5, R313 step 2, R427). -/
def State.commitDone (s : State) (stream : Nat) (c : Commit) : State :=
  let s := (s.modStream stream fun x => { x with unacked := x.unacked.filter (·.seq != c.seq) }).stir
  let s := s.modStream stream fun x => { x with sending := x.sending.filter x.sends }
  let s := match s.resyncDone stream c with
    | none => s
    | some k => s.modStream stream fun x => { x with resyncing := x.resyncing.filter (· != k) }
  match s.op c.op with
  | none => s
  | some o =>
    let s := s.modOp o.id fun x => { x with parts := x.parts - 1 }
    if c.continued then s else s.settleOp o

/-- Every commit of a stream up to a COMMIT_SEQ, oldest first. -/
def State.commitsDone (s : State) (stream upTo : Nat) : State :=
  match s.stream stream with
  | none => s
  | some x => (x.unacked.filter (·.seq ≤ upTo)).foldl (fun t c => t.commitDone stream c) s

/-- Answer an operation whose commit failed with DEGRADED_RETRY; nothing of it is written (R309). A STEP answers when its
partials are ready. -/
def State.failCommit (s : State) (op hint : Nat) : State :=
  match s.op op with
  | none => s
  | some o =>
    if o.req.opcode == 1 then
      (s.modOp op fun x => { x with commit := .failed, hint := hint }).breakStep op St.degradedRetry
    else s.failOp { o with commit := .failed } St.degradedRetry 0 hint

/-- The commit that the mirror refused (R309 step 4): its operation answers DEGRADED_RETRY, the sequence resyncs. -/
def State.refusedCommit (s : State) (stream : Nat) (c : Commit) (paddock seq : Nat) : State :=
  match s.stream stream with
  | none => s
  | some x =>
    let s := s.modStream stream fun y => { y with
      unacked := y.unacked.filter (fun d => d.seq != c.seq && (c.op == 0 || d.op != c.op))
      waiting := y.waiting.filter fun w => c.op == 0 || w.op != c.op }
    let s := s.failCommit c.op 0
    match s.findSeq paddock seq with
    | none => s
    | some q => s.startResync x.partner q

/-- Records of unacknowledged commits as they wait again: parts of one operation together. -/
def waitAgain : List Commit → List WaitingRecords
  | [] => []
  | c :: cs =>
    match waitAgain cs with
    | w :: ws => if c.op != 0 && w.op == c.op then ⟨c.op, c.records ++ w.records⟩ :: ws else ⟨c.op, c.records⟩ :: w :: ws
    | [] => [⟨c.op, c.records⟩]

/-- The status line of a partner's window has been read (R303, R309 steps 2–5). -/
def State.statusRead (s : State) (stream : Nat) (line : Bytes) : State :=
  let applied := be line 0 8
  let refused := be line 8 8
  let s := s.commitsDone stream applied
  let s := match (s.stream stream).bind fun x => x.unacked.find? (·.seq == refused) with
    | some c =>
      if applied < refused && be line 20 8 % 2 ^ 48 != 0 then
        s.refusedCommit stream c (be line 16 2 % 4096) (be line 20 8 % 2 ^ 48)
      else s
    | none => s
  match s.stream stream with
  | none => s
  | some x =>
    let s := x.unacked.foldl (fun t c => t.modOp c.op fun o => { o with parts := o.parts - 1 }) s
    let s := s.modStream stream fun y => { y with
      windowLength := be line 28 8, nextSeq := applied + 1, ringHead := 0, unacked := [], holdUntil := none
      waiting := waitAgain y.unacked ++ y.waiting }
    s.pumpStream stream

/-- Sequences whose records a stream holds: those of held operations and of resyncs. -/
def State.concerned (s : State) (x : Stream) : List (Nat × Nat) :=
  let ops := (x.unacked.map (·.op)) ++ (x.waiting.map (·.op))
  ((ops.filterMap fun i => (s.op i).map fun o => o.req.orderKey) ++ x.resyncing ++ (x.resync.map fun b => (b.paddock, b.seq))).eraseDups

/-- A partner is given up (R309): held operations answer DEGRADED_RETRY, LOST_PARTNER is set, its sequences' mutations
are refused until a later epoch. -/
def State.giveUp (s : State) (stream : Nat) : State :=
  match s.stream stream with
  | none => s
  | some x =>
    let ops := ((x.unacked.map (·.op)) ++ (x.waiting.map (·.op))).filter (· != 0) |>.eraseDups
    let mine := s.concerned x
    let s := s.modStream stream fun y => { y with
      unacked := [], waiting := [], holdUntil := none, resync := [], resyncing := [], sending := [],
      givenUp := (y.givenUp ++ mine).eraseDups, noMirrorSince := s.maps.epochs.current }
    let s := ops.foldl (fun t i => t.failCommit i (hintOf s.img.service.mirrorHold)) s
    let s := { s with net := { s.net with attempts := s.net.attempts.filter (·.stream != some stream) } }
    let s := (s.modFault fun f => { f with lostPartner := x.partner }).stir
    s.note ⟨1, 9, 0x2001, x.paddock, x.partner, 0, 0, []⟩

end Sys2Proof.Machine
end

