-- ==== Sys2Proof/Machine/Rla.lean ====
section
/-! DEFINITION. Remote line access (R222–R233): LREAD, LWRITE, LWRITE_FINAL and its effect, control records, map epochs
(R243–R245) and the commands of the pair stream (R302–R313). -/

namespace Sys2Proof.Machine

/-! ### PSN order and acknowledgement (R200, R201, R207) -/

/-- PSN a precedes b (R200). -/
def precedes (a b : Nat) : Bool :=
  let d := (b + 2 ^ 24 - a % 2 ^ 24) % 2 ^ 24
  1 ≤ d && d ≤ 2 ^ 23 - 1

/-- The PSN that an ACK carries: E − 1, or what lies before the oldest FINAL packet that has not taken effect. -/
def State.ackPsn (s : State) (q : Qp) : Nat :=
  let waiting := (q.rx.finals.map (·.psn)) ++ ((q.rx.held.filter (·.final)).map (·.lastPsn))
      ++ (s.net.inbox.filter fun m => m.qpn == q.qpn && m.opcode == 0x42).map (·.psn)
  (waiting.foldl (fun e p => if precedes p e then p else e) q.rx.expect + 2 ^ 24 - 1) % 2 ^ 24

/-- Send the ACK that covers everything accepted (R201). -/
def State.sendAck (s : State) (qpn : Nat) : State :=
  match s.qp qpn with
  | none => s
  | some q =>
    let s := s.modQp qpn fun x => { x with rx := { x.rx with sinceAck := 0, ackAt := none, lastAck := some s.time } }
    s.control qpn 1 (s.ackPsn q) 0

/-- The body of a message whose packets are all here. -/
def InMsg.body (m : InMsg) (packets : Nat) : Bytes :=
  ((List.range packets).map fun i => ((m.got.find? (·.1 == i)).map (·.2)).getD []).flatten

/-- Packets of a message. -/
def Qp.packets (q : Qp) (m : InMsg) : Nat := max 1 (ceilDiv m.len q.mtu)

/-- Deliver a complete message to its service (R206). On a connection that is not sprayed, one that follows a DISCONNECT
was begun after it and is not delivered (R197). -/
def State.deliver (s : State) (qpn : Nat) (m : InMsg) : State :=
  match s.qp qpn with
  | none => s
  | some q =>
    let after := !q.spray && m.opcode != 0x61 && q.rx.drainFrom.isSome
    let held := q.rx.used.any (·.1 == m.msn) && !after
    let s := s.modQp qpn fun x => { x with rx := { x.rx with
      msgs := x.rx.msgs.filter (·.msn != m.msn)
      used := if after then x.rx.used.filter (·.1 != m.msn) else x.rx.used
      outstanding := if held && m.opcode != 0x61 then x.rx.outstanding ++ [(m.msn, m.opcode)] else x.rx.outstanding
      drainFrom := if m.opcode == 0x61 then some m.msn else x.rx.drainFrom } }
    if held then { s with net := { s.net with inbox := s.net.inbox ++ [⟨qpn, m.msn, m.lastPsn, m.opcode, m.body (q.packets m)⟩] } }
    else s

/-- Whether the FINAL of a whole message, other than LWRITE_FINAL, takes effect: every earlier packet is accepted and every
write that those carry is placed (R207). -/
def State.takesEffect (s : State) (q : Qp) (m : InMsg) : Bool :=
  precedes m.lastPsn q.rx.expect && (q.rx.finals.all fun f => precedes m.lastPsn f.psn)
    && !(s.net.inbox.any fun x => x.qpn == q.qpn && (x.opcode == 0x41 || x.opcode == 0x42) && precedes x.psn m.lastPsn)

/-- Whether a message waits for its FINAL's effect before it is delivered; LWRITE_FINAL itself waits in its service. -/
def InMsg.waits (m : InMsg) : Bool := m.final && m.opcode != 0x42

/-- The held message that goes to its service next: any whose FINAL takes effect, in MSN order where the connection is not
sprayed (R206, R207). -/
def State.nextHeld (s : State) (q : Qp) : Option InMsg :=
  let may := fun (m : InMsg) => !m.waits || s.takesEffect q m
  if q.spray then q.rx.held.find? may else (q.rx.held.head?).filter may

/-- Deliver the held messages that may go. -/
def State.deliverHeldFuel : Nat → State → Nat → State
  | 0, s, _ => s
  | fuel + 1, s, qpn =>
    match (s.qp qpn).bind s.nextHeld with
    | none => s
    | some m =>
      let t := s.modQp qpn fun x => { x with rx := { x.rx with held := x.rx.held.filter (·.msn != m.msn) } }
      (t.deliver qpn m).deliverHeldFuel fuel qpn

/-- The held messages that may go now are delivered. -/
def State.deliverHeld (s : State) (qpn : Nat) : State :=
  s.deliverHeldFuel (((s.qp qpn).map fun q => q.rx.held.length).getD 0) qpn

/-- The same, with the one ACK that their effects ask for (R201, R207). -/
def State.releaseHeld (s : State) (qpn : Nat) : State :=
  match (s.qp qpn).bind s.nextHeld with
  | none => s
  | some _ => (s.deliverHeld qpn).sendAck qpn

/-- Deliver a whole message, or hold it: until its FINAL takes effect, or behind an earlier message of a connection that is
not sprayed (R206, R207). -/
def State.deliverOrHold (s : State) (qpn : Nat) (m : InMsg) : State :=
  let behind := ((s.qp qpn).map fun q => !q.spray && !q.rx.held.isEmpty).getD false
  if m.waits || behind then
    (s.modQp qpn fun x => { x with rx := { x.rx with
      msgs := x.rx.msgs.filter (·.msn != m.msn), held := x.rx.held ++ [m] } }).releaseHeld qpn
  else s.deliver qpn m

/-- Whether a connection still works. -/
def Qp.works (q : Qp) : Bool := match q.state with | .ready => true | .draining => true | _ => false

/-! ### Checks (R228) -/

/-- The RLA header (R222). -/
structure RlaHead where
  addr : Nat
  lines : Nat
  tag : Nat
deriving DecidableEq, Repr

/-- Read the RLA header. -/
def RlaHead.parse (b : Bytes) : RlaHead := ⟨be b 0 8, be b 8 2, be b 12 4⟩

/-- Malformed header or length (first row of R228). -/
def RlaHead.malformed (h : RlaHead) (len want : Nat) : Bool :=
  h.addr % 128 != 0 || h.lines == 0 || 4096 < h.lines || len != want

/-- Indices of the lines a message names. -/
def RlaHead.range (h : RlaHead) : List Nat := (List.range h.lines).map (h.addr / 128 + ·)

/-- 64-byte controller lines that a range of a window covers. -/
def controllerLines (base addr bytes : Nat) : List Nat := (List.range (bytes / 64)).map ((base + addr) / 64 + ·)

/-- Whether a line of a Tier-1 window lies in a region whose owner is not the window's sender; pair and loader windows have
no regions (R230). -/
def State.regionDenies (s : State) (w : Window) (i : Nat) : Bool :=
  let a := w.base + i * 128
  decide (w.use = .plain) && w.base < landingBase && s.maps.regions.any fun r =>
    r.active && r.base ≤ a && a < r.base + 2 ^ r.sizeLog2 && !(r.ownerNode == w.srcNode && r.ownerPaddock == w.srcPaddock)

/-- The syndrome that a write draws, if any (R228, R231, R303, R346). -/
def State.writeRefused (s : State) (w : Window) (h : RlaHead) (len : Nat) (final : Bool) : Option Nat :=
  if h.malformed len (16 + h.lines * 128) || (final && h.lines != 1) then some 0x01
  else if w.length < h.addr + h.lines * 128 || !w.write then some 0x03
  else if h.range.any (s.regionDenies w) then some 0x03
  else if h.range.all fun i => w.lineOpen i final then none else some 0x03

/-- Place lines: whole controller lines are overwritten, which clears their poison. -/
def State.placeLines (s : State) (w : Window) (addr : Nat) (data : Bytes) : State :=
  let gone := controllerLines w.base addr data.length
  { s with
    mem := Memory.writeBytes s.mem (w.base + addr) data
    store := s.store.cleanLines gone.contains }

/-! ### LREAD, LWRITE, LWRITE_FINAL -/

/-- LREAD (R223, R228): the lines, or a status. -/
def execLread (m : Msg) (s : State) : Result :=
  match s.qp m.qpn with
  | none => .next s
  | some q =>
    if !q.works then .next s
    else if !q.admits 0x40 then .next (s.nakFail m.qpn m.psn 0x01)
    else
      let h := RlaHead.parse m.body
      let say := fun (status : Nat) (data : Bytes) => s.answer m.qpn m.msn 0xC0 (rlaBody h.addr h.lines status h.tag data)
      if h.malformed m.body.length 16 then .next (say St.badParam [])
      else
        match s.boundWindow q with
        | none => .next (say St.denied [])
        | some w =>
          if w.length < h.addr + h.lines * 128 then .next (say St.badParam [])
          else if !w.read then .next (say St.denied [])
          else if (controllerLines w.base h.addr (h.lines * 128)).any s.store.poisonLines.contains then
            .next (say St.integrity [])
          else .next (say St.ok ((h.range.map (s.windowLine w)).flatten))

/-- LWRITE (R223, R228): the lines are placed, or the write is refused with a NAK. -/
def execLwrite (m : Msg) (s : State) : Result :=
  match s.qp m.qpn with
  | none => .next s
  | some q =>
    if !q.works then .next s
    else if !q.admits 0x41 then .next (s.nakFail m.qpn m.psn 0x01)
    else
      let h := RlaHead.parse m.body
      match s.boundWindow q with
      | none => .next (s.nakFail m.qpn m.psn 0x03)
      | some w =>
        match s.writeRefused w h m.body.length false with
        | some x => .next (s.nakFail m.qpn m.psn x)
        | none => .next (((s.placeLines w h.addr (m.body.drop 16)).consume m.qpn m.msn).releaseHeld m.qpn)

/-- A control record with its RESULT is what the control line reads back (R231). -/
def State.recordResult (s : State) (w : Window) (line : Bytes) (result : Nat) : State :=
  s.modWindow w.index fun x => { x with control := sub line 0 20 ++ toBe 1 result ++ sub line 21 107 }

/-- What must be done before a FINAL write takes effect: a control record of a known type, or a commit (R231, R307). -/
def Window.needsWork (w : Window) (h : RlaHead) (line : Bytes) : Bool :=
  let control := h.addr + 128 == w.length
  (control && 1 ≤ be line 0 1 && be line 0 1 ≤ 4) || (!control && decide (w.use = .pair) && h.addr == 0)

/-- A FINAL joins those that wait, in PSN order (R207). -/
def placeFinal (f : FinalWrite) : List FinalWrite → List FinalWrite
  | [] => [f]
  | g :: gs => if precedes f.psn g.psn then f :: g :: gs else g :: placeFinal f gs

/-- LWRITE_FINAL (R223, R228): the write is checked and waits to take effect. -/
def execLwriteFinal (m : Msg) (s : State) : Result :=
  match s.qp m.qpn with
  | none => .next s
  | some q =>
    if !q.works then .next s
    else if !q.admits 0x42 then .next (s.nakFail m.qpn m.psn 0x01)
    else
      let h := RlaHead.parse m.body
      match s.boundWindow q with
      | none => .next (s.nakFail m.qpn m.psn 0x03)
      | some w =>
        match s.writeRefused w h m.body.length true with
        | some x => .next (s.nakFail m.qpn m.psn x)
        | none =>
          let line := m.body.drop 16
          let work := w.needsWork h line
          let s := { s with net := { s.net with inbox := s.net.inbox.filter fun x => !(x.qpn == m.qpn && x.msn == m.msn) } }
          .next (s.modQp m.qpn fun x => { x with rx := { x.rx with finals := placeFinal ⟨m.psn, m.msn, m.body, !work⟩ x.rx.finals } })

/-- The oldest waiting FINAL of a connection, once every earlier packet is accepted and every earlier write placed
(R207). -/
def State.readyFinal (s : State) (qpn psn : Nat) : Option (Qp × Window × FinalWrite) :=
  (s.qp qpn).bind fun q => (q.rx.finals.head?).bind fun f =>
    if f.psn == psn && q.works && (psn == q.rx.expect || precedes psn q.rx.expect)
        && !(s.net.inbox.any fun m => m.qpn == qpn && (m.opcode == 0x41 || m.opcode == 0x42) && precedes m.msn f.msn)
    then (s.boundWindow q).map fun w => (q, w, f)
    else none

/-- Mark the oldest FINAL as settled. -/
def State.settleFinal (s : State) (qpn : Nat) : State :=
  s.modQp qpn fun x => { x with rx := { x.rx with
    finals := match x.rx.finals with | [] => [] | f :: fs => { f with settled := true } :: fs } }

/-- FINAL_TAKES_EFFECT (R207): the line is written and made visible, and the ACK that covers it is sent. A control record of
a reserved type is refused as such in its turn (R231). -/
def execFinalTakesEffect (qpn psn : Nat) (s : State) : Result :=
  match s.readyFinal qpn psn with
  | none => .next s
  | some (q, w, f) =>
    if !f.settled then .next s
    else
      let h := RlaHead.parse f.body
      let line := f.body.drop 16
      let s := if h.addr + 128 != w.length then s.placeLines w h.addr line
        else if w.needsWork h line then s else s.recordResult w line 3
      let e := if f.psn == q.rx.expect then (f.psn + 1) % 2 ^ 24 else q.rx.expect
      let s := s.modQp qpn fun x => { x with rx := { x.rx with finals := x.rx.finals.drop 1, expect := e } }
      .next (((s.consume qpn f.msn).deliverHeld qpn).sendAck qpn)

/-! ### Control records (R231–R233) -/

/-- The control record that a ready FINAL carries, when it is of a type and not yet worked on. -/
def State.controlRecord (s : State) (qpn psn type : Nat) : Option (Qp × Window × Bytes) :=
  (s.readyFinal qpn psn).bind fun x =>
    let line := x.2.2.body.drop 16
    if !s.restarting 2 && !x.2.2.settled && (RlaHead.parse x.2.2.body).addr + 128 == x.2.1.length && be line 0 1 == type
    then some (x.1, x.2.1, line) else none

/-- Record RESULT and let the write take effect. -/
def State.controlDone (s : State) (qpn : Nat) (w : Window) (line : Bytes) (result : Nat) : State :=
  (s.recordResult w line result).settleFinal qpn

/-- Give a region a new owner (R229, R232). -/
def State.giveRegion (s : State) (index node paddock : Nat) : State :=
  let give := fun (r : Region) => { r with ownerNode := node, ownerPaddock := paddock, gen := (r.gen + 1) % 2 ^ 32 }
  { s with maps := { s.maps with regions := updateFirst (fun r => r.index == index && r.active) give s.maps.regions } }

/-- An active region. -/
def State.region (s : State) (index : Nat) : Option Region := s.maps.regions.find? fun r => r.index == index && r.active

/-- HANDOVER (R232). -/
def execHandover (qpn psn : Nat) (s : State) : Result :=
  match s.controlRecord qpn psn 1 with
  | none => .next s
  | some (_, w, line) =>
    match s.region (be line 8 2) with
    | none => .next (s.controlDone qpn w line 1)
    | some r =>
      if !(r.ownerNode == w.srcNode && r.ownerPaddock == w.srcPaddock && w.base ≤ r.base && r.base < w.base + w.length) then
        .next (s.controlDone qpn w line 1)
      else if r.gen != be line 12 4 then .next (s.controlDone qpn w line 2)
      else .next ((s.giveRegion r.index (be line 16 2) (be line 18 2 % 4096)).controlDone qpn w line 0)

/-- Whether the connection of a region's owner still works, or writes that it admitted are not placed (R233). -/
def State.ownerAlive (s : State) (r : Region) : Bool :=
  s.maps.windows.any fun w => w.srcNode == r.ownerNode && w.srcPaddock == r.ownerPaddock && w.base ≤ r.base
    && r.base < w.base + w.length && s.net.qps.any fun q => q.window == some (w.index, w.gen) && q.works

/-- FORCE_OWNER (R231, R233): only through the fabric manager's window; it waits for the failed owner's connection.
RESULT for a region that is not active is open (log 39). -/
def execForceOwner (qpn psn : Nat) (s : State) : Result :=
  match s.controlRecord qpn psn 2 with
  | none => .next s
  | some (_, w, line) =>
    if decide (w.use ≠ .fabricManager) then .next (s.controlDone qpn w line 3)
    else
      match s.region (be line 8 2) with
      | none => .next (({ s with rng := s.rng + 1 }).controlDone qpn w line (Config.publishResult s.rng % 256))
      | some r =>
        if r.gen != be line 12 4 then .next (s.controlDone qpn w line 2)
        else if s.ownerAlive r then .next s
        else .next ((s.giveRegion r.index (be line 16 2) (be line 18 2 % 4096)).controlDone qpn w line 0)

/-- EPOCH_STAGE (R243): what was staged and not published is discarded, and O2 begins to read the area. O2 handles each
record as a whole: one that comes while an area is being read waits. -/
def execEpochStage (qpn psn : Nat) (s : State) : Result :=
  match s.controlRecord qpn psn 3 with
  | none => .next s
  | some (_, w, line) =>
    if decide (w.use ≠ .fabricManager) then .next (s.controlDone qpn w line 3)
    else if s.maps.epochs.staging.isSome then .next s
    else
      let s := match s.maps.epochs.slotOf .staging with | none => s | some k => s.dropSlot k
      let s := s.modEpochs fun e => { e with staged := 0, heldPublish := none, staging := some (be line 4 4, 128, []) }
      .next ((s.controlDone qpn w line 0).askFm 0 1 2)

/-- EPOCH_PUBLISH (R231, R244): the staged epoch is published, or held until the drain ends; the record is applied, and
its write takes effect, once the epoch is current. RESULT for any other epoch is open (log 39). -/
def execEpochPublish (qpn psn : Nat) (s : State) : Result :=
  match s.controlRecord qpn psn 4 with
  | none => .next s
  | some (_, w, line) =>
    if decide (w.use ≠ .fabricManager) then .next (s.controlDone qpn w line 3)
    else
      let e := be line 4 4
      if e != 0 && e == s.maps.epochs.staged then
        let t := s.publishOrHold
        s.finish (if t.maps.epochs.heldPublish.isSome then t else t.controlDone qpn w line 0)
      else if e == s.maps.epochs.current then .next (s.controlDone qpn w line 0)
      else .next (({ s with rng := s.rng + 1 }).controlDone qpn w line (Config.publishResult s.rng % 256))

/-- DRAIN_END (R245). -/
def execDrainEnd (s : State) : Result :=
  match s.maps.epochs.drainEnd with
  | none => .next s
  | some t =>
    let s1 := s.advanceTo t
    if (s.maps.epochs.slotOf .clearing).isSome then
      .next (s1.modEpochs fun e => { e with drainEnd := none, drainWaits := true, previous := 0 })
    else s.finish s1.endDrain

/-- CLEARING_DONE (R245): the slot becomes idle; a drain that waited for it ends. -/
def execClearingDone (s : State) : Result :=
  match s.maps.epochs.slotOf .clearing with
  | none => .next s
  | some k =>
    let t := (s.dropSlot k).modEpochs fun e => e.setRole k .idle
    if s.maps.epochs.drainWaits then s.finish t.endDrain else .next t

/-! ### LREAD responses -/

/-- More of the publication area has come (R243). -/
def State.areaRead (s : State) (qpn : Nat) (data : Bytes) : State :=
  match s.maps.epochs.staging with
  | none => s
  | some (e, want, got) =>
    let got := got ++ data
    let want := if want == 128 then 128 + ceilDiv (be got 12 4 * 32) 128 * 128 else want
    if want ≤ got.length then s.stageArea got
    else
      let s := s.modEpochs fun x => { x with staging := some (e, want, got) }
      s.rlaRead qpn got.length (min 4096 ((want - got.length) / 128)) 2

/-- The publication header that an EPOCH_AHEAD asked for (R244). -/
def State.headerCame (s : State) (status : Nat) (data : Bytes) : State :=
  let s := s.modEpochs fun e => { e with headerRead := false }
  let next := be data 4 4
  if status == St.ok && be data 8 4 == 1 && next != 0 && next == s.maps.epochs.staged then s.publishOrHold else s

/-- LREAD_RESPONSE (R191, R223, R243, R244, R303). -/
def execLreadResponse (m : Msg) (s : State) : Result :=
  match s.qp m.qpn with
  | none => .next s
  | some q =>
    if !q.works then .next s
    else
      let h := RlaHead.parse m.body
      let status := be m.body 10 1
      let data := m.body.drop 16
      if !q.initiator || !q.tx.asked.contains (0x40, h.tag) || (status == St.ok && data.length != h.lines * 128) then
        .next (s.nakFail m.qpn m.psn 0x01)
      else
        let t := (s.modQp m.qpn fun x => { x with
            tx := { x.tx with asked := x.tx.asked.filter (· != (0x40, h.tag)) } }).consume m.qpn m.msn
        match h.tag with
        | 1 => s.finish (t.headerCame status data)
        | 2 => if status == St.ok then .next (t.areaRead m.qpn data) else .next (t.stageFail 4)
        | _ =>
          match t.maps.streams.find? (·.qpn == some m.qpn) with
          | none => .next t
          | some x => if status == St.ok then s.finish (t.statusRead x.id data) else .next (t.failConn m.qpn)

/-! ### The pair stream -/

/-- Apply or refuse the commit of a FINAL write to line 0 of a pair window (R307, R427). -/
def State.commitNow (s : State) (w : Window) (qpn psn : Nat) (line : Bytes) : State :=
  match s.recvCommit w line with
  | .ok t => t.settleFinal qpn
  | .error (reason, paddock, seq) => (s.refuseCommit w line reason paddock seq).nakFail qpn psn 0x03

/-- The FINAL write of a commit that has not been judged yet: its window and its line. -/
def State.waitingCommit (s : State) (qpn psn : Nat) : Option (Window × Bytes) :=
  match s.readyFinal qpn psn with
  | none => none
  | some (_, w, f) =>
    if f.settled || decide (w.use ≠ .pair) || (RlaHead.parse f.body).addr != 0 then none else some (w, f.body.drop 16)

/-- PAIR_COMMIT (R307, R427): the commit is applied in full, or refused in full with a NAK; one that appends is held while a
lease has a pseudo-channel that it writes to (R167). -/
def execPairCommit (qpn psn : Nat) (s : State) : Result :=
  match s.waitingCommit qpn psn with
  | none => .next s
  | some (w, line) =>
    match s.recvCommit w line with
    | .ok t =>
      let cs := s.commitChannels w line t
      if s.mustHold cs then .next (s.holdOnce (.commit qpn psn) cs) else s.finish (s.commitNow w qpn psn line)
    | .error _ => s.finish (s.commitNow w qpn psn line)

/-- PAIR_COMMIT_ACK (R305 step 5): every commit up to `seq` is acknowledged. -/
def execPairCommitAck (stream seq : Nat) (s : State) : Result :=
  match s.stream stream with
  | none => .next s
  | some x =>
    if !(x.unacked.any (·.seq == seq)) then .next s
    else s.finish ((s.commitsDone stream seq).pumpStream stream)

/-- MIRROR_HOLD_EXPIRY (R309). -/
def execMirrorHoldExpiry (stream : Nat) (s : State) : Result :=
  match (s.stream stream).bind (·.holdUntil) with
  | none => .next s
  | some t => s.finish ((s.advanceTo t).giveUp stream).afterUnits

/-- DEADLINE_REPORT_TIMER (R308): the deadlines that the mirror has formed go to their primaries. -/
def execDeadlineReportTimer (s : State) : Result :=
  let ds := s.maps.deadlines
  let t := { s with maps := { s.maps with deadlines := [] } }
  .next (ds.foldl (fun u d =>
    u.queueCommit (u.partnerOf d.1 d.2.1) d.1 0 [pairRecord { type := 9, paddock := d.1, seq := d.2.1, aux := d.2.2 } []]) t)

/-- RESYNC_BLOCK_SEND (R313 step 3; paused by R354 and R368): the next closed block of a sequence whose first commit is
acknowledged, verified before it is sent (R105). -/
def execResyncBlockSend (stream : Nat) (s : State) : Result :=
  match s.stream stream with
  | none => .next s
  | some x =>
    let off := fun (b : BlockRef) => (s.findSeq b.paddock b.seq).any fun q => s.host.slicesOff.contains q.slice
    match x.resync.find? fun b => !s.restarting 3 && !off b && !x.resyncing.contains (b.paddock, b.seq) with
    | none => .next s
    | some b =>
      let t := s.modStream stream fun y => { y with resync := y.resync.filter (· != b) }
      match t.findSeq b.paddock b.seq with
      | none => .next t
      | some q =>
        match s.takeTurn q.slice 2 b.paddock ⟨.resync, b.paddock, [stream, b.seq, b.layer, b.head, b.block]⟩ q.shape.rawBlock with
        | (t, false) => .next t
        | (t, true) =>
          let t := t.modStream stream fun y => { y with resync := y.resync.filter (· != b) }
          let t := t.verify q.desc [(b.layer, b.head, b.block)]
          let q := (t.seqAt q.desc).getD q
          let lost := match q.entry b.layer b.head b.block with
            | some e => t.entryLost q e
            | none => false
          let t := if lost then t.modFault fun f => { f with doubleLost := f.doubleLost + 1 } else t
          let t := t.modStream stream fun y => { y with sending := (y.sending ++ [(b.paddock, b.seq)]).eraseDups }
          s.finish (t.queueCommit x.partner b.paddock 0 [t.blockRecord q b.layer b.head b.block])

end Sys2Proof.Machine
end

