-- ==== Sys2Proof/Machine/Cache.lean ====
section
/-! DEFINITION. The nine requests of the cache service (R23–R62): each is received, checked and accepted or refused. -/

namespace Sys2Proof.Machine

/-- STEP (R31–R45). -/
def execStep (m : Msg) (s : State) : Result := s.finish (s.receiveCache m 1)

/-- APPEND (R46–R50). -/
def execAppend (m : Msg) (s : State) : Result := s.finish (s.receiveCache m 2)

/-- SEQ_CREATE (R51, R52). -/
def execSeqCreate (m : Msg) (s : State) : Result := s.finish (s.receiveCache m 3)

/-- SEQ_FORK (R53, R54). -/
def execSeqFork (m : Msg) (s : State) : Result := s.finish (s.receiveCache m 4)

/-- SEQ_TRUNCATE (R55). -/
def execSeqTruncate (m : Msg) (s : State) : Result := s.finish (s.receiveCache m 5)

/-- SEQ_RELEASE (R56). -/
def execSeqRelease (m : Msg) (s : State) : Result := s.finish (s.receiveCache m 6)

/-- PREFIX_LOOKUP (R59). -/
def execPrefixLookup (m : Msg) (s : State) : Result := s.finish (s.receiveCache m 7)

/-- SEQ_QUERY (R58). -/
def execSeqQuery (m : Msg) (s : State) : Result := s.finish (s.receiveCache m 8)

/-- PREFETCH (R61, R62). -/
def execPrefetch (m : Msg) (s : State) : Result := s.finish (s.receiveCache m 9)

end Sys2Proof.Machine
end

