-- ==== Sys2Proof/Machine/Engine.lean ====
section
/-! DEFINITION. The attention engine's commands: block reads (R93, R131, R132), leaves and subtree roots (R133–R137),
the end of a step (R30, R253, R296), shadow comparison (R318), cluster faults (R126) and weight slots (R140). -/

namespace Sys2Proof.Machine

/-! ### Reads -/

/-- Whether a read of a block is a summary-record read for its score (R132). -/
def StepWork.summaryRead (w : StepWork) (head block : Nat) : Bool :=
  w.scoring.contains (head, block) && ((w.coverOf head block).bind (·.summary)).isSome

/-- Bytes that one read of a block moves. -/
def StepWork.readBytes (w : StepWork) (head block : Nat) : Nat :=
  if w.summaryRead head block then 2 * w.recShape.kDim + 4
  else ((w.coverOf head block).map (·.bytes)).getD 0

/-- Granules of a cluster's block area that outstanding blocks take (R131). -/
def State.blockArea (s : State) (c : Nat × Nat) : Nat :=
  sumNat ((s.residents.filter fun x => x.2.2.clusters.contains c).map fun x =>
    sumNat (x.2.2.outstanding.map fun b => ceilDiv (x.2.1.readBytes x.2.2.head b) 512))

/-- The units that a cluster's Outrider fetches for: it leads their gang (R125). -/
def State.ledUnits (s : State) (c : Nat × Nat) : List (Op × StepWork × WorkUnit) :=
  s.residents.filter fun x => x.2.2.clusters.head? == some c

/-- The KTB key of the directory page that holds a block of a step. -/
def State.pageKey (s : State) (o : Op) (head block : Nat) : Option KtbEntry :=
  match o.desc with
  | none => none
  | some d => (s.seqAt d.1).map fun q => ⟨q.paddock, d.1, d.2, q.shape.pageOf o.req.layer head block⟩

/-- Put an entry at the young end of a list that holds `n` at most. Which entry leaves a full KTB is not said (R93): the
least recently used one. DESIGN CHOICE (log 105). -/
def touchLru {α : Type} [BEq α] (n : Nat) (x : α) (xs : List α) : List α :=
  let ys := xs.filter (· != x) ++ [x]
  ys.drop (ys.length - n)

/-- Walk for a block: in the Outrider's own KTB, else in its die's shared one, which fills the former (R93). -/
def State.walk (s : State) (k : Cluster) (e : KtbEntry) : Option State :=
  if k.ktb.contains e || s.eng.sharedKtb.contains (k.die, e) then
    let s := s.modCluster k.die k.phys fun x => { x with ktb := touchLru 64 e x.ktb }
    if k.ktb.contains e then some s
    else some { s with eng := { s.eng with sharedKtb := s.eng.sharedKtb.filter (· != (k.die, e)) ++ [(k.die, e)] } }
  else none

/-- Change one unit of a step. -/
def State.modUnit (s : State) (op index : Nat) (f : WorkUnit → WorkUnit) : State :=
  s.modOp op fun o => { o with step := o.step.map fun w => { w with units := updateFirst (·.index == index) f w.units } }

/-- The pseudo-channels that a read of a block needs (R146, R167). -/
def State.readChannels (s : State) (o : Op) (w : StepWork) (head block : Nat) : List (Nat × Nat) :=
  match (w.coverOf head block).bind (·.object) with
  | some n => ((s.block n).map fun (b : Block) => s.channelsOf b.whole).getD []
  | none =>
    match (o.desc.bind fun d => s.seqAt d.1).bind fun q => q.entry o.req.layer head block with
    | some ⟨_, _, _, .tail t, _, _, _⟩ => s.channelsOf t.place
    | _ => []

/-- Steps of a sequence that still read from a directory page. -/
def State.needsPage (s : State) (d page : Nat) (o : Op) : Bool :=
  match o.desc, o.step with
  | some x, some w => x.1 == d && w.units.any fun u => (u.toIssue ++ u.outstanding).any fun b =>
      ((s.seqAt d).map fun q => q.shape.pageOf o.req.layer u.head b == page).getD false
  | _, _ => false

/-- The status that a page found in a KTB gives the steps that read from it, where it is lost or does not verify (R93, R119). -/
def State.pageStatus (s : State) (e : KtbEntry) : Option Nat :=
  match (s.seqAt e.desc).bind fun q => (q.pages.find? (·.index == e.page)).map fun y => (q, y) with
  | none => none
  | some (q, y) => if y.lost then some St.lostBlocks else if s.walkOk q y then none else some St.integrity

/-- The steps that read from a page end with a status; a page whose check failed is marked lost (R119). -/
def State.endReaders (s : State) (e : KtbEntry) (status : Nat) : State :=
  let t := s.breakSteps (s.needsPage e.desc e.page) status
  (if status == St.integrity then t.markPageLost e.desc e.page else t).afterUnits

/-- Issue the next read of one unit when its page is walked and every receiving block area has room (R131); the controller
holds it while a lease has a pseudo-channel of it (R167). -/
def State.issueFor (s : State) (k : Cluster) (x : Op × StepWork × WorkUnit) : Option State :=
  match x.2.2.toIssue with
  | [] => none
  | b :: rest =>
    match s.pageKey x.1 x.2.2.head b with
    | none => none
    | some e =>
      let n := ceilDiv (x.2.1.readBytes x.2.2.head b) 512
      if x.2.2.clusters.any fun c => 5120 < s.blockArea c + n then none
      else
        (s.walk k e).map fun t =>
          match t.pageStatus e with
          | some status => t.endReaders e status
          | none =>
            let t := t.modUnit x.1.id x.2.2.index fun u => { u with toIssue := rest, outstanding := u.outstanding ++ [b] }
            let t := t.modCluster k.die k.phys fun y => { y with lastUnit := some (x.1.id, x.2.2.index) }
            let cs := t.readChannels x.1 x.2.1 x.2.2.head b
            if t.mustHold cs then t.hold (.read x.1.id x.2.2.run x.2.2.head b) cs else t

/-- OUTRIDER_READ_ISSUE (R93, R131, R132): a block read of a cluster that is out of K1 and K2 (R371), its units taken in turn,
once the page that the walk found verifies. DESIGN CHOICE (log 109): the
threads of units stand in the order of their operations and unit indices, and the turn begins anew once the unit that issued
last is gone; R131 does not say which thread a unit takes. -/
def execOutriderReadIssue (die cluster : Nat) (s : State) : Result :=
  match s.clusterOf die cluster with
  | none => .next s
  | some k =>
    let mine := s.ledUnits (die, cluster)
    if 512 ≤ sumNat (mine.map fun x => x.2.2.outstanding.length) || decide (k.k ≠ .k0) then .next s
    else
      let n := match k.lastUnit with
        | none => 0
        | some l => ((mine.findIdx? fun x => (x.1.id, x.2.2.index) == l).map (· + 1)).getD 0
      s.finish (((mine.drop n ++ mine.take n).findSome? (s.issueFor k)).getD s)

/-- Fill a die's shared KTB, 4,096 entries, within the paddock's allotment (R93, R292). -/
def State.fillKtb (s : State) (die : Nat) (e : KtbEntry) : State :=
  let mine := s.useLine die 4096 (fun x => x.2.paddock) (die, e) (s.eng.sharedKtb.filter (·.1 == die))
  { s with eng := { s.eng with sharedKtb := s.eng.sharedKtb.filter (·.1 != die) ++ mine } }

/-- The pseudo-channels that a walk of a directory page needs: those of its L1 page and its own (R167). -/
def State.walkChannels (s : State) (q : Seq) (y : DirPage) : List (Nat × Nat) :=
  [q.addresses.getD 0 0 + y.index / 127 * 4096, y.address].filterMap fun a =>
    (s.sliceOfFrame (a / 32768)).bind fun c => c.channelOf (a / 32768)

/-- Whether a step still reads from a page that an L1 page maps. -/
def State.needsL1 (s : State) (q : Seq) (n : Nat) (o : Op) : Bool := (q.pagesOfL1 n).any fun p => s.needsPage q.desc p o

/-- A page that a walk needs has been read: the L1 page is verified under L1_VERSION and the directory page under
DIR_VERSION and DIR_TAG; the L1 entry, in a sealed paddock every valid entry of its page, goes to the KTB; or every
entry of the L1 page, or the page, is lost (R93, R119). A line of a frame that a lease has touched is ECC_DOMAIN first
(R175). -/
def State.walkFill (s : State) (die : Nat) (q : Seq) (y : DirPage) (r : ReadOutcome) : State :=
  let e : KtbEntry := ⟨q.paddock, q.desc, q.generation, y.index⟩
  if y.lost then s.endReaders e St.lostBlocks
  else if !s.l1Ok q (y.index / 127) then
    ((s.breakSteps (s.needsL1 q (y.index / 127)) St.integrity).markL1Lost q.desc (y.index / 127)).afterUnits
  else if decide (r = .good) && s.walkOk q y then
    let beside := if q.sealed then
        (q.pages.filter fun x => x.index / 127 == y.index / 127 && x.index != y.index && !x.lost).map (·.index) else []
    (beside ++ [y.index]).foldl (fun t p => t.fillKtb die { e with page := p }) s
  else
    let frame := y.address / 32768
    (if decide (r = .poisoned) || s.syndrome frame then s.eccDomain q.paddock 0 frame else s).endReaders e St.integrity

/-- A walk's sequence and page. -/
def State.walkPage (s : State) (paddock seq page : Nat) : Option (Seq × DirPage) :=
  (s.findSeq paddock seq).bind fun q => (q.pages.find? (·.index == page)).map fun y => (q, y)

/-- WALK_FILL_DONE (R93, R119); the controller holds the walk while a lease has a pseudo-channel of it (R167). -/
def execWalkFillDone (die paddock seq page : Nat) (r : ReadOutcome) (s : State) : Result :=
  match s.walkPage paddock seq page with
  | none => .next s
  | some (q, y) =>
    let cs := s.walkChannels q y
    if s.mustHold cs then .next (s.holdOnce (.walk die paddock seq page r) cs) else s.finish (s.walkFill die q y r)

/-! ### Blocks -/

/-- HEAT counts one access, up to 15 (R118, R151). -/
def State.heatUp (s : State) (d layer head block : Nat) : State :=
  s.modSeq d fun q =>
    match q.entry layer head block with
    | none => q
    | some e => q.setEntry { e with heat := min 15 (e.heat + 1) }

/-- Change the work of a step. -/
def State.modWork (s : State) (op : Nat) (f : StepWork → StepWork) : State :=
  s.modOp op fun o => { o with step := o.step.map f }

/-- Once every candidate of a KV head is scored: the selection, and the reads of the attended blocks (R42). DESIGN CHOICE
(log 121): a candidate that was read whole for its summary and is selected is read again, and counted again (R39, R44). -/
def StepWork.select (w : StepWork) (head : Nat) : StepWork :=
  match w.attn.sparseK with
  | none => w
  | some k =>
    if w.scoring.any (·.1 == head) || w.selected.any (·.1 == head) then w
    else
      let chosen := selectBlocks k ((w.scores.filter (·.1 == head)).map fun x => (x.2.1, x.2.2))
      let w := { w with selected := w.selected ++ [(head, chosen)] }
      { w with units := w.units.map fun (u : WorkUnit) =>
          if u.head == head then
            { u with toIssue := (w.covers.filter fun c => c.head == head && w.attends head c.block
                && w.attn.blockLo + u.first ≤ c.block && c.block < w.attn.blockLo + u.first + 2 ^ u.height).map (·.block) }
          else u }

/-- A candidate's score (R42 step 2), and the selection when it was the last one of its head. Candidates are kept in
ascending block index. -/
def StepWork.scored (w : StepWork) (head block : Nat) : StepWork :=
  match w.coverOf head block with
  | none => w
  | some c =>
    let entry := (head, block, w.candidateScore head c)
    let below := fun (x : Nat × Nat × F32) => x.1 < head || (x.1 == head && x.2.1 < block)
    let w := { w with
      scoring := w.scoring.filter (· != (head, block))
      scores := w.scores.filter below ++ [entry] ++ w.scores.filter fun x => !below x }
    w.select head

/-- The leaves of every row of a head for a block that has arrived (R78, R131). -/
def StepWork.formLeaves (w : StepWork) (head block : Nat) : StepWork :=
  if w.leaves.any fun l => l.head == head && l.block == block then w
  else { w with leaves := w.leaves ++ (List.range w.attn.rowCount).map fun r => ⟨head, block, r, w.leafOf head block r⟩ }

/-- Count a read of run 0: its bytes, and the block unless only its summary record was read (R44, R253, R296). -/
def StepWork.countRead (w : StepWork) (run head block : Nat) : StepWork :=
  if run == 0 then
    { w with
      blocksRead := w.blocksRead + (if w.summaryRead head block then 0 else 1)
      bytesRead := w.bytesRead + w.readBytes head block }
  else w

/-- A summary record that fails its check is ignored and cleared (R106, R119): the block is read whole. -/
def State.dropSummary (s : State) (o : Op) (index head block : Nat) : State :=
  let n := (o.step.bind fun w => w.coverOf head block).bind (·.object)
  let s := match n with | none => s | some n => s.modBlock n fun b => { b with hasSummary := false }
  let here := fun (c : Cover) => c.head == head && c.block == block
  let s := s.modWork o.id fun w => { w with covers := updateFirst here (fun c => { c with summary := none }) w.covers }
  let s := s.modUnit o.id index fun u =>
    { u with outstanding := u.outstanding.filter (· != block), toIssue := block :: u.toIssue }
  s.note ⟨0, 4, 0x3002, o.req.paddock, 0, ((n.bind s.block).map fun (b : Block) => b.place.frame).getD 0, o.req.seq, []⟩

/-- Whether the block that a read brought verifies. -/
def State.readOk (s : State) (o : Op) (head block : Nat) : Bool :=
  match o.desc.bind fun d => (s.seqAt d.1).bind fun q => (q.entry o.req.layer head block).map fun e => (q, e) with
  | none => true
  | some (q, e) => s.entryOk q e

/-- Whether the object behind a block is marked lost by now. -/
def State.readLost (s : State) (o : Op) (head block : Nat) : Bool :=
  match o.desc.bind fun d => (s.seqAt d.1).bind fun q => (q.entry o.req.layer head block).map fun e => (q, e) with
  | none => false
  | some (q, e) => s.entryLost q e

/-- A good block: scored while it is a candidate, else turned into leaves (R42, R131). -/
def StepWork.arrive (w : StepWork) (u : WorkUnit) (block : Nat) : StepWork :=
  let w := w.countRead u.run u.head block
  let drop := fun (x : WorkUnit) => { x with outstanding := x.outstanding.filter (· != block) }
  let w := { w with units := updateFirst (·.index == u.index) drop w.units }
  if w.scoring.contains (u.head, block) then w.scored u.head block else w.formLeaves u.head block

/-- BLOCK_READ_DONE (R105, R106, R119, R131, R132): `op` and `block` name an outstanding read of a KV head. A read that the
controller holds is not done before it is served (R167). -/
def execBlockReadDone (op head block : Nat) (r : ReadOutcome) (s : State) : Result :=
  match s.op op with
  | none => .next s
  | some o =>
    match o.step with
    | none => .next s
    | some w =>
      match w.units.find? fun u => u.resident && u.head == head && u.outstanding.contains block with
      | none => .next s
      | some u =>
        let job := HeldWork.read op u.run head block
        if s.heldBack job then .next s
        else
        let s := s.dropHeld (· == job)
        if w.summaryRead head block then
          let good := match r, (w.coverOf head block).bind (·.summary) with
            | .good, some x => summaryOk w.recShape.kDim x
            | _, _ => false
          if good then .next (s.modWork op fun w => w.arrive u block)
          else s.finish (s.dropSummary o u.index head block)
        else if s.readLost o head block then s.finish (s.breakStep op St.lostBlocks).afterUnits
        else if decide (r = .good) && s.readOk o head block then
          let d := (o.desc.map (·.1)).getD 0
          .next ((s.heatUp d o.req.layer head block).modWork op fun w => w.arrive u block)
        else
          let d := (o.desc.map (·.1)).getD 0
          s.finish ((s.breakStep op St.integrity).markLost d o.req.layer head block).afterUnits

/-! ### Roots and shadow comparison -/

/-- The member of a unit's gang that works on a row: row groups go to the members in turn (R125; log 34). -/
def StepWork.memberOf (w : StepWork) (u : WorkUnit) (row : Nat) : Nat := row / rowGroup (w.rowBytes u) % max 1 u.clusters.length

/-- A root with its elements replaced by what a faulty unit delivers. -/
def Partial.faulty (draw : Nat) (p : Partial) : Partial :=
  ⟨Config.faultyValue draw, Config.faultyValue draw, p.o.map fun _ => Config.faultyValue draw⟩

/-- The clusters of a gang that delivered rows other than those agreed on (R318). -/
def StepWork.wrongClusters (w : StepWork) (u : WorkUnit) (agreed : List Partial) : List (Nat × Nat) :=
  let wrong := ((List.range u.roots.length).filter fun r => u.roots[r]? != agreed[r]?).map (w.memberOf u)
  ((List.range u.clusters.length).zip u.clusters).filterMap fun (i, c) => if wrong.contains i then some c else none

/-- A confirmed mismatch (R318): each cluster whose rows disagreed is retired, an Uncontained error logged. -/
def State.mismatch (s : State) (w : StepWork) (u : WorkUnit) (agreed : List Partial) : State :=
  (w.wrongClusters u agreed).foldl (fun t c =>
    match t.clusterOf c.1 c.2 with
    | none => t
    | some k =>
      let t := t.retireCluster k.die k.phys
      let t := { t with maps := { t.maps with fault :=
        { t.maps.fault with shadowMismatches := t.maps.fault.shadowMismatches + 1 } } }
      t.note ⟨2, 1, 0x5002, 0, k.die * 68 + k.phys, 0, 0, []⟩) s

/-- The unit of another run over the same subtree. -/
def StepWork.runOf (w : StepWork) (run : Nat) (u : WorkUnit) : Option WorkUnit :=
  w.units.find? fun x => x.run == run && x.head == u.head && x.first == u.first

/-- Compare the runs of one subtree once each has its root (R318): a third run on a difference; then the root that two
agree on is used, what disagreed is retired, and without agreement the step fails. -/
def State.compareRuns (s : State) (op : Nat) (u : WorkUnit) : State :=
  match (s.op op).bind (·.step) with
  | none => s
  | some w =>
    match w.runOf 0 u, w.runOf 1 u, w.runOf 2 u with
    | some a, some b, none =>
      if !(a.rooted && b.rooted) || a.roots == b.roots then s
      else
        let n := w.units.length
        let cs := (w.covers.filter fun c => c.head == a.head && w.attends a.head c.block
          && w.attn.blockLo + a.first ≤ c.block && c.block < w.attn.blockLo + a.first + 2 ^ a.height).map (·.block)
        s.modWork op fun w => { w with units := w.units ++
          [{ a with index := n, run := 2, clusters := [], toIssue := cs, outstanding := [], rooted := false, roots := [] }] }
    | some a, some b, some c =>
      if !c.rooted then s
      else if c.roots == a.roots then s.mismatch w b a.roots
      else if c.roots == b.roots then
        (s.modUnit op a.index fun x => { x with roots := b.roots }).mismatch w a b.roots
      else s.breakStep op St.degradedRetry
    | _, _, _ => s

/-- The roots of a unit's rows; of a faulty unit one member's are wrong, and which one is open (log 8). -/
def State.rootsOf (s : State) (w : StepWork) (u : WorkUnit) (faulty : Bool) : List Partial × State :=
  if !faulty then (w.unitRoots u, s)
  else
    let (i, t) := s.choose Config.placement u.clusters.length
    (((List.range (w.unitRoots u).length).zip (w.unitRoots u)).map fun (r, p) =>
      if w.memberOf u r == i then Partial.faulty s.rng p else p, t)

/-- Whether a member of a unit's gang has not left K2 yet (R371). -/
def State.gangAsleep (s : State) (u : WorkUnit) : Bool :=
  u.clusters.any fun c => (s.clusterOf c.1 c.2).any fun k => decide (k.k ≠ .k0)

/-- SUBTREE_ROOT_DONE (R81, R137): a unit whose blocks are all in delivers its root. -/
def execSubtreeRootDone (op unit : Nat) (faulty : Bool) (s : State) : Result :=
  match s.op op with
  | none => .next s
  | some o =>
    match o.step with
    | none => .next s
    | some w =>
      match w.units.find? fun u => u.index == unit && u.resident && u.toIssue.isEmpty && u.outstanding.isEmpty
          && !(w.scoring.any (·.1 == u.head)) && !s.gangAsleep u with
      | none => .next s
      | some u =>
        let (roots, t) := s.rootsOf w u faulty
        let t := t.modUnit op unit fun x => { x with rooted := true, roots := roots }
        s.finish ((t.compareRuns op u).afterUnits)

/-! ### The end of a step -/

/-- Tally of a step: KV_READ, MACS (R296), and its shadow work (R318). -/
def State.countStepWork (s : State) (o : Op) (w : StepWork) (ws : Option WeightSet) : State :=
  let m := w.macs ws
  let s := (s.tally o.req.paddock 0 w.bytesRead).tally o.req.paddock 1 m
  if w.shadow then
    let p := if (s.pad o.req.paddock).audit then o.req.paddock else 0
    (s.tally p 0 w.bytesRead).tally p 1 m
  else s

/-- The difference between estimate and actual cost joins the deficit of a queue that is still active (R253). -/
def State.correctCost (s : State) (o : Op) (w : StepWork) : State :=
  s.modSched o.slice fun d =>
    if (d.ring o.cls).order.contains o.req.paddock then
      d.modQueue o.cls o.req.paddock fun q => { q with deficit := q.deficit + (o.cost : Int) - (ceilDiv w.bytesRead 1024 : Nat) }
    else d

/-- W_PROJ steps that admission holds go on when their layer is in a slot (R140). -/
def State.kickWeights (s : State) : State :=
  (s.eng.ops.filter fun o => decide (o.phase = .weights)).foldl (fun t o =>
    match o.step.bind (·.wProj) with
    | none => t
    | some w => if t.weightReady o.slice o.req.paddock w.1 o.req.layer then t.queueOp o
        else t.loadLayer [] o.slice o.req.paddock w.1 o.req.layer) s

/-- STEP_END (R30, R44, R253): partials and commit are both ready, the response is released. -/
def execStepEnd (op : Nat) (faulty : Bool) (s : State) : Result :=
  match s.op op with
  | none => .next s
  | some o =>
    match o.step with
    | none => .next s
    | some w =>
      if !(decide (o.phase = .admitted) && w.complete) || decide (o.commit = .pending) then .next s
      else
        let ws := (w.wProj.map (·.1)).bind s.storedSet
        let s1 := (s.correctCost o w).countStepWork o w ws
        let fault := faulty && o.status == St.ok && w.shadow
        let s2 := if fault then { s1 with maps := { s1.maps with fault := { s1.maps.fault with health := 2 } } } else s1
        let status := if fault then St.degradedRetry else o.status
        let s3 := if status == St.ok then s2.countOk o else s2
        let p := if faulty then (List.range (w.attn.qtokens * w.attn.qheads)).foldl (fun b _ =>
            b ++ (Partial.faulty s.rng (.identity w.outDim)).bytes w.outBf16) []
          else w.partials s.img.service.subtree o.req.layer ws
        let body := stepBody w.attn.range w.attn.committed w.attn.qheads w.attn.qtokens w.outDim w.outBf16 w.blocksRead p
        let t := { s3 with rng := s3.rng + 1 }
        s.finish ((t.endOp o status o.detail o.hint body).kickWeights).afterUnits

/-- CLUSTER_FAULT (R126, R311, R320): the steps with a unit on the cluster end, the cluster is retired. -/
def execClusterFault (die cluster : Nat) (s : State) : Result :=
  match s.clusterOf die cluster with
  | none => .next s
  | some k =>
    s.finish (s.retireCluster k.die k.phys).afterUnits

/-- WEIGHT_SLOT_LOAD_DONE (R140). -/
def execWeightSlotLoadDone (die slot : Nat) (s : State) : Result :=
  let done := fun (w : WeightSlot) =>
    if w.die == die && w.slot == slot && w.loading then { w with loading := false, lastUse := s.time } else w
  .next ({ s with store := { s.store with weightSlots := s.store.weightSlots.map done } }).kickWeights

end Sys2Proof.Machine
end

