-- ==== Sys2Proof/Machine/Wake.lean ====
section
/-! DEFINITION. Wake events of a node in N2 (R376–R378): a doorbell, a packet, a timer and the other sources start the
exit; commands that touch the network while it runs need to know how long it may still take. -/

namespace Sys2Proof.Machine

/-- The longest time of each step of the exit, in ns (R377). -/
def exitSteps : List Nat := [1000000, 500000, 5000000, 1000000, 500000]

/-- The longest time that the exit still takes from the beginning of a step. -/
def exitLeft (phase : Nat) : Nat := sumNat (exitSteps.drop phase)

/-- The exit begins: the cause is recorded (R376). -/
def State.beginExit (s : State) (source port : Nat) : State :=
  { s with pwr := { s.pwr with
      state := .exitingN2 0, wakeSource := source, wakePort := if source == 1 then port else 0
      wakePending := none
      exitEnd := s.time + exitLeft 0, rnrSent := [] } }

/-- Whether one of two wake events of the same cycle is the one recorded: the lower SOURCE, and of ports the lower (R376). -/
def wakesBefore (source port source' port' : Nat) : Bool := source < source' || (source == source' && source == 1 && port < port')

/-- A wake event: in N2 it starts the exit, during the entry it waits for the entry's end; after the first, only one of the
same instant is recorded in its place (R373, R376). -/
def State.wake (s : State) (source port : Nat) : State :=
  match s.pwr.state with
  | .n2 => s.beginExit source port
  | .exitingN2 0 =>
    if s.pwr.exitEnd == s.time + exitLeft 0 && wakesBefore source port s.pwr.wakeSource s.pwr.wakePort then
      { s with pwr := { s.pwr with wakeSource := source, wakePort := if source == 1 then port else 0 } }
    else s
  | .enteringN2 =>
    let first := match s.pwr.wakePending with
      | none => true
      | some (a, p, at_) => at_ == s.time && wakesBefore source port a p
    if first then
      { s with pwr := { s.pwr with
          wakePending := some (source, port, s.time), rnrSent := if s.pwr.wakePending.isSome then s.pwr.rnrSent else [] } }
    else s
  | _ => s

/-- Whether the stacks are in self-refresh: in N2, and in its exit until MEM_RDY (R372, R374, R377). -/
def State.selfRefresh (s : State) : Bool :=
  match s.pwr.state with
  | .n2 => true
  | .exitingN2 phase => phase ≤ 2
  | _ => false

/-- Whether a link is in low-power idle: in N2, but for the port that PTP runs on (R185, R372). -/
def State.linkIdle (s : State) (link : Nat) : Bool :=
  decide (s.pwr.state = .n2) && link / 4 != s.img.transport.ptpPort

/-- Whether the node is in N0 or N1. -/
def State.awake (s : State) : Bool := decide (s.pwr.state = .n0)

/-- RNR_DELAY of the answer to a packet that arrives before N0: the longest time left, in whole µs (R378). -/
def State.wakeDelay (s : State) : Nat :=
  match s.pwr.state with
  | .exitingN2 _ => max 1 (ceilDiv (s.pwr.exitEnd - s.time) 1000)
  | _ => exitLeft 0 / 1000

end Sys2Proof.Machine
end

