-- ==== Sys2Proof/Machine/Sched.lean ====
section
/-! DEFINITION. The commands of the admission and egress schedulers (R246–R266). -/

namespace Sys2Proof.Machine

/-! ### Serving -/

/-- ADMISSION_SERVE (R248, R250, R254, R255). -/
def execAdmissionServe (slice : Nat) (s : State) : Result :=
  let s := s.runHeld
  match if slice < 16 then s.sched slice else none with
  | none => .next s
  | some d =>
    match s.serve (s.regate (s.recost d)) with
    | (d, .item q (.op id) cost) =>
      let s := (s.putSched d).chargeBridle d q (cost * 1024)
      (match s.op id with
       | none => .next s
       | some o => s.finish (s.releaseOp o).place)
    | (d, .item q (.work w) cost) =>
      let s := (s.putSched d).chargeBridle d q (cost * 1024)
      .next { s with sch := { s.sch with granted := s.sch.granted ++ [w] } }
    | (d, _) => .next (s.putSched d)

/-- What leaves on a link. -/
def OutFrame.output (f : OutFrame) (link : Nat) : Output :=
  match f.kind with
  | .packet => .frame link f.bytes
  | .lldp chassis port => .lldp link chassis port
  | .beacon dest port => .beacon link dest port f.bytes
  | .delayReq => .delayReq link

/-- EGRESS_SERVE (R248, R250, R259): the frame leaves by its link, unless that is in low-power idle (R372); Tally counts
first transmissions. -/
def execEgressServe (link : Nat) (s : State) : Result :=
  match s.sched (16 + link), s.net.links.find? (·.id == link) with
  | some d, some l =>
    if !l.up || s.linkIdle link then .next s
    else
      match s.serve (s.regate d) with
      | (d, .item q (.frame f) _) =>
        let s := (s.putSched d).chargeBridle d q f.wire
        let s := if f.first then s.tally q.paddock 5 f.wire else s
        .next (s.emit (f.output link))
      | (d, _) => .next (s.putSched d)
  | _, _ => .next s

/-! ### Wheel, gates, starvation -/

/-- A queue re-enters its ring at the tail with its deficit, or stays on the wheel when its credit is not there yet
(R252, R257). -/
def State.fromWheel (s : State) (d : Sched) (q : Queue) : Sched :=
  match q.items with
  | [] => d.modQueue q.cls q.paddock fun x => { x with wheelAt := none, deficit := 0 }
  | i :: _ =>
    match (s.bridle d q.cls q.paddock).map fun b => (b.at_ s.time).wait (itemBytes i.2 i.1) with
    | some (n + 1) => d.modQueue q.cls q.paddock fun x => { x with wheelAt := some (wheelSlot s.time (s.time + n + 1)) }
    | _ =>
      s.regate (d.modQueue q.cls q.paddock fun x => { x with wheelAt := none })

/-- WHEEL_SLOT_START (R257): the earliest occupied slot of a scheduler begins. -/
def execWheelSlotStart (sched : Nat) (s : State) : Result :=
  match s.sched sched with
  | none => .next s
  | some d =>
    match minBy id (d.queues.filterMap (·.wheelAt)) with
    | none => .next s
    | some t =>
      let s := s.advanceTo t
      let due := d.queues.filter fun q => match q.wheelAt with | none => false | some w => w ≤ s.time
      .next (s.putSched (s.reclock (due.foldl s.fromWheel d)))

/-- GATE_ENTRY_BOUNDARY (R258): the next entry of the cycle applies, and work units that it lets in start (R259). -/
def execGateEntryBoundary (sched : Nat) (s : State) : Result :=
  match s.sched sched with
  | none => .next s
  | some d =>
    if d.gcl.length ≤ d.entry + 1 then .next s
    else
      let s := s.advanceTo (d.entryStart (d.entry + 1))
      let d : Sched := { d with entry := d.entry + 1 }
      .next (s.putSched (s.reclock (s.regate d))).place

/-- The start of repaying given up (R261): the scheduler at its next scheduled boundary after a time; a list that is due by then
applies. -/
def Sched.skipAhead (d : Sched) (now : Nat) : Sched :=
  let k := (now - d.base) / max 1 d.cycle + 1
  let old := { d with cycleStart := d.base + k * d.cycle, length := d.cycle, entry := 0, phaseErr := 0 }
  let d := old.adopt k
  if old.newGcl == d.newGcl then d
  else
    let from_ := (old.newGcl.map (·.1)).getD k
    if from_ == k then d else { d with cycleStart := d.base + ((now - d.base) / max 1 d.cycle + 1) * d.cycle }

/-- GCL_CYCLE_START (R261): the cycle under way ended `late` ns after its end by the list; outside N0 no lateness counts
(R374). -/
def execGclCycleStart (sched late : Nat) (s : State) : Result :=
  match s.sched sched with
  | none => .next s
  | some d =>
    let n := d.nextCycle (if s.awake then late else 0)
    let s := s.advanceTo n.cycleStart
    if d.catchupMax < n.phaseErr then
      let n := d.skipAhead s.time
      let s := s.advanceTo n.cycleStart
      s.finish (((s.putSched (s.reclock (s.regate n))).place).note ⟨0, if sched < 16 then 8 else 5, 0x4002, 0, sched, 0, 0, []⟩)
    else .next (s.putSched (s.reclock (s.regate n))).place

/-- STARVE_TIME_EXPIRY (R262, R263): a queue starves. The starved queue that is first is promoted when the bucket holds its
QUANTUM. -/
def execStarveTimeExpiry (sched cls paddock : Nat) (s : State) : Result :=
  match s.sched sched with
  | none => .next s
  | some d =>
    match d.queue cls paddock with
    | none => .next s
    | some q =>
      if !d.canStarve cls || !(d.ring cls).order.contains paddock || q.promoted || !q.counting then .next s
      else
        let s := s.advanceTo (q.since + (d.starve - q.counted))
        .next (s.putSched (s.promote d))

/-- FRONT_DELAY_RELEASE (R292, R293): the request of a slice whose front-end time ends first reaches admission. -/
def execFrontDelayRelease (slice : Nat) (s : State) : Result :=
  let due := s.eng.ops.filterMap fun o =>
    match o.phase with
    | .front t => if o.slice == slice then some (o, t) else none
    | _ => none
  match minBy (·.2) due with
  | none => .next s
  | some (o, t) =>
    let late := t < s.time
    let s1 := (s.advanceTo t)
    let s1 := { s1 with eng := { s1.eng with ops := s1.eng.ops.filter (·.id != o.id) } }
    let s1 := if late then s1.note ⟨0, 8, 0x4001, o.req.paddock, slice, 0, o.req.seq, []⟩ else s1
    s.finish (s1.considerReq o.req)

end Sys2Proof.Machine
end

