-- ==== Sys2Proof/Machine/Transport.lean ====
section
/-! DEFINITION. The receiving side of the transport (R186–R221): the way of a frame through the context cache and its
checks, data packets, control packets, the timers of a connection, and the QP context cache. -/

namespace Sys2Proof.Machine

/-- A packet that is discarded and counted (R190, R221). -/
def State.discardPkt (s : State) : State := { s with net := { s.net with discards := s.net.discards + 1 } }

/-! ### Authentication (R219, R221) -/

/-- The payload once decrypted, and the connection that has counted the packet; `none` where R221 discards it. A packet with
another TKEY is discarded and counted as one whose tag fails (DESIGN CHOICE, log 129: R221 has TKEY checked and lists no
consequence of its own for it). -/
def Qp.open_ (q : Qp) (f : Frame) : Option (Bytes × Qp) :=
  let h := hdr f
  if h.tkey != q.myTkey || h.enc != q.enc then none
  else if !q.enc then some (f.payload, q)
  else
    let n := f.txCount
    let k := q.packetKey (if q.initiator then 1 else 0)
    let iv := k.2 ++ toBe 8 n
    let plain := Config.gcmCipher k.1 iv f.payload
    if f.tag != Config.gcmTag k.1 iv (f.head ++ toBe 8 n) plain || n + 1024 < q.rx.txHigh || q.rx.txSeen.contains n then none
    else
      let high := max q.rx.txHigh n
      some (plain, { q with rx := { q.rx with
        txHigh := high, txSeen := (q.rx.txSeen.filter fun x => high ≤ x + 1024) ++ [n] } })

/-! ### The sender: acknowledgements and go-back (R202, R204) -/

/-- on_ack() of R204. -/
def growWindow : Nat → Nat → Nat → Nat × Nat
  | 0, credit, w => (credit, w)
  | fuel + 1, credit, w => if w ≤ credit then growWindow fuel (credit - w) (min (w + 1) 1024) else (credit, w)

/-- One past the last PSN sent. -/
def Qp.sentEnd (q : Qp) : Nat := ((q.tx.ready.head?).map (·.psn)).getD q.tx.nextPsn

/-- The oldest PSN that is not acknowledged. -/
def Qp.una (q : Qp) : Nat := ((q.tx.unacked.head?).map (·.psn)).getD q.sentEnd

/-- (b − a) mod 2^24. -/
def psnDistance (a b : Nat) : Nat := (b + 2 ^ 24 - a % 2 ^ 24) % 2 ^ 24

/-- Whether a PSN lies between the oldest unacknowledged one and one past the last sent. -/
def Qp.inSpan (q : Qp) (p : Nat) : Bool := psnDistance q.una p ≤ psnDistance q.una q.sentEnd

/-- Acknowledge every packet below a PSN; the flag says whether one was not acknowledged before. -/
def State.ackBelow (s : State) (qpn p : Nat) : State × Bool :=
  match s.qp qpn with
  | none => (s, false)
  | some q =>
    let done := q.tx.unacked.takeWhile fun x => precedes x.psn p
    if done.isEmpty then (s, false)
    else
      let rest := q.tx.unacked.drop done.length
      let sample := ((done.filter fun x => bit x.flags 5 && !x.resent).getLast?).map fun x => s.time - x.sentAt
      let srtt := match sample with
        | none => q.tx.srtt
        | some 0 => q.tx.srtt
        | some n => q.tx.srtt - q.tx.srtt / 8 + n / 8
      let g := growWindow (q.tx.credit + done.length) (q.tx.credit + done.length) q.tx.w
      let rto := s.rtoOf q
      (s.modQp qpn fun x => { x with tx := { x.tx with
        unacked := rest, srtt := srtt, credit := g.1, w := g.2, retries := 0
        rtoAt := if rest.isEmpty then none else some (s.time + rto) } }, true)

/-- Resend every unacknowledged packet in PSN order (R202). -/
def State.resendAll (s : State) (qpn : Nat) : State :=
  match s.qp qpn with
  | none => s
  | some q =>
    let again := q.tx.unacked.map fun (p : OutPkt) => { p with resent := true, sentAt := s.time }
    let rto := s.rtoOf q
    let s := s.modQp qpn fun x => { x with tx := { x.tx with
      unacked := again, rtoAt := if again.isEmpty then none else some (s.time + rto) } }
    again.foldl (fun t p => t.sendPkt qpn p false) s

/-- A go-back counts one retry; past RETRY_MAX the connection enters ERROR (R202, R216). -/
def State.goBack (s : State) (qpn : Nat) (shrink : Bool) : State :=
  match s.qp qpn with
  | none => s
  | some q =>
    if s.img.transport.retryMax < q.tx.retries + 1 then s.failConn qpn
    else
      let s := s.modQp qpn fun x => { x with tx := { x.tx with
        retries := x.tx.retries + 1, w := if shrink then 4 else x.tx.w, credit := if shrink then 0 else x.tx.credit } }
      s.resendAll qpn

/-- ACK (R188, R202, R204). -/
def State.takeAck (s : State) (q : Qp) (h : PktHead) : State :=
  let p := (h.psn + 1) % 2 ^ 24
  if !q.inSpan p then s else ((s.ackBelow q.qpn p).1).pump q.qpn

/-- NAK (R189, R202). -/
def State.takeNak (s : State) (q : Qp) (h : PktHead) : State :=
  if h.offset % 256 != 0 then s.failConn q.qpn
  else if !q.inSpan h.psn then s
  else
    let t := (s.ackBelow q.qpn h.psn).1
    match t.qp q.qpn with
    | none => t
    | some x => if x.tx.unacked.isEmpty then t.pump q.qpn else (t.goBack q.qpn false).pump q.qpn

/-- RNR_NAK (R199). -/
def State.takeRnr (s : State) (q : Qp) (h : PktHead) : State :=
  if !q.inSpan h.psn then s
  else
    let t := (s.ackBelow q.qpn h.psn).1
    let n := if q.tx.rnrCount != 0 && q.tx.rnrPsn == h.psn then q.tx.rnrCount + 1 else 1
    if s.img.transport.rnrRetryMax != 15 && s.img.transport.rnrRetryMax < n then t.failConn q.qpn
    else
      t.modQp q.qpn fun x => { x with tx := { x.tx with
        rnrCount := n, rnrPsn := h.psn, rnrUntil := some (s.time + max 1 (h.offset % 65536) * 1000), rtoAt := none } }

/-- CNP: on_cnp() of R204. -/
def State.takeCnp (s : State) (q : Qp) : State :=
  if s.time < q.tx.holdUntil then s
  else
    s.modQp q.qpn fun x => { x with tx := { x.tx with
      w := max 4 (x.tx.w - x.tx.w / 4), credit := 0, holdUntil := s.time + max x.tx.srtt 8000 } }

/-! ### The receiver -/

/-- Whether opcode, flags, lengths and offset of a packet obey R187, R191 and R208: the NAK syndrome where not. -/
def Qp.pktFault (q : Qp) (h : PktHead) (payload : Bytes) : Option Nat :=
  let n := payload.length
  if (h.final && !h.last) || h.spray != q.spray || !q.admits h.opcode then some 0x01
  else if 67108864 < h.msgLen || (q.spray && 1024 < ceilDiv h.msgLen q.mtu) then some 0x02
  else if h.len != n || (h.msgLen == 0) != (h.opcode == 0x61) then some 0x01
  else if h.opcode == 0x42 && h.last && !h.final then some 0x01
  else if h.opcode == 0x41 && h.final then some 0x01
  else if h.offset % q.mtu != 0 || q.mtu < n || h.msgLen < h.offset + n then some 0x01
  else if h.last != (h.offset + n == h.msgLen) || (!h.last && n != q.mtu) || h.first != (h.offset == 0) then some 0x01
  else none

/-- Free staging bytes for a connection: its home slice's, or its paddock's part of them under sealed policy (R198,
R292). -/
def State.stagingFree (s : State) (q : Qp) : Nat :=
  match s.sliceCfg q.homeSlice with
  | none => 0
  | some c =>
    let used := fun (x : Qp) => sumNat (x.rx.used.map (·.2))
    if c.policy != 0 then
      c.staging * c.partOf q.paddock / 256 - sumNat ((s.net.qps.filter fun x => x.homeSlice == c.id && x.paddock == q.paddock).map used)
    else c.staging - sumNat ((s.net.qps.filter fun x => x.homeSlice == c.id).map used)

/-- Whether a message can open: a receive slot, staging bytes and, when sprayed, a bitmap (R199, R209). -/
def State.canOpen (s : State) (q : Qp) (h : PktHead) : Bool :=
  q.rx.used.length < q.rx.slots && h.msgLen ≤ s.stagingFree q
    && (!q.spray || (q.rx.msgs.length < 64 && sumNat ((s.net.qps.filter (·.spray)).map fun x => x.rx.msgs.length) < 4096))

/-- Messages begun after a DISCONNECT are acknowledged and not delivered (R197). -/
def Qp.drained (q : Qp) (opcode : Nat) : Bool :=
  opcode != 0x61 && (decide (q.state = .draining) || q.rx.drainFrom.isSome)

/-- An accepted packet waits for its ACK: it is counted, and ACK_DELAY runs from the first such one (R201). -/
def State.noteAccept (s : State) (qpn : Nat) : State :=
  s.modQp qpn fun x => { x with rx := { x.rx with
    sinceAck := x.rx.sinceAck + 1
    ackAt := match x.rx.ackAt with | some t => some t | none => some (s.time + s.img.transport.ackDelay) } }

/-- What follows an acceptance: the ACK that ACK_REQ or ACK_EVERY asks for, unless the ACK of a FINAL that took effect covers
the packet already (R201). -/
def State.afterAccept (s : State) (qpn : Nat) (h : PktHead) : State :=
  match s.qp qpn with
  | none => s
  | some q =>
    if q.rx.sinceAck == 0 then s
    else if h.ackReq || s.img.transport.ackEvery ≤ q.rx.sinceAck then s.sendAck qpn
    else s

/-- ACK of a duplicate, unless one was sent within the last 1 µs (R200). -/
def State.dupAck (s : State) (q : Qp) : State :=
  match q.rx.lastAck with
  | some t => if s.time < t + 1000 then s else s.sendAck q.qpn
  | none => s.sendAck q.qpn

/-- RNR_NAK for the packet that opens a message (R199). -/
def State.refuseOpen (s : State) (qpn psn delayUs : Nat) : State :=
  let s := s.modQp qpn fun x => { x with rx := { x.rx with refusing := some psn } }
  s.control qpn 3 psn (max 1 (min 65535 delayUs))

/-- The message that a packet belongs to, with the packet placed in it. -/
def InMsg.take (m : InMsg) (h : PktHead) (mtu : Nat) (payload : Bytes) : InMsg :=
  { m with
    got := m.got ++ [(h.offset / mtu, payload)]
    final := m.final || h.final
    lastPsn := if h.last then h.psn else m.lastPsn }

/-- Accept a packet into its message (opened where `m` is none): slot, bitmap, Tally and the priority of its answer. -/
def State.acceptInto (s : State) (q : Qp) (m : Option InMsg) (f : Frame) (payload : Bytes) : State × InMsg :=
  let h := hdr f
  let first := (h.psn + 2 ^ 24 - h.offset / q.mtu % 2 ^ 24) % 2 ^ 24
  let old : InMsg := m.getD ⟨h.msn, h.opcode, h.msgLen, first, [], false, 0⟩
  let new := old.take h q.mtu payload
  let opens := m.isNone && !q.drained h.opcode
  let s := s.modQp q.qpn fun x => { x with rx := { x.rx with
    msgs := if m.isSome then updateFirst (·.msn == h.msn) (fun _ => new) x.rx.msgs else x.rx.msgs ++ [new]
    used := if opens then x.rx.used ++ [(h.msn, h.msgLen)] else x.rx.used
    prios := if h.last && (opens || x.rx.used.any (·.1 == h.msn)) then x.rx.prios ++ [(h.msn, f.pcp)] else x.rx.prios } }
  (s.tally q.paddock 4 f.wire, new)

/-- A DATA packet of a connection that is not sprayed (R200). -/
def State.takeOrdered (s : State) (q : Qp) (f : Frame) (payload : Bytes) : State :=
  let h := hdr f
  if precedes h.psn q.rx.expect then s.dupAck q
  else if h.psn != q.rx.expect then
    if q.rx.nakSent then s
    else
      let s := s.modQp q.qpn fun x => { x with rx := { x.rx with nakSent := true } }
      s.control q.qpn 2 q.rx.expect 0x00
  else
    match q.pktFault h payload with
    | some x => s.nakFail q.qpn h.psn x
    | none =>
      let cur := q.rx.msgs.head?
      let fits := match cur with
        | none => h.first && h.msn == q.rx.nextMsn
        | some m => !h.first && h.msn == m.msn && h.opcode == m.opcode && h.msgLen == m.len
            && h.offset == psnDistance m.firstPsn h.psn * q.mtu
      if !fits then s.nakFail q.qpn h.psn 0x01
      else if cur.isNone && !q.drained h.opcode && !s.canOpen q h then s.refuseOpen q.qpn h.psn s.img.transport.rnrDelay
      else
        let (s, m) := s.acceptInto q cur f payload
        let s := (s.noteAccept q.qpn).modQp q.qpn fun x => { x with rx := { x.rx with
          expect := (h.psn + 1) % 2 ^ 24, nakSent := false
          nextMsn := if h.last then (h.msn + 1) % 2 ^ 24 else x.rx.nextMsn } }
        let s := if h.last then s.deliverOrHold q.qpn m else s
        s.afterAccept q.qpn h

/-- E moved past every PSN that is accepted without a gap. -/
def advanceE : Nat → Nat → List Nat → Nat × List Nat
  | 0, e, acc => (e, acc)
  | fuel + 1, e, acc => if acc.contains e then advanceE fuel ((e + 1) % 2 ^ 24) (acc.filter (· != e)) else (e, acc)

/-- Deliver what is complete (R209, R211). -/
def State.deliverReady (s : State) (qpn : Nat) : State :=
  match s.qp qpn with
  | none => s
  | some q =>
    ((q.rx.msgs.filter fun m => m.got.length == q.packets m).foldl (fun t m => t.deliverOrHold qpn m) s).releaseHeld qpn

/-! ### Message order on a sprayed connection (R187) -/

/-- Whether PSNs between two messages fit the messages between them: none between neighbours, else one each at least. -/
def gapFits (apart gap : Nat) : Bool := if apart == 1 then gap == 0 else apart ≤ gap + 1 && gap < 8192

/-- Whether a message takes an MSN that is due and not used, and PSNs that follow its MSN. -/
def Qp.spanFits (q : Qp) (x : Span) : Bool :=
  let d := psnDistance q.rx.nextMsn x.msn
  d < 2 ^ 23 && gapFits (d + 1) (psnDistance q.rx.nextFirst x.first) && q.rx.spans.all fun y =>
    let e := psnDistance x.msn y.msn
    e != 0 && (if e < 2 ^ 23 then gapFits e (psnDistance (x.first + x.packets) y.first)
      else gapFits (psnDistance y.msn x.msn) (psnDistance (y.first + y.packets) x.first))

/-- Messages without a gap from the next MSN on are behind. -/
def advanceSpans : Nat → RxSide → RxSide
  | 0, r => r
  | fuel + 1, r =>
    match r.spans.find? (·.msn == r.nextMsn) with
    | none => r
    | some x => advanceSpans fuel { r with
        nextMsn := (r.nextMsn + 1) % 2 ^ 24, nextFirst := (x.first + x.packets) % 2 ^ 24
        spans := r.spans.filter (·.msn != x.msn) }

/-- The PSNs of the message that a packet opens. -/
def Qp.spanOf (q : Qp) (h : PktHead) : Span :=
  ⟨h.msn, (h.psn + 2 ^ 24 - h.offset / q.mtu % 2 ^ 24) % 2 ^ 24, max 1 (ceilDiv h.msgLen q.mtu)⟩

/-- A DATA packet of a sprayed connection (R209–R211). -/
def State.takeSprayed (s : State) (q : Qp) (f : Frame) (payload : Bytes) : State :=
  let h := hdr f
  let e := q.rx.expect
  if precedes h.psn e || q.rx.accepted.contains h.psn then s.dupAck q
  else if 8192 ≤ psnDistance e h.psn then s
  else
    match q.pktFault h payload with
    | some x => s.nakFail q.qpn h.psn x
    | none =>
      let cur := q.rx.msgs.find? (·.msn == h.msn)
      let fits := match cur with
        | none => q.spanFits (q.spanOf h)
        | some m => h.opcode == m.opcode && h.msgLen == m.len && h.offset == psnDistance m.firstPsn h.psn * q.mtu
      if !fits then s.nakFail q.qpn h.psn 0x01
      else if cur.isNone && !q.drained h.opcode && !s.canOpen q h then s.refuseOpen q.qpn h.psn s.img.transport.rnrDelay
      else
        let (s, _) := s.acceptInto q cur f payload
        let s := if cur.isSome then s else s.modQp q.qpn fun x => { x with
          rx := advanceSpans (x.rx.spans.length + 1) { x.rx with spans := x.rx.spans ++ [q.spanOf h] } }
        let (e2, beyond) := advanceE (q.rx.accepted.length + 1) e (q.rx.accepted ++ [h.psn])
        let timer := some (s.time + s.img.transport.sprayTimeout)
        let s := s.modQp q.qpn fun x => { x with rx := { x.rx with
          expect := e2, accepted := beyond, nakSent := if e2 == e then x.rx.nakSent else false
          hole := if beyond.isEmpty then none else if e2 != e then timer
            else match x.rx.hole with | some t => some t | none => if x.rx.nakSent then none else timer } }
        ((s.noteAccept q.qpn).deliverReady q.qpn).afterAccept q.qpn h

/-- A DATA packet of a connection that works (R199, R205). -/
def State.takeData (s : State) (q : Qp) (f : Frame) (payload : Bytes) : State :=
  let h := hdr f
  let due := match q.rx.lastCnp with | none => true | some t => t + s.img.transport.cnpInterval ≤ s.time
  let s := if f.ce && due then
      (s.modQp q.qpn fun x => { x with rx := { x.rx with lastCnp := some s.time } }).control q.qpn 4 h.psn 0
    else s
  if (match q.rx.refusing with | some p => p != h.psn | none => false) then s
  else if !s.awake then
    if s.pwr.rnrSent.contains q.qpn then s
    else ({ s with pwr := { s.pwr with rnrSent := s.pwr.rnrSent ++ [q.qpn] } }).refuseOpen q.qpn h.psn s.wakeDelay
  else
    let s := s.modQp q.qpn fun x => { x with rx := { x.rx with refusing := none } }
    match s.qp q.qpn with
    | none => s
    | some q => if q.spray then s.takeSprayed q f payload else s.takeOrdered q f payload

/-! ### Misses (R213, R214) -/

/-- Whether a priority is SEALED_TC's while a slice has a sealed policy: no XOFF is ever sent on it (R294). -/
def State.sealedPrio (s : State) (prio : Nat) : Bool :=
  s.img.slices.any (·.policy != 0) && s.prioOf s.img.service.sealedTc == prio

/-- A packet waits at the head of its stopped ingress queue; XOFF goes out for a priority with PFC on (R214). -/
def State.blockFrame (s : State) (f : Frame) : State :=
  let s := { s with net := { s.net with blocked := s.net.blocked ++ [(f.link / 4, f)] } }
  let told := s.net.links.any fun l => l.id == f.link && l.xoffSent.contains f.pcp
  if told || !s.img.transport.pfcOn.contains f.pcp || s.sealedPrio f.pcp then s
  else (s.modLink f.link fun l => { l with xoffSent := l.xoffSent ++ [f.pcp] }).emit (.pfc f.link f.pcp true)

/-- A packet whose context is not cached (R213, R214). -/
def State.missFrame (s : State) (qpn : Nat) (f : Frame) : State :=
  let port := f.link / 4
  if (s.net.miss.filter (·.1 == port)).length < 512 then
    ({ s with net := { s.net with miss := s.net.miss ++ [(port, f)] } }).startFetch port qpn
  else s.blockFrame f

/-! ### The way of a frame -/

/-- What a packet does once its context is at hand (R217, R221). -/
def State.takePacket (s : State) (qpn : Nat) (f : Frame) : State :=
  match s.qp qpn with
  | none => s.discardPkt
  | some q =>
    match q.open_ f with
    | none => s.discardPkt
    | some (payload, q2) =>
      let h := hdr f
      let s := (s.modQp qpn fun _ => q2).touchContext qpn
      match q2.state with
      | .quarantine => s.discardPkt
      | .error =>
        let due := match q2.rx.lastErrNak with | none => true | some t => t + 10000 ≤ s.time
        if h.type == 2 || !due then s
        else (s.modQp qpn fun x => { x with rx := { x.rx with lastErrNak := some s.time } }).control qpn 2 h.psn 0x04
      | _ =>
        (match h.type with
         | 0 => s.takeData q2 f payload
         | 1 => (s.tally q2.paddock 4 f.wire).takeAck q2 h
         | 2 => (s.tally q2.paddock 4 f.wire).takeNak q2 h
         | 3 => (s.tally q2.paddock 4 f.wire).takeRnr q2 h
         | 4 => (s.tally q2.paddock 4 f.wire).takeCnp q2
         | _ => s.nakFail qpn h.psn 0x01)

/-- Whether a frame has the framing of R182: its checks hold, it is tagged as the image sets for the port, and its UDP
destination port is the one in force. -/
def State.wellFramed (s : State) (f : Frame) : Bool :=
  f.framed && f.tagged == s.taggedLink f.link && f.udpPort == s.img.transport.udpPort

/-- A frame on a link: framing (R182), the ingress queue (R214), the queue pair (R190) and its context (R213). -/
def State.receiveFrame (s : State) (f : Frame) : State :=
  let h := hdr f
  match s.net.links.find? fun l => l.id == f.link && l.up with
  | none => s
  | some _ =>
    if !s.wellFramed f then s.modLink f.link fun l => { l with discarded := l.discarded + 1 }
    else if s.net.blocked.any fun x => x.1 == f.link / 4 && x.2.pcp == f.pcp then
      { s with net := { s.net with blocked := s.net.blocked ++ [(f.link / 4, f)] } }
    else
      let s := if h.type == 0 then s.wake 1 (f.link / 4) else s
      match s.qp h.dest with
      | none => s.discardPkt
      | some q =>
        if h.dest < 2 || decide (q.state = .quarantine) then s.discardPkt
        else
          let s := if h.type == 0 && q.service != 1 then { s with pwr := { s.pwr with idleSince := s.time } } else s
          match s.atHand h.dest with
          | some t => t.takePacket h.dest f
          | none => s.missFrame h.dest f

/-- The ingress queues of a port go on while the miss buffer has room; XON follows (R214). -/
def State.unblock (s : State) (port : Nat) : State :=
  let mine := s.net.blocked.filter (·.1 == port)
  let s := { s with net := { s.net with blocked := s.net.blocked.filter (·.1 != port) } }
  let s := mine.foldl (fun t x => t.receiveFrame x.2) s
  let free := (s.net.links.filter (·.id / 4 == port)).map fun l =>
    (l.xoffSent.filter fun p => !(s.net.blocked.any fun x => x.2.link == l.id && x.2.pcp == p)).map fun p => (l.id, p)
  free.flatten.foldl (fun t x =>
    (t.modLink x.1 fun l => { l with xoffSent := l.xoffSent.filter (· != x.2) }).emit (.pfc x.1 x.2 false)) s

/-- Fetches for the packets that still wait for one, in either direction (R213). -/
def State.moreFetches (s : State) : State :=
  let s := s.net.miss.foldl (fun t x => t.startFetch x.1 (hdr x.2).dest) s
  let out := s.net.qps.filter fun q => !(q.tx.control.isEmpty && q.tx.ready.isEmpty) && !s.net.cached.contains q.qpn
  out.foldl (fun t q => t.startFetch (q.homePort / 4) q.qpn) s

/-! ### The commands -/

/-- Whether a frame is a DATA packet (or one of a reserved type) for a connection that is sprayed as asked. -/
def State.isData (s : State) (f : Frame) (spray : Bool) : Bool :=
  ((hdr f).type == 0 || 5 ≤ (hdr f).type)
    && (match s.qp (hdr f).dest with | none => (hdr f).spray == spray | some q => q.spray == spray)

/-- DATA_PACKET (R200). -/
def execDataPacket (f : Frame) (s : State) : Result :=
  if s.isData f false then .next (s.receiveFrame f) else .next s

/-- SPRAYED_DATA_PACKET (R209–R211). -/
def execSprayedDataPacket (f : Frame) (s : State) : Result :=
  if s.isData f true then .next (s.receiveFrame f) else .next s

/-- ACK_RECEIVE (R202, R204). -/
def execAckReceive (f : Frame) (s : State) : Result := if (hdr f).type == 1 then .next (s.receiveFrame f) else .next s

/-- NAK_RECEIVE (R189, R202). -/
def execNakReceive (f : Frame) (s : State) : Result := if (hdr f).type == 2 then .next (s.receiveFrame f) else .next s

/-- RNR_NAK_RECEIVE (R199). -/
def execRnrNakReceive (f : Frame) (s : State) : Result := if (hdr f).type == 3 then .next (s.receiveFrame f) else .next s

/-- CNP_RECEIVE (R204). -/
def execCnpReceive (f : Frame) (s : State) : Result := if (hdr f).type == 4 then .next (s.receiveFrame f) else .next s

/-- RTO_EXPIRY (R202, R204). -/
def execRtoExpiry (qpn : Nat) (s : State) : Result :=
  match s.qp qpn with
  | none => .next s
  | some q =>
    match q.tx.rtoAt with
    | none => .next s
    | some t => if q.works then .next (((s.advanceTo t).goBack qpn true).pump qpn) else .next s

/-- ACK_DELAY_EXPIRY (R201). -/
def execAckDelayExpiry (qpn : Nat) (s : State) : Result :=
  match s.qp qpn with
  | none => .next s
  | some q =>
    match q.rx.ackAt with
    | none => .next s
    | some t => if q.works then .next ((s.advanceTo t).sendAck qpn) else .next s

/-- HOLE_TIMER_EXPIRY (R210): one NAK for E, not repeated for the same E. -/
def execHoleTimerExpiry (qpn : Nat) (s : State) : Result :=
  match s.qp qpn with
  | none => .next s
  | some q =>
    match q.rx.hole with
    | none => .next s
    | some t =>
      let s := s.advanceTo t
      let s := s.modQp qpn fun x => { x with rx := { x.rx with hole := none, nakSent := true } }
      if q.rx.nakSent || !q.works then .next s else .next (s.control qpn 2 q.rx.expect 0x00)

/-- RNR_DELAY_EXPIRY (R199): the sender resends from the refused PSN; no retry is counted (R202). -/
def execRnrDelayExpiry (qpn : Nat) (s : State) : Result :=
  match s.qp qpn with
  | none => .next s
  | some q =>
    match q.tx.rnrUntil with
    | none => .next s
    | some t =>
      let s := (s.advanceTo t).modQp qpn fun x => { x with tx := { x.tx with rnrUntil := none } }
      if q.works then .next ((s.resendAll qpn).pump qpn) else .next s

/-- A connection leaves for QUARANTINE: its context is given up and its messages are gone (R197). -/
def State.quarantine (s : State) (qpn : Nat) : State :=
  let s := s.connError qpn
  let s := s.modQp qpn fun x => { x with state := .quarantine, stateUntil := s.time + s.img.transport.quarantine, pinned := false }
  State.reconnect { s with net := { s.net with
    cached := s.net.cached.filter (· != qpn), evicting := s.net.evicting.filter (· != qpn) } }

/-- QP_ERROR_HOLD_EXPIRY (R197, R217). -/
def execQpErrorHoldExpiry (qpn : Nat) (s : State) : Result :=
  match s.qp qpn with
  | none => .next s
  | some q =>
    match q.state with
    | .error => .next ((s.advanceTo q.stateUntil).quarantine qpn)
    | .draining => if q.tx.sentDisconnect then .next ((s.advanceTo q.stateUntil).quarantine qpn) else .next s
    | _ => .next s

/-- QPN_QUARANTINE_EXPIRY (R197): the QPN is free for reassignment. -/
def execQpnQuarantineExpiry (qpn : Nat) (s : State) : Result :=
  match s.qp qpn with
  | none => .next s
  | some q =>
    match q.state with
    | .quarantine =>
      let s := s.advanceTo q.stateUntil
      .next { s with net := { s.net with qps := s.net.qps.filter (·.qpn != qpn) } }
    | _ => .next s

/-- CONTEXT_FETCH_DONE (R213–R215): the held packets go on in arrival order, and what waits for egress is sent; a context
that fails puts its connection into ERROR first. While no place is free, the fetch waits for one. -/
def execContextFetchDone (qpn : Nat) (good : Bool) (s : State) : Result :=
  if !(s.net.fetches.any (·.2 == qpn)) || !s.awake then .next s
  else if !s.contextFits qpn then .next s.makeRoom
  else
    let held := s.net.miss.filter fun x => (hdr x.2).dest == qpn
    let ports := (held.map (·.1)).eraseDups
    let t := s.modQp qpn fun q => { q with wrapped := [] }
    let t := { t with net := { t.net with
      cached := t.net.cached.filter (· != qpn) ++ [qpn]
      fetches := t.net.fetches.filter (·.2 != qpn)
      miss := t.net.miss.filter fun x => (hdr x.2).dest != qpn } }
    let t := if good then t else t.failConn qpn
    let t := held.foldl (fun u x => u.takePacket qpn x.2) t
    let t := (t.flushControl qpn).pump qpn
    .next ((ports.foldl (fun u p => u.unblock p) t).moreFetches)

/-- CONTEXT_WRITE_BACK_DONE (R212, R215): the context is in the store, its secrets wrapped; a packet that waited for it has
it fetched again. -/
def execContextWriteBackDone (qpn : Nat) (s : State) : Result :=
  if s.net.evicting.head? != some qpn then .next s
  else
    let t := s.modQp qpn fun q => { q with wrapped := s.wrapContext q }
    .next ({ t with net := { t.net with evicting := t.net.evicting.filter (· != qpn) } }).moreFetches

end Sys2Proof.Machine
end

