-- ==== Sys2Proof/Machine/Connect.lean ====
section
/-! DEFINITION. CONNECT at both ends (R190–R196, R220, R227) and DISCONNECT (R197). -/

namespace Sys2Proof.Machine

/-! ### Fields of a CONNECT body (R193) -/

/-- Fields of a CONNECT body. -/
def conPhase (b : Bytes) : Nat := be b 0 1
def conService (b : Bytes) : Nat := be b 1 1
def conPaddock (b : Bytes) : Nat := be b 2 2 % 4096
def conInitQpn (b : Bytes) : Nat := be b 4 4 % 2 ^ 24
def conRespQpn (b : Bytes) : Nat := be b 8 4 % 2 ^ 24
def conVersions (b : Bytes) : Nat := be b 12 1 % 8
def conFlags (b : Bytes) : Nat := be b 13 1
def conSlots (b : Bytes) : Nat := be b 14 2
def conPsn (b : Bytes) : Nat := be b 16 4 % 2 ^ 24
def conTkey (b : Bytes) : Nat := be b 20 4
def conSrcNode (b : Bytes) : Nat := be b 24 2
def conNonce (b : Bytes) : Bytes := sub b 32 16
def conProof (b : Bytes) : Bytes := sub b 48 16

/-- The highest version whose bit is set; this node sets all three (R194). -/
def highestVersion (v : Nat) : Nat := if bit v 2 then 4 else if bit v 1 then 2 else if bit v 0 then 1 else 0

/-- A body of a given phase that repeats SERVICE, PADDOCK and INIT_QPN without their reserved bits (R7); the fields that R193
does not state for its phase are 0, but for VERSIONS (log 45). -/
def conBody (phase : Nat) (b : Bytes) (respQpn versions flags slots psn tkey srcNode status : Nat) (nonce proof : Bytes) : Bytes :=
  toBe 1 phase ++ toBe 1 (conService b) ++ toBe 2 (conPaddock b) ++ toBe 4 (conInitQpn b) ++ toBe 4 respQpn ++ toBe 1 versions
      ++ toBe 1 flags ++ toBe 2 slots ++ toBe 4 psn ++ toBe 4 tkey
    ++ toBe 2 srcNode ++ toBe 1 status ++ zeros 5 ++ sub nonce 0 16 ++ sub proof 0 16

/-- SRC_NODE of the node's own bodies: its node ID on SERVICE 2, otherwise 0 (R193). -/
def State.conNode (s : State) (b : Bytes) : Nat := if conService b == 2 then s.boot.nodeId else 0

/-- REFUSE with a status (R196). -/
def State.conRefuse (s : State) (c : Connect) (status : Nat) : State :=
  s.sendConnect s.someLink c.src (conInitQpn c.body) (conBody 5 c.body 0 7 0 0 0 0 (s.conNode c.body) status [] [])

/-- The node's nonce (R192). -/
def State.conNonceN (s : State) (src b : Bytes) : Bytes :=
  sub (Config.hmacSha256 s.sec.connectSecret (src ++ conNonce b ++ connectFields b ++ toBe 8 (s.time / 100000000))) 0 16

/-- Whether CONNECT packets are answered: O2 runs, and the node is awake (R353, R378). -/
def State.conServes (s : State) : Bool := !s.restarting 2 && s.awake

/-- The first two rows of R196. -/
def State.conEarly (s : State) (b : Bytes) : Option Nat :=
  if conVersions b == 0 then some St.version
  else if conService b != 1 && conPaddock b != 0 && decide ((s.pad (conPaddock b)).state = .teardown) then some St.busyTeardown
  else none

/-- HELLO (R192, R196). -/
def execHello (c : Connect) (s : State) : Result :=
  if !s.awake then .next (s.wake 1 0)
  else if c.qp > 1 || conPhase c.body != 1 || !s.conServes then .next s
  else
    match s.conEarly c.body with
    | some st => .next (s.conRefuse c st)
    | none =>
      let n := s.conNonceN c.src c.body
      let keep := s.net.issued.filter fun (x : Issued) => s.time ≤ x.at_ + 1200000000
      let x : Issued := ⟨c.src, conNonce c.body, n, connectFields c.body, s.time⟩
      let t := { s with net := { s.net with issued := keep ++ [x] } }
      .next (t.sendConnect t.someLink c.src (conInitQpn c.body) (conBody 2 c.body 0 7 0 0 0 0 (t.conNode c.body) 0 n []))

/-! ### PROOF -/

/-- The window that a SERVICE 2 CONNECT names (R226). -/
def State.conWindow (s : State) (b : Bytes) : Option Window :=
  (ledgerSearch s.maps.ledger (windowKeyBits (conPaddock b) (conSrcNode b)) 0).bind fun e =>
    (s.window (e.result % 65536)).filter fun w => decide (w.state = .active)

/-- The key that a proof is checked under; `none` where the service is not offered, the paddock is absent, the window
is missing or without a key, or ENC is missing for a sealed paddock (R195, R226, R278). A SERVICE 1 connection has no
transport key (R191): with ENC in force its packet keys come from the empty key (DESIGN CHOICE, log 130). -/
def State.conKey (s : State) (c : Connect) : Option Bytes :=
  let b := c.body
  let enc := bit (conFlags b) 0
  match conService b with
  | 0 =>
    let p := s.pad (conPaddock b)
    if c.qp != 0 || conPaddock b == 0 then none
    else
      (match p.state with
       | .open_ => if p.ktp.isEmpty then none else some p.ktp
       | .sealed => if p.ktp.isEmpty || !enc then none else some p.ktp
       | _ => none)
  | 1 => if c.qp != 1 || conPaddock b != 0 then none else some []
  | 2 =>
    if c.qp != 0 then none
    else
      (match s.conWindow b with
       | none => none
       | some w => if w.key.isEmpty || (s.sealedPad w.localPaddock && !enc) then none else some w.key)
  | _ => none

/-- Reserved bits and ranges (fourth row of R196). -/
def conBad (b : Bytes) : Bool :=
  sub b 27 5 != zeros 5 || 4096 ≤ be b 2 2 || 2 ^ 24 ≤ be b 4 4 || be b 8 4 != 0 || 8 ≤ be b 12 1 || 8 ≤ conFlags b
    || conSlots b == 0 || 1024 < conSlots b || 2 ^ 24 ≤ be b 16 4 || be b 26 1 != 0 || (conService b != 2 && conSrcNode b != 0)
    || b.length != 64

/-- Whether a paddock may open one more connection (R190, R196, R292, R298). -/
def State.conQuotaLeft (s : State) (paddock : Nat) : Bool :=
  let own := (s.pad paddock).config.connQuota
  let quota := if paddock == 0 || own == 0 then s.img.service.connQuota else own
  s.conCount paddock < quota && s.contextPartLeft paddock

/-- What PROOF comes to: a refusal, or the key and N_i. -/
def State.conJudge (s : State) (c : Connect) : Except Nat (Bytes × Bytes) :=
  let b := c.body
  match s.conEarly b with
  | some st => .error st
  | none =>
    let mine := s.net.issued.find? fun (x : Issued) =>
      x.src == c.src && x.nonceN == conNonce b && x.fields == connectFields b && s.time ≤ x.at_ + 200000000
    match mine, s.conKey c with
    | some x, some key =>
      if conService b != 1 && conProof b != initiatorProof key x.nonceI x.nonceN b then .error St.denied
      else if conBad b then .error St.badParam
      else if !s.conQuotaLeft (conPaddock b) then .error St.quota
      else .ok (key, x.nonceI)
    | _, _ => .error St.denied

/-- The home slice of a connection: the paddock's slice with the most free staging bytes, the lower one among equals
(R198). -/
def State.conHome (s : State) (q : Qp) : Nat :=
  let mine := s.img.slices.filter fun c => q.paddock == 0 || bit (s.pad q.paddock).config.sliceMask c.id
  ((maxBy (fun (c : SliceCfg) => s.stagingFree { q with homeSlice := c.id }) mine).map fun (c : SliceCfg) => c.id).getD 0

/-- Keys and salts of both directions (R220). -/
def packetKeys (key nonceI nonceN initQpn respQpn : Bytes) : Bytes :=
  let part := fun (d : Nat) =>
    sub (Config.hkdfSha256 key (nonceI ++ nonceN) (ascii "GWT-E" ++ toBe 1 d ++ initQpn ++ respQpn)) 0 36
  part 0 ++ part 1

/-- The two sides of a fresh connection. -/
def RxSide.fresh (psn slots : Nat) : RxSide :=
  ⟨psn, [], [], 0, slots, [], false, none, 0, none, none, none, none, [], [], [], [], none, none, 0, [], psn, []⟩
def TxSide.fresh (psn slots : Nat) : TxSide :=
  ⟨psn, 0, [], [], [], 32, 0, 8000, 0, 0, none, 0, 0, none, slots, false, none, 0, [], []⟩

/-- Allocate the connection of an accepted PROOF and form its ACCEPT (R193–R195). -/
def State.conAllocate (s : State) (c : Connect) (key nonceI : Bytes) (qpn : Nat) : State × Bytes :=
  let b := c.body
  let (psn, s) := s.drawNat 3
  let (tkey, s) := s.drawNat 4
  let (slots, s) := s.choose Config.placement 1024
  let (port, s) := s.choose Config.rowChoice 65536
  let service := conService b
  let v := highestVersion (conVersions b)
  let enc := bit (conFlags b) 0
  let spray := bit (conFlags b) 1 && service != 1
  let big := bit (conFlags b) 2 && s.bigFrames
  let flags := flag enc + 2 * flag spray + 4 * flag big
  let plain := conBody 4 b qpn v flags (slots + 1) (psn % 2 ^ 24) (tkey % 2 ^ 32) (s.conNode b) 0 [] []
  let accept := if service == 1 then plain else sub plain 0 48 ++ nodeProof key nonceI (conNonce b) b plain
  let sealedHome := conPaddock b != 0 && s.sealedSlices (conPaddock b)
  let q : Qp := {
    qpn := qpn, state := .ready, service := service, paddock := conPaddock b, version := v, enc := enc, spray := spray
    mtu := if big then 8192 else 4096, peerQpn := conInitQpn b, myTkey := tkey % 2 ^ 32, peerTkey := conTkey b
    srcNode := if service == 2 then conSrcNode b else 0
    window := if service == 2 then (s.conWindow b).map fun w => (w.index, w.gen) else none
    initiator := false
    keys := if enc then packetKeys key nonceI (conNonce b) (sub b 4 4) (toBe 4 qpn) else []
    homeSlice := 0, homePort := s.someLink, udpPort := port, src := c.src, stateUntil := 0, pinned := sealedHome, wrapped := []
    mgmtSession := none, rx := RxSide.fresh (conPsn b) (slots + 1), tx := TxSide.fresh (psn % 2 ^ 24) (conSlots b) }
  let q := { q with homeSlice := s.conHome q }
  (({ s with net := { s.net with qps := s.net.qps ++ [q] } }).cacheNew qpn, accept)

/-- The connection that holds a window (R227). -/
def State.windowHolder (s : State) (w : Nat × Nat) (but : Nat) : Option Nat :=
  (s.net.qps.find? fun q => q.window == some w && q.qpn != but && q.works).map (·.qpn)

/-- The ACCEPT that a repeated PROOF is answered with: same source address, N_i and INIT_QPN, within the last 1 s (R196). The
PROOF names its N_i by the node's nonce that was formed from it. -/
def State.recentAccept (s : State) (c : Connect) : Option RecentAccept :=
  s.net.recent.find? fun (r : RecentAccept) =>
    r.src == c.src && r.initQpn == conInitQpn c.body && s.time ≤ r.at_ + 1000000000
      && s.net.issued.any fun (x : Issued) => x.src == c.src && x.nonceN == conNonce c.body && x.nonceI == r.nonceI

/-- PROOF (R196, R227): refused by the first row that applies, or accepted; while another connection holds the window it
is put into ERROR and the ACCEPT waits. -/
def execProof (c : Connect) (s : State) : Result :=
  let b := c.body
  if !s.awake then .next (s.wake 1 0)
  else if c.qp > 1 || conPhase b != 3 || !s.conServes then .next s
  else
    match s.recentAccept c with
    | some r => if r.sent then .next (s.sendConnect s.someLink r.src r.initQpn r.accept) else .next s
    | none =>
      match s.conJudge c with
      | .error st => .next (s.conRefuse c st)
      | .ok (key, nonceI) =>
        match s.freeQpn with
        | (none, t) => .next (t.conRefuse c St.quota)
        | (some qpn, t) =>
          let (t, accept) := t.conAllocate c key nonceI qpn
          let old := ((t.qp qpn).bind fun (q : Qp) => q.window).bind fun w => t.windowHolder w qpn
          let keep := t.net.recent.filter fun (r : RecentAccept) => t.time ≤ r.at_ + 1000000000
          let r : RecentAccept := ⟨c.src, nonceI, conInitQpn b, qpn, accept, t.time, old.isNone⟩
          let t := { t with net := { t.net with recent := keep ++ [r] } }
          match old, ((t.qp qpn).bind fun (q : Qp) => q.window) with
          | some o, some w =>
            let t := t.failConn o
            .next (t.modWindow w.1 fun x => { x with takeover := some qpn })
          | _, _ => .next (t.sendConnect t.someLink c.src (conInitQpn b) accept)

/-- WINDOW_TAKEOVER_ACCEPT (R227): every write that the old connection admitted is placed, and the ACCEPT goes out. -/
def execWindowTakeoverAccept (window : Nat) (s : State) : Result :=
  match (s.window window).bind fun w => w.takeover with
  | none => .next s
  | some qpn =>
    let t := s.modWindow window fun x => { x with takeover := none }
    match t.net.recent.find? fun (r : RecentAccept) => r.respQpn == qpn && !r.sent with
    | none => .next t
    | some r =>
      let mark := fun (x : RecentAccept) => { x with sent := true, at_ := t.time }
      let t := { t with net := { t.net with
        recent := updateFirst (fun (x : RecentAccept) => x.respQpn == qpn && !x.sent) mark t.net.recent } }
      .next (t.sendConnect t.someLink r.src r.initQpn r.accept)

/-! ### This node as initiator -/

/-- Change an attempt. -/
def State.modAttempt (s : State) (q : Nat) (f : Attempt → Attempt) : State :=
  { s with net := { s.net with attempts := updateFirst (·.initQpn == q) f s.net.attempts } }

/-- The PROOF body of an attempt. -/
def Attempt.proofBody (a : Attempt) : Bytes :=
  toBe 1 3 ++ sub a.hello 1 31 ++ a.nonceN ++ initiatorProof a.key a.nonceI a.nonceN a.hello

/-- CHALLENGE (R192). -/
def execChallenge (c : Connect) (s : State) : Result :=
  match s.net.attempts.find? fun a => a.initQpn == conInitQpn c.body && a.phase == 1 with
  | none => .next s
  | some a =>
    if conPhase c.body != 2 then .next s
    else
      let a := { a with phase := 3, nonceN := conNonce c.body, resends := 0, sentAt := s.time }
      .next ((s.modAttempt a.initQpn fun _ => a).sendConnect s.someLink (s.addressOf a.partner)
        (if conService a.hello == 1 then 1 else 0) a.proofBody)

/-- Links on which connections of this node to a partner failed: another one is taken where there is one (R309). -/
def State.freshLink (s : State) (partner : Nat) : Nat :=
  let bad := (s.net.qps.filter fun q => q.initiator && q.srcNode == partner && !q.works).map (·.homePort)
  ((s.net.links.find? fun l => l.up && l.enabled && !bad.contains l.id).map (·.id)).getD s.someLink

/-- A UDP source port that no connection to the partner used (R309; log 8). -/
def State.freshPort (s : State) (partner : Nat) : Nat × State :=
  let used := (s.net.qps.filter fun q => q.initiator && q.srcNode == partner).map (·.udpPort)
  let (i, s) := s.choose Config.rowChoice 65536
  ((((List.range (used.length + 1)).map fun k => (i + k) % 65536).find? fun p => !used.contains p).getD i, s)

/-- What follows once a connection of this node is READY: the status line of a pair window is read before the first
commit on it, and MIRROR_HOLD ends (R303, R309), or the publication area that was asked for is read (R243, R244). -/
def State.connected (s : State) (a : Attempt) : State :=
  match a.stream with
  | some i => (s.modStream i fun x => { x with qpn := some a.initQpn, windowLength := 0, holdUntil := none }).rlaRead a.initQpn
      128 1 3
  | none =>
    let s := if s.maps.epochs.staging.isSome then s.rlaRead a.initQpn 0 1 2 else s
    if s.maps.epochs.headerRead then s.rlaRead a.initQpn 0 1 1 else s

/-- ACCEPT (R195): verified against the node's proof, and discarded where that fails. -/
def execAccept (c : Connect) (s : State) : Result :=
  let b := c.body
  match s.net.attempts.find? fun a => a.initQpn == conInitQpn b && a.phase == 3 with
  | none => .next s
  | some a =>
    if conPhase b != 4 || conProof b != nodeProof a.key a.nonceI a.nonceN a.hello b then .next s
    else
      let (port, t) := s.freshPort a.partner
      let flags := conFlags b
      let q : Qp := {
        qpn := a.initQpn, state := .ready, service := conService a.hello, paddock := a.paddock
        version := highestVersion (conVersions b), enc := bit flags 0, spray := bit flags 1
        mtu := if bit flags 2 then 8192 else 4096, peerQpn := conRespQpn b, myTkey := conTkey a.hello, peerTkey := conTkey b
        srcNode := a.partner, window := none, initiator := true
        keys := if bit flags 0 then packetKeys a.key a.nonceI a.nonceN (sub a.hello 4 4) (sub b 8 4) else []
        homeSlice := 0, homePort := t.freshLink a.partner, udpPort := port, src := c.src, stateUntil := 0
        pinned := a.paddock != 0 && t.sealedSlices a.paddock, wrapped := [], mgmtSession := none
        rx := RxSide.fresh (conPsn b) (conSlots a.hello), tx := TxSide.fresh (conPsn a.hello) (conSlots b) }
      let q := { q with homeSlice := t.conHome q }
      let t := { t with net := { t.net with
        qps := t.net.qps ++ [q], attempts := t.net.attempts.filter (·.initQpn != a.initQpn) } }
      .next ((t.cacheNew a.initQpn).connected a)

/-- A CONNECT attempt fails (R196): the reading of the publication area ends without an area (R243), and a pair stream
goes on trying until MIRROR_HOLD ends (R309). -/
def State.attemptFailed (s : State) (a : Attempt) : State :=
  let s := { s with net := { s.net with attempts := s.net.attempts.filter (·.initQpn != a.initQpn) } }
  match a.stream with
  | none =>
    let s := s.modEpochs fun e => { e with headerRead := false }
    if s.maps.epochs.staging.isSome then s.stageFail 4 else s
  | some i =>
    let s := s.modStream i fun x => { x with
      holdUntil := match x.holdUntil with | some t => some t | none => some (s.time + s.img.service.mirrorHold) }
    s.reconnect

/-- REFUSE (R196). -/
def execRefuse (c : Connect) (s : State) : Result :=
  match s.net.attempts.find? fun a => a.initQpn == conInitQpn c.body with
  | none => .next s
  | some a => if conPhase c.body != 5 then .next s else .next (s.attemptFailed a)

/-- CONNECT_RESEND_TIMEOUT (R196): the message is sent again, 8 times at most, and then the attempt fails. -/
def execConnectResendTimeout (initQpn : Nat) (s : State) : Result :=
  match s.net.attempts.find? fun a => a.initQpn == initQpn with
  | none => .next s
  | some a =>
    let t := s.advanceTo (a.sentAt + 1000000)
    if 8 ≤ a.resends then .next (t.attemptFailed a)
    else
      let again := fun (x : Attempt) => { x with resends := x.resends + 1, sentAt := t.time }
      .next ((t.modAttempt initQpn again).sendConnect t.someLink (t.addressOf a.partner) (if conService a.hello == 1 then 1 else 0)
        (if a.phase == 1 then a.hello else a.proofBody))

/-! ### DISCONNECT (R197) -/

/-- DISCONNECT: the connection drains; a pair stream on it looks for a new connection. -/
def execDisconnect (m : Msg) (s : State) : Result :=
  match s.qp m.qpn with
  | none => .next s
  | some q =>
    if !q.works then .next s
    else
      let t := s.modQp m.qpn fun x => { x with state := .draining, rx := { x.rx with drainFrom := some m.msn } }
      let hold := fun (x : Stream) =>
        if x.qpn == some m.qpn then { x with qpn := none, holdUntil := some (t.time + t.img.service.mirrorHold) } else x
      let t := { t with maps := { t.maps with streams := t.maps.streams.map hold } }
      .next ((t.consume m.qpn m.msn).dropStaging m.qpn).reconnect

/-- DISCONNECT_ACKED: the QP is freed into QUARANTINE. -/
def execDisconnectAcked (qpn : Nat) (s : State) : Result :=
  match s.qp qpn with
  | none => .next s
  | some q =>
    match q.tx.disconnectPsn with
    | none => .next s
    | some p =>
      if decide (q.state = .draining) && !(q.tx.unacked ++ q.tx.ready).any (·.psn == p) then
        let t := if q.rx.ackAt.isSome then s.sendAck qpn else s
        .next (t.quarantine qpn)
      else .next s

end Sys2Proof.Machine
end

