-- ==== Sys2Proof/Machine/Paddocks.lean ====
section
/-! DEFINITION. The life of a paddock (R267–R270, R298–R300), its configuration record (R285) and Tally snapshots
(R297). -/

namespace Sys2Proof.Machine

/-- Code of a paddock state (R267). -/
def PadState.code : PadState → Nat
  | .free => 0
  | .open_ => 1
  | .awaitSeal => 2
  | .sealed => 3
  | .teardown => 4

/-- No configuration. -/
def PadConfig.none_ : PadConfig := ⟨false, false, false, 0, 0, 0, 0, 0, []⟩

/-- The slices of a paddock. -/
def State.padSlices (s : State) (c : PadConfig) : List SliceCfg := s.img.slices.filter fun x => bit c.sliceMask x.id

/-- The paddock configuration record (R285). -/
def State.padRecord (s : State) (p : Nat) : Bytes :=
  let x := s.pad p
  let c := x.config
  let mine := s.padSlices c
  let first := mine.head?
  let sealedPolicy := mine.any (·.policy != 0)
  let co := (s.pads.filter fun y => y.id != p && y.id != 0 && decide (y.state ≠ .free)
    && mine.any fun k => bit y.config.sliceMask k.id).length
  let port := ((s.img.t2Ports.find? fun t => mine.any (·.id == t.1)).map fun t => t.2 + 1).getD 0
  let share := if sealedPolicy then (first.bind fun k => (k.shares.find? (·.1 == p)).map (·.2)).getD 0 else 0
  let reserved := (first.bind fun k => (k.reserved.find? (·.1 == p)).map (·.2)).getD 0
  let clock := (first.map fun (k : SliceCfg) => k.clockMhz).getD 0
  let delay := if sealedPolicy then (first.map fun (k : SliceCfg) => k.frontDelay).getD 0 else 0
  toLe 2 p ++ toLe 1 x.state.code ++ toLe 1 (flag c.requireSeal + 2 * flag c.tier2 + 4 * flag c.weights)
    ++ toLe 4 x.generation ++ sub c.keyHash 0 48 ++ toLe 2 c.sliceMask
    ++ toLe 1 ((first.map fun (k : SliceCfg) => k.policy).getD 0) ++ toLe 1 co ++ toLe 4 c.seqQuota ++ toLe 8 c.t1Allow
    ++ toLe 8 (s.t2Allowance p) ++ toLe 2 c.connQuota ++ toLe 1 port ++ toLe 1 share ++ toLe 2 reserved ++ toLe 2 clock
    ++ toLe 4 delay ++ zeros 4

/-! ### Tally snapshots (R297) -/

/-- Every counter of a paddock at this instant; a paddock that is FREE gives the final record of its last generation. -/
def State.snapshot (s : State) (p : Nat) : TallyRec :=
  let x := s.pad p
  match x.state, x.final with
  | .free, some r => r
  | _, _ => ⟨s.time, x.generation, x.counters⟩

/-- A record in its layout of R297. -/
def TallyRec.bytes (r : TallyRec) : Bytes := toLe 8 r.instant ++ toLe 4 r.generation ++ zeros 4 ++ (r.counters.map (toLe 8)).flatten

/-! ### Create and teardown -/

/-- A paddock leaves FREE (R268, R298): a new generation with fresh state. -/
def State.bringUpPad (s : State) (p : Nat) (c : PadConfig) (ktp : Bytes) : State :=
  s.modPad p fun x =>
    { x with
      state := if c.requireSeal then .awaitSeal else .open_
      generation := (x.generation + 1) % 2 ^ 32, config := c, ktp := if c.requireSeal then [] else ktp, kmem := []
      writeCounter := 0, audit := false, counters := List.replicate 10 0, queued := none, sealedTeardown := false, zeroing := false }

/-- Windows that a paddock owns (R225). -/
def State.ownWindows (s : State) (p : Nat) : List Nat :=
  (s.maps.windows.filter fun w => w.localPaddock == p && decide (w.state = .active)).map (·.index)

/-- Operations of a paddock that are not admitted are answered BUSY_TEARDOWN (R299 step 2). -/
def State.flushQueued (s : State) (p : Nat) : State :=
  let waiting := s.eng.ops.filter fun o => o.req.paddock == p && decide (o.phase ≠ .admitted)
  let run := fun (o : Op) => if o.req.paddock == p && decide (o.phase = .held) then { o with phase := .queued } else o
  let s := { s with eng := { s.eng with ops := s.eng.ops.map run } }
  waiting.foldl (fun t o => match t.op o.id with | none => t | some x => t.failOp x St.busyTeardown 0 0) s

/-- Every line and entry tagged with a paddock is invalid, and its Ledger entries are gone (R270, R299 step 3). -/
def State.untag (s : State) (p : Nat) : State :=
  let forget := fun (k : Cluster) => { k with ktb := k.ktb.filter fun e => e.paddock != p }
  let s := { s with eng := { s.eng with
    clusters := s.eng.clusters.map forget
    sharedKtb := s.eng.sharedKtb.filter fun e => e.2.paddock != p
    descCache := s.eng.descCache.filter fun x => x.paddock != p } }
  let mine := fun (w : WeightSlot) => match w.content with | some c => c.1 == p | none => false
  let empty := fun (w : WeightSlot) => { w with content := none, loading := false }
  let s := { s with store := { s.store with
    weightSlots := updateAll mine empty s.store.weightSlots
    hints := s.store.hints.filter (·.paddock != p)
    arrivals := s.store.arrivals.filter (·.1 != p)
    retries := s.store.retries.filter (·.1.paddock != p)
    expired := s.store.expired.filter (·.1 != p) } }
  let s := { s with maps := { s.maps with deadlines := s.maps.deadlines.filter (·.1 != p) } }
  s.ledgerRemove fun e => e.key / 2 ^ 116 == p && keyKind e.key != 2

/-! ### The zero-fill of a teardown (R180, R299 step 4) -/

/-- Whether a frame of the metadata region holds nothing that another paddock or the node as a whole stores (R164). -/
def State.metaOf (s : State) (c : SliceCfg) (paddock frame : Nat) : Bool :=
  match c.metaOffset (frame * 32768) with
  | none => true
  | some o => o + 32768 ≤ c.metaFrames * 32768 - s.metaFixed c &&
      (s.metaExtentsOf c (· != paddock)).all fun x => x.1 + x.2 ≤ o || o + 32768 ≤ x.1

/-- The metadata frames that hold objects of a paddock and nothing else (R164, R299 step 4); pages that share a frame
with others are zeroed one by one (log 111). -/
def State.metaFramesHeld (s : State) (p : Nat) : List Nat :=
  ((s.img.slices.map fun c => ((s.metaExtentsOf c (· == p)).map fun x =>
    ((List.range (ceilDiv (x.1 % 32768 + x.2) 32768)).map fun i => c.frameOf (x.1 / 32768 + i)).filter (s.metaOf c p)).flatten).flatten).eraseDups

/-- The frames that a paddock's data units and its metadata lie in. -/
def State.framesHeld (s : State) (p : Nat) : List Nat :=
  ((((s.store.places.filter fun x => x.2 == p).map fun x => x.1.frames).flatten) ++ s.metaFramesHeld p).eraseDups

/-- Step 3 of a teardown (R299): the key slots, the store entry and the window keys are zeroised, attempts under them
given up, and lines, entries and queued work of the paddock are gone. -/
def State.zeroise (s : State) (p : Nat) : State :=
  let zero := fun (w : Window) => if w.localPaddock == p then { w with key := [] } else w
  let forget := fun (x : Stream) => if x.paddock == p then { x with key := [] } else x
  let s := { s with maps := { s.maps with windows := s.maps.windows.map zero, streams := s.maps.streams.map forget } }
  let s := { s with net := { s.net with attempts := s.net.attempts.filter (·.paddock != p) } }
  let s := s.modPad p fun x => { x with ktp := [], kmem := [] }
  (s.untag p).dropWork p

/-- Steps 3 and 4 of a torn-down paddock once no operation of it is left: its keys and tags, then the zero-fill of its
frames, by ZERO in Tier-1 and by the migration engine in Tier-2. -/
def State.zeroTeardown (s : State) (x : Pad) : State :=
  if decide (x.state ≠ .teardown) || x.zeroing || s.eng.ops.any (fun o => o.req.paddock == x.id) then s
  else
    let s := s.zeroise x.id
    let held := (s.framesHeld x.id).filter fun f => !s.store.dirty.contains f
    let t1 := held.filter (· < 12 * regionFrames)
    let s := s.modPad x.id fun y => { y with zeroing := true }
    let s := { s with store := { s.store with dirty := s.store.dirty ++ held } }
    if t1.isEmpty then s
    else { s with leases := { s.leases with chores := s.leases.chores ++ [⟨4, x.id, t1, 0, 0, 0⟩] } }

/-- Every teardown without operations goes on to steps 3 and 4. -/
def State.zeroTeardowns (s : State) : State := s.pads.foldl (fun t x => t.zeroTeardown x) s

/-- Whether a frame can be zero-filled: its stack and its port are in service. DESIGN CHOICE (log 111): a teardown does not
wait for the others. -/
def State.frameReached (s : State) (f : Nat) : Bool :=
  if f < 12 * regionFrames then !s.store.hbms.any fun x => x.index == f / regionFrames && x.stopped
  else !s.store.ports.any fun x => x.lost && tier2Base x.port ≤ f && f < tier2Base x.port + 134217728

/-- Whether the zero-fill of a torn-down paddock still runs: a lease of it, or a frame that it held and that waits. -/
def State.zeroPending (s : State) (p : Nat) : Bool :=
  let todo := ((s.leases.chores.filter fun (c : Chore) => c.paddock == p && c.program == 4).map fun (c : Chore) => c.frames).flatten
  (s.leases.leases.any fun l => l.req.paddock == p) ||
    ((s.framesHeld p ++ todo).any fun f => s.store.dirty.contains f && s.frameReached f)

/-- Steps 1 and 2 of a teardown (R299), and what follows at once when no admitted operation is left: the state, the windows, the
queued requests. Moves and stall programs of the paddock are abandoned, but for zero-fills. -/
def State.startTeardown (s : State) (p : Nat) : State :=
  let was := (s.pad p).state
  let s := s.modPad p fun x => { x with state := .teardown, sealedTeardown := decide (was = .sealed) }
  let s := (s.ownWindows p).foldl (fun t i => t.closeWindow i) s
  let s := s.flushQueued p
  let ours := fun (m : Move) => (s.block m.block).any fun b => b.paddock == p
  let s := { s with leases := { s.leases with chores := s.leases.chores.filter fun (c : Chore) => c.paddock != p || c.program == 4 } }
  (s.abandonMoves ours).zeroTeardowns

/-- A teardown request (R299, R300): FREE and TEARDOWN answer OK at once; a queued create is cancelled. -/
def State.requestTeardown (s : State) (p : Nat) : State :=
  match (s.pad p).state with
  | .free => s
  | .teardown => s.modPad p fun x => { x with queued := none }
  | _ => s.startTeardown p

/-- Clear the bytes of the paddock's windows, and free them. -/
def State.clearWindows (s : State) (p : Nat) : State :=
  let mine := s.maps.windows.filter fun w => w.localPaddock == p && decide (w.state ≠ .free)
  let inside := fun (a : Nat) => mine.any fun w => w.base ≤ a && a < w.base + w.length
  let free := fun (w : Window) => if w.localPaddock == p then { w with state := .free, key := [], takeover := none } else w
  let s := mine.foldl State.dropRegions s
  { s with
    mem := s.mem.filter fun c => !inside c.1
    maps := { s.maps with windows := s.maps.windows.map free } }

/-- The schedulers keep nothing of a paddock: its bridles and quanta are the image's again (R268, R300). -/
def State.freshSched (s : State) (p : Nat) : State :=
  let bridles := s.sch.bridles.filter (·.2.2.1 != p) ++ (s.img.freshBridles s.time).filter (·.2.2.1 == p)
  let fresh := fun (d : Sched) => { d with
    buckets := d.buckets.filter (·.share != p)
    queues := (d.queues.filter fun q => !(q.paddock == p && q.items.isEmpty)).map fun (q : Queue) =>
      if q.paddock == p then { q with quantum := s.quantum d.id q.cls p } else q }
  { s with sch := { s.sch with bridles := bridles, scheds := s.sch.scheds.map fresh } }

/-- Everything that the paddock stored is gone; the controller zeroes its metadata pages in frames that it shares (R299 step 4).
-/
def State.purgePad (s : State) (p : Nat) : State :=
  let s := ((s.img.slices.map fun c => (s.metaExtentsOf c (· == p)).map fun x => (c.metaAddress x.1, x.2)).flatten).foldl
    (fun t x => t.metaWritten x.1 x.2) s
  let pages := (s.store.descPages.filter (·.paddock == p)).map (·.page)
  let t := s.store
  let kept := { t with
    seqs := t.seqs.filter (·.paddock != p), blocks := t.blocks.filter (·.paddock != p)
    descPages := t.descPages.filter (·.paddock != p), roots := t.roots.filter fun r => r.paddock != p && !pages.contains r.page
    weights := t.weights.filter (·.paddock != p), deferred := t.deferred.filter (·.paddock != p) }
  let s := { s with store := kept }
  let s := (s.untag p).freshSched p
  let others := fun (x : Stream) => x.paddock == 0 || x.paddock != p
  let rest := fun (x : Stream) => { x with
    resync := x.resync.filter (·.paddock != p), resyncing := x.resyncing.filter (·.1 != p)
    sending := x.sending.filter (·.1 != p), givenUp := x.givenUp.filter (·.1 != p) }
  { s with maps := { s.maps with streams := (s.maps.streams.filter others).map rest } }

/-- FUNCTION_DONE (R364). -/
def State.functionDone (s : State) (kind id paddock generation phase : Nat) : State :=
  s.notify ⟨0x0101, paddock, toLe 1 kind ++ toLe 1 id ++ zeros 2 ++ toLe 4 generation ++ toLe 1 phase⟩

/-- TEARDOWN_COMPLETE (R299 steps 4 and 5, R300): the zero-fill has ended and no admitted operation is left. -/
def execTeardownComplete (paddock : Nat) (s : State) : Result :=
  let x := s.pad paddock
  if decide (x.state ≠ .teardown) || s.eng.ops.any (fun o => o.req.paddock == paddock) then .next s
  else if !x.zeroing then .next s.zeroTeardowns
  else if s.zeroPending paddock then .next s
  else
    let conns := (s.net.qps.filter fun q => q.paddock == paddock && q.works).map (·.qpn)
    let t := conns.foldl (fun u q => u.failConn q) s
    let t := (t.clearWindows paddock).purgePad paddock
    let t := t.stir
    let r : TallyRec := ⟨t.time, x.generation, (t.pad paddock).counters⟩
    let t := t.modPad paddock fun y => { y with
      state := .free, final := some r, counters := List.replicate 10 0, config := PadConfig.none_, audit := false
      writeCounter := 0, queued := none, sealedTeardown := false, zeroing := false }
    let t := t.functionDone 0 0 paddock x.generation 0
    match x.queued with
    | none => s.finish t
    | some (c, k) =>
      let t := t.bringUpPad paddock c k
      s.finish (t.functionDone 0 0 paddock (t.pad paddock).generation 1)

end Sys2Proof.Machine
end

