-- ==== Sys2Proof/Machine/Tiers.lean ====
section
/-! DEFINITION. Blocks and tiers: closing (R99), deferred frees (R100), expiry and release (R112, R113), restoration
(R120), heat and migration (R151–R156), Tier-2 ports and hbms (R143, R157–R161). -/

namespace Sys2Proof.Machine

/-! ### Unnamed log causes (log 46) -/

/-- CODE of a cause that R366 does not name: the reporting ostler in bits [15:12], O1 for the start, O0 for the bundle, O3 for
stall programs, O6 for power, else O5; the rest is open. DESIGN CHOICE (log 46). -/
def unnamedCode (cause : Nat) : Nat :=
  ([5, 5, 5, 1, 1, 1, 3, 1, 1, 5, 5, 5, 0, 6, 6].getD cause 5) * 4096 + Config.errorCode cause % 4096

/-- A report whose cause has no named CODE. -/
def unnamed (cause severity unitKind unit address : Nat) : ErrRep :=
  ⟨severity, unitKind, unnamedCode cause, 0, unit, address, 0, []⟩

/-! ### Closing a block (R99) -/

/-- A close waits for its retry, 1 ms from now (R99). -/
def State.retryClose (s : State) (b : BlockRef) : State :=
  { s with store := { s.store with retries := s.store.retries.filter (·.1 != b) ++ [(b, s.time + 1000000)] } }

/-- Close a full tail block: verified first; without space, or while a lease has marked its slot (R170), it waits for its
retry. A full metadata region is logged (R160). -/
def State.closeBlock (s : State) (b : BlockRef) (good : Bool) : State :=
  match s.findSeq b.paddock b.seq with
  | none => s
  | some q =>
    match q.entry b.layer b.head b.block with
    | some ⟨_, _, _, .tail t, _, _, _⟩ =>
      if t.recs.length < 64 || t.lost || decide (q.state ≠ .live) then s
      else if !good || !s.tailOk q b.layer b.head b.block t then s.markLost q.desc b.layer b.head b.block
      else if t.place.frames.any s.leasedFrames.contains then s.retryClose b
      else
        (match s.closeTail q.desc b.layer b.head b.block with
         | .ok t => t
         | .error e => if e = metaFull then (s.retryClose b).note metaFullReport else s.retryClose b)
    | _ => s

/-- The close of a block as a piece of work. -/
def closeWork (b : BlockRef) : Work := ⟨.close, b.paddock, [b.seq, b.layer, b.head, b.block]⟩

/-- A close as bulk work of its paddock (R247, R253). -/
def State.closeInTurn (s : State) (b : BlockRef) (good : Bool) : State :=
  match s.findSeq b.paddock b.seq with
  | none => s
  | some q =>
    let full := match q.entry b.layer b.head b.block with
      | some ⟨_, _, _, .tail t, _, _, _⟩ => 64 ≤ t.recs.length
      | _ => false
    if !full then s
    else
      match s.takeTurn q.slice 1 b.paddock (closeWork b) q.shape.rawBlock with
      | (t, false) => t
      | (t, true) => t.closeBlock b good

/-- BLOCK_CLOSE (R99). -/
def execBlockClose (b : BlockRef) (r : ReadOutcome) (s : State) : Result := s.finish (s.closeInTurn b (decide (r = .good)))

/-- CLOSE_RETRY_TIMER (R99): a close that failed for lack of space is tried again. -/
def execCloseRetryTimer (b : BlockRef) (s : State) : Result :=
  match s.store.retries.find? (·.1 == b) with
  | none => .next s
  | some x =>
    let t := s.advanceTo x.2
    let t := { t with store := { t.store with retries := t.store.retries.filter (·.1 != b) } }
    s.finish (t.closeInTurn b true)

/-- DEFERRED_FREE (R100): no operation admitted before the switch is left. -/
def execDeferredFree (block : Nat) (s : State) : Result :=
  match s.store.deferred.find? (·.block == block) with
  | none => .next s
  | some d =>
    if d.after.any fun i => (s.op i).isSome then .next s
    else
      let t := { s with store := { s.store with deferred := s.store.deferred.eraseP (·.block == block) } }
      .next (t.freePlace d.paddock d.place)

/-! ### Expiry and release (R112, R113) -/

/-- TTL_EXPIRY (R57, R112): only the primary expires a sequence; the release reaches the mirror as SEQ_RELEASE would. -/
def execTtlExpiry (paddock seq : Nat) (s : State) : Result :=
  match s.findSeq paddock seq with
  | none => .next s
  | some q =>
    if q.deadline == 0 || q.mirrorCopy || q.state.leaving then .next s
    else
      let t := s.advanceTo q.deadline
      let partner := t.partnerOf paddock seq
      let t := t.startRelease q.desc
      let t := { t with store := { t.store with expired := t.store.expired.filter (· != (paddock, seq)) ++ [(paddock, seq)] } }
      let none_ := partner == 0 || partner == t.boot.nodeId
      s.finish (if none_ then t
        else t.queueCommit partner paddock 0 [pairRecord { type := 4, paddock := paddock, seq := seq } []])

/-- RELEASE_REF_ZERO (R113 steps 3 and 4): the frees are background work (R247). -/
def execReleaseRefZero (desc : Nat) (s : State) : Result :=
  match s.seqAt desc with
  | none => .next s
  | some q =>
    if q.state.leaving && q.ref == 0 then
      match s.takeTurn q.slice 2 q.paddock ⟨.free, q.paddock, [desc, q.generation]⟩ 0 with
      | (t, false) => .next t
      | (t, true) => .next (t.finishRelease desc)
    else .next s

/-! ### Restoration (R120) -/

/-- Whether what some entries point to verifies, or is marked lost by itself. -/
def State.objectsOk (s : State) (q : Seq) (es : List Entry) : Bool :=
  es.all fun e => s.entryOk q e || (match e.slot with
    | .tail t => t.lost
    | .closed n => (s.block n).any (·.lost))

/-- Write a restored directory page: at its place, or at a new one where its frame is retired; its lines are whole again and
its L1 entry is not LOST, nor, with the last lost page of an L1 page, the entries there that name no page. -/
def State.rewritePage (s : State) (q : Seq) (y : DirPage) : State :=
  let s := if s.store.retired.contains (y.address / 32768) then
      s.moveMeta q 4096 4096 fun a x =>
        { x with pages := updateFirst (·.index == y.index) (fun z => { z with address := a }) x.pages }
    else s.metaWritten y.address 4096
  let s := s.modSeq q.desc fun x =>
    let pages := updateFirst (·.index == y.index) (fun z => { z with lost := false }) x.pages
    let n := y.index / 127
    let l1 := if pages.any fun z => z.index / 127 == n && z.lost then x.l1
      else updateFirst (·.index == n) (fun z => { z with lost := false }) x.l1
    { x with pages := pages, l1 := l1 }
  let s := s.ktbInvalidate q.desc [y.index]
  if q.sealed then (s.resealPage q.desc y.index).resealL1 q.desc else s

/-- Write the restored descriptor, tail table and prefix page of a sequence. -/
def State.rewriteTables (s : State) (q : Seq) : State :=
  let s := match s.sliceCfg q.slice with
    | none => s
    | some c => if q.sealed then s.metaWritten (s.descAddress c (q.desc / 16)) 4096
        else s.metaWritten (s.descAddress c (q.desc / 16) + q.desc % 16 * 256) 256
  let s := s.metaWritten (q.addresses.getD 1 0) 1024
  if q.hashes.isEmpty then s else s.metaWritten (q.addresses.getD 2 0) 512

/-- Re-seal a sequence's tables. -/
def State.resealAll (s : State) (d : Nat) : State :=
  match s.seqAt d with
  | none => s
  | some q => if q.hashes.isEmpty then s.resealTailTable d else (s.resealTailTable d).resealPrefix d

/-- Clear LOST, or return STATE to 1, in one write once the restored copy verifies (R120). -/
def State.restored (s : State) (x : Restored) : State :=
  match x with
  | .block b =>
    (match s.findSeq b.paddock b.seq with
     | none => s
     | some q =>
       match q.entry b.layer b.head b.block with
       | some ⟨_, _, _, .closed n, _, _, _⟩ =>
         (match s.block n with
          | none => s
          | some k =>
            if s.blockOk q.sealed q.shape.recShape k then
              ((s.modBlock n fun y => { y with lost := false }).resealNamers n).endNamerRefusals n
            else s)
       | _ => s)
  | .tail b =>
    (match s.findSeq b.paddock b.seq with
     | none => s
     | some q =>
       match q.entry b.layer b.head b.block with
       | some e =>
         (match e.slot with
          | .tail t =>
            if s.tailOk q b.layer b.head b.block t then
              ((s.modSeq q.desc fun y => y.setEntry { e with slot := .tail { t with lost := false } }).reseal q.desc).endRefusals
                q.desc
            else s
          | .closed _ => s)
       | none => s)
  | .page p i n =>
    (match s.findSeq p i with
     | none => s
     | some q =>
       match q.pages.find? (·.index == n) with
       | none => s
       | some y => if y.lost && s.objectsOk q (q.under [n]) then (s.rewritePage q y).endRefusals q.desc else s)
  | .whole p i =>
    (match s.findSeq p i with
     | none => s
     | some q =>
       if decide (q.state = .lost) && !s.maps.fault.stoppedSlices.contains q.slice && s.objectsOk q q.entries then
         ((s.rewriteTables q).modSeq q.desc fun y => { y with state := .live }).resealAll q.desc
       else s)

/-- RESTORE_COMPLETE (R120). -/
def execRestoreComplete (x : Restored) (s : State) : Result := s.finish (s.restored x)

/-! ### Heat (R151) -/

/-- HEAT_EPOCH_SWEEP: at the end of a die's heat epoch every HEAT of its slices is halved, and SHARED cleared where no
share-count record is left (R107), which re-seals the page (R117); suspended in N2 (R374). DESIGN CHOICE (log 110): the
engine of the first die that a slice lists sweeps it, where it spans both. -/
def execHeatEpochSweep (die : Nat) (s : State) : Result :=
  if !s.awake then .next s
  else
    let s := s.advanceTo (s.store.heatSince.getD die s.time + s.img.service.heatEpoch)
    let mine := (s.img.slices.filter fun c => c.dies.head? == some die).map fun (c : SliceCfg) => c.id
    let shared := fun (e : Entry) => match e.slot with
      | .closed n => e.shared && (s.block n).any fun b => 1 < b.refs
      | .tail _ => e.shared
    let cool := fun (e : Entry) => { e with heat := e.heat / 2, shared := shared e }
    let sweep := fun (q : Seq) => if mine.contains q.slice then { q with entries := q.entries.map cool } else q
    let t := { s with store := { s.store with
      seqs := s.store.seqs.map sweep, leaseTouched := s.touchedAfter sweep, heatEpochs := s.store.heatEpochs + 1
      heatSince := updateAt die (fun _ => s.time) s.store.heatSince } }
    .next (((t.store.seqs.filter fun q => mine.contains q.slice).map (·.desc)).foldl (fun u d => u.reseal d) t)

/-! ### What ZERO clears (R113, R173, R174) -/

/-- Bytes from a Tier-1 byte address on, those zeroed that lie in some frames. -/
def zeroIn (frames : List Nat) (base : Nat) (bs : Bytes) : Bytes :=
  ((List.range bs.length).zip bs).map fun (i, b) => if frames.contains ((base + i) / 32768) then 0 else b

/-- First byte of a place. -/
def Place.base (p : Place) : Nat := p.frame * 32768 + p.granule * 512

/-- A closed block whose bytes in some frames are zeroed. -/
def Block.zeroIn (b : Block) (frames : List Nat) : Block :=
  if decide (b.place.tier ≠ .tier1) || !(b.whole.frames.any frames.contains) then b
  else { b with
    stored := Machine.zeroIn frames b.place.base b.stored
    cipher := Machine.zeroIn frames b.place.base b.cipher
    summary := Machine.zeroIn frames (b.place.base + b.place.bytes) b.summary }

/-- A tail slot whose bytes in some frames are zeroed: header units, then data units (R97). -/
def TailSlot.zeroIn (t : TailSlot) (h : Shape) (frames : List Nat) : TailSlot :=
  let u := 512 * 2 ^ t.place.shift
  let data := t.place.base + ceilDiv (ceilDiv h.rawBlock 512 * 16) u * u
  let n := h.recShape.bytes
  { t with
    recs := ((List.range t.recs.length).zip t.recs).map fun (j, r) => Machine.zeroIn frames (data + j * n) r
    checks := ((List.range t.checks.length).zip t.checks).map fun (j, r) => Machine.zeroIn frames (t.place.base + j * 16) r }

/-- A sequence's metadata in zeroed frames reads as zero: directory pages without entries, L1 pages without pages, no
lengths, no hashes, no heat; a sealed page keeps its entries, and its tag fails. -/
def Seq.zeroIn (q : Seq) (frames : List Nat) : Seq :=
  let hit := fun (a : Nat) => frames.contains (a / 32768)
  let noL1 := (List.range q.shape.l1Pages).filter fun n => hit (q.addresses.getD 0 0 + n * 4096)
  let gone := (q.pages.filter fun p => hit p.address || noL1.contains (p.index / 127)).map fun (p : DirPage) => p.index
  let pages := q.pages.filter fun p => !noL1.contains (p.index / 127)
  let cool := fun (e : Entry) =>
    let e := if q.sealed && hit (q.addresses.getD 3 0 + q.shape.entryIndex e.layer e.head e.block / 2) then { e with heat := 0 } else e
    match e.slot with
    | .closed _ => e
    | .tail t => { e with slot := .tail (t.zeroIn q.shape frames) }
  { q with
    pages := pages.map fun p => if hit p.address then { p with stored := zeros 4096 } else p
    entries := (if q.sealed then q.entries
      else q.entries.filter fun e => !gone.contains (q.shape.pageOf e.layer e.head e.block)).map cool
    lens := if hit (q.addresses.getD 1 0) then q.lens.map fun _ => 0 else q.lens
    hashes := if hit (q.addresses.getD 2 0) then q.hashes.map fun h => (h.1, 0) else q.hashes }

/-- ZERO clears frames: blocks, tails, metadata, windows and weight sets in them read as zero, a metadata frame with its
check-byte area, so that no line of it is poisoned any more (R113, R174). -/
def State.zeroFrames (s : State) (frames : List Nat) : State :=
  let ecc := frames.filterMap fun f => (s.sliceOfFrame f).bind fun c => c.eccPlace f
  let clean := fun (a : Nat) => frames.contains (a / 32768) ||
    ecc.any fun x => a / 32768 == x.1 && x.2 ≤ a % 32768 && a % 32768 < x.2 + 4096
  { s with
    mem := s.mem.filter fun c => !clean c.1
    store := { s.store.cleanLines fun l => frames.contains (l / 512) with
      blocks := s.store.blocks.map fun b => b.zeroIn frames
      seqs := s.store.seqs.map fun q => q.zeroIn frames
      weights := s.store.weights.map fun w => { w with bytes := zeroIn frames w.base w.bytes } } }

/-! ### Migration (R152–R156) -/

/-- Whether free units lie below a percentage: the slice's, or what is left of the paddock's allowance under sealed
policy (R156). -/
def State.below (s : State) (c : SliceCfg) (paddock percent : Nat) : Bool :=
  if c.policy == 0 then s.freeBelow c percent
  else
    let a := (s.pad paddock).config.t1Allow
    (a - s.t1Taken paddock) * 100 < a * percent

/-- Whether free units, measured in the same way, exceed a percentage (R153). -/
def State.above (s : State) (c : SliceCfg) (paddock percent : Nat) : Bool :=
  if c.policy == 0 then c.dataFrames * 64 * percent < s.freeGranules c.id * 100
  else
    let a := (s.pad paddock).config.t1Allow
    a * percent < (a - s.t1Taken paddock) * 100

/-- The paddocks for which the watermarks of a slice apply: 0 for the slice as a whole (R156). -/
def State.watermarkOwners (s : State) (c : SliceCfg) : List Nat :=
  if c.policy == 0 then [0] else ((s.store.seqs.filter (·.slice == c.id)).map (·.paddock)).eraseDups

/-- A block that the engine may move, with the sequence and entry that name it (R153, R170). -/
def State.movable (s : State) (c : SliceCfg) (owner : Nat) (tier1 : Bool) : List (Seq × Entry × Block) :=
  let seqs := s.store.seqs.filter fun q => q.slice == c.id && (owner == 0 || q.paddock == owner)
    && decide (q.state = .live) && !q.shape.pin && decide ((s.pad q.paddock).state ≠ .teardown)
  let leased := s.leasedFrames
  (seqs.map fun q => q.entries.filterMap fun e =>
    match e.slot with
    | .tail _ => none
    | .closed n =>
      match s.block n with
      | none => none
      | some b =>
        if e.pinned || e.shared || 1 < b.refs || b.lost || decide (b.place.tier = .tier1) != tier1
            || (s.store.moves.any (·.block == n)) || b.whole.frames.any leased.contains then none
        else some (q, e, b)).flatten

/-- Candidates for demotion: HEAT ascending, within one HEAT in sweep order (R153). -/
def State.demoteNext (s : State) (c : SliceCfg) (owner : Nat) : Option Block :=
  let all := (s.movable c owner true).filter fun x =>
    x.2.1.heat ≤ c.demoteHeat && s.tier2Open x.1.paddock x.2.2.whole.bytes
  (minBy (fun x => x.2.1.heat * 2 ^ 64 + x.1.desc * 2 ^ 40 + x.2.1.layer * 2 ^ 32 + x.2.1.head * 2 ^ 24 + x.2.1.block) all).map fun x => x.2.2

/-- Whether a WARM hint covers a block (R62). -/
def State.warmed (s : State) (q : Seq) (block : Nat) : Bool :=
  s.store.hints.any fun h => h.paddock == q.paddock && h.seq == q.id
    && (match h.warm with | none => false | some (a, b) => a < 64 * (block + 1) && 64 * block < b)

/-- The next block to promote: hot ones above T1_FREE_HIGH, WARM ones above T1_FREE_LOW (R153). R153 orders demotion only:
promotion takes the first in the list of sequences and entries. DESIGN CHOICE (log 110). -/
def State.promoteNext (s : State) (c : SliceCfg) (owner : Nat) : Option Block :=
  let high := s.above c owner c.freeHigh
  let low := s.above c owner c.freeLow
  (((s.movable c owner false).filter fun x =>
    (high && c.promoteHeat ≤ x.2.1.heat) || (low && s.warmed x.1 x.2.1.block)).head?).map fun x => x.2.2

/-- Start a move to a new place. -/
def State.startMove (b : Block) (target : Place × State) : State :=
  match target with
  | (p, t) =>
    { t with store := { t.store with
      moves := t.store.moves ++ [⟨t.store.nextMove, b.num, b.whole, p⟩], nextMove := t.store.nextMove + 1 } }

/-- The turn of a block's move, as work of its class that costs the bytes it moves (R247, R253). -/
def State.moveTurn (s : State) (cls owner : Nat) (b : Block) : State × Bool :=
  s.takeTurn b.slice cls owner ⟨.move, owner, [b.num]⟩ b.whole.bytes

/-- One promotion, when one is due and the block's paddock has headroom for it (R156). -/
def State.promoteOne (s : State) (c : SliceCfg) (owner : Nat) : State :=
  match s.promoteNext c owner with
  | none => s
  | some b =>
    if s.passesAllowance b.paddock b.whole.bytes || (s.allocT1 c.id b.paddock b.place.shift b.whole.units).isNone then s
    else
      match s.moveTurn 2 owner b with
      | (t, false) => t
      | (t, true) => ((t.allocT1 c.id b.paddock b.place.shift b.whole.units).map (State.startMove b)).getD t

/-- Whether a live sequence of an owner of watermarks finds no Tier-1 units for a tail slot (R97, R160). -/
def State.tailless (s : State) (c : SliceCfg) (owner : Nat) : Bool :=
  s.store.seqs.any fun q => q.slice == c.id && (owner == 0 || q.paddock == owner) && decide (q.state = .live)
    && (s.allocT1 c.id q.paddock q.granShift (q.shape.tailUnits q.granShift)).isNone

/-- One demotion, when it finds a candidate and a place for it: in the bulk class below T1_FREE_CRIT, or while a tail slot
finds no units (R152, R160). -/
def State.demoteOne (s : State) (c : SliceCfg) (owner : Nat) : Option State :=
  let cls := if s.below c owner c.freeCrit || s.tailless c owner then 1 else 2
  match s.demoteNext c owner with
  | none => none
  | some b =>
    if (s.allocT2 c.id b.paddock b.place.shift b.whole.units).isNone then none
    else
      match s.moveTurn cls owner b with
      | (t, false) => some t
      | (t, true) => some (((t.allocT2 c.id b.paddock b.place.shift b.whole.units).map (State.startMove b)).getD t)

/-- MIGRATION_MOVE_ISSUE (R153): one demotion while demotion runs, or a tail slot finds no units (R160), and it finds a
candidate and a place; else one promotion. DESIGN CHOICE (log 110): the promotion of a WARM block that is due between
T1_FREE_LOW and T1_FREE_HIGH waits while demotion finds work; R153 gives no order between the two. -/
def State.issueMove (s : State) (c : SliceCfg) (owner : Nat) : State :=
  let key := (c.id, owner)
  let was := s.store.demoting.contains key
  let runs := if was then s.below c owner c.freeHigh else s.below c owner c.freeLow
  let marks := if runs then s.store.demoting.filter (· != key) ++ [key] else s.store.demoting.filter (· != key)
  let s := { s with store := { s.store with demoting := marks } }
  if runs || s.tailless c owner then (s.demoteOne c owner).getD (s.promoteOne c owner) else s.promoteOne c owner

/-- The engine zero-fills a freed frame of Tier-2, as background work of the node (R113, R180, R247): it may be
allocated again. -/
def State.zeroOne (slice : Nat) (s : State) (f : Nat) : State :=
  match s.takeTurn slice 2 0 ⟨.zero, 0, [f]⟩ 32768 with
  | (t, false) => t
  | (t, true) =>
    let t := t.zeroFrames [f]
    { t with store := { t.store with dirty := t.store.dirty.filter (· != f) } }

/-- The engine zero-fills the freed frames of the Tier-2 ports in service that serve a slice (R113, R158, R180). -/
def State.zeroTier2 (s : State) (slice : Nat) : State :=
  let ready := s.store.ports.filter fun p => p.present && !p.lost && s.portServes slice p.port
  let inPort := fun (f : Nat) => ready.any fun p => tier2Base p.port ≤ f && f < tier2Base p.port + 134217728
  (s.store.dirty.filter inPort).foldl (State.zeroOne slice) s

/-- MIGRATION_MOVE_ISSUE (R153, R156, R180): frames that wait to be retired are tried again (R321), then one move for
each owner of watermarks, then the zero-fill of Tier-2, each in its turn (R247); paused in N2, while O3 restarts and in
a stopped slice (R354, R368, R374). -/
def execMigrationMoveIssue (slice : Nat) (s : State) : Result :=
  match s.sliceCfg slice with
  | none => .next s
  | some c =>
    if !s.awake || s.restarting 3 || s.host.slicesOff.contains slice then .next s
    else s.finish (((s.watermarkOwners c).foldl (fun t o => t.issueMove c o) s.retireRest.zeroTeardowns).zeroTier2 slice)

/-- Whether the port of a place is out of service. -/
def State.portLost (s : State) (p : Place) : Bool :=
  match p.tier with
  | .tier1 => false
  | .tier2 i => s.store.ports.any fun x => x.port == i && x.lost
  | .absent => true

/-- The copy of a move has been written: it is verified by R105 and the entry is switched, or the move is abandoned and its new
copy freed (R155). A copy that does not read back right gives its frame to the Farrier, and a block whose own check fails is
lost (R119). -/
def State.moveDone (s : State) (m : Move) (r : ReadOutcome) : State :=
  let owner := s.store.movePad m
  let t := { s with store := { s.store with moves := s.store.moves.filter (·.id != m.id) } }.stir
  match t.block m.block, (t.namers m.block).head? with
  | some b, some x =>
    let ok := decide (b.whole = m.source) && !b.lost && ((t.namers m.block).all fun x => decide (x.1.state = .live))
      && !t.portLost m.target
    let copy := { b with place := { m.target with units := b.place.units } }
    if !ok then t.freePlace owner m.target
    else if decide (r ≠ .good) then
      ((t.freePlace owner m.target).note ⟨1, 4, 0x3002, owner, 0, m.target.frame, 0, []⟩).retireFrame m.target.frame
    else if !t.blockOk x.1.sealed x.1.shape.recShape copy then
      (t.freePlace owner m.target).markLost x.1.desc x.2.layer x.2.head x.2.block
    else ((t.modBlock m.block fun _ => copy).resealNamers m.block).freeOld m.block x.1.desc x.1.generation b.paddock m.source
  | _, _ => t.freePlace owner m.target

/-- MIGRATION_MOVE_DONE (R155); it waits while a lease has marked a frame of the move (R170), and the controller holds it while
a lease has a pseudo-channel of it (R167). -/
def execMigrationMoveDone (move : Nat) (r : ReadOutcome) (s : State) : Result :=
  match s.store.moves.find? (·.id == move) with
  | none => .next s
  | some m =>
    let cs := s.channelsOf m.source ++ s.channelsOf m.target
    if (m.source.frames ++ m.target.frames).any s.leasedFrames.contains then .next s
    else if s.mustHold cs then .next (s.holdOnce (.move move r) cs)
    else s.finish (s.moveDone m r)

/-! ### Losses (R160, R161) -/

/-- Set LOST on every closed block of a test, and ask for its restoration (R120, R160). -/
def State.loseBlocks (s : State) (p : Block → Bool) : State :=
  let hit := s.store.blocks.filter fun b => p b && !b.lost
  let s := { s with store := { s.store with
    blocks := updateAll (fun b => p b && !b.lost) (fun b => { b with lost := true }) s.store.blocks } }
  hit.foldl (fun t b =>
    let t := t.resealNamers b.num
    match (t.namers b.num).head? with
    | none => t
    | some x => t.restoreReq x.1 x.2.layer x.2.head x.2.block) s

/-- A Tier-2 port is lost (R160). -/
def State.losePort (s : State) (port : Nat) : State :=
  let s := { s with store := { s.store with
    ports := updateFirst (·.port == port) (fun (x : Tier2Port) => { x with lost := true }) s.store.ports } }
  let s := s.abandonMoves fun m => decide (m.source.tier = Tier.tier2 port) || decide (m.target.tier = Tier.tier2 port)
  s.loseBlocks fun b => decide (b.place.tier = Tier.tier2 port)

/-- TIER2_PORT_LOST (R160). -/
def execTier2PortLost (port : Nat) (s : State) : Result :=
  if s.store.ports.any fun x => x.port == port && x.present && !x.lost then s.finish (s.losePort port) else .next s

/-- What a port held is gone when it comes back: its blocks have neither bytes nor a place until they are restored (R161). -/
def State.emptyPort (s : State) (port : Nat) : State :=
  let there := fun (p : Place) => decide (p.tier = Tier.tier2 port)
  let gone := fun (b : Block) => if there b.place then
      { b with place := ⟨.absent, 0, 0, 0, b.place.shift⟩, summaryUnits := 0, coding := 0, stored := [], cipher := [],
               summary := [], hasSummary := false, lost := true }
    else b
  { s with store := { s.store with
      blocks := s.store.blocks.map gone
      deferred := s.store.deferred.filter fun d => !there d.place } }

/-- TIER2_PORT_RETURN (R161): back in service as an empty port; what it held stays lost. -/
def execTier2PortReturn (port capacityFrames : Nat) (s : State) : Result :=
  if s.store.ports.any fun x => x.port == port && x.present && x.lost then
    let back := fun (x : Tier2Port) => { x with lost := false, frames := capacityFrames, poisoned := [] }
    let s := s.emptyPort port
    s.finish { s with store := { s.store with ports := updateFirst (·.port == port) back s.store.ports } }
  else .next s

/-- CXL_EVENT_RECORD (R157): logged by O5; a fatal device event is a loss of the port (R160). -/
def execCxlEventRecord (port : Nat) (record : Bytes) (s : State) : Result :=
  if s.store.ports.any fun x => x.port == port && x.present then
    let e : ErrRep := ⟨Config.cxlSeverity record % 3, 6, unnamedCode 2, 0, port + 1, Config.cxlFrame record, 0, sub record 0 16⟩
    let t := s.note e
    s.finish (if Config.cxlFatal record then t.losePort port else t)
  else .next s

/-- An operation ends with a status, and what of its records is not sent yet is never sent (R311). -/
def State.discardOp (s : State) (x : Op) (status : Nat) : State :=
  let drop := fun (y : Stream) => { y with waiting := y.waiting.filter fun w => w.op != x.id }
  { s with maps := { s.maps with streams := s.maps.streams.map drop } }.failOp x status 0 0

/-- The operations of a stopped slice end: steps with LOST_BLOCKS, others with DEGRADED_RETRY (R160, R311). -/
def State.endSliceOps (s : State) (slice : Nat) : State :=
  let mine := s.eng.ops.filter fun o => o.slice == slice
  mine.foldl (fun t o =>
    match t.op o.id with
    | none => t
    | some x =>
      t.discardOp x (if x.req.opcode == 1 then St.lostBlocks else St.degradedRetry)) s

/-- A stack stops, and its slice with it: every sequence of it goes to STATE 3 (R160). -/
def State.stopStack (s : State) (stack : Nat) : State :=
  let slices := (s.img.slices.filter fun c => c.hbms.contains stack).map fun (c : SliceCfg) => c.id
  let losing := s.store.seqs.filter fun q => slices.contains q.slice && decide (q.state = .live)
  let lose := fun (q : Seq) =>
    if slices.contains q.slice then { q with state := if q.state.leaving then .lostReleasing else .lost } else q
  let hit := fun (m : Move) => match s.block m.block with | some b => slices.contains b.slice | none => true
  let s := { s with
    store := { s.store with
      hbms := updateFirst (·.index == stack) (fun (x : Stack) => { x with stopped := true }) s.store.hbms
      seqs := s.store.seqs.map lose
      leaseTouched := s.touchedAfter lose }
    leases := { s.leases with leases := s.leases.leases.filter fun l => l.req.stack != stack } }
  let s := s.abandonMoves hit
  let s := s.modFault fun f => { f with stoppedSlices := (f.stoppedSlices ++ slices).eraseDups }
  let s := slices.foldl (fun t i => t.endSliceOps i) s
  let s := losing.foldl (fun t q => t.restoreAll q) s
  s.note (unnamed 1 2 2 stack 0)

/-- STACK_STOP (R160, R311). -/
def execStackStop (stack : Nat) (s : State) : Result :=
  if s.store.hbms.any fun x => x.index == stack && !x.stopped then s.finish (s.stopStack stack).afterUnits else .next s

/-- STACK_TEMP_REPORT (R143): above 85 °C the stack's refresh rate is doubled, under its leases too (R171). -/
def execStackTempReport (stack : Nat) (hot : Bool) (s : State) : Result :=
  let set := fun (x : Stack) => { x with hot := hot }
  let rate := fun (l : Lease) => if l.req.stack == stack then { l with refreshRate := if hot then 2 else 1 } else l
  .next { s with
    store := { s.store with hbms := updateFirst (·.index == stack) set s.store.hbms }
    leases := { s.leases with leases := s.leases.leases.map rate } }

/-- Whether a phase of a lease is one in which the base die owns the command bus (R166, R172). -/
def LeasePhase.owns : LeasePhase → Bool
  | .running => true
  | .returning => true
  | .draining => false
  | .returned => false

/-- Whether a base die owns a pseudo-channel's command bus. -/
def State.leased (s : State) (stack pc : Nat) : Bool :=
  s.leases.leases.any fun l => l.req.stack == stack && l.req.pcs.contains pc && l.phase.owns

/-- REFRESH_DUE (R143): the controller issues it on a pseudo-channel that it owns; a stack in self-refresh refreshes itself
(R374). -/
def execRefreshDue (stack pc : Nat) (s : State) : Result :=
  if s.leased stack pc || s.selfRefresh then .next s
  else
    let up := fun (x : Stack) => { x with
        refreshes := updateAt pc (· + 1) x.refreshes, postponed := updateAt pc (fun _ => 0) x.postponed }
    .next { s with store := { s.store with hbms := updateFirst (·.index == stack) up s.store.hbms } }

end Sys2Proof.Machine
end

