-- ==== Sys2Proof/Machine/Lease.lean ====
section
/-! DEFINITION. Leases of the base dies and stall programs (R163–R180). -/

namespace Sys2Proof.Machine

/-! ### Frames and fences (R164, R169, R174) -/

/-- The slice that a stack belongs to. -/
def State.stackSlice (s : State) (stack : Nat) : Option SliceCfg := s.img.slices.find? fun c => c.hbms.contains stack

/-- Pseudo-channels of a stack under lease. -/
def State.leasedPcs (s : State) (stack : Nat) : List Nat :=
  ((s.leases.leases.filter fun l => l.req.stack == stack && decide (l.phase ≠ .returned)).map
    fun (l : Lease) => l.req.pcs).flatten

/-- The frames that a lease's fence lets through: its list and, for ZERO of metadata frames, their ECC-area frames (R169,
R174). -/
def Lease.fence (l : Lease) (c : SliceCfg) : List Nat :=
  l.req.frames ++ (if l.req.program == 4 then l.req.frames.filterMap fun f => (c.eccPlace f).map (·.1) else [])

/-- Whether some frames belong to a paddock: nobody else stores anything in them (R164). -/
def State.framesOf (s : State) (c : SliceCfg) (paddock : Nat) (frames : List Nat) : Bool :=
  (s.store.places.all fun p => p.2 == paddock || !(p.1.frames.any frames.contains))
    && frames.all (s.metaOf c paddock)

/-! ### Request (R164, R168, R174, R176) -/

/-- The controller's conditions (R164, R174). -/
def State.leaseFits (s : State) (c : SliceCfg) (r : LeaseReq) : Bool :=
  1 ≤ r.pcs.length && r.pcs.length ≤ 16 && r.pcs.eraseDups.length == r.pcs.length && r.pcs.all (· < 64)
    && 1000 ≤ r.durationNs && r.durationNs ≤ c.leaseTimeMax
    && 1 ≤ r.frames.length && r.frames.length ≤ 512
    && (r.frames.all fun f => (c.channelOf f).any fun p => p.1 == r.stack && r.pcs.contains p.2)
    && (r.frames.all fun f => c.kindOf f != 2 && (r.program == 4 || c.kindOf f != 0))
    && s.framesOf c r.paddock r.frames

/-- Whether a base die runs a program of an ABI version (R176). -/
def abiRuns (abi : Nat) : Bool := abi / 256 == 1 && abi % 256 ≤ 2

/-- Whether a stack has stopped (R160). -/
def State.stackStopped (s : State) (stack : Nat) : Bool := s.store.hbms.any fun x => x.index == stack && x.stopped

/-- Store a new lease: its drain begins. -/
def State.openLease (s : State) (r : LeaseReq) (first : Nat) (fixed : Bool) : State :=
  let hot := s.store.hbms.any fun x => x.index == r.stack && x.hot
  let l : Lease := ⟨s.leases.nextLease, r, .draining, 0, none, 0, first, if hot then 2 else 1, [], none, 0, fixed⟩
  { s with leases := { s.leases with leases := s.leases.leases ++ [l], nextLease := s.leases.nextLease + 1 } }

/-- Frames of a chore that are still to do. -/
def Chore.todo (k : Chore) : List Nat := k.frames.drop k.first

/-- Work for a later dispatch. -/
def State.addChore (s : State) (k : Chore) : State :=
  { s with leases := { s.leases with chores := s.leases.chores ++ [k] } }

/-- The ABI that a program of the running bundle declares; one without a program declares none (R176). -/
def State.programAbi (s : State) (program : Nat) : Nat := ((s.leases.programs.find? (·.1 == program)).map (·.2)).getD 0

/-- A dispatch takes its frames out of the chores of its program and paddock; the answer is the first list index: a program
that expired goes on from its NEXT_FRAME (R178). -/
def State.takeChore (s : State) (program paddock : Nat) (frames : List Nat) : Nat × State :=
  let same := fun (k : Chore) => k.program == program && k.paddock == paddock
  let first := ((s.leases.chores.find? fun k => same k && k.frames == frames).map (·.first)).getD 0
  let cut := fun (k : Chore) =>
    if same k then { k with frames := k.todo.filter fun f => !frames.contains f, first := 0 } else k
  (first, { s with leases := { s.leases with chores := (s.leases.chores.map cut).filter fun k => !k.frames.isEmpty } })

/-- A lease dispatch as a piece of work of who pays for it. -/
def leaseWork (r : LeaseReq) (payer : Nat) : Work := ⟨.lease, payer, [r.stack, r.program, r.paddock] ++ r.frames⟩

/-- LEASE_REQUEST (R164, R165, R168, R176): on demand in a slice of open policy, as background work, for LEASE_TIME unless the
program asks for less; in a slice of sealed policy the work waits for the fixed rounds. A program that fenced before, a base die
with all its pseudo-channels out, or a restarting O3 sends none, nor does a node outside N0 (R374) or a stopped slice (R368). -/
def execLeaseRequest (r : LeaseReq) (s : State) : Result :=
  match s.stackSlice r.stack with
  | none => .next s
  | some c =>
    let s0 := s
    let s := s.zeroTeardowns
    let out := s.leasedPcs r.stack
    if s.stackStopped r.stack || s.restarting 3 || !s.awake || s.leases.withheld.contains (r.stack, r.program)
        || s.host.slicesOff.contains c.id then .next s
    else if !abiRuns (s.programAbi r.program) then s0.finish (s.note (unnamed 6 1 2 r.stack 0))
    else if !s.leaseFits c r then s0.finish (s.note ⟨1, 2, 0x3003, r.paddock, r.stack, 0, 0, []⟩)
    else if c.policy != 0 then .next (s.addChore ⟨r.program, r.paddock, r.frames, 0, r.param0, r.param1⟩)
    else if c.leasePcs < out.length + r.pcs.length || r.pcs.any out.contains then .next s
    else
      let payer := if decide ((s.pad r.paddock).state = .teardown) then 0 else r.paddock
      let bytes := r.frames.length * 32768
      match s.takeTurn c.id 2 payer (leaseWork r payer) bytes with
      | (t, false) => .next t
      | (t, true) =>
        let (first, t) := t.takeChore r.program r.paddock r.frames
        let r := { r with durationNs := min r.durationNs c.leaseTime, abi := s.programAbi r.program }
        .next (t.openLease r first false)

/-! ### Fixed rounds (R168) -/

/-- Work for a round: of the first chore of the slice, the frames that the leased pseudo-channels hold. A torn-down
paddock's chores wait for its admitted operations (R299). -/
def State.roundWork (s : State) (c : SliceCfg) (stack : Nat) (pcs : List Nat) : Option (Chore × List Nat) :=
  s.leases.chores.findSome? fun k =>
    let mine := k.todo.filter fun f => (c.channelOf f).any fun p => p.1 == stack && pcs.contains p.2
    let waits := decide ((s.pad k.paddock).state = .teardown) && s.eng.ops.any fun o => o.req.paddock == k.paddock
    if mine.isEmpty || waits || s.leases.withheld.contains (stack, k.program) then none else some (k, mine.take 512)

/-- One stack's part of a round: the next pseudo-channels in rotation, with work or without. A pseudo-channel that is still
out stays out of the round, which keeps to LEASE_PCS at one time (R165; log 113). -/
def State.roundOn (s : State) (c : SliceCfg) (stack : Nat) : State :=
  let first := ((s.leases.rotation.find? (·.1 == stack)).map (·.2)).getD 0
  let out := s.leasedPcs stack
  let turn := (List.range (min c.leasePcs 16)).map fun i => (first + i) % 64
  let pcs := (turn.filter fun p => !out.contains p).take (min c.leasePcs 16 - out.length)
  let others := s.leases.rotation.filter (·.1 != stack)
  if s.stackStopped stack || s.restarting 3 then s
  else
    let s := { s with leases := { s.leases with rotation := others ++ [(stack, (first + c.leasePcs) % 64)] } }
    let time := min c.leaseTime c.leaseTimeMax
    let idle := s.openLease ⟨stack, pcs, time, [], 0, 0, 0x0102, 0, 0⟩ 0 true
    if pcs.isEmpty then s
    else
      match s.roundWork c stack pcs with
      | none => idle
      | some (k, mine) =>
        let abi := s.programAbi k.program
        let r : LeaseReq := ⟨stack, pcs, time, mine, k.paddock, k.program, abi, k.param0, k.param1⟩
        if !abiRuns abi then idle.note (unnamed 6 1 2 stack 0)
        else if !s.leaseFits c r then idle.note ⟨1, 2, 0x3003, r.paddock, r.stack, 0, 0, []⟩
        else
          let (_, t) := s.takeChore k.program k.paddock mine
          t.openLease r 0 true

/-- LEASE_ROUND_TIMER (R168): LEASE_PERIOD after the last one, one round on every stack of a slice of sealed policy,
whether or not work waits. -/
def execLeaseRoundTimer (slice : Nat) (s : State) : Result :=
  match s.sliceCfg slice with
  | none => .next s
  | some c =>
    if c.policy == 0 || s.host.slicesOff.contains slice then .next s
    else
      let at_ := ((s.leases.rounds.find? (·.1 == slice)).map fun x => x.2 + c.leasePeriod).getD s.time
      let t := (s.advanceTo at_).zeroTeardowns
      let t := { t with leases := { t.leases with rounds := t.leases.rounds.filter (·.1 != slice) ++ [(slice, at_)] } }
      s.finish (c.hbms.foldl (fun u k => u.roundOn c k) t)

/-! ### Cores (R163, R177) -/

/-- The call block of an invocation, with its frame list (R177). -/
def Lease.callBlock (l : Lease) (sealed : Bool) : Bytes :=
  toLe 2 l.req.program ++ toLe 2 l.req.abi ++ toLe 2 l.req.paddock ++ toLe 2 (flag sealed) ++ toLe 4 l.id
    ++ toLe 4 l.req.frames.length ++ toLe 4 l.firstFrame ++ zeros 4 ++ toLe 8 l.req.param0 ++ toLe 8 l.req.param1
    ++ zeros 88 ++ (l.req.frames.map (toLe 8)).flatten

/-- Data SRAM once a program has run: what it, or the base die for it, writes into the call block (RESULT, NEXT_FRAME, FAILED,
CYCLES and the failure list after the frame list, R177), and beyond that what the program has put there, the 64-byte units that
it has read from DRAM among it (R163): a free value (log 112). -/
def Lease.writeResult (l : Lease) (r : ProgramResult) (data : Bytes) : Bytes :=
  let list := 128 + 8 * l.req.frames.length
  let block := sub data 0 64 ++ toLe 1 r.result ++ sub data 65 3 ++ toLe 4 r.nextFrame ++ toLe 4 r.failures.length
    ++ toLe 4 r.cycles ++ sub data 80 (list - 80) ++ (r.failures.map (toLe 8)).flatten
  block ++ sub (Config.coreData l.id) 0 (131072 - block.length)

/-- Change a lease. -/
def State.modLease (s : State) (i : Nat) (f : Lease → Lease) : State :=
  { s with leases := { s.leases with leases := updateFirst (·.id == i) f s.leases.leases } }

/-- A lease by ID in a phase. -/
def State.leaseIn (s : State) (i : Nat) (p : LeasePhase) : Option Lease :=
  s.leases.leases.find? fun l => l.id == i && decide (l.phase = p)

/-- The core of a stack. -/
def State.core (s : State) (stack i : Nat) : Option StallCore :=
  s.leases.cores.find? fun k => k.stack == stack && k.core == i

/-- Store a core. -/
def State.putCore (s : State) (k : StallCore) : State :=
  let others := s.leases.cores.filter fun x => !(x.stack == k.stack && x.core == k.core)
  { s with leases := { s.leases with cores := others ++ [k] } }

/-- O3 loads a lease's program into the instruction SRAM of the lowest free core of the stack, writes its call block and
sets a0; data SRAM and registers of a core that turns to another paddock are zeroed first. A round without work starts
none (R163, R168, R177; log 112). -/
def State.startCore (s : State) (l : Lease) : State :=
  let busy := (s.leases.leases.filter fun x => x.req.stack == l.req.stack).filterMap fun (x : Lease) => x.core
  match (List.range 16).find? fun i => !busy.contains i with
  | none => s
  | some i =>
    if l.req.frames.isEmpty then s
    else
      let kept := (s.core l.req.stack i).filter fun k => k.paddock == l.req.paddock
      let call := l.callBlock (decide ((s.pad l.req.paddock).state = .sealed))
      let bundle := (s.boot.bundle.map (·.2)).getD []
      let regs := updateAt 10 (fun _ => 0x10000000) ((kept.map (·.regs)).getD (List.replicate 32 0))
      let data := sub (call ++ ((kept.map (·.data)).getD []).drop call.length) 0 131072
      (s.putCore ⟨l.req.stack, i, l.req.paddock, l.req.program, sub (Config.programText bundle l.req.program) 0 65536, data,
        regs, Config.programEntry bundle l.req.program⟩).modLease l.id fun x => { x with core := some i }

/-! ### The course of a lease (R166, R169–R172, R178) -/

/-- Postponed refreshes of a stack's pseudo-channels. -/
def State.postponed (s : State) (stack : Nat) (pcs : List Nat) : List (Nat × Nat) :=
  match s.store.hbms.find? (·.index == stack) with
  | none => []
  | some x => pcs.map fun p => (p, x.postponed.getD p 0)

/-- Set the postponed refreshes of a stack's pseudo-channels. -/
def State.setPostponed (s : State) (stack : Nat) (counts : List (Nat × Nat)) : State :=
  let set := fun (x : Stack) => { x with postponed := counts.foldl (fun l c => updateAt c.1 (fun _ => c.2) l) x.postponed }
  { s with store := { s.store with hbms := updateFirst (·.index == stack) set s.store.hbms } }

/-- LEASE_HANDOVER_DONE (R166, R171, R175, R177): the base die owns the command bus, the refresh duty and the count of
postponed refreshes; metadata frames of the list count as touched; the program starts on a core. -/
def execLeaseHandoverDone (lease : Nat) (s : State) : Result :=
  match s.leaseIn lease .draining with
  | none => .next s
  | some l =>
    let touched := match s.stackSlice l.req.stack with
      | none => []
      | some c => (l.req.frames.filter fun f => c.kindOf f == 0).map fun f => (f, lease)
    let t := s.modLease lease fun x => { x with
      phase := .running, expires := s.time + l.req.durationNs, passed := s.postponed l.req.stack l.req.pcs }
    let t := t.setPostponed l.req.stack (l.req.pcs.map fun p => (p, 0))
    let t := { t with store := { t.store with
      leaseTouched := t.store.leaseTouched.filter (fun (x : Nat × Nat) => !touched.any (·.1 == x.1)) ++ touched } }
    .next (t.startCore l)

/-- LEASE_REFRESH_DUE (R171, R172): the base die issues the refresh, and a running program pauses for it. -/
def execLeaseRefreshDue (lease pc : Nat) (s : State) : Result :=
  match s.leases.leases.find? fun l => l.id == lease && l.phase.owns with
  | none => .next s
  | some l =>
    if !l.req.pcs.contains pc then .next s
    else
      let up := fun (x : Stack) => { x with refreshes := updateAt pc (· + 1) x.refreshes }
      let t := s.modLease lease fun x => { x with
        paused := if decide (x.phase = .running) then x.paused + 1 else x.paused
        passed := x.passed.map fun c => if c.1 == pc then (pc, 0) else c }
      .next { t with store := { t.store with hbms := updateFirst (·.index == l.req.stack) up t.store.hbms } }

/-! ### The end of a program -/

/-- Whether a Tier-1 place lies in some frames altogether. -/
def Place.within (p : Place) (frames : List Nat) : Bool :=
  decide (p.tier = .tier1) && !p.frames.isEmpty && p.frames.all frames.contains

/-- The entries of a paddock whose objects lie in some frames. -/
def State.entriesIn (s : State) (paddock : Nat) (frames : List Nat) : List (Seq × Entry) :=
  ((s.store.seqs.filter fun q => q.paddock == paddock && !q.state.leaving).map fun q =>
    (q.entries.filter fun e => (s.entryPlace e).any fun p => p.within frames).map fun e => (q, e)).flatten

/-- The reference to an entry. -/
def blockRef (x : Seq × Entry) : BlockRef := ⟨x.1.paddock, x.1.id, x.2.layer, x.2.head, x.2.block⟩

/-- The frames of a list that a program has completed: from FIRST_FRAME to the end, or to NEXT_FRAME where it expired
(R178). -/
def Lease.done (l : Lease) (code : Nat) (r : ProgramResult) : List Nat :=
  match code with
  | 0 => l.req.frames.drop l.firstFrame
  | 1 => (l.req.frames.take r.nextFrame).drop l.firstFrame
  | 3 => l.req.frames.drop l.firstFrame
  | _ => []

/-- A program ends and the lease begins to return; one of a fixed round keeps its pseudo-channels for its whole time, so that
the round does not show when the program ended (R168; log 118). What ZERO has written is in the frames. -/
def State.endProgram (s : State) (l : Lease) (code : Nat) (r : ProgramResult) : State :=
  let r := { r with result := code }
  let stays := l.fixed && s.time < l.expires
  let s := s.modLease l.id fun x => { x with
    phase := if stays then .running else .returning, core := none, code := code, result := some r }
  let s := match l.core.bind (s.core l.req.stack) with
    | none => s
    | some k => s.putCore { k with
        data := l.writeResult r k.data
        regs := 0 :: (List.range 31).map fun i => Config.coreRegister l.id (i + 1) % 2 ^ 32 }
  if l.req.program == 4 then s.zeroFrames (l.done code r) else s

/-- Core cycles that a halted program had used: a free value (log 112). -/
def State.stallCycles (s : State) : Nat × State := (Config.stallCycles s.rng % 2 ^ 32, { s with rng := s.rng + 1 })

/-- FENCE_FAULT (R169): an access outside the fence is not issued, RESULT is 2, and the program is withheld on that base
die. -/
def execFenceFault (lease address : Nat) (s : State) : Result :=
  match s.leaseIn lease .running, (s.leaseIn lease .running).bind fun l => s.stackSlice l.req.stack with
  | some l, some c =>
    if l.core.isNone || (l.fence c).contains (address / 32768) then .next s
    else
      let (cycles, t) := s.stallCycles
      let t := t.endProgram l 2 ⟨2, l.firstFrame, cycles, [], []⟩
      let key := (l.req.stack, l.req.program)
      let t := { t with leases := { t.leases with
        withheld := t.leases.withheld.filter (· != key) ++ [key]
        fenceRecords := t.leases.fenceRecords ++ [(lease, l.req.program, address)] } }
      s.finish (t.note ⟨1, 2, 0x3004, l.req.paddock, l.req.stack, address, lease, toLe 2 l.req.program⟩)
  | _, _ => .next s

/-- What a program that expired has found or moved in the frames that it completed, as failure-list entries and
references: which objects is a free value (R178; log 113). -/
def State.expiredFinds (s : State) (l : Lease) (nextFrame : Nat) : List (Nat × BlockRef) :=
  let es := s.entriesIn l.req.paddock ((l.req.frames.take nextFrame).drop l.firstFrame)
  (((List.range es.length).zip es).filter fun x => Config.expiredResult l.id x.1).filterMap fun x =>
    (s.entryPlace x.2.2).map fun p => (p.frame + p.granule * 2 ^ 40, blockRef x.2)

/-- LEASE_EXPIRY (R166, R178): the base die halts the core and writes RESULT 1 with NEXT_FRAME. A round without work just
ends. -/
def execLeaseExpiry (lease nextFrame : Nat) (s : State) : Result :=
  match s.leaseIn lease .running with
  | none => .next s
  | some l =>
    let t := s.advanceTo l.expires
    if l.core.isNone then .next (t.modLease lease fun x => { x with phase := .returning })
    else
      let (cycles, t) := t.stallCycles
      let found := t.expiredFinds l nextFrame
      .next (t.endProgram l 1 ⟨1, nextFrame, cycles, if l.req.program == 1 then found.map (·.1) else [], found.map (·.2)⟩)

/-- STALL_PROGRAM_DONE (R166, R178): the program has left its results in the call block; after the duration has run out the
base die has halted it instead. SUMMARISE refuses a sealed paddock (R173). -/
def execStallProgramDone (lease : Nat) (r : ProgramResult) (s : State) : Result :=
  match s.leaseIn lease .running with
  | none => .next s
  | some l =>
    if l.core.isNone then .next s
    else if l.expires < s.time then .next (s.endProgram l 1 r)
    else if l.req.program == 3 && decide ((s.pad l.req.paddock).state = .sealed) then .next (s.endProgram l 4 r)
    else .next (s.endProgram l r.result r)

/-! ### Results (R173, R178, R179) -/

/-- The closed block that a reference names. -/
def State.refBlock (s : State) (b : BlockRef) : Option (Seq × Entry × Block) :=
  (s.findSeq b.paddock b.seq).bind fun q => (q.entry b.layer b.head b.block).bind fun e =>
    match e.slot with
    | .tail _ => none
    | .closed n => (s.block n).map fun k => (q, e, k)

/-- Whether a list of failures names an object: its frame and first granule (R177). -/
def failedAt (failures : List Nat) (p : Place) : Bool :=
  failures.any fun f => f % 2 ^ 40 == p.frame && bits f 45 40 == p.granule

/-- What SCRUB found: the objects of the failure list, and in an open paddock's completed frames every block and tail whose
check fails (R178). -/
def State.scrubFinds (s : State) (l : Lease) (done : List Nat) (r : ProgramResult) : List BlockRef :=
  ((s.entriesIn l.req.paddock done).filter fun x =>
    r.blocks.contains (blockRef x) || (s.entryPlace x.2).any (failedAt r.failures)
      || (!x.1.sealed && !s.entryLost x.1 x.2 && !s.entryOk x.1 x.2)).map blockRef

/-- SCRUB found a block whose check fails (R119, R178). -/
def State.scrubbed (s : State) (b : BlockRef) : State :=
  match s.findSeq b.paddock b.seq with
  | none => s
  | some q => s.markLost q.desc b.layer b.head b.block

/-- Room for a copy of a block in the frames of a lease, which its program cannot leave (R163, R169). -/
def State.allocWithin (s : State) (frames : List Nat) (shift units : Nat) : Option (Place × State) :=
  let usable := frames.filter fun f => !s.store.retired.contains f && !s.store.dirty.contains f
  let all := (usable.map fun f =>
    let used := (s.store.places.filter fun p => decide (p.1.tier = .tier1) && p.1.frames.contains f).map fun p => p.1.span f
    (freeStarts used shift (units * 2 ^ shift)).map fun a => (⟨.tier1, f, a, units, shift⟩ : Place)).flatten
  let (i, t) := s.choose Config.placement all.length
  (all[i]?).map fun p => (p, t)

/-- COMPACT moved a block within the frames of its lease: once the copy verifies the entry is switched to it, unless R155 has
it abandoned; a shared block stays (R100, R105, R108, R179). -/
def State.compacted (s : State) (frames : List Nat) (b : BlockRef) : State :=
  match s.refBlock b with
  | none => s
  | some (q, e, k) =>
    if k.lost || e.shared || 1 < k.refs || decide (q.state ≠ .live) || !k.whole.within frames
        || decide ((s.pad k.paddock).state = .teardown) then s
    else
      match s.allocWithin frames k.place.shift k.whole.units with
      | none => s
      | some (p, t) =>
        let copy := { k with place := { p with units := k.place.units } }
        if !t.blockOk q.sealed q.shape.recShape copy then t.markLost q.desc b.layer b.head b.block
        else ((t.modBlock k.num fun _ => copy).resealNamers k.num).freeOld k.num q.desc q.generation k.paddock k.whole

/-- SUMMARISE wrote a block's summary record, and firmware sets SUMMARY (R43, R106); it computes on no block whose check
fails (R105, R173). -/
def State.summarised (s : State) (b : BlockRef) : State :=
  match s.refBlock b with
  | none => s
  | some (q, _, k) =>
    if k.lost || q.sealed || k.summaryUnits == 0 || !s.blockOk false q.shape.recShape k then s
    else
      match blockRecords q.shape.recShape k.coding k.stored with
      | none => s
      | some recs =>
        let body := ((summary (recs.map q.shape.recShape.k)).map fun (x : BF16) => toLe 2 x.toNat).flatten
        s.modBlock k.num fun x => { x with summary := body ++ toLe 4 (crc32c body).toNat, hasSummary := true }

/-- The effect of a program that has completed some frames of its list (R178). In a torn-down paddock only a ZERO has one
(R299 step 2). DESIGN CHOICE (log 113): COMPACT and SUMMARISE that expired have moved and summarised what they name, and
SUMMARISE every block of the frames completed. -/
def State.programEffect (s : State) (l : Lease) (done : List Nat) (r : ProgramResult) : State :=
  let gone := decide ((s.pad l.req.paddock).state = .teardown)
  let mine := ((s.entriesIn l.req.paddock done).map blockRef).filter r.blocks.contains
  match l.req.program with
  | 1 => if gone then s else (s.scrubFinds l done r).foldl (fun t b => t.scrubbed b) s
  | 2 => if gone then s else mine.foldl (fun t b => t.compacted l.req.frames b) s
  | 3 =>
    if gone then s
    else
      let all := if l.code == 1 then (s.entriesIn l.req.paddock done).map blockRef else mine
      all.foldl (fun t b => t.summarised b) s
  | 4 => { s with store := { s.store with dirty := s.store.dirty.filter fun f => !done.contains f } }
  | _ => s

/-- What is left of a program's list waits for another dispatch: from NEXT_FRAME after an expiry, and the frames that a fenced
ZERO has not cleared (R169, R178). -/
def State.rechore (s : State) (l : Lease) (r : ProgramResult) : State :=
  let again := (l.code == 1 && r.nextFrame < l.req.frames.length) || (l.code == 2 && l.req.program == 4)
  let gone := decide ((s.pad l.req.paddock).state = .teardown) && l.req.program != 4
  if again && !gone then
    s.addChore ⟨l.req.program, l.req.paddock, l.req.frames, max l.firstFrame r.nextFrame, l.req.param0, l.req.param1⟩
  else s

/-- O3 reads the call block of a returned lease, whose marks are gone with it; frames of the list that were retired meanwhile
are emptied now (R170, R177–R179). The time of a teardown's zero-fill counts for paddock 0 (R296). -/
def State.completeLease (s : State) (l : Lease) : State :=
  let s := { s with leases := { s.leases with leases := s.leases.leases.filter (·.id != l.id) } }.stir
  let s := match l.result with
    | none => s
    | some r =>
      let payer := if decide ((s.pad l.req.paddock).state = .teardown) then 0 else l.req.paddock
      ((s.tally payer 8 r.cycles).programEffect l (l.done l.code r) r).rechore l r
  (l.req.frames.filter s.store.retired.contains).foldl (fun t f => t.retireFrame f) s

/-- Serve one request that the controller has held (R167): the writes of an append, a walk, a move, a commit; a read is
done once its BLOCK_READ_DONE comes. -/
def State.serveOne (s : State) (w : HeldWork) : State :=
  let t := s.dropHeld (· == w)
  match w with
  | .read .. => { s with store := { s.store with held := updateFirst (·.work == w) (fun g => { g with served := true }) s.store.held } }
  | .write op => (match t.op op with | none => t | some o => t.settleOp o)
  | .walk die p q n r => (match t.walkPage p q n with | none => t | some x => t.walkFill die x.1 x.2 r)
  | .move i r => (match t.store.moves.find? (·.id == i) with
      | none => t
      | some m => if t.marked m.source || t.marked m.target then t else t.moveDone m r)
  | .commit qpn psn => (match t.waitingCommit qpn psn with | none => t | some (x, line) => t.commitNow x qpn psn line)

/-- Serve what the controller holds, in arrival order, as far as no lease has a pseudo-channel that it needs (R167). -/
def State.serveHeld (s : State) : State :=
  s.store.held.foldl (fun t h =>
    let before := t.store.held.takeWhile fun g => g.work != h.work
    if h.served || (h.channels.any t.channelLeased) || before.any (fun g => !g.served && g.channels.any h.channels.contains) then t
    else t.serveOne h.work) s

/-- LEASE_RETURN_DONE (R166, R167, R170, R171): the controller owns the pseudo-channels again with their refresh duty, rate
and postponed refreshes; O3 reads the call block, once it runs (R179), and the controller serves what it has held. -/
def execLeaseReturnDone (lease : Nat) (s : State) : Result :=
  match s.leaseIn lease .returning with
  | none => .next s
  | some l =>
    let hot := fun (x : Stack) => { x with hot := l.refreshRate == 2 }
    let t := s.setPostponed l.req.stack l.passed
    let t := { t with store := { t.store with hbms := updateFirst (·.index == l.req.stack) hot t.store.hbms } }
    let t := t.modLease lease fun x => { x with phase := .returned }
    s.finish (if t.restarting 3 then t else t.completeLease l).serveHeld

/-- O3 runs again: it reads the call blocks of the leases that have returned meanwhile (R179). -/
def State.readReturned (s : State) : State :=
  (s.leases.leases.filter fun l => decide (l.phase = .returned)).foldl (fun t l => t.completeLease l) s

end Sys2Proof.Machine
end

