-- ==== Sys2Proof/Machine/Repair.lean ====
section
/-! DEFINITION. In-service LBIST and spares (R320–R324), windows that are done (R226), occupancy counters (R296). -/

namespace Sys2Proof.Machine

/-- UNIT of a cluster in the log: clusters of both dies in one numbering. -/
def clusterUnit (die phys : Nat) : Nat := die * 68 + phys

/-- The next physical cluster of a die in rotation that can be tested (R323). -/
def State.nextTest (s : State) (die : Nat) : Option Cluster :=
  let first := s.eng.lbistNext.getD die 0
  ((List.range 68).map fun i => (first + i) % 68).findSome? fun p =>
    (s.eng.clusters.find? fun k => k.die == die && k.phys == p).filter fun k =>
      match k.use with | .mapped _ => true | .spare _ => k.spareSince.isNone | _ => false

/-- Whether a logical cluster belongs to a slice of sealed policy. -/
def State.sealedCluster (s : State) (die logical : Nat) : Bool :=
  s.img.slices.any fun c => c.policy != 0 && c.clusters.contains (die, logical)

/-- LBIST_SWAP_TIMER (R323). -/
def execLbistSwapTimer (die : Nat) (s : State) : Result :=
  match s.nextTest die with
  | none => .next s
  | some k =>
    let t := { s with eng := { s.eng with lbistNext := updateAt die (fun _ => (k.phys + 1) % 68) s.eng.lbistNext } }
    match k.use with
    | .mapped l =>
      let spare := t.eng.clusters.any fun x => x.die == die && decide (x.use = .spare true) && x.spareSince.isNone
      if !spare && t.sealedCluster die l then
        s.finish (t.note ⟨0, 1, 0x5003, 0, clusterUnit die k.phys, 0, 0, []⟩)
      else s.finish ((t.modCluster die k.phys fun x => { x with use := .draining l }).settleDrains)
    | _ => s.finish (t.modCluster die k.phys fun x => { x.cleared with use := .testing })

/-- A cluster that has become a spare is to take a logical ID that a retired cluster has left without one (R320). -/
def State.offerSpare (s : State) (die cluster : Nat) : State :=
  match s.vacant die with
  | none => s
  | some l => s.modCluster die cluster fun x =>
      if decide (x.use = .spare true) && x.spareSince.isNone then { x with spareSince := some (l, s.time) } else x

/-- LBIST_DONE (R320, R322, R323): a cluster that passes is a spare, or takes back the ID that it left; one that fails is
retired. -/
def execLbistDone (die cluster : Nat) (pass : Bool) (s : State) : Result :=
  match s.eng.clusters.find? fun k => k.die == die && k.phys == cluster with
  | none => .next s
  | some k =>
    let under := match k.use with | .testing => true | .swapping _ => true | _ => false
    let again := match k.use with | .rerun d => some d | _ => none
    if again.isSome then
      .next (s.modCluster die cluster fun x => { x with
        result := if pass then 1 else 2, use := if again == some true then .disabled else .retired })
    else if !under then .next s
    else if pass then
      let t := s.modCluster die cluster fun x => { x.cleared with
        result := 1
        use := (match x.use with | .swapping l => .mapped l | _ => .spare true)
        spareSince := x.spareSince.map fun y => (y.1, s.time) }
      s.finish (t.offerSpare die cluster).stir.place
    else
      let t := (s.modCluster die cluster fun x => { x with result := 2 }).stir
      s.finish ((t.retireCluster die cluster).note ⟨1, 1, 0x5003, 0, clusterUnit die cluster, 0, 0, []⟩)

/-- SPARE_WAIT_EXPIRY (R320): a spare takes the retired cluster's logical ID. -/
def execSpareWaitExpiry (die cluster : Nat) (s : State) : Result :=
  match s.eng.clusters.find? fun k => k.die == die && k.phys == cluster with
  | none => .next s
  | some k =>
    match k.use, k.spareSince with
    | .spare true, some x =>
      let t := s.advanceTo (x.2 + s.img.service.spareWait)
      s.finish (t.takeIds fun y => y.die == die && y.phys == cluster)
    | _, _ => .next s

/-- WINDOW_FREE (R226): the admitted messages of a closing window's connections have completed. -/
def execWindowFree (window : Nat) (s : State) : Result :=
  match s.window window with
  | none => .next s
  | some w =>
    let mine := (s.net.qps.filter fun q => q.window == some (w.index, w.gen)).map (·.qpn)
    if decide (w.state ≠ .closing) || s.net.inbox.any (fun m => mine.contains m.qpn) then .next s
    else .next ((s.modWindow window fun x => { x with state := .free, key := [], takeover := none, parts := [] }).dropRegions w)

/-- TALLY_OCCUPANCY_TICK (R296). -/
def execTallyOccupancyTick (s : State) : Result :=
  let used := (s.pads.filter fun p => decide (p.state ≠ .free)).map (·.id)
  .next (used.foldl (fun t p => (t.tally p 2 (s.t1Use p / 1024)).tally p 3 (s.t2Use p / 1024)) s)

end Sys2Proof.Machine
end

