-- ==== Sys2Proof/Machine/Links.lean ====
section
/-! DEFINITION. Links: PFC (R248), going down and coming up (R208, R342, R368), LLDP (R185, R342), PTP (R185). -/

namespace Sys2Proof.Machine

/-- A link by id. -/
def State.link (s : State) (i : Nat) : Option Link := s.net.links.find? (·.id == i)

/-- PFC_FRAME_RECEIVE (R248): the partner pauses or resumes a priority. -/
def execPfcFrameReceive (link prio : Nat) (pause : Bool) (s : State) : Result :=
  match s.sched (16 + link), s.link link with
  | some d, some l =>
    if !l.up then .next s
    else
      let rest := d.paused.filter (· != prio)
      let d : Sched := { d with paused := if pause then rest ++ [prio] else rest }
      .next (s.putSched (s.reclock d))
  | _, _ => .next s

/-! ### Homes (R208) -/

/-- Links that connections may take as their home. -/
def State.homeLinks (s : State) : List Nat := (s.net.links.filter fun l => l.up && l.enabled).map (·.id)

/-- Connections homed on a link move to the lowest other link that is up; with none they stay. -/
def State.moveHomes (s : State) (link : Nat) : State :=
  match (s.homeLinks.filter (· != link)).head? with
  | none => s
  | some l =>
    let move := fun (q : Qp) => if q.homePort == link then { q with homePort := l } else q
    { s with net := { s.net with qps := s.net.qps.map move } }

/-- A link goes down: its neighbour and the pauses of its partner are forgotten. -/
def State.dropLink (s : State) (link : Nat) : State :=
  let down := fun (l : Link) => { l with up := false, neighbour := false, chassis := [], peerPort := [], xoffSent := [] }
  let s := (s.modLink link down).modSched (16 + link) fun d => { d with paused := [] }
  s.moveHomes link

/-- LINK_DOWN (R208). -/
def execLinkDown (link : Nat) (s : State) : Result :=
  match s.link link with
  | none => .next s
  | some l => if l.up then .next (s.dropLink link) else .next s

/-! ### Training and discovery (R342) -/

/-- Whether a link trains: it is enabled, or its re-enable takes effect (R368). -/
def Link.trains (l : Link) : Bool := l.shuttingDown.isNone && (l.enabled || l.reenable)

/-- The name of a link (R181): Pn, or Pn.k on a port that is broken out. -/
def State.linkName (s : State) (link : Nat) : Bytes :=
  let digit := fun (n : Nat) => toBe 1 (48 + n)
  ascii "P" ++ digit (link / 4)
    ++ (if s.img.transport.modes.getD (link / 4) 1 == 1 then [] else ascii "." ++ digit (link % 4))

/-- Send LLDP on a link (R185): the node's serial number is the chassis ID, the link's name the port ID. Its length counts
these two and the TTL. -/
def State.sendLldp (s : State) (link : Nat) : State :=
  let name := s.linkName link
  s.egressOther link 0 (.lldp s.fused.serial name) [] (max 64 (30 + s.fused.serial.length + name.length))

/-- LLDP in fast-start mode on every link that is up. -/
def State.announce (s : State) : State := (s.net.links.filter (·.up)).foldl (fun t l => t.sendLldp l.id) s

/-- The stage DISCOVERY begins. -/
def State.discover (s : State) : State := (s.setStage 9).announce

/-- The rate of a link in its port's mode, in Gb/s (R181). -/
def State.linkRate (s : State) (link : Nat) : Nat := 1600 / max 1 (s.img.transport.modes.getD (link / 4) 1)

/-- LINK_UP (R342, R368): LLDP starts; the stage LINK ends when every link is up, or after its 1.5 s with any that is. -/
def execLinkUp (link : Nat) (s : State) : Result :=
  match s.link link with
  | none => .next s
  | some l =>
    if l.up || !l.trains || s.boot.stage < 8 || 13 < s.boot.stage then .next s
    else
      let t := s.modLink link fun x => { x with up := true, rate := s.linkRate link }
      let t := t.sendLldp link
      let all := t.net.links.all fun x => x.up || !x.trains
      let late := t.boot.stageAt + 1500000000 ≤ t.time
      .next (if t.boot.stage == 8 && (all || late) then t.discover else t)

/-- LINK_STAGE_TIMEOUT (R348): the node proceeds with the links that are up; with none it waits. -/
def execLinkStageTimeout (s : State) : Result :=
  if s.boot.stage != 8 then .next s
  else
    let t := s.advanceTo (s.boot.stageAt + 1500000000)
    let t := { t with boot := { t.boot with lastFail := max t.boot.lastFail t.boot.stage } }.note (unnamed 7 0 0 0 0)
    s.finish (if t.net.links.any (·.up) then t.discover else t)

/-- LLDPDU_RECEIVE (R185, R342): the neighbour of a link; a link under re-enable is in effect again (R368). -/
def execLldpduReceive (link : Nat) (chassis port : Bytes) (s : State) : Result :=
  match s.link link with
  | none => .next s
  | some l =>
    if !l.up then .next s
    else
      let t := s.modLink link fun x => { x with neighbour := true, chassis := chassis, peerPort := port }
      if l.reenable && l.shuttingDown.isNone then
        let t := t.modLink link fun x => { x with enabled := true, reenable := false }
        .next (t.functionDone 1 (link / 4 * 16 + link % 4) 0 l.gen 1)
      else .next t

/-- A node's beacon slot: the low byte of the CRC-32C of its serial number (R343). -/
def State.beaconSlot (s : State) : Nat := (crc32c s.fused.serial).toNat % 256

/-- DISCOVERY_END (R342, R343): on every link an LLDPDU, or 3.0 s; the first beacon waits for the node's slot. -/
def execDiscoveryEnd (s : State) : Result :=
  if s.boot.stage != 9 then .next s
  else
    let all := s.net.links.all fun l => !l.up || l.neighbour
    let t := if all then s else s.advanceTo (s.boot.stageAt + 3000000000)
    let t := t.setStage 10
    .next { t with boot := { t.boot with join := { Join.fresh with nextAt := some (t.time + t.beaconSlot * 20000000) } } }

/-- PTP_MESSAGE (R185): the timebase follows the grandmaster by a step, and the ordinary clock asks for the delay once per
message (log 44); without its Ethernet reference it holds over (R388). -/
def execPtpMessage (offsetNs : Int) (locked : Bool) (s : State) : Result :=
  match s.net.links.find? fun l => l.id / 4 == s.img.transport.ptpPort && l.up with
  | none => .next s
  | some l =>
    if s.pwr.holdover then .next s
    else
      let t := { s with
        time := ((s.time : Int) - offsetNs).toNat % 2 ^ 64
        net := { s.net with ptpLocked := locked, ptpOffset := offsetNs } }
      .next (t.egressOther l.id 7 .delayReq [] 64)

end Sys2Proof.Machine
end

