-- ==== Sys2Proof/Machine/Ranges.lean ====
section
/-! DEFINITION. The ranges that the manual gives an image's settings: check 0x08 (R330), with R121, R260 and R291. What an
image's bytes hold beside the settings is left to `Config.rangesHold` (log 10). -/

namespace Sys2Proof.Machine

/-- A value within its inclusive range. -/
def within (lo x hi : Nat) : Bool := lo ≤ x && x ≤ hi

/-! ### Gate lists (R258, R260) -/

/-- Lengths of the windows that a cyclic list gives a class, `none` when it is always open. -/
def gclWindows (gs : List Gate) (cls : Nat) : Option (List Nat) :=
  match gs.findIdx? fun g => !bit g.mask cls with
  | none => none
  | some i =>
    let add := fun (acc : List Nat × Nat) (g : Gate) =>
      if bit g.mask cls then (acc.1, acc.2 + g.interval) else (if acc.2 == 0 then acc.1 else acc.1 ++ [acc.2], 0)
    let r := (gs.drop i ++ gs.take i).foldl add ([], 0)
    some (if r.2 == 0 then r.1 else r.1 ++ [r.2])

/-- Whether a gate list of a scheduler is consistent (R258, R260), for a link of `rate` Gb/s. R258 gives an admission
entry's GATE_MASK bits [2:0] and SLICE_SEL four bits' worth of values, and says nothing of other values: DESIGN CHOICE, a
list that holds one is refused (log 99). -/
def gclConsistent (id rate cycle : Nat) (gs : List Gate) : Bool :=
  (gs.all fun g => g.interval % 8 == 0 && 64 ≤ g.interval && g.sliceSel ≤ 15 && (16 ≤ id || g.mask ≤ 7))
    && within 1 gs.length 256 && sumNat (gs.map fun (g : Gate) => g.interval) == cycle && within 10000 cycle 10000000
    && (id < 16 || (List.range 8).all fun c => match gclWindows gs c with
        | none => true
        | some ws => ws.all fun w => 8318 * 8 ≤ w * rate)

/-! ### Sections -/

/-- SLICES, TIERS, SCHEDULE and SERVICE values of one slice (R88, R124, R147, R152, R165, R265). -/
def SliceCfg.inRange (a768 : Bool) (c : SliceCfg) : Bool :=
  (c.hbms.all fun h => h < 12 && (a768 || h % 6 < 3)) && (c.groups.all fun g => g.1 < 2 && g.2 < 8)
    && c.policy ≤ 2 && c.metaFrames % 32768 == 0 && c.metaFrames + c.metaFrames / 8 ≤ c.hbms.length * 2 ^ 21
    && c.descFirst + c.descCount ≤ 65536
    && c.freeCrit ≤ c.freeLow && c.freeLow ≤ c.freeHigh && c.freeHigh ≤ 50 && c.demoteHeat ≤ 14
    && within 1 c.promoteHeat 15 && c.portShare ≤ 100
    && within 1000 c.leaseTime c.leaseTimeMax && within 1000 c.leaseTimeMax 1000000 && within 1 c.leasePcs 16
    && within 100000 c.leasePeriod 10000000 && within 16 c.admitWindow 4194304 && within 1 c.admitSteps 65536

/-- Whether a gate list of an egress scheduler gives every slice of sealed policy a window of its own (R264). -/
def Image.sealedGates (img : Image) (id : Nat) (gs : List Gate) : Bool :=
  id < 16 || img.slices.all fun c =>
    c.policy == 0 || gs.any fun g => g.sliceSel == c.id && bit g.mask img.service.sealedTc

/-- Whether an image gives a paddock an admission bridle in a slice, in one class at least (R264). -/
def Image.hasBridle (img : Image) (slice paddock : Nat) : Bool :=
  img.sched.bridles.any fun b => b.1 == slice && b.2.2.1 == paddock

/-- The tenants' parts of a sealed-policy slice (R291, R292): Ledger rows and receive staging for each, and of 64 slots one for
paddock 0 at least. -/
def SliceCfg.partsInRange (c : SliceCfg) : Bool :=
  if c.policy == 2 then c.ledgerRows != 0 && c.staging != 0
  else sumNat (c.shares.map (·.2)) ≤ 252 && c.shares.all fun x => c.ledgerRows * x.2 / 256 != 0 && c.staging * x.2 / 256 != 0

/-- What R264, R291, R292 and R294 ask of a sealed-policy slice and the image shows; its allowances come with PADDOCK_CREATE.
SEALED_TC carries no class of R184 that other traffic uses, and shares its priority with no class. The refusal of an image that
breaks R264 or R294 is read from their words (DEDUCED, log 132). -/
def Image.sealedInRange (img : Image) (c : SliceCfg) : Bool :=
  let dies := (c.groups.map (·.1)).eraseDups
  let prio := fun (tc : Nat) => ((img.transport.prioMap.find? (·.1 == tc)).map (·.2)).getD tc
  let tc := img.service.sealedTc
  c.policy == 0 || (within 1000 c.frontDelay 20000 && (dies.length ≤ 1 || c.groups.length == 16)
    && img.service.contextSlice != c.id && c.clockMhz != 0
    && c.clockMhz < ((img.power.points[img.power.throttleFloor]?).map (·.1)).getD 0
    && c.partsInRange && (c.shares.all fun x => img.hasBridle c.id x.1)
    && (img.transport.linkIds.all fun l => img.sealedGates (16 + l) (img.sched.gates (16 + l)).2)
    && !([0, 1, 3, 5, 6, 7].contains tc) && (List.range 8).all fun k => k == tc || prio k != prio tc)

/-- No stack, cluster group or descriptor page belongs to two slices (R121, R148). -/
def Image.slicesApart (img : Image) : Bool :=
  (img.slices.flatMap (·.hbms)).Nodup && (img.slices.flatMap (·.groups)).Nodup
    && img.slices.all fun c => img.slices.all fun d =>
      c.id == d.id || c.descFirst + c.descCount ≤ d.descFirst || d.descFirst + d.descCount ≤ c.descFirst

/-- Transport values (R203) and PORTS values (R181, R182, R184). -/
def TransportCfg.inRange (c : TransportCfg) : Bool :=
  within 8000 c.rto 8000000 && within 1 c.retryMax 15 && within 1 c.rnrDelay 65535 && c.rnrRetryMax ≤ 15
    && within 1 c.ackEvery 64 && within 500 c.ackDelay 16000 && within 2000 c.sprayTimeout 1000000
    && within 1000 c.cnpInterval 64000 && within 1000000 c.errorHold 1000000000
    && within 10000000 c.quarantine 10000000000 && within 1 c.udpPort 65535 && c.ptpPort < 8

/-- POWER (R380, R381, R383). -/
def PowerCfg.inRange (c : PowerCfg) : Bool :=
  c.limits.1 ≤ c.limits.2 && within 1000 c.k1Idle 1000000 && within c.k1Idle c.k2Idle 100000000
    && (c.n2Idle == 0 || within 100000000 c.n2Idle 3600000000000)
    && within 1 c.points.length 8
    && (((c.points.map fun p => p.1).zip (c.points.tail.map fun p => p.1)).all fun x => x.2 < x.1)
    && 850 ≤ c.tThrottle && c.tThrottle ≤ 1000 && c.throttleFloor < c.points.length
    && c.tThrottle + 20 ≤ c.tEmerg && c.tEmerg ≤ 1040

/-- The node-wide values of SLICES, TIERS, SERVICE, SECURITY and FABRIC (R107, R124, R151, R237, R245, R325, R328, R335). -/
def ServiceCfg.inRange (epoch : Nat) (c : ServiceCfg) : Bool :=
  within 10000000 c.drainTime 1000000000 && c.ledgerReserve ≤ 64 && within 1048576 c.shareRecords 16777216
    && c.subtree ≤ 6 && within 10000000 c.heatEpoch 10000000000
    && within 2097152 c.pairOpen 67108864 && c.pairOpen % 2097152 == 0
    && within 65536 c.pairSealed 4194304 && c.pairSealed % 65536 == 0
    && within 1000000 c.mirrorHold 1000000000 && within 100000000 c.spareWait 60000000000
    && within 1 c.frameCeLimit 1000 && within 60000000000 c.lbistPeriod 86400000000000
    && c.sealedTc < 8 && c.rollbackFloor ≤ epoch && epoch ≤ 127
    && within 60000000000 c.probation.1 3600000000000 && within 60000000000 c.probation.2.1 600000000000

/-- FIRMWARE (R349–R351): ostlers O0–O7 or programs, 16 regions for each ostler at most. -/
def FirmwareCfg.inRange (c : FirmwareCfg) : Bool :=
  (c.components.all fun x => x.2 < 8 || x.2 == 0xFE || x.2 == 0xFF) && (c.components.map (·.1)).Nodup
    && (c.regions.all fun r => r.ostler < 8) && (List.range 8).all fun i => (c.regions.filter (·.ostler == i)).length ≤ 16

/-- SCHEDULE (R256, R265), each gate list by R260. -/
def Image.schedInRange (img : Image) : Bool :=
  let c := img.sched
  let rate := fun (id : Nat) => 1600 / max 1 (img.transport.modes.getD ((id - 16) / 4) 1)
  within 1 c.limits.quantum 65535 && within 1 c.limits.rate 16777215 && within 1 c.limits.burst 65536
    && within 10000 c.limits.cycleMin c.limits.cycleMax && c.limits.cycleMax ≤ 10000000 && within 1 c.quantumAdmit 65535
        && within 1 c.quantumEgress 65535 && (c.quanta.all fun q => within 1 q.2.2.2 65535)
    && within 10000 c.cycle 10000000 && within c.cycle c.catchupMax 100000000
    && within 10000000 c.starveTime 10000000000
    && (c.timings.all fun t => within (c.gates t.1).1 t.2.2.1 100000000 && within 10000000 t.2.2.2 10000000000)
    && sumNat (img.slices.map fun (k : SliceCfg) => k.admitSteps) ≤ 65536
    && (c.bridles.all fun b => within 1 b.2.2.2.1 16777215 && within 1 b.2.2.2.2 65536)
    && c.gcls.all fun g =>
      gclConsistent g.1 (rate g.1) g.2.1 (g.2.2.map fun (e : Nat × Nat × Nat) => (⟨e.1, e.2.1, e.2.2⟩ : Gate))

/-- Check 0x08 (R330) over the settings: every value within its range, slices over fitted stacks and existing groups, no
stack or group in two slices (R121), the Ledger's partitions within its 524,288 rows (R237, R239), R260, R291. -/
def Image.inRange (img : Image) (a768 : Bool) : Bool :=
  img.slices.length ≤ 15 && img.slices.all (SliceCfg.inRange a768) && img.slicesApart && img.slices.all img.sealedInRange
    && sumNat (img.slices.map fun (c : SliceCfg) => c.ledgerRows) + img.service.ledgerPart0 ≤ 524288
    && img.transport.inRange && img.power.inRange && img.service.inRange img.securityEpoch && img.schedInRange
    && img.cxlPorts.all (· < 3) && img.firmware.inRange

end Sys2Proof.Machine
end

