-- ==== Sys2Proof/Machine/Settings.lean ====
section
/-! DEFINITION. The Ristonen image: header, section table, validation (R326–R330) and the settings that its sections give
(R328; their contents are open, log 10). -/

namespace Sys2Proof.Machine

/-! ### Layout (R326, R327, R329) -/

/-- A little-endian field of the bytes of a slot. -/
def imgNat (m : List Host.Cell) (off len : Nat) : Nat := leNat (Memory.readBytes m off len)

/-- A section table entry (R327). -/
structure Section where
  type : Nat
  critical : Bool
  offset : Nat
  length : Nat
  check : Nat
deriving DecidableEq, Repr

/-- The section table. -/
def imgSections (m : List Host.Cell) : List Section :=
  (List.range (imgNat m 6 2)).map fun i =>
    let a := imgNat m 20 4 + i * 16
    ⟨imgNat m a 2, bit (imgNat m (a + 2) 2) 0, imgNat m (a + 4) 4, imgNat m (a + 8) 4, imgNat m (a + 12) 4⟩

/-- The bytes of a section. -/
def Section.bytes (m : List Host.Cell) (x : Section) : Bytes := Memory.readBytes m x.offset x.length

/-- The bytes of a section by type, where the image has it. -/
def imgSection (m : List Host.Cell) (type : Nat) : Option Bytes :=
  ((imgSections m).find? (·.type == type)).map (Section.bytes m)

/-- The image's bytes. -/
def imgBytes (m : List Host.Cell) : Bytes := Memory.readBytes m 0 (imgNat m 8 4)

/-- Section types of format version 3 (R328). -/
def knownSections : List Nat := [1, 2, 3, 4, 5, 6, 7, 8, 9, 10, 11, 65535]
def requiredSections : List Nat := [1, 2, 5, 7, 8, 9, 11, 65535]

/-- Whether two sections overlap. -/
def Section.overlaps (a b : Section) : Bool :=
  a.offset < b.offset + b.length && b.offset < a.offset + a.length

/-- Check 0x01 (R330): MAGIC, format, lengths and bounds; `limit` is what the slot or the commit allows. -/
def imgShape (m : List Host.Cell) (limit : Nat) : Bool :=
  let len := imgNat m 8 4
  let count := imgNat m 6 2
  let table := imgNat m 20 4
  let all := imgSections m
  Memory.readBytes m 0 4 == [0x51, 0x52, 0x49, 0x4D] && imgNat m 5 1 == 3 && len ≤ min limit 25165824 && 128 ≤ len
    && 2 ≤ count && count ≤ 64 && table % 16 == 0 && 128 ≤ table && table + count * 16 ≤ len
    && (all.all fun x => x.offset % 16 == 0 && 128 ≤ x.offset && x.offset + x.length ≤ len)
    && ((List.range all.length).all fun i => (List.range i).all fun j =>
        match all[i]?, all[j]? with
        | some a, some b => !a.overlaps b
        | _, _ => true)

/-- Check 0x02 (R329): the last section is the signature, under a certificate that the image root issued. -/
def imgSigned (root : Bytes) (m : List Host.Cell) : Bool :=
  match (imgSections m).find? (·.type == 65535) with
  | none => false
  | some x =>
    let b := x.bytes m
    let cert := b.take (b.length - 96)
    ((imgSections m).all fun y => y.offset ≤ x.offset) && 96 ≤ b.length && cert.length ≤ 2048 && Config.chainOk root cert
      && Config.ecdsaOk cert (Config.sha384 (Memory.readBytes m 0 x.offset)) (b.drop (b.length - 96))

/-! ### Settings (R328) -/

/-- Word `i` of the settings of a section; an absent section's setting takes its default. -/
def imgWord (m : List Host.Cell) (type i default_ : Nat) : Nat :=
  match imgSection m type with
  | none => default_
  | some b => Config.sectionWord type b i

/-- A list of `n` settings from word `i` on. -/
def imgList (m : List Host.Cell) (type i n : Nat) : List Nat := (List.range n).map fun j => imgWord m type (i + j) 0

/-- Pairs of consecutive settings. -/
def imgPairs (m : List Host.Cell) (type i n : Nat) : List (Nat × Nat) :=
  (List.range n).map fun j => (imgWord m type (i + 2 * j) 0, imgWord m type (i + 2 * j + 1) 0)

/-- The settings of the `k`-th slice (SLICES 1, TIERS 3, PADDOCK_POLICY 5, SERVICE 10): 1,024 words of each section. Its
groups (R121) and stacks (R146) stand in ascending order. -/
def imgSlice (m : List Host.Cell) (k : Nat) : SliceCfg :=
  let a := 1024 * (k + 1)
  { id := k
    groups := (sortNat ((imgPairs m 1 (a + 100) (imgWord m 1 a 0)).map fun g => g.1 * 8 + g.2)).map fun g => (g / 8, g % 8)
    hbms := sortNat (imgList m 1 (a + 200) (imgWord m 1 (a + 1) 0))
    policy := imgWord m 5 a 0
    metaFrames := imgWord m 1 (a + 2) 0
    descFirst := imgWord m 1 (a + 3) 0
    descCount := imgWord m 1 (a + 4) 0
    ledgerRows := imgWord m 1 (a + 5) 0
    staging := imgWord m 1 (a + 6) 0
    freeCrit := imgWord m 3 a 1
    freeLow := imgWord m 3 (a + 1) 4
    freeHigh := imgWord m 3 (a + 2) 8
    demoteHeat := imgWord m 3 (a + 3) 1
    promoteHeat := imgWord m 3 (a + 4) 6
    portShare := imgWord m 3 (a + 5) 25
    leaseTime := imgWord m 10 a 50000
    leaseTimeMax := imgWord m 10 (a + 1) 1000000
    leasePcs := imgWord m 10 (a + 2) 4
    leasePeriod := imgWord m 10 (a + 3) 1000000
    admitWindow := imgWord m 4 a 262144
    admitSteps := imgWord m 4 (a + 1) 32768
    shares := imgPairs m 5 (a + 100) (imgWord m 5 (a + 1) 0)
    reserved := imgPairs m 5 (a + 400) (imgWord m 5 (a + 2) 0)
    frontDelay := imgWord m 5 (a + 3) 0
    clockMhz := imgWord m 5 (a + 4) 0 }

/-- PORTS and the transport values of SERVICE. -/
def imgTransport (m : List Host.Cell) : TransportCfg :=
  { rto := imgWord m 10 20 64000
    retryMax := imgWord m 10 21 7
    rnrDelay := imgWord m 10 22 20
    rnrRetryMax := imgWord m 10 23 7
    ackEvery := imgWord m 10 24 16
    ackDelay := imgWord m 10 25 2000
    sprayTimeout := imgWord m 10 26 16000
    cnpInterval := imgWord m 10 27 4000
    errorHold := imgWord m 10 28 10000000
    quarantine := imgWord m 10 29 100000000
    udpPort := imgWord m 2 1 0
    frame8318 := (List.range 8).filter fun p => imgWord m 2 (10 + p) 0 == 1
    prioMap := (List.range 8).map fun c => (c, imgWord m 2 (20 + c) 0 % 8)
    pfcOn := (List.range 8).filter fun p => imgWord m 2 (30 + p) 0 == 1
    ptpPort := imgWord m 2 2 0
    modes := (List.range 8).map fun p => 2 ^ (imgWord m 2 (40 + p) 0 % 3)
    tagged := (List.range 8).filter fun p => imgWord m 2 (60 + p) 0 == 1
    addresses := (List.range 32).map fun l =>
      let a := 300 + 4 * l
      ⟨l, toBe 6 (imgWord m 2 a 0), toBe 4 (imgWord m 2 (a + 1) 0), toBe 16 (imgWord m 2 (a + 2) 0),
        imgWord m 2 (a + 3) 0 % 4096⟩ }

/-- POWER. -/
def imgPower (m : List Host.Cell) : PowerCfg :=
  { limits := (imgWord m 6 7 500, imgWord m 6 8 1250)
    k1Idle := imgWord m 6 0 20000
    k2Idle := imgWord m 6 1 1000000
    n2Idle := imgWord m 6 2 2000000000
    points := match imgSection m 6 with
      | none => defaultPower.points
      | some _ => imgPairs m 6 10 (max 1 (imgWord m 6 3 0 % 9))
    tThrottle := (imgWord m 6 4 950 : Nat)
    throttleFloor := imgWord m 6 5 3
    tEmerg := (imgWord m 6 6 1020 : Nat) }

/-- SERVICE, SECURITY, INTERFACES, FABRIC and the node-wide values of the other sections. -/
def imgService (m : List Host.Cell) : ServiceCfg :=
  { drainTime := imgWord m 10 30 50000000
    ledgerPart0 := imgWord m 1 0 0
    ledgerReserve := imgWord m 1 1 0
    shareRecords := imgWord m 1 2 0
    subtree := imgWord m 10 31 3
    heatEpoch := imgWord m 3 0 100000000
    pairOpen := imgWord m 10 32 2097152
    pairSealed := imgWord m 10 33 262144
    mirrorHold := imgWord m 10 34 20000000
    shadowRate := imgWord m 10 35 65536
    spareWait := imgWord m 10 36 1000000000
    frameCeLimit := imgWord m 10 37 8
    lbistPeriod := imgWord m 10 38 600000000000
    connQuota := imgWord m 1 3 0
    contextSlice := imgWord m 1 4 0
    sealedTc := imgWord m 5 0 0
    sealedContexts := imgWord m 5 1 0
    debugAllowed := imgWord m 9 0 0 == 1
    rollbackFloor := imgWord m 9 1 0
    majors := [1, 2].filter fun k => bit (imgWord m 8 0 0) k
    bundleMin := imgWord m 8 1 0
    bundleMax := imgWord m 8 2 0
    fmHashes := (List.range (imgWord m 11 0 0)).map fun i => toLe 48 (imgWord m 11 (100 + i) 0)
    fmAddresses := (List.range (imgWord m 11 1 0)).map fun i => toBe 16 (imgWord m 11 (200 + i) 0)
    joinPort := imgWord m 11 2 0
    probation := (imgWord m 11 3 0, imgWord m 11 4 0, imgWord m 11 5 0) }

/-- FIRMWARE (R350): the ostler of each component, and the protection regions. -/
def imgFirmware (m : List Host.Cell) : FirmwareCfg :=
  { components := imgPairs m 7 10 (imgWord m 7 0 0 % 129)
    regions := (List.range (imgWord m 7 1 0 % 129)).map fun i =>
      ⟨imgWord m 7 (1000 + 3 * i) 0, imgWord m 7 (1001 + 3 * i) 0, imgWord m 7 (1002 + 3 * i) 0⟩ }

/-- SCHEDULE. -/
def imgSched (m : List Host.Cell) : SchedCfg :=
  { limits := ⟨imgWord m 4 19 65535, imgWord m 4 20 16777215, imgWord m 4 21 65536, imgWord m 4 22 10000, imgWord m 4 23 10000000⟩
    quantumAdmit := imgWord m 4 10 64
    quantumEgress := imgWord m 4 11 32
    quanta := (List.range (imgWord m 4 18 0)).map fun i =>
      let a := 20000000 + 4 * i
      (imgWord m 4 a 0, imgWord m 4 (a + 1) 0, imgWord m 4 (a + 2) 0, imgWord m 4 (a + 3) 0)
    cycle := imgWord m 4 12 100000
    gateBase := imgWord m 4 13 0
    catchupMax := imgWord m 4 14 1000000
    starveTime := imgWord m 4 15 200000000
    gcls := (List.range (imgWord m 4 16 0)).map fun i =>
      let a := 100000 + 4096 * i
      (imgWord m 4 a 0, imgWord m 4 (a + 1) 0, (List.range (imgWord m 4 (a + 2) 0)).map fun j =>
        (imgWord m 4 (a + 8 + 3 * j) 0, imgWord m 4 (a + 9 + 3 * j) 0, imgWord m 4 (a + 10 + 3 * j) 0))
    bridles := (List.range (imgWord m 4 17 0)).map fun i =>
      let a := 10000000 + 5 * i
      (imgWord m 4 a 0, imgWord m 4 (a + 1) 0, imgWord m 4 (a + 2) 0, imgWord m 4 (a + 3) 0, imgWord m 4 (a + 4) 0)
    timings := (List.range (imgWord m 4 24 0)).map fun i =>
      let a := 30000000 + 4 * i
      (imgWord m 4 a 0, imgWord m 4 (a + 1) 0, imgWord m 4 (a + 2) 0, imgWord m 4 (a + 3) 0) }

/-- The image in force as settings. -/
def imgSettings (m : List Host.Cell) : Image :=
  { loaded := true
    version := imgNat m 12 4
    securityEpoch := imgNat m 16 1
    slices := (List.range (imgWord m 1 5 0)).map (imgSlice m)
    transport := imgTransport m
    power := imgPower m
    service := imgService m
    sched := imgSched m
    firmware := imgFirmware m
    cxlPorts := (List.range 3).filter fun p => imgWord m 2 (50 + p) 0 == 1
    t2Ports := imgPairs m 3 10 (imgWord m 3 1 0)
    t2Allow := imgPairs m 3 10000000 (imgWord m 3 2 0) }

/-- Validation by checks 0x01–0x08 (R330): the REASON of the first failure, 0 for a valid image. FORMAT_MINOR is 0 by
R326, which no row of the table but 0x08 covers. -/
def State.imgReason (s : State) (m : List Host.Cell) (limit : Nat) : Nat :=
  let all := imgSections m
  let types := all.map fun (x : Section) => x.type
  if !imgShape m limit then 0x01
  else if !imgSigned s.fused.imageRoot m then 0x02
  else if !bit (imgNat m 17 1) (if s.fused.a768 then 0 else 1) || s.fused.revision < imgNat m 18 1 then 0x03
  else if imgNat m 16 1 < s.boot.floor then 0x04
  else if !(all.all fun x => (crc32c (x.bytes m)).toNat == x.check) then 0x05
  else if !(requiredSections.all types.contains) || types.eraseDups.length != types.length then 0x06
  else if all.any fun x => x.critical && !knownSections.contains x.type then 0x07
  else if imgNat m 4 1 != 0 || !(Config.rangesHold (imgBytes m) && (imgSettings m).inRange s.fused.a768) then 0x08
  else 0

/-- The point that a cluster group (die × 8 + group) starts at: the pinned clock's, else the first (R381, R382). -/
def Image.firstPoint (img : Image) (g : Nat) : Nat :=
  match img.slices.find? fun c => c.clockMhz != 0 && c.groups.contains (g / 8, g % 8) with
  | none => 0
  | some c => (img.power.points.findIdx? fun p => p.1 == c.clockMhz).getD 0

/-- Settings take effect (R331): links, schedulers, tiers and points start in them. -/
def State.applyImage (s : State) (img : Image) : State :=
  let ports := (List.range 3).map fun p => ⟨p, img.cxlPorts.contains p, false, 0, []⟩
  let net := { Net.fresh with links := img.transport.linkIds.map Link.fresh }
  { s with
    img := img, net := net, sch := Scheds.fresh img s.time
    pwr := { s.pwr with points := (List.range 16).map img.firstPoint, limit := min s.fused.tdp img.power.limits.2 }
    store := { Store.fresh s.fused s.farrier.frames with ports := ports } }

/-- Adopt the settings of a slot's image; unknown sections that are not critical are logged (R327). -/
def State.adoptImage (s : State) (slot : Nat) (m : List Host.Cell) : State :=
  let s := { s with boot := { s.boot with inForce := slot } }
  let s := s.applyImage (imgSettings m)
  ((imgSections m).filter fun x => !knownSections.contains x.type).foldl
    (fun t _ => t.note ⟨0, 0, 0x1001, 0, 0, 0, 0, []⟩) s

end Sys2Proof.Machine
end

