-- ==== Sys2Proof/Machine/Boot.lean ====
section
/-! DEFINITION. Start-up: pins and power-up (R337–R339, R411, R417, R418), the image stage (R334–R336), BIST and HBM
(R320, R323, R348), the join (R343–R346), probation (R335) and the reference clocks (R388). -/

namespace Sys2Proof.Machine

/-! ### Always-on domain and pins -/

/-- VAUX_UP (R392, R411): the always-on domain starts with RESET_STAT and the retained log at their reset values. -/
def execVauxUp (mgmtSel : Bool) (mgmtId : Nat) (testMode : Bool) (s : State) : Result :=
  if s.power.vaux then .next s
  else .next { s with
    power := { s.power with vaux := true, mgmtSel := mgmtSel, mgmtId := mgmtId % 8, testMode := testMode, held := false }
    regs := { s.regs with resetCause := 0, warmCount := 0 }
    log := { s.log with retained := [], replaced := 0 } }

/-- Turn a power phase on. -/
def State.startPhase (s : State) (phase : Nat) : State :=
  { s with
    power := { s.power with phase := phase, on := s.power.on ++ [phase] }
    boot := { s.boot with stageAt := s.time } }

/-- POWER_GOOD (R337, R411): the straps are sampled again and the first phase starts; TEST_MODE holds the node in AUX. -/
def execPowerGood (mgmtSel : Bool) (mgmtId : Nat) (testMode : Bool) (s : State) : Result :=
  if !s.power.vaux || !s.power.rstN || s.power.powerGood then .next s
  else
    let t := { s with
      power := { s.power with
        powerGood := true, mgmtSel := mgmtSel, mgmtId := mgmtId % 8, testMode := testMode, held := false
        retryAt := none, thermtripN := true }
      boot := { s.boot with attempts := 0, startedAt := s.time } }
    .next (if testMode then t else (t.setStage 1).startPhase 1)

/-- Power-up is complete: NODE_PWROK rises, F0 trains and the references are present (R340, R410, R416). -/
def State.powerDone (s : State) : State :=
  let s := { s with
    power := { s.power with phase := 5, pwrok := true }
    pwr := { s.pwr with refOk := List.replicate 4 true, f0Up := true } }
  s.setStage 2

/-- POWER_PHASE_READY (R337). -/
def execPowerPhaseReady (s : State) : Result :=
  let p := s.power.phase
  if !s.fused.a768 || !s.power.powerGood || p == 0 || 4 < p then .next s
  else
    let t := { s with power := { s.power with ready := s.power.ready ++ [p] } }
    .next (if p == 4 then t.powerDone else t.startPhase (p + 1))

/-- A phase timed out (R339): the phases go off in reverse order, and power-up is tried again after 1 s, three times in
all; after the third the node stays off (R348). -/
def State.failPhase (s : State) (phase : Nat) : State :=
  let n := s.boot.attempts + 1
  let spent := 3 ≤ n
  let s := { s with
    power := { s.power with
      phase := 0, on := [], ready := [], held := spent, retryAt := if spent then none else some (s.time + 1000000000) }
    boot := { s.boot with powerPhase := phase, attempts := n, lastFail := max s.boot.lastFail 1 } }
  if spent then (s.setStage 15).fatalEvent (unnamed 3 3 0 0 0) else s

/-- Longest time of a phase (R337), and the fixed delay of the QK4-A384 (R338), in ns. -/
def phaseMax (phase : Nat) : Nat := [0, 20000000, 10000000, 50000000, 20000000].getD phase 0
def phaseDelay (phase : Nat) : Nat := [0, 25000000, 12000000, 60000000, 25000000].getD phase 0

/-- POWER_PHASE_TIMEOUT (R339). -/
def execPowerPhaseTimeout (s : State) : Result :=
  let p := s.power.phase
  if !s.power.powerGood || p == 0 || 4 < p then .next s
  else .next ((s.advanceTo (s.boot.stageAt + (if s.fused.a768 then phaseMax p else phaseDelay p))).failPhase p)

/-- Whether every fitted site reports its power-on status. -/
def State.sitesOn (s : State) (sites : Nat) : Bool := s.fused.hbms.all fun i => bit sites i

/-- A384_PHASE_DELAY_END (R338): after the last delay the status signals are read once; a low one counts as the timeout
of its phase. -/
def execA384PhaseDelayEnd (ivr osc logic : Bool) (sites : Nat) (s : State) : Result :=
  let p := s.power.phase
  if s.fused.a768 || !s.power.powerGood || p == 0 || 4 < p then .next s
  else
    let t := s.advanceTo (s.boot.stageAt + phaseDelay p)
    if p < 4 then .next (t.startPhase (p + 1))
    else if !ivr then .next (t.failPhase 1)
    else if !osc then .next (t.failPhase 2)
    else if !t.sitesOn sites then .next (t.failPhase 3)
    else if !logic then .next (t.failPhase 4)
    else .next { t with power := { t.power with ready := [1, 2, 4] } }.powerDone

/-- POWER_RETRY_TIMER (R339). -/
def execPowerRetryTimer (s : State) : Result :=
  match s.power.retryAt with
  | none => .next s
  | some at_ =>
    let t := s.advanceTo at_
    let t := { t with power := { t.power with retryAt := none }, regs := { t.regs with resetCause := 5 } }
    .next ((t.setStage 1).startPhase 1)

/-- POWER_GOOD_LOSS (R417). -/
def execPowerGoodLoss (s : State) : Result :=
  if s.power.powerGood then .next (s.coldReset 0) else .next s

/-- NODE_RST_N (R418): shorter pulses than 1 µs are ignored. -/
def execNodeRstN (lowNs : Nat) (s : State) : Result :=
  if lowNs < 1000 || !s.power.vaux then .next s else .next (s.coldReset 1)

/-- VAUX_LOSS (R367, R417): the always-on domain stops. -/
def execVauxLoss (s : State) : Result :=
  if !s.power.vaux then .next s
  else
    let t := s.coldReset 0
    .next { t with
      power := { t.power with vaux := false, held := false }
      regs := { t.regs with resetCause := 0, warmCount := 0 }
      log := { t.log with retained := [], replaced := 0 } }

/-- The fields that a PERST# or an FLR restores (R392); the TDI goes to ERROR where it was locked (R287). -/
def State.resetFunction (s : State) : State :=
  let tdi := match s.sec.tdi with | .unlocked => .unlocked | _ => Tdi.error
  let quiet := fun (b : Mailbox) => { b with irqEn := false }
  { s with
    host := { s.host with boxes := s.host.boxes.map quiet }
    log := { s.log with irqEn := 28 }
    pwr := { s.pwr with irqEn := false }
    sec := { s.sec with tdi := tdi, bar0Shut := s.sec.bar0Shut || decide (tdi = .error) }
    regs := { s.regs with
      stageIrqEn := false, tlySel := 0, tlyIrqEn := false, msixTable := Regs.fresh.msixTable, msixPba := 0 } }

/-- PERST (R392, R418): ignored while power-good is absent. -/
def execPerst (s : State) : Result := if s.power.powerGood then .next s.resetFunction else .next s

/-- FLR (R392). -/
def execFlr (s : State) : Result := .next s.resetFunction

/-! ### The image stage (R333, R334, R336) -/

/-- A slot. -/
def State.slot (s : State) (i : Nat) : ImageSlot := s.boot.slots.getD i ImageSlot.fresh

/-- A slot in a state. -/
def State.slotIn (s : State) (st : SlotState) : Option Nat :=
  [0, 1].find? fun i => decide ((s.slot i).state = st)

/-- A slot takes a new state and REASON, with its notification; the slot control record is still to be written. -/
def State.markSlot (s : State) (i : Nat) (st : SlotState) (reason : Nat) : State :=
  let set := fun (x : ImageSlot) => { x with state := st, reason := reason }
  let s := { s with boot := { s.boot with
    slots := updateAt i set s.boot.slots
    rimReason := if reason == 0 then s.boot.rimReason else reason } }
  s.notify ⟨0x0103, 0, toLe 1 i ++ toLe 1 st.code ++ toLe 1 reason⟩

/-- O1 writes the slot control record (R332). -/
def State.writeRecord (s : State) : State := { s with boot := s.boot.writeRecord }

/-- The slot control record is written with a slot's new state and REASON (R332). -/
def State.setSlot (s : State) (i : Nat) (st : SlotState) (reason : Nat) : State := (s.markSlot i st reason).writeRecord

/-- Rule 1 of R334: a probation that did not end has failed. -/
def State.closeProbations (s : State) : State :=
  [0, 1].foldl (fun t i =>
    if decide ((t.slot i).state = .probation) then (t.setSlot i .failed 0x0A).note ⟨1, 0, 0x1002, 0, 0, 0, 0, []⟩ else t) s

/-- Try to start the slot in a state: it becomes the image in force, or FAILED. -/
def State.tryStart (s : State) (st : SlotState) : Bool × State :=
  match s.slotIn st with
  | none => (false, s)
  | some i =>
    let m := (s.slot i).bytes
    let r := s.imgReason m 25165824
    if r != 0 then (false, s.setSlot i .failed r)
    else
      let t := s.adoptImage i m
      match st with
      | .pending =>
        let t := t.setSlot i .probation 0
        (true, { t with boot := { t.boot with probationEnd := some (t.time + t.img.service.probation.1) } })
      | .fallback => (true, t.setSlot i .active 0)
      | _ => (true, t)

/-- Rules 2–4 of R334. -/
def State.chooseImage (s : State) : Bool × State :=
  match s.tryStart .pending with
  | (true, t) => (true, t)
  | (false, t) =>
    match t.tryStart .active with
    | (true, u) => (true, u)
    | (false, u) => u.tryStart .fallback

/-- The stage IMAGE: O1 reads the slot control record (R332) and chooses; it ends in BIST, or in RECOVERY when no slot can be
started (R336, R348). -/
def State.imageStage (s : State) : State :=
  let s := { s with boot := s.boot.readRecord }
  match (s.closeProbations).chooseImage with
  | (true, t) => t.setStage 4
  | (false, t) =>
    let t := { t with boot := { t.boot with lastFail := max t.boot.lastFail 3 } }
    (t.setStage 14).fatalEvent (unnamed 4 3 0 0 0)

/-- IMAGE_SELECT (R334): ROM ends and O1 chooses the slot. -/
def execImageSelect (s : State) : Result :=
  if s.boot.stage == 2 || s.boot.stage == 3 then s.finish (s.setStage 3).imageStage else .next s

/-! ### BIST and HBM (R320, R348) -/

/-- The Farrier maps a die (R320): AC0–AC63 to the usable clusters in ascending physical number, the rest are spares;
the clusters that failed are retired. -/
def State.mapDie (s : State) (die : Nat) (failed : List Nat) : State :=
  let out := fun (p : Nat) => s.fused.disabled.contains (die, p)
  let bad := fun (p : Nat) => s.farrier.clusters.contains (die, p) || failed.contains p
  let usable := (List.range 68).filter fun p => !out p && !bad p
  let place := fun (k : Cluster) =>
    if k.die != die then k
    else if out k.phys then { k with use := .disabled }
    else if failed.contains k.phys then { k with use := .retired, result := 2 }
    else if bad k.phys then { k with use := .retired }
    else
      match (List.range 64).find? fun l => usable[l]? == some k.phys with
      | some l => { k with use := .mapped l, result := 1 }
      | none => { k with use := .spare true, result := 1 }
  let new := ((List.range 68).filter fun p => failed.contains p && !out p && !s.farrier.clusters.contains (die, p)).map
    fun p => (die, p)
  let s := { s with
    eng := { s.eng with clusters := s.eng.clusters.map place }
    farrier := { s.farrier with clusters := s.farrier.clusters ++ new } }
  new.foldl (fun t x => t.note ⟨1, 1, 0x5003, 0, clusterUnit x.1 x.2, 0, 0, []⟩) s

/-- BOOT_STAT reports the stage that ran past its maximum or failed (R340, R348). -/
def State.overrun (s : State) : State := { s with boot := { s.boot with lastFail := max s.boot.lastFail s.boot.stage } }

/-- BIST_STAGE_DONE (R320, R323, R348): `failed` names the physical clusters of each die that failed. -/
def execBistStageDone (failed0 failed1 : List Nat) (s : State) : Result :=
  if s.boot.stage != 4 then .next s
  else
    let t := (s.mapDie 0 failed0).mapDie 1 failed1
    let n := t.farrier.clusters.length - s.farrier.clusters.length
    let t := if n == 0 then t else t.overrun
    let t := t.modFault fun f => { f with retiredClusters := f.retiredClusters + n }
    s.finish (t.setStage 5)

/-- The stage HBM ends once every fitted stack is trained or stopped. -/
def State.hbmStage (s : State) : State :=
  if s.store.hbms.all fun x => x.trained || x.stopped then s.setStage 6 else s

/-- A stack by number. -/
def State.stackAt (s : State) (i : Nat) : Option Stack := s.store.hbms.find? (·.index == i)

/-- Change a stack. -/
def State.modStack (s : State) (i : Nat) (f : Stack → Stack) : State :=
  { s with store := { s.store with hbms := updateFirst (·.index == i) f s.store.hbms } }

/-- Post-package repair of a stack during its training, up to the stack's repair resources: repaired frames return to service
after their test. Which retired frames it repairs is a free value (R320; log 128). -/
def State.repairRows (s : State) (stack : Nat) : State :=
  let back := fun (f : Nat) => f / regionFrames == stack && s.farrier.frames.contains f && Config.rowRepaired stack f
  { s with
    farrier := { s.farrier with frames := s.farrier.frames.filter fun f => !back f }
    store := { s.store with retired := s.store.retired.filter fun f => !back f } }

/-- HBM_TRAINING_DONE (R320, R348). -/
def execHbmTrainingDone (stack : Nat) (s : State) : Result :=
  match s.stackAt stack with
  | none => .next s
  | some x =>
    if s.boot.stage != 5 || x.trained || x.stopped then .next s
    else .next ((s.repairRows stack).modStack stack fun y => { y with trained := true }).hbmStage

/-- HBM_TRAINING_TIMEOUT (R348): one retraining of 2.0 s; then the stack is stopped and its slice with it. -/
def execHbmTrainingTimeout (stack : Nat) (s : State) : Result :=
  match s.stackAt stack with
  | none => .next s
  | some x =>
    if s.boot.stage != 5 || x.trained || x.stopped then .next s
    else if !x.retrained then
      let t := s.advanceTo (s.boot.stageAt + 2000000000)
      let t := (t.modStack stack fun y => { y with retrained := true }).overrun
      s.finish (t.note (unnamed 5 1 2 stack 0))
    else
      let t := s.advanceTo (s.boot.stageAt + 4000000000)
      let t := { t with boot := { t.boot with stacksStopped := saturate 8 (t.boot.stacksStopped + 1) } }
      s.finish (t.stopStack stack).hbmStage

/-! ### Joining the fabric (R343–R346) -/

/-- The link of the next beacon: the lowest-numbered one with a neighbour, then the next in rotation. -/
def State.beaconLink (s : State) : Option Nat :=
  let ls := (s.net.links.filter fun l => l.up && l.neighbour).map fun (l : Link) => l.id
  let j := s.boot.join
  if j.nonce.isEmpty then ls.head?
  else match ls.find? (j.link < ·) with | some l => some l | none => ls.head?

/-- A join beacon (R344). -/
def State.beacon (s : State) (attempt : Nat) (point nonce : Bytes) : Bytes :=
  toBe 1 1 ++ toBe 1 1 ++ toBe 2 attempt ++ toBe 4 s.img.version ++ sub s.fused.serial 0 16
    ++ toBe 2 (if s.fused.a768 then 0x0A40 else 0x0A41) ++ toBe 1 s.beaconSlot
    ++ toBe 1 ((s.net.links.filter (·.up)).length) ++ zeros 4
    ++ sub (Config.sha384 (Config.publicKey s.sec.deviceIdentity)) 0 48 ++ sub point 0 97 ++ zeros 3 ++ sub nonce 0 16

/-- BEACON_SLOT_TIMER (R343): a beacon to every fabric manager address; without a neighbour the node waits. -/
def execBeaconSlotTimer (s : State) : Result :=
  match s.boot.join.nextAt with
  | none => .next s
  | some at_ =>
    if s.boot.stage != 10 then .next s
    else
      let t := s.advanceTo at_
      match t.beaconLink with
      | none => .next { t with boot := { t.boot with join := { t.boot.join with nextAt := some (at_ + 5120000000) } } }
      | some l =>
        let j := t.boot.join
        let attempt := if j.nonce.isEmpty then 0 else (j.attempt + 1) % 65536
        let secret := t.rng
        let (nonce, t) := t.draw 16
        let point := Config.publicKey (Config.random 48 secret)
        let b := t.beacon attempt point nonce
        let t := { t with boot := { t.boot with join := ⟨attempt, sub nonce 0 16, secret, l, some at_, none, b⟩ } }
        .next (t.img.service.fmAddresses.foldl (fun u a =>
          u.egressOther l 0 (.beacon a t.img.service.joinPort) b (t.wireBytes l a b.length false - 32)) t)

/-- JOIN_TIMEOUT (R343): the next beacon leaves in the same slot of the next 5.12 s cycle; a Corrected error (R348). -/
def execJoinTimeout (s : State) : Result :=
  match s.boot.join.sent with
  | none => .next s
  | some at_ =>
    let t := s.advanceTo (at_ + s.img.service.probation.2.2)
    let t := { t with boot := { t.boot with join := { t.boot.join with sent := none, nextAt := some (at_ + 5120000000) } } }
    s.finish (t.overrun.note (unnamed 8 0 0 0 0))

/-- Whether a reply is accepted (R345). -/
def State.replyHolds (s : State) (r : Bytes) : Bool :=
  let j := s.boot.join
  let key := sub r 156 97
  r.length == 352 && be r 0 1 == 2 && be r 1 1 == 1 && !j.nonce.isEmpty && sub r 24 16 == j.nonce && be r 2 2 == j.attempt
    && s.img.service.fmHashes.contains (Config.sha384 key)
    && Config.ecdsaOk key (Config.sha384 (sub r 0 256 ++ j.beacon)) (sub r 256 96)

/-- JOIN_REPLY (R345, R346): NODE_ID, the fabric manager's window and its key; the node enters AWAIT_EPOCH. -/
def execJoinReply (reply : Bytes) (s : State) : Result :=
  if s.boot.stage != 10 || !s.replyHolds reply then .next s
  else
    let id := sub reply 4 2
    let fm := sub reply 6 2
    let j := s.boot.join
    let key := sub (Config.hkdfSha384 (Config.ecdh j.ephemeral (sub reply 56 97)) j.nonce (ascii "QK4-FM" ++ id ++ fm)) 0 32
    let t := { s with boot := { s.boot with
      nodeId := beNat id, nodeValid := true, fmNode := beNat fm, fmKey := key, fmAddress := sub reply 40 16
      join := Join.fresh } }
    .next ((t.openWindow 0 (beNat fm) 0 0 7 landingBase 65536 key .fabricManager).setStage 11)

/-! ### Probation (R335) -/

/-- PROBATION_TIME_EXPIRY: the image is ACTIVE, the previous one FALLBACK, and the floor rises. -/
def State.passProbation (s : State) : State :=
  let i := s.boot.inForce
  let old := [0, 1].filter fun (k : Nat) => k != i && decide ((s.slot k).state = .active)
  let t : State := old.foldl (fun u k => u.markSlot k .fallback 0) s
  let t := t.setSlot i .active 0
  let floor := max t.boot.floor t.img.service.rollbackFloor
  let t := { t with boot := { t.boot with probationEnd := none, floor := floor } }
  let low := [0, 1].filter fun (k : Nat) => decide ((t.slot k).state = .fallback) && (t.slot k).epoch < floor
  low.foldl (fun (u : State) k => u.setSlot k .failed 0x04) t

/-- PROBATION_TIME_EXPIRY (R335). -/
def execProbationTimeExpiry (s : State) : Result :=
  match s.boot.probationEnd with
  | none => .next s
  | some at_ => .next (s.advanceTo at_).passProbation

/-- PROBATION_SERVE_EXPIRY (R335). -/
def execProbationServeExpiry (s : State) : Result :=
  if s.boot.probationEnd.isNone || s.boot.stage == 12 then .next s
  else
    let t := s.advanceTo (s.boot.startedAt + s.img.service.probation.2.1)
    s.finish (t.failProbation (Config.probationReason 1 % 256))

/-! ### Reference clocks (R388) -/

/-- A monitor's bits and their event of vector 6 (R399). -/
def State.loseRef (s : State) (ref : Nat) : State :=
  let old := s.pwr.refLost.getD ref false
  let s := { s with pwr := { s.pwr with
    refOk := updateAt ref (fun _ => false) s.pwr.refOk, refLost := updateAt ref (fun _ => true) s.pwr.refLost } }
  s.eventBit 6 s.pwr.irqEn old true

/-- Every link of a range of ports goes down. -/
def State.dropPorts (s : State) (ports : List Nat) : State :=
  ((s.net.links.filter fun l => l.up && ports.contains (l.id / 4)).map (·.id)).foldl (fun t l => t.dropLink l) s

/-- REFCLK_LOSS (R388): 0 PCIe, 1 Ethernet A, 2 Ethernet B, 3 system. -/
def execRefclkLoss (ref : Nat) (s : State) : Result :=
  if !(s.pwr.refOk.getD ref false) then .next s
  else
    let t := s.loseRef ref
    match ref with
    | 0 =>
      let mine := (t.store.ports.filter fun x => x.present && !x.lost).map fun (x : Tier2Port) => x.port
      let t := { t with pwr := { t.pwr with f0Up := false } }
      s.finish (mine.foldl (fun u p => u.losePort p) t)
    | 1 =>
      let t := t.dropPorts [0, 1, 2, 3]
      let t := { t with pwr := { t.pwr with holdover := true }, net := { t.net with ptpLocked := false } }
      s.finish (t.note (unnamed 9 1 0 0 0))
    | 2 => .next (t.dropPorts [4, 5, 6, 7])
    | _ => s.finish (t.report (unnamed 10 3 0 0 0))

/-- REFCLK_RESTORE (R388): the monitor has seen the reference stable for 10 ms. -/
def execRefclkRestore (ref : Nat) (s : State) : Result :=
  if s.pwr.refOk.getD ref true || !s.power.pwrok then .next s
  else
    let pwr := { s.pwr with refOk := updateAt ref (fun _ => true) s.pwr.refOk }
    .next { s with pwr := match ref with
      | 0 => { pwr with f0Up := true }
      | 1 => { pwr with holdover := false }
      | _ => pwr }

/-- PPS_PULSE (R421): at the second boundary of the timebase PTP_PPS_OUT rises for 100 ms. -/
def execPpsPulse (s : State) : Result :=
  if !s.power.pwrok then .next s
  else .next ((s.advanceTo (ceilDiv s.time 1000000000 * 1000000000)).emit .pps)

end Sys2Proof.Machine
end

