-- ==== Sys2Proof/Machine/Ostlers.lean ====
section
/-! DEFINITION. The ostlers: restarts (R350, R353–R355), error handling by O5 with the repair of the unit (R271, R318,
R320, R365), and functions that shut down and come back (R368). -/

namespace Sys2Proof.Machine

/-! ### Error reports (R365) -/

/-- Corrected errors of a frame within 24 h, this one included. -/
def Log.frameErrors (l : Log) (frame now : Nat) : Nat :=
  (l.ceHistory.filter fun x => x.1 == frame && now < x.2 + 86400000000000).length

/-- The sealed paddock that holds something in a frame, of data or of metadata (R290). -/
def State.sealedHolder (s : State) (frame : Nat) : Option Nat :=
  ((s.pads.map fun (x : Pad) => x.id).filter s.sealedPad).find? fun p =>
    (s.store.places.any fun x => x.2 == p && x.1.frames.contains frame) ||
      s.img.slices.any fun c => (c.metaOffset (frame * 32768)).any fun o =>
        (s.metaExtentsOf c (· == p)).any fun x => x.1 < o + 32768 && o < x.1 + x.2

/-- A report about a frame that a sealed paddock holds is a record of that paddock (R290). -/
def State.ownFrame (s : State) (e : ErrRep) : ErrRep :=
  if e.unitKind == 4 then { e with paddock := (s.sealedHolder e.address).getD e.paddock } else e

/-- What a tag mismatch in a unit other than a cluster comes to (R271): the steps of the sequence that the report names end, the
packet of a connection is discarded, and the unit is tested. -/
def State.tagMismatch (s : State) (e : ErrRep) : State :=
  let s := s.suspectUnit e.unitKind e.unit
  let s := if e.unitKind == 9 then { s with net := { s.net with discards := s.net.discards + 1 } } else s
  (s.breakSteps (fun o => o.req.paddock == e.paddock && o.req.seq == e.object) St.degradedRetry).afterUnits

/-- The repair that follows a report (R320): a frame with too many corrected errors, or with an uncorrectable one, is
retired; a cluster with a confirmed mismatch or a failed LBIST is retired; one with a tag mismatch is tested, and the
work units on it of the paddock that the report names are discarded (R129, R270, R271; log 105). -/
def State.repairUnit (s : State) (e : ErrRep) : State :=
  if e.severity == 3 then s
  else if e.code == 0x5001 && e.unitKind != 1 then s.tagMismatch e
  else if e.unitKind == 4 then
    if e.severity == 0 then
      let s := { s with log := { s.log with ceHistory := s.log.ceHistory ++ [(e.address, s.time)] } }
      if s.img.service.frameCeLimit < s.log.frameErrors e.address s.time then s.retireFrame e.address else s
    else (s.poisonFrame e.address (e.unit % 512) 1).retireFrame e.address
  else if e.unitKind == 1 && e.severity != 0 then
    let die := e.unit / 68
    let phys := e.unit % 68
    if e.code == 0x5001 then
      let start := fun (k : Cluster) => match k.use with
        | .mapped l => { k with use := .draining l }
        | .spare _ => if k.spareSince.isNone then { k.cleared with use := .testing } else k
        | _ => k
      let s := match (s.eng.clusters.find? fun k => k.die == die && k.phys == phys).map fun (k : Cluster) => k.use with
        | some (.mapped l) => s.breakOn die l fun o => o.req.paddock == e.paddock
        | some (.draining l) => s.breakOn die l fun o => o.req.paddock == e.paddock
        | _ => s
      (s.modCluster die phys start).afterUnits
    else (s.retireCluster die phys).afterUnits
  else s

/-- O5's handling of a report that reached it, with the repair; a syndrome in a metadata frame that a lease has touched is
ECC_DOMAIN instead (R175). -/
def State.handleReport (s : State) (e : ErrRep) (detected : Nat := s.time) : State :=
  if e.unitKind == 4 && e.severity < 2 && (s.touchedBy e.address).isSome then s.eccDomain e.paddock e.unit e.address
  else (s.handleError e detected).repairUnit e

/-- ERROR_REPORT (R365, R376): the request of an ostler wakes the node. -/
def execErrorReport (report : ErrRep) (s : State) : Result :=
  let e := s.ownFrame report
  if s.restarting 5 then s.finish ((s.wake 4 0).report e) else s.finish ((s.wake 4 0).handleReport e)

/-! ### Restarts (R353–R355) -/

/-- An ostler by number. -/
def State.ostler (s : State) (i : Nat) : Option Ostler := s.ostlers.find? (·.id == i)

/-- The operations that O2 holds: creates and forks in flight, which need its Ledger entry (R242, R354; log 106). -/
def Op.needsO2 (o : Op) : Bool :=
  decide (o.phase = .admitted) && (match o.effect with | .create .. => true | .fork .. => true | _ => false)

/-- The components of a bundle for a target, each with its LOAD address (R351). -/
def bundleParts (b : Bytes) (target : Nat) : List (Nat × Bytes) :=
  ((List.range (le b 6 2)).filter fun i => le b (64 + i * 64 + 2) 1 == target).map fun i =>
    (le b (64 + i * 64 + 12) 4, sub b (le b (64 + i * 64 + 4) 4) (le b (64 + i * 64 + 8) 4))

/-- An ostler starts: O1 loads its protection regions, then its components, and releases it (R350, R352, R353). -/
def State.startOstler (s : State) (b : Bytes) (i : Nat) : State :=
  s.modOstler i fun o => { o with
    regions := s.img.firmware.regions.filter (·.ostler == i), loaded := bundleParts b i
    data := [], regs := List.replicate 32 0, running := true, restarting := false }

/-- Whether an ostler's regions permit an access (R350). -/
def Ostler.permits (o : Ostler) (address : Nat) : Bool := o.regions.any fun r => r.base ≤ address && address < r.base + r.length

/-- What stops with an ostler (R279, R311, R354): the sessions with O0; what O2 holds answers DEGRADED_RETRY. -/
def State.haltOstler (s : State) (i : Nat) : State :=
  if i == 0 then
    let free := fun (q : Qp) => { q with mgmtSession := none }
    { s with
      sec := { s.sec with sessions := [] }
      net := { s.net with qps := s.net.qps.map free } }
  else if i == 2 then
    (s.eng.ops.filter Op.needsO2).foldl (fun t o =>
      match t.op o.id with
      | none => t
      | some x => t.failOp x St.degradedRetry 0 0) s
  else s

/-- An ostler restarts alone: it is halted, its data SRAM and registers are zeroed (R353), the restart is logged and
counted; more than two fail a probation, more than four within 10 min are a Fatal error. -/
def State.restartOstler (s : State) (i : Nat) : State :=
  match s.ostler i with
  | none => s
  | some o =>
    if !o.running then s
    else
      let times := (o.restarts.filter fun t => s.time < t + 600000000000) ++ [s.time]
      let s := s.haltOstler i
      let s := s.modOstler i fun x => { x with
        running := false, restarting := true, restarts := times, probationRestarts := x.probationRestarts + 1
        loaded := [], data := [], regs := List.replicate 32 0 }
      let s := s.note ⟨1, 7, 0x5004, 0, i, 0, 0, []⟩
      let s := if 2 < o.probationRestarts + 1 then s.failProbation (Config.probationReason 2 % 256) else s
      if 4 < times.length then s.report (unnamed 11 3 7 i 0) else s

/-- WATCHDOG_EXPIRY (R353). -/
def execWatchdogExpiry (ostler : Nat) (s : State) : Result := s.finish ((s.wake 4 0).restartOstler ostler)

/-- PROTECTION_VIOLATION (R350): an access that the ostler's regions do not permit does not complete. -/
def execProtectionViolation (ostler address : Nat) (s : State) : Result :=
  match s.ostler ostler with
  | none => .next s
  | some o =>
    if !o.running || o.permits address then .next s
    else
      let t := (s.wake 4 0).note ⟨1, 7, 0x5005, 0, ostler, address, 0, []⟩
      s.finish (t.restartOstler ostler)

/-! ### Functions (R368) -/

/-- The record of a function; one that no command touched has generation 0. -/
def State.function (s : State) (kind id : Nat) : Function_ :=
  (s.host.functions.find? fun f => f.kind == kind && f.id == id).getD ⟨kind, id, 0, false, false⟩

/-- Store a function. -/
def State.putFunction (s : State) (f : Function_) : State :=
  let rest := s.host.functions.filter fun g => !(g.kind == f.kind && g.id == f.id)
  { s with host := { s.host with functions := rest ++ [f] } }

/-- The next generation of a function. -/
def nextGen (g : Nat) : Nat := (g + 1) % 2 ^ 32

/-- A slice serves again: its queues and its scheduler are fresh (R252, R368). -/
def State.startSlice (s : State) (slice : Nat) : State :=
  let f := s.function 2 slice
  let s := { s with host := { s.host with slicesOff := s.host.slicesOff.filter (· != slice) } }
  let s := s.modSched slice fun d => { Sched.fresh s.img.sched s.time slice with
    gcl := d.gcl, cycle := d.cycle, base := d.base, cycleStart := d.cycleStart, length := d.length, entry := d.entry
    newGcl := d.newGcl, phaseErr := d.phaseErr }
  let s := s.putFunction { f with generation := nextGen f.generation, shutting := false, reenable := false }
  s.functionDone 2 slice 0 (nextGen f.generation) 1

/-- A slice's shutdown is complete: no operation of it is left. -/
def State.sliceDown (s : State) (slice : Nat) : State :=
  let f := s.function 2 slice
  if !f.shutting || s.eng.ops.any (·.slice == slice) then s
  else
    let s := s.putFunction { f with shutting := false }
    let s := s.functionDone 2 slice 0 f.generation 0
    if f.reenable then s.startSlice slice else s

/-- Frames that wait at a link's egress. -/
def State.egressEmpty (s : State) (link : Nat) : Bool :=
  match s.sched (16 + link) with
  | none => true
  | some d => d.queues.all (·.items.isEmpty)

/-- A link's shutdown is complete: its queues are empty, and it goes down; a queued re-enable begins to train. -/
def State.linkDown (s : State) (link : Nat) : State :=
  match s.link link with
  | none => s
  | some l =>
    if l.shuttingDown.isNone || !s.egressEmpty link then s
    else
      let s := s.dropLink link
      let s := s.modSched (16 + link) fun d => { Sched.fresh s.img.sched s.time (16 + link) with
        gcl := d.gcl, cycle := d.cycle, base := d.base, cycleStart := d.cycleStart, length := d.length, entry := d.entry
        newGcl := d.newGcl, phaseErr := d.phaseErr }
      let s := s.modLink link fun x => { x with
        shuttingDown := none, gen := if x.reenable then nextGen x.gen else x.gen }
      s.functionDone 1 (link / 4 * 16 + link % 4) 0 l.gen 0

/-- An ostler's data SRAM is zeroed (KIND 3). -/
def State.ostlerDown (s : State) (i : Nat) : State :=
  let f := s.function 3 i
  if !f.shutting || !s.restarting i then s
  else (s.putFunction { f with shutting := false }).functionDone 3 i 0 f.generation 0

/-- FUNCTION_SHUTDOWN_COMPLETE (R368); ID of a link as in PORT_CTL. -/
def execFunctionShutdownComplete (kind id : Nat) (s : State) : Result :=
  match kind with
  | 1 => .next (s.linkDown (id / 16 * 4 + id % 16))
  | 2 => .next (s.sliceDown id)
  | 3 => .next (s.ostlerDown id)
  | _ => .next s

/-- PORT_EGRESS_DISCARD (R368): 10 ms after the disable, what still waits is discarded. -/
def execPortEgressDiscard (link : Nat) (s : State) : Result :=
  match s.link link with
  | none => .next s
  | some l =>
    match l.shuttingDown with
    | none => .next s
    | some at_ =>
      let t := s.advanceTo (at_ + 10000000)
      .next (t.modSched (16 + link) fun d => d.discard fun _ => true)

end Sys2Proof.Machine
end

