-- ==== Sys2Proof/Machine/MailCmds.lean ====
section
/-! DEFINITION. What each mailbox command does (R362, R363): start-up and images (R333–R336, R351, R352), functions
(R368), paddocks (R298–R300), windows and regions (R225, R229), weight sets (R139, R363), schedulers (R260, R265), Tally
(R297), the log (R367) and power (R382). -/

namespace Sys2Proof.Machine

/-! ### Messages and answers -/

/-- A request in a mailbox buffer (R358). -/
structure Mail where
  box : Nat
  minor : Nat
  major : Nat
  opcode : Nat
  length : Nat
  tag : Bytes
  paddock : Nat
  body : Bytes
deriving DecidableEq, Repr

/-- Read the header and the body from a buffer. -/
def Mail.parse (box : Nat) (b : Bytes) : Mail :=
  ⟨box, le b 0 1, le b 1 1, le b 2 2, le b 4 4, sub b 8 8, le b 16 2 % 4096, sub b 32 (min (le b 4 4) 4064)⟩

/-- The answer to a command: the state, STATUS, DETAIL and the body. -/
structure Reply where
  state : State
  status : Nat
  detail : Nat
  body : Bytes
deriving DecidableEq, Repr

/-- The command succeeded. -/
def okReply (s : State) (body : Bytes) : Reply := ⟨s, St.ok, 0, body⟩

/-- The command was refused and changed nothing else. -/
def noReply (s : State) (status detail : Nat) : Reply := ⟨s, status, detail, []⟩

/-! ### Start-up -/

/-- NODE_INFO. -/
def cmdNodeInfo (_ : Mail) (s : State) : Reply :=
  okReply s (toLe 2 (if s.fused.a768 then 0x0A40 else 0x0A41) ++ toLe 1 s.fused.revision ++ toLe 1 s.boot.stage
    ++ sub s.fused.serial 0 16 ++ toLe 2 ((s.boot.bundle.map (·.1)).getD 0) ++ toLe 4 s.img.version
    ++ toLe 2 s.boot.nodeId ++ zeros 4)

/-- FW_LOAD (R352): a piece of the bundle; another TOTAL starts the load afresh. -/
def cmdFwLoad (m : Mail) (s : State) : Reply :=
  let off := le m.body 0 4
  let total := le m.body 4 4
  let data := m.body.drop 8
  if m.body.length < 8 then noReply s St.badParam 0x03
  else if total == 0 || 33554432 < total || total < off + data.length then noReply s St.badParam 0x01
  else
    let kept := if s.boot.fwTotal == some total then s.boot.fwPieces else []
    okReply { s with boot := { s.boot with fwTotal := some total, fwPieces := (off, data) :: kept } } []

/-- The staged byte at an offset: the newest piece that covers it. -/
def stagedByte (ps : List (Nat × Bytes)) (i : Nat) : Option Byte :=
  ps.findSome? fun p => if p.1 ≤ i then p.2[i - p.1]? else none

/-- Whether an offset below `total` that starts a gap exists: a gap starts at 0 or at the end of a piece. -/
def stagedWhole (ps : List (Nat × Bytes)) (total : Nat) : Bool :=
  (0 :: ps.map fun p => p.1 + p.2.length).all fun i => total ≤ i || (stagedByte ps i).isSome

/-- The staged bundle. -/
def stagedBytes (ps : List (Nat × Bytes)) (total : Nat) : Bytes :=
  (List.range total).map fun i => (stagedByte ps i).getD 0

/-- Format of a bundle (R351). -/
def bundleShape (b : Bytes) : Bool :=
  let n := le b 6 2
  let sig := le b 12 4
  sub b 0 4 == [0x51, 0x46, 0x57, 0x42] && 1 ≤ n && n ≤ 128 && le b 8 4 == b.length && b.length ≤ 33554432
    && sig % 16 == 0 && 64 + n * 64 ≤ sig && sig + 96 ≤ b.length && b.length ≤ sig + 2048 + 96
    && (List.range n).all fun i =>
      let e := 64 + i * 64
      let t := le b (e + 2) 1
      (t < 8 || t == 0xFE || t == 0xFF) && le b (e + 4) 4 % 16 == 0 && le b (e + 4) 4 + le b (e + 8) 4 ≤ sig

/-- Certificate and signature of a bundle. -/
def bundleSigned (root b : Bytes) : Bool :=
  let sig := le b 12 4
  let cert := (b.drop sig).take (b.length - sig - 96)
  Config.chainOk root cert && Config.ecdsaOk cert (Config.sha384 (b.take sig)) (b.drop (b.length - 96))

/-- The hash of every component. -/
def bundleHashes (b : Bytes) : Bool :=
  (List.range (le b 6 2)).all fun i =>
    let e := 64 + i * 64
    Config.sha384 (sub b (le b (e + 4) 4) (le b (e + 8) 4)) == sub b (e + 16) 48

/-- Check 0x09 (R330): the INTERFACES range and the FIRMWARE component table. -/
def State.bundleFits (s : State) (b : Bytes) : Bool :=
  let v := le b 4 2
  s.img.service.bundleMin ≤ v && v ≤ s.img.service.bundleMax && Config.bundleMatches (imgBytes (s.slot s.boot.inForce).bytes) b

/-- FW_CAUSE of a bundle (BOOT_STAT): 0 when it passes. -/
def State.bundleCause (s : State) (b : Bytes) : Nat :=
  if !bundleShape b then 0x01
  else if !bundleSigned s.fused.firmwareRoot b then 0x02
  else if !bundleHashes b then 0x03
  else if !s.bundleFits b then 0x09
  else 0

/-- The CXL ports are enumerated at the stage LINK (R158): capacity, and the device's poison list. -/
def State.enumerateCxl (s : State) : State :=
  let see := fun (p : Tier2Port) =>
    if p.present then { p with frames := Config.cxlFrames p.port, poisoned := Config.cxlPoison p.port } else p
  let ports := s.store.ports.map see
  let bad := (ports.map fun p => p.poisoned).flatten
  { s with store := { s.store with ports := ports, retired := (s.store.retired ++ bad).eraseDups } }

/-- The stall programs of a bundle, each with the ABI that it declares (R176). -/
def declaredAbis (b : Bytes) : List (Nat × Nat) := [1, 2, 3, 4].map fun i => (i, Config.programAbi b i % 65536)

/-- O3 takes the stall programs of a bundle; a base die refuses a program of another ABI, which O5 logs (R176). -/
def State.loadPrograms (s : State) (b : Bytes) : State :=
  let s := { s with leases := { s.leases with programs := declaredAbis b } }
  ((declaredAbis b).filter fun x => !abiRuns x.2).foldl (fun t _ => t.note (unnamed 6 1 2 0 0)) s

/-- FW_VERIFY passes (R341, R352): O1 starts the ostlers in the order of R352 and restarts into its own component, the
image lock is set, the device identity is derived (R274), the per-start secrets are drawn (R192, R212), and the node
goes on to LINK. -/
def State.passFirmware (s : State) (b : Bytes) : State :=
  let (wrap, s) := s.draw 32
  let (secret, s) := s.draw 32
  let identity := Config.hkdfSha384 Config.deviceSecret [] (Config.sha384 b)
  let s := [5, 0, 2, 3, 4, 6, 7, 1].foldl (fun t i => t.startOstler b i) s
  let s := { s with
    sec := { s.sec with deviceIdentity := identity, wrapKey := wrap, connectSecret := secret }
    boot := { s.boot with bundle := some (le b 4 2, b), fwCause := 0, imageLock := true } }
  ((s.loadPrograms b).setStage 8).enumerateCxl

/-- The DETAIL codes that R66 and R361 define; every other value is reserved. -/
def detailCodes : List Nat :=
  [0x00, 0x01, 0x02, 0x03, 0x04, 0x05, 0x06, 0x07, 0x08, 0x09, 0x0A, 0x0B, 0x0C, 0x0D, 0x10, 0x11, 0x12, 0x13, 0x20, 0x21,
   0x22, 0x23, 0x24]

/-- FW_START (R341, R348, R352). -/
def cmdFwStart (_ : Mail) (s : State) : Reply :=
  match s.boot.fwTotal with
  | none => noReply s St.badParam 0x03
  | some total =>
    if !stagedWhole s.boot.fwPieces total then noReply s St.badParam 0x03
    else
      let b := stagedBytes s.boot.fwPieces total
      let s := s.setStage 7
      let c := s.bundleCause b
      if c == 0 then okReply (s.passFirmware b) []
      else
        let s := { s.overrun with boot := { s.overrun.boot with
          fwCause := c, rimReason := if c == 0x09 then 0x09 else s.boot.rimReason } }
        let s := s.note (unnamed 12 1 0 0 0)
        let s := s.failProbation (if c == 0x09 then 0x09 else Config.probationReason 4 % 256)
        let x := Config.fwRefusal c
        noReply (s.setStage 6) (1 + x.1 % 14) (detailCodes.getD (x.2 % 23) 0)

/-! ### Images -/

/-- A RIM command that probation refuses (R336). -/
def State.refuseRim (s : State) : Reply :=
  noReply { s with boot := { s.boot with rimReason := 0x0B } } St.denied 0x23

/-- Whether a slot may be written: neither ACTIVE nor PROBATION (R333). -/
def State.slotWritable (s : State) (i : Nat) : Bool :=
  i ≤ 1 && decide ((s.slot i).state ≠ .active) && decide ((s.slot i).state ≠ .probation)

/-- RIM_WRITE (R333, R336): the slot holds no committed image any more. -/
def cmdRimWrite (m : Mail) (s : State) : Reply :=
  let i := le m.body 0 1
  let off := le m.body 4 4
  let data := m.body.drop 8
  if (s.slotIn .probation).isSome then s.refuseRim
  else if m.body.length < 8 then noReply s St.badParam 0x03
  else if !s.slotWritable i || 25165824 < off + data.length then noReply s St.badParam 0x01
  else
    let write := fun (x : ImageSlot) => { x with bytes := Memory.writeBytes x.bytes off data }
    let s := if decide ((s.slot i).state = .empty) then s else s.setSlot i .empty 0
    okReply { s with boot := { s.boot with slots := updateAt i write s.boot.slots } } []

/-- RIM_COMMIT (R333, R336): checks 0x01–0x08; in RECOVERY a valid image starts the node again. -/
def cmdRimCommit (m : Mail) (s : State) : Reply :=
  let i := le m.body 0 1
  if (s.slotIn .probation).isSome then s.refuseRim
  else if m.body.length != 8 then noReply s St.badParam 0x03
  else if !s.slotWritable i then noReply s St.badParam 0x01
  else
    let b := (s.slot i).bytes
    let r := s.imgReason b (le m.body 4 4)
    let read := fun (x : ImageSlot) => { x with version := imgNat b 12 4, epoch := imgNat b 16 1 % 128 }
    let s := { s with boot := { s.boot with slots := updateAt i read s.boot.slots } }
    let s := s.setSlot i (if r == 0 then .pending else .failed) r
    let s := if r == 0 && s.boot.stage == 14 then s.setStage 3 else s
    okReply s (toLe 1 (s.slot i).state.code ++ toLe 1 r)

/-- RIM_REJECT (R335). -/
def cmdRimReject (_ : Mail) (s : State) : Reply := okReply (s.failProbation (Config.probationReason 3 % 256)) []

/-- RIM_STATUS. -/
def cmdRimStatus (_ : Mail) (s : State) : Reply :=
  let one := fun (i : Nat) =>
    let x := s.slot i
    toLe 1 x.state.code ++ toLe 1 x.reason ++ toLe 4 x.version ++ toLe 1 x.epoch ++ zeros 1
  okReply s (one 0 ++ one 1 ++ toLe 1 s.boot.floor)

/-- WARM_RESET: the reset follows the answer. -/
def cmdWarmReset (_ : Mail) (s : State) : Reply := okReply s []

/-! ### Functions (R368) -/

/-- OSTLER_RESTART (R353): a shutdown and, queued behind it, a re-enable; another one meanwhile draws BUSY_TEARDOWN (R368; log
126). -/
def cmdOstlerRestart (m : Mail) (s : State) : Reply :=
  let i := le m.body 0 1
  let f := s.function 3 i
  if m.body.length != 1 then noReply s St.badParam 0x03
  else if 7 < i then noReply s St.badParam 0x01
  else if f.shutting && f.reenable then noReply s St.busyTeardown 0
  else if s.restarting i then okReply s (toLe 4 f.generation)
  else okReply ((s.putFunction { f with shutting := true, reenable := true }).restartOstler i) (toLe 4 f.generation)

/-- The link that PORT_CTL names. -/
def portLink (m : Mail) : Nat := le m.body 0 1 / 16 * 4 + le m.body 0 1 % 16

/-- PORT_CTL, OP 0: connections move, the egress drains; a queued re-enable is cancelled. -/
def State.disableLink (s : State) (l : Link) : Reply :=
  if l.shuttingDown.isSome then okReply (s.modLink l.id fun x => { x with reenable := false }) (toLe 4 l.gen)
  else if !l.enabled && !l.reenable then okReply s (toLe 4 l.gen)
  else
    let s := s.modLink l.id fun x => { x with enabled := false, reenable := false, shuttingDown := some s.time }
    okReply (s.moveHomes l.id) (toLe 4 l.gen)

/-- PORT_CTL, OP 1: training begins, or the re-enable is queued behind the shutdown. -/
def State.enableLink (s : State) (l : Link) : Reply :=
  if l.enabled then okReply s (toLe 4 l.gen)
  else if l.shuttingDown.isSome then
    if l.reenable then noReply s St.busyTeardown 0
    else okReply (s.modLink l.id fun x => { x with reenable := true }) (toLe 4 (nextGen l.gen))
  else if l.reenable then okReply s (toLe 4 l.gen)
  else okReply (s.modLink l.id fun x => { x with reenable := true, gen := nextGen x.gen }) (toLe 4 (nextGen l.gen))

/-- PORT_CTL. -/
def cmdPortCtl (m : Mail) (s : State) : Reply :=
  if m.body.length != 2 then noReply s St.badParam 0x03
  else if 3 < le m.body 0 1 % 16 || 1 < le m.body 1 1 then noReply s St.badParam 0x01
  else
    match s.link (portLink m) with
    | none => noReply s St.badParam 0x01
    | some l => if le m.body 1 1 == 0 then s.disableLink l else s.enableLink l

/-- SLICE_CTL, OP 0: admission answers DEGRADED_RETRY, also to what waits; background stops. -/
def State.stopSlice (s : State) (slice : Nat) : Reply :=
  let f := s.function 2 slice
  if s.host.slicesOff.contains slice then okReply (s.putFunction { f with reenable := false }) (toLe 4 f.generation)
  else
    let s := s.putFunction { f with shutting := true, reenable := false }
    let s := { s with host := { s.host with slicesOff := s.host.slicesOff ++ [slice] } }
    let waiting := (s.eng.ops.filter fun o => o.slice == slice && decide (o.phase ≠ .admitted)).map fun (o : Op) => o.id
    let run := fun (o : Op) => if waiting.contains o.id && decide (o.phase = .held) then { o with phase := .queued } else o
    let s := { s with eng := { s.eng with ops := s.eng.ops.map run } }
    let s := waiting.foldl (fun (t : State) i => match t.op i with | none => t | some x => t.failOp x St.degradedRetry 0 0) s
    okReply s (toLe 4 f.generation)

/-- SLICE_CTL, OP 1. -/
def State.resumeSlice (s : State) (slice : Nat) : Reply :=
  let f := s.function 2 slice
  if !s.host.slicesOff.contains slice then okReply s (toLe 4 f.generation)
  else if f.shutting then
    if f.reenable then noReply s St.busyTeardown 0
    else okReply (s.putFunction { f with reenable := true }) (toLe 4 (nextGen f.generation))
  else okReply (s.startSlice slice) (toLe 4 (nextGen f.generation))

/-- SLICE_CTL. -/
def cmdSliceCtl (m : Mail) (s : State) : Reply :=
  let i := le m.body 0 1
  if m.body.length != 2 then noReply s St.badParam 0x03
  else if (s.sliceCfg i).isNone || 1 < le m.body 1 1 then noReply s St.badParam 0x01
  else if le m.body 1 1 == 0 then s.stopSlice i else s.resumeSlice i

/-! ### Paddocks -/

/-- The configuration of PADDOCK_CREATE. -/
def createConfig (b : Bytes) : PadConfig :=
  let f := le b 0 1
  ⟨bit f 0, bit f 1, bit f 2, le b 2 2, le b 4 4, le b 8 8, le b 16 8, le b 24 2, sub b 32 48⟩

/-- The configurations of a paddock that name a slice: the one in force, and that of a queued create (R300). -/
def Pad.claims (x : Pad) (slice : Nat) : List PadConfig :=
  ((if decide (x.state ≠ .free) then [x.config] else []) ++ (x.queued.toList.map (·.1))).filter fun c => bit c.sliceMask slice

/-- Tenant paddocks of a slice other than `p`, each as what it claims there. -/
def State.tenantsOf (s : State) (slice p : Nat) : List (List PadConfig) :=
  ((s.pads.filter fun x => x.id != p && x.id != 0).map (·.claims slice)).filter (!·.isEmpty)

/-- What R264, R269 and R291 ask of a paddock in one slice of sealed policy. -/
def State.sealedFits (s : State) (p : Nat) (c : PadConfig) (k : SliceCfg) : Bool :=
  let others := s.tenantsOf k.id p
  let most := fun (f : PadConfig → Nat) => sumNat (others.map fun cs => (cs.map f).foldl max 0)
  c.requireSeal
    && most (·.t1Allow) + c.t1Allow ≤ k.dataFrames * 32768
    && most (·.seqQuota) + c.seqQuota ≤ k.descCount
    && (!c.tier2 || s.img.t2Ports.any (·.1 == k.id))
    && (if k.policy == 2 then others.isEmpty else k.shares.any fun x => x.1 == p && x.2 != 0)
    && (!c.weights || k.policy == 2)
    && k.partsInRange && s.img.hasBridle k.id p

/-- Whether the image allows the slices of a paddock (R269, R291, R298). -/
def State.slicesFit (s : State) (p : Nat) (c : PadConfig) : Bool :=
  let mine := s.padSlices c
  !mine.isEmpty && popcount 16 c.sliceMask == mine.length && ((mine.map fun (k : SliceCfg) => k.policy).eraseDups.length == 1)
    && mine.all fun k => k.policy == 0 || s.sealedFits p c k

/-- PADDOCK_CREATE (R298, R300). -/
def cmdPaddockCreate (m : Mail) (s : State) : Reply :=
  let p := m.paddock
  let c := createConfig m.body
  let ktp := sub m.body 80 32
  let x := s.pad p
  let next := toLe 4 (nextGen x.generation)
  if p == 0 then noReply s St.badParam 0x01
  else
    match x.state with
    | .open_ | .awaitSeal | .sealed => noReply s St.badParam 0x24
    | _ =>
      if m.body.length != 112 then noReply s St.badParam 0x03
      else if !s.slicesFit p c then noReply s St.badParam 0x22
      else if decide (x.state = .teardown) then
        if x.queued.isSome then noReply s St.busyTeardown 0
        else okReply (s.modPad p fun y => { y with queued := some (c, ktp) }) next
      else okReply (s.bringUpPad p c ktp) next

/-- PADDOCK_TEARDOWN (R299, R300). -/
def cmdPaddockTeardown (m : Mail) (s : State) : Reply :=
  if m.paddock == 0 then noReply s St.badParam 0x01
  else okReply (s.requestTeardown m.paddock) (toLe 4 (s.pad m.paddock).generation)

/-- PADDOCK_QUERY (R285). -/
def cmdPaddockQuery (m : Mail) (s : State) : Reply := okReply s (s.padRecord m.paddock)

/-- AUDIT_MODE (R318). -/
def cmdAuditMode (m : Mail) (s : State) : Reply :=
  let st := (s.pad m.paddock).state
  if m.body.length != 1 then noReply s St.badParam 0x03
  else if m.paddock == 0 || 1 < le m.body 0 1 then noReply s St.badParam 0x01
  else if decide (st = .teardown) then noReply s St.busyTeardown 0
  else if decide (st = .free) then noReply s St.badParam 0x24
  else okReply (s.modPad m.paddock fun x => { x with audit := le m.body 0 1 == 1 }) []

/-! ### Windows and regions -/

/-- Whether LENGTH suits the place of a window (R225). -/
def windowLengthOk (landing : Bool) (n : Nat) : Bool :=
  if landing then n % 65536 == 0 && 65536 ≤ n && n ≤ 33554432
  else n % 2097152 == 0 && 2097152 ≤ n && n ≤ 68719476736

/-- WINDOW_INSTALL (R225); RIGHTS [7:3] are reserved and ignored (R7). -/
def cmdWindowInstall (m : Mail) (s : State) : Reply :=
  let b := m.body
  let p := m.paddock
  let st := (s.pad p).state
  let landing := le b 5 1 == 1
  let n := le b 8 8
  let sealed := decide (st = .sealed) || decide (st = .awaitSeal)
  let taken := s.maps.windows.any fun w =>
    w.srcNode == le b 0 2 && w.srcPaddock == le b 2 2 % 4096 && decide (w.state = .active)
  if b.length != 48 then noReply s St.badParam 0x03
  else if decide (st = .teardown) then noReply s St.busyTeardown 0
  else if p != 0 && decide (st = .free) then noReply s St.badParam 0x24
  else if 1 < le b 5 1 || !windowLengthOk landing n || taken || (sealed && !landing) then noReply s St.badParam 0x01
  else if !landing && s.passesAllowance p n && p != 0 then noReply s St.quota 0x12
  else
    match s.installWindow (le b 0 2) (le b 2 2 % 4096) p (le b 4 1) landing n (if sealed then [] else sub b 16 32) .plain with
    | none => noReply s St.quota 0
    | some (i, t) => okReply t (toLe 2 i ++ zeros 2 ++ toLe 4 (((t.window i).map fun (w : Window) => w.gen).getD 0))

/-- WINDOW_REMOVE (R226); the fabric manager's window stays for the whole start (R346). -/
def cmdWindowRemove (m : Mail) (s : State) : Reply :=
  let i := le m.body 0 2
  if m.body.length != 2 then noReply s St.badParam 0x03
  else if i == 0 || !(s.maps.windows.any fun w => w.index == i && decide (w.state = .active)) then noReply s St.badParam 0x01
  else okReply (s.closeWindow i) []

/-- A free index of the region table. -/
def State.freeRegion (s : State) : Option Nat × State :=
  let used := (s.maps.regions.filter (·.active)).map fun (r : Region) => r.index
  let (i, t) := s.choose Config.rowChoice 16384
  (((List.range (used.length + 1)).map fun k => (i + k) % 16384).find? fun k => !used.contains k, t)

/-- Store a region; R_GEN goes up at every change of owner (R229). -/
def State.putRegion (s : State) (index base size node paddock : Nat) : State :=
  let gen := ((s.maps.regions.find? (·.index == index)).map fun (r : Region) => r.gen).getD 0
  let r : Region := ⟨index, base, size, true, node, paddock, (gen + 1) % 2 ^ 32⟩
  { s with maps := { s.maps with regions := s.maps.regions.filter (fun (x : Region) => x.index != index) ++ [r] } }

/-- REGION_SET (R229, R230): a region of a Tier-1 window that serves RLA alone. -/
def cmdRegionSet (m : Mail) (s : State) : Reply :=
  let b := m.body
  let size := le b 2 1
  let off := le b 4 8
  let node := le b 12 2
  let paddock := le b 14 2 % 4096
  if b.length != 16 then noReply s St.badParam 0x03
  else
    match (s.window (le b 0 2)).filter fun w => decide (w.state = .active) && decide (w.use = .plain) && w.base < landingBase with
    | none => noReply s St.badParam 0x01
    | some w =>
      let base := w.base + off
      if size < 21 || 30 < size || base % 2 ^ size != 0 || w.length < off + 2 ^ size then noReply s St.badParam 0x01
      else
        let answer := fun (t : State) (i : Nat) =>
          okReply t (toLe 2 i ++ zeros 2 ++ toLe 4 (((t.region i).map fun (r : Region) => r.gen).getD 0))
        match s.maps.regions.find? fun r => r.active && r.base == base && r.sizeLog2 == size with
        | some r =>
          if r.ownerNode == node && r.ownerPaddock == paddock then answer s r.index
          else answer (s.putRegion r.index base size node paddock) r.index
        | none =>
          if s.maps.regions.any fun r => r.active && r.base < base + 2 ^ size && base < r.base + 2 ^ r.sizeLog2 then
            noReply s St.badParam 0x01
          else
            match s.freeRegion with
            | (none, _) => noReply s St.quota 0
            | (some i, t) => answer (t.putRegion i base size node paddock) i

/-! ### Weight sets (R139, R363) -/

/-- Room for a weight set in some slices, one run in each (R139, R363). -/
def State.weightRoom (s : State) (n : Nat) : List Nat → Option (List Nat × State)
  | [] => some ([], s)
  | k :: ks =>
    match s.weightRoom n ks with
    | none => none
    | some (rest, t) => (t.allocMeta k 0 n 4096).map fun r => (r.1 :: rest, r.2)

/-- WEIGHT_CREATE: room in each slice, in the Ledger for the window's entry (R239), and the loader's window, which lies in
the first. The key of that window is open (log 41). -/
def cmdWeightCreate (m : Mail) (s : State) : Reply :=
  let b := m.body
  let id := le b 0 2
  let mask := le b 2 2
  let n := le b 4 8
  let slices := (s.img.slices.filter fun c => bit mask c.id).map fun (c : SliceCfg) => c.id
  let length := ceilDiv (n + 128) 2097152 * 2097152
  if b.length != 16 then noReply s St.badParam 0x03
  else if id == 0 || popcount 16 mask != slices.length || slices.isEmpty || n < 64 || 68719476736 < length
      || s.store.weights.any (·.setId == id) then noReply s St.badParam 0x01
  else if !s.windowEntryFits (le b 12 2) (le b 14 2 % 4096) then noReply s St.quota 0
  else
    match s.img.slices.find? fun c => slices.contains c.id, s.freeWindow with
    | some c, (some i, t) =>
      (match t.windowPlaceIn c 0 length with
       | none => noReply s St.quota 0
       | some (base, t) =>
         match t.weightRoom n (slices.filter (· != c.id)) with
         | none => noReply s St.quota 0
         | some (copies, t) =>
         let t := t.openWindow i (le b 12 2) (le b 14 2 % 4096) 0 2 base length (Config.loaderKey id) (.loader id)
         let w : WeightSet := {
           setId := id, paddock := 0, header := [], bytes := [], slices := slices, committed := false, removing := false
           window := some i, base := base, copies := copies, length := n }
         okReply { t with store := { t.store with weights := t.store.weights ++ [w] } } (toLe 2 i))
    | _, _ => noReply s St.quota 0

/-- Whether a header holds what R139 asks, and the set fits BYTES. -/
def WeightSet.headerOk (w : WeightSet) (limit : Nat) : Bool :=
  let d := w.dims
  let rows := d.heads * d.latent * d.fmt.recBytes d.qn + d.heads * d.vDim * d.fmt.recBytes d.latent
  let step := fun (x : Nat) => 32 ≤ x && x ≤ 256 && x % 32 == 0
  le w.header 0 2 == w.setId && 1 ≤ d.layers && d.layers ≤ 256 && 1 ≤ d.heads && d.heads ≤ 256 && step d.qn && step d.vDim
    && (d.format == 0 || d.format == 2 || d.format == 3) && d.layerBytes ≤ 22020096 && rows ≤ d.layerBytes
    && 64 + d.layers * d.layerBytes ≤ limit

/-- Whether R291 lets a set of a paddock lie in the slices. -/
def State.weightSlicesOk (s : State) (paddock : Nat) (slices : List Nat) : Bool :=
  s.img.slices.all fun c => !slices.contains c.id || c.policy == 0
    || (c.policy == 2 && bit (s.pad paddock).config.sliceMask c.id
        && s.store.weights.all fun w => !w.committed || w.paddock == paddock
            || w.slices.all fun k => match s.sliceCfg k with | none => true | some o => !(o.dies.any c.dies.contains))

/-- WEIGHT_COMMIT: the window goes, the set is checked and becomes available. -/
def cmdWeightCommit (m : Mail) (s : State) : Reply :=
  let id := le m.body 0 2
  if m.body.length != 2 then noReply s St.badParam 0x03
  else
    match s.store.weights.find? fun w => w.setId == id && !w.committed with
    | none => noReply s St.badParam 0x01
    | some w =>
      match w.window with
      | none => noReply s St.badParam 0x01
      | some i =>
        let data := Memory.readBytes s.mem w.base w.length
        let h := data.take 64
        let x := { w with header := h, bytes := data.drop 64, paddock := le h 2 2 % 4096, window := none }
        let s := s.closeWindow i
        let ok := x.headerOk w.length && s.weightSlicesOk x.paddock w.slices
        let keep := fun (y : WeightSet) => if ok then { x with committed := true } else { y with window := none }
        let s := { s with store := { s.store with weights := updateFirst (·.setId == id) keep s.store.weights } }
        if ok then okReply s [] else noReply s St.badParam 0x01

/-- WEIGHT_REMOVE: at once, or after the steps that use the set. -/
def cmdWeightRemove (m : Mail) (s : State) : Reply :=
  let id := le m.body 0 2
  if m.body.length != 2 then noReply s St.badParam 0x03
  else
    match s.store.weights.find? fun w => w.setId == id && !w.removing with
    | none => noReply s St.badParam 0x0B
    | some w =>
      let s := match w.window with | none => s | some i => s.closeWindow i
      let mark := fun (x : WeightSet) => { x with removing := true, window := none }
      let s := { s with store := { s.store with weights := updateFirst (·.setId == id) mark s.store.weights } }
      okReply s.dropRemoved []

/-! ### Schedulers (R260, R265) -/

/-- The scheduler that SCHEDULER names: a slice's admission, or a link's egress. -/
def schedulerId (x : Nat) : Option Nat :=
  match bits x 15 12 with
  | 0 => some (bits x 3 0)
  | 1 => some (16 + bits x 6 0)
  | _ => none

/-- Whether a bridle is the only one for admission of a tenant of a sealed-policy slice, which has one always (R264). -/
def State.lastBridle (s : State) (d : Sched) (cls paddock : Nat) : Bool :=
  d.id < 16 && (s.sliceCfg d.id).any (fun c => c.policy != 0) && s.sch.bridles.any (fun b => b.1 == d.id && b.2.2.1 == paddock)
    && s.sch.bridles.all fun b => !(b.1 == d.id && b.2.2.1 == paddock) || b.2.1 == cls

/-- SCHED_SET: QUANTUM at the queue's next visit; a bridle with its BURST as credit; RATE 0 removes it; all within the image's
limits (R331). -/
def cmdSchedSet (m : Mail) (s : State) : Reply :=
  let b := m.body
  let cls := le b 2 1
  let quantum := le b 4 2
  let rate := le b 8 4
  let burst := le b 12 4
  if b.length != 16 then noReply s St.badParam 0x03
  else
    match (schedulerId (le b 0 2)).bind s.sched with
    | none => noReply s St.badParam 0x01
    | some d =>
      if (d.id < 16 && 2 < cls) || 7 < cls || quantum == 0 || 16777215 < rate || (rate != 0 && (burst == 0 || 65536 < burst)) then
        noReply s St.badParam 0x01
      else if (rate == 0 && s.lastBridle d cls m.paddock) || s.img.sched.limits.quantum < quantum
          || s.img.sched.limits.rate < rate || (rate != 0 && s.img.sched.limits.burst < burst) then
        noReply s St.badParam 0x22
      else
        let d : Sched := match d.queue cls m.paddock with
          | some _ => d.modQueue cls m.paddock fun q => { q with quantum := quantum }
          | none => { d with queues := d.queues ++ [⟨cls, m.paddock, [], 0, quantum, false, none, s.time, 0, false, false⟩] }
        let s := s.putSched d
        let others := s.sch.bridles.filter fun x => !(x.1 == d.bridleKey && x.2.1 == cls && x.2.2.1 == m.paddock)
        let s := { s with sch := { s.sch with bridles := others } }
        okReply (if rate == 0 then s
          else s.putBridle d cls m.paddock ⟨rate, burst, ((burst * 1024000 : Nat) : Int), s.time⟩) []

/-- The entries of GCL_SET. -/
def gclEntries (b : Bytes) (n : Nat) : List Gate :=
  (List.range n).map fun i => ⟨le b (16 + 8 * i) 4, le b (20 + 8 * i) 1, le b (21 + 8 * i) 1⟩

/-- Whether a gate list that GCL_SET names is consistent for its scheduler (R258, R260). -/
def State.gclOk (s : State) (id cycle : Nat) (gs : List Gate) : Bool :=
  gclConsistent id (((s.net.links.find? fun l => l.id + 16 == id).map fun (l : Link) => l.rate).getD 1600) cycle gs

/-- Whether a list can apply from a cycle: it begins at least two cycles from now (R260), at a boundary of the new CYCLE
too, for cycle k begins at GATE_BASE + k × CYCLE (R258). DESIGN CHOICE (log 99): a change that no such boundary meets is
refused. -/
def State.gclFrom (s : State) (d : Sched) (cycle first : Nat) : Bool :=
  s.time + 2 * d.cycle ≤ d.base + first * d.cycle && first * d.cycle % max 1 cycle == 0

/-- GCL_SET (R260): the list applies from a cycle that begins at least two cycles from now; sealed-policy slices keep windows of
their own (R264). -/
def cmdGclSet (m : Mail) (s : State) : Reply :=
  let b := m.body
  let n := le b 2 2
  let cycle := le b 4 4
  let first := le b 8 8
  let gs := gclEntries b n
  if b.length != 16 + 8 * n then noReply s St.badParam 0x03
  else
    match (schedulerId (le b 0 2)).bind s.sched with
    | none => noReply s St.badParam 0x01
    | some d =>
      if n == 0 || 256 < n || !s.gclOk d.id cycle gs || !s.gclFrom d cycle first then noReply s St.badParam 0x01
      else if !s.img.sealedGates d.id gs || !within s.img.sched.limits.cycleMin cycle s.img.sched.limits.cycleMax then
          noReply s St.badParam 0x22
      else okReply (s.putSched { d with newGcl := some (first, cycle, gs) }) []

/-! ### Tally, log, health, power -/

/-- TALLY_SNAPSHOT (R297): up to 64 paddocks at one instant. -/
def cmdTallySnapshot (m : Mail) (s : State) : Reply :=
  let n := le m.body 0 1
  if m.body.length != 2 + 2 * n then noReply s St.badParam 0x03
  else if n == 0 || 64 < n then noReply s St.badParam 0x01
  else
    let ps := (List.range n).map fun i => le m.body (2 + 2 * i) 2 % 4096
    okReply (s.modBox m.box fun b => { b with latch := ps.map s.snapshot }) (toLe 8 s.time)

/-- TALLY_FETCH. -/
def cmdTallyFetch (m : Mail) (s : State) : Reply :=
  let first := le m.body 0 1
  let n := le m.body 1 1
  let l := (s.box m.box).latch
  if m.body.length != 2 then noReply s St.badParam 0x03
  else if n == 0 || 40 < n || l.length < first + n then noReply s St.badParam 0x01
  else okReply s (((l.drop first).take n).map TallyRec.bytes).flatten

/-- LOG_READ (R367). -/
def cmdLogRead (m : Mail) (s : State) : Reply :=
  let from_ := if le m.body 0 4 == 0 then 1 else le m.body 0 4
  let n := le m.body 4 1
  if m.body.length != 5 then noReply s St.badParam 0x03
  else if n == 0 || 63 < n then noReply s St.badParam 0x01
  else
    let got := (s.log.records.filter fun r => from_ ≤ r.seq).take n
    let oldest := (s.log.records.head?.map fun (r : LogRec) => r.seq).getD from_
    let next := (got.getLast?.map fun (r : LogRec) => r.seq + 1).getD from_
    okReply s (toLe 4 next ++ toLe 4 (oldest - from_) ++ (got.map LogRec.bytes).flatten)

/-- A temperature as 16 bits. -/
def tempBytes (t : Int) : Bytes := toLe 2 (t % 65536).toNat

/-- HEALTH_READ. -/
def cmdHealthRead (_ : Mail) (s : State) : Reply :=
  okReply s (s.faultLine ++ tempBytes (s.pwr.temps.getD 0 0) ++ tempBytes (s.pwr.temps.getD 1 0) ++ toLe 4 s.pwr.average)

/-- Whether the clock of a cluster group (die × 8 + group) is pinned (R382). -/
def State.pinnedGroup (s : State) (g : Nat) : Bool :=
  s.img.slices.any fun c => c.clockMhz != 0 && c.groups.contains (g / 8, g % 8)

/-- POWER_SET (R331, R381, R382): the limit, within the image's limits, and the point above which the groups do not rise, one of
the image's. -/
def cmdPowerSet (m : Mail) (s : State) : Reply :=
  let limit := le m.body 0 2
  let mask := le m.body 2 2
  let point := le m.body 4 1
  let range := if s.fused.a768 then 600 ≤ limit && limit ≤ 1250 else 500 ≤ limit && limit ≤ 950
  if m.body.length != 8 then noReply s St.badParam 0x03
  else if !range then noReply s St.badParam 0x01
  else if !within s.img.power.limits.1 limit s.img.power.limits.2 || s.img.power.points.length ≤ point then noReply s St.badParam 0x22
  else
    let held := fun (g : Nat) => s.pwr.throttle.getD (g / 8) false || s.pwr.forced.getD (g / 8) false
    let move := fun (g : Nat) =>
      let now := s.pwr.points.getD g 0
      if !bit mask g || s.pinnedGroup g then now else if held g then max now point else point
    let cap := fun (g : Nat) => if bit mask g then point else s.pwr.ceilings.getD g 0
    okReply { s with pwr := { s.pwr with
      limit := limit, points := (List.range 16).map move, ceilings := (List.range 16).map cap } } []

end Sys2Proof.Machine
end

