-- ==== Sys2Proof/Machine/Mailbox.lean ====
section
/-! DEFINITION. The mailboxes (R356–R361): the exchange, versions, what a boot stage serves, and one meaning for each
mailbox command. -/

namespace Sys2Proof.Machine

/-- Whether F0 carries requests to BAR0: power is up and F0 too (R340, R388, R391). -/
def State.bar0Up (s : State) : Bool := s.power.pwrok && 2 ≤ s.boot.stage && s.boot.stage < 15 && s.pwr.f0Up

/-- Whether host software reaches BAR0: ROM has ended, and the TDI is not in ERROR, nor has it been without being locked again
(R287, R340). In RUN a command stands for a request on the bound IDE stream (DESIGN CHOICE, log 137). -/
def State.bar0Open (s : State) : Bool := s.bar0Up && 3 ≤ s.boot.stage && !s.sec.bar0Shut

/-- Whether a register responds: in ROM the identity and BOOT_* alone (R340). -/
def State.bar0Answers (s : State) (off : Nat) : Bool :=
  s.bar0Open || (s.bar0Up && s.boot.stage == 2 && !s.sec.bar0Shut && (off < 0x40 || (0x40000 ≤ off && off < 0x40008)))

/-- What a read of BAR0 returns: nothing while F0 is down or ROM has not ended, 0 while the TDI's ERROR shuts it (R287,
R340). -/
def State.bar0Reads (s : State) (off value : Nat) : Option Nat :=
  if s.bar0Answers off then some value else if s.bar0Up && s.sec.bar0Shut then some 0 else none

/-! ### Versions, stages, ostlers -/

/-- The header version since which a command exists, major × 256 + minor (R362); `none` for an opcode of no version. -/
def cmdSince (op : Nat) : Option Nat :=
  if op == 0x33 then some 0x201
  else if [0x50, 0x51, 0x52, 0x61].contains op then some 0x200
  else if [0x01, 0x02, 0x03, 0x10, 0x11, 0x12, 0x13, 0x20, 0x21, 0x22, 0x23, 0x30, 0x31, 0x32, 0x40, 0x41, 0x42, 0x60, 0x70,
      0x71, 0x80, 0x90, 0xA0].contains op then some 0x100
  else none

/-- The minor that the node implements for a major (R359). -/
def minorOf (major : Nat) : Nat := if major == 1 then 3 else if major == 2 then 1 else 0

/-- Whether the version of a request is accepted and holds its opcode (R359). -/
def State.versionOk (s : State) (m : Mail) : Bool :=
  s.img.service.majors.contains m.major
    && (match cmdSince m.opcode with | none => false | some v => v ≤ m.major * 256 + m.minor)

/-- Commands that the boot stage serves (R341, R361). -/
def stageServes (stage op : Nat) : Bool :=
  if stage == 6 then [0x01, 0x02, 0x03].contains op
  else if stage == 14 then [0x01, 0x10, 0x11, 0x13].contains op
  else op != 0x02 && op != 0x03

/-- The ostler whose runtime changes a command asks for, where its restart refuses them (R354). -/
def cmdOstler (op : Nat) : Option Nat :=
  if [0x10, 0x11, 0x12, 0x13].contains op then some 1
  else if [0x40, 0x41, 0x42].contains op then some 2
  else if [0x60, 0x61].contains op then some 4
  else if op == 0xA0 then some 6
  else none

/-- The meaning of an opcode. -/
def runCommand (m : Mail) (s : State) : Reply :=
  match m.opcode with
  | 0x01 => cmdNodeInfo m s
  | 0x02 => cmdFwLoad m s
  | 0x03 => cmdFwStart m s
  | 0x10 => cmdRimWrite m s
  | 0x11 => cmdRimCommit m s
  | 0x12 => cmdRimReject m s
  | 0x13 => cmdRimStatus m s
  | 0x20 => cmdWarmReset m s
  | 0x21 => cmdOstlerRestart m s
  | 0x22 => cmdPortCtl m s
  | 0x23 => cmdSliceCtl m s
  | 0x30 => cmdPaddockCreate m s
  | 0x31 => cmdPaddockTeardown m s
  | 0x32 => cmdPaddockQuery m s
  | 0x33 => cmdAuditMode m s
  | 0x40 => cmdWindowInstall m s
  | 0x41 => cmdWindowRemove m s
  | 0x42 => cmdRegionSet m s
  | 0x50 => cmdWeightCreate m s
  | 0x51 => cmdWeightCommit m s
  | 0x52 => cmdWeightRemove m s
  | 0x60 => cmdSchedSet m s
  | 0x61 => cmdGclSet m s
  | 0x70 => cmdTallySnapshot m s
  | 0x71 => cmdTallyFetch m s
  | 0x80 => cmdLogRead m s
  | 0x90 => cmdHealthRead m s
  | 0xA0 => cmdPowerSet m s
  | _ => noReply s St.version 0

/-- A command's reply, with the refusals that come before its own checks (R354, R359, R361). -/
def State.reply (s : State) (m : Mail) : Reply :=
  if !s.versionOk m then noReply s St.version 0
  else if !stageServes s.boot.stage m.opcode then noReply s St.denied 0x20
  else if (cmdOstler m.opcode).any s.restarting then noReply s St.degradedRetry 0
  else if 4064 < m.length || (m.length != 0 && [0x01, 0x03, 0x12, 0x13, 0x20, 0x31, 0x32, 0x90].contains m.opcode) then
    noReply s St.badParam 0x03
  else runCommand m s

/-! ### The exchange (R357) -/

/-- Bytes written over the start of a buffer. -/
def overlay (old new : Bytes) : Bytes := new ++ old.drop new.length

/-- The response header of a request (R358, R359). -/
def replyHeader (m : Mail) (status detail length : Nat) : Bytes :=
  toLe 1 (minorOf m.major) ++ toLe 1 m.major ++ toLe 2 m.opcode ++ toLe 4 length ++ sub m.tag 0 8 ++ toLe 2 m.paddock
    ++ toLe 2 1 ++ toLe 1 status ++ toLe 1 detail ++ zeros 10

/-- The response stands in the buffer, BUSY is clear and DONE set, with its MSI-X message (R399). -/
def State.writeReply (s : State) (m : Mail) (r : Reply) : State :=
  let t := r.state
  let resp := replyHeader m r.status r.detail r.body.length ++ r.body
  let t := t.modBox m.box fun b => { b with buffer := overlay b.buffer resp, busy := false, done := true }
  t.eventBit m.box (s.box m.box).irqEn false true

/-- Whether a mailbox is served now: MBX0 by the boot ROM in AWAIT_FW and RECOVERY, MBX0–MBX2 by O7 (R354, R361, R378). -/
def State.serves (s : State) (box : Nat) : Bool :=
  if s.boot.stage == 6 || s.boot.stage == 14 then box == 0
  else 8 ≤ s.boot.stage && s.boot.stage ≤ 12 && s.awake && !s.restarting 7

/-- Execute the command in a mailbox's buffer. -/
def State.serveBox (s : State) (box : Nat) : State :=
  let m := Mail.parse box (s.box box).buffer
  let s := { s with host := { s.host with major := m.major } }
  let r := s.reply m
  let t := s.writeReply m r
  if m.opcode == 0x20 && r.status == St.ok then t.warmReset 2 else t

/-- Serve the doorbells that wait, in the order in which they were rung (R266, R354, R357). -/
def State.serveWaiting (s : State) : State :=
  let run := fun (t : State) (i : Nat) =>
    if t.host.doorbells.contains i && t.serves i then
      let t := { t with host := { t.host with doorbells := t.host.doorbells.filter (· != i) } }
      t.serveBox i
    else t
  s.host.doorbells.foldl run s

/-- A doorbell on MBX0–MBX2 (R356, R357, R376): BUSY, then the answer, at once or once the mailbox is served. -/
def State.ring (s : State) (box : Nat) : State :=
  if 2 < box then s
  else if (s.box box).busy then s.modBox box fun b => { b with rejected := true }
  else
    let s := s.modBox box fun b => { b with busy := true, done := false }
    let s := { s with host := { s.host with doorbells := s.host.doorbells ++ [box] } }
    (s.wake 2 0).serveWaiting

/-- Write a mailbox's buffer; refused while BUSY (R357). -/
def State.fillBox (s : State) (box : Nat) (bytes : Bytes) : State :=
  s.modBox box fun b => if b.busy then { b with rejected := true } else { b with buffer := overlay b.buffer (bytes.take 4096) }

/-- An exchange of one command: the request is written and the doorbell rung. After FW_START the doorbells of the other
mailboxes are served. -/
def State.exchange (s : State) (m : Mbx) (op : Nat) : Result :=
  if !s.bar0Open || le m.bytes 2 2 != op || s.boot.stage < 6 then .next s
  else s.finish (((s.fillBox m.box m.bytes).ring m.box).serveWaiting)

/-! ### The commands -/

/-- NODE_INFO. -/
def execNodeInfo (m : Mbx) (s : State) : Result := s.exchange m 0x01

/-- FW_LOAD (R352). -/
def execFwLoad (m : Mbx) (s : State) : Result := s.exchange m 0x02

/-- FW_START (R352). -/
def execFwStart (m : Mbx) (s : State) : Result := s.exchange m 0x03

/-- RIM_WRITE (R333). -/
def execRimWrite (m : Mbx) (s : State) : Result := s.exchange m 0x10

/-- RIM_COMMIT (R333). -/
def execRimCommit (m : Mbx) (s : State) : Result := s.exchange m 0x11

/-- RIM_REJECT (R335). -/
def execRimReject (m : Mbx) (s : State) : Result := s.exchange m 0x12

/-- RIM_STATUS. -/
def execRimStatus (m : Mbx) (s : State) : Result := s.exchange m 0x13

/-- WARM_RESET (R392). -/
def execWarmReset (m : Mbx) (s : State) : Result := s.exchange m 0x20

/-- OSTLER_RESTART (R353). -/
def execOstlerRestart (m : Mbx) (s : State) : Result := s.exchange m 0x21

/-- PORT_CTL with OP 0 (R368). -/
def execPortCtlDisable (m : Mbx) (s : State) : Result := if le m.bytes 33 1 == 0 then s.exchange m 0x22 else .next s

/-- PORT_CTL with another OP (R368). -/
def execPortCtlEnable (m : Mbx) (s : State) : Result := if le m.bytes 33 1 == 0 then .next s else s.exchange m 0x22

/-- SLICE_CTL with OP 0 (R368). -/
def execSliceCtlStop (m : Mbx) (s : State) : Result := if le m.bytes 33 1 == 0 then s.exchange m 0x23 else .next s

/-- SLICE_CTL with another OP (R368). -/
def execSliceCtlStart (m : Mbx) (s : State) : Result := if le m.bytes 33 1 == 0 then .next s else s.exchange m 0x23

/-- PADDOCK_CREATE (R298). -/
def execPaddockCreate (m : Mbx) (s : State) : Result := s.exchange m 0x30

/-- PADDOCK_TEARDOWN (R299). -/
def execPaddockTeardown (m : Mbx) (s : State) : Result := s.exchange m 0x31

/-- PADDOCK_QUERY (R285). -/
def execPaddockQuery (m : Mbx) (s : State) : Result := s.exchange m 0x32

/-- AUDIT_MODE (R318). -/
def execAuditMode (m : Mbx) (s : State) : Result := s.exchange m 0x33

/-- WINDOW_INSTALL (R225). -/
def execWindowInstall (m : Mbx) (s : State) : Result := s.exchange m 0x40

/-- WINDOW_REMOVE (R226). -/
def execWindowRemove (m : Mbx) (s : State) : Result := s.exchange m 0x41

/-- REGION_SET (R229). -/
def execRegionSet (m : Mbx) (s : State) : Result := s.exchange m 0x42

/-- WEIGHT_CREATE (R363). -/
def execWeightCreate (m : Mbx) (s : State) : Result := s.exchange m 0x50

/-- WEIGHT_COMMIT (R363). -/
def execWeightCommit (m : Mbx) (s : State) : Result := s.exchange m 0x51

/-- WEIGHT_REMOVE (R363). -/
def execWeightRemove (m : Mbx) (s : State) : Result := s.exchange m 0x52

/-- SCHED_SET (R265). -/
def execSchedSet (m : Mbx) (s : State) : Result := s.exchange m 0x60

/-- GCL_SET (R260). -/
def execGclSet (m : Mbx) (s : State) : Result := s.exchange m 0x61

/-- TALLY_SNAPSHOT (R297). -/
def execTallySnapshot (m : Mbx) (s : State) : Result := s.exchange m 0x70

/-- TALLY_FETCH (R297). -/
def execTallyFetch (m : Mbx) (s : State) : Result := s.exchange m 0x71

/-- LOG_READ (R367). -/
def execLogRead (m : Mbx) (s : State) : Result := s.exchange m 0x80

/-- HEALTH_READ. -/
def execHealthRead (m : Mbx) (s : State) : Result := s.exchange m 0x90

/-- POWER_SET (R382). -/
def execPowerSet (m : Mbx) (s : State) : Result := s.exchange m 0xA0

/-- NOTIFY_CLEAR (R364). -/
def execNotifyClear (s : State) : Result :=
  if s.bar0Open then .next (s.modBox 3 fun b => { b with notify := false }).postNotice else .next s

end Sys2Proof.Machine
end

