-- ==== Sys2Proof/Machine/Power.lean ====
section
/-! DEFINITION. Power and clocks: cluster states (R370, R371), N2 (R372–R378), DVFS (R381, R382), thermal thresholds
(R383, R425), and the end of an ostler's restart (R354). -/

namespace Sys2Proof.Machine

/-! ### Clusters (R370, R371) -/

/-- Whether a physical cluster holds no resident work unit. -/
def State.clusterIdle (s : State) (k : Cluster) : Bool :=
  match k.use with
  | .mapped l => !s.inUse (k.die, l)
  | .draining l => !s.inUse (k.die, l)
  | _ => true

/-- A physical cluster. -/
def State.physical (s : State) (die phys : Nat) : Option Cluster :=
  s.eng.clusters.find? fun k => k.die == die && k.phys == phys

/-- When a cluster has been idle for a time; now, where the model does not hold since when. -/
def Cluster.idleEnd (k : Cluster) (now limit : Nat) : Nat :=
  match k.idleAt with
  | none => now
  | some t => t + limit

/-- K1_IDLE_EXPIRY (R370). -/
def execK1IdleExpiry (die cluster : Nat) (s : State) : Result :=
  match s.physical die cluster with
  | none => .next s
  | some k =>
    if decide (k.k = .k0) && s.clusterIdle k then
      let t := s.advanceTo (k.idleEnd s.time s.img.power.k1Idle)
      .next (t.modCluster die cluster fun x => { x with k := .k1 })
    else .next s

/-- K2_IDLE_EXPIRY (R370): the entry into K2 begins. -/
def execK2IdleExpiry (die cluster : Nat) (s : State) : Result :=
  match s.physical die cluster with
  | none => .next s
  | some k =>
    if decide (k.k = .k1) && s.clusterIdle k then
      let t := s.advanceTo (k.idleEnd s.time s.img.power.k2Idle)
      .next (t.modCluster die cluster fun x => { x with k := .enteringK2 })
    else .next s

/-- K2_ENTRY_COMPLETE (R371): a work unit that arrived meanwhile is let out at once. -/
def execK2EntryComplete (die cluster : Nat) (s : State) : Result :=
  match s.physical die cluster with
  | none => .next s
  | some k =>
    if decide (k.k = .enteringK2) then
      .next (s.modCluster die cluster fun x => { x with k := if x.exitPending then .k0 else .k2, exitPending := false })
    else .next s

/-! ### N2 (R372–R378) -/

/-- N2_PERMITTED of PWR_STATE: an image is in force and permits it (R373). -/
def State.n2Permitted (s : State) : Bool :=
  s.img.loaded && s.img.power.n2Idle != 0 && s.img.slices.all (·.policy == 0) && !s.regs.n2Disable

/-- Whether nothing keeps the node out of N2 (R373). A packet that waits for its context keeps it out too (DESIGN
CHOICE, log 136). -/
def State.quiet (s : State) : Bool :=
  s.n2Permitted && s.ostlers.all (·.running) && s.eng.ops.isEmpty
    && (s.sch.scheds.all fun d => 16 ≤ d.id || d.queues.all fun q => q.items.isEmpty)
    && (s.maps.streams.all fun x => x.unacked.isEmpty && x.waiting.isEmpty && x.resync.isEmpty && x.resyncing.isEmpty)
    && s.net.miss.isEmpty && s.net.blocked.isEmpty && s.store.moves.isEmpty && s.leases.leases.isEmpty
    && s.pads.all (fun p => decide (p.state ≠ .teardown))
    && s.eng.clusters.all fun k =>
      match k.use with | .draining _ => false | .testing => false | .swapping _ => false | .rerun _ => false | _ => true

/-- Contexts that N2 pins: pair-window connections and those with the fabric manager (R378). -/
def State.pinOnEntry (s : State) : List Nat :=
  let pairs := s.maps.streams.filterMap fun (x : Stream) => x.qpn
  let mine := (s.net.qps.filter fun q =>
    q.works && ((q.window.bind fun w => s.window w.1).any fun w => decide (w.use = .pair) || decide (w.use = .fabricManager))).map
      fun (q : Qp) => q.qpn
  let fm := (s.net.qps.filter fun q => q.works && q.initiator && q.srcNode == s.boot.fmNode && s.boot.fmNode != 0).map
    fun (q : Qp) => q.qpn
  (pairs ++ mine ++ fm).eraseDups

/-- N2_IDLE_EXPIRY (R373): N2_IDLE after the last DATA packet and the last end of anything that R373 names, the entry
begins. -/
def execN2IdleExpiry (s : State) : Result :=
  if !s.awake || !s.quiet then .next s
  else
    let t := s.advanceTo (s.pwr.idleSince + s.img.power.n2Idle)
    let pins := t.pinOnEntry
    let t := pins.foldl (fun (u : State) q => if u.net.cached.contains q then u else u.cacheNew q) t
    .next { t with pwr := { t.pwr with state := .enteringN2, wakePending := none, pinned := pins, rnrSent := [] } }

/-- Timed duties of a connection: its timers, and the end of ERROR or QUARANTINE. -/
def Qp.duties (q : Qp) : List Nat :=
  let ends := match q.state with
    | .error => [q.stateUntil]
    | .quarantine => [q.stateUntil]
    | .draining => if q.tx.sentDisconnect then [q.stateUntil] else []
    | _ => []
  ends ++ q.tx.rtoAt.toList ++ q.tx.rnrUntil.toList ++ q.rx.ackAt.toList ++ q.rx.hole.toList

/-- The node's timed duties (R375): TTL deadlines of a primary, deadline reports of a mirror within 1 s (R308), close
retries, the next LBIST swap and spares that wait for an ID, the drain of an epoch, MIRROR_HOLD, probation, CONNECT
attempts and timers of connections. -/
def State.duties (s : State) : List Nat :=
  let p := s.img.service.lbistPeriod
  ((s.store.seqs.filter fun q => q.deadline != 0 && !q.mirrorCopy && !q.state.leaving).map fun (q : Seq) => q.deadline)
    ++ (if s.maps.deadlines.isEmpty then [] else [s.pwr.idleSince + 1000000000])
    ++ s.store.retries.map (·.2)
    ++ (if p == 0 then [] else [(s.time / p + 1) * p])
    ++ (s.eng.clusters.filterMap fun k => if decide (k.use = .spare true) then k.spareSince else none).map
      (fun x => x.2 + s.img.service.spareWait)
    ++ s.maps.epochs.drainEnd.toList ++ s.maps.streams.filterMap (·.holdUntil) ++ s.boot.probationEnd.toList
    ++ s.net.attempts.map (fun a => a.sentAt + 1000000) ++ (s.net.qps.map Qp.duties).flatten

/-- The timed duty that comes first. -/
def State.nextDuty (s : State) : Option Nat := minBy id s.duties

/-- N2_ENTRY_COMPLETE (R372, R373, R375): every cluster is in K2 and the alarm is set early enough for the exit; a wake
event of the entry starts the exit at once. -/
def execN2EntryComplete (s : State) : Result :=
  match s.pwr.state with
  | .enteringN2 =>
    let rest := fun (k : Cluster) => { k with k := .k2, exitPending := false }
    let alarm := s.nextDuty.map fun t => t - exitLeft 0
    let t := { s with
      eng := { s.eng with clusters := s.eng.clusters.map rest }
      pwr := { s.pwr with state := .n2, alarm := alarm } }
    .next (match s.pwr.wakePending with
      | none => t
      | some w => { t.beginExit w.1 w.2.1 with pwr := { (t.beginExit w.1 w.2.1).pwr with rnrSent := s.pwr.rnrSent } })
  | _ => .next s

/-- N2_WAKE (R376): a character is no wake event while the monitor is disabled (R422). -/
def execN2Wake (source port : Nat) (s : State) : Result :=
  if source == 0 || 7 < source || 7 < port || (source == 5 && s.regs.monitorDisable) then .next s else .next (s.wake source port)

/-- The node is back in N0 (R376, R378): the exit is counted, and what waited is served. -/
def State.reachN0 (s : State) : State :=
  let s := { s with pwr := { s.pwr with
    state := .n0, wakeCount := saturate 16 (s.pwr.wakeCount + 1), pinned := [], rnrSent := [], alarm := none
    idleSince := s.time } }
  s.serveWaiting

/-- When the step of the exit under way ends at the latest (R377). -/
def State.phaseEnd (s : State) (phase : Nat) : Nat := s.pwr.exitEnd - exitLeft (phase + 1)

/-- N2_EXIT_PHASE_READY (R377): regulators, PLLs, memory, logic, then transport, Ledger and admission; the clusters come
out in K1. The heat epoch restarts at MEM_RDY (R374). The QK4-A384 waits the fixed delay of each step. -/
def execN2ExitPhaseReady (s : State) : Result :=
  match s.pwr.state with
  | .exitingN2 phase =>
    let t := if s.fused.a768 then s else s.advanceTo (s.phaseEnd phase)
    if phase < 4 then
      let up := fun (k : Cluster) => if phase == 3 then { k with k := .k1 } else k
      let heat := if phase == 2 then t.store.heatSince.map fun _ => t.time else t.store.heatSince
      .next { t with
        store := { t.store with heatSince := heat }
        eng := { t.eng with clusters := t.eng.clusters.map up }
        pwr := { t.pwr with state := .exitingN2 (phase + 1), exitEnd := t.time + exitLeft (phase + 1) } }
    else s.finish t.reachN0
  | _ => .next s

/-- N2_EXIT_TIMEOUT (R377): Fatal; a step of the QK4-A768 by its maximum, the checks of the QK4-A384 after the last delay. -/
def execN2ExitTimeout (s : State) : Result :=
  match s.pwr.state with
  | .exitingN2 phase =>
    let late := if s.fused.a768 then s.phaseEnd phase else s.pwr.exitEnd
    s.finish ((s.advanceTo late).report (unnamed 13 3 0 0 0))
  | _ => .next s

/-- TIMEBASE_ALARM (R375). -/
def execTimebaseAlarm (s : State) : Result :=
  match s.pwr.state, s.pwr.alarm with
  | .n2, some t =>
    let u := s.advanceTo t
    .next ({ u with pwr := { u.pwr with alarm := none } }.wake 3 0)
  | _, _ => .next s

/-! ### DVFS (R381, R382) -/

/-- The number of the lowest point. -/
def State.lowestPoint (s : State) : Nat := s.img.power.points.length - 1

/-- Move every unpinned group that a test selects: one point down, to no lower than `floor`, or one up, to no higher than
POWER_SET allowed. -/
def State.stepPoints (s : State) (sel : Nat → Bool) (down : Bool) (floor : Nat) : State :=
  let move := fun (g : Nat) =>
    let p := s.pwr.points.getD g 0
    if s.pinnedGroup g || !sel g then p
    else if down then (if p < floor then p + 1 else p)
    else max (s.pwr.ceilings.getD g 0) (p - 1)
  { s with pwr := { s.pwr with points := (List.range 16).map move } }

/-- POWER_AVERAGE_TICK (R382): while O6 restarts the points hold (R354). -/
def execPowerAverageTick (deciWatts : Nat) (s : State) : Result :=
  let t := { s with pwr := { s.pwr with average := deciWatts } }
  if s.restarting 6 then .next t
  else if s.pwr.limit * 10 < deciWatts then .next (t.stepPoints (fun g => !t.pwr.forced.getD (g / 8) false) true t.lowestPoint)
  else if deciWatts * 100 ≤ s.pwr.limit * 10 * 97 then
    .next (t.stepPoints (fun g => !t.pwr.forced.getD (g / 8) false && !t.pwr.throttle.getD (g / 8) false) false 0)
  else .next t

/-! ### Thermal thresholds (R383, R424, R425) -/

/-- A reading of a die's hottest sensor; THROTTLE follows T_THROTTLE, with its event on entry, and a crossing wakes the
node (R376). -/
def State.readTemp (s : State) (die : Nat) (t : Int) : State :=
  let was := s.pwr.throttle.getD die false
  let hot := decide (s.img.power.tThrottle ≤ t) && decide (die < 2)
  let old := s.pwr.throttleEvt
  let s := { s with pwr := { s.pwr with
    temps := updateAt die (fun _ => t) s.pwr.temps, throttle := updateAt die (fun _ => hot) s.pwr.throttle
    throttleEvt := old || (hot && !was) } }
  let s := s.eventBit 6 s.pwr.irqEn old s.pwr.throttleEvt
  if hot && !was then s.wake 6 0 else s

/-- THROTTLE_STEP_TIMER (R383): a group that is lower than THROTTLE_FLOOR for another reason stays there. -/
def execThrottleStepTimer (die : Nat) (deciC : Int) (s : State) : Result :=
  let t := s.readTemp die deciC
  let mine := fun (g : Nat) => g / 8 == die && !t.pwr.forced.getD die false
  if 1 < die then .next t
  else if s.img.power.tThrottle ≤ deciC then .next (t.stepPoints mine true s.img.power.throttleFloor)
  else if deciC < s.img.power.tThrottle - 30 then .next (t.stepPoints mine false 0)
  else .next t

/-- T_EMERG_CROSS (R383): every group of the die to the lowest point, pinned or not. -/
def execTEmergCross (die : Nat) (deciC : Int) (s : State) : Result :=
  if 1 < die || deciC < s.img.power.tEmerg || s.pwr.forced.getD die false then .next (s.readTemp die deciC)
  else
    let t := s.readTemp die deciC
    let old := t.pwr.emergEvt
    let low := fun (g : Nat) => if g / 8 == die then s.lowestPoint else t.pwr.points.getD g 0
    let t := { t with pwr := { t.pwr with
      points := (List.range 16).map low, forced := updateAt die (fun _ => true) t.pwr.forced, emergEvt := true } }
    s.finish ((t.eventBit 6 t.pwr.irqEn old true).note ⟨2, 0, 0x6001, 0, 0, 0, 0, []⟩)

/-- T_EMERG_RELEASE (R383): below T_THROTTLE − 3 °C; pinned groups run at their clock again, the others rise by steps. -/
def execTEmergRelease (die : Nat) (deciC : Int) (s : State) : Result :=
  let t := s.readTemp die deciC
  if 1 < die || s.img.power.tThrottle - 30 ≤ deciC || !s.pwr.forced.getD die false then .next t
  else
    let back := fun (g : Nat) => if g / 8 == die && t.pinnedGroup g then t.img.firstPoint g else t.pwr.points.getD g 0
    .next { t with pwr := { t.pwr with
      points := (List.range 16).map back, forced := updateAt die (fun _ => false) t.pwr.forced } }

/-- T_TRIP_CROSS (R383, R425): a Fatal record, THERMTRIP_N low, and the phases off until the next power-good. -/
def execTTripCross (die : Nat) (deciC : Int) (s : State) : Result :=
  if 2 < die || deciC < 1050 || !s.power.pwrok then .next (s.readTemp die deciC)
  else
    let t := ((s.failProbation (Config.probationReason 0 % 256)).fatalEvent (unnamed 14 3 0 0 0)).coldReset 0
    .next { t with power := { t.power with thermtripN := false, held := true } }

/-! ### The end of a restart (R354) -/

/-- O5 handles what its queue held, in order, and logs the count of what was lost. -/
def State.drainErrors (s : State) : State :=
  let q := s.log.queue
  let lost := s.log.lostReports
  let s := { s with log := { s.log with queue := [], lostReports := 0 } }
  let s := q.foldl (fun t x => t.handleReport x.1 x.2) s
  if lost == 0 then s else s.note ⟨1, 7, 0x5006, 0, 5, 0, 0, toLe 8 lost⟩

/-- O2 reads the publication area afresh for a staging that was under way. -/
def State.restartStaging (s : State) : State :=
  match s.maps.epochs.staging with
  | none => s
  | some (e, _, _) =>
    let s := match s.maps.epochs.slotOf .staging with | none => s | some k => s.dropSlot k
    (s.modEpochs fun x => { x with staged := 0, staging := some (e, 128, []) }).askFm 0 1 2

/-- OSTLER_RESTART_COMPLETE (R353, R354). -/
def execOstlerRestartComplete (ostler : Nat) (s : State) : Result :=
  if !s.restarting ostler then .next s
  else
    let t := (s.startOstler ((s.boot.bundle.map (·.2)).getD []) ostler).stir
    let t := match ostler with
      | 5 => t.drainErrors
      | 2 => t.restartStaging
      | 3 => t.readReturned
      | 7 => (t.serveWaiting).postNotice
      | _ => t
    let f := t.function 3 ostler
    if f.reenable then
      let t := if f.shutting then t.functionDone 3 ostler 0 f.generation 0 else t
      let t := t.putFunction { f with generation := nextGen f.generation, shutting := false, reenable := false }
      s.finish (t.functionDone 3 ostler 0 (nextGen f.generation) 1)
    else s.finish t

end Sys2Proof.Machine
end

