-- ==== Sys2Proof/Machine/Registers.lean ====
section
/-! DEFINITION. BAR0 (chapter "Register reference"): what each register reads as, register pairs (R390), writes by access
code (R8, R389), debug requests (R289, R403), the Tally window (R401, R402), and the other outside interfaces: PCIe
configuration (R287), PLDM (R422) and JTAG (R288, R324). -/

namespace Sys2Proof.Machine

/-! ### Reading (R389, R390) -/

/-- STATE of PWR_STATE (R372): any cluster counts that is in service or can come into it. -/
def State.powerState (s : State) : Nat :=
  match s.pwr.state with
  | .n2 => 2
  | .exitingN2 _ => 2
  | _ =>
    let busy := s.eng.clusters.any fun k =>
      (match k.use with | .retired => false | .disabled => false | _ => true) && decide (k.k = .k0)
    if busy || !s.n2Permitted then 0 else 1

/-- Logical clusters in K0. -/
def State.activeClusters (s : State) : Nat :=
  (s.eng.clusters.filter fun k =>
    (match k.use with | .mapped _ => true | .draining _ => true | _ => false) && decide (k.k = .k0)).length

/-- A list of booleans as bits from 0 on. -/
def boolBits (bs : List Bool) : Nat := (bs.zip (List.range bs.length)).foldl (fun n b => n + flag b.1 * 2 ^ b.2) 0

/-- NODE_STAT. -/
def State.nodeStat (s : State) : Nat :=
  flag (s.boot.stage == 12) + 2 * s.health + 8 * flag s.boot.imageLock
    + 16 * flag (s.pads.any fun p => decide (p.state = .sealed) || p.sealedTeardown) + 32 * flag s.sec.permitted
    + 64 * flag (decide (s.sec.tdi = .run)) + 256 * flag s.net.ptpLocked + 512 * flag s.pwr.holdover
    + 65536 * (s.pads.filter fun p => p.id != 0 && decide (p.state ≠ .free)).length

/-- DVFS points of a die's groups (R400). -/
def State.pointWord (s : State) (die : Nat) : Nat :=
  sumNat ((List.range 8).map fun g => s.pwr.points.getD (die * 8 + g) 0 % 8 * 2 ^ (3 * g))

/-- PWR_THERM. -/
def State.thermWord (s : State) : Nat :=
  boolBits s.pwr.throttle + 4 * boolBits s.pwr.forced + 256 * flag s.pwr.throttleEvt + 512 * flag s.pwr.emergEvt
    + 65536 * flag s.pwr.irqEn

/-- BOOT_STAT. -/
def State.bootStat (s : State) : Nat :=
  s.boot.stage + 16 * s.boot.lastFail + 256 * s.boot.powerPhase + 2048 * s.boot.attempts + 65536 * s.boot.fwCause
    + 16777216 * s.boot.stacksStopped

/-- RIM_STAT. -/
def State.rimStat (s : State) : Nat :=
  s.boot.inForce + 256 * s.boot.rimReason + 65536 * (s.slot 0).state.code + 1048576 * (s.slot 1).state.code
    + 16777216 * flag s.boot.imageLock

/-- Whole seconds until PROBATION_TIME passes, rounded up. -/
def State.probationLeft (s : State) : Nat :=
  match s.boot.probationEnd with
  | none => 0
  | some t => min 65535 (ceilDiv (t - s.time) 1000000000)

/-- ERR_RETAINED. -/
def State.retainedWord (s : State) : Nat :=
  s.log.retained.length + 256 * flag (s.log.retained.any (·.severity == 3)) + 65536 * s.log.replaced

/-- SPARES and UNMAPPED bytes of the fault status line (R317). -/
def State.errHealth (s : State) : Nat :=
  s.health + 256 * (s.spares 0 % 16 + s.spares 1 % 16 * 16) + 65536 * (s.unmapped 0 % 16 + s.unmapped 1 % 16 * 16)

/-- DBG_STAT; BSCAN while no tenant paddock exists. -/
def State.dbgStat (s : State) : Nat :=
  flag s.sec.permitted + 2 * flag s.sec.sticky + 4 * flag s.sec.dbgBusy
    + 8 * flag (s.pads.all fun p => p.id == 0 || decide (p.state = .free)) + 16 * s.sec.dbgReason + 256 * flag s.sec.dbgChanged

/-- ALLOWED of DBG_POLICY. -/
def State.debugAllowed (s : State) : Bool := s.img.service.debugAllowed && !s.fused.debugOff

/-- A register of a mailbox, or a word of its buffer, at an offset within its 0x2000. -/
def State.boxWord (s : State) (n off : Nat) : Nat :=
  let b := s.box n
  if off < 0x1000 then le b.buffer off 4
  else
    match off with
    | 0x1004 => flag b.busy + 2 * flag b.done + 4 * flag b.rejected + 8 * flag (b.notify && n == 3)
    | 0x1008 => flag b.irqEn
    | 0x100C => 0x0201 + 65536 * flag (s.img.service.majors.contains 1) + 131072 * flag (s.img.service.majors.contains 2)
    | _ => 0

/-- The 64-bit value of a register pair by the offset of its _LO half (R390). -/
def State.pairValue (s : State) (off : Nat) : Option Nat :=
  if off == 0x1008 then some (s.time % 2 ^ 64)
  else if off == 0x50010 then some s.regs.tlyLatch.instant
  else if 0x50100 ≤ off && off ≤ 0x50148 && off % 8 == 0 then some (s.regs.tlyLatch.counters.getD ((off - 0x50100) / 8) 0)
  else none

/-- A 32-bit register that stands alone, by offset; reserved offsets read 0 (R7). -/
def State.plainWord (s : State) (off : Nat) : Nat :=
  match off with
  | 0x0 => 0x1F6E + 65536 * (if s.fused.a768 then 0x0A40 else 0x0A41)
  | 0x4 => s.fused.revision + 256 * s.fused.hbms.length
  | 0x10 => le s.fused.serial 0 4
  | 0x14 => le s.fused.serial 4 4
  | 0x18 => le s.fused.serial 8 4
  | 0x1C => le s.fused.serial 12 4
  | 0x20 => s.boot.nodeId + 65536 * flag s.boot.nodeValid
  | 0x24 => (s.boot.bundle.map (·.1)).getD 0
  | 0x1000 => s.nodeStat
  | 0x1004 => flag s.regs.n2Disable + 2 * flag s.regs.monitorDisable
  | 0x1024 => s.regs.resetCause + 65536 * s.regs.warmCount
  | 0x28000 => s.regs.msixPba
  | 0x30000 => s.powerState + 4 * flag s.n2Permitted + 256 * s.activeClusters
  | 0x30004 => s.pointWord 0
  | 0x30008 => s.pointWord 1
  | 0x30010 => s.pwr.wakeSource + 16 * s.pwr.wakePort + 65536 * s.pwr.wakeCount
  | 0x30014 => s.pwr.average % 65536 + 65536 * s.pwr.limit
  | 0x30018 => leNat (tempBytes (s.pwr.temps.getD 0 0) ++ tempBytes (s.pwr.temps.getD 1 0))
  | 0x30020 => s.thermWord
  | 0x30024 => boolBits s.pwr.refOk + 256 * boolBits s.pwr.refLost
  | 0x40000 => s.bootStat
  | 0x40004 => flag s.regs.stageIrqEn
  | 0x40010 => s.rimStat
  | 0x40014 => s.img.version
  | 0x40018 => s.img.securityEpoch % 128 + 256 * s.boot.floor + 65536 * 3
  | 0x4001C => s.probationLeft
  | 0x50000 => s.regs.tlySel
  | 0x50004 => 256 * flag s.regs.tlyIrqEn
  | 0x50008 => flag s.regs.tlyPending.isSome + 2 * flag s.regs.tlyDone + 4 * flag s.regs.tlyOverrun
  | 0x5000C => s.regs.tlyPaddock + 4096 * s.regs.tlyState
  | 0x50018 => s.regs.tlyLatch.generation
  | 0x60000 => s.log.summary
  | 0x60004 => s.log.irqEn
  | 0x60008 => (s.log.nextSeq - 1) % 2 ^ 32
  | 0x60010 => s.log.countCe
  | 0x60014 => s.log.countCt
  | 0x60018 => s.log.countUc
  | 0x6001C => s.log.countFt
  | 0x60020 => s.retainedWord
  | 0x60030 => s.errHealth
  | 0x60034 => bitMask s.maps.fault.stoppedSlices + 65536 * s.lostPorts
  | 0x70000 => flag s.shr.executing + 2 * flag s.shr.rxOverflow + 4 * flag s.shr.lineDiscarded + 8 * flag s.regs.monitorDisable
  | 0x70004 => s.shr.baud
  | 0x70008 => s.shr.okCount + 65536 * s.shr.errCount
  | 0x80000 => flag s.debugAllowed + 2 * flag s.fused.debugOff
  | 0x80008 => s.dbgStat
  | _ => 0

/-- The 32-bit word at a BAR0 offset. -/
def State.bar0Word (s : State) (off : Nat) : Nat :=
  if 0x10000 ≤ off && off < 0x18000 then s.boxWord ((off - 0x10000) / 0x2000) ((off - 0x10000) % 0x2000)
  else if 0x20000 ≤ off && off < 0x20080 then s.regs.msixTable.getD ((off - 0x20000) / 4) 0
  else
    match s.pairValue off with
    | some v => v % 2 ^ 32
    | none =>
      match s.regs.hiLatch with
      | some (o, v) => if o == off then v else
          (match s.pairValue (off - 4) with | some x => x / 2 ^ 32 | none => s.plainWord off)
      | none => match s.pairValue (off - 4) with | some x => x / 2 ^ 32 | none => s.plainWord off

/-- REGISTER_PAIR_LO_READ (R390): the upper half is latched for the next read of _HI. -/
def execRegisterPairLoRead (offset : Nat) (s : State) : Result :=
  match (s.pairValue offset).bind (s.bar0Reads offset) with
  | none => .next s
  | some v =>
    let t := { s with regs := { s.regs with hiLatch := some (offset + 4, v / 2 ^ 32) } }
    .next (t.emit (.bar0 (toLe 4 v)))

/-! ### Resets, debug, Tally -/

/-- RESET_CTL (R396). -/
def State.resetCtl (s : State) (value : Nat) : State := if bit value 8 && bits value 7 0 == 0x5A then s.warmReset 3 else s

/-- RESET_CTL_WARM. -/
def execResetCtlWarm (value : Nat) (s : State) : Result := if s.bar0Open then .next (s.resetCtl value) else .next s

/-- PERMITTED and REASON change; CHANGED and its event of vector 7 when they do. -/
def State.setDebug (s : State) (permitted : Bool) (reason : Nat) : State :=
  if s.sec.permitted == permitted && s.sec.dbgReason == reason then s
  else
    let old := s.sec.dbgChanged
    let s := { s with sec := { s.sec with permitted := permitted, dbgReason := reason, dbgChanged := true } }
    s.eventBit 7 s.regs.tlyIrqEn old true

/-- A debug request (R289, R403). -/
def State.requestDebug (s : State) : State :=
  if s.sec.dbgBusy then s.setDebug s.sec.permitted 5
  else if s.sec.permitted then s
  else if !s.debugAllowed then s.setDebug false 1
  else if s.pads.any fun p => decide (p.state = .sealed) then s.setDebug false 2
  else if s.pads.any (·.sealedTeardown) then s.setDebug false 3
  else { s with sec := { s.sec with dbgBusy := true } }

/-- A withdrawal; while a request is checked it waits for its end. The trace needs the permission. -/
def State.withdrawDebug (s : State) : State :=
  if s.sec.dbgBusy then { s with sec := { s.sec with withdrawPending := true } }
  else { s.setDebug false s.sec.dbgReason with shr := { s.shr with tracing := false } }

/-- DBG_CTL: REQUEST and WITHDRAW in one write are ignored. -/
def State.dbgCtl (s : State) (value : Nat) : State :=
  if bit value 0 && bit value 1 then s
  else if bit value 0 then s.requestDebug
  else if bit value 1 then s.withdrawDebug
  else s

/-- DBG_CTL_REQUEST (R403). -/
def execDbgCtlRequest (value : Nat) (s : State) : Result :=
  if s.bar0Open && bit value 0 then .next (s.dbgCtl value) else .next s

/-- DBG_CTL_WITHDRAW (R403). -/
def execDbgCtlWithdraw (value : Nat) (s : State) : Result :=
  if s.bar0Open && bit value 1 then .next (s.dbgCtl value) else .next s

/-- DEBUG_REQUEST_DONE (R289, R403, R404): every key slot and store entry is zeroised, PERMITTED and STICKY set. -/
def execDebugRequestDone (zeroised : Bool) (s : State) : Result :=
  if !s.sec.dbgBusy then .next s
  else
    let w := s.sec.withdrawPending
    let t := { s with sec := { s.sec with dbgBusy := false, withdrawPending := false } }
    let wipe := fun (p : Pad) => { p with ktp := [], kmem := [] }
    let t := { t with pads := t.pads.map wipe }
    if !zeroised then .next (t.setDebug false 4)
    else if w then .next t
    else .next ({ t with sec := { t.sec with sticky := true } }.setDebug true t.sec.dbgReason)

/-- A SNAP (R402). -/
def State.snap (s : State) : State :=
  if s.regs.tlyPending.isSome then { s with regs := { s.regs with tlyOverrun := true } }
  else { s with regs := { s.regs with tlyPending := some s.regs.tlySel } }

/-- IRQ_EN of vector 7: an enable with its event bit set sends one message (R399). -/
def State.setTlyIrq (s : State) (on : Bool) : State :=
  let fire := on && !s.regs.tlyIrqEn && (s.regs.tlyDone || s.sec.dbgChanged)
  let s := { s with regs := { s.regs with tlyIrqEn := on } }
  if fire then s.sendVector 7 else s

/-- TLY_CTL. -/
def State.tlyCtl (s : State) (value : Nat) : State :=
  let s := s.setTlyIrq (bit value 8)
  if bit value 0 then s.snap else s

/-- TLY_CTL_SNAP (R402). -/
def execTlyCtlSnap (value : Nat) (s : State) : Result :=
  if s.bar0Open && bit value 0 then .next (s.tlyCtl value) else .next s

/-- TALLY_LATCH (R402). -/
def execTallyLatch (s : State) : Result :=
  match s.regs.tlyPending with
  | none => .next s
  | some p =>
    let old := s.regs.tlyDone
    let t := { s with regs := { s.regs with
      tlyPending := none, tlyDone := true, tlyPaddock := p, tlyState := (s.pad p).state.code, tlyLatch := s.snapshot p } }
    .next (t.eventBit 7 t.regs.tlyIrqEn old true)

/-! ### Writing (R8, R389) -/

/-- Send vector `v` once where an enable comes on over a set event bit (R399). -/
def State.enableEvent (s : State) (v : Nat) (was on event : Bool) : State := if on && !was && event then s.sendVector v else s

/-- Write a register of a mailbox, or four bytes of its buffer. -/
def State.writeBoxWord (s : State) (n off value : Nat) : State :=
  if off < 0x1000 then
    s.modBox n fun b =>
      if b.busy then { b with rejected := true }
      else
        let b0 := b.buffer ++ zeros (off - b.buffer.length)
        { b with buffer := b0.take off ++ toLe 4 value ++ b0.drop (off + 4) }
  else
    match off with
    | 0x1000 => if bit value 0 then s.ring n else s
    | 0x1004 =>
      let s := s.modBox n fun b => { b with
        done := b.done && !bit value 1, rejected := b.rejected && !bit value 2, notify := b.notify && !bit value 3 }
      if n == 3 && bit value 3 then s.postNotice else s
    | 0x1008 =>
      let b := s.box n
      let s := s.modBox n fun x => { x with irqEn := bit value 0 }
      s.enableEvent n b.irqEn (bit value 0) (b.done || b.notify)
    | _ => s

/-- Write a word of the MSI-X table; unmasking a vector with its pending bit set sends it. -/
def State.writeMsix (s : State) (i value : Nat) : State :=
  let v := if i % 4 == 3 then value % 2 else if i % 4 == 0 then value / 4 * 4 else value % 2 ^ 32
  let s := { s with regs := { s.regs with msixTable := updateAt i (fun _ => v) s.regs.msixTable } }
  let k := i / 4
  if i % 4 == 3 && v == 0 && bit s.regs.msixPba k then
    { s with regs := { s.regs with msixPba := s.regs.msixPba - 2 ^ k } }.emit (.msix k)
  else s

/-- PWR_THERM: the events are cleared by 1, IRQ_EN is set. -/
def State.writeTherm (s : State) (value : Nat) : State :=
  let was := s.pwr.irqEn
  let s := { s with pwr := { s.pwr with
    throttleEvt := s.pwr.throttleEvt && !bit value 8, emergEvt := s.pwr.emergEvt && !bit value 9, irqEn := bit value 16 } }
  s.enableEvent 6 was (bit value 16) (s.pwr.throttleEvt || s.pwr.emergEvt || s.pwr.refLost.any id)

/-- ERR_CTL: one message for each event bit that comes under an enable. -/
def State.writeErrCtl (s : State) (value : Nat) : State :=
  let was := s.log.irqEn
  let s := { s with log := { s.log with irqEn := value % 32 } }
  (List.range 5).foldl (fun t i => t.enableEvent 4 (bit was i) (bit value i) (bit t.log.summary i)) s

/-- Clear the bits of `n` that `w` names, among the low `k`. -/
def clearBits (k n w : Nat) : Nat := sumNat ((List.range k).map fun i => if bit n i && !bit w i then 2 ^ i else 0)

/-- Write a 32-bit register that stands alone. -/
def State.writePlain (s : State) (off value : Nat) : State :=
  match off with
  | 0x1004 =>
    if s.boot.imageLock then s
    else { s with regs := { s.regs with n2Disable := bit value 0, monitorDisable := bit value 1 } }
  | 0x1020 => s.resetCtl value
  | 0x30020 => s.writeTherm value
  | 0x30024 =>
    let kept := fun (i : Nat) => s.pwr.refLost.getD i false && !bit value (8 + i)
    { s with pwr := { s.pwr with refLost := (List.range 4).map kept } }
  | 0x40004 => { s with regs := { s.regs with stageIrqEn := bit value 0 } }
  | 0x50000 => { s with regs := { s.regs with tlySel := value % 4096 } }
  | 0x50004 => s.tlyCtl value
  | 0x50008 =>
    { s with regs := { s.regs with tlyDone := s.regs.tlyDone && !bit value 1, tlyOverrun := s.regs.tlyOverrun && !bit value 2 } }
  | 0x60000 => { s with log := { s.log with summary := clearBits 5 s.log.summary value } }
  | 0x60004 => s.writeErrCtl value
  | 0x70000 =>
    { s with shr := { s.shr with
      rxOverflow := s.shr.rxOverflow && !bit value 1, lineDiscarded := s.shr.lineDiscarded && !bit value 2 } }
  | 0x80004 => s.dbgCtl value
  | 0x80008 => { s with sec := { s.sec with dbgChanged := s.sec.dbgChanged && !bit value 8 } }
  | _ => s

/-- One 32-bit write. -/
def State.writeWord (s : State) (off value : Nat) : State :=
  if 0x10000 ≤ off && off < 0x18000 then s.writeBoxWord ((off - 0x10000) / 0x2000) ((off - 0x10000) % 0x2000) value
  else if 0x20000 ≤ off && off < 0x20080 then s.writeMsix ((off - 0x20000) / 4) value
  else s.writePlain off value

/-- A narrower write, which only a message buffer takes. -/
def State.writeNarrow (s : State) (off size value : Nat) : State :=
  let n := (off - 0x10000) / 0x2000
  let o := (off - 0x10000) % 0x2000
  if 0x10000 ≤ off && off < 0x18000 && o < 0x1000 then
    s.modBox n fun b =>
      if b.busy then { b with rejected := true }
      else
        let b0 := b.buffer ++ zeros (o - b.buffer.length)
        { b with buffer := b0.take o ++ toLe size value ++ b0.drop (o + size) }
  else s

/-- REGISTER_WRITE (R8, R389): 64-bit writes are two 32-bit ones, the lower offset first; others must be aligned. -/
def execRegisterWrite (offset size value : Nat) (s : State) : Result :=
  if !s.bar0Answers offset || size == 0 || offset % size != 0 then .next s
  else if size == 4 then s.finish (s.writeWord offset (value % 2 ^ 32))
  else if size == 8 then s.finish ((s.writeWord offset (value % 2 ^ 32)).writeWord (offset + 4) (value / 2 ^ 32 % 2 ^ 32))
  else if size == 1 || size == 2 then .next (s.writeNarrow offset size value)
  else .next s

/-! ### PCIe configuration, IDE, PLDM, JTAG -/

/-- The TDI enters ERROR from the locked states (R287). -/
def State.tdiError (s : State) : State :=
  match s.sec.tdi with
  | .unlocked => s
  | _ => { s with sec := { s.sec with tdi := .error, bar0Shut := true } }

/-- CONFIGURATION_WRITE (R287, R340, R376): until ROM ends the answer is Configuration Request Retry Status. -/
def execConfigurationWrite (w : CfgWrite) (s : State) : Result :=
  if s.bar0Up && s.boot.stage == 2 then .next (s.emit .configRetry)
  else
  match w with
  | .setD0 => .next (s.wake 7 0)
  | .lockedRegister => .next s.tdiError
  | .other => .next s

/-- IDE_FAILURE (R287). -/
def execIdeFailure (s : State) : Result := .next s.tdiError

/-- The node's SMBus address, and its static I3C address, by the straps (R411). -/
def State.mgmtAddress (s : State) : Nat := 0x68 + s.power.mgmtId

/-- A PLDM answer on the bus that MGMT_SEL chooses, from the node's address. -/
def State.pldmFrame (s : State) (request : Nat) (b : Bytes) : Bytes :=
  Config.pldmFrame s.power.mgmtSel s.mgmtAddress request b

/-- Whether TEST_MODE was high at power-good: the node answers JTAG's IDCODE and BYPASS alone (R411). -/
def PowerUp.inTest (p : PowerUp) : Bool := p.testMode && p.powerGood

/-- PLDM_REQUEST (R411, R422): while VIN_1P8 is absent only the power state, BOOT_STAT and the retained log are answered;
the frames are those of the PLDM standard (log 6). -/
def execPldmRequest (p : Pldm) (s : State) : Result :=
  let say := fun (k : Nat) (b : Bytes) => s.emit (.pldm (s.pldmFrame k b))
  let on := s.power.pwrok && 8 ≤ s.boot.stage && s.boot.stage ≤ 12
  if !s.power.vaux || s.power.inTest then .next s
  else
    match p with
    | .powerState =>
      .next (say 0 (toLe 1 (flag s.power.powerGood + 2 * flag s.power.pwrok + 4 * flag s.power.held + 8 * flag s.power.thermtripN)))
    | .bootStat => .next (say 1 (toLe 4 s.bootStat))
    | .retainedLog => .next (say 2 (s.log.retained.map LogRec.bytes).flatten)
    | .health => if on then .next (say 3 (s.faultLine ++ (s.pwr.temps.map tempBytes).flatten)) else .next s
    | .power => if on then .next (say 4 (toLe 4 s.pwr.average)) else .next s

/-- What is cleared before the scan of a partition (R324): 0 cluster, 1 HBM controllers, 2 attention die, 3 transport,
4 Ledger, 6 base dies. -/
def State.clearPartition (s : State) (part : Nat) : State :=
  let clusters := fun (k : Cluster) => { k.cleared with use := k.use }
  let slots := fun (w : WeightSlot) => { w with content := none, loading := false }
  let keys := fun (p : Pad) => { p with kmem := [] }
  let store := fun (p : Pad) => { p with ktp := [] }
  let windows := fun (w : Window) => { w with key := [] }
  let streams := fun (x : Stream) => { x with key := [] }
  let qps := fun (q : Qp) => { q with keys := [], rx := { q.rx with msgs := [] } }
  let roots := fun (u : WorkUnit) => { u with rooted := false, roots := [] }
  let combiner := fun (o : Op) => { o with step := o.step.map fun w => { w with units := w.units.map roots, leaves := [] } }
  match part with
  | 0 => { s with eng := { s.eng with clusters := s.eng.clusters.map clusters } }
  | 1 => { s with pads := s.pads.map keys, store := { s.store with held := [] } }
  | 2 => { s with
      eng := { s.eng with sharedKtb := [], descCache := [], ops := s.eng.ops.map combiner }
      store := { s.store with weightSlots := s.store.weightSlots.map slots, roots := [] } }
  | 3 => { s with
      pads := s.pads.map store
      maps := { s.maps with windows := s.maps.windows.map windows, streams := s.maps.streams.map streams }
      net := { s.net with qps := s.net.qps.map qps, cached := [], miss := [], blocked := [], fetches := [] }
      mem := s.mem.filter fun c => !(landingBase ≤ c.1 && c.1 < landingBase + 33554432) }
  | 4 => { s with maps := { s.maps with ledger := [] } }
  | 6 => { s with leases := { s.leases with cores := [], fenceRecords := [] } }
  | _ => s

/-- JTAG_INSTRUCTION (R288, R324, R411, R422): a partition is cleared before its scan, and again when it returns to
service. -/
def execJtagInstruction (j : Jtag) (s : State) : Result :=
  let back : State := match s.sec.jtag with | .internalScan p => s.clearPartition p | _ => s
  let off := s.power.testMode || !s.power.powerGood
  let free := s.pads.all fun p => p.id == 0 || decide (p.state = .free)
  let select := fun (t : State) (code : Nat) => ({ t with sec := { t.sec with jtag := j } }.emit (.jtag code))
  match j with
  | .idcode => .next (select back 0)
  | .bypass => .next (select back 1)
  | .boundaryScan => if off || !free then .next s else .next (select back 2)
  | .internalScan p =>
    if off || !s.sec.permitted || p == 5 || 6 < p then .next s
    else
      let t := back.clearPartition p
      .next (select { t with sec := { t.sec with zeroised := (t.sec.zeroised ++ [p]).eraseDups } } 3)

end Sys2Proof.Machine
end

