-- ==== Sys2Proof/Machine/Sherun.lean ====
section
/-! DEFINITION. The Sherun monitor (R369): who serves a command, the answer "OK" or "ERR" with a status, and each
command's action. Each constructor is one complete line; the wording of answer lines is free (log 27). -/

namespace Sys2Proof.Machine

/-- Commands by number, for the text of their answers. -/
inductive SherunCmd where
  | help | ver | stage | health | log | tally | bistStatus | bistRun | baud | mr | mw | trace
deriving DecidableEq, Repr

/-- The number of a command. -/
def SherunCmd.num : SherunCmd → Nat
  | .help => 0
  | .ver => 1
  | .stage => 2
  | .health => 3
  | .log => 4
  | .tally => 5
  | .bistStatus => 6
  | .bistRun => 7
  | .baud => 8
  | .mr => 9
  | .mw => 10
  | .trace => 11

/-- What the boot ROM serves in AWAIT_FW and RECOVERY. -/
def SherunCmd.inRom : SherunCmd → Bool
  | .ver => true
  | .stage => true
  | .log => true
  | .baud => true
  | _ => false

/-- Whether the boot ROM serves the monitor: AWAIT_FW and RECOVERY. -/
def State.romMonitor (s : State) : Bool := s.boot.stage == 6 || s.boot.stage == 14

/-- Whether a received line is served at all: with the node running past its start's first stages, and the monitor not
disabled (R369, R394, R422). -/
def State.monitorListens (s : State) : Bool := s.power.pwrok && 6 ≤ s.boot.stage && !s.regs.monitorDisable

/-- A hexadecimal digit. -/
def hexDigit (n : Nat) : Byte := BitVec.ofNat 8 (if n % 16 < 10 then 48 + n % 16 else 55 + n % 16)

/-- A status code as text. -/
def statusText (code : Nat) : Bytes := [48, 120, hexDigit (code / 16), hexDigit code]

/-- Send an answer: its lines, "OK" or "ERR" with the code, the prompt (R369); the count of SHR_COUNT advances. -/
def State.sherunAnswer (s : State) (code : Nat) (lines : Bytes) : State :=
  let verdict := if code == 0 then ascii "OK" else ascii "ERR " ++ statusText code
  let shr := if code == 0 then { s.shr with okCount := (s.shr.okCount + 1) % 65536 }
    else { s.shr with errCount := (s.shr.errCount + 1) % 65536 }
  ({ s with shr := shr }).emit (.uart (lines ++ verdict ++ Config.sherunEol ++ ascii "shr> "))

/-- Serve a line: in N2 its characters wake the node (R376); the boot ROM refuses what it does not serve, with a status
that the manual does not give (log 27). -/
def State.sherun (s : State) (c : SherunCmd) (run : State → State) : State :=
  if !s.monitorListens then s
  else
    let t := s.wake 5 0
    if t.romMonitor && !c.inRom then t.sherunAnswer (1 + Config.sherunRefusal % 255) [] else run t

/-- The answer of a command that only reports values. -/
def State.sherunReport (s : State) (c : SherunCmd) (values : List Nat) : State :=
  s.sherunAnswer 0 (Config.sherunText c.num values)

/-- SHR_HELP. -/
def execShrHelp (s : State) : Result :=
  .next (s.sherun .help fun t => t.sherunReport .help [flag t.sec.permitted])

/-- SHR_VER: identity, revision, bundle and image versions. -/
def execShrVer (s : State) : Result :=
  .next (s.sherun .ver fun t =>
    t.sherunReport .ver [t.plainWord 0x0, t.plainWord 0x4, t.plainWord 0x24, t.plainWord 0x40014])

/-- SHR_STAGE: the stage and the last failure of BOOT_STAT. -/
def execShrStage (s : State) : Result :=
  .next (s.sherun .stage fun t => t.sherunReport .stage [t.boot.stage, t.boot.lastFail])

/-- SHR_HEALTH: the fault status line (R317), temperatures, power. -/
def execShrHealth (s : State) : Result :=
  .next (s.sherun .health fun t =>
    t.sherunReport .health (t.faultLine.map (·.toNat) ++ t.pwr.temps.map (fun x => (x % 65536).toNat) ++ [t.pwr.average]))

/-- SHR_LOG: the last n records, 16 by default, masked (R290). -/
def execShrLog (n : Option Nat) (s : State) : Result :=
  .next (s.sherun .log fun t =>
    let rs := t.log.records
    t.sherunReport .log (((rs.drop (rs.length - n.getD 16)).map fun r => r.bytes.map (·.toNat)).flatten))

/-- SHR_TALLY: a snapshot of a paddock in decimal; a number above 4,095 names none. -/
def execShrTally (paddock : Nat) (s : State) : Result :=
  .next (s.sherun .tally fun t =>
    if 4095 < paddock then t.sherunAnswer 0x05 []
    else
      let r := t.snapshot paddock
      t.sherunReport .tally (r.instant :: r.generation :: r.counters))

/-- What `bist status` says of a cluster: its last result, and whether it is under test. -/
def Cluster.bistState (k : Cluster) : Nat :=
  k.result + 4 * flag (match k.use with | .testing => true | .swapping _ => true | .rerun _ => true | _ => false)

/-- SHR_BIST_STATUS: the LBIST state of every physical cluster. -/
def execShrBistStatus (s : State) : Result :=
  .next (s.sherun .bistStatus fun t => t.sherunReport .bistStatus (t.eng.clusters.map Cluster.bistState))

/-- SHR_BIST_RUN: LBIST of a spare, or of a cluster out of use, which stays so; others draw 0x05. -/
def execShrBistRun (die cluster : Nat) (s : State) : Result :=
  .next (s.sherun .bistRun fun t =>
    let start := fun (u : ClusterUse) =>
      (t.modCluster die cluster fun x => { x.cleared with use := u }).sherunAnswer 0 []
    match t.eng.clusters.find? fun k => k.die == die && k.phys == cluster with
    | none => t.sherunAnswer 0x05 []
    | some k =>
      match k.use with
      | .spare _ => if k.spareSince.isNone then start .testing else t.sherunAnswer 0x05 []
      | .retired => start (.rerun false)
      | .disabled => start (.rerun true)
      | _ => t.sherunAnswer 0x05 [])

/-- Baud rates of the monitor. -/
def baudRates : List Nat := [115200, 230400, 460800, 921600, 1000000, 1500000, 2000000, 3000000]

/-- SHR_BAUD: the rate applies after the OK line. -/
def execShrBaud (rate : Nat) (s : State) : Result :=
  .next (s.sherun .baud fun t =>
    if baudRates.contains rate then
      let u := t.sherunAnswer 0 []
      { u with shr := { u.shr with baud := rate } }
    else t.sherunAnswer 0x05 [])

/-! ### Physical memory (R144, R145) -/

/-- First internal register (R144). -/
def internalBase : Nat := 0xF00000000000

/-- Whether R144 and R145 reserve an address. -/
def State.addressReserved (s : State) (a : Nat) : Bool :=
  if a < 0xC000000000 then !(s.fused.a768 || a / 2 ^ 36 % 6 < 3)
  else if 0x100000000000 ≤ a && a < 0x1C0000000000 then
    let p := (a - 0x100000000000) / 0x40000000000
    !(s.store.ports.any fun (x : Tier2Port) => x.port == p && x.present && a / 32768 - tier2Base p < x.count)
  else !(internalBase ≤ a && a < 2 ^ 48)

/-- Whether a place holds an address. -/
def Place.holds (p : Place) (a : Nat) : Bool := p.base ≤ a && a < p.base + p.bytes

/-! What lies in memory (R87–R106, R159): the objects that the model keeps decoded, as bytes. -/

/-- A closed block's bytes in its tier: its coding, encrypted in a sealed paddock, zero to the end of its last unit, then its
summary record. -/
def Block.image (b : Block) : Bytes :=
  sub (if b.cipher.isEmpty then b.stored else b.cipher) 0 b.place.bytes
    ++ sub b.summary 0 (b.summaryUnits * 512 * 2 ^ b.place.shift)

/-- A metadata object of a sequence as it is stored: sealed in a sealed paddock (R114). -/
def State.metaForm (s : State) (q : Seq) (version kind index : Nat) (content : Bytes) : Bytes :=
  if q.sealed then Config.gcmCipher (s.kmem q.paddock) (sealIv version kind index) content else content

/-- The heat array of a sealed sequence (R118). -/
def Seq.heatArray (q : Seq) : Bytes :=
  let heat := fun (i : Nat) =>
    ((q.entries.find? fun e => q.shape.entryIndex e.layer e.head e.block == i).map fun (e : Entry) => e.heat).getD 0
  (List.range q.shape.heatBytes).map fun i => BitVec.ofNat 8 (heat (2 * i) % 16 + heat (2 * i + 1) % 16 * 16)

/-- The metadata objects of a sequence, by address. -/
def State.metaImages (s : State) (q : Seq) : List (Nat × Bytes) :=
  (q.pages.map fun p =>
      (p.address, s.metaForm q p.version 3 p.index (if q.sealed then p.stored else s.pageBytes q p.index)))
    ++ ((List.range q.shape.l1Pages).map fun n =>
      (q.addresses.getD 0 0 + n * 4096, s.metaForm q q.seals.l1Version 4 n (q.l1PageBytes n)
        ++ sub (((q.l1.find? (·.index == n)).map fun (x : L1Page) => x.tag).getD []) 0 16))
    ++ [(q.addresses.getD 1 0, s.metaForm q q.seals.tailVersion 5 0 q.tailTableBytes)]
    ++ (if q.addresses.getD 2 0 == 0 then []
        else [(q.addresses.getD 2 0, s.metaForm q q.seals.prefixVersion 6 0 q.prefixPageBytes)])
    ++ (if q.sealed then [(q.addresses.getD 3 0, q.heatArray)] else [])

/-- A descriptor page by address (R88, R114). -/
def State.descImage (s : State) (p : DescPage) : Option (Nat × Bytes) :=
  (s.img.slices.find? fun c => c.descFirst ≤ p.page && p.page < c.descFirst + c.descCount).map fun c =>
    (s.descAddress c p.page,
      match s.store.roots.find? (·.page == p.page) with
      | some r =>
        if r.sealed then Config.gcmCipher (s.kmem r.paddock) (sealIv r.version 7 p.page) p.stored else s.descPageBytes p.page
      | none => s.descPageBytes p.page)

/-- Every object that the model keeps decoded, as (first byte, bytes). -/
def State.images (s : State) : List (Nat × Bytes) :=
  (s.store.blocks.map fun b => (b.place.base, b.image))
    ++ (s.store.seqs.map fun q => q.entries.filterMap fun (e : Entry) =>
      match e.slot with
      | .tail t => some (t.place.base, s.tailBytes q e.layer t)
      | .closed _ => none).flatten
    ++ (s.store.seqs.map s.metaImages).flatten ++ s.store.descPages.filterMap s.descImage
    ++ (s.store.weights.map fun w => ((w.base :: w.copies).map fun a => (a, w.header ++ w.bytes))).flatten

/-- Whether the bytes of an address are kept as they are stored: window memory and data frames. The other metadata, lost
ports and internal registers are not held as bytes (log 26). -/
def State.plainByte (s : State) (a : Nat) : Bool :=
  let window := s.maps.windows.any fun w => decide (w.state ≠ .free) && w.base ≤ a && a < w.base + w.length
  let tier1 := match s.sliceOfFrame (a / 32768) with
    | some c => c.kindOf (a / 32768) == 1
    | none => true
  let tier2 := s.store.ports.all fun (x : Tier2Port) => x.port != (a - 0x100000000000) / 0x40000000000 || !x.lost
  if a < 0xC000000000 then tier1 || window
  else if a < internalBase then tier2
  else landingBase ≤ a && a < landingBase + 33554432

/-- The closed block whose units hold an address. -/
def State.blockAt (s : State) (a : Nat) : Option Block := s.store.blocks.find? fun b => b.whole.holds a

/-- One byte at a physical address outside the ECC area; `draw` is what a free value is applied to. -/
def State.storedByte (s : State) (a draw : Nat) : Byte :=
  match s.images.find? fun x => x.1 ≤ a && a < x.1 + x.2.length with
  | some x => x.2.getD (a - x.1) 0
  | none => if s.plainByte a then Memory.read s.mem a else BitVec.ofNat 8 (Config.internalRegister a draw)

/-- The metadata word whose check byte an address holds, when it lies in a slice's ECC area (R147, R149). -/
def State.checkedWord (s : State) (a : Nat) : Option Nat := (s.sliceOfFrame (a / 32768)).bind fun c => c.checkedWord a

/-- The check byte that the code gives a metadata word (R149). -/
def State.codeOf (s : State) (word draw : Nat) : Nat :=
  Config.secded ((List.range 8).map fun i => s.storedByte (word + i) draw) % 256

/-- One byte at a physical address: a check byte is its word's code, but for what was written over it. -/
def State.physByte (s : State) (a draw : Nat) : Byte :=
  match s.checkedWord a with
  | none => s.storedByte a draw
  | some w => BitVec.ofNat 8 (Nat.xor (s.codeOf w draw) (((s.store.checkErrors.find? (·.1 == w)).map (·.2)).getD 0))

/-- A closed block with one byte of its units changed; beyond the stored bytes nothing reads what is written (log 26). -/
def Block.poke (b : Block) (off : Nat) (v : Byte) : Block :=
  if off < b.place.bytes then
    if b.cipher.isEmpty then { b with stored := b.stored.set off v } else { b with cipher := b.cipher.set off v }
  else { b with summary := b.summary.set (off - b.place.bytes) v }

/-- A check byte is written over: it differs from its word's code from now on, until the line is written with its check
bytes. -/
def State.writeCheck (s : State) (word : Nat) (v : Byte) : State :=
  let diff := Nat.xor (s.codeOf word s.rng) v.toNat
  let rest := s.store.checkErrors.filter (·.1 != word)
  { s with store := { s.store with checkErrors := if diff == 0 then rest else rest ++ [(word, diff)] } }

/-- Write one byte at a physical address. -/
def State.writePhys (s : State) (a : Nat) (v : Byte) : State :=
  match s.checkedWord a with
  | some w => s.writeCheck w v
  | none =>
  match s.blockAt a with
  | some b => s.modBlock b.num fun x => x.poke (a - x.place.base) v
  | none =>
    if s.images.any fun x => x.1 ≤ a && a < x.1 + x.2.length then s
    else if s.plainByte a then { s with mem := Memory.write s.mem a v }
    else s

/-- A 32-bit word at a physical address. -/
def State.physWord (s : State) (a draw : Nat) : Nat :=
  leNat ((List.range 4).map fun i => s.physByte (a + i) draw)

/-- Whether an access of `n` words touches a reserved address. -/
def State.wordsReserved (s : State) (a n : Nat) : Bool := (List.range (n * 4)).any fun i => s.addressReserved (a + i)

/-- Whether a line reaches the debug commands. -/
def State.debugServed (s : State) : Bool := s.monitorListens && !s.romMonitor && s.sec.permitted

/-- SHR_MR: n words at a physical address, while lowest-level debug is permitted, else 0x0A. A reserved address holds
nothing (R144, R145), and the manual says nothing of reading it. -/
def execShrMr (addr : Nat) (n : Option Nat) (s : State) : Result :=
  let k := n.getD Config.sherunWords
  if s.debugServed && s.wordsReserved addr k then .fault .reservedAddress
  else
    .next (s.sherun .mr fun t =>
      if t.sec.permitted then
        let u := { t with rng := t.rng + 1 }
        u.sherunReport .mr ((List.range k).map fun i => t.physWord (addr + 4 * i) t.rng)
      else t.sherunAnswer 0x0A [])

/-- SHR_MW: one word at a physical address, on the same condition. -/
def execShrMw (addr value : Nat) (s : State) : Result :=
  if s.debugServed && s.wordsReserved addr 1 then .fault .reservedAddress
  else
    .next (s.sherun .mw fun t =>
      if t.sec.permitted then
        let u := (toLe 4 value).zip (List.range 4) |>.foldl (fun (x : State) b => x.writePhys (addr + b.2) b.1) t
        u.sherunAnswer 0 []
      else t.sherunAnswer 0x0A [])

/-! ### The data-path trace -/

/-- A trace command, while lowest-level debug is permitted. -/
def State.sherunTrace (s : State) (run : State → State) : State :=
  s.sherun .trace fun t => if t.sec.permitted then run t else t.sherunAnswer 0x0A []

/-- SHR_TRACE_START. -/
def execShrTraceStart (s : State) : Result :=
  .next (s.sherunTrace fun t => ({ t with shr := { t.shr with tracing := true, trace := [] } }).sherunAnswer 0 [])

/-- The trace ends with what it has caught, which the manual does not describe (log 26). -/
def State.stopTrace (s : State) : State :=
  if s.shr.tracing then
    { s with rng := s.rng + 1, shr := { s.shr with tracing := false, trace := Config.traceData s.rng } }
  else s

/-- SHR_TRACE_STOP. -/
def execShrTraceStop (s : State) : Result := .next (s.sherunTrace fun t => t.stopTrace.sherunAnswer 0 [])

/-- SHR_TRACE_DUMP: what has been caught, while the trace runs or after it. -/
def execShrTraceDump (s : State) : Result :=
  .next (s.sherunTrace fun t =>
    let bytes := if t.shr.tracing then Config.traceData t.rng else t.shr.trace
    ({ t with rng := t.rng + 1 }).sherunReport .trace (bytes.map fun (x : Byte) => x.toNat))

/-- SHR_LONG_LINE: a line beyond 128 characters is discarded and answered "ERR 0x05"; a shorter one is no event of this
command (log 4). -/
def execShrLongLine (line : Bytes) (s : State) : Result :=
  if !s.monitorListens || line.length ≤ 128 then .next s
  else
    let t := s.wake 5 0
    .next (({ t with shr := { t.shr with lineDiscarded := true } }).sherunAnswer 0x05 [])

end Sys2Proof.Machine
end

