-- ==== Sys2Proof/Machine/Spdm.lean ====
section
/-! DEFINITION. Attestation and the tenant's commands (R273–R287): SPDM_TUNNEL, sessions, measurements, the
vendor-defined commands and TDISP. What the protocols' own standards fix of a message's bytes is open (log 6). -/

namespace Sys2Proof.Machine

/-- Whether O0 serves SPDM: while it restarts, sessions have ended and nothing is answered (R279, R354). -/
def State.spdmServes (s : State) : Bool := !s.restarting 0

/-- An SPDM_TUNNEL with a message of O0 on a connection (R280): the answer to the tunnel message that waits there, when one
does. -/
def State.tunnelSay (s : State) (qpn : Nat) (body : Bytes) : State :=
  match s.net.inbox.find? fun m => m.qpn == qpn && m.opcode == 0x70 with
  | some m => s.answer qpn m.msn 0x70 body
  | none => s.sendMsg qpn 0x70 6 body false none

/-- A message of O0 in a session, or outside one, on a path (R280): on GWT an SPDM_TUNNEL of the session's connection, secured
under the session's keys; on the other paths what the binding carries. -/
def State.spdmSay (s : State) (path qpn sess : Nat) (body : Bytes) : State :=
  if path == 2 then
    match s.sec.sessions.find? (·.id == sess) with
    | none => s.tunnelSay qpn body
    | some x => ({ s with rng := s.rng + 1 }).tunnelSay qpn (Config.securedMessage x.keys s.rng body)
  else s.emit (.spdm path sess body)

/-- SPDM_TUNNEL (R191, R280): one message, answered by one SPDM_TUNNEL on the same connection. -/
def execSpdmTunnel (m : Msg) (s : State) : Result :=
  match s.qp m.qpn with
  | none => .next s
  | some q =>
    if !q.works || !s.spdmServes then .next s
    else if !q.admits 0x70 then .next (s.nakFail m.qpn m.psn 0x01)
    else if 4096 < m.body.length then .next (s.nakFail m.qpn m.psn 0x02)
    else
      let body := Config.spdmAnswer 2 ((q.mgmtSession).getD 0) s.rng m.body
      .next (({ s with rng := s.rng + 1 }).answer m.qpn m.msn 0x70 body)

/-- Sessions that a path holds at once (R280). -/
def sessionLimit (path : Nat) : Nat := if path == 2 then 256 else 2

/-- KEY_EXCHANGE (R280–R282): a session opens while its path has one left; mutual authentication exists on the GWT path
alone. -/
def execKeyExchange (k : KeyExchange) (s : State) : Result :=
  let onConn := match s.qp k.qpn with | some q => q.service == 1 && q.works | none => false
  if !s.spdmServes || 2 < k.path || (k.path == 2 && !onConn) then .next s
  else if sessionLimit k.path ≤ (s.sec.sessions.filter (·.path == k.path)).length then
    .next (({ s with rng := s.rng + 1 }).spdmSay k.path k.qpn 0 (Config.spdmAnswer k.path 0 s.rng k.exchange))
  else
    let id := s.sec.nextSession
    let hash := if k.mutualAuth && k.path == 2 then Config.sha384 k.leafSpki else []
    let x : Session := ⟨id, k.path, k.qpn, hash, Config.exportSecret s.rng k.exchange,
      Config.sessionKeys s.rng k.exchange, 0⟩
    let t := { s with sec := { s.sec with sessions := s.sec.sessions ++ [x], nextSession := id + 1 } }
    let t := if k.path == 2 then t.modQp k.qpn fun q => { q with mgmtSession := some id } else t
    .next (({ t with rng := s.rng + 1 }).spdmSay k.path k.qpn 0 (Config.spdmAnswer k.path id s.rng k.exchange))

/-! ### Measurements (R284) -/

/-- The program components of a bundle (R351): those for targets 0xFE and 0xFF. -/
def bundlePrograms (b : Bytes) : Bytes :=
  ((List.range (le b 6 2)).map fun i =>
    let e := 64 + i * 64
    if 0xFE ≤ le b (e + 2) 1 then sub b (le b (e + 4) 4) (le b (e + 8) 4) else []).flatten

/-- The bytes of the image in force. -/
def State.imageBytes (s : State) : Bytes :=
  match s.boot.slots[s.boot.inForce]? with
  | none => []
  | some x => x.bytes.map (·.2)

/-- Content of a measurement index for a session. -/
def State.measurement (s : State) (x : Session) (index : Nat) : Bytes :=
  let bundle := (s.boot.bundle.map (·.2)).getD []
  match index with
  | 1 => Config.sha384 (Config.bootRom ++ s.fused.serial ++ toLe 1 s.fused.revision)
  | 2 => Config.sha384 bundle
  | 3 => Config.sha384 (bundlePrograms bundle)
  | 4 => Config.sha384 (s.imageBytes ++ toLe 4 s.img.version ++ toLe 1 s.boot.floor)
  | 5 => s.padRecord x.selected
  | 6 => toLe 4 (flag s.sec.sticky + 2 * flag s.sec.permitted + 4 * flag (decide (s.sec.tdi = .run)))
  | _ => []

/-- A measurement in the block format of DMTF (R284; PRESUMED, log 134): index, measurement specification 1, size, value
type with bit 7 for a raw bit stream, value size, value. -/
def dmtfBlock (index : Nat) (value : Bytes) : Bytes :=
  toLe 1 index ++ toLe 1 1 ++ toLe 2 (value.length + 3)
    ++ toLe 1 (128 * flag (index == 5 || index == 6) + Config.measurementType index % 128) ++ toLe 2 value.length ++ value

/-- A session by its ID. -/
def State.session (s : State) (id : Nat) : Option Session := s.sec.sessions.find? (·.id == id)

/-- GET_MEASUREMENTS (R281, R284): the indices asked for (0xFF: all six), signed with the requester's nonce. -/
def execGetMeasurements (sess index : Nat) (nonce : Bytes) (s : State) : Result :=
  match s.session sess with
  | none => .next s
  | some x =>
    if !s.spdmServes then .next s
    else
      let list := if index == 255 then [1, 2, 3, 4, 5, 6] else [index]
      let blocks := (list.map fun i => dmtfBlock i (s.measurement x i)).flatten
      .next (s.spdmSay x.path x.qpn sess (blocks ++ nonce ++ Config.ecdsaSign s.sec.deviceIdentity (blocks ++ nonce)))

/-! ### Vendor-defined commands (R282, R283) -/

/-- Paddock of a vendor-defined request. -/
def vendorPaddock (v : VendorReq) : Nat := be v.payload 1 2 % 4096

/-- Whether a session is tenant-authenticated for a paddock (R282). -/
def State.tenantOf (s : State) (x : Session) (p : Nat) : Bool :=
  !x.leafHash.isEmpty && p != 0 && x.leafHash == (s.pad p).config.keyHash

/-- The response: command byte, STATUS, then the body with OK. -/
def State.vendorSay (s : State) (x : Session) (cmd status : Nat) (body : Bytes) : State :=
  s.spdmSay x.path x.qpn x.id (toBe 1 cmd ++ toBe 1 status ++ (if status == St.ok then body else []))

/-- The session of a request that carries a command byte. -/
def State.vendorSession (s : State) (v : VendorReq) (cmd : Nat) : Option Session :=
  if be v.payload 0 1 == cmd && s.spdmServes then s.session v.sess else none

/-- SELECT_PADDOCK (R283, R284). -/
def execSelectPaddock (v : VendorReq) (s : State) : Result :=
  match s.vendorSession v 1 with
  | none => .next s
  | some x =>
    let p := vendorPaddock v
    if !s.tenantOf x p then .next (s.vendorSay x 1 St.denied [])
    else
      let pick := fun (y : Session) => { y with selected := p }
      let t := { s with sec := { s.sec with sessions := updateFirst (·.id == x.id) pick s.sec.sessions } }
      .next (t.vendorSay x 1 St.ok [])

/-- Whether a paddock holds a sequence, window, weight set or tail slot (R273). -/
def State.padHolds (s : State) (p : Nat) : Bool :=
  s.store.seqs.any (·.paddock == p) || s.maps.windows.any (fun w => w.localPaddock == p && decide (w.state ≠ .free))
    || s.store.weights.any (·.paddock == p)

/-- The status of SEAL (R273, R277, R300). -/
def State.sealStatus (s : State) (x : Session) (p : Nat) : Nat :=
  let st := (s.pad p).state
  if decide (st = .teardown) then St.busyTeardown
  else if x.path != 2 || !(decide (st = .awaitSeal) || decide (st = .open_)) then St.denied
  else if s.padHolds p then St.badParam
  else if !s.tenantOf x p || s.sec.permitted || s.sec.dbgBusy then St.denied
  else if !(s.pad p).kmem.isEmpty then St.quota
  else St.ok

/-- SEAL (R273, R276): K_tp and K_mem are derived, both dies' slots and the store entry are written, every cache
connection enters ERROR and the write counter starts at 1. -/
def execSeal (v : VendorReq) (s : State) : Result :=
  match s.vendorSession v 2 with
  | none => .next s
  | some x =>
    let p := vendorPaddock v
    let st := s.sealStatus x p
    if st != St.ok then .next (s.vendorSay x 2 st [])
    else
      let (nSeal, t) := s.draw 32
      let (rN, t) := t.draw 32
      let g := (s.pad p).generation
      let name := toBe 2 p ++ toBe 4 g
      let ktp := sub (Config.hkdfSha384 x.ems (sub v.payload 3 32 ++ sub nSeal 0 32)
        (ascii "QK4-TP" ++ name ++ toBe 2 s.boot.nodeId)) 0 32
      let kmem := sub (Config.hkdfSha384 x.ems (sub rN 0 32) (ascii "QK4-MEM" ++ name)) 0 32
      let conns := (t.net.qps.filter fun q => q.paddock == p && q.service == 0 && q.works).map (·.qpn)
      let t := conns.foldl (fun u q => u.failConn q) t
      let t := t.modPad p fun y => { y with state := .sealed, ktp := ktp, kmem := [kmem, kmem], writeCounter := 1 }
      .next (t.pairWindows.vendorSay x 2 St.ok (sub nSeal 0 32 ++ toBe 4 g))

/-- WINDOW_KEY (R277, R278): the key of the paddock's windows for a peer, and of the connections to that peer's. -/
def execWindowKey (v : VendorReq) (s : State) : Result :=
  match s.vendorSession v 3 with
  | none => .next s
  | some x =>
    let p := vendorPaddock v
    let peer := be v.payload 3 2
    let st := (s.pad p).state
    if decide (st = .teardown) then .next (s.vendorSay x 3 St.busyTeardown [])
    else if x.path != 2 || decide (st ≠ .sealed) || !s.tenantOf x p then .next (s.vendorSay x 3 St.denied [])
    else
      let key := sub v.payload 5 32
      let win := fun (w : Window) => if w.localPaddock == p && w.srcNode == peer then { w with key := key } else w
      let str := fun (y : Stream) => if y.paddock == p && y.partner == peer then { y with key := key } else y
      let t := { s with maps := { s.maps with windows := s.maps.windows.map win, streams := s.maps.streams.map str } }
      let lost := t.maps.streams.filter fun y => y.paddock == p && y.partner == peer && y.qpn.isNone
      let t := lost.foldl (fun u y => u.connectStream y.id) t
      .next (t.vendorSay x 3 St.ok [])

/-- TEARDOWN by the tenant of its sealed paddock (R277, R299, R300). -/
def execTeardown (v : VendorReq) (s : State) : Result :=
  match s.vendorSession v 4 with
  | none => .next s
  | some x =>
    let p := vendorPaddock v
    let sealed := decide ((s.pad p).state = .sealed) || decide ((s.pad p).state = .teardown)
    if x.path != 2 || !sealed || !s.tenantOf x p then .next (s.vendorSay x 4 St.denied [])
    else
      let g := (s.pad p).generation
      s.finish ((s.requestTeardown p).vendorSay x 4 St.ok (toBe 4 g))

/-- TALLY_READ (R283, R297). -/
def execTallyRead (v : VendorReq) (s : State) : Result :=
  match s.vendorSession v 5 with
  | none => .next s
  | some x =>
    let p := vendorPaddock v
    if !s.tenantOf x p then .next (s.vendorSay x 5 St.denied []) else .next (s.vendorSay x 5 St.ok (s.snapshot p).bytes)

/-! ### TDISP (R286, R287) -/

/-- Number of a request in the opaque answers. -/
def tdispCode : Tdisp → Nat
  | .getVersion => 0
  | .getCapabilities => 1
  | .getReport => 2
  | .getState => 3
  | .lockInterface => 4
  | .startInterface => 5
  | .stopInterface => 6

/-- Code of a TDI state. -/
def Tdi.code : Tdi → Nat
  | .unlocked => 0
  | .locked => 1
  | .run => 2
  | .error => 3

/-- The TDI state after a request. -/
def Tdi.after (d : Tdi) (t : Tdisp) : Tdi :=
  match t, d with
  | .lockInterface, .unlocked => .locked
  | .startInterface, .locked => .run
  | .stopInterface, _ => .unlocked
  | _, x => x

/-- TDISP_MESSAGE (R286): over SPDM on DOE. The device interface report names BAR0 as one range of 16 MiB and no DMA but MSI-X
writes. -/
def execTdispMessage (t : Tdisp) (s : State) : Result :=
  if !s.spdmServes then .next s
  else
    let next := s.sec.tdi.after t
    let u := { s with rng := s.rng + 1, sec := { s.sec with
      tdi := next, bar0Shut := s.sec.bar0Shut && decide (next ≠ Tdi.locked) } }
    let body := match t with
      | .getReport => Config.deviceReport s.rng [(0, 16777216)] false
      | _ => Config.tdispAnswer next.code (tdispCode t) s.rng
    .next (u.spdmSay 0 0 0 body)

end Sys2Proof.Machine
end

