-- ==== Sys2Proof/Machine/Dispatch.lean ====
section
/-! DEFINITION. exec: one arm per command, each one direct call of its meaning. -/

namespace Sys2Proof.Machine

/-- The effect of a command on everything but the queue of waiting commands. -/
def exec (i : Instr) (s : State) : Host.Outcome State Fault Refusal :=
  match i with
  | .step m => Sys2Proof.Machine.execStep m s
  | .append m => Sys2Proof.Machine.execAppend m s
  | .seqCreate m => Sys2Proof.Machine.execSeqCreate m s
  | .seqFork m => Sys2Proof.Machine.execSeqFork m s
  | .seqTruncate m => Sys2Proof.Machine.execSeqTruncate m s
  | .seqRelease m => Sys2Proof.Machine.execSeqRelease m s
  | .prefixLookup m => Sys2Proof.Machine.execPrefixLookup m s
  | .seqQuery m => Sys2Proof.Machine.execSeqQuery m s
  | .prefetch m => Sys2Proof.Machine.execPrefetch m s
  | .lread m => Sys2Proof.Machine.execLread m s
  | .lwrite m => Sys2Proof.Machine.execLwrite m s
  | .lwriteFinal m => Sys2Proof.Machine.execLwriteFinal m s
  | .lreadResponse m => Sys2Proof.Machine.execLreadResponse m s
  | .finalTakesEffect qpn psn => Sys2Proof.Machine.execFinalTakesEffect qpn psn s
  | .handover qpn psn => Sys2Proof.Machine.execHandover qpn psn s
  | .forceOwner qpn psn => Sys2Proof.Machine.execForceOwner qpn psn s
  | .epochStage qpn psn => Sys2Proof.Machine.execEpochStage qpn psn s
  | .epochPublish qpn psn => Sys2Proof.Machine.execEpochPublish qpn psn s
  | .drainEnd => Sys2Proof.Machine.execDrainEnd s
  | .clearingDone => Sys2Proof.Machine.execClearingDone s
  | .pairCommit qpn psn => Sys2Proof.Machine.execPairCommit qpn psn s
  | .pairCommitAck stream seq => Sys2Proof.Machine.execPairCommitAck stream seq s
  | .mirrorHoldExpiry stream => Sys2Proof.Machine.execMirrorHoldExpiry stream s
  | .deadlineReportTimer => Sys2Proof.Machine.execDeadlineReportTimer s
  | .hello c => Sys2Proof.Machine.execHello c s
  | .proof c => Sys2Proof.Machine.execProof c s
  | .challenge c => Sys2Proof.Machine.execChallenge c s
  | .accept c => Sys2Proof.Machine.execAccept c s
  | .refuse c => Sys2Proof.Machine.execRefuse c s
  | .connectResendTimeout initQpn => Sys2Proof.Machine.execConnectResendTimeout initQpn s
  | .windowTakeoverAccept window => Sys2Proof.Machine.execWindowTakeoverAccept window s
  | .disconnect m => Sys2Proof.Machine.execDisconnect m s
  | .disconnectAcked qpn => Sys2Proof.Machine.execDisconnectAcked qpn s
  | .spdmTunnel m => Sys2Proof.Machine.execSpdmTunnel m s
  | .keyExchange k => Sys2Proof.Machine.execKeyExchange k s
  | .getMeasurements sess index nonce => Sys2Proof.Machine.execGetMeasurements sess index nonce s
  | .selectPaddock v => Sys2Proof.Machine.execSelectPaddock v s
  | .seal v => Sys2Proof.Machine.execSeal v s
  | .windowKey v => Sys2Proof.Machine.execWindowKey v s
  | .teardown v => Sys2Proof.Machine.execTeardown v s
  | .tallyRead v => Sys2Proof.Machine.execTallyRead v s
  | .tdispMessage t => Sys2Proof.Machine.execTdispMessage t s
  | .dataPacket f => Sys2Proof.Machine.execDataPacket f s
  | .sprayedDataPacket f => Sys2Proof.Machine.execSprayedDataPacket f s
  | .ackReceive f => Sys2Proof.Machine.execAckReceive f s
  | .nakReceive f => Sys2Proof.Machine.execNakReceive f s
  | .rnrNakReceive f => Sys2Proof.Machine.execRnrNakReceive f s
  | .cnpReceive f => Sys2Proof.Machine.execCnpReceive f s
  | .rtoExpiry qpn => Sys2Proof.Machine.execRtoExpiry qpn s
  | .ackDelayExpiry qpn => Sys2Proof.Machine.execAckDelayExpiry qpn s
  | .holeTimerExpiry qpn => Sys2Proof.Machine.execHoleTimerExpiry qpn s
  | .rnrDelayExpiry qpn => Sys2Proof.Machine.execRnrDelayExpiry qpn s
  | .qpErrorHoldExpiry qpn => Sys2Proof.Machine.execQpErrorHoldExpiry qpn s
  | .qpnQuarantineExpiry qpn => Sys2Proof.Machine.execQpnQuarantineExpiry qpn s
  | .contextFetchDone qpn good => Sys2Proof.Machine.execContextFetchDone qpn good s
  | .contextWriteBackDone qpn => Sys2Proof.Machine.execContextWriteBackDone qpn s
  | .pfcFrameReceive link prio pause => Sys2Proof.Machine.execPfcFrameReceive link prio pause s
  | .linkDown link => Sys2Proof.Machine.execLinkDown link s
  | .linkUp link => Sys2Proof.Machine.execLinkUp link s
  | .lldpduReceive link chassis port => Sys2Proof.Machine.execLldpduReceive link chassis port s
  | .ptpMessage offsetNs locked => Sys2Proof.Machine.execPtpMessage offsetNs locked s
  | .egressServe link => Sys2Proof.Machine.execEgressServe link s
  | .admissionServe slice => Sys2Proof.Machine.execAdmissionServe slice s
  | .wheelSlotStart sched => Sys2Proof.Machine.execWheelSlotStart sched s
  | .gateEntryBoundary sched => Sys2Proof.Machine.execGateEntryBoundary sched s
  | .gclCycleStart sched lateNs => Sys2Proof.Machine.execGclCycleStart sched lateNs s
  | .starveTimeExpiry sched cls paddock => Sys2Proof.Machine.execStarveTimeExpiry sched cls paddock s
  | .frontDelayRelease slice => Sys2Proof.Machine.execFrontDelayRelease slice s
  | .outriderReadIssue die cluster => Sys2Proof.Machine.execOutriderReadIssue die cluster s
  | .walkFillDone die paddock seq page r => Sys2Proof.Machine.execWalkFillDone die paddock seq page r s
  | .blockReadDone op head block r => Sys2Proof.Machine.execBlockReadDone op head block r s
  | .subtreeRootDone op unit faulty => Sys2Proof.Machine.execSubtreeRootDone op unit faulty s
  | .stepEnd op faulty => Sys2Proof.Machine.execStepEnd op faulty s
  | .clusterFault die cluster => Sys2Proof.Machine.execClusterFault die cluster s
  | .weightSlotLoadDone die slot => Sys2Proof.Machine.execWeightSlotLoadDone die slot s
  | .blockClose b r => Sys2Proof.Machine.execBlockClose b r s
  | .closeRetryTimer b => Sys2Proof.Machine.execCloseRetryTimer b s
  | .deferredFree block => Sys2Proof.Machine.execDeferredFree block s
  | .ttlExpiry paddock seq => Sys2Proof.Machine.execTtlExpiry paddock seq s
  | .releaseRefZero desc => Sys2Proof.Machine.execReleaseRefZero desc s
  | .restoreComplete x => Sys2Proof.Machine.execRestoreComplete x s
  | .heatEpochSweep die => Sys2Proof.Machine.execHeatEpochSweep die s
  | .migrationMoveIssue slice => Sys2Proof.Machine.execMigrationMoveIssue slice s
  | .migrationMoveDone move r => Sys2Proof.Machine.execMigrationMoveDone move r s
  | .resyncBlockSend stream => Sys2Proof.Machine.execResyncBlockSend stream s
  | .tier2PortLost port => Sys2Proof.Machine.execTier2PortLost port s
  | .stackStop stack => Sys2Proof.Machine.execStackStop stack s
  | .stackTempReport stack hot => Sys2Proof.Machine.execStackTempReport stack hot s
  | .refreshDue stack pc => Sys2Proof.Machine.execRefreshDue stack pc s
  | .cxlEventRecord port record => Sys2Proof.Machine.execCxlEventRecord port record s
  | .leaseRequest r => Sys2Proof.Machine.execLeaseRequest r s
  | .leaseRoundTimer slice => Sys2Proof.Machine.execLeaseRoundTimer slice s
  | .leaseHandoverDone lease => Sys2Proof.Machine.execLeaseHandoverDone lease s
  | .leaseRefreshDue lease pc => Sys2Proof.Machine.execLeaseRefreshDue lease pc s
  | .fenceFault lease address => Sys2Proof.Machine.execFenceFault lease address s
  | .leaseExpiry lease nextFrame => Sys2Proof.Machine.execLeaseExpiry lease nextFrame s
  | .stallProgramDone lease r => Sys2Proof.Machine.execStallProgramDone lease r s
  | .leaseReturnDone lease => Sys2Proof.Machine.execLeaseReturnDone lease s
  | .lbistSwapTimer die => Sys2Proof.Machine.execLbistSwapTimer die s
  | .lbistDone die cluster pass => Sys2Proof.Machine.execLbistDone die cluster pass s
  | .spareWaitExpiry die cluster => Sys2Proof.Machine.execSpareWaitExpiry die cluster s
  | .windowFree window => Sys2Proof.Machine.execWindowFree window s
  | .teardownComplete paddock => Sys2Proof.Machine.execTeardownComplete paddock s
  | .tallyOccupancyTick => Sys2Proof.Machine.execTallyOccupancyTick s
  | .nodeInfo m => Sys2Proof.Machine.execNodeInfo m s
  | .fwLoad m => Sys2Proof.Machine.execFwLoad m s
  | .fwStart m => Sys2Proof.Machine.execFwStart m s
  | .rimWrite m => Sys2Proof.Machine.execRimWrite m s
  | .rimCommit m => Sys2Proof.Machine.execRimCommit m s
  | .rimReject m => Sys2Proof.Machine.execRimReject m s
  | .rimStatus m => Sys2Proof.Machine.execRimStatus m s
  | .warmReset m => Sys2Proof.Machine.execWarmReset m s
  | .ostlerRestart m => Sys2Proof.Machine.execOstlerRestart m s
  | .portCtlDisable m => Sys2Proof.Machine.execPortCtlDisable m s
  | .portCtlEnable m => Sys2Proof.Machine.execPortCtlEnable m s
  | .sliceCtlStop m => Sys2Proof.Machine.execSliceCtlStop m s
  | .sliceCtlStart m => Sys2Proof.Machine.execSliceCtlStart m s
  | .functionShutdownComplete kind id => Sys2Proof.Machine.execFunctionShutdownComplete kind id s
  | .portEgressDiscard link => Sys2Proof.Machine.execPortEgressDiscard link s
  | .paddockCreate m => Sys2Proof.Machine.execPaddockCreate m s
  | .paddockTeardown m => Sys2Proof.Machine.execPaddockTeardown m s
  | .paddockQuery m => Sys2Proof.Machine.execPaddockQuery m s
  | .auditMode m => Sys2Proof.Machine.execAuditMode m s
  | .windowInstall m => Sys2Proof.Machine.execWindowInstall m s
  | .windowRemove m => Sys2Proof.Machine.execWindowRemove m s
  | .regionSet m => Sys2Proof.Machine.execRegionSet m s
  | .weightCreate m => Sys2Proof.Machine.execWeightCreate m s
  | .weightCommit m => Sys2Proof.Machine.execWeightCommit m s
  | .weightRemove m => Sys2Proof.Machine.execWeightRemove m s
  | .schedSet m => Sys2Proof.Machine.execSchedSet m s
  | .gclSet m => Sys2Proof.Machine.execGclSet m s
  | .tallySnapshot m => Sys2Proof.Machine.execTallySnapshot m s
  | .tallyFetch m => Sys2Proof.Machine.execTallyFetch m s
  | .logRead m => Sys2Proof.Machine.execLogRead m s
  | .healthRead m => Sys2Proof.Machine.execHealthRead m s
  | .powerSet m => Sys2Proof.Machine.execPowerSet m s
  | .notifyClear => Sys2Proof.Machine.execNotifyClear s
  | .errorReport e => Sys2Proof.Machine.execErrorReport e s
  | .resetCtlWarm value => Sys2Proof.Machine.execResetCtlWarm value s
  | .dbgCtlRequest value => Sys2Proof.Machine.execDbgCtlRequest value s
  | .dbgCtlWithdraw value => Sys2Proof.Machine.execDbgCtlWithdraw value s
  | .debugRequestDone zeroised => Sys2Proof.Machine.execDebugRequestDone zeroised s
  | .tlyCtlSnap value => Sys2Proof.Machine.execTlyCtlSnap value s
  | .tallyLatch => Sys2Proof.Machine.execTallyLatch s
  | .registerPairLoRead offset => Sys2Proof.Machine.execRegisterPairLoRead offset s
  | .registerWrite offset size value => Sys2Proof.Machine.execRegisterWrite offset size value s
  | .vauxUp mgmtSel mgmtId testMode => Sys2Proof.Machine.execVauxUp mgmtSel mgmtId testMode s
  | .powerGood mgmtSel mgmtId testMode => Sys2Proof.Machine.execPowerGood mgmtSel mgmtId testMode s
  | .powerPhaseReady => Sys2Proof.Machine.execPowerPhaseReady s
  | .a384PhaseDelayEnd ivr osc logic sites => Sys2Proof.Machine.execA384PhaseDelayEnd ivr osc logic sites s
  | .powerPhaseTimeout => Sys2Proof.Machine.execPowerPhaseTimeout s
  | .powerRetryTimer => Sys2Proof.Machine.execPowerRetryTimer s
  | .powerGoodLoss => Sys2Proof.Machine.execPowerGoodLoss s
  | .nodeRstN lowNs => Sys2Proof.Machine.execNodeRstN lowNs s
  | .perst => Sys2Proof.Machine.execPerst s
  | .flr => Sys2Proof.Machine.execFlr s
  | .imageSelect => Sys2Proof.Machine.execImageSelect s
  | .bistStageDone failed0 failed1 => Sys2Proof.Machine.execBistStageDone failed0 failed1 s
  | .hbmTrainingDone stack => Sys2Proof.Machine.execHbmTrainingDone stack s
  | .hbmTrainingTimeout stack => Sys2Proof.Machine.execHbmTrainingTimeout stack s
  | .linkStageTimeout => Sys2Proof.Machine.execLinkStageTimeout s
  | .discoveryEnd => Sys2Proof.Machine.execDiscoveryEnd s
  | .beaconSlotTimer => Sys2Proof.Machine.execBeaconSlotTimer s
  | .joinTimeout => Sys2Proof.Machine.execJoinTimeout s
  | .joinReply reply => Sys2Proof.Machine.execJoinReply reply s
  | .probationTimeExpiry => Sys2Proof.Machine.execProbationTimeExpiry s
  | .probationServeExpiry => Sys2Proof.Machine.execProbationServeExpiry s
  | .refclkLoss ref => Sys2Proof.Machine.execRefclkLoss ref s
  | .refclkRestore ref => Sys2Proof.Machine.execRefclkRestore ref s
  | .k1IdleExpiry die cluster => Sys2Proof.Machine.execK1IdleExpiry die cluster s
  | .k2IdleExpiry die cluster => Sys2Proof.Machine.execK2IdleExpiry die cluster s
  | .n2IdleExpiry => Sys2Proof.Machine.execN2IdleExpiry s
  | .n2Wake source port => Sys2Proof.Machine.execN2Wake source port s
  | .n2ExitPhaseReady => Sys2Proof.Machine.execN2ExitPhaseReady s
  | .n2ExitTimeout => Sys2Proof.Machine.execN2ExitTimeout s
  | .timebaseAlarm => Sys2Proof.Machine.execTimebaseAlarm s
  | .powerAverageTick deciWatts => Sys2Proof.Machine.execPowerAverageTick deciWatts s
  | .throttleStepTimer die deciC => Sys2Proof.Machine.execThrottleStepTimer die deciC s
  | .tEmergCross die deciC => Sys2Proof.Machine.execTEmergCross die deciC s
  | .tTripCross die deciC => Sys2Proof.Machine.execTTripCross die deciC s
  | .watchdogExpiry ostler => Sys2Proof.Machine.execWatchdogExpiry ostler s
  | .protectionViolation ostler address => Sys2Proof.Machine.execProtectionViolation ostler address s
  | .shrHelp => Sys2Proof.Machine.execShrHelp s
  | .shrVer => Sys2Proof.Machine.execShrVer s
  | .shrStage => Sys2Proof.Machine.execShrStage s
  | .shrHealth => Sys2Proof.Machine.execShrHealth s
  | .shrLog n => Sys2Proof.Machine.execShrLog n s
  | .shrTally paddock => Sys2Proof.Machine.execShrTally paddock s
  | .shrBistStatus => Sys2Proof.Machine.execShrBistStatus s
  | .shrBistRun die cluster => Sys2Proof.Machine.execShrBistRun die cluster s
  | .shrBaud rate => Sys2Proof.Machine.execShrBaud rate s
  | .shrMr addr n => Sys2Proof.Machine.execShrMr addr n s
  | .shrMw addr value => Sys2Proof.Machine.execShrMw addr value s
  | .shrTraceStart => Sys2Proof.Machine.execShrTraceStart s
  | .shrTraceStop => Sys2Proof.Machine.execShrTraceStop s
  | .shrTraceDump => Sys2Proof.Machine.execShrTraceDump s
  | .tier2PortReturn port capacityFrames => Sys2Proof.Machine.execTier2PortReturn port capacityFrames s
  | .tEmergRelease die deciC => Sys2Proof.Machine.execTEmergRelease die deciC s
  | .n2EntryComplete => Sys2Proof.Machine.execN2EntryComplete s
  | .k2EntryComplete die cluster => Sys2Proof.Machine.execK2EntryComplete die cluster s
  | .ostlerRestartComplete ostler => Sys2Proof.Machine.execOstlerRestartComplete ostler s
  | .configurationWrite w => Sys2Proof.Machine.execConfigurationWrite w s
  | .ideFailure => Sys2Proof.Machine.execIdeFailure s
  | .pldmRequest p => Sys2Proof.Machine.execPldmRequest p s
  | .jtagInstruction j => Sys2Proof.Machine.execJtagInstruction j s
  | .vauxLoss => Sys2Proof.Machine.execVauxLoss s
  | .ppsPulse => Sys2Proof.Machine.execPpsPulse s
  | .shrLongLine line => Sys2Proof.Machine.execShrLongLine line s

end Sys2Proof.Machine
end

