-- ==== Sys2Proof/Safety.lean ====
section
/-! DEFINITION. What a safe run is, no step of it faulting or refused; and what it means that a command changes nothing but
the named fields of the state. -/

namespace Sys2Proof.Machine

/-- Whether the next step answers a next state. -/
def State.steps (s : State) : Bool :=
  match step s with
  | .next _ => true
  | .fault _ => false
  | .refused _ => false

/-- Whether `n` steps from a state all answer next states. -/
def State.safeFor : Nat → State → Bool
  | 0, _ => true
  | n + 1, s =>
    match step s with
    | .next t => State.safeFor n t
    | .fault _ => false
    | .refused _ => false

/-- The fields of the state that an operation may change. -/
structure Mask where
  out : Bool := false
  rng : Bool := false
  time : Bool := false
  farrier : Bool := false
  power : Bool := false
  boot : Bool := false
  img : Bool := false
  regs : Bool := false
  host : Bool := false
  log : Bool := false
  ostlers : Bool := false
  pads : Bool := false
  sec : Bool := false
  net : Bool := false
  maps : Bool := false
  store : Bool := false
  eng : Bool := false
  sch : Bool := false
  leases : Bool := false
  pwr : Bool := false
  shr : Bool := false
  mem : Bool := false
deriving DecidableEq, Repr

/-- A field that may change, or is unchanged. -/
def Kept {α : Type} (may : Bool) (a b : α) : Prop := may = true ∨ b = a

/-- `t` differs from `s` only in the fields of `m`; the waiting commands and the fuses stay, and memory keeps its canonical
form. -/
structure Same (m : Mask) (s t : State) : Prop where
  pending : t.pending = s.pending
  fused : t.fused = s.fused
  out : Kept m.out s.out t.out
  rng : Kept m.rng s.rng t.rng
  time : Kept m.time s.time t.time
  farrier : Kept m.farrier s.farrier t.farrier
  power : Kept m.power s.power t.power
  boot : Kept m.boot s.boot t.boot
  img : Kept m.img s.img t.img
  regs : Kept m.regs s.regs t.regs
  host : Kept m.host s.host t.host
  log : Kept m.log s.log t.log
  ostlers : Kept m.ostlers s.ostlers t.ostlers
  pads : Kept m.pads s.pads t.pads
  sec : Kept m.sec s.sec t.sec
  net : Kept m.net s.net t.net
  maps : Kept m.maps s.maps t.maps
  store : Kept m.store s.store t.store
  eng : Kept m.eng s.eng t.eng
  sch : Kept m.sch s.sch t.sch
  leases : Kept m.leases s.leases t.leases
  pwr : Kept m.pwr s.pwr t.pwr
  shr : Kept m.shr s.shr t.shr
  mem : Kept m.mem s.mem t.mem
  wf : Memory.wf s.mem = true → Memory.wf t.mem = true

/-- The fields of the state that each command may change: every other field of the state, and memory where `mem` is not
named, is as before. -/
def mayChange : Instr → Mask
  | .step _ | .append _ | .seqCreate _ | .seqFork _ | .seqTruncate _ | .seqRelease _ | .prefixLookup _ | .seqQuery _
  | .prefetch _ | .pairCommit _ _ | .pairCommitAck _ _ | .teardown _ | .admissionServe _ | .stepEnd _ _
  | .migrationMoveDone _ _ | .stackStop _ | .leaseReturnDone _ =>
    { out := true, rng := true, farrier := true, regs := true, host := true, log := true, pads := true, net := true,
      maps := true, store := true, eng := true, sch := true, leases := true, pwr := true }
  | .lread _ | .lwriteFinal _ | .proof _ | .disconnectAcked _ | .spdmTunnel _ =>
    { rng := true, net := true, maps := true, eng := true, sch := true, pwr := true }
  | .lwrite _ =>
    { rng := true, net := true, maps := true, store := true, eng := true, sch := true, pwr := true, mem := true }
  | .lreadResponse _ =>
    { out := true, rng := true, farrier := true, boot := true, regs := true, host := true, log := true, pads := true,
      net := true, maps := true, store := true, eng := true, sch := true, leases := true, pwr := true }
  | .finalTakesEffect _ _ =>
    { net := true, maps := true, store := true, sch := true, mem := true }
  | .handover _ _ =>
    { net := true, maps := true }
  | .forceOwner _ _ =>
    { rng := true, net := true, maps := true }
  | .epochStage _ _ | .accept _ | .refuse _ | .disconnect _ =>
    { rng := true, net := true, maps := true, sch := true }
  | .epochPublish _ _ | .clearingDone =>
    { out := true, rng := true, farrier := true, boot := true, regs := true, host := true, log := true, pads := true,
      net := true, maps := true, store := true, eng := true, sch := true, leases := true }
  | .drainEnd =>
    { out := true, rng := true, time := true, farrier := true, boot := true, regs := true, host := true, log := true,
      pads := true, net := true, maps := true, store := true, eng := true, sch := true, leases := true }
  | .mirrorHoldExpiry _ =>
    { out := true, rng := true, time := true, farrier := true, regs := true, host := true, log := true, pads := true,
      net := true, maps := true, store := true, eng := true, sch := true, leases := true, pwr := true }
  | .deadlineReportTimer =>
    { rng := true, net := true, maps := true, eng := true, sch := true }
  | .hello _ =>
    { net := true, sch := true, pwr := true }
  | .challenge _ | .linkDown _ =>
    { net := true, sch := true }
  | .connectResendTimeout _ =>
    { rng := true, time := true, net := true, maps := true, sch := true }
  | .windowTakeoverAccept _ =>
    { net := true, maps := true, sch := true }
  | .keyExchange _ | .selectPaddock _ | .tdispMessage _ =>
    { out := true, rng := true, sec := true, net := true, sch := true }
  | .getMeasurements _ _ _ | .tallyRead _ =>
    { out := true, rng := true, net := true, sch := true }
  | .seal _ =>
    { out := true, rng := true, pads := true, net := true, maps := true, store := true, eng := true, sch := true, pwr
      := true }
  | .windowKey _ =>
    { out := true, rng := true, net := true, maps := true, sch := true }
  | .dataPacket _ | .sprayedDataPacket _ | .ackReceive _ | .nakReceive _ | .rnrNakReceive _ | .cnpReceive _
  | .contextFetchDone _ _ =>
    { out := true, rng := true, pads := true, net := true, maps := true, eng := true, sch := true, pwr := true }
  | .rtoExpiry _ | .qpErrorHoldExpiry _ =>
    { rng := true, time := true, net := true, maps := true, eng := true, sch := true, pwr := true }
  | .ackDelayExpiry _ | .holeTimerExpiry _ | .rnrDelayExpiry _ | .ptpMessage _ _ =>
    { time := true, net := true, sch := true }
  | .qpnQuarantineExpiry _ =>
    { time := true, net := true }
  | .contextWriteBackDone _ =>
    { net := true }
  | .pfcFrameReceive _ _ _ =>
    { sch := true }
  | .linkUp _ =>
    { out := true, boot := true, regs := true, host := true, net := true, sch := true }
  | .lldpduReceive _ _ _ =>
    { out := true, regs := true, host := true, net := true }
  | .egressServe _ =>
    { out := true, pads := true, sch := true }
  | .wheelSlotStart _ | .starveTimeExpiry _ _ _ | .portEgressDiscard _ =>
    { time := true, sch := true }
  | .gateEntryBoundary _ =>
    { time := true, eng := true, sch := true }
  | .gclCycleStart _ _ =>
    { out := true, time := true, regs := true, host := true, log := true, maps := true, eng := true, sch := true }
  | .frontDelayRelease _ | .closeRetryTimer _ =>
    { out := true, rng := true, time := true, farrier := true, regs := true, host := true, log := true, pads := true,
      net := true, maps := true, store := true, eng := true, sch := true, leases := true }
  | .outriderReadIssue _ _ | .walkFillDone _ _ _ _ _ | .blockReadDone _ _ _ _ | .blockClose _ _ | .resyncBlockSend _ =>
    { out := true, rng := true, farrier := true, regs := true, host := true, log := true, pads := true, net := true,
      maps := true, store := true, eng := true, sch := true, leases := true }
  | .subtreeRootDone _ _ _ =>
    { out := true, rng := true, farrier := true, regs := true, host := true, log := true, maps := true, store := true,
      eng := true }
  | .clusterFault _ _ =>
    { farrier := true, maps := true, store := true, eng := true }
  | .weightSlotLoadDone _ _ =>
    { store := true, eng := true, sch := true }
  | .deferredFree _ | .stackTempReport _ _ | .leaseHandoverDone _ | .leaseRefreshDue _ _ =>
    { store := true, leases := true }
  | .ttlExpiry _ _ =>
    { rng := true, time := true, net := true, maps := true, store := true, eng := true, sch := true }
  | .releaseRefZero _ =>
    { store := true, eng := true, sch := true, leases := true }
  | .restoreComplete _ =>
    { rng := true, pads := true, maps := true, store := true, eng := true }
  | .heatEpochSweep _ =>
    { time := true, pads := true, store := true, eng := true }
  | .migrationMoveIssue _ =>
    { out := true, rng := true, farrier := true, regs := true, host := true, log := true, pads := true, net := true,
      maps := true, store := true, eng := true, sch := true, leases := true, mem := true }
  | .tier2PortLost _ =>
    { rng := true, pads := true, net := true, maps := true, store := true, eng := true, sch := true, leases := true,
      pwr := true }
  | .refreshDue _ _ =>
    { store := true }
  | .cxlEventRecord _ _ =>
    { out := true, rng := true, regs := true, host := true, log := true, pads := true, net := true, maps := true,
      store := true, eng := true, sch := true, leases := true, pwr := true }
  | .leaseRequest _ =>
    { out := true, regs := true, host := true, log := true, pads := true, net := true, maps := true, store := true,
      eng := true, sch := true, leases := true }
  | .leaseRoundTimer _ =>
    { out := true, time := true, regs := true, host := true, log := true, pads := true, net := true, maps := true,
      store := true, eng := true, sch := true, leases := true }
  | .fenceFault _ _ =>
    { out := true, rng := true, regs := true, host := true, log := true, maps := true, store := true, leases := true,
      mem := true }
  | .leaseExpiry _ _ =>
    { rng := true, time := true, store := true, leases := true, mem := true }
  | .stallProgramDone _ _ =>
    { store := true, leases := true, mem := true }
  | .lbistSwapTimer _ =>
    { out := true, regs := true, host := true, log := true, maps := true, eng := true }
  | .lbistDone _ _ _ =>
    { out := true, farrier := true, regs := true, host := true, log := true, maps := true, store := true, eng := true,
      pwr := true }
  | .spareWaitExpiry _ _ =>
    { time := true, maps := true, eng := true }
  | .windowFree _ =>
    { maps := true }
  | .teardownComplete _ =>
    { out := true, rng := true, regs := true, host := true, pads := true, net := true, maps := true, store := true,
      eng := true, sch := true, leases := true, pwr := true, mem := true }
  | .tallyOccupancyTick =>
    { pads := true }
  | .nodeInfo _ | .fwLoad _ | .fwStart _ | .rimWrite _ | .rimCommit _ | .rimReject _ | .rimStatus _ | .warmReset _
  | .ostlerRestart _ | .portCtlDisable _ | .portCtlEnable _ | .sliceCtlStop _ | .sliceCtlStart _ | .paddockCreate _
  | .paddockTeardown _ | .paddockQuery _ | .auditMode _ | .windowInstall _ | .windowRemove _ | .regionSet _
  | .weightCreate _ | .weightCommit _ | .weightRemove _ | .schedSet _ | .gclSet _ | .tallySnapshot _ | .tallyFetch _
  | .logRead _ | .healthRead _ | .powerSet _ | .errorReport _ | .registerWrite _ _ _ | .n2ExitPhaseReady
  | .watchdogExpiry _ | .protectionViolation _ _ | .ostlerRestartComplete _ =>
    { out := true, rng := true, time := true, farrier := true, boot := true, img := true, regs := true, host := true,
      log := true, ostlers := true, pads := true, sec := true, net := true, maps := true, store := true, eng := true,
      sch := true, leases := true, pwr := true, shr := true, mem := true }
  | .functionShutdownComplete _ _ =>
    { out := true, regs := true, host := true, net := true, sch := true }
  | .notifyClear =>
    { out := true, regs := true, host := true }
  | .resetCtlWarm _ =>
    { time := true, boot := true, img := true, regs := true, host := true, log := true, ostlers := true, pads := true,
      sec := true, net := true, maps := true, store := true, eng := true, sch := true, leases := true, pwr := true, shr
      := true, mem := true }
  | .dbgCtlRequest _ | .dbgCtlWithdraw _ =>
    { out := true, regs := true, sec := true, shr := true }
  | .debugRequestDone _ =>
    { out := true, regs := true, pads := true, sec := true }
  | .tlyCtlSnap _ | .tallyLatch | .registerPairLoRead _ =>
    { out := true, regs := true }
  | .vauxUp _ _ _ =>
    { power := true, regs := true, log := true }
  | .powerGood _ _ _ =>
    { out := true, power := true, boot := true, regs := true, host := true }
  | .powerPhaseReady =>
    { out := true, power := true, boot := true, regs := true, host := true, pwr := true }
  | .a384PhaseDelayEnd _ _ _ _ =>
    { out := true, time := true, power := true, boot := true, regs := true, host := true, log := true, pwr := true }
  | .powerPhaseTimeout =>
    { out := true, time := true, power := true, boot := true, regs := true, host := true, log := true }
  | .powerRetryTimer =>
    { out := true, time := true, power := true, boot := true, regs := true, host := true }
  | .powerGoodLoss | .nodeRstN _ | .vauxLoss =>
    { time := true, power := true, boot := true, img := true, regs := true, host := true, log := true, ostlers :=
      true, pads := true, sec := true, net := true, maps := true, store := true, eng := true, sch := true, leases :=
      true, pwr := true, shr := true, mem := true }
  | .perst | .flr =>
    { regs := true, host := true, log := true, sec := true, pwr := true }
  | .imageSelect =>
    { out := true, boot := true, img := true, regs := true, host := true, log := true, net := true, maps := true,
      store := true, sch := true, pwr := true }
  | .bistStageDone _ _ =>
    { out := true, farrier := true, boot := true, regs := true, host := true, log := true, maps := true, eng := true }
  | .hbmTrainingDone _ =>
    { out := true, farrier := true, boot := true, regs := true, host := true, store := true }
  | .hbmTrainingTimeout _ =>
    { out := true, rng := true, time := true, farrier := true, boot := true, regs := true, host := true, log := true,
      pads := true, net := true, maps := true, store := true, eng := true, sch := true, leases := true, pwr := true }
  | .linkStageTimeout =>
    { out := true, time := true, boot := true, regs := true, host := true, log := true, maps := true, sch := true }
  | .discoveryEnd | .probationTimeExpiry =>
    { out := true, time := true, boot := true, regs := true, host := true }
  | .beaconSlotTimer =>
    { rng := true, time := true, boot := true, sch := true }
  | .joinTimeout | .probationServeExpiry =>
    { out := true, time := true, boot := true, regs := true, host := true, log := true, maps := true }
  | .joinReply _ =>
    { out := true, rng := true, boot := true, regs := true, host := true, maps := true }
  | .refclkLoss _ =>
    { out := true, rng := true, time := true, boot := true, img := true, regs := true, host := true, log := true,
      ostlers := true, pads := true, sec := true, net := true, maps := true, store := true, eng := true, sch := true,
      leases := true, pwr := true, shr := true, mem := true }
  | .refclkRestore _ | .n2Wake _ _ | .powerAverageTick _ =>
    { pwr := true }
  | .k1IdleExpiry _ _ | .k2IdleExpiry _ _ =>
    { time := true, eng := true }
  | .n2IdleExpiry =>
    { time := true, net := true, pwr := true }
  | .n2ExitTimeout =>
    { out := true, time := true, boot := true, img := true, regs := true, host := true, log := true, ostlers := true,
      pads := true, sec := true, net := true, maps := true, store := true, eng := true, sch := true, leases := true, pwr
      := true, shr := true, mem := true }
  | .timebaseAlarm =>
    { time := true, pwr := true }
  | .throttleStepTimer _ _ | .tEmergRelease _ _ =>
    { out := true, regs := true, pwr := true }
  | .tEmergCross _ _ =>
    { out := true, regs := true, host := true, log := true, maps := true, pwr := true }
  | .tTripCross _ _ =>
    { out := true, time := true, power := true, boot := true, img := true, regs := true, host := true, log := true,
      ostlers := true, pads := true, sec := true, net := true, maps := true, store := true, eng := true, sch := true,
      leases := true, pwr := true, shr := true, mem := true }
  | .shrHelp | .shrVer | .shrStage | .shrHealth | .shrLog _ | .shrTally _ | .shrBistStatus | .shrBaud _
  | .shrTraceStart | .shrLongLine _ =>
    { out := true, pwr := true, shr := true }
  | .shrBistRun _ _ =>
    { out := true, eng := true, pwr := true, shr := true }
  | .shrMr _ _ | .shrTraceStop | .shrTraceDump =>
    { out := true, rng := true, pwr := true, shr := true }
  | .shrMw _ _ =>
    { out := true, store := true, pwr := true, shr := true, mem := true }
  | .tier2PortReturn _ _ =>
    { maps := true, store := true }
  | .n2EntryComplete =>
    { eng := true, pwr := true }
  | .k2EntryComplete _ _ =>
    { eng := true }
  | .configurationWrite _ =>
    { out := true, sec := true, pwr := true }
  | .ideFailure =>
    { sec := true }
  | .pldmRequest _ =>
    { out := true }
  | .jtagInstruction _ =>
    { out := true, pads := true, sec := true, net := true, maps := true, store := true, eng := true, leases := true,
      mem := true }
  | .ppsPulse =>
    { out := true, time := true }

end Sys2Proof.Machine
end

