-- ==== Sys2Proof/WellFormed.lean ====
section
/-! DEFINITION. Well-formed commands: every operand lies in the range that the field, pin or table of the manual gives
it. exec is total and does not ask for it; ranges only rule out commands that no sender can form. -/

namespace Sys2Proof

/-- 24-bit numbers (R187), a body of at most 67,108,864 bytes (R188). -/
def Msg.wf (m : Msg) : Bool :=
  decide (m.qpn < 2 ^ 24) && decide (m.msn < 2 ^ 24) && decide (m.psn < 2 ^ 24) && decide (m.opcode < 256)
    && decide (m.body.length ≤ 67108864)

/-- One of 32 links, a 3-bit priority, a 16-bit UDP port, a 32-byte header, a 16-byte tag or none. -/
def Frame.wf (f : Frame) : Bool :=
  decide (f.link < 32) && decide (f.pcp < 8) && decide (f.udpPort < 2 ^ 16) && f.head.length == 32
      && (f.tag.isEmpty || f.tag.length == 16)

/-- A body of 64 bytes. -/
def Connect.wf (c : Connect) : Bool := decide (c.qp < 2 ^ 24) && decide (c.version < 256) && c.body.length == 64

/-- One of four mailboxes and a message that its 4,096-byte buffer holds. -/
def Mbx.wf (m : Mbx) : Bool := decide (m.box < 4) && decide (m.bytes.length ≤ 4096)

/-- Ranges of R51 and R87. -/
def BlockRef.wf (b : BlockRef) : Bool :=
  decide (b.paddock < 4096) && decide (b.seq < 2 ^ 64) && decide (b.layer < 256) && decide (b.head < 128)
    && decide (b.block < 2 ^ 18)

/-- One of 12 stacks, pseudo-channels below 64. -/
def LeaseReq.wf (r : LeaseReq) : Bool :=
  decide (r.stack < 12) && r.pcs.all (decide <| · < 64) && decide (r.paddock < 4096)

/-- A severity of R365 and a 16-bit CODE. -/
def ErrRep.wf (e : ErrRep) : Bool := decide (e.severity < 4) && decide (e.code < 2 ^ 16) && decide (e.paddock < 4096)

/-- A 32-bit session. -/
def VendorReq.wf (v : VendorReq) : Bool := decide (v.sess < 2 ^ 32)

/-- A path of R282. -/
def KeyExchange.wf (k : KeyExchange) : Bool := decide (k.path < 3) && decide (k.qpn < 2 ^ 24)

/-- What a restoration may concern. -/
def Restored.wf : Restored → Bool
  | .block b => b.wf
  | .tail b => b.wf
  | .page paddock seq _ => decide (paddock < 4096) && decide (seq < 2 ^ 64)
  | .whole paddock seq => decide (paddock < 4096) && decide (seq < 2 ^ 64)

/-- A partition of R324. -/
def Jtag.wf : Jtag → Bool
  | .idcode => true
  | .bypass => true
  | .boundaryScan => true
  | .internalScan part => decide (part < 7)

/-- Whether a command is well formed. -/
def Instr.wellFormed : Instr → Bool
  | .step m => m.wf
  | .append m => m.wf
  | .seqCreate m => m.wf
  | .seqFork m => m.wf
  | .seqTruncate m => m.wf
  | .seqRelease m => m.wf
  | .prefixLookup m => m.wf
  | .seqQuery m => m.wf
  | .prefetch m => m.wf
  | .lread m => m.wf
  | .lwrite m => m.wf
  | .lwriteFinal m => m.wf
  | .lreadResponse m => m.wf
  | .finalTakesEffect qpn psn => decide (qpn < 2 ^ 24) && decide (psn < 2 ^ 24)
  | .handover qpn psn => decide (qpn < 2 ^ 24) && decide (psn < 2 ^ 24)
  | .forceOwner qpn psn => decide (qpn < 2 ^ 24) && decide (psn < 2 ^ 24)
  | .epochStage qpn psn => decide (qpn < 2 ^ 24) && decide (psn < 2 ^ 24)
  | .epochPublish qpn psn => decide (qpn < 2 ^ 24) && decide (psn < 2 ^ 24)
  | .drainEnd => true
  | .clearingDone => true
  | .pairCommit qpn psn => decide (qpn < 2 ^ 24) && decide (psn < 2 ^ 24)
  | .pairCommitAck _ seq => decide (seq < 2 ^ 32)
  | .mirrorHoldExpiry _ => true
  | .deadlineReportTimer => true
  | .hello c => c.wf
  | .proof c => c.wf
  | .challenge c => c.wf
  | .accept c => c.wf
  | .refuse c => c.wf
  | .connectResendTimeout initQpn => decide (initQpn < 2 ^ 24)
  | .windowTakeoverAccept window => decide (window < 2 ^ 16)
  | .disconnect m => m.wf
  | .disconnectAcked qpn => decide (qpn < 2 ^ 24)
  | .spdmTunnel m => m.wf
  | .keyExchange k => k.wf
  | .getMeasurements sess index nonce => decide (sess < 2 ^ 32) && decide (index < 256) && nonce.length == 32
  | .selectPaddock v => v.wf
  | .seal v => v.wf
  | .windowKey v => v.wf
  | .teardown v => v.wf
  | .tallyRead v => v.wf
  | .tdispMessage _ => true
  | .dataPacket f => f.wf
  | .sprayedDataPacket f => f.wf
  | .ackReceive f => f.wf
  | .nakReceive f => f.wf
  | .rnrNakReceive f => f.wf
  | .cnpReceive f => f.wf
  | .rtoExpiry qpn => decide (qpn < 2 ^ 24)
  | .ackDelayExpiry qpn => decide (qpn < 2 ^ 24)
  | .holeTimerExpiry qpn => decide (qpn < 2 ^ 24)
  | .rnrDelayExpiry qpn => decide (qpn < 2 ^ 24)
  | .qpErrorHoldExpiry qpn => decide (qpn < 2 ^ 24)
  | .qpnQuarantineExpiry qpn => decide (qpn < 2 ^ 24)
  | .contextFetchDone qpn _ => decide (qpn < 2 ^ 24)
  | .contextWriteBackDone qpn => decide (qpn < 2 ^ 24)
  | .pfcFrameReceive link prio _ => decide (link < 32) && decide (prio < 8)
  | .linkDown link => decide (link < 32)
  | .linkUp link => decide (link < 32)
  | .lldpduReceive link _ _ => decide (link < 32)
  | .ptpMessage _ _ => true
  | .egressServe link => decide (link < 32)
  | .admissionServe slice => decide (slice < 16)
  | .wheelSlotStart sched => decide (sched < 48)
  | .gateEntryBoundary sched => decide (sched < 48)
  | .gclCycleStart sched _ => decide (sched < 48)
  | .starveTimeExpiry sched cls paddock => decide (sched < 48) && decide (cls < 8) && decide (paddock < 4096)
  | .frontDelayRelease slice => decide (slice < 16)
  | .outriderReadIssue die cluster => decide (die < 2) && decide (cluster < 68)
  | .walkFillDone die paddock seq page _ => decide (die < 2) && decide (paddock < 4096) && decide (seq < 2 ^ 64) && decide (page < 2 ^ 24)
  | .blockReadDone _ _ _ _ => true
  | .subtreeRootDone _ _ _ => true
  | .stepEnd _ _ => true
  | .clusterFault die cluster => decide (die < 2) && decide (cluster < 68)
  | .weightSlotLoadDone die _ => decide (die < 2)
  | .blockClose b _ => b.wf
  | .closeRetryTimer b => b.wf
  | .deferredFree _ => true
  | .ttlExpiry paddock seq => decide (paddock < 4096) && decide (seq < 2 ^ 64)
  | .releaseRefZero desc => decide (desc < 2 ^ 32)
  | .restoreComplete x => x.wf
  | .heatEpochSweep die => decide (die < 2)
  | .migrationMoveIssue slice => decide (slice < 16)
  | .migrationMoveDone _ _ => true
  | .resyncBlockSend _ => true
  | .tier2PortLost port => decide (port < 8)
  | .stackStop stack => decide (stack < 12)
  | .stackTempReport stack _ => decide (stack < 12)
  | .refreshDue stack pc => decide (stack < 12) && decide (pc < 64)
  | .cxlEventRecord port _ => decide (port < 8)
  | .leaseRequest r => r.wf
  | .leaseRoundTimer slice => decide (slice < 16)
  | .leaseHandoverDone _ => true
  | .leaseRefreshDue _ pc => decide (pc < 64)
  | .fenceFault _ address => decide (address < 2 ^ 48)
  | .leaseExpiry _ _ => true
  | .stallProgramDone _ _ => true
  | .leaseReturnDone _ => true
  | .lbistSwapTimer die => decide (die < 2)
  | .lbistDone die cluster _ => decide (die < 2) && decide (cluster < 68)
  | .spareWaitExpiry die cluster => decide (die < 2) && decide (cluster < 68)
  | .windowFree window => decide (window < 2 ^ 16)
  | .teardownComplete paddock => decide (paddock < 4096)
  | .tallyOccupancyTick => true
  | .nodeInfo m => m.wf
  | .fwLoad m => m.wf
  | .fwStart m => m.wf
  | .rimWrite m => m.wf
  | .rimCommit m => m.wf
  | .rimReject m => m.wf
  | .rimStatus m => m.wf
  | .warmReset m => m.wf
  | .ostlerRestart m => m.wf
  | .portCtlDisable m => m.wf
  | .portCtlEnable m => m.wf
  | .sliceCtlStop m => m.wf
  | .sliceCtlStart m => m.wf
  | .functionShutdownComplete kind id => decide (kind < 16) && decide (id < 2 ^ 16)
  | .portEgressDiscard link => decide (link < 32)
  | .paddockCreate m => m.wf
  | .paddockTeardown m => m.wf
  | .paddockQuery m => m.wf
  | .auditMode m => m.wf
  | .windowInstall m => m.wf
  | .windowRemove m => m.wf
  | .regionSet m => m.wf
  | .weightCreate m => m.wf
  | .weightCommit m => m.wf
  | .weightRemove m => m.wf
  | .schedSet m => m.wf
  | .gclSet m => m.wf
  | .tallySnapshot m => m.wf
  | .tallyFetch m => m.wf
  | .logRead m => m.wf
  | .healthRead m => m.wf
  | .powerSet m => m.wf
  | .notifyClear => true
  | .errorReport e => e.wf
  | .resetCtlWarm value => decide (value < 2 ^ 32)
  | .dbgCtlRequest value => decide (value < 2 ^ 32)
  | .dbgCtlWithdraw value => decide (value < 2 ^ 32)
  | .debugRequestDone _ => true
  | .tlyCtlSnap value => decide (value < 2 ^ 32)
  | .tallyLatch => true
  | .registerPairLoRead offset => decide (offset < 2 ^ 20)
  | .registerWrite offset size value => decide (offset < 2 ^ 20) && [1, 2, 4, 8].contains size && decide (value < 2 ^ 64)
  | .vauxUp _ mgmtId _ => decide (mgmtId < 8)
  | .powerGood _ mgmtId _ => decide (mgmtId < 8)
  | .powerPhaseReady => true
  | .a384PhaseDelayEnd _ _ _ sites => decide (sites < 2 ^ 12)
  | .powerPhaseTimeout => true
  | .powerRetryTimer => true
  | .powerGoodLoss => true
  | .nodeRstN _ => true
  | .perst => true
  | .flr => true
  | .imageSelect => true
  | .bistStageDone failed0 failed1 => failed0.all (decide <| · < 68) && failed1.all (decide <| · < 68)
  | .hbmTrainingDone stack => decide (stack < 12)
  | .hbmTrainingTimeout stack => decide (stack < 12)
  | .linkStageTimeout => true
  | .discoveryEnd => true
  | .beaconSlotTimer => true
  | .joinTimeout => true
  | .joinReply _ => true
  | .probationTimeExpiry => true
  | .probationServeExpiry => true
  | .refclkLoss ref => decide (ref < 4)
  | .refclkRestore ref => decide (ref < 4)
  | .k1IdleExpiry die cluster => decide (die < 2) && decide (cluster < 68)
  | .k2IdleExpiry die cluster => decide (die < 2) && decide (cluster < 68)
  | .n2IdleExpiry => true
  | .n2Wake source port => decide (0 < source && source < 8) && decide (port < 8)
  | .n2ExitPhaseReady => true
  | .n2ExitTimeout => true
  | .timebaseAlarm => true
  | .powerAverageTick deciWatts => decide (deciWatts < 2 ^ 16)
  | .throttleStepTimer die _ => decide (die < 2)
  | .tEmergCross die _ => decide (die < 2)
  | .tTripCross die _ => decide (die < 3)
  | .watchdogExpiry ostler => decide (ostler < 8)
  | .protectionViolation ostler address => decide (ostler < 8) && decide (address < 2 ^ 48)
  | .shrHelp => true
  | .shrVer => true
  | .shrStage => true
  | .shrHealth => true
  | .shrLog _ => true
  | .shrTally _ => true
  | .shrBistStatus => true
  | .shrBistRun _ _ => true
  | .shrBaud _ => true
  | .shrMr addr _ => decide (addr < 2 ^ 48)
  | .shrMw addr value => decide (addr < 2 ^ 48) && decide (value < 2 ^ 32)
  | .shrTraceStart => true
  | .shrTraceStop => true
  | .shrTraceDump => true
  | .tier2PortReturn port _ => decide (port < 8)
  | .tEmergRelease die _ => decide (die < 2)
  | .n2EntryComplete => true
  | .k2EntryComplete die cluster => decide (die < 2) && decide (cluster < 68)
  | .ostlerRestartComplete ostler => decide (ostler < 8)
  | .configurationWrite _ => true
  | .ideFailure => true
  | .pldmRequest _ => true
  | .jtagInstruction j => j.wf
  | .vauxLoss => true
  | .ppsPulse => true
  | .shrLongLine line => decide (128 < line.length)

end Sys2Proof
end

