-- ==== Sys2Proof/Certificates/Slice0/Obligations.lean ====
section
/-! DEFINITION. The statements for the provers. Each claim formalises what its docstring's rules of the manual say of some
commands; the obligations at the end of the file join claims of one family. States that meet the claims' hypotheses stand in
the tests. -/

open Sys2Proof Sys2Proof.Machine

namespace Sys2Proof.Machine

/-- The command answers a next state of which `P` holds. -/
def Answers (r : Result) (P : State → Prop) : Prop := ∃ t, r = .next t ∧ P t

end Sys2Proof.Machine
namespace Sys2Proof
/-- The message and OPCODE of a request of the cache service. -/
def Instr.request : Instr → Option (Msg × Nat)
  | .step m => some (m, 1)
  | .append m => some (m, 2)
  | .seqCreate m => some (m, 3)
  | .seqFork m => some (m, 4)
  | .seqTruncate m => some (m, 5)
  | .seqRelease m => some (m, 6)
  | .prefixLookup m => some (m, 7)
  | .seqQuery m => some (m, 8)
  | .prefetch m => some (m, 9)
  | _ => none
end Sys2Proof

/-- One step runs the command at the front of the queue on the state that waits for the rest. -/
def Sys2Proof.Claims.StepRunsTheFrontCommand : Prop :=
  ∀ (c : Instr) (rest : List Instr) (s : State), s.pending = c :: rest → step s = exec c { s with pending := rest }

/-- With no command waiting the block idles and its timebase counts one ns (the model's choice, log 2). -/
def Sys2Proof.Claims.EmptyQueueCountsTheTimebase : Prop :=
  ∀ s : State, s.pending = [] → step s = .next { s with time := s.time + 1 }

/-- R23, R25, R247, R248, R252, R254: a cache request that passes every check, with no front-end time and no unfinished
mutation before it, becomes an operation that waits at the tail of its class's queue of its slice's scheduler at its cost;
until it is admitted it has no effect on what the node stores, but that a W_PROJ step's layer is now the last to arrive
(R140). `s1` is the state after the fetch of the descriptor that the request resolves to (R88, R119). -/
def Sys2Proof.Claims.RequestWaitsInItsAdmissionQueue : Prop :=
  ∀ (c : Instr) (m : Msg) (k : Nat) (s s1 : State) (r : Req) (q : Qp) (p : Plan) (d : Sched),
    c.request = some (m, k) → s.qp m.qpn = some q → q.state = .ready → q.admits k = true → 32 ≤ m.body.length →
    r = Req.parse { m with opcode := k } → s.frontDelay r = 0 → s.orderBusy r = false → s1 = s.fetchDescriptor (some q) r →
    s1.check q r = .ok p → s1.stepWaits r p.slice p.step = false →
    s1.sched p.slice = some d → (∀ o ∈ s1.eng.ops, o.id < s1.eng.nextOp) →
    Answers (exec c s) fun t =>
      (∃ o, t.op s1.eng.nextOp = some o ∧ o.req = r ∧ o.phase = .queued ∧ o.slice = p.slice) ∧
      (∃ d' x, t.sched p.slice = some d' ∧ d'.queue p.cls r.paddock = some x ∧
        x.items.getLast? = some (.op s1.eng.nextOp, p.cost)) ∧
      (p.step.bind (·.wProj) = none → t.store = s1.store) ∧
      (∀ w, p.step.bind (·.wProj) = some w → t.store = (s1.layerArrived r.paddock w.1 r.layer).store) ∧
      t.net = s1.net ∧ t.mem = s1.mem ∧ t.pads = s1.pads ∧ t.leases = s1.leases

/-- R28: a refused request leaves the sequences, the operations, the Tally and the leases as they were; only its answer is
sent. The failures that mark blocks lost, fetch a newer map or are logged are other effects (R119, R160, R244, R271). `s1` is
the state after the fetch of the descriptor that the request resolves to (R88, R119). -/
def Sys2Proof.Claims.RefusedRequestChangesNoState : Prop :=
  ∀ (c : Instr) (m : Msg) (k : Nat) (s s1 : State) (r : Req) (q : Qp) (e : CheckFail),
    c.request = some (m, k) → s.qp m.qpn = some q → q.state = .ready → q.admits k = true → 32 ≤ m.body.length →
    r = Req.parse { m with opcode := k } → s.frontDelay r = 0 → s.orderBusy r = false → s1 = s.fetchDescriptor (some q) r →
    s1.check q r = .error e → e.lost = [] → e.restore = [] → e.ahead = false → e.full = false → e.tag = none →
    Answers (exec c s) fun t =>
      t.store = s1.store ∧ t.eng = s1.eng ∧ t.pads = s1.pads ∧ t.leases = s1.leases ∧ t.mem = s1.mem ∧
      t.maps.windows = s1.maps.windows ∧ t.maps.ledger = s1.maps.ledger ∧ t.maps.streams = s1.maps.streams ∧
      t.maps.epochs = s1.maps.epochs ∧ t.time = s1.time

/-- The descriptor fetch of a request whose sequence is cached on every die of its slice changes the
descriptor caches alone, and SEQ_CREATE and PREFIX_LOOKUP fetch nothing (R88, R93). -/
def Sys2Proof.Claims.DescriptorFetchTouchesTheCachesOnly : Prop :=
  (∀ (s : State) (qp : Option Qp) (r : Req), r.opcode = 3 ∨ r.opcode = 7 → s.fetchDescriptor qp r = s) ∧
  ∀ (s : State) (q : Seq),
    (∀ c ∈ s.img.slices, ∀ die ∈ c.clusters.map (·.1), (⟨die, q.desc, q.paddock⟩ : DescLine) ∈ s.eng.descCache) →
    ∃ ls, s.useDescriptor q = { s with eng := { s.eng with descCache := ls } }

/-- A message too short for the operation header, or on a connection that does not admit its OPCODE, draws NAK 0x01, which
puts the connection into ERROR (R23, R189, R216). -/
def Sys2Proof.Claims.UnusableRequestPutsConnectionIntoError : Prop :=
  ∀ (c : Instr) (m : Msg) (k : Nat) (s : State) (q : Qp),
    c.request = some (m, k) → s.qp m.qpn = some q → q.state = .ready → (q.admits k = false ∨ m.body.length < 32) →
    Answers (exec c s) fun t =>
      (∃ x, t.qp m.qpn = some x ∧ x.state = .error) ∧ t.store = s.store ∧ t.pads = s.pads ∧ t.mem = s.mem

/-- R292, R293 and R29: the request of a slice whose front-end time ends first leaves the front end at its deadline; behind
an unfinished mutation of its sequence it is held. -/
def Sys2Proof.Claims.FrontDelayEndsInOrder : Prop :=
  ∀ (slice : Nat) (s : State) (o : Op) (at_ : Nat),
    o ∈ s.eng.ops → o.slice = slice → o.phase = .front at_ → (∀ x ∈ s.eng.ops, x.id < s.eng.nextOp) →
    (∀ x ∈ s.eng.ops, ∀ u, x ≠ o → x.slice = slice → x.phase = .front u → at_ < u) →
    Answers (exec (.frontDelayRelease slice) s) fun t =>
      t.time = max s.time at_ ∧ (∀ x ∈ t.eng.ops, x.id ≠ o.id) ∧
      ((∃ x ∈ s.eng.ops, x.id ≠ o.id ∧ x.req.mutates = true ∧ x.req.orderKey = o.req.orderKey ∧ x.phase = .admitted) →
        o.req.mutates = true →
        ∃ y, t.op s.eng.nextOp = some y ∧ y.req = o.req ∧ y.phase = .held)

/-- What a scheduler releases is checked again and, when it passes, admitted: it is charged and its sequence held (R29,
R89, R254). `s2` is the state after the fetch of the descriptor that the request resolves to (R88, R119). -/
def Sys2Proof.Claims.AdmissionHoldsAndCharges : Prop :=
  ∀ (slice : Nat) (s s1 s2 : State) (d d' d2 : Sched) (q : Queue) (i cost : Nat) (o : Op) (p : Plan),
    slice < 16 → (∀ o ∈ s.eng.ops, o.phase ≠ .held) → s.sched slice = some d →
    s.serve (s.regate (s.recost d)) = (d', .item q (.op i) cost) →
    s1 = (s.putSched d').chargeBridle d' q (cost * 1024) → s1.op i = some o → o.slice = slice → o.req.opcode = 1 →
    s2 = s1.fetchDescriptor (s1.qp o.req.qpn) o.req → s2.sched slice = some d2 →
    s2.recheck o.req = .ok p → p.effect = .none → s2.stepWaits o.req slice p.step = false →
    Answers (exec (.admissionServe slice) s) fun t =>
      (∃ y, t.op i = some y ∧ y.phase = .admitted ∧ y.cost = p.cost ∧ y.req = o.req) ∧
      (∃ x, t.sched slice = some x ∧ x.inUseOps = d2.inUseOps + 1 ∧ x.inUseUnits = d2.inUseUnits + p.cost) ∧
      (∀ k q0, p.desc = some k → s2.seqAt k = some q0 → ∃ q1, t.seqAt k = some q1 ∧ q1.ref = q0.ref + 1)

/-- What only reads needs no partner and is answered when it is admitted (R57, R59, R89, R254): no operation of it is left, its
charge is given back, its REF is dropped again, and the sequences and memory stand as they did. -/
def Sys2Proof.Claims.ReadsAreAnsweredAtAdmission : Prop :=
  ∀ (slice : Nat) (s s1 s2 : State) (d d' d2 : Sched) (q : Queue) (i cost : Nat) (o : Op) (p : Plan),
    slice < 16 → s.eng.ops = [o] → o.phase = .queued → s.sched slice = some d →
    s.serve (s.regate (s.recost d)) = (d', .item q (.op i) cost) →
    s1 = (s.putSched d').chargeBridle d' q (cost * 1024) → s1.op i = some o → o.slice = slice → o.discarded = false →
    s2 = s1.fetchDescriptor (s1.qp o.req.qpn) o.req → s2.eng.ops = [o] → s2.sched slice = some d2 →
    (o.req.opcode = 7 ∧ p.desc = none ∨ o.req.opcode = 8) → s2.recheck o.req = .ok p → p.effect = .none → p.step = none →
    Answers (exec (.admissionServe slice) s) fun t =>
      t.eng.ops = [] ∧ t.store.seqs = s2.store.seqs ∧ t.mem = s2.mem ∧
      ∃ x, t.sched slice = some x ∧ x.inUseOps = d2.inUseOps ∧ x.inUseUnits = d2.inUseUnits

/-- One queue is active, in one class. -/
def Sys2Proof.Machine.Sched.onlyQueue (d : Sched) (x : Queue) : Prop :=
  d.queues = [x] ∧ x.promoted = false ∧ x.visited = false ∧ x.wheelAt = none ∧
  (d.ring x.cls).order = [x.paddock] ∧ ∀ c, c ≠ x.cls → (d.ring c).order = []

/-- EGRESS_SERVE sends the head of the one active queue when its deficit and one QUANTUM cover it, its window holds it, its
class is not paused, and no bridle caps it; the queue, empty now, leaves its ring with a deficit of 0 (R248, R250, R252, R259).
Over a link that is down, or in the low-power idle of N2 (R372), nothing leaves. -/
def Sys2Proof.Claims.EgressSendsTheHeadFrame : Prop :=
  ∀ (link : Nat) (s : State) (l : Link) (d : Sched) (x : Queue) (f : OutFrame) (cost : Nat),
    s.net.links.find? (·.id == link) = some l → s.sched (16 + link) = some d → d.onlyQueue x →
    s.gateFits d x (.frame f) = true → x.items = [(.frame f, cost)] → x.cls < 8 → (cost : Int) ≤ x.deficit + (x.quantum : Int) →
    s.bridle d x.cls x.paddock = none → s.classPaused d x.cls = false →
    (l.up = false ∨ s.linkIdle link = true → exec (.egressServe link) s = .next s) ∧
    (l.up = true → s.linkIdle link = false → Answers (exec (.egressServe link) s) fun t =>
      t.out = s.out ++ [f.output link] ∧ (f.kind = .packet → f.output link = .frame link f.bytes) ∧
      (∃ d' x', t.sched (16 + link) = some d' ∧ d'.queue x.cls x.paddock = some x' ∧ x'.items = [] ∧ x'.deficit = 0 ∧
        (d'.ring x.cls).order = []) ∧
      (f.first = true → t.pad x.paddock = { s.pad x.paddock with
        counters := updateAt 5 (fun n => (n + f.wire) % 2 ^ 64) (s.pad x.paddock).counters }) ∧
      (f.first = false → t.pads = s.pads) ∧ t.net = s.net ∧ t.store = s.store ∧ t.mem = s.mem)

/-- Timing wheel and promotion: a due queue whose bridle has the credit and whose gate is open re-enters its ring with its
deficit unchanged (R252, R257); the starved queue that is first, of a share with no promotion under way, is promoted with one
added QUANTUM when the promotion bucket holds it, and not before (R262, R263). -/
def Sys2Proof.Claims.WheelAndPromotion : Prop :=
  (∀ (id : Nat) (s : State) (d : Sched) (q : Queue) (i : Item) (cost at_ : Nat) (rest : List (Item × Nat)),
    s.sched id = some d → (d.queues.map fun x => (x.cls, x.paddock)).Nodup → q ∈ d.queues → q.wheelAt = some at_ →
    (∀ x ∈ d.queues, ∀ u, x.wheelAt = some u → at_ ≤ u) → q.items = (i, cost) :: rest →
    d.rings.any (·.cls == q.cls) = true → ((s.advanceTo at_).gateLeft d q.cls q.paddock).isSome = true →
    (∀ b, s.bridle d q.cls q.paddock = some b → (b.at_ (max s.time at_)).wait (itemBytes cost i) = 0) →
    Answers (exec (.wheelSlotStart id) s) fun t =>
      t.time = max s.time at_ ∧ ∃ d' q', t.sched id = some d' ∧ d'.queue q.cls q.paddock = some q' ∧ q'.wheelAt = none ∧
        q'.deficit = q.deficit ∧ q'.items = q.items ∧ q.paddock ∈ (d'.ring q.cls).order) ∧
  (∀ (id cls paddock : Nat) (s s1 : State) (d : Sched) (q : Queue),
    s.sched id = some d → d.queue cls paddock = some q → paddock ∈ (d.ring cls).order → d.canStarve cls = true →
    q.promoted = false → q.counting = true → s1 = s.advanceTo (q.since + (d.starve - q.counted)) →
    s1.nextStarved d (s.shareKey d paddock) = some q →
    (∀ x ∈ d.queues, x.promoted = true → s.shareKey d x.paddock ≠ s.shareKey d paddock) →
    Answers (exec (.starveTimeExpiry id cls paddock) s) fun t =>
      t.time = s1.time ∧ ∃ d' q', t.sched id = some d' ∧ d'.queue cls paddock = some q' ∧ q'.items = q.items ∧
        d'.rings = d.rings ∧
        (((q.quantum * d.unitBytes : Nat) : Int) ≤ s1.bucketAt d (s.shareKey d paddock) →
          q'.promoted = true ∧ q'.deficit = q.deficit + (q.quantum : Int)) ∧
        (s1.bucketAt d (s.shareKey d paddock) < ((q.quantum * d.unitBytes : Nat) : Int) →
          q'.promoted = false ∧ q'.deficit = q.deficit))

/-- Gates: the next entry applies at its boundary (R258), and a cycle that starts late within CATCHUP_MAX is followed by
one of CYCLE − min(E, CYCLE / 8), from which E falls by that shortening at its end (R261). `l` is the lateness that counts:
none outside N0, whose stops are not late (R374). -/
def Sys2Proof.Claims.GatesAndCatchUp : Prop :=
  (∀ (id : Nat) (s : State) (d : Sched), s.sched id = some d → d.entry + 1 < d.gcl.length →
    Answers (exec (.gateEntryBoundary id) s) fun t =>
      t.time = max s.time (d.entryStart (d.entry + 1)) ∧
      ∃ d', t.sched id = some d' ∧ d'.entry = d.entry + 1 ∧ d'.gcl = d.gcl ∧ d'.cycleStart = d.cycleStart) ∧
  (∀ (id late l : Nat) (s : State) (d : Sched), s.sched id = some d → d.newGcl = none →
    (s.awake = true → l = late) → (s.awake = false → l = 0) → d.phaseErr - (d.cycle - d.length) + l ≤ d.catchupMax →
    Answers (exec (.gclCycleStart id late) s) fun t =>
      t.time = max s.time (d.cycleStart + d.length + l) ∧
      ∃ d', t.sched id = some d' ∧ d'.entry = 0 ∧ d'.cycleStart = d.cycleStart + d.length + l ∧
        d'.phaseErr = d.phaseErr - (d.cycle - d.length) + l ∧
        d'.length = d.cycle - min d'.phaseErr (d.cycle / 8) ∧ d'.gcl = d.gcl)

/-- The work unit of an operation, by index. -/
def Sys2Proof.Machine.State.unitOf (s : State) (op index : Nat) : Option WorkUnit :=
  (s.op op).bind fun o => o.step.bind fun w => w.units.find? (·.index == index)

/-- R93, R131: an Outrider issues the next read of its unit, in ascending block index, when the page is in its KTB and
verifies, fewer than 512 reads are outstanding and every receiving block area has room; with the page in no KTB nothing is
issued, and a page that is lost or does not verify ends the step (R119). While a lease has a pseudo-channel of it, the
controller holds the read (R167); a cluster that has not left K1 or K2 issues nothing (R371). -/
def Sys2Proof.Claims.OutriderIssuesReadsInBlockOrder : Prop :=
  ∀ (die cluster : Nat) (s : State) (k : Cluster) (o : Op) (w : StepWork) (u : WorkUnit) (b : Nat) (rest : List Nat) (e : KtbEntry),
    s.clusterOf die cluster = some k → s.ledUnits (die, cluster) = [(o, w, u)] → s.op o.id = some o → o.step = some w →
    w.units.find? (·.index == u.index) = some u → u.toIssue = b :: rest → u.outstanding.length < 512 →
    s.pageKey o u.head b = some e →
    (∀ c ∈ u.clusters, s.blockArea c + ceilDiv (w.readBytes u.head b) 512 ≤ 5120) →
    (k.k ≠ .k0 → exec (.outriderReadIssue die cluster) s = .next s) ∧
    (k.k = .k0 → k.ktb.contains e = true → s.pageStatus e = none → Answers (exec (.outriderReadIssue die cluster) s) fun t =>
      t.unitOf o.id u.index = some { u with toIssue := rest, outstanding := u.outstanding ++ [b] } ∧
      (s.mustHold (s.readChannels o w u.head b) = false → t.store = s.store) ∧
      (s.mustHold (s.readChannels o w u.head b) = true →
        ∃ h ∈ t.store.held, h.work = .read o.id u.run u.head b ∧ h.served = false) ∧
      t.store.seqs = s.store.seqs ∧ t.mem = s.mem ∧ t.pads = s.pads) ∧
    (k.k = .k0 → k.ktb.contains e = true → o.phase = .admitted → o.status = St.ok → ∀ status, s.pageStatus e = some status →
      Answers (exec (.outriderReadIssue die cluster) s) fun t =>
        ∃ o', t.op o.id = some o' ∧ o'.status = status ∧ ∀ w, o'.step = some w → w.units = []) ∧
    (k.ktb.contains e = false → s.eng.sharedKtb.contains (k.die, e) = false →
      exec (.outriderReadIssue die cluster) s = .next s)

/-- R93, R119: a walk whose L1 page and directory page verify fills the die's shared KTB; a lost page ends the steps that need
it with LOST_BLOCKS. It waits while a lease has a pseudo-channel of it (R167). -/
def Sys2Proof.Claims.WalkFillsTheSharedKtb : Prop :=
  ∀ (die paddock seq page : Nat) (s : State) (q : Seq) (y : DirPage),
    s.findSeq paddock seq = some q → q.pages.find? (·.index == page) = some y →
    (s.mustHold (s.walkChannels q y) = true → Answers (exec (.walkFillDone die paddock seq page .good) s) fun t =>
      (∃ h ∈ t.store.held, h.work = .walk die paddock seq page .good) ∧ t.store.seqs = s.store.seqs ∧ t.eng = s.eng) ∧
    (s.mustHold (s.walkChannels q y) = false → y.lost = false → s.l1Ok q (page / 127) = true → s.walkOk q y = true →
        Answers (exec (.walkFillDone die paddock seq page .good) s) fun t =>
      (die, ⟨paddock, q.desc, q.generation, page⟩) ∈ t.eng.sharedKtb ∧ t.eng.ops = s.eng.ops ∧ t.store = s.store) ∧
    (s.mustHold (s.walkChannels q y) = false → y.lost = true → Answers (exec (.walkFillDone die paddock seq page .good) s) fun t =>
      ∀ o, s.op o.id = some o → o.phase = .admitted → o.status = St.ok → s.needsPage q.desc page o = true →
        ∃ o', t.op o.id = some o' ∧ o'.status = St.lostBlocks ∧ ∀ w, o'.step = some w → w.units = [])

/-- R105, R119, R131, R167: a block that is not held and arrives whole and verifies has its leaves formed and counts one
access of its heat; one that does not ends the step with INTEGRITY. -/
def Sys2Proof.Claims.BlockReadFormsLeavesOrBreaksTheStep : Prop :=
  ∀ (op head block : Nat) (s : State) (o : Op) (w : StepWork) (u : WorkUnit),
    s.op op = some o → o.step = some w →
    w.units.find? (fun u => u.resident && u.head == head && u.outstanding.contains block) = some u →
    w.units.find? (·.index == u.index) = some u → w.scoring = [] → s.readLost o head block = false →
    s.heldBack (.read op u.run head block) = false →
    (s.readOk o head block = true → Answers (exec (.blockReadDone op head block .good) s) fun t =>
      t.unitOf op u.index = some { u with outstanding := u.outstanding.filter (· != block) } ∧
      (∃ o' w', t.op op = some o' ∧ o'.step = some w' ∧ (0 < w.attn.rowCount → ∃ l ∈ w'.leaves, l.head = head
          ∧ l.block = block)) ∧ t.mem = s.mem) ∧
    (o.status = St.ok → Answers (exec (.blockReadDone op head block .badCheck) s) fun t =>
      ∃ o', t.op op = some o' ∧ o'.status = St.integrity ∧ ∀ w, o'.step = some w → w.units = [])

/-- R81, R137: a unit whose blocks have all arrived, on clusters out of K2, delivers the root that the reference
arithmetic gives it. -/
def Sys2Proof.Claims.SubtreeRootIsTheReferenceRoot : Prop :=
  ∀ (op unit : Nat) (s : State) (o : Op) (w : StepWork) (u : WorkUnit),
    s.op op = some o → o.step = some w → w.units.find? (·.index == unit) = some u → u.resident = true →
    u.toIssue = [] → u.outstanding = [] → w.scoring = [] → u.run = 0 → s.gangAsleep u = false →
    (∀ x ∈ w.units, x.run = 0) →
    Answers (exec (.subtreeRootDone op unit false) s) fun t =>
      ∃ x, t.unitOf op unit = some x ∧ x.rooted = true ∧ x.roots = w.unitRoots u ∧ x.head = u.head ∧ x.first = u.first

/-- R30, R89, R253, R254, R296: a step whose partials and commit are ready ends: its operation and its charge are gone and
the Tally counts its reads and the step; it does not end before. -/
def Sys2Proof.Claims.StepEndReleasesTheStep : Prop :=
  ∀ (op : Nat) (s : State) (o : Op) (w : StepWork),
    s.op op = some o → o.step = some w → o.phase = .admitted → o.req.opcode = 1 →
    (w.complete = false ∨ o.commit = .pending → exec (.stepEnd op false) s = .next s) ∧
    (w.complete = true → o.commit ≠ .pending → o.req.mutates = false → o.status = St.ok → w.shadow = false →
      (∀ x ∈ s.eng.ops, x.phase = .weights → False) → w.wProj = none → o.effect = .none →
      Answers (exec (.stepEnd op false) s) fun t =>
        t.op op = none ∧ t.mem = s.mem ∧
        (∀ d, s.sched o.slice = some d → ∃ d', t.sched o.slice = some d' ∧ d'.inUseUnits = d.inUseUnits - o.cost ∧
          d'.inUseOps = d.inUseOps - 1) ∧
        ((s.pad o.req.paddock).counters.length = 10 →
          (t.pad o.req.paddock).counters.getD 0 0 = ((s.pad o.req.paddock).counters.getD 0 0 + w.bytesRead) % 2 ^ 64 ∧
          (t.pad o.req.paddock).counters.getD 6 0 = ((s.pad o.req.paddock).counters.getD 6 0 + 1) % 2 ^ 64))

/-- R126, R320: a cluster fault ends every step with a unit on the cluster with DEGRADED_RETRY and retires the cluster. -/
def Sys2Proof.Claims.ClusterFaultRetiresAndEndsSteps : Prop :=
  ∀ (die cluster : Nat) (s : State) (k : Cluster), s.clusterOf die cluster = some k →
    (s.eng.clusters.map fun x => (x.die, x.phys)).Nodup →
    Answers (exec (.clusterFault die cluster) s) fun t =>
      (die, k.phys) ∈ t.farrier.clusters ∧ t.maps.fault.retiredClusters = s.maps.fault.retiredClusters + 1 ∧
      (∃ x ∈ t.eng.clusters, x.die = die ∧ x.phys = k.phys ∧ x.use = .retired) ∧
      (∀ o w u, s.op o.id = some o → o.phase = .admitted → o.status = St.ok → o.step = some w → u ∈ w.units →
        u.resident = true → (die, cluster) ∈ u.clusters →
        ∃ o', t.op o.id = some o' ∧ o'.status = St.degradedRetry ∧ ∀ w, o'.step = some w → w.units = [])

/-- R140: a finished load leaves its slot loaded, and a step that admission held for it joins its queue once every die of
its slice has the layer. -/
def Sys2Proof.Claims.WeightLoadFreesTheHeldStep : Prop :=
  ∀ (die slot : Nat) (s : State) (x : WeightSlot), x ∈ s.store.weightSlots → x.die = die → x.slot = slot → x.loading = true →
    ((∀ o ∈ s.eng.ops, o.phase ≠ .weights) → Answers (exec (.weightSlotLoadDone die slot) s) fun t =>
      { x with loading := false, lastUse := s.time } ∈ t.store.weightSlots ∧ t.eng = s.eng ∧ t.mem = s.mem) ∧
    (∀ o w c, s.eng.ops = [o] → o.phase = .weights → o.step = some w → w.wProj = some c →
      (∀ k, s.sliceCfg o.slice = some k → ∀ n ∈ k.dies, n = die ∨ s.slotLoaded n o.req.paddock c.1 o.req.layer = true) →
      x.content = some (o.req.paddock, c.1, o.req.layer) →
      Answers (exec (.weightSlotLoadDone die slot) s) fun t => ∃ o', t.op o.id = some o' ∧ o'.phase = .queued)

/-- A message of a connection in READY that admits OPCODE `op`, on the window that the connection is bound to. -/
structure Sys2Proof.Machine.RlaRequest (s : State) (m : Msg) (op : Nat) (q : Qp) (w : Window) : Prop where
  conn : s.qp m.qpn = some q
  ready : q.state = .ready
  admits : q.admits op = true
  window : s.boundWindow q = some w

/-- R222, R223, R228: an LREAD of lines below the control line of a plain window is answered with OK and the lines'
bytes; without the read right with DENIED, outside the window with BAD_PARAM, and with INTEGRITY where a controller line
is poisoned. -/
def Sys2Proof.Claims.LreadAnswersTheLines : Prop :=
  ∀ (s : State) (m : Msg) (q : Qp) (w : Window) (h : RlaHead),
    RlaRequest s m 0x40 q w → h = RlaHead.parse m.body → h.addr % 128 = 0 → 1 ≤ h.lines → h.lines ≤ 4096 →
    m.body.length = 16 → w.use = .plain →
    (w.length < h.addr + h.lines * 128 →
      exec (.lread m) s = .next (s.answer m.qpn m.msn 0xC0 (rlaBody h.addr h.lines St.badParam h.tag []))) ∧
    (h.addr + h.lines * 128 ≤ w.length → w.read = false →
      exec (.lread m) s = .next (s.answer m.qpn m.msn 0xC0 (rlaBody h.addr h.lines St.denied h.tag []))) ∧
    (h.addr + h.lines * 128 < w.length → w.read = true →
      (∀ i < h.lines * 2, (w.base + h.addr) / 64 + i ∉ s.store.poisonLines) →
      exec (.lread m) s = .next (s.answer m.qpn m.msn 0xC0 (rlaBody h.addr h.lines St.ok h.tag
        (Memory.readBytes s.mem (w.base + h.addr) (h.lines * 128))))) ∧
    (h.addr + h.lines * 128 ≤ w.length → w.read = true →
      (∃ i < h.lines * 2, (w.base + h.addr) / 64 + i ∈ s.store.poisonLines) →
      exec (.lread m) s = .next (s.answer m.qpn m.msn 0xC0 (rlaBody h.addr h.lines St.integrity h.tag [])))

/-- R223, R228, R230: an LWRITE below the control line of a plain window stores its lines and changes no other byte; one
without the write right, outside the window or on a line of a region that the sender does not own stores nothing, and
its connection enters ERROR. -/
def Sys2Proof.Claims.LwriteStoresItsLinesOnly : Prop :=
  ∀ (s : State) (m : Msg) (q : Qp) (w : Window) (h : RlaHead),
    Memory.wf s.mem = true → RlaRequest s m 0x41 q w → h = RlaHead.parse m.body → h.addr % 128 = 0 → 1 ≤ h.lines →
    h.lines ≤ 4096 → m.body.length = 16 + h.lines * 128 → w.use = .plain →
    (h.addr + h.lines * 128 < w.length → w.write = true →
      (∀ i < h.lines, s.regionDenies w (h.addr / 128 + i) = false) →
      Answers (exec (.lwrite m) s) fun t =>
        (∀ i < h.lines * 128, Memory.read t.mem (w.base + h.addr + i) = m.body.getD (16 + i) 0) ∧
        (∀ a, a < w.base + h.addr ∨ w.base + h.addr + h.lines * 128 ≤ a → Memory.read t.mem a = Memory.read s.mem a) ∧
        t.store.seqs = s.store.seqs ∧ t.maps = s.maps ∧ t.pads = s.pads ∧ t.eng = s.eng) ∧
    (w.length < h.addr + h.lines * 128 ∨ w.write = false ∨
        (∃ i < h.lines, s.regionDenies w (h.addr / 128 + i) = true) →
      Answers (exec (.lwrite m) s) fun t =>
        t.mem = s.mem ∧ t.store = s.store ∧ ∃ x, t.qp m.qpn = some x ∧ x.state = .error)

/-- R207, R223: an LWRITE_FINAL stores nothing when it arrives; it waits. -/
def Sys2Proof.Claims.FinalWriteWaits : Prop :=
  ∀ (s : State) (m : Msg) (q : Qp) (w : Window) (h : RlaHead),
    RlaRequest s m 0x42 q w → h = RlaHead.parse m.body → h.addr % 128 = 0 → h.lines = 1 → m.body.length = 16 + 128 →
    w.use = .plain → h.addr + 128 < w.length → w.write = true → s.regionDenies w (h.addr / 128) = false →
    Answers (exec (.lwriteFinal m) s) fun t =>
      t.mem = s.mem ∧ t.store = s.store ∧ t.maps = s.maps ∧
      ∃ x, t.qp m.qpn = some x ∧ ⟨m.psn, m.msn, m.body, true⟩ ∈ x.rx.finals

/-- R207: the oldest waiting FINAL takes effect once every packet before it is accepted and no earlier write of its
connection waits: its line is stored and nothing else. With an earlier packet missing, or an earlier write not placed,
it does not take effect. -/
def Sys2Proof.Claims.FinalTakesEffectAfterEarlierWrites : Prop :=
  ∀ (s : State) (qpn psn : Nat) (q : Qp) (w : Window) (f : FinalWrite) (rest : List FinalWrite),
    Memory.wf s.mem = true → s.qp qpn = some q → q.state = .ready → s.boundWindow q = some w → q.rx.finals = f :: rest →
    f.psn = psn → f.settled = true → f.body.length = 144 → (RlaHead.parse f.body).addr + 128 ≠ w.length →
    ((psn ≠ q.rx.expect ∧ precedes psn q.rx.expect = false) ∨
        (∃ m ∈ s.net.inbox, m.qpn = qpn ∧ m.opcode = 0x41 ∧ precedes m.msn f.msn = true) →
      exec (.finalTakesEffect qpn psn) s = .next s) ∧
    (psn = q.rx.expect →
      (∀ m ∈ s.net.inbox, m.qpn = qpn → m.opcode = 0x41 ∨ m.opcode = 0x42 → precedes m.msn f.msn = false) →
      Answers (exec (.finalTakesEffect qpn psn) s) fun t =>
        (∀ i < 128, Memory.read t.mem (w.base + (RlaHead.parse f.body).addr + i) = f.body.getD (16 + i) 0) ∧
        (∀ a, a < w.base + (RlaHead.parse f.body).addr ∨ w.base + (RlaHead.parse f.body).addr + 128 ≤ a →
          Memory.read t.mem a = Memory.read s.mem a) ∧
        (∃ x, t.qp qpn = some x ∧ x.rx.finals = rest ∧ x.rx.expect = (psn + 1) % 2 ^ 24) ∧ t.maps = s.maps)

/-- The control record of the oldest waiting FINAL of a connection, of a type, on the window's control line. -/
structure Sys2Proof.Machine.ControlReady (s : State) (qpn psn type : Nat) (q : Qp) (w : Window) (f : FinalWrite) : Prop where
  ready : s.readyFinal qpn psn = some (q, w, f)
  o2 : s.restarting 2 = false
  fresh : f.settled = false
  line : (RlaHead.parse f.body).addr + 128 = w.length
  type : be (f.body.drop 16) 0 1 = type
  window : s.window w.index = some w

/-- R229, R232: HANDOVER from the owner with the region's generation gives the region to the named owner and RESULT 0; a
stale generation gives RESULT 2 and changes no region; anyone but the owner draws RESULT 1. -/
def Sys2Proof.Claims.HandoverMovesARegionOnce : Prop :=
  ∀ (s : State) (qpn psn : Nat) (q : Qp) (w : Window) (f : FinalWrite) (r : Region),
    ControlReady s qpn psn 1 q w f → s.region (be (f.body.drop 16) 8 2) = some r →
    Answers (exec (.handover qpn psn) s) fun t =>
      t.mem = s.mem ∧ t.store = s.store ∧
      (r.ownerNode ≠ w.srcNode ∨ r.ownerPaddock ≠ w.srcPaddock →
        t.maps.regions = s.maps.regions ∧ ∃ x, t.window w.index = some x ∧ be x.control 20 1 = 1) ∧
      (r.ownerNode = w.srcNode → r.ownerPaddock = w.srcPaddock → w.base ≤ r.base → r.base < w.base + w.length →
        (r.gen ≠ be (f.body.drop 16) 12 4 →
          t.maps.regions = s.maps.regions ∧ ∃ x, t.window w.index = some x ∧ be x.control 20 1 = 2) ∧
        (r.gen = be (f.body.drop 16) 12 4 →
          t.region r.index = some { r with
            ownerNode := be (f.body.drop 16) 16 2, ownerPaddock := be (f.body.drop 16) 18 2 % 4096,
            gen := (r.gen + 1) % 2 ^ 32 } ∧
          ∃ x, t.window w.index = some x ∧ be x.control 20 1 = 0))

/-- R231, R233: FORCE_OWNER acts through the fabric manager's window only, waits while a connection of the old owner still
works, and then gives the region away. -/
def Sys2Proof.Claims.ForceOwnerWaitsForTheOldOwner : Prop :=
  ∀ (s : State) (qpn psn : Nat) (q : Qp) (w : Window) (f : FinalWrite) (r : Region),
    ControlReady s qpn psn 2 q w f → s.region (be (f.body.drop 16) 8 2) = some r →
    (w.use ≠ .fabricManager → Answers (exec (.forceOwner qpn psn) s) fun t =>
      t.maps.regions = s.maps.regions ∧ ∃ x, t.window w.index = some x ∧ be x.control 20 1 = 3) ∧
    (w.use = .fabricManager → r.gen = be (f.body.drop 16) 12 4 → s.ownerAlive r = true →
      exec (.forceOwner qpn psn) s = .next s) ∧
    (w.use = .fabricManager → r.gen = be (f.body.drop 16) 12 4 → s.ownerAlive r = false →
      Answers (exec (.forceOwner qpn psn) s) fun t =>
        t.region r.index = some { r with
          ownerNode := be (f.body.drop 16) 16 2, ownerPaddock := be (f.body.drop 16) 18 2 % 4096,
          gen := (r.gen + 1) % 2 ^ 32 } ∧
        t.mem = s.mem ∧ t.store = s.store)

/-- R243, R244: EPOCH_STAGE discards what was staged and begins to read the publication area, and waits while one is being
read; EPOCH_PUBLISH of the staged
epoch makes it current, the current one previous, and starts the drain; while a previous slot still drains, it is held. -/
def Sys2Proof.Claims.EpochsStageAndPublish : Prop :=
  (∀ (s : State) (qpn psn : Nat) (q : Qp) (w : Window) (f : FinalWrite),
    ControlReady s qpn psn 3 q w f → w.use = .fabricManager →
    (s.maps.epochs.staging ≠ none → exec (.epochStage qpn psn) s = .next s) ∧
    (s.maps.epochs.staging = none → Answers (exec (.epochStage qpn psn) s) fun t =>
      t.maps.epochs.staged = 0 ∧ t.maps.epochs.staging = some (be (f.body.drop 16) 4 4, 128, []) ∧
      t.maps.epochs.current = s.maps.epochs.current ∧ t.store = s.store)) ∧
  (∀ (s : State) (qpn psn : Nat) (q : Qp) (w : Window) (f : FinalWrite) (k : Nat),
    ControlReady s qpn psn 4 q w f → w.use = .fabricManager → be (f.body.drop 16) 4 4 = s.maps.epochs.staged →
    s.maps.epochs.staged ≠ 0 → s.maps.epochs.slotOf .staging = some k → s.maps.epochs.roles.length = 4 →
    Answers (exec (.epochPublish qpn psn) s) fun t =>
      (s.maps.epochs.slotOf .previous = none →
        t.maps.epochs.current = s.maps.epochs.staged ∧ t.maps.epochs.previous = s.maps.epochs.current ∧
        t.maps.epochs.staged = 0 ∧ t.maps.epochs.roles.getD k .idle = .current ∧
        t.maps.epochs.drainEnd = some (s.time + s.img.service.drainTime)) ∧
      (s.maps.epochs.slotOf .previous ≠ none →
        t.maps.epochs = { s.maps.epochs with heldPublish := some s.maps.epochs.staged }))

/-- R245: at the end of the drain the previous slot begins to clear; a cleared slot is idle and no entry belongs to it. -/
def Sys2Proof.Claims.DrainEndsAndSlotClears : Prop :=
  (∀ (s : State) (at_ k : Nat),
    s.maps.epochs.drainEnd = some at_ → s.maps.epochs.slotOf .clearing = none → s.maps.epochs.slotOf .previous = some k →
    s.maps.epochs.heldPublish = none →
    Answers (exec .drainEnd s) fun t =>
      t.time = max s.time at_ ∧ t.maps.epochs = { s.maps.epochs.setRole k .clearing with
        drainEnd := none, drainWaits := false, previous := 0 }) ∧
  (∀ (s : State) (k : Nat), s.maps.epochs.slotOf .clearing = some k → s.maps.epochs.drainWaits = false →
    Answers (exec .clearingDone s) fun t =>
      t.maps.epochs = s.maps.epochs.setRole k .idle ∧ (∀ e ∈ t.maps.ledger, k ∉ e.members) ∧
      (∀ e ∈ s.maps.ledger, k ∉ e.members → (keyKind e.key = 0 → e.members ≠ []) → e ∈ t.maps.ledger) ∧
      t.store = s.store ∧ t.mem = s.mem)

/-- R191, R243, R244: an LREAD response that this node asked for is consumed: a failed read of the publication area fails
the staging, a header that names no staged epoch changes no map; a response that nothing asked for breaks the
connection. -/
def Sys2Proof.Claims.LreadResponseServesItsRequest : Prop :=
  ∀ (s : State) (m : Msg) (q : Qp) (h : RlaHead),
    s.qp m.qpn = some q → q.state = .ready → q.initiator = true → h = RlaHead.parse m.body →
    ((0x40, h.tag) ∉ q.tx.asked → Answers (exec (.lreadResponse m) s) fun t =>
      (∃ x, t.qp m.qpn = some x ∧ x.state = .error) ∧ t.mem = s.mem ∧ t.store = s.store) ∧
    ((0x40, h.tag) ∈ q.tx.asked → h.tag = 2 → be m.body 10 1 ≠ St.ok →
      Answers (exec (.lreadResponse m) s) fun t =>
        t.maps.epochs.staged = 0 ∧ t.maps.epochs.stageResult = 4 ∧ t.maps.epochs.staging = none ∧
        t.maps.epochs.current = s.maps.epochs.current ∧ t.store = s.store) ∧
    ((0x40, h.tag) ∈ q.tx.asked → h.tag = 1 → be m.body 10 1 = St.ok → m.body.length = 16 + h.lines * 128 →
      be (m.body.drop 16) 4 4 ≠ s.maps.epochs.staged →
      Answers (exec (.lreadResponse m) s) fun t =>
        t.maps.epochs = { s.maps.epochs with headerRead := false } ∧ t.maps.ledger = s.maps.ledger ∧ t.store = s.store ∧
        ∃ x, t.qp m.qpn = some x ∧ (0x40, h.tag) ∉ x.tx.asked)

/-- R303, R307: a commit is applied in full and lets its FINAL take effect, or is refused in full: nothing of it is
applied, its window records the refusal and its connection enters ERROR; what failed its check on the way is lost (R119), and
parts that the window held are discarded (R427). A commit out of sequence is refused for it. One that appends is held while a
lease has a pseudo-channel that it writes to (R167). -/
def Sys2Proof.Claims.CommitIsAppliedOrRefusedWhole : Prop :=
  ∀ (s : State) (qpn psn : Nat) (q : Qp) (w : Window) (f : FinalWrite),
    s.readyFinal qpn psn = some (q, w, f) → s.qp qpn = some q → q.state = .ready → f.settled = false → w.use = .pair →
    (RlaHead.parse f.body).addr = 0 → s.window w.index = some w →
    (∀ t0, s.recvCommit w (f.body.drop 16) = .ok t0 → s.mustHold (s.commitChannels w (f.body.drop 16) t0) = true →
      Answers (exec (.pairCommit qpn psn) s) fun t => (∃ h ∈ t.store.held, h.work = .commit qpn psn) ∧
        t.store.seqs = s.store.seqs ∧ t.mem = s.mem ∧ t.maps = s.maps ∧ t.net = s.net) ∧
    (∀ t0, s.recvCommit w (f.body.drop 16) = .ok t0 → s.mustHold (s.commitChannels w (f.body.drop 16) t0) = false →
      Answers (exec (.pairCommit qpn psn) s) fun t =>
      t.store = t0.store ∧ t.mem = t0.mem ∧ t.pads = t0.pads ∧ t.maps.windows = t0.maps.windows ∧
      t.qp qpn = (t0.qp qpn).map fun x => { x with rx := { x.rx with
        finals := match x.rx.finals with | [] => [] | g :: gs => { g with settled := true } :: gs } }) ∧
    (∀ e, s.recvCommit w (f.body.drop 16) = .error e → Answers (exec (.pairCommit qpn psn) s) fun t =>
      t.mem = s.mem ∧
      ((∀ x ∈ s.store.parts, x.1 ≠ w.index) → (∀ rs, s.readCommit w (f.body.drop 16) = .ok rs →
          State.commitFailures w ((s.withParts w rs).2 ++ rs) (s.withParts w rs).1 = []) →
        t.store = s.store ∧ t.pads = s.pads) ∧
      (∃ x, t.window w.index = some x ∧ x.refusedSeq = be f.body 16 8 ∧ x.refuseReason = e.1 ∧ x.refusedPaddock = e.2.1 ∧
        x.refusedSequence = e.2.2 ∧ x.appliedSeq = w.appliedSeq) ∧
      ∃ x, t.qp qpn = some x ∧ x.state = .error) ∧
    ((CommitLine.parse (f.body.drop 16)).seq ≠ w.appliedSeq + 1 →
      ∃ e, s.recvCommit w (f.body.drop 16) = .error e ∧ (e.1 = 3 ∨ e.1 = 5))

/-- R305, R309, R313, R427 as sender: an acknowledged commit is outstanding no more, and the last part of step 1 of a resync
completes that step; the part of an operation that a CONTINUED
commit carries applies nothing of it yet; a stream whose hold runs out gives its partner up. -/
def Sys2Proof.Claims.StreamAcknowledgesAndGivesUp : Prop :=
  (∀ (s : State) (i : Nat) (x : Stream) (c : Commit), s.stream i = some x → x.unacked = [c] → x.waiting = [] → c.op = 0 →
    s.op 0 = none → Answers (exec (.pairCommitAck i c.seq) s) fun t =>
      t.stream i = some { x with unacked := [], sending := [], resyncing := match c.continued, c.records.head? with
        | false, some r => x.resyncing.filter (· != ((PairHead.parse r).paddock, (PairHead.parse r).seq))
        | _, _ => x.resyncing } ∧ t.store = s.store ∧ t.eng = s.eng ∧ t.mem = s.mem) ∧
  (∀ (s : State) (i : Nat) (x : Stream) (c : Commit) (o : Op), s.stream i = some x → x.unacked = [c] → x.waiting = [] →
    c.continued = true → s.op c.op = some o → Answers (exec (.pairCommitAck i c.seq) s) fun t =>
      t.op c.op = some { o with parts := o.parts - 1 } ∧ t.store = s.store ∧ t.mem = s.mem) ∧
  (∀ (s : State) (i at_ : Nat) (x : Stream), s.stream i = some x → x.holdUntil = some at_ → (∀ o ∈ s.eng.ops, o.phase ≠ .held) →
    Answers (exec (.mirrorHoldExpiry i) s) fun t =>
      t.time = max s.time at_ ∧ t.maps.fault.lostPartner = x.partner ∧
      ∃ y, t.stream i = some y ∧ y.unacked = [] ∧ y.waiting = [] ∧ y.resync = [] ∧ y.resyncing = [] ∧ y.sending = [] ∧ y.holdUntil = none)

/-- The state in which an operation takes its effect: the one commit of its stream is acknowledged (R305 step 5). -/
def Sys2Proof.Machine.State.acked (s : State) (i : Nat) (c : Commit) (o : Op) : State :=
  let s := (s.modStream i fun y => { y with unacked := y.unacked.filter (·.seq != c.seq) }).stir
  let s := s.modStream i fun y => { y with sending := y.sending.filter y.sends }
  let s := match s.resyncDone i c with
    | none => s
    | some k => s.modStream i fun y => { y with resyncing := y.resyncing.filter (· != k) }
  s.modOp o.id fun y => { y with parts := y.parts - 1 }

/-- The acknowledged commit of a mutation completes it (R305 step 5): a released sequence stands in STATE 2 with no hash, and
its Ledger entries are gone (R113); a truncation cuts the committed lengths and the hashes (R55, R110); an append commits the
new lengths of its layers together (R47, R49); a creation makes its descriptor live with empty layers (R52, R87). The
operation drops its REF and is gone (R89). -/
def Sys2Proof.Claims.AcknowledgedMutationTakesEffect : Prop :=
  ∀ (s : State) (i : Nat) (x : Stream) (c : Commit) (o : Op),
    s.stream i = some x → x.unacked = [c] → x.waiting = [] → c.continued = false → s.eng.ops = [o] → o.id = c.op →
    o.phase = .admitted → o.status = 0 → o.req.opcode ≠ 1 → s.leases.leases = [] → s.store.held = [] →
    (∀ (d : Nat) (q : Seq), o.effect = .release → o.desc = some (d, q.generation) → s.seqAt d = some q →
      Answers (exec (.pairCommitAck i c.seq) s) fun t =>
        t.eng.ops = [] ∧ t.seqAt d = some { q with state := .releasing, hashes := [], ref := q.ref - 1 } ∧ t.mem = s.mem ∧
        ∀ e ∈ t.maps.ledger, e.isPrefixOf q.desc q.generation = false ∧ e.isRefusal q.paddock q.id = false ∧
          ∀ mirror slice partner below, e.isExact q.paddock q.id = true →
            readMap e.result ≠ .here mirror slice false d partner below) ∧
    (∀ (d len : Nat) (q : Seq) (t0 : State), o.effect = .truncate len → o.desc = some (d, q.generation) → s.seqAt d = some q →
      (s.acked i c o).applyTruncate d len = .ok t0 → Answers (exec (.pairCommitAck i c.seq) s) fun t =>
        t.eng.ops = [] ∧ t.mem = t0.mem ∧ ∃ y, t.seqAt d = some y ∧ y.lens = q.lens.map (fun l => min l len) ∧
          y.ref = q.ref - 1 ∧ y.state = q.state ∧ ∀ h ∈ y.hashes, h.1 < len / 64) ∧
    (∀ (d pos n : Nat) (layers : List (Nat × List Bytes)) (q : Seq) (t0 : State), o.effect = .append pos n layers 0 [] →
      o.desc = some (d, q.generation) → s.seqAt d = some q → (s.acked i c o).applyAppend d pos n layers = .ok t0 →
      Answers (exec (.pairCommitAck i c.seq) s) fun t =>
        t.eng.ops = [] ∧ t.mem = t0.mem ∧ ∃ y, t.seqAt d = some y ∧
          y.lens = layers.foldl (fun l r => updateAt r.1 (fun _ => pos + n) l) q.lens ∧
          y.ref = q.ref - 1 ∧ y.state = q.state ∧ y.hashes = q.hashes) ∧
    (∀ (slice k : Nat) (b : CreateBody) (h : Shape) (t0 : State), o.effect = .create slice false → o.desc = none →
      b = CreateBody.parse o.req.body → b.shape = some h → (∀ z ∈ s.store.seqs, z.desc ≠ k) →
      (s.acked i c o).createSeq slice o.req.paddock o.req.seq b.modelId h b.stored b.ttl b.weightSet false = .ok (k, t0) →
      Answers (exec (.pairCommitAck i c.seq) s) fun t =>
        t.eng.ops = [] ∧ t.mem = t0.mem ∧ ∃ y, t.seqAt k = some y ∧ y.paddock = o.req.paddock ∧ y.id = o.req.seq ∧
          y.state = .live ∧ y.ref = 0 ∧ y.shape = h ∧ y.lens = List.replicate h.layers h.shardStart ∧ y.hashes = [] ∧
          y.mirrorCopy = false)

/-- R308, R313: the deadlines that a mirror formed go to their primaries in DEADLINE records, and a resync sends its next
closed block, which verifies, in a BLOCK record, as background work once its slice's scheduler releases it (R247); each
waits for the stream's connection. -/
def Sys2Proof.Claims.MirrorReportsAndResyncBlocks : Prop :=
  (∀ (s : State) (p q d : Nat) (x : Stream), s.maps.deadlines = [(p, q, d)] → s.partnerOf p q ≠ 0 →
    s.streamOf (s.partnerOf p q) p = some x → s.stream x.id = some x → x.qpn = none →
    Answers (exec .deadlineReportTimer s) fun t =>
      t.maps.deadlines = [] ∧ t.stream x.id = some { x with waiting := x.waiting ++
        [⟨0, [pairRecord { type := 9, paddock := p, seq := q, aux := d } []]⟩] } ∧ t.store = s.store) ∧
  (∀ (s : State) (i : Nat) (x : Stream) (b : BlockRef) (rest : List BlockRef) (q : Seq) (e : Entry) (t1 : State)
    (ok : Bool), s.stream i = some x →
    x.resync = b :: rest → b ∉ rest → s.restarting 3 = false → x.resyncing = [] → s.findSeq b.paddock b.seq = some q →
    s.seqAt q.desc = some q → s.host.slicesOff.contains q.slice = false → q.entry b.layer b.head b.block = some e →
    s.entryLost q e = false → s.entryOk q e = true → x.partner ≠ 0 →
    s.takeTurn q.slice 2 b.paddock ⟨.resync, b.paddock, [i, b.seq, b.layer, b.head, b.block]⟩ q.shape.rawBlock = (t1, ok) →
    s.streamOf x.partner b.paddock = some x → x.qpn = none →
    (ok = false → Answers (exec (.resyncBlockSend i) s) fun t =>
      t.maps = s.maps ∧ t.store = s.store ∧ t.mem = s.mem ∧ t.sch = t1.sch) ∧
    (ok = true → Answers (exec (.resyncBlockSend i) s) fun t =>
      t.stream i = some { x with
        resync := rest, sending := (x.sending ++ [(b.paddock, b.seq)]).eraseDups, waiting := x.waiting
            ++ [⟨0, [s.blockRecord q b.layer b.head b.block]⟩] } ∧
      t.store = s.store ∧ t.mem = s.mem))

/-- R192, R196: HELLO is answered without a connection: with the nonce of a CHALLENGE, remembered for the intervals in
which a PROOF may carry it, or refused with VERSION or BUSY_TEARDOWN; a REFUSE ends the attempt of this node. -/
def Sys2Proof.Claims.HelloAllocatesNoConnection : Prop :=
  (∀ (c : Connect) (s : State), c.qp ≤ 1 → conPhase c.body = 1 → s.awake = true → s.restarting 2 = false →
    (s.conEarly c.body = none → Answers (exec (.hello c) s) fun t =>
      t.net.qps = s.net.qps ∧ (∃ x ∈ t.net.issued, x.src = c.src ∧ x.nonceI = conNonce c.body ∧
        x.nonceN = s.conNonceN c.src c.body ∧ x.fields = connectFields c.body ∧ x.at_ = s.time) ∧
      t.store = s.store ∧ t.pads = s.pads ∧ t.maps = s.maps) ∧
    (conVersions c.body = 0 → exec (.hello c) s = .next (s.conRefuse c St.version)) ∧
    (conVersions c.body ≠ 0 → conService c.body ≠ 1 → conPaddock c.body ≠ 0 → (s.pad (conPaddock c.body)).state = .teardown →
      exec (.hello c) s = .next (s.conRefuse c St.busyTeardown))) ∧
  (∀ (c : Connect) (s : State) (a : Attempt), (s.net.attempts.find? fun x => x.initQpn == conInitQpn c.body) = some a →
    conPhase c.body = 5 → a.stream = none → Answers (exec (.refuse c) s) fun t =>
      (∀ x ∈ t.net.attempts, x.initQpn ≠ a.initQpn) ∧ t.net.qps = s.net.qps ∧ t.maps.epochs.headerRead = false ∧
      t.store = s.store)

/-- R192, R193, R195, R196: a PROOF that the checks pass opens one connection with what it and its ACCEPT negotiate; one
that they refuse, or that repeats an accepted one, opens none. -/
def Sys2Proof.Claims.ProofOpensOneConnection : Prop :=
  ∀ (c : Connect) (s : State), c.qp ≤ 1 → conPhase c.body = 3 → s.awake = true → s.restarting 2 = false →
    (∀ r, s.recentAccept c = some r → Answers (exec (.proof c) s) fun t => t.net = s.net ∧ t.store = s.store ∧ t.maps = s.maps) ∧
    (s.recentAccept c = none →
      (∀ st, s.conJudge c = .error st → exec (.proof c) s = .next (s.conRefuse c st)) ∧
      (∀ k t0 qpn, s.conJudge c = .ok k → s.freeQpn = (some qpn, t0) → conService c.body ≤ 1 →
        Answers (exec (.proof c) s) fun t =>
          s.qp qpn = none ∧ 2 ≤ qpn ∧ qpn < 262144 ∧ (∃ x, t.qp qpn = some x ∧ x.state = .ready ∧ x.service = conService c.body ∧
            x.paddock = conPaddock c.body ∧ x.peerQpn = conInitQpn c.body ∧ x.peerTkey = conTkey c.body ∧
            x.version = highestVersion (conVersions c.body) ∧ x.enc = bit (conFlags c.body) 0 ∧ x.initiator = false ∧
            x.rx.expect = conPsn c.body ∧ x.rx.nextMsn = 0) ∧
          (∀ n, n ≠ qpn → t.qp n = s.qp n) ∧ t.store = s.store ∧ t.maps = s.maps ∧ t.pads = s.pads))

/-- R196, R226, R227: an ACCEPT for a window that another connection holds waits until that connection's admitted writes
are placed; the old connection is in ERROR from the PROOF on. -/
def Sys2Proof.Claims.WindowTakeoverWaitsForTheOldConnection : Prop :=
  (∀ (c : Connect) (s : State) (k : Bytes × Bytes) (t0 : State) (qpn : Nat) (w : Window) (old : Qp),
    c.qp ≤ 1 → conPhase c.body = 3 → s.awake = true → s.restarting 2 = false → s.recentAccept c = none →
    s.conJudge c = .ok k → s.freeQpn = (some qpn, t0) → conService c.body = 2 → s.conWindow c.body = some w →
    s.qp old.qpn = some old → (s.net.qps.find? fun q => q.window == some (w.index, w.gen) && q.works) = some old →
    Answers (exec (.proof c) s) fun t =>
      (∃ x, t.qp old.qpn = some x ∧ x.state = .error) ∧ (∃ y, t.window w.index = some y ∧ y.takeover = some qpn) ∧
      ∃ r ∈ t.net.recent, r.respQpn = qpn ∧ r.sent = false) ∧
  (∀ (window : Nat) (s : State) (w : Window) (qpn : Nat) (r : RecentAccept), s.window window = some w → w.takeover = some qpn →
    (s.net.recent.find? fun x => x.respQpn == qpn && !x.sent) = some r →
    Answers (exec (.windowTakeoverAccept window) s) fun t =>
      t.window window = some { w with takeover := none } ∧ { r with sent := true, at_ := s.time } ∈ t.net.recent ∧
      t.net.qps = s.net.qps ∧ t.store = s.store)

/-- R192, R195, R196: this node answers a CHALLENGE with its PROOF, opens the connection on an ACCEPT that the node's proof
verifies and on no other, and sends a message again 8 times before it gives up. -/
def Sys2Proof.Claims.InitiatorProvesAndVerifies : Prop :=
  (∀ (c : Connect) (s : State) (a : Attempt),
    (s.net.attempts.find? fun x => x.initQpn == conInitQpn c.body && x.phase == 1) = some a →
    (s.net.attempts.find? fun x => x.initQpn == a.initQpn) = some a → conPhase c.body = 2 →
    Answers (exec (.challenge c) s) fun t =>
      (t.net.attempts.find? fun x => x.initQpn == a.initQpn) =
        some { a with phase := 3, nonceN := conNonce c.body, resends := 0, sentAt := s.time } ∧
      t.net.qps = s.net.qps ∧ t.store = s.store) ∧
  (∀ (c : Connect) (s : State) (a : Attempt),
    (s.net.attempts.find? fun x => x.initQpn == conInitQpn c.body && x.phase == 3) = some a → conPhase c.body = 4 →
    s.qp a.initQpn = none →
    (conProof c.body ≠ nodeProof a.key a.nonceI a.nonceN a.hello c.body → exec (.accept c) s = .next s) ∧
    (conProof c.body = nodeProof a.key a.nonceI a.nonceN a.hello c.body → Answers (exec (.accept c) s) fun t =>
      (∃ x, t.qp a.initQpn = some x ∧ x.state = .ready ∧ x.initiator = true ∧ x.peerQpn = conRespQpn c.body ∧
        x.paddock = a.paddock ∧ x.srcNode = a.partner ∧ x.peerTkey = conTkey c.body ∧ x.rx.expect = conPsn c.body) ∧
      (∀ x ∈ t.net.attempts, x.initQpn ≠ a.initQpn) ∧ t.store = s.store)) ∧
  (∀ (n : Nat) (s : State) (a : Attempt), (s.net.attempts.find? fun x => x.initQpn == n) = some a →
    (a.resends < 8 → Answers (exec (.connectResendTimeout n) s) fun t =>
      t.time = max s.time (a.sentAt + 1000000) ∧ (t.net.attempts.find? fun x => x.initQpn == n) =
        some { a with resends := a.resends + 1, sentAt := t.time } ∧ t.net.qps = s.net.qps) ∧
    (8 ≤ a.resends → a.stream = none → Answers (exec (.connectResendTimeout n) s) fun t =>
      (∀ x ∈ t.net.attempts, x.initQpn ≠ n) ∧ t.net.qps = s.net.qps ∧ t.store = s.store))

/-- R197, R217: a DISCONNECT drains its connection; an acknowledged DISCONNECT of this node, and the end of the hold in
ERROR, lead to QUARANTINE, and its end frees the QPN. -/
def Sys2Proof.Claims.DisconnectDrainsThenQuarantines : Prop :=
  (∀ (m : Msg) (s : State) (q : Qp), s.qp m.qpn = some q → q.works = true → Answers (exec (.disconnect m) s) fun t =>
    (∃ x, t.qp m.qpn = some x ∧ x.state = .draining ∧ x.rx.drainFrom = some m.msn ∧
      (∀ u ∈ x.rx.used, u.1 ≠ m.msn) ∧ (q.rx.used = [] → x.tx.sentDisconnect = true)) ∧ t.store = s.store ∧ t.eng = s.eng) ∧
  (∀ (qpn p : Nat) (s : State) (q : Qp), s.qp qpn = some q → q.state = .draining → q.tx.disconnectPsn = some p →
    (∀ x ∈ q.tx.unacked ++ q.tx.ready, x.psn ≠ p) → Answers (exec (.disconnectAcked qpn) s) fun t =>
      ∃ x, t.qp qpn = some x ∧ x.state = .quarantine ∧ x.stateUntil = s.time + s.img.transport.quarantine) ∧
  (∀ (qpn : Nat) (s : State) (q : Qp), s.qp qpn = some q → q.state = .error ∨ (q.state = .draining ∧ q.tx.sentDisconnect = true) →
    Answers (exec (.qpErrorHoldExpiry qpn) s) fun t =>
      t.time = max s.time q.stateUntil ∧ qpn ∉ t.net.cached ∧
      ∃ x, t.qp qpn = some x ∧ x.state = .quarantine ∧ x.stateUntil = t.time + s.img.transport.quarantine) ∧
  (∀ (qpn : Nat) (s : State) (q : Qp), s.qp qpn = some q → q.state = .quarantine →
    Answers (exec (.qpnQuarantineExpiry qpn) s) fun t =>
      t.time = max s.time q.stateUntil ∧ t.qp qpn = none ∧ (∀ n, n ≠ qpn → t.qp n = s.qp n) ∧ t.store = s.store)

/-- A frame that reaches its connection at once: its link is up, its framing holds, its ingress queue runs, the context is
cached, it authenticates, and the connection works in an awake node. -/
structure Sys2Proof.Machine.AtHand (s : State) (f : Frame) (q : Qp) (payload : Bytes) : Prop where
  link : ∃ l, (s.net.links.find? fun l => l.id == f.link && l.up) = some l
  framed : s.wellFramed f = true
  runs : ∀ x ∈ s.net.blocked, x.1 ≠ f.link / 4
  qp : ∃ q0, s.qp (hdr f).dest = some q0 ∧ q0.open_ f = some (payload, q)
  range : 2 ≤ (hdr f).dest
  cached : s.net.cached.contains (hdr f).dest = true
  state : q.state = .ready
  awake : s.awake = true

/-- R187, R200, R201, R206: a one-packet message in order, without FINAL or an LWRITE_FINAL, is accepted, counted and delivered;
a packet below E is a duplicate, one above E draws one NAK, and neither delivers anything. -/
def Sys2Proof.Claims.PacketsAreAcceptedInOrder : Prop :=
  ∀ (s : State) (f : Frame) (q : Qp) (payload : Bytes), AtHand s f q payload → (hdr f).type = 0 → q.spray = false →
    q.rx.refusing = none → f.ce = false →
    ((hdr f).psn = q.rx.expect → q.pktFault (hdr f) payload = none → (hdr f).first = true → (hdr f).last = true →
      ((hdr f).final = false ∨ (hdr f).opcode = 0x42) →
      (hdr f).msn = q.rx.nextMsn → q.rx.msgs = [] → q.rx.held = [] → q.drained (hdr f).opcode = false →
      q.rx.used.length < q.rx.slots → (hdr f).msgLen ≤ s.stagingFree q →
      Answers (exec (.dataPacket f) s) fun t =>
        t.net.inbox = s.net.inbox ++ [⟨q.qpn, (hdr f).msn, (hdr f).psn, (hdr f).opcode, payload⟩] ∧
        (∃ x, t.qp q.qpn = some x ∧ x.state = .ready ∧ x.rx.expect = ((hdr f).psn + 1) % 2 ^ 24 ∧
          x.rx.nextMsn = ((hdr f).msn + 1) % 2 ^ 24 ∧ x.rx.used = q.rx.used ++ [((hdr f).msn, (hdr f).msgLen)]) ∧
        (t.pad q.paddock).counters = updateAt 4 (fun n => (n + f.wire) % 2 ^ 64) (s.pad q.paddock).counters ∧
        t.store = s.store ∧ t.mem = s.mem) ∧
    (precedes (hdr f).psn q.rx.expect = true → Answers (exec (.dataPacket f) s) fun t =>
      t.net.inbox = s.net.inbox ∧ t.store = s.store ∧ t.pads = s.pads ∧
      ∃ x, t.qp q.qpn = some x ∧ x.state = .ready ∧ x.rx.expect = q.rx.expect ∧ x.rx.msgs = q.rx.msgs) ∧
    (precedes (hdr f).psn q.rx.expect = false → (hdr f).psn ≠ q.rx.expect → Answers (exec (.dataPacket f) s) fun t =>
      t.net.inbox = s.net.inbox ∧ t.store = s.store ∧ t.pads = s.pads ∧
      ∃ x, t.qp q.qpn = some x ∧ x.rx.expect = q.rx.expect ∧ x.rx.msgs = q.rx.msgs ∧ x.rx.nakSent = true)

/-- R187, R209, R210, R211: a packet of a sprayed connection beyond E that opens its message on an MSN that is due is
accepted and leaves E, and starts the hole timer; at its end one NAK for E goes out, and none again for the same E. -/
def Sys2Proof.Claims.SprayedPacketsMayArriveOutOfOrder : Prop :=
  (∀ (s : State) (f : Frame) (q : Qp) (payload : Bytes), AtHand s f q payload → (hdr f).type = 0 → q.spray = true →
    q.rx.refusing = none → f.ce = false → precedes (hdr f).psn q.rx.expect = false → (hdr f).psn ≠ q.rx.expect →
    psnDistance q.rx.expect (hdr f).psn < 8192 → (hdr f).psn ∉ q.rx.accepted → q.rx.expect ∉ q.rx.accepted →
    q.pktFault (hdr f) payload = none → (∀ m ∈ q.rx.msgs, m.msn ≠ (hdr f).msn) → q.spanFits (q.spanOf (hdr f)) = true →
    q.drained (hdr f).opcode = false →
    q.rx.used.length < q.rx.slots → q.rx.msgs.length < 64 → (hdr f).msgLen ≤ s.stagingFree q →
    sumNat ((s.net.qps.filter (·.spray)).map fun x => x.rx.msgs.length) < 4096 →
    q.rx.nakSent = false → q.rx.hole = none →
    Answers (exec (.sprayedDataPacket f) s) fun t =>
      t.store = s.store ∧ t.mem = s.mem ∧ ∃ x, t.qp q.qpn = some x ∧ x.rx.expect = q.rx.expect ∧
        x.rx.accepted = q.rx.accepted ++ [(hdr f).psn] ∧ x.rx.hole = some (s.time + s.img.transport.sprayTimeout) ∧
        x.rx.used = q.rx.used ++ [((hdr f).msn, (hdr f).msgLen)]) ∧
  (∀ (s : State) (qpn at_ : Nat) (q : Qp), s.qp qpn = some q → q.works = true → q.rx.hole = some at_ →
    Answers (exec (.holeTimerExpiry qpn) s) fun t =>
      t.time = max s.time at_ ∧ t.net.inbox = s.net.inbox ∧
      (∃ x, t.qp qpn = some x ∧ x.rx.hole = none ∧ x.rx.nakSent = true ∧ x.rx.expect = q.rx.expect ∧
        x.rx.accepted = q.rx.accepted) ∧
      (q.rx.nakSent = true → t.sch = s.sch))

/-- R200, R201: the acknowledgement delay ends in an ACK, with which the count of unacknowledged frames begins again. -/
def Sys2Proof.Claims.AcknowledgementDelayEndsInAnAck : Prop :=
  ∀ (s : State) (qpn at_ : Nat) (q : Qp), s.qp qpn = some q → q.works = true → q.rx.ackAt = some at_ →
    Answers (exec (.ackDelayExpiry qpn) s) fun t =>
      t.time = max s.time at_ ∧ (∃ x, t.qp qpn = some x ∧ x.rx.ackAt = none ∧ x.rx.sinceAck = 0 ∧
        x.rx.lastAck = some t.time ∧ x.rx.expect = q.rx.expect ∧ x.tx.unacked = q.tx.unacked) ∧
      t.net.inbox = s.net.inbox ∧ t.store = s.store

/-- R199, R202, R204: an ACK removes what it covers and earns credit; a NAK 0x00 resends everything unacknowledged and
counts a retry, any other NAK ends the connection; RNR_NAK stops sending for its delay and counts no retry; CNP cuts the
window by a quarter, once per round trip. -/
def Sys2Proof.Claims.AcknowledgementsSteerTheSender : Prop :=
  ∀ (s : State) (f : Frame) (q : Qp) (payload : Bytes), AtHand s f q payload → q.tx.queue = [] → q.tx.ready = [] →
    (∀ done rest, (hdr f).type = 1 → q.tx.unacked = done ++ rest → done ≠ [] →
      q.inSpan (((hdr f).psn + 1) % 2 ^ 24) = true →
      (∀ x ∈ done, precedes x.psn (((hdr f).psn + 1) % 2 ^ 24) = true) →
      (∀ x ∈ rest, precedes x.psn (((hdr f).psn + 1) % 2 ^ 24) = false) →
      Answers (exec (.ackReceive f) s) fun t => ∃ x, t.qp q.qpn = some x ∧ x.tx.unacked = rest ∧ x.tx.retries = 0 ∧
        (rest = [] → x.tx.rtoAt = none) ∧ (q.tx.credit + done.length < q.tx.w → x.tx.w = q.tx.w ∧
          x.tx.credit = q.tx.credit + done.length) ∧
        (q.tx.credit + done.length = q.tx.w → x.tx.w = min (q.tx.w + 1) 1024 ∧ x.tx.credit = 0)) ∧
    ((hdr f).type = 2 → (hdr f).offset % 256 ≠ 0 → Answers (exec (.nakReceive f) s) fun t =>
      (∃ x, t.qp q.qpn = some x ∧ x.state = .error) ∧ t.store = s.store) ∧
    ((hdr f).type = 2 → (hdr f).offset % 256 = 0 → q.inSpan (hdr f).psn = true → q.tx.unacked ≠ [] →
      (∀ x ∈ q.tx.unacked, precedes x.psn (hdr f).psn = false) → q.tx.retries < s.img.transport.retryMax →
      Answers (exec (.nakReceive f) s) fun t => ∃ x, t.qp q.qpn = some x ∧ x.tx.retries = q.tx.retries + 1 ∧
        x.tx.unacked = q.tx.unacked.map (fun p => { p with resent := true, sentAt := s.time }) ∧ x.tx.w = q.tx.w) ∧
    ((hdr f).type = 3 → q.inSpan (hdr f).psn = true → q.tx.rnrCount = 0 → 1 ≤ s.img.transport.rnrRetryMax →
      (∀ x ∈ q.tx.unacked, precedes x.psn (hdr f).psn = false) →
      Answers (exec (.rnrNakReceive f) s) fun t => ∃ x, t.qp q.qpn = some x ∧
        x.tx.rnrUntil = some (s.time + max 1 ((hdr f).offset % 65536) * 1000) ∧ x.tx.rnrCount = 1 ∧
        x.tx.retries = q.tx.retries ∧ x.tx.unacked = q.tx.unacked ∧ x.tx.rtoAt = none) ∧
    ((hdr f).type = 4 → Answers (exec (.cnpReceive f) s) fun t => ∃ x, t.qp q.qpn = some x ∧
      x.tx.unacked = q.tx.unacked ∧ (s.time < q.tx.holdUntil → x.tx.w = q.tx.w) ∧
      (q.tx.holdUntil ≤ s.time → x.tx.w = max 4 (q.tx.w - q.tx.w / 4) ∧ x.tx.credit = 0 ∧
        x.tx.holdUntil = s.time + max q.tx.srtt 8000))

/-- R199, R202, R203, R204: the end of an RTO resends everything unacknowledged with a window of 4 and one retry more, and
past RETRY_MAX the connection enters ERROR; the end of an RNR delay resends and counts no retry. -/
def Sys2Proof.Claims.TimeoutsResendOrGiveUp : Prop :=
  ∀ (s : State) (qpn at_ : Nat) (q : Qp), s.qp qpn = some q → q.works = true → q.tx.queue = [] → q.tx.ready = [] →
    q.tx.unacked ≠ [] → (q.state = .ready ∨ q.tx.sentDisconnect = true) →
    (q.tx.rtoAt = some at_ → q.tx.retries < s.img.transport.retryMax → Answers (exec (.rtoExpiry qpn) s) fun t =>
      t.time = max s.time at_ ∧ ∃ x, t.qp qpn = some x ∧ x.tx.w = 4 ∧ x.tx.credit = 0 ∧ x.tx.retries = q.tx.retries + 1 ∧
        x.tx.unacked = q.tx.unacked.map (fun p => { p with resent := true, sentAt := t.time })) ∧
    (q.tx.rtoAt = some at_ → s.img.transport.retryMax ≤ q.tx.retries → Answers (exec (.rtoExpiry qpn) s) fun t =>
      ∃ x, t.qp qpn = some x ∧ x.state = .error ∧ x.tx.unacked = []) ∧
    (q.tx.rnrUntil = some at_ → Answers (exec (.rnrDelayExpiry qpn) s) fun t =>
      t.time = max s.time at_ ∧ ∃ x, t.qp qpn = some x ∧ x.tx.rnrUntil = none ∧ x.tx.retries = q.tx.retries ∧
        x.tx.unacked = q.tx.unacked.map (fun p => { p with resent := true, sentAt := t.time }))

/-- Nothing waits for a context in either direction. -/
def Sys2Proof.Machine.State.nothingWaits (s : State) : Prop :=
  s.net.miss = [] ∧ s.net.blocked = [] ∧ ∀ x ∈ s.net.qps, x.tx.control = [] ∧ x.tx.ready = [] ∧ x.tx.queue = []

/-- R212, R213, R215: a fetched context enters the cache and its fetch ends; one that cannot be fetched puts its connection
into ERROR first; while no place is free, room is made. A finished write-back, of the context chosen first, leaves it in the
store alone, its secrets wrapped. -/
def Sys2Proof.Claims.ContextFetchAndWriteBack : Prop :=
  (∀ (s : State) (qpn port : Nat) (q : Qp) (good : Bool), s.net.fetches = [(port, qpn)] → s.awake = true → s.nothingWaits →
    s.qp qpn = some q → q.state = .ready →
    (s.contextFits qpn = false → exec (.contextFetchDone qpn good) s = .next s.makeRoom) ∧
    (s.contextFits qpn = true → Answers (exec (.contextFetchDone qpn good) s) fun t =>
      qpn ∈ t.net.cached ∧ t.net.fetches = [] ∧ (∀ n ∈ s.net.cached, n ∈ t.net.cached) ∧
      (good = true → t.qp qpn = some { q with wrapped := [] } ∧ ∀ n, n ≠ qpn → t.qp n = s.qp n) ∧
      (good = false → ∃ x, t.qp qpn = some x ∧ x.state = .error) ∧ t.store = s.store)) ∧
  (∀ (s : State) (qpn : Nat) (q : Qp), s.net.evicting.head? = some qpn → s.nothingWaits → s.qp qpn = some q →
    Answers (exec (.contextWriteBackDone qpn) s) fun t =>
      qpn ∉ t.net.evicting ∧ (∀ n ∈ s.net.evicting, n ≠ qpn → n ∈ t.net.evicting) ∧
      t.qp qpn = some { q with wrapped := s.wrapContext q } ∧ (∀ n, n ≠ qpn → t.qp n = s.qp n) ∧
      t.net.cached = s.net.cached ∧ t.store = s.store)

/-- R273, R275, R276, R277, R278, R299, R300: SEAL of an empty open or waiting paddock by its authenticated tenant over
the management service seals it, with keys in both dies' slots, a write counter of 1 and its cache connections in ERROR;
over any other path it is DENIED; WINDOW_KEY keys the paddock's windows for a peer; TEARDOWN by the tenant starts the
teardown, and zeroises the keys once no operation of the paddock is left. -/
def Sys2Proof.Claims.TenantSealsKeysAndTearsDown : Prop :=
  ∀ (v : VendorReq) (s : State) (x : Session) (p : Nat), p = vendorPaddock v → 1 ≤ p →
    (s.vendorSession v 2 = some x → (s.pad p).state = .awaitSeal ∨ (s.pad p).state = .open_ →
      (x.path ≠ 2 → exec (.seal v) s = .next (s.vendorSay x 2 St.denied [])) ∧
      (x.path = 2 → s.padHolds p = true → exec (.seal v) s = .next (s.vendorSay x 2 St.badParam [])) ∧
      (x.path = 2 → s.padHolds p = false → s.tenantOf x p = false ∨ s.sec.permitted = true →
        exec (.seal v) s = .next (s.vendorSay x 2 St.denied [])) ∧
      (x.path = 2 → s.padHolds p = false → s.tenantOf x p = true → s.sec.permitted = false → s.sec.dbgBusy = false →
        (s.pad p).kmem = [] → Answers (exec (.seal v) s) fun t =>
          (t.pad p).state = .sealed ∧ (t.pad p).writeCounter = 1 ∧ (∃ k, (t.pad p).kmem = [k, k] ∧ k.length = 32) ∧
          (t.pad p).ktp.length = 32 ∧ (t.pad p).generation = (s.pad p).generation ∧
          (∀ q, s.qp q.qpn = some q → q.paddock = p → q.service = 0 → ∃ y, t.qp q.qpn = some y ∧ y.works = false) ∧
          (∀ o, o ≠ p → t.pad o = s.pad o) ∧ t.store.seqs = s.store.seqs ∧ t.store.blocks = s.store.blocks ∧ t.mem = s.mem)) ∧
    (s.vendorSession v 3 = some x → x.path = 2 → (s.pad p).state = .sealed → s.tenantOf x p = true →
      Answers (exec (.windowKey v) s) fun t =>
        t.maps.windows = s.maps.windows.map (fun w =>
          if w.localPaddock = p ∧ w.srcNode = be v.payload 3 2 then { w with key := sub v.payload 5 32 } else w) ∧
        t.pads = s.pads ∧ t.store = s.store ∧ t.mem = s.mem) ∧
    (s.vendorSession v 3 = some x → (s.pad p).state = .teardown →
      exec (.windowKey v) s = .next (s.vendorSay x 3 St.busyTeardown [])) ∧
    (s.vendorSession v 4 = some x → x.path = 2 → (s.pad p).state = .sealed → (s.maps.windows.map (·.index)).Nodup →
        s.tenantOf x p = true →
      (s.pad p).zeroing = false → Answers (exec (.teardown v) s) fun t =>
        (t.pad p).state = .teardown ∧ (t.pad p).sealedTeardown = true ∧
        (∀ w ∈ t.maps.windows, w.localPaddock = p → w.state ≠ .active) ∧
        ((∀ o ∈ t.eng.ops, o.req.paddock ≠ p) → (t.pad p).kmem = [] ∧ (t.pad p).ktp = [] ∧
          ∀ w ∈ t.maps.windows, w.localPaddock = p → w.key = []) ∧
        ((∃ o ∈ t.eng.ops, o.req.paddock = p) → (t.pad p).kmem = (s.pad p).kmem ∧ (t.pad p).ktp = (s.pad p).ktp))

/-- R280, R282, R283, R284, R297: SELECT_PADDOCK, TALLY_READ and GET_MEASUREMENTS answer over the session's path, on GWT
in one tunnel message and else as the binding carries it, and change no tenant state; a measurement is a block of the
DMTF format (the model's reading, log 134) and is signed with the requester's nonce; a command of a session that is not
the tenant's is DENIED. -/
def Sys2Proof.Claims.SessionsReadWhatTheyMay : Prop :=
  ∀ (s : State) (v : VendorReq) (x : Session) (p : Nat), p = vendorPaddock v →
    (s.vendorSession v 1 = some x → s.session x.id = some x → s.tenantOf x p = true →
      Answers (exec (.selectPaddock v) s) fun t =>
        t.session x.id = some { x with selected := p } ∧
        (x.path ≠ 2 → t.out = s.out ++ [.spdm x.path x.id (toBe 1 1 ++ toBe 1 St.ok)] ∧ t.net = s.net) ∧
        (x.path = 2 → t.out = s.out) ∧ t.pads = s.pads ∧ t.store = s.store) ∧
    (s.vendorSession v 5 = some x → s.tenantOf x p = true → Answers (exec (.tallyRead v) s) fun t =>
      (x.path ≠ 2 → t.out = s.out ++ [.spdm x.path x.id (toBe 1 5 ++ toBe 1 St.ok ++ (s.snapshot p).bytes)] ∧
        t.net = s.net) ∧ (x.path = 2 → t.out = s.out) ∧ t.pads = s.pads ∧ t.sec = s.sec ∧
      t.store = s.store ∧ ((s.pad p).state ≠ .free →
        s.snapshot p = ⟨s.time, (s.pad p).generation, (s.pad p).counters⟩)) ∧
    (s.tenantOf x p = false →
      (s.vendorSession v 1 = some x → exec (.selectPaddock v) s = .next (s.vendorSay x 1 St.denied [])) ∧
      (s.vendorSession v 5 = some x → exec (.tallyRead v) s = .next (s.vendorSay x 5 St.denied []))) ∧
    (∀ (index : Nat) (nonce : Bytes), s.session x.id = some x → s.restarting 0 = false →
      Answers (exec (.getMeasurements x.id index nonce) s) fun t =>
        ∃ blocks, t = s.spdmSay x.path x.qpn x.id
          (blocks ++ nonce ++ Config.ecdsaSign s.sec.deviceIdentity (blocks ++ nonce)) ∧
        (index ≠ 255 → blocks = dmtfBlock index (s.measurement x index)) ∧
        t.sec = s.sec ∧ t.pads = s.pads ∧ t.store = s.store) ∧
    (∀ (path qpn sess : Nat) (body : Bytes),
      (path ≠ 2 → s.spdmSay path qpn sess body = s.emit (.spdm path sess body)) ∧
      (path = 2 → (∀ m ∈ s.net.inbox, m.qpn = qpn → m.opcode ≠ 0x70) → (∀ y ∈ s.sec.sessions, y.id ≠ sess) →
        s.spdmSay path qpn sess body = s.sendMsg qpn 0x70 6 body false none) ∧
      (∀ y, path = 2 → s.sec.sessions.find? (·.id == sess) = some y → (∀ m ∈ s.net.inbox, m.qpn = qpn → m.opcode ≠ 0x70) →
        s.spdmSay path qpn sess body =
          ({ s with rng := s.rng + 1 }).sendMsg qpn 0x70 6 (Config.securedMessage y.keys s.rng body) false none))

/-- R191, R198, R280, R281, R282: an SPDM_TUNNEL message is answered on its connection, and its slot is free once the
answer is sent; one above 4,096 bytes breaks the connection; KEY_EXCHANGE opens a session while its path has one left,
and only mutual authentication over GWT ties it to a tenant key. -/
def Sys2Proof.Claims.TunnelAndKeyExchange : Prop :=
  (∀ (m : Msg) (s : State) (q : Qp), s.qp m.qpn = some q → q.state = .ready → q.admits 0x70 = true → s.restarting 0 = false →
    (m.body.length ≤ 4096 → Answers (exec (.spdmTunnel m) s) fun t =>
      (∃ x, t.qp m.qpn = some x ∧ x.state = .ready ∧ (∀ u ∈ x.rx.outstanding, u.1 ≠ m.msn) ∧
        ((∀ u ∈ x.rx.used, u.1 ≠ m.msn) ∨ ∃ p ∈ x.tx.ready, p.frees = some m.msn)) ∧
      (∀ y ∈ t.net.inbox, y.qpn = m.qpn → y.msn ≠ m.msn) ∧ t.store = s.store ∧ t.pads = s.pads ∧ t.sec = s.sec) ∧
    (4096 < m.body.length → Answers (exec (.spdmTunnel m) s) fun t =>
      (∃ x, t.qp m.qpn = some x ∧ x.state = .error) ∧ t.store = s.store ∧ t.sec = s.sec)) ∧
  (∀ (k : KeyExchange) (s : State), k.path ≤ 2 → s.restarting 0 = false →
    (k.path = 2 → ∃ q, s.qp k.qpn = some q ∧ q.service = 1 ∧ q.works = true) →
    ((s.sec.sessions.filter (·.path == k.path)).length < sessionLimit k.path → Answers (exec (.keyExchange k) s) fun t =>
      (∃ x, t.sec.sessions = s.sec.sessions ++ [x] ∧ x.id = s.sec.nextSession ∧ x.path = k.path ∧ x.selected = 0 ∧
        (k.path = 2 → k.mutualAuth = true → x.leafHash = Config.sha384 k.leafSpki) ∧
        (k.path ≠ 2 ∨ k.mutualAuth = false → x.leafHash = [])) ∧ t.pads = s.pads ∧ t.store = s.store) ∧
    (sessionLimit k.path ≤ (s.sec.sessions.filter (·.path == k.path)).length → Answers (exec (.keyExchange k) s) fun t =>
      t.sec = s.sec ∧ (k.path ≠ 2 → t.net = s.net) ∧ t.store = s.store))

/-- R286, R287: the TDI goes from unlocked to locked to RUN, stopping unlocks it, and no other request moves it; a lock opens
BAR0 again after an error, and nothing else does. -/
def Sys2Proof.Claims.TdispMovesTheTdi : Prop :=
  ∀ (r : Tdisp) (s : State), s.restarting 0 = false → Answers (exec (.tdispMessage r) s) fun t =>
    (r = .lockInterface → s.sec.tdi = .unlocked → t.sec.tdi = .locked) ∧
    (r = .startInterface → s.sec.tdi = .locked → t.sec.tdi = .run) ∧
    (r = .stopInterface → t.sec.tdi = .unlocked) ∧
    (r ≠ .lockInterface → r ≠ .startInterface → r ≠ .stopInterface → t.sec.tdi = s.sec.tdi) ∧
    (r ≠ .stopInterface → s.sec.tdi = .error → t.sec.tdi = .error) ∧
    (t.sec.bar0Shut = true ↔ s.sec.bar0Shut = true ∧ t.sec.tdi ≠ .locked) ∧
    t.sec = { s.sec with tdi := t.sec.tdi, bar0Shut := t.sec.bar0Shut } ∧ t.pads = s.pads ∧ t.net = s.net ∧ t.store = s.store

/-- R208, R248: PFC of the partner pauses and resumes a priority of a link that is up; a link that goes down hands the
connections homed on it to another link that is up. -/
def Sys2Proof.Claims.PauseAndLinkLoss : Prop :=
  (∀ (link prio : Nat) (pause : Bool) (s : State) (d : Sched) (l : Link), s.sched (16 + link) = some d → s.link link = some l →
    l.up = true → Answers (exec (.pfcFrameReceive link prio pause) s) fun t =>
      (∃ d', t.sched (16 + link) = some d' ∧ (prio ∈ d'.paused ↔ pause = true) ∧
        (∀ c, c ≠ prio → (c ∈ d'.paused ↔ c ∈ d.paused)) ∧ d'.rings = d.rings ∧
        d'.queues.map (·.items) = d.queues.map (·.items)) ∧ t.net = s.net ∧ t.store = s.store) ∧
  (∀ (link : Nat) (s : State) (l : Link), s.link link = some l → l.up = true → Answers (exec (.linkDown link) s) fun t =>
    (∃ y, t.link link = some y ∧ y.up = false ∧ y.neighbour = false) ∧
    (∀ m, (∃ y ∈ s.net.links, y.id ≠ link ∧ y.up = true ∧ y.enabled = true) → m ∈ t.net.qps → m.homePort ≠ link) ∧
    (∀ q, s.qp q.qpn = some q → q.homePort ≠ link → t.qp q.qpn = some q) ∧ t.store = s.store ∧ t.pads = s.pads)

/-- R342, R343, R348: a trained link is up; the stage LINK ends with DISCOVERY once a link is up and its 1.5 s are over, and
not before a link is up; LLDP gives a link its neighbour; DISCOVERY ends with the join, whose first beacon waits for the
node's slot. -/
def Sys2Proof.Claims.LinksTrainAndDiscover : Prop :=
  (∀ (link : Nat) (s : State) (l : Link), s.link link = some l → l.up = false → l.trains = true → 8 ≤ s.boot.stage →
    s.boot.stage ≤ 13 → Answers (exec (.linkUp link) s) fun t =>
      (∃ y, t.link link = some y ∧ y.up = true ∧ y.rate = s.linkRate link) ∧
      (s.boot.stage = 8 → s.boot.stageAt + 1500000000 ≤ s.time → t.boot.stage = 9) ∧
      (9 ≤ s.boot.stage → t.boot.stage = s.boot.stage) ∧ t.store = s.store) ∧
  (∀ s : State, s.boot.stage = 8 → Answers (exec .linkStageTimeout s) fun t =>
      t.time = max s.time (s.boot.stageAt + 1500000000) ∧
      ((∃ l ∈ s.net.links, l.up = true) → t.boot.stage = 9) ∧ ((∀ l ∈ s.net.links, l.up = false) → t.boot.stage = 8) ∧
      t.net.qps = s.net.qps ∧ t.store = s.store) ∧
  (∀ (link : Nat) (chassis port : Bytes) (s : State) (l : Link), s.link link = some l → l.up = true → l.reenable = false →
    Answers (exec (.lldpduReceive link chassis port) s) fun t =>
      t.link link = some { l with neighbour := true, chassis := chassis, peerPort := port } ∧ t.net.qps = s.net.qps ∧
      t.boot = s.boot) ∧
  (∀ s : State, s.boot.stage = 9 → Answers (exec .discoveryEnd s) fun t =>
      t.boot.stage = 10 ∧ t.boot.join = { Join.fresh with nextAt := some (t.time + s.beaconSlot * 20000000) } ∧
      ((∀ l ∈ s.net.links, l.up = true → l.neighbour = true) → t.time = s.time) ∧
      ((∃ l ∈ s.net.links, l.up = true ∧ l.neighbour = false) → t.time = max s.time (s.boot.stageAt + 3000000000)))

/-- R185, R388 (the step of the clock is the model's choice, log 44): a PTP message corrects the timebase, and nothing does
while the node holds over. -/
def Sys2Proof.Claims.PtpCorrectsTheTimebase : Prop :=
  ∀ (offset : Int) (locked : Bool) (s : State),
    (s.pwr.holdover = true → exec (.ptpMessage offset locked) s = .next s) ∧
    (s.pwr.holdover = false → (∃ l ∈ s.net.links, l.id / 4 = s.img.transport.ptpPort ∧ l.up = true) →
      0 ≤ (s.time : Int) - offset → (s.time : Int) - offset < 2 ^ 64 →
      Answers (exec (.ptpMessage offset locked) s) fun t =>
        (t.time : Int) = s.time - offset ∧ t.net.ptpLocked = locked ∧ t.net.links = s.net.links ∧ t.net.qps = s.net.qps ∧
        t.store = s.store ∧ t.pwr = s.pwr)

/-- R99, R106, R170, R247: a full tail that verifies and finds room is closed as bulk work of its paddock: its entry names a new
block with the stored form of its records, held once; without room, or while a lease has marked its slot, it stays in its slot
and is tried again 1 ms later; while the scheduler gives the work no turn, it waits in its queue and nothing else changes. -/
def Sys2Proof.Claims.CloseStoresTheFullTail : Prop :=
  ∀ (b : BlockRef) (s : State) (q : Seq) (e : Entry) (x : TailSlot),
    s.findSeq b.paddock b.seq = some q → s.seqAt q.desc = some q → q.entry b.layer b.head b.block = some e → e.slot = .tail x →
    x.recs.length = 64 → x.lost = false → q.state = .live → (∀ k ∈ s.store.blocks, k.num < s.store.nextBlock) →
    s.tailOk q b.layer b.head b.block x = true →
    (∀ t1, s.takeTurn q.slice 1 b.paddock (closeWork b) q.shape.rawBlock = (t1, false) →
      Answers (exec (.blockClose b .good) s) fun t =>
      t.store = s.store ∧ t.mem = s.mem ∧ t.pads = s.pads ∧ t.sch = t1.sch) ∧
    (∀ t1, s.takeTurn q.slice 1 b.paddock (closeWork b) q.shape.rawBlock = (t1, true) →
      (∃ f ∈ x.place.frames, f ∈ s.leasedFrames) ∨
        (∃ r, t1.closeTail q.desc b.layer b.head b.block = .error r) →
      Answers (exec (.blockClose b .good) s) fun t =>
      t.store = { s.store with retries := s.store.retries.filter (·.1 != b) ++ [(b, s.time + 1000000)] } ∧ t.mem = s.mem ∧
      t.pads = s.pads) ∧
    (∀ t1 t0, s.takeTurn q.slice 1 b.paddock (closeWork b) q.shape.rawBlock = (t1, true) →
      (∀ f ∈ x.place.frames, f ∉ s.leasedFrames) → t1.closeTail q.desc b.layer b.head b.block = .ok t0 →
      Answers (exec (.blockClose b .good) s) fun t =>
      ∃ q' e' k, t.seqAt q.desc = some q' ∧ q'.entry b.layer b.head b.block = some e' ∧
        e'.slot = .closed s.store.nextBlock ∧ t.block s.store.nextBlock = some k ∧
        k.stored = (storedForm q.shape.recShape (512 * 2 ^ q.granShift) x.recs).2 ∧ k.refs = 1 ∧ k.lost = false ∧
        k.paddock = q.paddock ∧ q'.lens = q.lens) ∧
    (∀ at_ s1 t1 ok, s.store.retries.find? (·.1 == b) = some (b, at_) →
      s1 = { s.advanceTo at_ with store := { s.store with retries := s.store.retries.filter (·.1 != b) } } →
      s1.takeTurn q.slice 1 b.paddock (closeWork b) q.shape.rawBlock = (t1, ok) →
      (ok = false → Answers (exec (.closeRetryTimer b) s) fun t =>
        t.time = max s.time at_ ∧ t.store = s1.store ∧ t.mem = s.mem ∧ t.sch = t1.sch) ∧
      (∀ r, ok = true → t1.closeTail q.desc b.layer b.head b.block = .error r →
        Answers (exec (.closeRetryTimer b) s) fun t => t.time = max s.time at_ ∧ (b, t.time + 1000000) ∈ t.store.retries ∧
          t.store.seqs = s.store.seqs ∧ t.store.blocks = s.store.blocks) ∧
      (∀ t0, ok = true → (∀ f ∈ x.place.frames, f ∉ s.leasedFrames) →
        t1.closeTail q.desc b.layer b.head b.block = .ok t0 →
        Answers (exec (.closeRetryTimer b) s) fun t => (∀ y ∈ t.store.retries, y.1 ≠ b) ∧
          ∃ q' e', t.seqAt q.desc = some q' ∧ q'.entry b.layer b.head b.block = some e' ∧ e'.slot = .closed s.store.nextBlock))

/-- R100: the old place of a relocated block is freed once no operation admitted before the switch is left, and not
before; its frames that hold nothing else and are not retired wait for their zero-fill. -/
def Sys2Proof.Claims.DeferredFreeWaitsForEarlierOperations : Prop :=
  ∀ (block : Nat) (s : State) (d : DeferredFree), (s.store.deferred.find? fun x => x.block == block) = some d →
    ((∃ i ∈ d.after, (s.op i).isSome = true) → exec (.deferredFree block) s = .next s) ∧
    ((∀ i ∈ d.after, s.op i = none) → Answers (exec (.deferredFree block) s) fun t =>
      t.store.deferred = s.store.deferred.eraseP (·.block == block) ∧ t.store.seqs = s.store.seqs ∧
      t.store.blocks = s.store.blocks ∧
      (∀ f ∈ d.place.frames, f ∉ s.store.retired → (∀ p ∈ t.store.places, f ∉ p.1.frames) → f ∈ t.store.dirty) ∧ t.mem = s.mem)

/-- R57, R112, R113, R247: the primary alone expires a sequence, which takes no request from then on; a releasing sequence goes
once no operation holds it and its slice's scheduler gives its frees a turn, as background work, and not before. -/
def Sys2Proof.Claims.ExpiryAndRelease : Prop :=
  (∀ (paddock seq : Nat) (s : State) (q : Seq), s.findSeq paddock seq = some q → s.seqAt q.desc = some q → q.deadline ≠ 0 →
    (q.mirrorCopy = true → exec (.ttlExpiry paddock seq) s = .next s) ∧
    (q.mirrorCopy = false → (∀ x ∈ s.store.seqs, x.paddock = paddock → x.id = seq → x.state ≠ .releasing → x = q) →
      (s.store.seqs.map (·.desc)).Nodup →
      Answers (exec (.ttlExpiry paddock seq) s) fun t =>
        t.time = max s.time q.deadline ∧ (∃ y, t.seqAt q.desc = some y ∧ y.state = .releasing ∧ y.ref = q.ref) ∧
        t.findSeq paddock seq = none ∧ (paddock, seq) ∈ t.store.expired ∧ t.store.blocks = s.store.blocks)) ∧
  (∀ (desc : Nat) (s : State) (q : Seq), s.seqAt desc = some q → q.state.leaving = true →
    (q.ref ≠ 0 → exec (.releaseRefZero desc) s = .next s) ∧
    (∀ t1, q.ref = 0 → s.takeTurn q.slice 2 q.paddock ⟨.free, q.paddock, [desc, q.generation]⟩ 0 = (t1, false) →
      exec (.releaseRefZero desc) s = .next t1 ∧ t1.store = s.store) ∧
    (∀ t1, q.ref = 0 → s.takeTurn q.slice 2 q.paddock ⟨.free, q.paddock, [desc, q.generation]⟩ 0 = (t1, true) →
        Answers (exec (.releaseRefZero desc) s) fun t =>
      t.seqAt desc = none ∧ (∀ x ∈ s.store.seqs, x.desc ≠ desc → x ∈ t.store.seqs) ∧
      (∀ b ∈ s.store.blocks, (∀ e ∈ q.entries, e.slot ≠ .closed b.num) → b ∈ t.store.blocks) ∧
      (∀ b ∈ t.store.blocks, ∃ a ∈ s.store.blocks, a.num = b.num ∧ b = { a with refs := b.refs } ∧ b.refs ≤ a.refs)))

/-- R120, R160, R161: a restored block whose copy verifies, in memory that is in service, is lost no more, one that does
not stays as it is; a restored sequence whose objects verify, in a slice that is not stopped, is live again, and another
one stays as it is. -/
def Sys2Proof.Claims.RestorationClearsLost : Prop :=
  (∀ (b : BlockRef) (s : State) (q : Seq) (e : Entry) (n : Nat) (k : Block), s.findSeq b.paddock b.seq = some q →
    q.entry b.layer b.head b.block = some e → e.slot = .closed n → s.block n = some k →
    (s.blockOk q.sealed q.shape.recShape k = true → Answers (exec (.restoreComplete (.block b)) s) fun t =>
      t.block n = some { k with lost := false } ∧ (∀ m, m ≠ n → t.block m = s.block m)) ∧
    (s.blockOk q.sealed q.shape.recShape k = false → Answers (exec (.restoreComplete (.block b)) s) fun t =>
      t.store = s.store)) ∧
  (∀ (p i : Nat) (s : State) (q : Seq), s.findSeq p i = some q → s.seqAt q.desc = some q → q.state = .lost →
    (s.maps.fault.stoppedSlices.contains q.slice = true ∨ s.objectsOk q q.entries = false →
      Answers (exec (.restoreComplete (.whole p i)) s) fun t => t.store = s.store) ∧
    (s.maps.fault.stoppedSlices.contains q.slice = false → s.objectsOk q q.entries = true →
      Answers (exec (.restoreComplete (.whole p i)) s) fun t =>
      (∃ y, t.seqAt q.desc = some y ∧ y.state = .live ∧ y.lens = q.lens ∧ y.entries = q.entries) ∧
      t.store.blocks = s.store.blocks))

/-- R117, R151: at the end of a die's heat epoch a sweep halves HEAT in every entry of the sequences of the die's
slices, rounded down, no slot changes, and with no sealed sequence no write counter is drawn from; none runs in N2. -/
def Sys2Proof.Claims.HeatSweepHalvesHeat : Prop :=
  ∀ (die : Nat) (s : State),
    (s.awake = false → exec (.heatEpochSweep die) s = .next s) ∧
    (s.awake = true → (s.store.seqs.map (·.desc)).Nodup → Answers (exec (.heatEpochSweep die) s) fun t =>
      t.time = max s.time (s.store.heatSince.getD die s.time + s.img.service.heatEpoch) ∧
      t.store.seqs.length = s.store.seqs.length ∧ t.store.blocks = s.store.blocks ∧ t.mem = s.mem ∧
      ((∀ q ∈ s.store.seqs, q.sealed = false) → t.pads = s.pads) ∧
      ∀ i (h : i < s.store.seqs.length) (h' : i < t.store.seqs.length),
        ((∃ c ∈ s.img.slices, c.id = s.store.seqs[i].slice ∧ c.dies.head? = some die) →
          t.store.seqs[i].entries.map (·.heat) = s.store.seqs[i].entries.map (·.heat / 2) ∧
          t.store.seqs[i].entries.map (·.slot) = s.store.seqs[i].entries.map (·.slot)) ∧
        ((∀ c ∈ s.img.slices, c.id = s.store.seqs[i].slice → c.dies.head? ≠ some die) → t.store.seqs[i] = s.store.seqs[i]))

/-- R153, R155, R167, R170, R247: the engine moves only closed blocks of live sequences that are not pinned, shared or
lost, and below T1_FREE_LOW it demotes, each move in its turn; a move whose copy verifies switches the place and leaves
the stored bytes, VERSION and CHECK; a block that was lost or relocated meanwhile, or whose copy does not read back
right, keeps its place; while a lease has marked a frame of the move nothing changes, while one has a pseudo-channel of
it the controller holds it, and in its turn a freed frame of Tier-2 is zeroed and may be allocated again (R180). -/
def Sys2Proof.Claims.MigrationMovesPlacesOnly : Prop :=
  (∀ (slice : Nat) (s : State), (∀ f ∈ s.store.retired, f ∈ s.farrier.frames) → (∀ x ∈ s.pads, x.state ≠ .teardown) →
    Answers (exec (.migrationMoveIssue slice) s) fun t =>
    (s.store.dirty = [] → t.store.seqs = s.store.seqs ∧ t.store.blocks = s.store.blocks ∧ t.mem = s.mem) ∧
    ∀ m ∈ t.store.moves, m ∈ s.store.moves ∨ ∃ q ∈ s.store.seqs, ∃ e ∈ q.entries, ∃ b, e.slot = .closed m.block ∧
      q.state = .live ∧ e.pinned = false ∧ e.shared = false ∧ s.block m.block = some b ∧ b.lost = false ∧ b.refs ≤ 1 ∧
      m.source = b.whole) ∧
  (∀ (slice f : Nat) (s t0 t1 : State) (c : SliceCfg) (x : Tier2Port) (ok : Bool), s.sliceCfg slice = some c → s.awake = true →
    s.restarting 3 = false → s.host.slicesOff.contains slice = false → (∀ f ∈ s.store.retired, f ∈ s.farrier.frames) →
    (∀ x ∈ s.pads, x.state ≠ .teardown) → s.store.dirty = [f] → x ∈ s.store.ports → x.present = true → x.lost = false →
    s.portServes slice x.port = true → tier2Base x.port ≤ f → f < tier2Base x.port + 134217728 →
    t0 = (s.watermarkOwners c).foldl (fun t o => t.issueMove c o) s →
    t0.takeTurn slice 2 0 ⟨.zero, 0, [f]⟩ 32768 = (t1, ok) →
    Answers (exec (.migrationMoveIssue slice) s) fun t =>
      (ok = false → t.store.dirty = [f] ∧ t.mem = s.mem) ∧
      (ok = true → t.store.dirty = [] ∧ ∀ y ∈ t.mem, y ∈ s.mem ∧ y.1 / 32768 ≠ f)) ∧
  (∀ (slice : Nat) (s s1 t1 : State) (c : SliceCfg) (b : Block) (ok : Bool), s.sliceCfg slice = some c → c.policy = 0 →
    s.awake = true → s.restarting 3 = false → s.host.slicesOff.contains slice = false → (c.id, 0) ∉ s.store.demoting →
    s.below c 0 c.freeLow = true → (∀ x ∈ s.pads, x.state ≠ .teardown) →
    (∀ f ∈ s.store.retired, f ∈ s.farrier.frames) → s1 = { s with
        store := { s.store with demoting := s.store.demoting ++ [(c.id, 0)] } } →
    s1.demoteNext c 0 = some b → (s1.allocT2 c.id b.paddock b.place.shift b.whole.units).isSome = true →
    s1.moveTurn (if (s1.below c 0 c.freeCrit || s1.tailless c 0) = true then 1 else 2) 0 b = (t1, ok) →
    (ok = false → Answers (exec (.migrationMoveIssue slice) s) fun t =>
      t.store.moves = s.store.moves ∧ (c.id, 0) ∈ t.store.demoting) ∧
    (∀ p t0, ok = true → t1.allocT2 c.id b.paddock b.place.shift b.whole.units = some (p, t0) →
      Answers (exec (.migrationMoveIssue slice) s) fun t =>
      t.store.moves = s.store.moves ++ [⟨s.store.nextMove, b.num, b.whole, p⟩] ∧ (c.id, 0) ∈ t.store.demoting ∧
      (∃ n, p.tier = .tier2 n))) ∧
  (∀ (move : Nat) (s : State) (m : Move) (b : Block), (s.store.moves.find? fun x => x.id == move) = some m →
    s.block m.block = some b →
    ((∃ f ∈ m.source.frames ++ m.target.frames, f ∈ s.leasedFrames) →
      ∀ r, exec (.migrationMoveDone move r) s = .next s) ∧
    ((∀ f ∈ m.source.frames ++ m.target.frames, f ∉ s.leasedFrames) →
      s.mustHold (s.channelsOf m.source ++ s.channelsOf m.target) = true → ∀ r,
      Answers (exec (.migrationMoveDone move r) s) fun t => (∃ h ∈ t.store.held, h.work = .move move r) ∧
        t.store.blocks = s.store.blocks ∧ t.store.seqs = s.store.seqs ∧ t.store.moves = s.store.moves ∧ t.mem = s.mem) ∧
    ((∀ f ∈ m.source.frames ++ m.target.frames, f ∉ s.leasedFrames) →
      s.mustHold (s.channelsOf m.source ++ s.channelsOf m.target) = false → b.whole = m.source → b.lost = false →
      (∀ x ∈ s.namers m.block, x.1.state = .live) → s.portLost m.target = false →
      (∀ x, (s.namers m.block).head? = some x →
        s.blockOk x.1.sealed x.1.shape.recShape { b with place := { m.target with units := b.place.units } } = true →
        Answers (exec (.migrationMoveDone move .good) s) fun t =>
        t.block m.block = some { b with place := { m.target with units := b.place.units } } ∧
        (∀ n, n ≠ m.block → t.block n = s.block n)) ∧
      (∀ r, r ≠ .good → Answers (exec (.migrationMoveDone move r) s) fun t =>
        (∃ y, t.block m.block = some y ∧ y.stored = b.stored ∧ y.version = b.version ∧ y.check = b.check) ∧
        m.target.frame ∈ t.store.retired ∧ (∀ y ∈ t.store.moves, y.id ≠ move))) ∧
    ((∀ f ∈ m.source.frames ++ m.target.frames, f ∉ s.leasedFrames) →
      s.mustHold (s.channelsOf m.source ++ s.channelsOf m.target) = false →
      b.lost = true ∨ b.whole ≠ m.source ∨ s.portLost m.target = true → ∀ r,
      Answers (exec (.migrationMoveDone move r) s) fun t =>
        t.store.blocks = s.store.blocks ∧ t.store.seqs = s.store.seqs ∧
        t.store.moves = s.store.moves.filter (·.id != move)))

/-- R157, R160, R161: with a Tier-2 port every block on it is lost and every move to or from it is given up; the port comes
back empty, and its blocks stay lost, without bytes or a place; an event record of a device is logged. -/
def Sys2Proof.Claims.TierTwoPortsFailAndReturn : Prop :=
  (∀ (port : Nat) (s : State) (x : Tier2Port), (s.store.ports.find? fun y => y.port == port) = some x → x.present = true →
    x.lost = false → Answers (exec (.tier2PortLost port) s) fun t =>
      (t.store.ports.find? fun y => y.port == port) = some { x with lost := true } ∧
      (∀ m ∈ t.store.moves, m.source.tier ≠ .tier2 port ∧ m.target.tier ≠ .tier2 port) ∧
      t.store.blocks = s.store.blocks.map fun b => if b.place.tier = .tier2 port then { b with lost := true } else b) ∧
  (∀ (port frames : Nat) (s : State) (x : Tier2Port), (s.store.ports.find? fun y => y.port == port) = some x →
    x.present = true → x.lost = true → Answers (exec (.tier2PortReturn port frames) s) fun t =>
      (t.store.ports.find? fun y => y.port == port) = some { x with lost := false, frames := frames, poisoned := [] } ∧
      (t.store.blocks.map fun b => (b.num, b.refs)) = s.store.blocks.map (fun b => (b.num, b.refs)) ∧
      (∀ b ∈ s.store.blocks, b.place.tier ≠ .tier2 port → b ∈ t.store.blocks) ∧
      (∀ b ∈ t.store.blocks, b.place.tier ≠ .tier2 port) ∧
      (∀ b ∈ s.store.blocks, b.place.tier = .tier2 port →
        ∃ y ∈ t.store.blocks, y.num = b.num ∧ y.lost = true ∧ y.stored = [] ∧ y.place.tier = .absent ∧ y.place.units = 0)
            ∧ t.store.seqs = s.store.seqs) ∧
  (∀ (port : Nat) (record : Bytes) (s : State) (x : Tier2Port), (s.store.ports.find? fun y => y.port == port) = some x →
    x.present = true → s.restarting 5 = false → s.log.records = [] → Config.cxlFatal record = false →
    Answers (exec (.cxlEventRecord port record) s) fun t =>
      (∃ r, t.log.records = [r] ∧ r.time = s.time ∧ r.unitKind = 6 ∧ r.unit = port + 1 ∧ r.seq = s.log.nextSeq) ∧
      t.store = s.store)

/-- R143, R160, R311: a stack that stops takes its slices with it: their sequences are lost and the slices stand in the
fault status line; a hot stack refreshes at the double rate, under its leases too; a refresh is issued where the controller
owns the pseudo-channel and nowhere else, and none while the stacks refresh themselves (R374). -/
def Sys2Proof.Claims.StacksStopHeatAndRefresh : Prop :=
  (∀ (stack : Nat) (s : State) (x : Stack), (s.store.hbms.find? fun y => y.index == stack) = some x → x.stopped = false →
    Answers (exec (.stackStop stack) s) fun t =>
      (t.store.hbms.find? fun y => y.index == stack) = some { x with stopped := true } ∧
      (∀ c ∈ s.img.slices, c.hbms.contains stack = true → c.id ∈ t.maps.fault.stoppedSlices ∧
        ∀ q ∈ s.store.seqs, q.slice = c.id → q.state = .live → ∃ y ∈ t.store.seqs, y.desc = q.desc ∧ y.state = .lost) ∧
      (∀ l ∈ t.leases.leases, l.req.stack ≠ stack)) ∧
  (∀ (stack : Nat) (hot : Bool) (s : State) (x : Stack), (s.store.hbms.find? fun y => y.index == stack) = some x →
    Answers (exec (.stackTempReport stack hot) s) fun t =>
      (t.store.hbms.find? fun y => y.index == stack) = some { x with hot := hot } ∧
      (∀ l ∈ t.leases.leases, l.req.stack = stack → l.refreshRate = if hot then 2 else 1) ∧
      t.leases.leases.length = s.leases.leases.length ∧ t.store.seqs = s.store.seqs ∧ t.store.blocks = s.store.blocks) ∧
  (∀ (stack pc : Nat) (s : State) (x : Stack), (s.store.hbms.find? fun y => y.index == stack) = some x →
    (s.leased stack pc = true ∨ s.selfRefresh = true → exec (.refreshDue stack pc) s = .next s) ∧
    (s.leased stack pc = false → s.selfRefresh = false → pc < x.refreshes.length → Answers (exec (.refreshDue stack pc) s) fun t =>
      ∃ y, (t.store.hbms.find? fun z => z.index == stack) = some y ∧
        y.refreshes.getD pc 0 = x.refreshes.getD pc 0 + 1 ∧ (∀ n, n ≠ pc → y.refreshes.getD n 0 = x.refreshes.getD n 0) ∧
        y.postponed.getD pc 0 = 0 ∧ t.store.seqs = s.store.seqs ∧ t.leases = s.leases))

/-- No paddock is being torn down. -/
def Sys2Proof.Machine.State.noTeardown (s : State) : Prop := ∀ x ∈ s.pads, x.state ≠ .teardown

/-- R164, R165, R168, R169, R176: a request of an open slice that keeps the conditions becomes a draining lease for at most
LEASE_TIME once its slice's scheduler gives it a turn (R247), one of a sealed-policy slice waits for its fixed rounds; one that
breaks them, or whose program the base die refuses, becomes none and is logged. A sealed-policy slice runs one round on every
stack that works, with work or without. A stopped slice requests none (R368). -/
def Sys2Proof.Claims.LeasesAreGrantedOrRefused : Prop :=
  (∀ (r : LeaseReq) (s : State) (c : SliceCfg), s.stackSlice r.stack = some c → s.noTeardown →
    s.stackStopped r.stack = false → s.restarting 3 = false → (r.stack, r.program) ∉ s.leases.withheld →
    (s.awake = false ∨ c.id ∈ s.host.slicesOff → exec (.leaseRequest r) s = .next s) ∧
    (s.awake = true → c.id ∉ s.host.slicesOff → abiRuns (s.programAbi r.program) = true → s.leaseFits c r = true →
      (c.policy ≠ 0 → Answers (exec (.leaseRequest r) s) fun t =>
        t.leases = { s.leases with
          chores := s.leases.chores ++ [⟨r.program, r.paddock, r.frames, 0, r.param0, r.param1⟩] } ∧ t.store = s.store) ∧
      (c.policy = 0 → (s.leasedPcs r.stack).length + r.pcs.length ≤ c.leasePcs → (∀ p ∈ r.pcs, p ∉ s.leasedPcs r.stack) →
        ∀ t1 ok, s.takeTurn c.id 2 r.paddock (leaseWork r r.paddock) (r.frames.length * 32768) = (t1, ok) →
        (ok = false → exec (.leaseRequest r) s = .next t1 ∧ t1.leases = s.leases) ∧
        (ok = true → Answers (exec (.leaseRequest r) s) fun t =>
        (∃ l, t.leases.leases = s.leases.leases ++ [l] ∧ l.id = s.leases.nextLease ∧ l.phase = .draining ∧ l.fixed = false ∧
          l.req = { r with durationNs := min r.durationNs c.leaseTime, abi := s.programAbi r.program }) ∧
        t.leases.nextLease = s.leases.nextLease + 1 ∧ t.store = s.store ∧ t.mem = s.mem))) ∧
    (s.awake = true → c.id ∉ s.host.slicesOff → abiRuns (s.programAbi r.program) = false ∨ s.leaseFits c r = false →
        s.log.records = [] → s.restarting 5 = false →
      Answers (exec (.leaseRequest r) s) fun t => t.leases = s.leases ∧ t.store = s.store ∧
        ∃ x, t.log.records = [x] ∧ x.severity = 1) ∧
    (16 < r.pcs.length ∨ r.pcs = [] ∨ r.durationNs < 1000 ∨ c.leaseTimeMax < r.durationNs ∨ r.frames = [] ∨
      512 < r.frames.length → s.leaseFits c r = false) ∧
    (∀ abi, abiRuns abi = true ↔ abi / 256 = 1 ∧ abi % 256 ≤ 2)) ∧
  (∀ (slice : Nat) (s : State) (c : SliceCfg), s.sliceCfg slice = some c →
    (c.policy = 0 ∨ slice ∈ s.host.slicesOff → exec (.leaseRoundTimer slice) s = .next s) ∧
    (c.policy ≠ 0 → slice ∉ s.host.slicesOff → s.noTeardown → s.restarting 3 = false → Answers (exec (.leaseRoundTimer slice) s) fun t =>
      (∀ l ∈ t.leases.leases, l ∈ s.leases.leases ∨ (l.req.stack ∈ c.hbms ∧ l.fixed = true ∧ l.phase = .draining ∧
        l.req.durationNs = min c.leaseTime c.leaseTimeMax ∧ l.req.pcs.length ≤ c.leasePcs)) ∧
      (c.hbms.Nodup → 1 ≤ c.leasePcs → c.leasePcs ≤ 16 → (∀ l ∈ s.leases.leases, l.req.stack ∉ c.hbms) →
        t.leases.leases.length = s.leases.leases.length +
          (c.hbms.filter fun k => !(s.store.hbms.any fun x => x.index == k && x.stopped)).length) ∧
      (∀ r, (s.leases.rounds.find? (·.1 == slice)) = some (slice, r) → t.time = max s.time (r + c.leasePeriod)) ∧
      t.store = s.store ∧ t.mem = s.mem))

/-- R166, R171, R172, R177: the handover starts the lease's time and its program, on core 0 where all are free; a refresh under
the lease pauses the program. -/
def Sys2Proof.Claims.LeaseStartsAndRefreshes : Prop :=
  ∀ (i : Nat) (s : State) (l : Lease), (s.leases.leases.find? fun x => x.id == i) = some l →
    (l.phase = .draining → Answers (exec (.leaseHandoverDone i) s) fun t =>
      (∃ y, (t.leases.leases.find? fun x => x.id == i) = some y ∧ y.phase = .running ∧
        y.expires = s.time + l.req.durationNs ∧ y.req = l.req ∧
        (l.req.frames ≠ [] → (∀ x ∈ s.leases.leases, x.core = none) → y.core = some 0) ∧
        (l.req.frames = [] → y.core = l.core)) ∧
      t.store.seqs = s.store.seqs ∧ t.store.blocks = s.store.blocks ∧ t.mem = s.mem) ∧
    (l.phase = .running → ∀ pc x, pc ∈ l.req.pcs → (s.store.hbms.find? fun y => y.index == l.req.stack) = some x →
      pc < x.refreshes.length → Answers (exec (.leaseRefreshDue i pc) s) fun t =>
        (∃ y, (t.leases.leases.find? fun x => x.id == i) = some y ∧ y.paused = l.paused + 1 ∧ y.phase = .running ∧
          y.req = l.req) ∧
        ∃ y, (t.store.hbms.find? fun z => z.index == l.req.stack) = some y ∧
          y.refreshes.getD pc 0 = x.refreshes.getD pc 0 + 1 ∧ t.mem = s.mem)

/-- The phase in which a program's end leaves its lease at a time: one of a fixed round stays out for its whole time (R168; the
model's choice for its end before it, log 118). -/
def Sys2Proof.Machine.Lease.endPhase (l : Lease) (now : Nat) : LeasePhase :=
  if l.fixed && now < l.expires then .running else .returning

/-- R166, R169, R178: an access outside the fence ends a running program with RESULT 2 and withholds it on that base die, one
inside it is none; expiry ends it with RESULT 1 at NEXT_FRAME; a program that is done leaves its results. Only ZERO has written
memory or objects by then. -/
def Sys2Proof.Claims.LeaseProgramsEnd : Prop :=
  ∀ (i : Nat) (s : State) (l : Lease), (s.leases.leases.find? fun x => x.id == i) = some l → l.phase = .running →
    (∀ address c, s.stackSlice l.req.stack = some c →
      (address / 32768 ∈ l.fence c → exec (.fenceFault i address) s = .next s) ∧
      (address / 32768 ∉ l.fence c → l.core ≠ none → s.restarting 5 = false → s.log.records = [] →
        Answers (exec (.fenceFault i address) s) fun t =>
        (∃ y, (t.leases.leases.find? fun x => x.id == i) = some y ∧ y.phase = l.endPhase s.time ∧ y.core = none ∧ y.code = 2) ∧
        (l.req.stack, l.req.program) ∈ t.leases.withheld ∧
        (∃ r, t.log.records = [r] ∧ r.severity = 1 ∧ r.code = 0x3004 ∧ r.address = address) ∧
        (l.req.program ≠ 4 → t.store = s.store) ∧ t.mem = s.mem)) ∧
    (∀ next, Answers (exec (.leaseExpiry i next) s) fun t =>
      t.time = max s.time l.expires ∧
      (l.core = none → (t.leases.leases.find? fun x => x.id == i) = some { l with phase := .returning }) ∧
      (l.core ≠ none → ∃ y r, (t.leases.leases.find? fun x => x.id == i) = some y ∧ y.phase = .returning ∧
        y.code = 1 ∧ y.result = some r ∧ r.nextFrame = next) ∧ (l.req.program ≠ 4 → t.store = s.store ∧ t.mem = s.mem)) ∧
    (∀ r, l.core = none → exec (.stallProgramDone i r) s = .next s) ∧
    (∀ r, l.core ≠ none → s.time ≤ l.expires → (l.req.program = 3 → (s.pad l.req.paddock).state ≠ .sealed) →
      Answers (exec (.stallProgramDone i r) s) fun t =>
        (t.leases.leases.find? fun x => x.id == i) =
          some { l with phase := l.endPhase s.time, core := none, code := r.result, result := some r } ∧
        (l.req.program ≠ 4 → t.store = s.store ∧ t.mem = s.mem))

/-- R113, R173, R174, R178: ZERO that is done has cleared every byte of the frames from its FIRST_FRAME on, and where
none of them is a metadata frame no other byte of memory. -/
def Sys2Proof.Claims.ZeroClearsItsFrames : Prop :=
  ∀ (i : Nat) (s : State) (l : Lease) (r : ProgramResult), (s.leases.leases.find? fun x => x.id == i) = some l →
    l.phase = .running → l.core ≠ none → s.time ≤ l.expires → l.req.program = 4 → r.result = 0 → Memory.wf s.mem = true →
    Answers (exec (.stallProgramDone i r) s) fun t =>
      (∀ f ∈ l.req.frames.drop l.firstFrame, ∀ k < 32768, Memory.read t.mem (f * 32768 + k) = 0) ∧
      ((∀ f ∈ l.req.frames, ∀ c, s.sliceOfFrame f = some c → c.eccPlace f = none) →
        ∀ a, a / 32768 ∉ l.req.frames.drop l.firstFrame → Memory.read t.mem a = Memory.read s.mem a) ∧
      t.store.dirty = s.store.dirty ∧ Memory.wf t.mem = true

/-- R113, R166, R170, R178, R179, R296: with nothing held for its pseudo-channels, a lease that returns is gone and its
cycles are charged; the frames that ZERO has cleared may be allocated again; a program that expired goes on from
NEXT_FRAME. While O3 restarts, the call block waits to be read. -/
def Sys2Proof.Claims.ReturnedLeaseDeliversItsResult : Prop :=
  ∀ (i : Nat) (s : State) (l : Lease) (r : ProgramResult), (s.leases.leases.find? fun x => x.id == i) = some l →
    l.phase = .returning → l.result = some r → l.req.program = 4 → s.store.held = [] →
    (∀ f ∈ l.req.frames, f ∉ s.store.retired) →
    (s.restarting 3 = true → Answers (exec (.leaseReturnDone i) s) fun t =>
      (t.leases.leases.find? fun x => x.id == i) = some { l with phase := .returned } ∧ t.store.dirty = s.store.dirty ∧
      t.leases.chores = s.leases.chores ∧ t.mem = s.mem) ∧
    (s.restarting 3 = false → Answers (exec (.leaseReturnDone i) s) fun t =>
      (∀ x ∈ t.leases.leases, x.id ≠ i) ∧
      ((s.pad l.req.paddock).state ≠ .teardown →
        (t.pad l.req.paddock).counters = updateAt 8 (fun n => (n + r.cycles) % 2 ^ 64) (s.pad l.req.paddock).counters) ∧
      (l.code = 0 → (∀ f ∈ l.req.frames.drop l.firstFrame, f ∉ t.store.dirty) ∧ t.leases.chores = s.leases.chores) ∧
      (l.code = 1 → r.nextFrame < l.req.frames.length →
        (∀ f ∈ (l.req.frames.take r.nextFrame).drop l.firstFrame, f ∉ t.store.dirty) ∧
        t.leases.chores = s.leases.chores ++ [⟨4, l.req.paddock, l.req.frames, max l.firstFrame r.nextFrame, l.req.param0,
            l.req.param1⟩]) ∧
      t.store.seqs = s.store.seqs ∧ t.store.blocks = s.store.blocks ∧ t.mem = s.mem)

/-- R320, R322, R323: a swap takes the next cluster of the rotation out: a spare is tested at once, a mapped one gives its ID
to a passed spare once its units have ended, and drains until then; the test makes it a spare, which is to take an ID that no
cluster holds, gives an ID that it left back, or retires it. -/
def Sys2Proof.Claims.LbistSwapsAndJudges : Prop :=
  (∀ (die : Nat) (s : State) (k : Cluster), s.nextTest die = some k → (s.eng.clusters.map fun x => (x.die, x.phys)).Nodup →
    (∀ y ∈ s.eng.clusters, ∀ m, y.use ≠ .draining m) → die < s.eng.lbistNext.length →
    (∀ b, k.use = .spare b → Answers (exec (.lbistSwapTimer die) s) fun t =>
      (∃ y ∈ t.eng.clusters, y.die = die ∧ y.phys = k.phys ∧ y.use = .testing ∧ y.ktb = []) ∧
      t.eng.lbistNext.getD die 0 = (k.phys + 1) % 68 ∧ t.eng.ops = s.eng.ops) ∧
    (∀ l x, k.use = .mapped l → s.inUse (die, l) = false → (s.eng.clusters.find? fun y =>
        y.die == die && decide (y.use = .spare true) && y.spareSince.isNone) = some x →
      Answers (exec (.lbistSwapTimer die) s) fun t =>
        (∃ y ∈ t.eng.clusters, y.die = die ∧ y.phys = k.phys ∧ y.use = .testing ∧ y.ktb = []) ∧
        (∃ y ∈ t.eng.clusters, y.die = die ∧ y.phys = x.phys ∧ y.use = .mapped l)) ∧
    (∀ l, k.use = .mapped l → s.inUse (die, l) = true → s.sealedCluster die l = false →
      Answers (exec (.lbistSwapTimer die) s) fun t =>
        ∃ y ∈ t.eng.clusters, y.die = die ∧ y.phys = k.phys ∧ y.use = .draining l)) ∧
  (∀ (die phys : Nat) (s : State) (k : Cluster),
    (s.eng.clusters.find? fun x => x.die == die && x.phys == phys) = some k →
    (k.use = .testing → Answers (exec (.lbistDone die phys true) s) fun t =>
      ∃ y, (t.eng.clusters.find? fun x => x.die == die && x.phys == phys) = some y ∧ y.use = .spare true ∧ y.result = 1 ∧
        y.ktb = [] ∧ ∀ l, k.spareSince = none → s.vacant die = some l → y.spareSince = some (l, s.time)) ∧
    (∀ l, k.use = .swapping l → Answers (exec (.lbistDone die phys true) s) fun t =>
      ∃ y, (t.eng.clusters.find? fun x => x.die == die && x.phys == phys) = some y ∧ y.use = .mapped l ∧ y.result = 1) ∧
    (k.use = .testing → Answers (exec (.lbistDone die phys false) s) fun t =>
      (∃ y, (t.eng.clusters.find? fun x => x.die == die && x.phys == phys) = some y ∧ y.use = .retired ∧ y.result = 2) ∧
      (die, phys) ∈ t.farrier.clusters ∧ t.maps.fault.retiredClusters = s.maps.fault.retiredClusters + 1))

/-- R320: a spare that passed takes the retired cluster's logical ID when SPARE_WAIT is over and no cluster holds it. -/
def Sys2Proof.Claims.SpareTakesTheIdAfterItsWait : Prop :=
  ∀ (die phys logical passed : Nat) (s : State) (k : Cluster),
    (s.eng.clusters.find? fun x => x.die == die && x.phys == phys) = some k → k.use = .spare true →
    k.spareSince = some (logical, passed) → (s.eng.clusters.map fun x => (x.die, x.phys)).Nodup →
    s.clusterOf die logical = none → Answers (exec (.spareWaitExpiry die phys) s) fun t =>
      t.time = max s.time (passed + s.img.service.spareWait) ∧
      ∃ y, (t.eng.clusters.find? fun x => x.die == die && x.phys == phys) = some y ∧ y.use = .mapped logical ∧ y.spareSince = none

/-- R226, R299: a closing window is free, without its key, once no admitted message of its connections is left, and not
before; a teardown begins its zero-fill once no operation is left, and one whose zero-fill has ended leaves the paddock
FREE and empty, with a final Tally record under the old generation, and a queued create takes effect under the next one.
-/
def Sys2Proof.Claims.WindowsAndPaddocksAreFreedLast : Prop :=
  (∀ (window : Nat) (s : State) (w : Window), s.window window = some w → w.state = .closing →
    ((∃ m ∈ s.net.inbox, ∃ q ∈ s.net.qps, q.qpn = m.qpn ∧ q.window = some (w.index, w.gen)) →
      exec (.windowFree window) s = .next s) ∧
    ((∀ m ∈ s.net.inbox, ∀ q ∈ s.net.qps, q.qpn = m.qpn → q.window ≠ some (w.index, w.gen)) →
      Answers (exec (.windowFree window) s) fun t =>
        t.window window = some { w with state := .free, key := [], takeover := none, parts := [] } ∧ t.store = s.store ∧
        t.net = s.net)) ∧
  (∀ (p : Nat) (s : State), (s.pad p).state = .teardown → 1 ≤ p → Memory.wf s.mem = true →
    ((∃ o ∈ s.eng.ops, o.req.paddock = p) → exec (.teardownComplete p) s = .next s) ∧
    ((∀ o ∈ s.eng.ops, o.req.paddock ≠ p) → (s.pad p).zeroing = false →
      exec (.teardownComplete p) s = .next s.zeroTeardowns) ∧
    ((∀ o ∈ s.eng.ops, o.req.paddock ≠ p) → (s.pad p).zeroing = true → s.zeroPending p = true →
      exec (.teardownComplete p) s = .next s) ∧
    ((∀ o ∈ s.eng.ops, o.req.paddock ≠ p) → (s.pad p).zeroing = true → s.zeroPending p = false →
      Answers (exec (.teardownComplete p) s) fun t =>
      (∀ q ∈ t.store.seqs, q.paddock ≠ p) ∧ (∀ b ∈ t.store.blocks, b.paddock ≠ p) ∧ (∀ w ∈ t.store.weights, w.paddock ≠ p) ∧
      (∀ w ∈ t.maps.windows, w.localPaddock = p → w.state = .free ∧ w.key = []) ∧
      (∀ w ∈ s.maps.windows, w.localPaddock = p → w.state ≠ .free → ∀ k < w.length, Memory.read t.mem (w.base + k) = 0) ∧
      (t.pad p).final = some ⟨s.time, (s.pad p).generation, (s.pad p).counters⟩ ∧
      (t.pad p).counters = List.replicate 10 0 ∧
      ((s.pad p).queued = none → (t.pad p).state = .free ∧ (t.pad p).generation = (s.pad p).generation) ∧
      (∀ c k, (s.pad p).queued = some (c, k) → (t.pad p).generation = ((s.pad p).generation + 1) % 2 ^ 32 ∧
        (t.pad p).config = c ∧ (t.pad p).state = if c.requireSeal then .awaitSeal else .open_) ∧
      (∀ o, o ≠ p → t.pad o = s.pad o)))

/-- R296: every millisecond each paddock that is not FREE is charged its use of both tiers, in whole KiB. -/
def Sys2Proof.Claims.OccupancyIsChargedEveryTick : Prop :=
  ∀ s : State, (s.pads.map (·.id)).Nodup → Answers (exec .tallyOccupancyTick s) fun t =>
    (∀ p ∈ s.pads, p.state ≠ .free → p.counters.length = 10 →
      (t.pad p.id).counters.getD 2 0 = (p.counters.getD 2 0 + s.t1Use p.id / 1024) % 2 ^ 64 ∧
      (t.pad p.id).counters.getD 3 0 = (p.counters.getD 3 0 + s.t2Use p.id / 1024) % 2 ^ 64 ∧
      (∀ i, i ≠ 2 → i ≠ 3 → (t.pad p.id).counters.getD i 0 = p.counters.getD i 0)) ∧
    (∀ p ∈ s.pads, p.state = .free → t.pad p.id = p) ∧ t.store = s.store ∧ t.mem = s.mem

/-- The exchange and OPCODE of a mailbox command. -/
def Sys2Proof.Instr.mailbox : Instr → Option (Mbx × Nat)
  | .nodeInfo m => some (m, 0x01)
  | .fwLoad m => some (m, 0x02)
  | .fwStart m => some (m, 0x03)
  | .rimWrite m => some (m, 0x10)
  | .rimCommit m => some (m, 0x11)
  | .rimReject m => some (m, 0x12)
  | .rimStatus m => some (m, 0x13)
  | .warmReset m => some (m, 0x20)
  | .ostlerRestart m => some (m, 0x21)
  | .paddockCreate m => some (m, 0x30)
  | .paddockTeardown m => some (m, 0x31)
  | .paddockQuery m => some (m, 0x32)
  | .auditMode m => some (m, 0x33)
  | .windowInstall m => some (m, 0x40)
  | .windowRemove m => some (m, 0x41)
  | .regionSet m => some (m, 0x42)
  | .weightCreate m => some (m, 0x50)
  | .weightCommit m => some (m, 0x51)
  | .weightRemove m => some (m, 0x52)
  | .schedSet m => some (m, 0x60)
  | .gclSet m => some (m, 0x61)
  | .tallySnapshot m => some (m, 0x70)
  | .tallyFetch m => some (m, 0x71)
  | .logRead m => some (m, 0x80)
  | .healthRead m => some (m, 0x90)
  | .powerSet m => some (m, 0xA0)
  | _ => none

/-- An exchange that the node takes up at once: BAR0 is open, the mailbox is served and idle, no other doorbell waits, and
`b` is what its buffer holds once the request is written. -/
structure Sys2Proof.Machine.Rung (s : State) (m : Mbx) (op : Nat) (b : Mail) : Prop where
  open_ : s.bar0Open = true
  awake : s.awake = true
  opcode : le m.bytes 2 2 = op
  whole : 32 ≤ m.bytes.length
  box : m.box ≤ 2
  four : s.host.boxes.length = 4
  serves : s.serves m.box = true
  idle : (s.box m.box).busy = false
  alone : s.host.doorbells = []
  mail : b = Mail.parse m.box (overlay (s.box m.box).buffer (m.bytes.take 4096))

/-- Whether a request has a body where its command has none, or one longer than a message's (R358, R362). -/
def Sys2Proof.Machine.Mail.tooLong (b : Mail) (op : Nat) : Bool :=
  4064 < b.length || (b.length != 0 && [0x01, 0x03, 0x12, 0x13, 0x20, 0x31, 0x32, 0x90].contains op)

/-- An exchange whose command is carried out: version, stage and ostler allow it and LENGTH suits it. -/
structure Sys2Proof.Machine.Asked (s : State) (m : Mbx) (op : Nat) (b : Mail) : Prop where
  rung : Rung s m op b
  version : s.versionOk b = true
  stage : stageServes s.boot.stage op = true
  ostler : (cmdOstler op).any s.restarting = false
  length : b.tooLong op = false

/-- The buffer of a mailbox holds the response with a status and a body; BUSY is clear and DONE set (R357, R358). -/
def Sys2Proof.Machine.State.answered (t : State) (b : Mail) (status : Nat) (body : Bytes) : Prop :=
  (t.box b.box).busy = false ∧ (t.box b.box).done = true ∧
  ∃ detail, (t.box b.box).buffer.take (32 + body.length) = replyHeader b status detail body.length ++ body

/-- R357, R359, R361, R354, R362: a doorbell while BUSY is ignored and recorded; a request in a refused version, a
command that the stage does not serve, one whose ostler restarts, and one with a body that its command has not are
answered for it and change nothing but their mailbox. -/
def Sys2Proof.Claims.MailboxRefusesOutOfTurn : Prop :=
  ∀ (c : Instr) (m : Mbx) (op : Nat) (s : State), c.mailbox = some (m, op) →
    (s.bar0Open = true → le m.bytes 2 2 = op → 6 ≤ s.boot.stage → m.box ≤ 2 → s.host.boxes.length = 4 → s.host.doorbells = [] →
      (s.box m.box).busy = true → Answers (exec c s) fun t =>
        (t.box m.box).rejected = true ∧ (t.box m.box).buffer = (s.box m.box).buffer ∧ (t.box m.box).busy = true ∧
        t.boot = s.boot ∧ t.pads = s.pads ∧ t.store = s.store ∧ t.maps.windows = s.maps.windows ∧ t.pwr = s.pwr) ∧
    (∀ b, Rung s m op b →
      (s.versionOk b = false → Answers (exec c s) fun t =>
        t.answered b St.version [] ∧ t.boot = s.boot ∧ t.pads = s.pads ∧ t.store = s.store ∧ t.maps.windows = s.maps.windows) ∧
      (s.versionOk b = true → stageServes s.boot.stage op = false → Answers (exec c s) fun t =>
        t.answered b St.denied [] ∧ t.boot = s.boot ∧ t.pads = s.pads ∧ t.store = s.store ∧ t.maps.windows = s.maps.windows) ∧
      (s.versionOk b = true → stageServes s.boot.stage op = true → (cmdOstler op).any s.restarting = true →
        Answers (exec c s) fun t =>
          t.answered b St.degradedRetry [] ∧ t.boot = s.boot ∧ t.pads = s.pads ∧ t.store = s.store ∧
          t.maps.windows = s.maps.windows) ∧
      (s.versionOk b = true → stageServes s.boot.stage op = true → (cmdOstler op).any s.restarting = false →
        b.tooLong op = true → Answers (exec c s) fun t =>
          t.answered b St.badParam [] ∧ t.boot = s.boot ∧ t.pads = s.pads ∧ t.store = s.store ∧
          t.maps.windows = s.maps.windows))

/-- What a command that only reads leaves as it was. -/
def Sys2Proof.Machine.State.readOnly (s t : State) : Prop :=
  t.boot = s.boot ∧ t.pads = s.pads ∧ t.store = s.store ∧ t.maps.windows = s.maps.windows ∧ t.net = s.net ∧ t.log = s.log ∧
  t.pwr = s.pwr ∧ t.eng = s.eng ∧ t.mem = s.mem

/-- R285, R297, R317, R362, R367: the reading commands answer with their bodies and change nothing but their mailbox. -/
def Sys2Proof.Claims.ReadingCommandsAnswer : Prop :=
  ∀ (m : Mbx) (s : State) (b : Mail),
    (Asked s m 0x01 b → Answers (exec (.nodeInfo m) s) fun t => s.readOnly t ∧ t.answered b St.ok
      (toLe 2 (if s.fused.a768 then 0x0A40 else 0x0A41) ++ toLe 1 s.fused.revision ++ toLe 1 s.boot.stage
        ++ sub s.fused.serial 0 16 ++ toLe 2 ((s.boot.bundle.map (·.1)).getD 0) ++ toLe 4 s.img.version
        ++ toLe 2 s.boot.nodeId ++ zeros 4)) ∧
    (Asked s m 0x13 b → Answers (exec (.rimStatus m) s) fun t => s.readOnly t ∧ ∃ body, t.answered b St.ok body ∧
      body.length = 17 ∧ body.take 2 = toLe 1 (s.slot 0).state.code ++ toLe 1 (s.slot 0).reason ∧
      (body.drop 8).take 2 = toLe 1 (s.slot 1).state.code ++ toLe 1 (s.slot 1).reason ∧ body.drop 16 = toLe 1 s.boot.floor) ∧
    (Asked s m 0x32 b → Answers (exec (.paddockQuery m) s) fun t => s.readOnly t ∧ t.answered b St.ok (s.padRecord b.paddock)) ∧
    (Asked s m 0x90 b → Answers (exec (.healthRead m) s) fun t => s.readOnly t ∧ ∃ rest, t.answered b St.ok (s.faultLine ++ rest) ∧
      rest.length = 8) ∧
    (Asked s m 0x70 b → 1 ≤ le b.body 0 1 → le b.body 0 1 ≤ 64 → b.body.length = 2 + 2 * le b.body 0 1 →
      Answers (exec (.tallySnapshot m) s) fun t => s.readOnly t ∧ t.answered b St.ok (toLe 8 s.time) ∧
        (t.box m.box).latch = (List.range (le b.body 0 1)).map fun i => s.snapshot (le b.body (2 + 2 * i) 2 % 4096)) ∧
    (Asked s m 0x71 b → b.body.length = 2 → 1 ≤ le b.body 1 1 → le b.body 1 1 ≤ 40 →
      le b.body 0 1 + le b.body 1 1 ≤ (s.box m.box).latch.length →
      Answers (exec (.tallyFetch m) s) fun t => s.readOnly t ∧ (t.box m.box).latch = (s.box m.box).latch ∧ t.answered b St.ok
        ((((s.box m.box).latch.drop (le b.body 0 1)).take (le b.body 1 1)).map TallyRec.bytes).flatten) ∧
    (Asked s m 0x80 b → b.body.length = 5 → 1 ≤ le b.body 4 1 → le b.body 4 1 ≤ 63 →
      Answers (exec (.logRead m) s) fun t => s.readOnly t ∧ ∃ head, head.length = 8 ∧ t.answered b St.ok
        (head ++ (((s.log.records.filter fun r => max 1 (le b.body 0 4) ≤ r.seq).take (le b.body 4 1)).map LogRec.bytes).flatten))

/-- R176, R333, R335, R336, R341, R352: the pieces of a bundle are staged, and FW_START runs the ostlers and takes the
stall programs of one that passes and no other; RIM_WRITE writes a slot that is neither active nor on probation,
RIM_COMMIT makes a valid image pending, and during a probation both are refused, which RIM_REJECT ends. -/
def Sys2Proof.Claims.FirmwareAndImagesAreLoaded : Prop :=
  ∀ (m : Mbx) (s : State) (b : Mail),
    (Asked s m 0x02 b → 8 ≤ b.body.length → 1 ≤ le b.body 4 4 → le b.body 4 4 ≤ 33554432 →
      le b.body 0 4 + (b.body.length - 8) ≤ le b.body 4 4 → Answers (exec (.fwLoad m) s) fun t =>
        t.answered b St.ok [] ∧ t.boot.fwTotal = some (le b.body 4 4) ∧
        t.boot.fwPieces = (le b.body 0 4, b.body.drop 8) ::
          (if s.boot.fwTotal = some (le b.body 4 4) then s.boot.fwPieces else []) ∧ t.boot.stage = s.boot.stage) ∧
    (Asked s m 0x03 b → s.boot.stage = 6 → ∀ n, s.boot.fwTotal = some n →
      (stagedWhole s.boot.fwPieces n = false → Answers (exec (.fwStart m) s) fun t =>
        t.answered b St.badParam [] ∧ t.boot = s.boot) ∧
      (stagedWhole s.boot.fwPieces n = true → s.bundleCause (stagedBytes s.boot.fwPieces n) = 0 →
        Answers (exec (.fwStart m) s) fun t => t.boot.stage = 8 ∧ t.boot.imageLock = true ∧ t.boot.fwCause = 0 ∧
          (∀ i x, i ≤ 7 → t.ostler i = some x → x.running = true) ∧
          t.leases.programs = declaredAbis (stagedBytes s.boot.fwPieces n) ∧ t.answered b St.ok []) ∧
      (stagedWhole s.boot.fwPieces n = true → s.bundleCause (stagedBytes s.boot.fwPieces n) ≠ 0 →
        Answers (exec (.fwStart m) s) fun t => t.boot.stage = 6 ∧
          t.boot.fwCause = s.bundleCause (stagedBytes s.boot.fwPieces n) ∧
          t.ostlers = s.ostlers ∧ ∃ st, st ≠ St.ok ∧ t.answered b st [])) ∧
    (Asked s m 0x10 b → s.slotIn .probation = none → 8 ≤ b.body.length → s.slotWritable (le b.body 0 1) = true →
      s.boot.slots.length = 2 → le b.body 4 4 + (b.body.length - 8) ≤ 25165824 → Answers (exec (.rimWrite m) s) fun t =>
        t.answered b St.ok [] ∧ (t.slot (le b.body 0 1)).state = .empty ∧
        (t.slot (le b.body 0 1)).bytes = Memory.writeBytes (s.slot (le b.body 0 1)).bytes (le b.body 4 4) (b.body.drop 8) ∧
        t.slot (1 - le b.body 0 1) = s.slot (1 - le b.body 0 1) ∧ t.boot.stage = s.boot.stage) ∧
    (Asked s m 0x11 b → s.slotIn .probation = none → b.body.length = 8 → s.slotWritable (le b.body 0 1) = true →
      s.boot.slots.length = 2 → s.boot.stage ≠ 14 → ∀ r, r = s.imgReason (s.slot (le b.body 0 1)).bytes (le b.body 4 4) →
      Answers (exec (.rimCommit m) s) fun t =>
        t.answered b St.ok (toLe 1 (t.slot (le b.body 0 1)).state.code ++ toLe 1 r) ∧
        (t.slot (le b.body 0 1)).state = (if r = 0 then .pending else .failed) ∧ (t.slot (le b.body 0 1)).reason = r ∧
        t.slot (1 - le b.body 0 1) = s.slot (1 - le b.body 0 1)) ∧
    ((Asked s m 0x10 b → (∃ i, s.slotIn .probation = some i) → Answers (exec (.rimWrite m) s) fun t =>
        t.answered b St.denied [] ∧ t.boot = { s.boot with rimReason := 0x0B }) ∧
     (Asked s m 0x11 b → (∃ i, s.slotIn .probation = some i) → Answers (exec (.rimCommit m) s) fun t =>
        t.answered b St.denied [] ∧ t.boot = { s.boot with rimReason := 0x0B })) ∧
    (Asked s m 0x12 b → s.boot.probationEnd ≠ none → s.boot.inForce < s.boot.slots.length →
      Answers (exec (.rimReject m) s) fun t =>
        t.answered b St.ok [] ∧ (t.slot s.boot.inForce).state = .failed ∧ t.boot.probationEnd = none ∧
        t.boot.stage = s.boot.stage)

/-- O2 holds no operation, or the ostler is another one (R354). -/
def Sys2Proof.Machine.State.noneHeld (s : State) (i : Nat) : Prop := i ≠ 2 ∨ ∀ o ∈ s.eng.ops, o.needsO2 = false

/-- R353, R354, R368: OSTLER_RESTART halts one ostler, zeroes its data SRAM and counts it; PORT_CTL disables a link,
moving its connections, and enables it again; SLICE_CTL stops a slice, whose waiting requests are answered, and starts
it under the next generation. A repeated shutdown cancels a queued re-enable, and a second re-enable is refused. -/
def Sys2Proof.Claims.FunctionsShutDownAndComeBack : Prop :=
  ∀ (m : Mbx) (s : State) (b : Mail),
    (Asked s m 0x21 b → b.body.length = 1 → ∀ o, s.ostler (le b.body 0 1) = some o → o.running = true →
      s.restarting (le b.body 0 1) = false → le b.body 0 1 ≤ 7 → (s.function 3 (le b.body 0 1)).shutting = false →
          (o.restarts.filter fun t => s.time < t + 600000000000).length ≤ 3 →
      Answers (exec (.ostlerRestart m) s) fun t =>
        t.answered b St.ok (toLe 4 (s.function 3 (le b.body 0 1)).generation) ∧ t.restarting (le b.body 0 1) = true ∧
        (∃ x, t.ostler (le b.body 0 1) = some x ∧ x.running = false ∧ x.probationRestarts = o.probationRestarts + 1 ∧
          x.data = [] ∧ s.time ∈ x.restarts) ∧ (s.noneHeld (le b.body 0 1) → t.store = s.store ∧ t.pads = s.pads)) ∧
    (Asked s m 0x21 b → b.body.length = 1 → le b.body 0 1 ≤ 7 → (s.function 3 (le b.body 0 1)).shutting = true →
      (s.function 3 (le b.body 0 1)).reenable = true → Answers (exec (.ostlerRestart m) s) fun t =>
        t.answered b St.busyTeardown [] ∧ t.ostlers = s.ostlers ∧ t.store = s.store) ∧
    (∀ l, b.body.length = 2 → le b.body 0 1 % 16 ≤ 3 → s.link (portLink b) = some l →
      (Asked s m 0x22 b → le m.bytes 33 1 = 0 → le b.body 1 1 = 0 →
        (l.enabled = true → l.shuttingDown = none → Answers (exec (.portCtlDisable m) s) fun t =>
          t.answered b St.ok (toLe 4 l.gen) ∧
          t.link l.id = some { l with enabled := false, reenable := false, shuttingDown := some s.time } ∧
          ((∃ k ∈ s.net.links, k.id ≠ l.id ∧ k.up = true ∧ k.enabled = true) → ∀ q ∈ t.net.qps, q.homePort ≠ l.id)) ∧
        (l.shuttingDown ≠ none → Answers (exec (.portCtlDisable m) s) fun t =>
          t.answered b St.ok (toLe 4 l.gen) ∧ t.link l.id = some { l with reenable := false })) ∧
      (Asked s m 0x22 b → le m.bytes 33 1 ≠ 0 → le b.body 1 1 = 1 → l.enabled = false →
        (l.shuttingDown = none → l.reenable = false → Answers (exec (.portCtlEnable m) s) fun t =>
          t.answered b St.ok (toLe 4 (nextGen l.gen)) ∧ t.link l.id = some { l with reenable := true, gen := nextGen l.gen }) ∧
        (l.shuttingDown ≠ none → l.reenable = false → Answers (exec (.portCtlEnable m) s) fun t =>
          t.answered b St.ok (toLe 4 (nextGen l.gen)) ∧ t.link l.id = some { l with reenable := true }) ∧
        (l.shuttingDown ≠ none → l.reenable = true → Answers (exec (.portCtlEnable m) s) fun t =>
          t.answered b St.busyTeardown [] ∧ t.link l.id = some l))) ∧
    (∀ k, b.body.length = 2 → s.sliceCfg (le b.body 0 1) = some k →
      (Asked s m 0x23 b → le m.bytes 33 1 = 0 → le b.body 1 1 = 0 → s.host.slicesOff.contains (le b.body 0 1) = false →
        s.eng.ops = [] → Answers (exec (.sliceCtlStop m) s) fun t =>
          t.answered b St.ok (toLe 4 (s.function 2 (le b.body 0 1)).generation) ∧ le b.body 0 1 ∈ t.host.slicesOff ∧
          (t.function 2 (le b.body 0 1)).shutting = true ∧ t.store = s.store) ∧
      (Asked s m 0x23 b → le m.bytes 33 1 ≠ 0 → le b.body 1 1 = 1 → s.host.slicesOff.contains (le b.body 0 1) = true →
        ((s.function 2 (le b.body 0 1)).shutting = false → Answers (exec (.sliceCtlStart m) s) fun t =>
          t.answered b St.ok (toLe 4 (nextGen (s.function 2 (le b.body 0 1)).generation)) ∧ le b.body 0 1 ∉ t.host.slicesOff ∧
          (t.function 2 (le b.body 0 1)).generation = nextGen (s.function 2 (le b.body 0 1)).generation ∧ t.store = s.store) ∧
        ((s.function 2 (le b.body 0 1)).shutting = true → (s.function 2 (le b.body 0 1)).reenable = true →
          Answers (exec (.sliceCtlStart m) s) fun t => t.answered b St.busyTeardown [] ∧ le b.body 0 1 ∈ t.host.slicesOff)))

/-- R271, R350, R353, R365, R368: a shutdown that has ended is reported, and a queued re-enable takes effect under the
next generation; 10 ms after its disable a link's waiting frames are discarded; a watchdog or an access that its regions
do not permit restarts one ostler, and a create that O2 holds ends with it (R354); an error report is logged, and one of
a tag mismatch discards what made the access. -/
def Sys2Proof.Claims.ShutdownsEndAndErrorsAreHandled : Prop :=
  (∀ (link : Nat) (s : State) (l : Link) (d : Sched), s.link link = some l → s.sched (16 + link) = some d → link < 32 →
    (∀ at_, l.shuttingDown = some at_ → Answers (exec (.portEgressDiscard link) s) fun t =>
      t.time = max s.time (at_ + 10000000) ∧ t.egressEmpty link = true ∧ t.net = s.net ∧ t.store = s.store) ∧
    (l.shuttingDown ≠ none → (∀ q ∈ d.queues, q.items = []) →
      Answers (exec (.functionShutdownComplete 1 (link / 4 * 16 + link % 4)) s) fun t =>
        ∃ y, t.link link = some y ∧ y.up = false ∧ y.shuttingDown = none ∧ y.reenable = l.reenable ∧
          (l.reenable = false → y.gen = l.gen) ∧ (l.reenable = true → y.gen = nextGen l.gen)) ∧
    (l.shuttingDown ≠ none → (∃ q ∈ d.queues, q.items ≠ []) →
      exec (.functionShutdownComplete 1 (link / 4 * 16 + link % 4)) s = .next s)) ∧
  (∀ (slice : Nat) (s : State), (s.function 2 slice).shutting = true → s.host.slicesOff.contains slice = true →
    ((∃ o ∈ s.eng.ops, o.slice = slice) → exec (.functionShutdownComplete 2 slice) s = .next s) ∧
    ((∀ o ∈ s.eng.ops, o.slice ≠ slice) → (s.function 2 slice).reenable = false →
      Answers (exec (.functionShutdownComplete 2 slice) s) fun t =>
        (t.function 2 slice).shutting = false ∧ slice ∈ t.host.slicesOff ∧ t.store = s.store) ∧
    ((∀ o ∈ s.eng.ops, o.slice ≠ slice) → (s.function 2 slice).reenable = true →
      Answers (exec (.functionShutdownComplete 2 slice) s) fun t =>
        slice ∉ t.host.slicesOff ∧ (t.function 2 slice).generation = nextGen (s.function 2 slice).generation)) ∧
  (∀ (i : Nat) (s : State) (o : Ostler), s.ostler i = some o → o.running = true →
    (o.restarts.filter fun t => s.time < t + 600000000000).length ≤ 3 →
    (Answers (exec (.watchdogExpiry i) s) fun t =>
      (∃ x, t.ostler i = some x ∧ x.running = false ∧ x.restarting = true ∧ s.time ∈ x.restarts) ∧
      (s.noneHeld i → t.store = s.store ∧ t.pads = s.pads)) ∧
    (∀ a, o.permits a = true → exec (.protectionViolation i a) s = .next s) ∧
    (∀ a, o.permits a = false → Answers (exec (.protectionViolation i a) s) fun t =>
      (∃ x, t.ostler i = some x ∧ x.running = false ∧ x.restarting = true) ∧ t.mem = s.mem ∧
      (s.noneHeld i → t.store = s.store)) ∧
    (∀ x, i = 2 → s.eng.ops = [x] → x.needsO2 = true →
      Answers (exec (.watchdogExpiry i) s) fun t => t.eng.ops = [])) ∧
  (∀ (e : ErrRep) (s : State), e.severity ≤ 2 → e.unitKind ≠ 1 → e.unitKind ≠ 4 →
    (e.code = 0x5001 → s.restarting 5 = false → Answers (exec (.errorReport e) s) fun t =>
      t.net.discards = s.net.discards + (if e.unitKind = 9 then 1 else 0) ∧ t.store.seqs = s.store.seqs ∧
      ∀ x, s.eng.ops = [x] → x.phase = .admitted → x.step.isSome = true → x.req.paddock = e.paddock → x.req.seq = e.object →
        x.status = St.ok → ∃ y, t.op x.id = some y ∧ y.status = St.degradedRetry) ∧
    (e.code ≠ 0x5001 → s.restarting 5 = false → s.log.records = [] → Answers (exec (.errorReport e) s) fun t =>
      (∃ r, t.log.records = [r] ∧ r.severity = e.severity ∧ r.code = e.code ∧ r.time = s.time ∧ r.address = e.address) ∧
      bit t.log.summary e.severity = true ∧ t.store = s.store) ∧
    (s.restarting 5 = true → s.log.queue.length < 1024 → Answers (exec (.errorReport e) s) fun t =>
      t.log.queue = s.log.queue ++ [(e, s.time)] ∧ t.log.records = s.log.records ∧ t.store = s.store))

/-- R298, R299, R300, R318, R392: PADDOCK_CREATE brings a FREE paddock up under the next generation, is queued once behind a
teardown and refused for a paddock in use; PADDOCK_TEARDOWN starts the teardown, which zeroises the keys
once no operation is left, and cancels a queued create; AUDIT_MODE
switches the audit; WARM_RESET resets the node. -/
def Sys2Proof.Claims.HostCreatesAndTearsDown : Prop :=
  ∀ (m : Mbx) (s : State) (b : Mail),
    (Asked s m 0x30 b → 1 ≤ b.paddock →
      ((s.pad b.paddock).state = .free → b.body.length = 112 → s.slicesFit b.paddock (createConfig b.body) = true →
        Answers (exec (.paddockCreate m) s) fun t =>
          t.answered b St.ok (toLe 4 (nextGen (s.pad b.paddock).generation)) ∧
          (t.pad b.paddock).generation = nextGen (s.pad b.paddock).generation ∧
          (t.pad b.paddock).config = createConfig b.body ∧ (t.pad b.paddock).counters = List.replicate 10 0 ∧
          (t.pad b.paddock).state = (if (createConfig b.body).requireSeal then .awaitSeal else .open_) ∧
          (∀ o, o ≠ b.paddock → t.pad o = s.pad o) ∧ t.store = s.store) ∧
      ((s.pad b.paddock).state = .open_ ∨ (s.pad b.paddock).state = .awaitSeal ∨ (s.pad b.paddock).state = .sealed →
        Answers (exec (.paddockCreate m) s) fun t => t.answered b St.badParam [] ∧ t.pads = s.pads) ∧
      ((s.pad b.paddock).state = .teardown → b.body.length = 112 → s.slicesFit b.paddock (createConfig b.body) = true →
        ((s.pad b.paddock).queued = none → Answers (exec (.paddockCreate m) s) fun t =>
          t.answered b St.ok (toLe 4 (nextGen (s.pad b.paddock).generation)) ∧
          t.pad b.paddock = { s.pad b.paddock with queued := some (createConfig b.body, sub b.body 80 32) }) ∧
        ((s.pad b.paddock).queued ≠ none → Answers (exec (.paddockCreate m) s) fun t =>
          t.answered b St.busyTeardown [] ∧ t.pads = s.pads))) ∧
    (Asked s m 0x31 b → 1 ≤ b.paddock →
      ((s.pad b.paddock).state = .free → Answers (exec (.paddockTeardown m) s) fun t =>
        t.answered b St.ok (toLe 4 (s.pad b.paddock).generation) ∧ t.pads = s.pads ∧ t.store = s.store) ∧
      ((s.pad b.paddock).state = .open_ → Answers (exec (.paddockTeardown m) s) fun t =>
        (t.pad b.paddock).state = .teardown ∧
        ((∃ o ∈ t.eng.ops, o.req.paddock = b.paddock) → (t.pad b.paddock).ktp = (s.pad b.paddock).ktp ∧
          (t.pad b.paddock).kmem = (s.pad b.paddock).kmem) ∧
        ((∀ o ∈ t.eng.ops, o.req.paddock ≠ b.paddock) → (s.pad b.paddock).zeroing = false →
          (t.pad b.paddock).ktp = [] ∧ (t.pad b.paddock).kmem = []) ∧
        (t.pad b.paddock).generation = (s.pad b.paddock).generation ∧ (t.box m.box).done = true) ∧
      ((s.pad b.paddock).state = .teardown → Answers (exec (.paddockTeardown m) s) fun t =>
        t.answered b St.ok (toLe 4 (s.pad b.paddock).generation) ∧ t.pad b.paddock = { s.pad b.paddock with queued := none })) ∧
    (Asked s m 0x33 b → 1 ≤ b.paddock → b.body.length = 1 → le b.body 0 1 ≤ 1 → (s.pad b.paddock).state = .open_ →
      Answers (exec (.auditMode m) s) fun t => t.answered b St.ok [] ∧
        t.pad b.paddock = { s.pad b.paddock with audit := le b.body 0 1 == 1 } ∧ t.store = s.store) ∧
    (Asked s m 0x20 b → Answers (exec (.warmReset m) s) fun t =>
      t.boot.stage = 2 ∧ t.regs.resetCause = 2 ∧ t.regs.warmCount = min (s.regs.warmCount + 1) 65535 ∧
      t.boot.slots = s.boot.slots ∧ t.log.retained = s.log.retained ∧ t.store.seqs = [] ∧ t.net.qps = [] ∧ t.mem = [] ∧
      (∀ p ∈ t.pads, p.id ≠ 0 → p.state = .free) ∧ t.sec.sticky = s.sec.sticky)

/-- R225, R226: WINDOW_INSTALL opens a window with the sender, rights, length and, for a paddock that is not sealed, the key
asked for, and answers its index and W_GEN; one for a sender that has a window is refused; WINDOW_REMOVE closes a window: its
connections are in ERROR and its Ledger entry is gone. -/
def Sys2Proof.Claims.HostOpensAndClosesWindows : Prop :=
  ∀ (m : Mbx) (s : State) (b : Mail),
    (Asked s m 0x40 b → b.body.length = 48 → (s.pad b.paddock).state = .open_ → le b.body 5 1 ≤ 1 →
      windowLengthOk (le b.body 5 1 == 1) (le b.body 8 8) = true →
      ((∃ w ∈ s.maps.windows, w.srcNode = le b.body 0 2 ∧ w.srcPaddock = le b.body 2 2 % 4096 ∧ w.state = .active) →
        Answers (exec (.windowInstall m) s) fun t => t.answered b St.badParam [] ∧ t.maps.windows = s.maps.windows) ∧
      ((∀ w ∈ s.maps.windows, w.srcNode = le b.body 0 2 → w.srcPaddock = le b.body 2 2 % 4096 → w.state ≠ .active) →
        (le b.body 5 1 = 0 → s.passesAllowance b.paddock (le b.body 8 8) = false) →
        (s.installWindow (le b.body 0 2) (le b.body 2 2 % 4096) b.paddock (le b.body 4 1) (le b.body 5 1 == 1) (le b.body 8 8)
          (sub b.body 16 32) .plain).isSome = true →
        Answers (exec (.windowInstall m) s) fun t => ∃ i w, t.answered b St.ok (toLe 2 i ++ zeros 2 ++ toLe 4 w.gen) ∧
          t.window i = some w ∧ w.state = .active ∧ w.srcNode = le b.body 0 2 ∧ w.srcPaddock = le b.body 2 2 % 4096 ∧
          w.localPaddock = b.paddock ∧ w.length = le b.body 8 8 ∧ w.key = sub b.body 16 32 ∧ w.use = .plain ∧
          w.read = bit (le b.body 4 1) 0 ∧ w.write = bit (le b.body 4 1) 1 ∧ w.notice = bit (le b.body 4 1) 2 ∧
          (∀ x, s.window i = some x → x.state = .free ∧ w.gen = (x.gen + 1) % 2 ^ 32) ∧ (∀ j, j ≠ i → t.window j = s.window j) ∧
          i ≠ 0 ∧ t.pads = s.pads ∧ t.store.seqs = s.store.seqs ∧ t.store.blocks = s.store.blocks ∧ t.mem = s.mem)) ∧
    (Asked s m 0x41 b → b.body.length = 2 → ∀ w, s.window (le b.body 0 2) = some w → w.state = .active → w.index ≠ 0 →
      Answers (exec (.windowRemove m) s) fun t => t.answered b St.ok [] ∧
        (∃ x, t.window w.index = some x ∧ x.state = .closing ∧ x.key = w.key ∧ x.gen = w.gen) ∧
        (∀ q, s.qp q.qpn = some q → q.window = some (w.index, w.gen) → ∃ y, t.qp q.qpn = some y ∧ y.works = false) ∧
        (∀ e ∈ t.maps.ledger, keyKind e.key = 2 → e.result ≠ windowResult w.gen w.index) ∧ t.store = s.store ∧ t.mem = s.mem)

/-- R229, R362: REGION_SET gives a region of a plain Tier-1 window an owner; a change of owner raises R_GEN by 1, the same
owner again leaves the region as it is, and a region that overlaps another is refused. -/
def Sys2Proof.Claims.HostSetsRegions : Prop :=
  ∀ (m : Mbx) (s : State) (b : Mail) (w : Window), Asked s m 0x42 b → b.body.length = 16 → s.window (le b.body 0 2) = some w →
    w.state = .active → w.use = .plain → w.base < landingBase → 21 ≤ le b.body 2 1 → le b.body 2 1 ≤ 30 →
    (w.base + le b.body 4 8) % 2 ^ le b.body 2 1 = 0 → le b.body 4 8 + 2 ^ le b.body 2 1 ≤ w.length →
    (∀ r, (s.maps.regions.find? fun r => r.active && r.base == w.base + le b.body 4 8 && r.sizeLog2 == le b.body 2 1) = some r →
      (s.maps.regions.find? fun x => x.index == r.index) = some r →
      (r.ownerNode = le b.body 12 2 → r.ownerPaddock = le b.body 14 2 % 4096 → Answers (exec (.regionSet m) s) fun t =>
        t.answered b St.ok (toLe 2 r.index ++ zeros 2 ++ toLe 4 r.gen) ∧ t.maps.regions = s.maps.regions) ∧
      (r.ownerNode ≠ le b.body 12 2 ∨ r.ownerPaddock ≠ le b.body 14 2 % 4096 → Answers (exec (.regionSet m) s) fun t =>
        t.answered b St.ok (toLe 2 r.index ++ zeros 2 ++ toLe 4 ((r.gen + 1) % 2 ^ 32)) ∧
        t.region r.index = some { r with ownerNode := le b.body 12 2, ownerPaddock := le b.body 14 2 % 4096,
                                         gen := (r.gen + 1) % 2 ^ 32 } ∧
        (∀ j, j ≠ r.index → t.region j = s.region j) ∧ t.mem = s.mem ∧ t.store = s.store)) ∧
    ((∀ r ∈ s.maps.regions, r.active = true → ¬(r.base = w.base + le b.body 4 8 ∧ r.sizeLog2 = le b.body 2 1)) →
      (∃ r ∈ s.maps.regions, r.active = true ∧ r.base < w.base + le b.body 4 8 + 2 ^ le b.body 2 1 ∧
        w.base + le b.body 4 8 < r.base + 2 ^ r.sizeLog2) →
      Answers (exec (.regionSet m) s) fun t => t.answered b St.badParam [] ∧ t.maps.regions = s.maps.regions) ∧
    ((∀ r ∈ s.maps.regions, r.active = true → w.base + le b.body 4 8 + 2 ^ le b.body 2 1 ≤ r.base ∨
        r.base + 2 ^ r.sizeLog2 ≤ w.base + le b.body 4 8) → s.freeRegion.1.isSome = true →
      Answers (exec (.regionSet m) s) fun t => ∃ i r, t.answered b St.ok (toLe 2 i ++ zeros 2 ++ toLe 4 r.gen) ∧
        t.region i = some r ∧ s.region i = none ∧ r.base = w.base + le b.body 4 8 ∧ r.sizeLog2 = le b.body 2 1 ∧
        r.ownerNode = le b.body 12 2 ∧ r.ownerPaddock = le b.body 14 2 % 4096 ∧ t.mem = s.mem)

/-- R139, R230, R363: WEIGHT_CREATE reserves a set and opens its loader's window, WEIGHT_COMMIT takes the window away and makes
a set available whose header fits and no other, WEIGHT_REMOVE takes a set that no step uses away. -/
def Sys2Proof.Claims.WeightSetsAreInstalledAndRemoved : Prop :=
  ∀ (m : Mbx) (s : State) (b : Mail),
    (Asked s m 0x50 b → b.body.length = 16 → ∀ slices length,
        slices = (s.img.slices.filter fun c => bit (le b.body 2 2) c.id).map (·.id) →
      length = ceilDiv (le b.body 4 8 + 128) 2097152 * 2097152 → le b.body 0 2 ≠ 0 → popcount 16 (le b.body 2 2) = slices.length →
      slices ≠ [] → 64 ≤ le b.body 4 8 → length ≤ 68719476736 → (∀ w ∈ s.store.weights, w.setId ≠ le b.body 0 2) →
      s.windowEntryFits (le b.body 12 2) (le b.body 14 2 % 4096) = true →
      ∀ c i t0 base t1 copies t2, (s.img.slices.find? fun c => slices.contains c.id) = some c → s.freeWindow = (some i, t0) →
        t0.windowPlaceIn c 0 length = some (base, t1) →
        t1.weightRoom (le b.body 4 8) (slices.filter (· != c.id)) = some (copies, t2) →
        Answers (exec (.weightCreate m) s) fun t =>
          t.answered b St.ok (toLe 2 i) ∧
          (∃ w, t.store.weights = s.store.weights ++ [w] ∧ w.setId = le b.body 0 2 ∧ w.committed = false ∧ w.window = some i ∧
            w.length = le b.body 4 8 ∧ w.slices = slices ∧ w.base = base ∧ w.copies = copies) ∧
          (∃ x, t.window i = some x ∧ x.state = .active ∧ x.localPaddock = 0 ∧ x.srcNode = le b.body 12 2 ∧
            x.srcPaddock = le b.body 14 2 % 4096 ∧ x.write = true ∧ x.read = false ∧ x.use = .loader (le b.body 0 2)) ∧
          t.store.seqs = s.store.seqs ∧ t.mem = s.mem) ∧
    (Asked s m 0x51 b → b.body.length = 2 → ∀ w i x data, (s.store.weights.find? fun w => w.setId == le b.body 0 2) = some w →
      w.committed = false → w.window = some i → s.window i = some x → data = Memory.readBytes s.mem w.base w.length →
      ∀ y, y = { w with header := data.take 64, bytes := data.drop 64, paddock := le (data.take 64) 2 2 % 4096, window := none } →
      (y.headerOk w.length = true → (s.closeWindow i).weightSlicesOk y.paddock w.slices = true →
        Answers (exec (.weightCommit m) s) fun t => t.answered b St.ok [] ∧
          (t.store.weights.find? fun z => z.setId == le b.body 0 2) = some { y with committed := true } ∧
          (∃ z, t.window i = some z ∧ z.state = .closing) ∧ t.store.seqs = s.store.seqs ∧ t.mem = s.mem) ∧
      (y.headerOk w.length = false → Answers (exec (.weightCommit m) s) fun t => t.answered b St.badParam [] ∧
          (t.store.weights.find? fun z => z.setId == le b.body 0 2) = some { w with window := none } ∧
          (∃ z, t.window i = some z ∧ z.state = .closing))) ∧
    (Asked s m 0x52 b → b.body.length = 2 → ∀ w, (s.store.weights.find? fun w => w.setId == le b.body 0 2) = some w →
      w.removing = false → w.window = none → s.eng.ops = [] → Answers (exec (.weightRemove m) s) fun t =>
        t.answered b St.ok [] ∧ w ∉ t.store.weights ∧
        (∀ z ∈ t.store.weightSlots, ∀ c, z.content = some c → c.2.1 ≠ w.setId) ∧ t.store.seqs = s.store.seqs)

/-- R260, R265, R381, R382: SCHED_SET changes the QUANTUM of one queue and its bridle, which starts with its BURST; GCL_SET
announces a list for a cycle at least two ahead, at a boundary of the new CYCLE; POWER_SET sets the limit and the points of the
groups named, a group that is held down rising no higher than it stands and a pinned one keeping its point; each within the
limits that the image sets (R331), and in a sealed-policy slice within R264. -/
def Sys2Proof.Claims.HostSetsSchedulersAndPower : Prop :=
  ∀ (m : Mbx) (s : State) (b : Mail),
    (Asked s m 0x60 b → b.body.length = 16 → ∀ d, (schedulerId (le b.body 0 2)).bind s.sched = some d →
      le b.body 2 1 ≤ (if d.id < 16 then 2 else 7) → le b.body 4 2 ≠ 0 → le b.body 8 4 ≤ 16777215 →
      (le b.body 8 4 ≠ 0 → 1 ≤ le b.body 12 4 ∧ le b.body 12 4 ≤ 65536) →
      ((s.img.sched.limits.quantum < le b.body 4 2 ∨ s.img.sched.limits.rate < le b.body 8 4 ∨
          (le b.body 8 4 = 0 ∧ s.lastBridle d (le b.body 2 1) b.paddock = true)) → Answers (exec (.schedSet m) s) fun t =>
        (t.box m.box).buffer.take 32 = replyHeader b St.badParam 0x22 0 ∧ t.sch = s.sch) ∧
      (le b.body 4 2 ≤ s.img.sched.limits.quantum → le b.body 8 4 ≤ s.img.sched.limits.rate →
        (le b.body 8 4 = 0 → s.lastBridle d (le b.body 2 1) b.paddock = false) →
        (le b.body 8 4 ≠ 0 → le b.body 12 4 ≤ s.img.sched.limits.burst) → Answers (exec (.schedSet m) s) fun t =>
        t.answered b St.ok [] ∧
        (∃ d' q, t.sched d.id = some d' ∧ d'.queue (le b.body 2 1) b.paddock = some q ∧ q.quantum = le b.body 4 2 ∧
          (∀ x, d.queue (le b.body 2 1) b.paddock = some x → q.deficit = x.deficit ∧ q.items = x.items) ∧
          d'.rings = d.rings ∧ d'.gcl = d.gcl) ∧
        (le b.body 8 4 = 0 → t.bridle d (le b.body 2 1) b.paddock = none) ∧
        (le b.body 8 4 ≠ 0 → t.bridle d (le b.body 2 1) b.paddock =
          some ⟨le b.body 8 4, le b.body 12 4, ((le b.body 12 4 * 1024000 : Nat) : Int), s.time⟩) ∧ t.store = s.store)) ∧
    (Asked s m 0x61 b → ∀ d gs, (schedulerId (le b.body 0 2)).bind s.sched = some d → gs = gclEntries b.body (le b.body 2 2) →
      b.body.length = 16 + 8 * le b.body 2 2 → 1 ≤ le b.body 2 2 → le b.body 2 2 ≤ 256 →
      (∀ cycle first, s.gclFrom d cycle first = true ↔
        s.time + 2 * d.cycle ≤ d.base + first * d.cycle ∧ first * d.cycle % max 1 cycle = 0) ∧
      (s.gclOk d.id (le b.body 4 4) gs = true → s.gclFrom d (le b.body 4 4) (le b.body 8 8) = true →
        s.img.sealedGates d.id gs = true → s.img.sched.limits.cycleMin ≤ le b.body 4 4 →
        le b.body 4 4 ≤ s.img.sched.limits.cycleMax → Answers (exec (.gclSet m) s) fun t => t.answered b St.ok [] ∧
          t.sched d.id = some { d with newGcl := some (le b.body 8 8, le b.body 4 4, gs) }) ∧
      (s.gclOk d.id (le b.body 4 4) gs = false ∨ s.gclFrom d (le b.body 4 4) (le b.body 8 8) = false ∨
          s.img.sealedGates d.id gs = false ∨ s.img.sched.limits.cycleMax < le b.body 4 4 →
        Answers (exec (.gclSet m) s) fun t => t.answered b St.badParam [] ∧ t.sch = s.sch)) ∧
    (Asked s m 0xA0 b → b.body.length = 8 → le b.body 4 1 < s.img.power.points.length →
      ((if s.fused.a768 then 600 else 500) ≤ le b.body 0 2 ∧ le b.body 0 2 ≤ s.fused.tdp →
        s.img.power.limits.1 ≤ le b.body 0 2 ∧ le b.body 0 2 ≤ s.img.power.limits.2 → Answers (exec (.powerSet m) s) fun t =>
        t.answered b St.ok [] ∧ t.pwr.limit = le b.body 0 2 ∧
        (∀ g < 16, (bit (le b.body 2 2) g = false ∨ s.pinnedGroup g = true → t.pwr.points.getD g 0 = s.pwr.points.getD g 0) ∧
          (bit (le b.body 2 2) g = true → s.pinnedGroup g = false →
            (s.pwr.throttle.getD (g / 8) false = false → s.pwr.forced.getD (g / 8) false = false →
              t.pwr.points.getD g 0 = le b.body 4 1) ∧
            (s.pwr.throttle.getD (g / 8) false = true ∨ s.pwr.forced.getD (g / 8) false = true →
              t.pwr.points.getD g 0 = max (s.pwr.points.getD g 0) (le b.body 4 1)))) ∧ t.pwr.state = s.pwr.state) ∧
      (le b.body 0 2 < (if s.fused.a768 then 600 else 500) ∨ s.fused.tdp < le b.body 0 2 ∨
          s.img.power.limits.2 < le b.body 0 2 →
        Answers (exec (.powerSet m) s) fun t => t.answered b St.badParam [] ∧ t.pwr = s.pwr))

/-- R364: once host software clears NOTIFY, the oldest queued notification is posted, with NOTIFY in its header, the count of
dropped ones first and its own body behind; with none queued NOTIFY stays clear. -/
def Sys2Proof.Claims.ClearingNotifyPostsTheNext : Prop :=
  ∀ (s : State), s.bar0Open = true → s.host.boxes.length = 4 → s.restarting 7 = false →
    (s.host.notices = [] → Answers (exec .notifyClear s) fun t =>
      (t.box 3).notify = false ∧ (t.box 3).buffer = (s.box 3).buffer ∧ t.store = s.store) ∧
    (∀ n rest, s.host.notices = n :: rest → Answers (exec .notifyClear s) fun t =>
      (t.box 3).notify = true ∧ t.host.notices = rest ∧
      ((t.box 3).buffer.drop 2).take 2 = toLe 2 n.opcode ∧ ((t.box 3).buffer.drop 18).take 2 = toLe 2 2 ∧
      (t.box 3).buffer.drop 32 = toLe 4 s.host.dropped ++ n.body ∧ t.store = s.store)

/-- R390: a read of the lower half of a register pair latches the whole value: it answers the lower half, and the next
read of the upper half gives the upper half of that same value, whatever the time is then, so that both together are one
consistent value. A read of the upper half that no read of the lower one preceded gives the current upper half. While
the TDI's ERROR shuts BAR0 a read returns 0 (R287). -/
def Sys2Proof.Claims.RegisterPairsReadWhole : Prop :=
  ∀ (off v : Nat) (s : State), s.pairValue off = some v →
    (s.bar0Open = true → Answers (exec (.registerPairLoRead off) s) fun t =>
      t.out = s.out ++ [.bar0 (toLe 4 v)] ∧ t.regs = { s.regs with hiLatch := some (off + 4, v / 2 ^ 32) } ∧
      t = { s with regs := t.regs, out := t.out } ∧
      ∀ (n : Nat) (c : List Pad), leNat (toLe 4 v) + 2 ^ 32 * ({ t with time := n, pads := c } : State).bar0Word (off + 4) = v) ∧
    (s.bar0Up = true → s.sec.bar0Shut = true → Answers (exec (.registerPairLoRead off) s) fun t =>
      t.out = s.out ++ [.bar0 (toLe 4 0)] ∧ t = { s with regs := t.regs, out := t.out }) ∧
    ((∀ x, s.regs.hiLatch ≠ some (off + 4, x)) → s.bar0Word (off + 4) = v / 2 ^ 32) ∧ s.bar0Word off = v % 2 ^ 32

/-- R395, R401: which registers are pairs: the timebase, the instant of the Tally latch and its ten counters. -/
def Sys2Proof.Claims.RegisterPairsAreThese : Prop :=
  ∀ (s : State), s.pairValue 0x1008 = some (s.time % 2 ^ 64) ∧ s.pairValue 0x50010 = some s.regs.tlyLatch.instant ∧
    (∀ k, k < 10 → s.pairValue (0x50100 + 8 * k) = some (s.regs.tlyLatch.counters.getD k 0)) ∧
    (∀ off, (s.bar0Up = false ∨ (s.boot.stage = 2 ∧ s.sec.bar0Shut = false) ∨ s.pairValue off = none) →
        exec (.registerPairLoRead off) s = .next s)

/-- R396: a write of RESET_CTL with WARM and the key 0x5A is a warm reset at once, whatever state the ostlers are in, and the
work in flight is discarded; the node ignores a write with any other KEY, or without WARM. -/
def Sys2Proof.Claims.ResetCtlIsAWarmReset : Prop :=
  ∀ (v : Nat) (s : State), s.bar0Open = true →
    ((bit v 8 = false ∨ bits v 7 0 ≠ 0x5A) → exec (.resetCtlWarm v) s = .next s) ∧
    (bit v 8 = true → bits v 7 0 = 0x5A → exec (.resetCtlWarm v) s = .next (s.warmReset 3) ∧
      (s.warmReset 3).boot.stage = 2 ∧ (s.warmReset 3).regs.resetCause = 3 ∧ (s.warmReset 3).eng.ops = [] ∧
      (s.warmReset 3).net.qps = [] ∧ (s.warmReset 3).host.doorbells = [] ∧ (s.warmReset 3).maps.streams = [])

/-- R392: what a warm reset leaves, whatever its cause: the part, the images, the farrier's record, the retained log and
STICKY stay, every tenant paddock is FREE without keys, and all that the tiers and the tables held is gone. -/
def Sys2Proof.Claims.WarmResetKeepsWhatItMust : Prop :=
  ∀ (cause : Nat) (s : State), (s.warmReset cause).boot.stage = 2 ∧ (s.warmReset cause).regs.resetCause = cause ∧
    (s.warmReset cause).regs.warmCount = min 65535 (s.regs.warmCount + 1) ∧
    (s.warmReset cause).boot.slots = s.boot.slots ∧ (s.warmReset cause).boot.floor = s.boot.floor ∧
    (s.warmReset cause).log.retained = s.log.retained ∧ (s.warmReset cause).log.records = [] ∧
    (s.warmReset cause).farrier = s.farrier ∧ (s.warmReset cause).fused = s.fused ∧ (s.warmReset cause).power = s.power ∧
    (s.warmReset cause).store.seqs = [] ∧ (s.warmReset cause).store.blocks = [] ∧ (s.warmReset cause).maps.windows = [] ∧
    (s.warmReset cause).mem = [] ∧ (s.warmReset cause).sec.permitted = false ∧
    (s.warmReset cause).sec.sticky = s.sec.sticky ∧
    (∀ p ∈ (s.warmReset cause).pads, p.id ≠ 0 → p.state = .free ∧ p.ktp = [] ∧ p.kmem = []) ∧
    (s.warmReset cause).pending = s.pending

/-- Offsets of registers that a write leaves as they are. -/
def Sys2Proof.Machine.readOnlyOffsets : List Nat :=
  [0x0, 0x4, 0x10, 0x14, 0x18, 0x1C, 0x20, 0x24, 0x1000, 0x1008, 0x100C, 0x1024, 0x28000, 0x30000, 0x30004, 0x30008, 0x30010,
    0x30014, 0x30018, 0x40000, 0x40010, 0x40014, 0x40018, 0x4001C, 0x5000C, 0x50010, 0x50014, 0x50018, 0x50100, 0x60008,
    0x60010, 0x60014, 0x60018, 0x6001C, 0x60020, 0x60030, 0x60034, 0x70004, 0x70008, 0x80000]

/-- R8, R340, R389, R397, R399: a write has its effect by the register's access code; until ROM ends the identity and
BOOT_* alone respond. -/
def Sys2Proof.Claims.RegisterWritesFollowTheirAccess : Prop :=
  ∀ (off size v : Nat) (s : State),
    (s.bar0Open = false → 0x40 ≤ off → off < 0x40000 ∨ 0x40008 ≤ off → exec (.registerWrite off size v) s = .next s) ∧
    (s.bar0Up = true → s.boot.stage = 2 → s.sec.bar0Shut = false → v < 2 ^ 32 →
      Answers (exec (.registerWrite 0x40004 4 v) s) fun t => t.regs = { s.regs with stageIrqEn := bit v 0 }) ∧
    ((s.bar0Answers off = false ∨ size ∉ [1, 2, 4, 8] ∨ off % size ≠ 0) → exec (.registerWrite off size v) s = .next s) ∧
    (off ∈ readOnlyOffsets → exec (.registerWrite off 4 v) s = .next s) ∧
    (s.bar0Open = true →
      (s.boot.imageLock = true → exec (.registerWrite 0x1004 4 v) s = .next s) ∧
      (v < 2 ^ 32 → s.boot.imageLock = false → Answers (exec (.registerWrite 0x1004 4 v) s) fun t =>
        t.regs = { s.regs with n2Disable := bit v 0, monitorDisable := bit v 1 }) ∧
      (∀ lo hi, lo < 2 ^ 32 → hi < 2 ^ 32 → Answers (exec (.registerWrite 0x60000 8 (lo + hi * 2 ^ 32)) s) fun t =>
        t.log = { s.log with summary := clearBits 5 s.log.summary lo, irqEn := hi % 32 }) ∧
      (v < 2 ^ 32 → Answers (exec (.registerWrite 0x30020 4 v) s) fun t =>
        t.pwr = { s.pwr with
          throttleEvt := s.pwr.throttleEvt && !bit v 8, emergEvt := s.pwr.emergEvt && !bit v 9, irqEn := bit v 16 }) ∧
      (v < 2 ^ 32 → Answers (exec (.registerWrite 0x50008 4 v) s) fun t =>
        t.regs = { s.regs with tlyDone := s.regs.tlyDone && !bit v 1, tlyOverrun := s.regs.tlyOverrun && !bit v 2 }) ∧
      (∀ n o, n < 4 → s.host.boxes.length = 4 → o % 4 = 0 → o < 0x1000 → v < 2 ^ 32 →
        Answers (exec (.registerWrite (0x10000 + 0x2000 * n + o) 4 v) s) fun t =>
          ((s.box n).busy = true → t.box n = { s.box n with rejected := true }) ∧
          ((s.box n).busy = false → le (t.box n).buffer o 4 = v ∧
            ∀ i, i < o ∨ o + 4 ≤ i → (t.box n).buffer.getD i 0 = (s.box n).buffer.getD i 0) ∧
          ∀ k, k ≠ n → t.box k = s.box k) ∧
      (∀ k, k < 8 → s.regs.msixTable.length = 32 → bit s.regs.msixPba k = true → v % 2 = 0 →
        Answers (exec (.registerWrite (0x20000 + 16 * k + 12) 4 v) s) fun t =>
          t.out = s.out ++ [.msix k] ∧ t.regs.msixPba = s.regs.msixPba - 2 ^ k ∧ t.regs.vectorMasked k = false))

/-- R289, R403, R404: a debug request is refused with its REASON where the policy, a sealed paddock or a sealed teardown
stands against it, else the node zeroises its keys and grants it; a withdrawal ends it, or waits for the request's end. -/
def Sys2Proof.Claims.DebugIsRequestedAndWithdrawn : Prop :=
  ∀ (v : Nat) (s : State), s.bar0Open = true →
    (bit v 0 = true → bit v 1 = true → exec (.dbgCtlRequest v) s = .next s ∧ exec (.dbgCtlWithdraw v) s = .next s) ∧
    (bit v 0 = true → bit v 1 = false → s.sec.dbgBusy = false → s.sec.permitted = false →
      (s.debugAllowed = false → Answers (exec (.dbgCtlRequest v) s) fun t =>
        t.sec.permitted = false ∧ t.sec.dbgBusy = false ∧ t.sec.dbgReason = 1 ∧ t.pads = s.pads) ∧
      (s.debugAllowed = true → (∃ p ∈ s.pads, p.state = .sealed) → Answers (exec (.dbgCtlRequest v) s) fun t =>
        t.sec.permitted = false ∧ t.sec.dbgBusy = false ∧ t.sec.dbgReason = 2 ∧ t.pads = s.pads) ∧
      (s.debugAllowed = true → (∀ p ∈ s.pads, p.state ≠ .sealed) → (∃ p ∈ s.pads, p.sealedTeardown = true) →
        Answers (exec (.dbgCtlRequest v) s) fun t =>
          t.sec.permitted = false ∧ t.sec.dbgBusy = false ∧ t.sec.dbgReason = 3 ∧ t.pads = s.pads) ∧
      (s.debugAllowed = true → (∀ p ∈ s.pads, p.state ≠ .sealed ∧ p.sealedTeardown = false) →
        exec (.dbgCtlRequest v) s = .next { s with sec := { s.sec with dbgBusy := true } })) ∧
    (s.sec.dbgBusy = true →
      (bit v 0 = true → bit v 1 = false → Answers (exec (.dbgCtlRequest v) s) fun t =>
        t.sec.dbgReason = 5 ∧ t.sec.dbgBusy = true ∧ t.sec.permitted = s.sec.permitted) ∧
      (bit v 0 = false → bit v 1 = true →
        exec (.dbgCtlWithdraw v) s = .next { s with sec := { s.sec with withdrawPending := true } }) ∧
      (∀ z, Answers (exec (.debugRequestDone z) s) fun t =>
        t.sec.dbgBusy = false ∧ (∀ p ∈ t.pads, p.ktp = [] ∧ p.kmem = []) ∧ t.pads.length = s.pads.length ∧
        (z = false → t.sec.permitted = false ∧ t.sec.dbgReason = 4 ∧ t.sec.sticky = s.sec.sticky) ∧
        (z = true → s.sec.withdrawPending = false → t.sec.permitted = true ∧ t.sec.sticky = true) ∧
        (z = true → s.sec.withdrawPending = true → t.sec.permitted = s.sec.permitted ∧ t.sec.sticky = s.sec.sticky))) ∧
    (s.sec.dbgBusy = false → bit v 0 = false → bit v 1 = true → Answers (exec (.dbgCtlWithdraw v) s) fun t =>
      t.sec.permitted = false ∧ t.sec.sticky = s.sec.sticky ∧ t.shr.tracing = false ∧ t.pads = s.pads)

/-- R297, R401, R402: SNAP makes one snapshot of the selected paddock pending, or OVERRUN while one is; the latch then holds
the paddock's counters, generation and instant. -/
def Sys2Proof.Claims.TallyLatchHoldsASnapshot : Prop :=
  ∀ (s : State),
    (∀ v, s.bar0Open = true → bit v 0 = true → Answers (exec (.tlyCtlSnap v) s) fun t =>
      (s.regs.tlyPending = none → t.regs.tlyPending = some s.regs.tlySel ∧ t.regs.tlyOverrun = s.regs.tlyOverrun) ∧
      (s.regs.tlyPending ≠ none → t.regs.tlyPending = s.regs.tlyPending ∧ t.regs.tlyOverrun = true) ∧
      t.regs.tlyIrqEn = bit v 8 ∧ t.regs.tlyLatch = s.regs.tlyLatch ∧ t.pads = s.pads) ∧
    (∀ p, s.regs.tlyPending = some p → ((s.pad p).state ≠ .free ∨ (s.pad p).final = none) →
      Answers (exec .tallyLatch s) fun t =>
        t.regs.tlyPending = none ∧ t.regs.tlyDone = true ∧ t.regs.tlyPaddock = p ∧
        t.regs.tlyLatch = ⟨s.time, (s.pad p).generation, (s.pad p).counters⟩ ∧ t.pads = s.pads) ∧
    (∀ p r, s.regs.tlyPending = some p → (s.pad p).state = .free → (s.pad p).final = some r →
      Answers (exec .tallyLatch s) fun t => t.regs.tlyPending = none ∧ t.regs.tlyDone = true ∧ t.regs.tlyLatch = r) ∧
    (s.regs.tlyPending = none → exec .tallyLatch s = .next s)

/-- R287, R340, R376: what puts the TDI into ERROR, which shuts BAR0, and a write of D0 as a wake event; until ROM ends a
configuration request is answered with Retry Status and does nothing else. -/
def Sys2Proof.Claims.PcieWritesMoveTheTdi : Prop :=
  ∀ (s : State),
    (s.bar0Up = true → s.boot.stage = 2 → ∀ w,
      exec (.configurationWrite w) s = .next { s with out := s.out ++ [.configRetry] }) ∧
    (∀ c, (c = Instr.configurationWrite .lockedRegister ∧ (s.bar0Up = false ∨ s.boot.stage ≠ 2)) ∨ c = Instr.ideFailure →
      (s.sec.tdi = .unlocked → exec c s = .next s) ∧
      (s.sec.tdi ≠ .unlocked → exec c s = .next { s with sec := { s.sec with tdi := .error, bar0Shut := true } })) ∧
    (s.boot.stage ≠ 2 → exec (.configurationWrite .other) s = .next s) ∧
    (s.boot.stage ≠ 2 → s.pwr.state = .n2 → Answers (exec (.configurationWrite .setD0) s) fun t =>
      t.pwr.state = .exitingN2 0 ∧ t.pwr.wakeSource = 7 ∧ t.sec = s.sec ∧ t.store = s.store ∧ t.mem = s.mem) ∧
    (s.boot.stage ≠ 2 → s.pwr.state = .n0 → exec (.configurationWrite .setD0) s = .next s)

/-- R411, R422: without VAUX_1P8, or with TEST_MODE high at power-good, no PLDM request is answered; else the power state, BOOT_STAT and the retained log are,
and what the running node alone can tell is answered from the stage OSTLERS to SERVING. -/
def Sys2Proof.Claims.PldmAnswersWhatIsPowered : Prop :=
  ∀ (p : Pldm) (s : State),
    (s.power.vaux = false ∨ s.power.inTest = true → exec (.pldmRequest p) s = .next s) ∧
    (s.power.vaux = true → s.power.inTest = false → Answers (exec (.pldmRequest p) s) fun t =>
      (p = .powerState ∨ p = .bootStat ∨ p = .retainedLog ∨ (s.power.pwrok = true ∧ s.boot.stage = 12) →
        ∃ b, t = { s with out := s.out ++ [.pldm b] }) ∧
      (p = .health ∨ p = .power → (s.power.pwrok = false ∨ s.boot.stage < 8 ∨ 12 < s.boot.stage) → t = s) ∧
      (p = .bootStat → t.out = s.out ++ [.pldm (s.pldmFrame 1 (toLe 4 s.bootStat))]) ∧
      (p = .retainedLog → t.out = s.out ++ [.pldm (s.pldmFrame 2 (s.log.retained.map LogRec.bytes).flatten)]))

/-- R411, R422: PLDM_REQUEST is carried out: while VAUX_1P8 is up, outside manufacturing test, the power state, BOOT_STAT and the retained log are answered, and
between OSTLERS and SERVING the health and the power too; nothing but the answer changes. -/
def Sys2Proof.Claims.PldmRequestsComplete : Prop :=
  ∀ (s : State), s.power.vaux = true → s.power.inTest = false →
    exec (.pldmRequest .powerState) s = .next { s with out := s.out ++ [.pldm (s.pldmFrame 0 (toLe 1
      (flag s.power.powerGood + 2 * flag s.power.pwrok + 4 * flag s.power.held + 8 * flag s.power.thermtripN)))] } ∧
    exec (.pldmRequest .bootStat) s = .next { s with out := s.out ++ [.pldm (s.pldmFrame 1 (toLe 4 s.bootStat))] } ∧
    exec (.pldmRequest .retainedLog) s =
      .next { s with out := s.out ++ [.pldm (s.pldmFrame 2 (s.log.retained.map LogRec.bytes).flatten)] } ∧
    (s.power.pwrok = true → 8 ≤ s.boot.stage → s.boot.stage ≤ 12 →
      exec (.pldmRequest .health) s =
        .next { s with out := s.out ++ [.pldm (s.pldmFrame 3 (s.faultLine ++ (s.pwr.temps.map tempBytes).flatten))] } ∧
      exec (.pldmRequest .power) s = .next { s with out := s.out ++ [.pldm (s.pldmFrame 4 (toLe 4 s.pwr.average))] })

/-- R288, R324, R411: IDCODE and BYPASS always work, the boundary scan while no tenant paddock exists, and an internal scan
only while debug is permitted; its partition is cleared before the scan and again when it ends. -/
def Sys2Proof.Claims.JtagScansClearTheirPartition : Prop :=
  ∀ (s : State),
    (s.sec.jtag = .idcode ∨ s.sec.jtag = .bypass → ∀ j code, (j, code) ∈ [(Jtag.idcode, 0), (Jtag.bypass, 1)] →
      exec (.jtagInstruction j) s = .next { s with sec := { s.sec with jtag := j }, out := s.out ++ [.jtag code] }) ∧
    ((∃ p ∈ s.pads, p.id ≠ 0 ∧ p.state ≠ .free) → exec (.jtagInstruction .boundaryScan) s = .next s) ∧
    (∀ p, s.sec.permitted = false ∨ p = 5 ∨ 6 < p → exec (.jtagInstruction (.internalScan p)) s = .next s) ∧
    (s.power.testMode = false → s.power.powerGood = true → s.sec.permitted = true →
      (Answers (exec (.jtagInstruction (.internalScan 0)) s) fun t =>
        t.sec.jtag = .internalScan 0 ∧ (∀ k ∈ t.eng.clusters, k.ktb = [])) ∧
      (Answers (exec (.jtagInstruction (.internalScan 1)) s) fun t =>
        t.sec.jtag = .internalScan 1 ∧ t.store.held = [] ∧ ∀ p ∈ t.pads, p.kmem = []) ∧
      (Answers (exec (.jtagInstruction (.internalScan 2)) s) fun t =>
        t.sec.jtag = .internalScan 2 ∧ t.eng.sharedKtb = [] ∧ t.eng.descCache = [] ∧ t.store.roots = []) ∧
      (Answers (exec (.jtagInstruction (.internalScan 3)) s) fun t =>
        t.sec.jtag = .internalScan 3 ∧ (∀ p ∈ t.pads, p.ktp = []) ∧ (∀ w ∈ t.maps.windows, w.key = []) ∧
        (∀ x ∈ t.maps.streams, x.key = []) ∧ (∀ q ∈ t.net.qps, q.keys = [] ∧ q.rx.msgs = []) ∧ t.net.cached = []) ∧
      (Answers (exec (.jtagInstruction (.internalScan 4)) s) fun t =>
        t.sec.jtag = .internalScan 4 ∧ t.maps.ledger = [])) ∧
    (s.sec.jtag = .internalScan 4 → Answers (exec (.jtagInstruction .bypass) s) fun t =>
      t.sec.jtag = .bypass ∧ t.maps.ledger = [])

/-- R288, R324, R411, R422: JTAG_INSTRUCTION is carried out: IDCODE and BYPASS in every state, the boundary scan while every
tenant paddock is FREE, and the scan of a partition that exists while debug is permitted, which is recorded as zeroised; the
two scans need PWR_GOOD outside manufacturing test. -/
def Sys2Proof.Claims.JtagInstructionsComplete : Prop :=
  ∀ (s : State) (back : State), back = (match s.sec.jtag with | .internalScan p => s.clearPartition p | _ => s) →
    exec (.jtagInstruction .idcode) s =
      .next { back with sec := { back.sec with jtag := .idcode }, out := back.out ++ [.jtag 0] } ∧
    exec (.jtagInstruction .bypass) s =
      .next { back with sec := { back.sec with jtag := .bypass }, out := back.out ++ [.jtag 1] } ∧
    (s.power.testMode = false → s.power.powerGood = true →
      ((∀ p ∈ s.pads, p.id = 0 ∨ p.state = .free) → exec (.jtagInstruction .boundaryScan) s =
        .next { back with sec := { back.sec with jtag := .boundaryScan }, out := back.out ++ [.jtag 2] }) ∧
      (s.sec.permitted = true → ∀ p, p ∈ [0, 1, 2, 3, 4, 6] → Answers (exec (.jtagInstruction (.internalScan p)) s) fun t =>
        t.sec.jtag = .internalScan p ∧ p ∈ t.sec.zeroised ∧ t.out = s.out ++ [.jtag 3] ∧ t.store.seqs = s.store.seqs ∧
        t.boot = s.boot ∧ t.pending = s.pending))

/-- R337, R338, R339, R340, R411: the phases turn on in order, each when the one before is ready (on the QK4-A384 after its
fixed delay), NODE_PWROK rises after the last, and a phase that is late turns all off and is tried again, three times in all. -/
def Sys2Proof.Claims.PowerComesUpInPhases : Prop :=
  ∀ (s : State),
    (∀ sel id, s.power.vaux = false → Answers (exec (.vauxUp sel id false) s) fun t =>
      t.power.vaux = true ∧ t.power.mgmtSel = sel ∧ t.power.mgmtId = id % 8 ∧ t.power.testMode = false ∧
      t.log.retained = [] ∧ t.regs.resetCause = 0 ∧ t.regs.warmCount = 0 ∧ t.boot = s.boot) ∧
    (∀ sel id, s.power.vaux = true → s.power.rstN = true → s.power.powerGood = false →
      (Answers (exec (.powerGood sel id true) s) fun t => t.power.powerGood = true ∧ t.power.testMode = true ∧
        t.power.phase = s.power.phase ∧ t.boot.stage = s.boot.stage) ∧
      (Answers (exec (.powerGood sel id false) s) fun t => t.power.powerGood = true ∧ t.power.mgmtSel = sel ∧
        t.power.mgmtId = id % 8 ∧ t.power.phase = 1 ∧ t.boot.stage = 1 ∧ t.boot.attempts = 0)) ∧
    (s.power.powerGood = true →
      (s.fused.a768 = true → 1 ≤ s.power.phase → s.power.phase ≤ 3 → Answers (exec .powerPhaseReady s) fun t =>
        t.power.phase = s.power.phase + 1 ∧ t.power.ready = s.power.ready ++ [s.power.phase] ∧ t.power.pwrok = s.power.pwrok ∧
        t.boot.stage = s.boot.stage) ∧
      (s.fused.a768 = true → s.power.phase = 4 → Answers (exec .powerPhaseReady s) fun t =>
        t.power.phase = 5 ∧ t.power.pwrok = true ∧ t.boot.stage = 2 ∧ t.pwr.refOk = List.replicate 4 true) ∧
      (∀ ivr osc logic sites, s.fused.a768 = false → 1 ≤ s.power.phase → s.power.phase ≤ 3 →
        Answers (exec (.a384PhaseDelayEnd ivr osc logic sites) s) fun t => t.power.phase = s.power.phase + 1 ∧
          t.time = max s.time (s.boot.stageAt + phaseDelay s.power.phase) ∧ t.power.pwrok = s.power.pwrok) ∧
      (∀ ivr osc logic sites, s.fused.a768 = false → s.power.phase = 4 →
        (ivr = true → osc = true → s.sitesOn sites = true → logic = true →
          Answers (exec (.a384PhaseDelayEnd ivr osc logic sites) s) fun t =>
            t.power.phase = 5 ∧ t.power.pwrok = true ∧ t.boot.stage = 2) ∧
        (∀ bad, bad = (if ivr = false then 1 else if osc = false then 2 else if s.sitesOn sites = false then 3
            else if logic = false then 4 else 0) → bad ≠ 0 → s.boot.attempts < 2 →
          Answers (exec (.a384PhaseDelayEnd ivr osc logic sites) s) fun t => t.power.phase = 0 ∧ t.power.on = [] ∧
            t.power.pwrok = s.power.pwrok ∧ t.boot.powerPhase = bad ∧ t.boot.attempts = s.boot.attempts + 1)) ∧
      (1 ≤ s.power.phase → s.power.phase ≤ 4 → s.boot.attempts < 2 → Answers (exec .powerPhaseTimeout s) fun t =>
        t.power.phase = 0 ∧ t.power.on = [] ∧ t.power.held = false ∧ t.boot.powerPhase = s.power.phase ∧
        t.boot.attempts = s.boot.attempts + 1 ∧ t.power.retryAt = some (t.time + 1000000000) ∧ t.boot.stage = s.boot.stage) ∧
      (1 ≤ s.power.phase → s.power.phase ≤ 4 → 2 ≤ s.boot.attempts → Answers (exec .powerPhaseTimeout s) fun t =>
        t.power.phase = 0 ∧ t.power.on = [] ∧ t.power.held = true ∧ t.power.retryAt = none ∧ t.boot.stage = 15 ∧
        t.boot.powerPhase = s.power.phase)) ∧
    (∀ at_, s.power.retryAt = some at_ → Answers (exec .powerRetryTimer s) fun t =>
      t.time = max s.time at_ ∧ t.power.phase = 1 ∧ t.power.retryAt = none ∧ t.boot.stage = 1 ∧ t.regs.resetCause = 5)

/-- What a cold reset leaves (R392, R417, R418): the phases off, the fuses, the image slots and the retained log kept, all
else at its reset value. -/
def Sys2Proof.Machine.State.cold (s t : State) (cause : Nat) : Prop :=
  t.power.phase = 0 ∧ t.power.on = [] ∧ t.power.pwrok = false ∧ t.power.powerGood = false ∧ t.boot.stage = 0 ∧
  t.regs.resetCause = cause ∧ t.regs.warmCount = 0 ∧ t.fused = s.fused ∧ t.farrier = s.farrier ∧ t.boot.slots = s.boot.slots ∧
  t.boot.floor = s.boot.floor ∧ t.store.seqs = [] ∧ t.store.blocks = [] ∧ t.net.qps = [] ∧ t.maps.windows = [] ∧ t.mem = [] ∧
  t.log.records = [] ∧ t.pads = [Pad.fresh 0] ∧ t.sec = Security.fresh ∧ t.pending = s.pending

/-- R367, R392, R417, R418, R287: loss of power-good and a NODE_RST_N pulse of 1 µs or more are cold resets, a shorter pulse
is ignored; loss of VAUX_1P8 takes the retained log too; PERST# and an FLR reset the PCIe function's own fields. -/
def Sys2Proof.Claims.PinsResetTheNode : Prop :=
  ∀ (s : State),
    (s.power.powerGood = true → Answers (exec .powerGoodLoss s) fun t => s.cold t 0 ∧ t.log.retained = s.log.retained) ∧
    (∀ ns, s.power.vaux = true → 1000 ≤ ns → Answers (exec (.nodeRstN ns) s) fun t =>
      s.cold t 1 ∧ t.log.retained = s.log.retained) ∧
    (∀ ns, ns < 1000 → exec (.nodeRstN ns) s = .next s) ∧
    (s.power.vaux = true → Answers (exec .vauxLoss s) fun t => s.cold t 0 ∧ t.power.vaux = false ∧ t.log.retained = []) ∧
    (∀ c, (c = Instr.perst ∧ s.power.powerGood = true) ∨ c = Instr.flr → Answers (exec c s) fun t =>
      t.regs = { s.regs with
        stageIrqEn := false, tlySel := 0, tlyIrqEn := false, msixTable := Regs.fresh.msixTable, msixPba := 0 } ∧
      t.log = { s.log with irqEn := 28 } ∧ t.pwr = { s.pwr with irqEn := false } ∧
      (s.sec.tdi = .unlocked → t.sec = s.sec) ∧ (s.sec.tdi ≠ .unlocked → t.sec.tdi = .error ∧ t.sec.bar0Shut = true) ∧
      (∀ b ∈ t.host.boxes, b.irqEn = false) ∧ t.store = s.store ∧ t.net = s.net ∧ t.pads = s.pads ∧ t.boot = s.boot ∧
      t.mem = s.mem)

/-- R332, R333, R334, R335, R336, R348: O1 takes the slots' states from the slot control record, which holds what it
wrote last: a probation that did not end has failed; a valid pending image starts on probation, else the active one,
else the fallback, and with none the node enters RECOVERY. A probation that lasts its time makes its image active and
the old one the fallback; one that does not serve in time fails. -/
def Sys2Proof.Claims.ImagesAreChosenAndProved : Prop :=
  ∀ (s u : State), u = { s with boot := s.boot.readRecord } →
      (s.boot.ctrl.length = 2 → s.boot.writeRecord.readRecord = s.boot.writeRecord) ∧
    (s.boot.stage = 2 → u.boot.slots.length = 2 → (∀ x ∈ u.boot.slots, x.state ≠ .probation) →
      (∀ x ∈ u.boot.slots, x.state ≠ .pending) → (∀ x ∈ u.boot.slots, x.state ≠ .active) →
      (∀ x ∈ u.boot.slots, x.state ≠ .fallback) → Answers (exec .imageSelect s) fun t =>
        t.boot.stage = 14 ∧ t.boot.lastFail = max s.boot.lastFail 3 ∧ t.boot.slots = u.boot.slots) ∧
    (∀ i, i < 2 → s.boot.stage = 2 → u.boot.slots.length = 2 → (u.slot i).state = .probation →
      Answers (exec .imageSelect s) fun t => (t.slot i).state = .failed ∧ (t.slot i).reason = 0x0A) ∧
    (∀ i, s.boot.stage = 2 → u.boot.slots.length = 2 → (∀ x ∈ u.boot.slots, x.state ≠ .probation) →
      u.slotIn .pending = none → u.slotIn .active = none → u.slotIn .fallback = some i →
      s.imgReason (u.slot i).bytes 25165824 = 0 → Answers (exec .imageSelect s) fun t =>
        t.boot.stage = 4 ∧ t.boot.inForce = i ∧ (t.slot i).state = .active ∧ t.img = imgSettings (u.slot i).bytes) ∧
    (∀ i, s.boot.stage = 2 → u.boot.slots.length = 2 → (∀ x ∈ u.boot.slots, x.state ≠ .probation) →
      u.slotIn .pending = some i → s.imgReason (u.slot i).bytes 25165824 = 0 → Answers (exec .imageSelect s) fun t =>
        t.boot.stage = 4 ∧ t.boot.inForce = i ∧ (t.slot i).state = .probation ∧ (t.slot i).bytes = (u.slot i).bytes ∧
        t.boot.probationEnd = some (s.time + t.img.service.probation.1) ∧ t.img = imgSettings (u.slot i).bytes ∧
        t.slot (1 - i) = u.slot (1 - i)) ∧
    (∀ i, s.boot.stage = 2 → u.boot.slots.length = 2 → (∀ x ∈ u.boot.slots, x.state ≠ .probation) →
      u.slotIn .pending = none → u.slotIn .active = some i → s.imgReason (u.slot i).bytes 25165824 = 0 →
      Answers (exec .imageSelect s) fun t =>
        t.boot.stage = 4 ∧ t.boot.inForce = i ∧ t.boot.slots = u.boot.slots ∧ t.boot.probationEnd = s.boot.probationEnd ∧
        t.img = imgSettings (u.slot i).bytes) ∧
    (∀ at_, s.boot.probationEnd = some at_ → s.boot.slots.length = 2 → s.boot.inForce < 2 →
      Answers (exec .probationTimeExpiry s) fun t =>
        t.time = max s.time at_ ∧ t.boot.probationEnd = none ∧ (t.slot s.boot.inForce).state = .active ∧
        t.boot.floor = max s.boot.floor s.img.service.rollbackFloor ∧
        ((s.slot (1 - s.boot.inForce)).state = .active →
          (t.slot (1 - s.boot.inForce)).state =
            (if (s.slot (1 - s.boot.inForce)).epoch < t.boot.floor then .failed else .fallback))) ∧
    (s.boot.probationEnd ≠ none → s.boot.stage ≠ 12 → s.boot.inForce < s.boot.slots.length →
      Answers (exec .probationServeExpiry s) fun t =>
        t.time = max s.time (s.boot.startedAt + s.img.service.probation.2.1) ∧ t.boot.probationEnd = none ∧
        (t.slot s.boot.inForce).state = .failed ∧ t.boot.stage = s.boot.stage)

/-- R320, R323, R348: BIST retires the clusters that failed and maps usable ones of each die in ascending order;
training may return repaired frames of its stack alone; a stack that does not train is trained once more, then stopped
with its slice, and the stage ends when every fitted stack is trained or stopped. -/
def Sys2Proof.Claims.BistMapsAndStacksTrain : Prop :=
  ∀ (s : State),
    (∀ f0 f1, s.boot.stage = 4 → (∀ k ∈ s.eng.clusters, k.die < 2 ∧ k.phys < 68) → Answers (exec (.bistStageDone f0 f1) s) fun t =>
      t.boot.stage = 5 ∧
      (∀ k ∈ t.eng.clusters, ∀ l, k.use = .mapped l →
        (k.die, k.phys) ∉ s.fused.disabled ∧ (k.die, k.phys) ∉ s.farrier.clusters ∧
        k.phys ∉ (if k.die = 0 then f0 else f1) ∧ l < 64 ∧ l ≤ k.phys ∧
        ∀ x ∈ t.eng.clusters, ∀ l', x.use = .mapped l' → x.die = k.die → k.phys < x.phys → l < l') ∧
      (∀ k ∈ t.eng.clusters, k.phys ∈ (if k.die = 0 then f0 else f1) → (k.die, k.phys) ∉ s.fused.disabled →
        k.use = .retired ∧ k.result = 2) ∧
      t.eng.clusters.length = s.eng.clusters.length) ∧
    (∀ i x, s.boot.stage = 5 → s.stackAt i = some x → x.trained = false → x.stopped = false →
      (Answers (exec (.hbmTrainingDone i) s) fun t =>
        (∃ y, t.stackAt i = some y ∧ y.trained = true) ∧
        (∀ f ∈ s.store.retired, f / regionFrames ≠ i → f ∈ t.store.retired) ∧
        (∀ f ∈ s.farrier.frames, f / regionFrames ≠ i → f ∈ t.farrier.frames) ∧
        (∀ f ∈ t.store.retired, f ∈ s.store.retired) ∧
        t.boot.stage = (if ∀ y ∈ t.store.hbms, y.trained = true ∨ y.stopped = true then 6 else 5)) ∧
      (x.retrained = false → Answers (exec (.hbmTrainingTimeout i) s) fun t =>
        t.boot.stage = 5 ∧ ∃ y, t.stackAt i = some y ∧ y.retrained = true ∧ y.trained = false ∧ y.stopped = false ∧
          t.boot.lastFail = max s.boot.lastFail 5) ∧
      (x.retrained = true → Answers (exec (.hbmTrainingTimeout i) s) fun t =>
        (∃ y, t.stackAt i = some y ∧ y.stopped = true) ∧ t.boot.stacksStopped = min 255 (s.boot.stacksStopped + 1) ∧
        (∀ c ∈ s.img.slices, i ∈ c.hbms → c.id ∈ t.maps.fault.stoppedSlices)))

/-- The items that wait in the queue of a class and paddock. -/
def Sys2Proof.Machine.Sched.items (d : Sched) (cls paddock : Nat) : List Item :=
  ((d.queue cls paddock).map fun q => q.items.map fun x => x.1).getD []

/-- R343, R344, R345, R346: a beacon for every fabric manager waits at the egress of the lowest link with a neighbour when
its slot comes, one goes out again in the next
cycle when no reply came in time, and an accepted reply gives the node its ID and opens window 0 to the fabric manager. -/
def Sys2Proof.Claims.NodeJoinsTheFabric : Prop :=
  ∀ (s : State),
    (∀ at_ l, s.boot.stage = 10 → s.boot.join.nextAt = some at_ → s.boot.join.nonce = [] →
      (s.net.links.filter fun x => x.up && x.neighbour).head? = some l → Answers (exec .beaconSlotTimer s) fun t =>
        t.time = max s.time at_ ∧ t.boot.join.attempt = 0 ∧ t.boot.join.link = l.id ∧ t.boot.join.sent = some at_ ∧
        t.boot.join.nextAt = none ∧ t.out = s.out ∧
        ∀ d, s.sched (16 + l.id) = some d → ∃ e, t.sched (16 + l.id) = some e ∧
          e.items 0 0 = d.items 0 0 ++ s.img.service.fmAddresses.map fun a => .frame
            ⟨0, 0, t.boot.join.beacon, t.wireBytes l.id a t.boot.join.beacon.length false - 32, false, false,
             .beacon a s.img.service.joinPort⟩) ∧
    (∀ at_, s.boot.stage = 10 → s.boot.join.nextAt = some at_ → (∀ x ∈ s.net.links, x.up = false ∨ x.neighbour = false) →
      Answers (exec .beaconSlotTimer s) fun t => t.out = s.out ∧ t.sch = s.sch ∧
        t.boot.join.nextAt = some (at_ + 5120000000)) ∧
    (∀ at_, s.boot.join.sent = some at_ → Answers (exec .joinTimeout s) fun t =>
      t.boot.join.sent = none ∧ t.boot.join.nextAt = some (at_ + 5120000000) ∧ t.boot.stage = s.boot.stage ∧
      t.boot.nodeValid = s.boot.nodeValid ∧ t.boot.lastFail = max s.boot.lastFail s.boot.stage) ∧
    (∀ r, (s.boot.stage ≠ 10 ∨ s.replyHolds r = false) → exec (.joinReply r) s = .next s) ∧
    (∀ r, s.boot.stage = 10 → s.replyHolds r = true → Answers (exec (.joinReply r) s) fun t =>
      t.boot.stage = 11 ∧ t.boot.nodeValid = true ∧ t.boot.nodeId = be r 4 2 ∧ t.boot.fmNode = be r 6 2 ∧
      t.boot.fmAddress = sub r 40 16 ∧
      ∃ w, t.window 0 = some w ∧ w.srcNode = be r 6 2 ∧ w.key = t.boot.fmKey ∧ w.use = .fabricManager ∧ w.state = .active)

/-- R388, R421: a lost reference is shown and recorded, the ports that hang on it go down, loss of the system reference is
Fatal, and a restored reference is shown present; at each second boundary PTP_PPS_OUT pulses. -/
def Sys2Proof.Claims.ReferencesAreMonitored : Prop :=
  ∀ (s : State), s.pwr.refOk.length = 4 → s.pwr.refLost.length = 4 →
    (s.store.ports.map (·.port)).Nodup → (s.net.links.map (·.id)).Nodup →
    (∀ r, r < 3 → s.pwr.refOk.getD r false = true → Answers (exec (.refclkLoss r) s) fun t =>
      t.pwr.refOk = s.pwr.refOk.set r false ∧ t.pwr.refLost = s.pwr.refLost.set r true ∧
      (r = 0 → t.pwr.f0Up = false ∧ ∀ x ∈ t.store.ports, x.present = true → x.lost = true) ∧
      (r = 1 → t.pwr.holdover = true ∧ t.net.ptpLocked = false) ∧
      (∀ l ∈ t.net.links, (r = 1 ∧ l.id < 16) ∨ (r = 2 ∧ 16 ≤ l.id ∧ l.id < 32) → l.up = false) ∧ t.boot = s.boot) ∧
    (s.pwr.refOk.getD 3 false = true → s.restarting 5 = false → Answers (exec (.refclkLoss 3) s) fun t =>
      t.boot.stage = 2 ∧ t.regs.resetCause = 4 ∧
      ∃ r, t.log.retained.getLast? = some r ∧ r.severity = 3 ∧ r.time = s.time) ∧
    (∀ r, r < 4 → s.pwr.refOk.getD r true = false → s.power.pwrok = true → Answers (exec (.refclkRestore r) s) fun t =>
      t.pwr.refOk = s.pwr.refOk.set r true ∧ t.pwr.refLost = s.pwr.refLost ∧ (r = 0 → t.pwr.f0Up = true) ∧
      (r = 1 → t.pwr.holdover = false) ∧ t.net = s.net ∧ t.store = s.store) ∧
    (s.power.pwrok = true → Answers (exec .ppsPulse s) fun t =>
      t.out = s.out ++ [.pps] ∧ t.time % 1000000000 = 0 ∧ s.time ≤ t.time ∧ t.time < s.time + 1000000000)

/-- The cluster at one place is now `k`; every other cluster and all else but the timebase is kept. -/
def Sys2Proof.Machine.State.oneCluster (s t : State) (die phys : Nat) (k : Cluster) : Prop :=
  t.physical die phys = some k ∧ (∀ d p, (d, p) ≠ (die, phys) → t.physical d p = s.physical d p) ∧
  t = { s with time := t.time, eng := { s.eng with clusters := t.eng.clusters } }

/-- R370, R371: a cluster that has been idle for K1_IDLE goes to K1, and after K2_IDLE to K2, and one with a resident
work unit does neither; a work unit that arrives during the entry lets the cluster out at its end. -/
def Sys2Proof.Claims.ClustersRestAndWake : Prop :=
  ∀ (die phys : Nat) (s : State) (k : Cluster), s.physical die phys = some k →
    (s.clusterIdle k = false → exec (.k1IdleExpiry die phys) s = .next s ∧ exec (.k2IdleExpiry die phys) s = .next s) ∧
    (s.clusterIdle k = true → k.k = .k0 → Answers (exec (.k1IdleExpiry die phys) s) fun t =>
      s.oneCluster t die phys { k with k := .k1 } ∧ t.time = max s.time (k.idleEnd s.time s.img.power.k1Idle)) ∧
    (s.clusterIdle k = true → k.k = .k1 → Answers (exec (.k2IdleExpiry die phys) s) fun t =>
      s.oneCluster t die phys { k with k := .enteringK2 } ∧ t.time = max s.time (k.idleEnd s.time s.img.power.k2Idle)) ∧
    (k.k = .enteringK2 → Answers (exec (.k2EntryComplete die phys) s) fun t =>
      s.oneCluster t die phys { k with k := if k.exitPending then .k0 else .k2, exitPending := false } ∧ t.time = s.time) ∧
    (k.k = .k2 → exec (.k2IdleExpiry die phys) s = .next s ∧ exec (.k2EntryComplete die phys) s = .next s)

/-- R372, R373, R374, R375, R376, R377, R378: N2 is entered only with nothing under way; the alarm comes the longest
exit before the first timed duty; the first wake event starts the exit and is recorded, a lower SOURCE of the same
instant in its place; its five steps follow each other, and a late one is Fatal. -/
def Sys2Proof.Claims.NodeSleepsAndWakes : Prop :=
  ∀ (s : State),
    ((s.n2Permitted = false ∨ s.eng.ops ≠ [] ∨ s.store.moves ≠ [] ∨ s.leases.leases ≠ [] ∨
      (∃ p ∈ s.pads, p.state = .teardown) ∨ (∃ x ∈ s.maps.streams, x.unacked ≠ []) ∨ s.net.miss ≠ [] ∨
      (∃ d ∈ s.sch.scheds, d.id < 16 ∧ ∃ q ∈ d.queues, q.items ≠ [])) → exec .n2IdleExpiry s = .next s) ∧
    (s.pwr.state = .n0 → s.quiet = true → Answers (exec .n2IdleExpiry s) fun t =>
      t.pwr.state = .enteringN2 ∧ t.pwr.pinned = s.pinOnEntry ∧ t.time = max s.time (s.pwr.idleSince + s.img.power.n2Idle) ∧
      t.store = s.store ∧ t.maps = s.maps ∧ t.mem = s.mem) ∧
    (s.pwr.state = .enteringN2 →
      (s.pwr.wakePending = none → Answers (exec .n2EntryComplete s) fun t =>
        t.pwr.state = .n2 ∧ (∀ k ∈ t.eng.clusters, k.k = .k2) ∧ t.pwr.alarm = s.nextDuty.map (· - 8000000) ∧
        t.store = s.store ∧ t.net = s.net ∧ t.mem = s.mem) ∧
      (∀ a p n, s.pwr.wakePending = some (a, p, n) → Answers (exec .n2EntryComplete s) fun t =>
        t.pwr.state = .exitingN2 0 ∧ t.pwr.wakeSource = a ∧ t.pwr.wakePort = (if a = 1 then p else 0))) ∧
    (∀ a p, s.pwr.state = .n2 → 1 ≤ a → a ≤ 7 → p ≤ 7 → (a = 5 → s.regs.monitorDisable = false) →
      Answers (exec (.n2Wake a p) s) fun t =>
        t.pwr.state = .exitingN2 0 ∧ t.pwr.wakeSource = a ∧ t.pwr.wakePort = (if a = 1 then p else 0) ∧
        t.pwr.exitEnd = s.time + 8000000 ∧ t = { s with pwr := t.pwr }) ∧
    (∀ p, s.regs.monitorDisable = true → exec (.n2Wake 5 p) s = .next s) ∧
    (∀ a p n, s.pwr.state = .exitingN2 n → n ≠ 0 ∨ s.pwr.exitEnd ≠ s.time + 8000000 ∨
      wakesBefore a p s.pwr.wakeSource s.pwr.wakePort = false → exec (.n2Wake a p) s = .next s) ∧
    (∀ a p, s.pwr.state = .exitingN2 0 → s.pwr.exitEnd = s.time + 8000000 → 1 ≤ a → a < s.pwr.wakeSource → a ≤ 7 → p ≤ 7 →
      (a = 5 → s.regs.monitorDisable = false) → exec (.n2Wake a p) s =
        .next { s with pwr := { s.pwr with wakeSource := a, wakePort := if a = 1 then p else 0 } }) ∧
    (∀ n, s.pwr.state = .exitingN2 n →
      (n < 4 → Answers (exec .n2ExitPhaseReady s) fun t =>
        t.pwr.state = .exitingN2 (n + 1) ∧ (n = 3 → ∀ k ∈ t.eng.clusters, k.k = .k1) ∧
        (n ≠ 3 → t.eng.clusters = s.eng.clusters) ∧
        t.time = (if s.fused.a768 then s.time else max s.time (s.phaseEnd n)) ∧
        (n = 2 → t.store = { s.store with heatSince := s.store.heatSince.map fun _ => t.time }) ∧ (n ≠ 2 → t.store = s.store) ∧
        t.pwr.exitEnd = t.time + exitLeft (n + 1)) ∧
      (n = 4 → s.host.doorbells = [] → Answers (exec .n2ExitPhaseReady s) fun t =>
        t.pwr.state = .n0 ∧ t.pwr.wakeCount = min 65535 (s.pwr.wakeCount + 1) ∧ t.pwr.pinned = [] ∧
        t.pwr.idleSince = t.time ∧ t.store = s.store) ∧
      (s.restarting 5 = false → Answers (exec .n2ExitTimeout s) fun t =>
        t.boot.stage = 2 ∧ t.regs.resetCause = 4 ∧ ∃ r, t.log.retained.getLast? = some r ∧ r.severity = 3)) ∧
    (∀ a, s.pwr.state = .n2 → s.pwr.alarm = some a → Answers (exec .timebaseAlarm s) fun t =>
      t.time = max s.time a ∧ t.pwr.state = .exitingN2 0 ∧ t.pwr.wakeSource = 3 ∧ t.store = s.store)

/-- R381, R382, R383, R425: above the power limit the points fall and well below it they rise again, those of pinned groups
and of forced dies stay; T_THROTTLE lowers a die's points to its floor; T_EMERG holds a die at the lowest point until it has
cooled; T_TRIP, a Fatal error, turns the node off and fails a probation. -/
def Sys2Proof.Claims.PowerAndHeatMoveThePoints : Prop :=
  ∀ (s : State), s.pwr.points.length = 16 → s.pwr.throttle.length = 2 → s.pwr.forced.length = 2 → s.pwr.temps.length = 3 →
    (∀ w, Answers (exec (.powerAverageTick w) s) fun t =>
      t.pwr.average = w ∧ t.pwr.limit = s.pwr.limit ∧ t.time = s.time ∧ t.store = s.store ∧
      (s.restarting 6 = true → t.pwr.points = s.pwr.points) ∧
      (∀ g, g < 16 → s.pinnedGroup g = true → t.pwr.points.getD g 0 = s.pwr.points.getD g 0) ∧
      (∀ g, g < 16 → s.restarting 6 = false → s.pinnedGroup g = false → s.pwr.forced.getD (g / 8) false = false →
        (s.pwr.limit * 10 < w → t.pwr.points.getD g 0 =
          (if s.pwr.points.getD g 0 < s.lowestPoint then s.pwr.points.getD g 0 + 1 else s.pwr.points.getD g 0)) ∧
        (w * 100 ≤ s.pwr.limit * 970 → s.pwr.throttle.getD (g / 8) false = false →
          t.pwr.points.getD g 0 = max (s.pwr.ceilings.getD g 0) (s.pwr.points.getD g 0 - 1)) ∧
        (w ≤ s.pwr.limit * 10 → s.pwr.limit * 970 < w * 100 → t.pwr.points.getD g 0 = s.pwr.points.getD g 0))) ∧
    (∀ d c, d < 2 → s.pwr.forced.getD d false = false → Answers (exec (.throttleStepTimer d c) s) fun t =>
      t.pwr.temps.getD d 0 = c ∧ t.pwr.throttle.getD d false = decide (s.img.power.tThrottle ≤ c) ∧
      (∀ g, g < 16 → (g / 8 ≠ d ∨ s.pinnedGroup g = true) → t.pwr.points.getD g 0 = s.pwr.points.getD g 0) ∧
      (∀ g, g < 16 → g / 8 = d → s.pinnedGroup g = false →
        (s.img.power.tThrottle ≤ c → t.pwr.points.getD g 0 = (if s.pwr.points.getD g 0 < s.img.power.throttleFloor
          then s.pwr.points.getD g 0 + 1 else s.pwr.points.getD g 0)) ∧
        (c < s.img.power.tThrottle - 30 →
          t.pwr.points.getD g 0 = max (s.pwr.ceilings.getD g 0) (s.pwr.points.getD g 0 - 1)) ∧
        (c < s.img.power.tThrottle → s.img.power.tThrottle - 30 ≤ c → t.pwr.points.getD g 0 = s.pwr.points.getD g 0))) ∧
    (∀ d c, d < 2 → s.img.power.tEmerg ≤ c → s.pwr.forced.getD d false = false → s.restarting 5 = false →
      Answers (exec (.tEmergCross d c) s) fun t =>
        t.pwr.forced = s.pwr.forced.set d true ∧ t.pwr.emergEvt = true ∧
        (∀ g, g < 16 → t.pwr.points.getD g 0 = if g / 8 = d then s.lowestPoint else s.pwr.points.getD g 0) ∧
        ∃ r, t.log.records.getLast? = some r ∧ r.code = 0x6001 ∧ r.severity = 2) ∧
    (∀ d c, d < 2 → c < s.img.power.tThrottle - 30 → s.pwr.forced.getD d false = true →
      Answers (exec (.tEmergRelease d c) s) fun t =>
        t.pwr.forced = s.pwr.forced.set d false ∧
        (∀ g, g < 16 → t.pwr.points.getD g 0 =
          if g / 8 = d ∧ s.pinnedGroup g = true then s.img.firstPoint g else s.pwr.points.getD g 0)) ∧
    (∀ d c, d ≤ 2 → 1050 ≤ c → s.power.pwrok = true → Answers (exec (.tTripCross d c) s) fun t =>
      (s.boot.probationEnd = none → s.cold t 0) ∧ t.power.phase = 0 ∧ t.power.pwrok = false ∧ t.boot.stage = 0 ∧
      (s.boot.probationEnd ≠ none → s.boot.inForce < s.boot.slots.length → (t.slot s.boot.inForce).state = .failed) ∧
      t.power.thermtripN = false ∧ t.power.held = true ∧ ∃ r, t.log.retained.getLast? = some r ∧ r.severity = 3)

/-- R353, R354, R368: when its restart ends an ostler runs again with the components that the staged bundle holds for
it, O5 then logs the reports that waited and the count of those that were lost, and a restart that a command asked for
brings the next generation. -/
def Sys2Proof.Claims.RestartedOstlersRunAgain : Prop :=
  ∀ (o : Nat) (s : State), (s.ostlers.map (·.id)).Nodup →
    (s.restarting o = false → exec (.ostlerRestartComplete o) s = .next s) ∧
    (s.restarting o = true → o ∉ [5, 7] → Answers (exec (.ostlerRestartComplete o) s) fun t =>
      t.restarting o = false ∧ (∃ x, t.ostler o = some x ∧ x.running = true ∧ x.data = [] ∧
        x.loaded = bundleParts ((s.boot.bundle.map (·.2)).getD []) o) ∧
      (∀ k, k ≠ o → t.ostler k = s.ostler k) ∧ (o ≠ 3 → t.store.seqs = s.store.seqs) ∧ t.boot = s.boot ∧
      ((s.function 3 o).reenable = true → (t.function 3 o).generation = ((s.function 3 o).generation + 1) % 2 ^ 32 ∧
        (t.function 3 o).shutting = false)) ∧
    (∀ e at_, o = 5 → s.restarting 5 = true → s.log.queue = [(e, at_)] → s.log.lostReports = 0 → e.severity = 1 → e.unitKind = 9 →
      Answers (exec (.ostlerRestartComplete 5) s) fun t =>
        t.restarting 5 = false ∧ t.log.queue = [] ∧ ∃ r, t.log.records.getLast? = some r ∧ r.code = e.code ∧
          r.severity = 1 ∧ r.time = at_) ∧
    (o = 5 → s.restarting 5 = true → s.log.queue = [] → 0 < s.log.lostReports →
      Answers (exec (.ostlerRestartComplete 5) s) fun t =>
        t.log.lostReports = 0 ∧ ∃ r, t.log.records.getLast? = some r ∧ r.code = 0x5006 ∧ r.data = toLe 8 s.log.lostReports)

/-- An answer line of the monitor (R369): "OK", or "ERR" with the code, after its text and before the prompt; SHR_COUNT
counts it. -/
def Sys2Proof.Machine.State.monitorSays (s t : State) (code : Nat) : Prop :=
  (∃ text, t.out = s.out ++ [.uart (text ++ (if code = 0 then ascii "OK" else ascii "ERR " ++ statusText code)
    ++ Config.sherunEol ++ ascii "shr> ")]) ∧
  t.shr.okCount = (if code = 0 then (s.shr.okCount + 1) % 65536 else s.shr.okCount) ∧
  t.shr.errCount = (if code = 0 then s.shr.errCount else (s.shr.errCount + 1) % 65536)

/-- What a command that only reports leaves as it was. -/
def Sys2Proof.Machine.State.onlySaid (s t : State) : Prop :=
  t = { s with out := t.out, pwr := t.pwr, shr := { s.shr with okCount := t.shr.okCount, errCount := t.shr.errCount } }

/-- The reporting commands, and whether the boot ROM serves them. -/
def Sys2Proof.Machine.monitorReports : List (Instr × Bool) :=
  [(.shrHelp, false), (.shrVer, true), (.shrStage, true), (.shrHealth, false), (.shrBistStatus, false)]

/-- R369: a reporting command answers its text and "OK"; the boot ROM serves a few and refuses the others with an error; a
disabled monitor hears nothing. -/
def Sys2Proof.Claims.MonitorReports : Prop :=
  ∀ (c : Instr) (rom : Bool) (s : State),
    ((c, rom) ∈ monitorReports ∨ (∃ n, c = .shrLog n ∧ rom = true) ∨ (∃ p, c = .shrTally p ∧ p ≤ 4095 ∧ rom = false)) →
    (s.monitorListens = false → exec c s = .next s) ∧
    (s.monitorListens = true → (s.romMonitor = false ∨ rom = true) → Answers (exec c s) fun t =>
      s.monitorSays t 0 ∧ s.onlySaid t) ∧
    (s.monitorListens = true → s.romMonitor = true → rom = false → Answers (exec c s) fun t =>
      ∃ code, code ≠ 0 ∧ s.monitorSays t code ∧ s.onlySaid t)

/-- R369, R320: a rate of the list applies after "OK", another draws ERR 0x05; LBIST runs on a spare or on a retired or
disabled cluster, which stays out of use, and on no other; a tally of a paddock above 4,095 draws ERR 0x05, and so does a
line beyond 128 characters, which is discarded. -/
def Sys2Proof.Claims.MonitorSetsItsRateAndTests : Prop :=
  ∀ (s : State), s.monitorListens = true →
    (∀ r, r ∈ baudRates → Answers (exec (.shrBaud r) s) fun t => s.monitorSays t 0 ∧ t.shr.baud = r) ∧
    (∀ r, r ∉ baudRates → Answers (exec (.shrBaud r) s) fun t => s.monitorSays t 5 ∧ t.shr.baud = s.shr.baud) ∧
    (∀ line, 128 < line.length → Answers (exec (.shrLongLine line) s) fun t =>
      s.monitorSays t 5 ∧ t.shr.lineDiscarded = true ∧ t.store = s.store ∧ t.mem = s.mem) ∧
    (s.romMonitor = false →
      (∀ p, 4095 < p → Answers (exec (.shrTally p) s) fun t => s.monitorSays t 5 ∧ s.onlySaid t) ∧
      (∀ die phys k, s.physical die phys = some k →
        (∀ b, k.use = .spare b → k.spareSince = none → Answers (exec (.shrBistRun die phys) s) fun t =>
          s.monitorSays t 0 ∧ ∃ x, t.physical die phys = some x ∧ x.use = .testing ∧ x.ktb = []) ∧
        (k.use = .retired → Answers (exec (.shrBistRun die phys) s) fun t =>
          s.monitorSays t 0 ∧ ∃ x, t.physical die phys = some x ∧ x.use = .rerun false) ∧
        (k.use = .disabled → Answers (exec (.shrBistRun die phys) s) fun t =>
          s.monitorSays t 0 ∧ ∃ x, t.physical die phys = some x ∧ x.use = .rerun true) ∧
        (∀ l, k.use = .mapped l → Answers (exec (.shrBistRun die phys) s) fun t =>
          s.monitorSays t 5 ∧ t.eng = s.eng)))

/-- R369, R144, R145, R289: memory access and the data-path trace work while lowest-level debug is permitted and draw ERR
0x0A otherwise; a word at a reserved address stops the model by name. -/
def Sys2Proof.Claims.MonitorDebugsWhilePermitted : Prop :=
  ∀ (s : State), s.monitorListens = true → s.romMonitor = false →
    (s.sec.permitted = false →
      ∀ c, (∃ a n, c = Instr.shrMr a n) ∨ (∃ a v, c = Instr.shrMw a v) ∨ c = .shrTraceStart ∨ c = .shrTraceStop ∨
        c = .shrTraceDump → Answers (exec c s) fun t => s.monitorSays t 0x0A ∧ s.onlySaid t) ∧
    (s.sec.permitted = true →
      (∀ a n, s.wordsReserved a n = true → exec (.shrMr a (some n)) s = .fault .reservedAddress) ∧
      (∀ a n, s.wordsReserved a n = false → Answers (exec (.shrMr a (some n)) s) fun t =>
        s.monitorSays t 0 ∧ t.mem = s.mem ∧ t.store = s.store ∧ t.maps = s.maps ∧ t.eng = s.eng) ∧
      (∀ a v, s.wordsReserved a 1 = true → exec (.shrMw a v) s = .fault .reservedAddress) ∧
      (∀ a v, Memory.wf s.mem = true → s.wordsReserved a 1 = false → (∀ i, i < 4 → s.plainByte (a + i) = true ∧ s.blockAt (a + i) = none ∧
          s.checkedWord (a + i) = none ∧
          ∀ x ∈ s.images, ¬(x.1 ≤ a + i ∧ a + i < x.1 + x.2.length)) →
        Answers (exec (.shrMw a v) s) fun t =>
          s.monitorSays t 0 ∧ Memory.readBytes t.mem a 4 = toLe 4 v ∧
          (∀ x, x < a ∨ a + 4 ≤ x → Memory.read t.mem x = Memory.read s.mem x) ∧ t.store = s.store ∧ t.maps = s.maps) ∧
      (Answers (exec .shrTraceStart s) fun t => s.monitorSays t 0 ∧ t.shr.tracing = true ∧ t.shr.trace = []) ∧
      (Answers (exec .shrTraceStop s) fun t => s.monitorSays t 0 ∧ t.shr.tracing = false ∧
        (s.shr.tracing = false → t.shr.trace = s.shr.trace)) ∧
      (Answers (exec .shrTraceDump s) fun t => s.monitorSays t 0 ∧ t.shr.tracing = s.shr.tracing ∧
        t.shr.trace = s.shr.trace ∧ t.mem = s.mem))

/-- R392, R395, R400 and the register chapter: what the state right after a cold reset holds. -/
def Sys2Proof.Claims.ResetHoldsTheStatedValues : Prop :=
  State.reset.pending = [] ∧ State.reset.time = 0 ∧ State.reset.boot.stage = 0 ∧ State.reset.power.pwrok = false ∧
  State.reset.store.seqs = [] ∧ State.reset.store.blocks = [] ∧ State.reset.net.qps = [] ∧ State.reset.maps.windows = [] ∧
  State.reset.log.records = [] ∧ State.reset.mem = [] ∧ Memory.wf State.reset.mem = true ∧
  State.reset.plainWord 0x60004 = 28 ∧ State.reset.plainWord 0x70004 = 115200 ∧
  (∀ off, off ∈ [0x1004, 0x1024, 0x28000, 0x30004, 0x30008, 0x30010, 0x30020, 0x30024, 0x40004, 0x50000, 0x50004, 0x50008,
    0x5000C, 0x50018, 0x60000, 0x60008, 0x60010, 0x60014, 0x60018, 0x6001C, 0x60020, 0x70008] →
    State.reset.plainWord off = 0) ∧
  State.reset.pairValue 0x1008 = some 0 ∧
  (∀ p, 1 ≤ p → (State.reset.pad p).state = .free ∧ (State.reset.pad p).counters = List.replicate 10 0)

/-- Every command but a word access of the monitor answers a next state in every state, and none is refused as not
modelled. -/
def Sys2Proof.Claims.EveryCommandAnswers : Prop :=
  (∀ (c : Instr) (s : State), (∀ a n, c ≠ .shrMr a n) → (∀ a v, c ≠ .shrMw a v) → ∃ t, exec c s = .next t) ∧
  (∀ (c : Instr) (s : State) (f : Fault), exec c s = .fault f → f = .reservedAddress ∧ s.sec.permitted = true) ∧
  (∀ (c : Instr) (s : State) (r : Refusal), exec c s ≠ .refused r)

/-- A command changes only the fields of the state that `mayChange` names for it: no other register, table, queue or byte of
memory, and never the waiting commands or the fuses. -/
def Sys2Proof.Claims.CommandsChangeOnlyTheirFields : Prop :=
  ∀ (c : Instr) (s t : State), exec c s = .next t → Same (mayChange c) s t

/-- Memory stays in its canonical form, and the image slots with it. -/
def Sys2Proof.Machine.State.Canonical (s : State) : Prop := Memory.wf s.mem = true ∧ ∀ x ∈ s.boot.slots, Memory.wf x.bytes = true

/-- Every step keeps memory and the image slots in their canonical form: addresses strictly rising and no byte equal to what an
unlisted one reads as. -/
def Sys2Proof.Claims.StepsKeepMemoryCanonical : Prop :=
  ∀ (s t : State), s.Canonical → step s = .next t → t.Canonical

/-- The timebase goes back only where a reset starts it again, or where a PTP message that corrects it is at the front
(R185, R392, R395; that PTP corrects by a step is the model's choice, log 44). -/
def Sys2Proof.Claims.TimeGoesBackAtAResetOrByPtp : Prop :=
  ∀ (s t : State), step s = .next t → s.time ≤ t.time ∨ (t.time = 0 ∧ t.boot.stage ≤ 2 ∧ t.store.seqs = []) ∨
    ∃ off locked rest, s.pending = .ptpMessage off locked :: rest ∧ t.time = ((s.time : Int) - off).toNat % 2 ^ 64 ∧
      t.store = s.store ∧ t.mem = s.mem

/-- The value of an element code, without its sign (R70). -/
def Sys2Proof.Machine.Fmt.value (f : Fmt) (c : Nat) : ℚ := ((elemMag f c).1 : ℚ) * (2 : ℚ) ^ (elemMag f c).2

/-- R70, R71: the code that the quantiser chooses for a magnitude is in range, and no code of the format is nearer. -/
def Sys2Proof.Claims.QuantiserPicksANearestElement : Prop :=
  ∀ (f : Fmt) (m : Nat) (e : Int), f ≠ .bf16 → encodeMag f m e ≤ f.maxCode ∧
    ∀ c, c ≤ f.maxCode → |f.value (encodeMag f m e) - (m : ℚ) * (2 : ℚ) ^ e| ≤ |f.value c - (m : ℚ) * (2 : ℚ) ^ e|

/-- R102, R103, R104: the decoder reads back from a packed section, whatever follows it, every code of its 64 vectors and the
section's length in bytes. -/
def Sys2Proof.Claims.PackedSectionsDecode : Prop :=
  ∀ (w d : Nat) (codes : List (List Nat)) (rest : Bytes),
    w ∈ [4, 6, 8, 16] → codes.length = 64 → (∀ v ∈ codes, v.length = d ∧ ∀ c ∈ v, c < 2 ^ w) →
    cbfDecode w d (cbfSection w d codes ++ rest) = some (codes, (cbfSection w d codes).length)

/-- R96, R102: a record reads back as the vector that was stored, and a block in its stored form as its 64 records. -/
def Sys2Proof.Claims.RecordsReadBack : Prop :=
  (∀ (f : Fmt) (d : Nat) (v : QVec), 32 ∣ d → v.codes.length = d → (∀ c ∈ v.codes, c < 2 ^ f.width) →
    v.scales.length = (match f with | .bf16 => 0 | .fp8 => 1 | _ => d / 32) →
    (∀ x ∈ v.scales, x < (match f with | .fp8 => 2 ^ 32 | _ => 256)) →
    vecOfBytes f d (vecToBytes f v) = v ∧ (vecToBytes f v).length = f.recBytes d) ∧
  (∀ (r : RecShape) (unit : Nat) (recs : List Bytes), recs.length = 64 → 1 ≤ r.bytes → (∀ b ∈ recs, b.length = r.bytes) →
    blockRecords r (storedForm r unit recs).1 (storedForm r unit recs).2 = some recs)

/-- R235: of the entries that match, the longest mask wins, and of equal mask lengths the lower entry index; the mask length
is the number of compared bits in key bits [127:4]. -/
def Sys2Proof.Claims.LongestMaskWins : Prop :=
  (∀ (es : List LedgerEntry) (key slot : Nat), (es.map (·.row)).Nodup →
    (ledgerSearch es key slot = none ↔ ∀ e ∈ es, e.hits key slot = false) ∧
    (∀ e, ledgerSearch es key slot = some e → e ∈ es ∧ e.hits key slot = true ∧
      ∀ x ∈ es, x.hits key slot = true → x ≠ e →
        maskLength x.mask < maskLength e.mask ∨ (maskLength x.mask = maskLength e.mask ∧ e.row < x.row))) ∧
  (∀ m, maskLength m = ((List.range 124).filter fun i => bit m (i + 4)).length)

/-- R45, R79, R80: a query head that sees no position has the identity partial, and blocks that a query head does not see
leave the root of the reduction tree as the one partial that is seen. -/
def Sys2Proof.Claims.UnseenBlocksLeaveTheRoot : Prop :=
  (∀ d, leaf d [] = ⟨0xFF800000, 0, List.replicate d 0⟩) ∧
  (∀ (leafOf : Nat → Partial) (h first d : Nat), (∀ k, leafOf k = .identity d) → reduceTree leafOf h first = .identity d) ∧
  (∀ (leafOf : Nat → Partial) (h first d j : Nat), first ≤ j → j < first + 2 ^ h → isNan (leafOf j).m = false →
    (leafOf j).m ≠ 0xFF800000 → (∀ k, k ≠ j → leafOf k = .identity d) → reduceTree leafOf h first = leafOf j)

/-! ### The obligations -/

/-- A step runs the command at the front of the queue, and idles on an empty one (the model's choice, log 2). -/
def Obligations.StepRunsTheFrontCommand : Prop :=
  Sys2Proof.Claims.StepRunsTheFrontCommand ∧
  Sys2Proof.Claims.EmptyQueueCountsTheTimebase

/-- A cache request that passes its checks waits in its admission queue. -/
def Obligations.CacheRequestsWaitForAdmission : Prop := Sys2Proof.Claims.RequestWaitsInItsAdmissionQueue

/-- A refused request changes no state, and an unusable message ends its connection. -/
def Obligations.RefusedRequestsHaveNoEffect : Prop :=
  Sys2Proof.Claims.RefusedRequestChangesNoState ∧
  Sys2Proof.Claims.UnusableRequestPutsConnectionIntoError ∧
  Sys2Proof.Claims.DescriptorFetchTouchesTheCachesOnly

/-- Requests leave the front end in order, and admission charges them and holds their sequence. -/
def Obligations.AdmissionFollowsTheFrontEnd : Prop :=
  Sys2Proof.Claims.FrontDelayEndsInOrder ∧
  Sys2Proof.Claims.AdmissionHoldsAndCharges ∧
  Sys2Proof.Claims.ReadsAreAnsweredAtAdmission

/-- Egress, timing wheel, promotion and gates serve the queues by their rules. -/
def Obligations.SchedulersServeTheirQueues : Prop :=
  Sys2Proof.Claims.EgressSendsTheHeadFrame ∧
  Sys2Proof.Claims.WheelAndPromotion ∧
  Sys2Proof.Claims.GatesAndCatchUp

/-- Outriders issue block reads in order, and walks fill the shared KTB. -/
def Obligations.OutridersReadTheirBlocks : Prop :=
  Sys2Proof.Claims.OutriderIssuesReadsInBlockOrder ∧
  Sys2Proof.Claims.WalkFillsTheSharedKtb

/-- Verified blocks form leaves, and a unit delivers the reference root. -/
def Obligations.UnitsFormTheReferenceRoot : Prop :=
  Sys2Proof.Claims.BlockReadFormsLeavesOrBreaksTheStep ∧
  Sys2Proof.Claims.SubtreeRootIsTheReferenceRoot

/-- A complete step ends, releases its charge and is counted; a loaded layer frees the steps held for it. -/
def Obligations.StepsEndAndReleaseTheirCharge : Prop :=
  Sys2Proof.Claims.StepEndReleasesTheStep ∧
  Sys2Proof.Claims.WeightLoadFreesTheHeldStep

/-- LREAD answers the lines, and a response serves the request that asked for it. -/
def Obligations.LinesAreRead : Prop :=
  Sys2Proof.Claims.LreadAnswersTheLines ∧
  Sys2Proof.Claims.LreadResponseServesItsRequest

/-- LWRITE stores its lines only, and an LWRITE_FINAL takes effect after every earlier write. -/
def Obligations.LinesAreWrittenInOrder : Prop :=
  Sys2Proof.Claims.LwriteStoresItsLinesOnly ∧
  Sys2Proof.Claims.FinalWriteWaits ∧
  Sys2Proof.Claims.FinalTakesEffectAfterEarlierWrites

/-- HANDOVER moves a region once, and FORCE_OWNER waits for the old owner. -/
def Obligations.RegionsMoveOnce : Prop :=
  Sys2Proof.Claims.HandoverMovesARegionOnce ∧
  Sys2Proof.Claims.ForceOwnerWaitsForTheOldOwner

/-- Epochs are staged, published, drained and cleared. -/
def Obligations.EpochsPublishAndDrain : Prop :=
  Sys2Proof.Claims.EpochsStageAndPublish ∧
  Sys2Proof.Claims.DrainEndsAndSlotClears

/-- A commit is applied or refused whole; streams acknowledge, report and resync. -/
def Obligations.PairsCommitAndMirror : Prop :=
  Sys2Proof.Claims.CommitIsAppliedOrRefusedWhole ∧
  Sys2Proof.Claims.AcknowledgedMutationTakesEffect ∧
  Sys2Proof.Claims.StreamAcknowledgesAndGivesUp ∧
  Sys2Proof.Claims.MirrorReportsAndResyncBlocks

/-- HELLO allocates nothing, and a PROOF opens one connection. -/
def Obligations.ConnectionsOpenByProof : Prop :=
  Sys2Proof.Claims.HelloAllocatesNoConnection ∧
  Sys2Proof.Claims.ProofOpensOneConnection

/-- This node proves and verifies as initiator, and a window is taken over only after the old connection. -/
def Obligations.InitiatorAndTakeover : Prop :=
  Sys2Proof.Claims.WindowTakeoverWaitsForTheOldConnection ∧
  Sys2Proof.Claims.InitiatorProvesAndVerifies

/-- Connections drain, wait in ERROR and leave quarantine. -/
def Obligations.ConnectionsDrainAndQuarantine : Prop := Sys2Proof.Claims.DisconnectDrainsThenQuarantines

/-- Packets are accepted in order, duplicates and gaps deliver nothing. -/
def Obligations.PacketsAreAcceptedInOrder : Prop := Sys2Proof.Claims.PacketsAreAcceptedInOrder

/-- Sprayed packets may arrive out of order, and the acknowledgement delay ends in an ACK. -/
def Obligations.SprayAndAcknowledgement : Prop :=
  Sys2Proof.Claims.SprayedPacketsMayArriveOutOfOrder ∧
  Sys2Proof.Claims.AcknowledgementDelayEndsInAnAck

/-- ACK, NAK, RNR_NAK and CNP steer the sender. -/
def Obligations.AcknowledgementsSteerTheSender : Prop := Sys2Proof.Claims.AcknowledgementsSteerTheSender

/-- Timeouts resend or give up, and contexts are fetched and written back. -/
def Obligations.TimeoutsAndContexts : Prop :=
  Sys2Proof.Claims.TimeoutsResendOrGiveUp ∧
  Sys2Proof.Claims.ContextFetchAndWriteBack

/-- A tenant seals, keys and tears down its paddock. -/
def Obligations.TenantsSealAndTearDown : Prop := Sys2Proof.Claims.TenantSealsKeysAndTearsDown

/-- SPDM sessions open, read what they may and answer over their path. -/
def Obligations.SessionsAnswerTheirPath : Prop :=
  Sys2Proof.Claims.SessionsReadWhatTheyMay ∧
  Sys2Proof.Claims.TunnelAndKeyExchange

/-- TDISP requests and PCIe events move the TDI. -/
def Obligations.TheTdiMovesByItsRequests : Prop :=
  Sys2Proof.Claims.TdispMovesTheTdi ∧
  Sys2Proof.Claims.PcieWritesMoveTheTdi

/-- Links pause, go down, train and discover their neighbours. -/
def Obligations.LinksPauseTrainAndDiscover : Prop :=
  Sys2Proof.Claims.PauseAndLinkLoss ∧
  Sys2Proof.Claims.LinksTrainAndDiscover

/-- PTP corrects the timebase (its step is the model's choice, log 44), and the references are monitored. -/
def Obligations.ClocksAreCorrectedAndMonitored : Prop :=
  Sys2Proof.Claims.PtpCorrectsTheTimebase ∧
  Sys2Proof.Claims.ReferencesAreMonitored

/-- A full tail closes into a block, and old places are freed late. -/
def Obligations.TailsCloseIntoBlocks : Prop :=
  Sys2Proof.Claims.CloseStoresTheFullTail ∧
  Sys2Proof.Claims.DeferredFreeWaitsForEarlierOperations

/-- Sequences expire and are released, and restoration clears LOST. -/
def Obligations.SequencesExpireAndReturn : Prop :=
  Sys2Proof.Claims.ExpiryAndRelease ∧
  Sys2Proof.Claims.RestorationClearsLost

/-- Heat is halved by a sweep, and migration moves places only. -/
def Obligations.HeatAndMigration : Prop :=
  Sys2Proof.Claims.HeatSweepHalvesHeat ∧
  Sys2Proof.Claims.MigrationMovesPlacesOnly

/-- Tier-2 ports and stacks fail, return, heat up and refresh. -/
def Obligations.PortsAndStacksFailAndReturn : Prop :=
  Sys2Proof.Claims.TierTwoPortsFailAndReturn ∧
  Sys2Proof.Claims.StacksStopHeatAndRefresh

/-- Leases are granted within their conditions, run and end. -/
def Obligations.LeasesRunWithinTheirConditions : Prop :=
  Sys2Proof.Claims.LeasesAreGrantedOrRefused ∧
  Sys2Proof.Claims.LeaseStartsAndRefreshes ∧
  Sys2Proof.Claims.LeaseProgramsEnd ∧
  Sys2Proof.Claims.ZeroClearsItsFrames

/-- A returned lease delivers its result and ZERO clears its frames. -/
def Obligations.ReturnedLeasesDeliver : Prop := Sys2Proof.Claims.ReturnedLeaseDeliversItsResult

/-- Faulty clusters retire, LBIST swaps and judges, spares take IDs. -/
def Obligations.ClustersAreTestedAndRepaired : Prop :=
  Sys2Proof.Claims.ClusterFaultRetiresAndEndsSteps ∧
  Sys2Proof.Claims.LbistSwapsAndJudges ∧
  Sys2Proof.Claims.SpareTakesTheIdAfterItsWait

/-- Windows and paddocks are freed last, and occupancy is charged every tick. -/
def Obligations.WindowsAndPaddocksAreFreed : Prop :=
  Sys2Proof.Claims.WindowsAndPaddocksAreFreedLast ∧
  Sys2Proof.Claims.OccupancyIsChargedEveryTick

/-- A mailbox refuses what is out of turn, version, stage or service. -/
def Obligations.MailboxRefusesOutOfTurn : Prop := Sys2Proof.Claims.MailboxRefusesOutOfTurn

/-- The reading mailbox commands answer and change nothing. -/
def Obligations.ReadingCommandsAnswer : Prop := Sys2Proof.Claims.ReadingCommandsAnswer

/-- Firmware and images are loaded, judged and rejected. -/
def Obligations.FirmwareAndImagesAreLoaded : Prop := Sys2Proof.Claims.FirmwareAndImagesAreLoaded

/-- Ostlers, links and slices shut down and come back. -/
def Obligations.FunctionsShutDownAndComeBack : Prop := Sys2Proof.Claims.FunctionsShutDownAndComeBack

/-- Shutdowns and restarts end, and errors are handled. -/
def Obligations.RestartsEndAndErrorsAreHandled : Prop :=
  Sys2Proof.Claims.ShutdownsEndAndErrorsAreHandled ∧
  Sys2Proof.Claims.RestartedOstlersRunAgain

/-- Host software creates and tears down paddocks and resets the node. -/
def Obligations.HostCreatesAndTearsDown : Prop := Sys2Proof.Claims.HostCreatesAndTearsDown

/-- Host software sets windows, regions and weight sets. -/
def Obligations.HostSetsWindowsRegionsAndWeights : Prop :=
  Sys2Proof.Claims.HostOpensAndClosesWindows ∧
  Sys2Proof.Claims.HostSetsRegions ∧
  Sys2Proof.Claims.WeightSetsAreInstalledAndRemoved

/-- Host software sets schedulers and power and clears notifications. -/
def Obligations.HostSetsSchedulersPowerAndNotices : Prop :=
  Sys2Proof.Claims.HostSetsSchedulersAndPower ∧
  Sys2Proof.Claims.ClearingNotifyPostsTheNext

/-- A register pair reads as one consistent value. -/
def Obligations.RegisterPairsReadWhole : Prop := Sys2Proof.Claims.RegisterPairsReadWhole

/-- RESET_CTL with its key is a warm reset and nothing else. -/
def Obligations.ResetCtlIsAWarmReset : Prop := Sys2Proof.Claims.ResetCtlIsAWarmReset

/-- Register writes follow their access codes, and the Tally latch holds a snapshot. -/
def Obligations.RegistersHoldTheirAccess : Prop :=
  Sys2Proof.Claims.RegisterPairsAreThese ∧
  Sys2Proof.Claims.RegisterWritesFollowTheirAccess ∧
  Sys2Proof.Claims.TallyLatchHoldsASnapshot

/-- Lowest-level debug is granted after zeroising, refused with a reason and withdrawn. -/
def Obligations.DebugIsRequestedAndWithdrawn : Prop := Sys2Proof.Claims.DebugIsRequestedAndWithdrawn

/-- PLDM answers what is powered, and JTAG scans clear their partition. -/
def Obligations.BoardAccessAnswersAndClears : Prop :=
  Sys2Proof.Claims.PldmAnswersWhatIsPowered ∧
  Sys2Proof.Claims.PldmRequestsComplete ∧
  Sys2Proof.Claims.JtagScansClearTheirPartition ∧
  Sys2Proof.Claims.JtagInstructionsComplete

/-- Power comes up in phases, or fails and is tried again. -/
def Obligations.PowerComesUpInPhases : Prop := Sys2Proof.Claims.PowerComesUpInPhases

/-- Warm resets, cold resets and function resets keep what they must. -/
def Obligations.ResetsKeepWhatTheyMust : Prop :=
  Sys2Proof.Claims.WarmResetKeepsWhatItMust ∧
  Sys2Proof.Claims.PinsResetTheNode

/-- The image is chosen, put on probation and proved. -/
def Obligations.ImagesAreChosenAndProved : Prop := Sys2Proof.Claims.ImagesAreChosenAndProved

/-- BIST maps the clusters, stacks train, and the node joins the fabric. -/
def Obligations.NodeStartsAndJoins : Prop :=
  Sys2Proof.Claims.BistMapsAndStacksTrain ∧
  Sys2Proof.Claims.NodeJoinsTheFabric

/-- Clusters rest and wake, and the node enters and leaves N2. -/
def Obligations.PowerStatesFollowTheirRules : Prop :=
  Sys2Proof.Claims.ClustersRestAndWake ∧
  Sys2Proof.Claims.NodeSleepsAndWakes

/-- Power and heat move the DVFS points. -/
def Obligations.PowerAndHeatMoveThePoints : Prop := Sys2Proof.Claims.PowerAndHeatMoveThePoints

/-- The Sherun monitor reports, tests and debugs while permitted. -/
def Obligations.MonitorAnswers : Prop :=
  Sys2Proof.Claims.MonitorReports ∧
  Sys2Proof.Claims.MonitorSetsItsRateAndTests ∧
  Sys2Proof.Claims.MonitorDebugsWhilePermitted

/-- Reset holds the stated values, and its memory is canonical. -/
def Obligations.ResetHoldsTheStatedValues : Prop := Sys2Proof.Claims.ResetHoldsTheStatedValues

/-- Every command answers a next state but a monitor access at a reserved address. -/
def Obligations.EveryCommandAnswers : Prop := Sys2Proof.Claims.EveryCommandAnswers

/-- Every command changes only its own fields of the state. -/
def Obligations.CommandsChangeOnlyTheirFields : Prop := Sys2Proof.Claims.CommandsChangeOnlyTheirFields

/-- Every step keeps memory canonical, and time goes back only at a reset. -/
def Obligations.StepsKeepFormAndTime : Prop :=
  Sys2Proof.Claims.StepsKeepMemoryCanonical ∧
  Sys2Proof.Claims.TimeGoesBackAtAResetOrByPtp

/-- The longest mask wins a Ledger search, then the lower entry index. -/
def Obligations.LongestMaskWins : Prop := Sys2Proof.Claims.LongestMaskWins

/-- Packed sections, records and stored blocks read back. -/
def Obligations.StoredBlocksReadBack : Prop := Sys2Proof.Claims.PackedSectionsDecode ∧ Sys2Proof.Claims.RecordsReadBack

/-- The quantiser picks a nearest element, and unseen blocks leave the root. -/
def Obligations.ArithmeticFollowsTheReference : Prop :=
  Sys2Proof.Claims.QuantiserPicksANearestElement ∧
  Sys2Proof.Claims.UnseenBlocksLeaveTheRoot
end

