-- ==== Sys2Proof/Laws/Memory.lean ====
section
/-! SUPPORT. Byte memory: what a read after a write gives, and that every operation keeps the canonical form. -/

set_option Elab.async false

namespace Sys2Proof.Machine

/-- Every listed address is above a bound. -/
def Memory.above (n : Nat) (m : List Host.Cell) : Prop := ∀ c ∈ m, n < c.1

theorem Memory.wf_cons {a : Nat} {b : Byte} {m : List Host.Cell} :
    Memory.wf ((a, b) :: m) = true ↔ b ≠ 0 ∧ Memory.above a m ∧ Memory.wf m = true := by
  induction m generalizing a b with
  | nil => simp [Memory.wf, Memory.above]
  | cons c m ih =>
    obtain ⟨k, v⟩ := c
    constructor
    · intro h
      simp only [Memory.wf, Bool.and_eq_true, decide_eq_true_eq, bne_iff_ne] at h
      refine ⟨h.1.1, ?_, h.2⟩
      intro c hc
      rcases List.mem_cons.mp hc with rfl | hc
      · exact h.1.2
      · exact Nat.lt_trans h.1.2 ((ih.mp h.2).2.1 c hc)
    · intro h
      simp only [Memory.wf, Bool.and_eq_true, decide_eq_true_eq, bne_iff_ne]
      exact ⟨⟨h.1, h.2.1 (k, v) (by simp)⟩, h.2.2⟩

theorem Memory.above_of_wf {a : Nat} {b : Byte} {m : List Host.Cell} (h : Memory.wf ((a, b) :: m) = true) :
    Memory.above a m := (Memory.wf_cons.mp h).2.1

theorem Memory.above_write {n a : Nat} {v : Byte} {m : List Host.Cell} (h : Memory.above n m) (ha : n < a) :
    Memory.above n (Memory.write m a v) := by
  induction m with
  | nil => simp only [Memory.write]; split <;> simp_all [Memory.above]
  | cons c m ih =>
    obtain ⟨k, b⟩ := c
    have hm : Memory.above n m := fun c hc => h c (List.mem_cons_of_mem _ hc)
    have hk : n < k := h (k, b) (by simp)
    simp only [Memory.write]
    repeat' split
    all_goals
      intro c hc
      first
        | (rcases List.mem_cons.mp hc with rfl | hc <;>
            first | exact hk | exact ha | exact h c hc | exact ih hm c hc | exact hm c hc)
        | exact h c hc
        | exact hm c hc

theorem Memory.wf_write {m : List Host.Cell} {a : Nat} {v : Byte} (h : Memory.wf m = true) :
    Memory.wf (Memory.write m a v) = true := by
  induction m with
  | nil => simp only [Memory.write]; split <;> simp_all [Memory.wf]
  | cons c m ih =>
    obtain ⟨k, b⟩ := c
    obtain ⟨hb, hu, hm⟩ := Memory.wf_cons.mp h
    simp only [Memory.write]
    split
    · split
      · exact h
      · refine Memory.wf_cons.mpr ⟨by assumption, ?_, h⟩
        intro c hc
        rcases List.mem_cons.mp hc with rfl | hc
        · assumption
        · exact Nat.lt_trans (by assumption) (hu c hc)
    · split
      · split
        · exact hm
        · subst_vars; exact Memory.wf_cons.mpr ⟨by assumption, hu, hm⟩
      · exact Memory.wf_cons.mpr ⟨hb, Memory.above_write hu (by omega), ih hm⟩

theorem Memory.wf_writeBytes {bs : Bytes} {m : List Host.Cell} {a : Nat} (h : Memory.wf m = true) :
    Memory.wf (Memory.writeBytes m a bs) = true := by
  induction bs generalizing m a with
  | nil => exact h
  | cons b bs ih => exact ih (Memory.wf_write h)

theorem Memory.wf_filter {m : List Host.Cell} {p : Host.Cell → Bool} (h : Memory.wf m = true) :
    Memory.wf (m.filter p) = true := by
  induction m with
  | nil => rfl
  | cons c m ih =>
    obtain ⟨k, b⟩ := c
    obtain ⟨hb, hu, hm⟩ := Memory.wf_cons.mp h
    simp only [List.filter_cons]
    split
    · exact Memory.wf_cons.mpr ⟨hb, fun c hc => hu c (List.mem_filter.mp hc).1, ih hm⟩
    · exact ih hm

/-- An address below every listed one reads 0. -/
theorem Memory.read_above {m : List Host.Cell} {n a : Nat} (h : Memory.above n m) (ha : a ≤ n) : Memory.read m a = 0 := by
  cases m with
  | nil => rfl
  | cons c m =>
    obtain ⟨k, b⟩ := c
    have := h (k, b) (by simp)
    simp only at this
    simp only [Memory.read]
    rw [if_neg (by omega), if_pos (by omega)]

theorem Memory.read_write {m : List Host.Cell} {a x : Nat} {v : Byte} (h : Memory.wf m = true) :
    Memory.read (Memory.write m a v) x = if x = a then v else Memory.read m x := by
  induction m with
  | nil =>
    simp only [Memory.write]
    by_cases e : x = a
    · subst e; split <;> simp_all [Memory.read]
    · split <;> simp [Memory.read, Ne.symm e]
  | cons c m ih =>
    obtain ⟨k, b⟩ := c
    obtain ⟨hb, hu, hm⟩ := Memory.wf_cons.mp h
    simp only [Memory.write]
    by_cases e : x = a
    · subst e
      rw [if_pos rfl]
      split
      · split
        · simp only [Memory.read]; rw [if_neg (by omega), if_pos (by assumption)]; simp_all
        · simp [Memory.read]
      · split
        · split
          · rw [Memory.read_above hu (by omega)]; simp_all
          · simp [Memory.read]
        · simp only [Memory.read, ih hm]
          rw [if_neg (by omega), if_neg (by omega)]; simp
    · rw [if_neg e]
      split
      · split
        · rfl
        · simp only [Memory.read]
          rw [if_neg (Ne.symm e)]
          split
          · rw [if_neg (by omega), if_pos (by omega)]
          · rfl
      · split
        · rename_i hk
          subst hk
          simp only [Memory.read]
          rw [if_neg (Ne.symm e)]
          split
          · split
            · exact Memory.read_above hu (by omega)
            · rfl
          · simp only [Memory.read]; rw [if_neg (Ne.symm e)]
        · simp only [Memory.read, ih hm, if_neg e]

theorem Memory.read_writeBytes {bs : Bytes} {m : List Host.Cell} {a x : Nat} (h : Memory.wf m = true) :
    Memory.read (Memory.writeBytes m a bs) x =
      if a ≤ x ∧ x < a + bs.length then bs.getD (x - a) 0 else Memory.read m x := by
  induction bs generalizing m a with
  | nil =>
    simp only [Memory.writeBytes, List.length_nil]
    rw [if_neg (by omega)]
  | cons b bs ih =>
    simp only [Memory.writeBytes, ih (Memory.wf_write h), Memory.read_write h, List.length_cons]
    by_cases e : x = a
    · subst e; simp [List.getD]
    · by_cases c : a + 1 ≤ x ∧ x < a + 1 + bs.length
      · rw [if_pos c, if_pos (by omega)]
        obtain ⟨d, rfl⟩ : ∃ d, x = a + 1 + d := ⟨x - (a + 1), by omega⟩
        rw [show a + 1 + d - a = d + 1 by omega, show a + 1 + d - (a + 1) = d by omega]
        simp
      · rw [if_neg c, if_neg e, if_neg (by omega)]

end Sys2Proof.Machine
end

