-- ==== Sys2Proof/Laws/Frame.lean ====
section
/-! SUPPORT. Frames: `Same m s t` says that `t` differs from `s` in nothing but the fields that the mask `m` names; the
waiting commands and the fuses never differ, and memory keeps its canonical form. -/

set_option Elab.async false

namespace Sys2Proof.Machine

/-- Every field of `a` is one of `b`. -/
def Mask.le (a b : Mask) : Bool :=
  (!a.out || b.out) &&
  (!a.rng || b.rng) &&
  (!a.time || b.time) &&
  (!a.farrier || b.farrier) &&
  (!a.power || b.power) &&
  (!a.boot || b.boot) &&
  (!a.img || b.img) &&
  (!a.regs || b.regs) &&
  (!a.host || b.host) &&
  (!a.log || b.log) &&
  (!a.ostlers || b.ostlers) &&
  (!a.pads || b.pads) &&
  (!a.sec || b.sec) &&
  (!a.net || b.net) &&
  (!a.maps || b.maps) &&
  (!a.store || b.store) &&
  (!a.eng || b.eng) &&
  (!a.sch || b.sch) &&
  (!a.leases || b.leases) &&
  (!a.pwr || b.pwr) &&
  (!a.shr || b.shr) &&
  (!a.mem || b.mem)

theorem Kept.refl {α : Type} (may : Bool) (a : α) : Kept may a a := .inr rfl

theorem Kept.trans {α : Type} {may : Bool} {a b c : α} (h : Kept may a b) (k : Kept may b c) : Kept may a c := by
  rcases h with h | h
  · exact .inl h
  · rcases k with k | k
    · exact .inl k
    · exact .inr (k.trans h)

theorem Kept.eq {α : Type} {may : Bool} {a b : α} (h : Kept may a b) (n : may = false) : b = a := by
  rcases h with h | h
  · rw [n] at h; cases h
  · exact h

theorem Kept.mono {α : Type} {x y : Bool} {a b : α} (h : (!x || y) = true) (k : Kept x a b) : Kept y a b := by
  rcases k with k | k
  · subst k; exact .inl (by simpa using h)
  · exact .inr k

theorem Same.refl (m : Mask) (s : State) : Same m s s :=
  ⟨rfl, rfl, .inr rfl, .inr rfl, .inr rfl, .inr rfl, .inr rfl, .inr rfl, .inr rfl, .inr rfl, .inr rfl, .inr rfl, .inr rfl, .inr rfl, .inr rfl, .inr rfl, .inr rfl, .inr rfl, .inr rfl, .inr rfl, .inr rfl, .inr rfl, .inr rfl, .inr rfl, id⟩

theorem Same.trans {m : Mask} {s t u : State} (h : Same m s t) (k : Same m t u) : Same m s u :=
  ⟨k.pending.trans h.pending, k.fused.trans h.fused,
    h.out.trans k.out,
    h.rng.trans k.rng,
    h.time.trans k.time,
    h.farrier.trans k.farrier,
    h.power.trans k.power,
    h.boot.trans k.boot,
    h.img.trans k.img,
    h.regs.trans k.regs,
    h.host.trans k.host,
    h.log.trans k.log,
    h.ostlers.trans k.ostlers,
    h.pads.trans k.pads,
    h.sec.trans k.sec,
    h.net.trans k.net,
    h.maps.trans k.maps,
    h.store.trans k.store,
    h.eng.trans k.eng,
    h.sch.trans k.sch,
    h.leases.trans k.leases,
    h.pwr.trans k.pwr,
    h.shr.trans k.shr,
    h.mem.trans k.mem,
    fun w => k.wf (h.wf w)⟩

theorem Same.mono {a b : Mask} {s t : State} (h : a.le b = true) (k : Same a s t) : Same b s t := by
  simp only [Mask.le, Bool.and_eq_true] at h
  refine ⟨k.pending, k.fused, k.out.mono ?_, k.rng.mono ?_, k.time.mono ?_, k.farrier.mono ?_, k.power.mono ?_, k.boot.mono ?_, k.img.mono ?_, k.regs.mono ?_, k.host.mono ?_, k.log.mono ?_, k.ostlers.mono ?_, k.pads.mono ?_, k.sec.mono ?_, k.net.mono ?_, k.maps.mono ?_, k.store.mono ?_, k.eng.mono ?_, k.sch.mono ?_, k.leases.mono ?_, k.pwr.mono ?_, k.shr.mono ?_, k.mem.mono ?_, k.wf⟩ <;> simp_all

/-- A record update that leaves memory changes the fields that it names. -/
theorem Same.update {m : Mask} {s t : State} {out' rng' time' farrier' power' boot' img' regs' host' log' ostlers' pads' sec' net' maps' store' eng' sch' leases' pwr' shr'} (h : Same m s t)
    (out : Kept m.out t.out out' := by first | exact .inl rfl | exact .inr rfl)
    (rng : Kept m.rng t.rng rng' := by first | exact .inl rfl | exact .inr rfl)
    (time : Kept m.time t.time time' := by first | exact .inl rfl | exact .inr rfl)
    (farrier : Kept m.farrier t.farrier farrier' := by first | exact .inl rfl | exact .inr rfl)
    (power : Kept m.power t.power power' := by first | exact .inl rfl | exact .inr rfl)
    (boot : Kept m.boot t.boot boot' := by first | exact .inl rfl | exact .inr rfl)
    (img : Kept m.img t.img img' := by first | exact .inl rfl | exact .inr rfl)
    (regs : Kept m.regs t.regs regs' := by first | exact .inl rfl | exact .inr rfl)
    (host : Kept m.host t.host host' := by first | exact .inl rfl | exact .inr rfl)
    (log : Kept m.log t.log log' := by first | exact .inl rfl | exact .inr rfl)
    (ostlers : Kept m.ostlers t.ostlers ostlers' := by first | exact .inl rfl | exact .inr rfl)
    (pads : Kept m.pads t.pads pads' := by first | exact .inl rfl | exact .inr rfl)
    (sec : Kept m.sec t.sec sec' := by first | exact .inl rfl | exact .inr rfl)
    (net : Kept m.net t.net net' := by first | exact .inl rfl | exact .inr rfl)
    (maps : Kept m.maps t.maps maps' := by first | exact .inl rfl | exact .inr rfl)
    (store : Kept m.store t.store store' := by first | exact .inl rfl | exact .inr rfl)
    (eng : Kept m.eng t.eng eng' := by first | exact .inl rfl | exact .inr rfl)
    (sch : Kept m.sch t.sch sch' := by first | exact .inl rfl | exact .inr rfl)
    (leases : Kept m.leases t.leases leases' := by first | exact .inl rfl | exact .inr rfl)
    (pwr : Kept m.pwr t.pwr pwr' := by first | exact .inl rfl | exact .inr rfl)
    (shr : Kept m.shr t.shr shr' := by first | exact .inl rfl | exact .inr rfl) :
    Same m s (State.mk t.pending out' rng' time' t.fused farrier' power' boot' img' regs' host' log' ostlers' pads' sec' net' maps' store' eng' sch' leases' pwr' shr' t.mem) :=
  h.trans ⟨rfl, rfl, out, rng, time, farrier, power, boot, img, regs, host, log, ostlers, pads, sec, net, maps, store, eng, sch, leases, pwr, shr, .inr rfl, id⟩

/-- A record update that writes memory keeps its canonical form when the new memory has it. -/
theorem Same.updateMem {m : Mask} {s t : State} {out' rng' time' farrier' power' boot' img' regs' host' log' ostlers' pads' sec' net' maps' store' eng' sch' leases' pwr' shr' mem'} (h : Same m s t)
    (may : m.mem = true) (wf : Memory.wf t.mem = true → Memory.wf mem' = true)
    (out : Kept m.out t.out out' := by first | exact .inl rfl | exact .inr rfl)
    (rng : Kept m.rng t.rng rng' := by first | exact .inl rfl | exact .inr rfl)
    (time : Kept m.time t.time time' := by first | exact .inl rfl | exact .inr rfl)
    (farrier : Kept m.farrier t.farrier farrier' := by first | exact .inl rfl | exact .inr rfl)
    (power : Kept m.power t.power power' := by first | exact .inl rfl | exact .inr rfl)
    (boot : Kept m.boot t.boot boot' := by first | exact .inl rfl | exact .inr rfl)
    (img : Kept m.img t.img img' := by first | exact .inl rfl | exact .inr rfl)
    (regs : Kept m.regs t.regs regs' := by first | exact .inl rfl | exact .inr rfl)
    (host : Kept m.host t.host host' := by first | exact .inl rfl | exact .inr rfl)
    (log : Kept m.log t.log log' := by first | exact .inl rfl | exact .inr rfl)
    (ostlers : Kept m.ostlers t.ostlers ostlers' := by first | exact .inl rfl | exact .inr rfl)
    (pads : Kept m.pads t.pads pads' := by first | exact .inl rfl | exact .inr rfl)
    (sec : Kept m.sec t.sec sec' := by first | exact .inl rfl | exact .inr rfl)
    (net : Kept m.net t.net net' := by first | exact .inl rfl | exact .inr rfl)
    (maps : Kept m.maps t.maps maps' := by first | exact .inl rfl | exact .inr rfl)
    (store : Kept m.store t.store store' := by first | exact .inl rfl | exact .inr rfl)
    (eng : Kept m.eng t.eng eng' := by first | exact .inl rfl | exact .inr rfl)
    (sch : Kept m.sch t.sch sch' := by first | exact .inl rfl | exact .inr rfl)
    (leases : Kept m.leases t.leases leases' := by first | exact .inl rfl | exact .inr rfl)
    (pwr : Kept m.pwr t.pwr pwr' := by first | exact .inl rfl | exact .inr rfl)
    (shr : Kept m.shr t.shr shr' := by first | exact .inl rfl | exact .inr rfl) :
    Same m s (State.mk t.pending out' rng' time' t.fused farrier' power' boot' img' regs' host' log' ostlers' pads' sec' net' maps' store' eng' sch' leases' pwr' shr' mem') :=
  h.trans ⟨rfl, rfl, out, rng, time, farrier, power, boot, img, regs, host, log, ostlers, pads, sec, net, maps, store, eng, sch, leases, pwr, shr, .inl may, wf⟩

theorem Same.ite {m : Mask} {s : State} {c : Prop} [Decidable c] {a b : State} (h : Same m s a) (k : Same m s b) :
    Same m s (if c then a else b) := by split <;> assumption

theorem Same.foldl {m : Mask} {s : State} {β : Type} {f : State → β → State} {xs : List β} {t : State}
    (h : Same m s t) (k : ∀ u x, Same m u (f u x)) : Same m s (xs.foldl f t) := by
  induction xs generalizing t with
  | nil => exact h
  | cons x xs ih => exact ih (h.trans (k t x))

/-- A step after an operation whose frame is known. -/
theorem Same.then {a m : Mask} {s t u : State} (h : Same a t u) (le : a.le m = true) (k : Same m s t) : Same m s u :=
  k.trans (h.mono le)

/-- The state in the second part of a pair. -/
theorem Same.of_snd {m : Mask} {s t : State} {α : Type} {p : α × State} {y : α} (h : Same m s p.2) (e : p = (y, t)) :
    Same m s t := by subst e; exact h

/-- The state in the first part of a pair. -/
theorem Same.of_fst {m : Mask} {s t : State} {α : Type} {p : State × α} {y : α} (h : Same m s p.1) (e : p = (t, y)) :
    Same m s t := by subst e; exact h

/-- Where an operation answers a value, the state in it keeps a frame. -/
structure SomeSame {α : Type} (m : Mask) (s : State) (g : α → State) (x : Option α) : Prop where
  of : ∀ a, x = some a → Same m s (g a)

/-- Where an operation is not refused, the state in its result keeps a frame. -/
structure OkSame {ε α : Type} (m : Mask) (s : State) (g : α → State) (x : Except ε α) : Prop where
  of : ∀ a, x = .ok a → Same m s (g a)

section
variable {m : Mask} {s : State} {ε α β : Type} {g : α → State} {h : β → State}

theorem SomeSame.none : SomeSame m s g none := ⟨fun _ e => by cases e⟩

theorem SomeSame.some {a : α} (k : Same m s (g a)) : SomeSame m s g (some a) := ⟨fun _ e => by cases e; exact k⟩

theorem SomeSame.via {n : Mask} {t : State} {x : Option α} (k : SomeSame n t g x) (le : n.le m = true) (j : Same m s t) :
    SomeSame m s g x := ⟨fun a e => j.trans ((k.of a e).mono le)⟩

theorem SomeSame.map {x : Option β} {f : β → α} (k : ∀ b, Same m s (g (f b))) : SomeSame m s g (x.map f) := by
  cases x with
  | none => exact .none
  | some b => exact .some (k b)

theorem SomeSame.mapOf {x : Option β} {f : β → α} (k : SomeSame m s h x) (j : ∀ b, Same m s (h b) → Same m s (g (f b))) :
    SomeSame m s g (x.map f) := by
  cases x with
  | none => exact .none
  | some b => exact .some (j b (k.of b rfl))

theorem SomeSame.bind {x : Option β} {f : β → Option α} (k : SomeSame m s h x)
    (j : ∀ b, Same m s (h b) → SomeSame m s g (f b)) : SomeSame m s g (x.bind f) := by
  cases x with
  | none => exact .none
  | some b => exact j b (k.of b rfl)

theorem SomeSame.getD {x : Option State} {t : State} (k : SomeSame m s id x) (j : Same m s t) : Same m s (x.getD t) := by
  cases x with
  | none => exact j
  | some b => exact k.of b rfl

theorem SomeSame.findSome {xs : List β} {f : β → Option α} (k : ∀ b, SomeSame m s g (f b)) :
    SomeSame m s g (xs.findSome? f) := by
  refine ⟨fun a e => ?_⟩
  obtain ⟨b, _, hb⟩ := List.exists_of_findSome?_eq_some e
  exact (k b).of a hb

theorem SomeSame.foldlM {f : State → β → Option State} {xs : List β} {t : State} (k : Same m s t)
    (j : ∀ u x, SomeSame m u id (f u x)) : SomeSame m s id (xs.foldlM f t) := by
  induction xs generalizing t with
  | nil => exact SomeSame.some k
  | cons x xs ih =>
    refine ⟨fun b e => ?_⟩
    cases hx : f t x with
    | none => rw [List.foldlM_cons, hx] at e; exact nomatch e
    | some a =>
      have e' : xs.foldlM f a = Option.some b := by rw [List.foldlM_cons, hx] at e; exact e
      exact (ih (k.trans ((j t x).of a hx))).of b e'

theorem OkSame.error {e : ε} : OkSame m s g (.error e) := ⟨fun _ e => by cases e⟩

theorem OkSame.ok {a : α} (k : Same m s (g a)) : OkSame m s g (.ok a : Except ε α) := ⟨fun _ e => by cases e; exact k⟩

theorem OkSame.via {n : Mask} {t : State} {x : Except ε α} (k : OkSame n t g x) (le : n.le m = true) (j : Same m s t) :
    OkSame m s g x := ⟨fun a e => j.trans ((k.of a e).mono le)⟩

theorem OkSame.bind {x : Except ε α} {f : α → Except ε β} (k : OkSame m s g x)
    (j : ∀ a, Same m s (g a) → OkSame m s h (f a)) : OkSame m s h (x >>= f) := by
  refine ⟨fun b e => ?_⟩
  cases x with
  | error _ => cases e
  | ok a => exact (j a (k.of a rfl)).of b e

theorem OkSame.pass {x : Except ε α} {f : α → Except ε β} (j : ∀ a, OkSame m s h (f a)) : OkSame m s h (x >>= f) := by
  refine ⟨fun b e => ?_⟩
  cases x with
  | error _ => cases e
  | ok a => exact (j a).of b e

theorem OkSame.foldlM_of {f : α → β → Except ε α} {xs : List β} {t : α} (k : Same m s (g t))
    (j : ∀ u x, OkSame m (g u) g (f u x)) : OkSame m s g (xs.foldlM f t) := by
  induction xs generalizing t with
  | nil => exact OkSame.ok k
  | cons x xs ih =>
    refine ⟨fun b e => ?_⟩
    cases hx : f t x with
    | error _ => rw [List.foldlM_cons, hx] at e; exact nomatch e
    | ok a =>
      have e' : xs.foldlM f a = .ok b := by rw [List.foldlM_cons, hx] at e; exact e
      exact (ih (k.trans ((j t x).of a hx))).of b e'

theorem OkSame.foldlM {f : State → β → Except ε State} {xs : List β} {t : State} (k : Same m s t)
    (j : ∀ u x, OkSame m u id (f u x)) : OkSame m s id (xs.foldlM f t) := OkSame.foldlM_of (g := id) k j

end

/-- An outcome keeps a frame when the next state that it answers does. -/
structure OutSame (m : Mask) (s : State) (r : Result) : Prop where
  of : ∀ t, r = .next t → Same m s t

theorem OutSame.next {m : Mask} {s t : State} (h : Same m s t) : OutSame m s (.next t) :=
  ⟨fun _ e => by cases e; exact h⟩

theorem OutSame.fault {m : Mask} {s : State} {f : Fault} : OutSame m s (.fault f) := ⟨fun _ e => by cases e⟩

theorem OutSame.via {n m : Mask} {s t : State} {r : Result} (k : OutSame n t r) (le : n.le m = true) (j : Same m s t) :
    OutSame m s r := ⟨fun a e => j.trans ((k.of a e).mono le)⟩

end Sys2Proof.Machine
end

