-- ==== Sys2Proof/Laws/FrameOps.lean ====
section
/-! SUPPORT. Frames of the shared operations: time and outputs, the schedulers' queues, sending, places, the ledger,
    status lines. -/

set_option Elab.async false

namespace Sys2Proof.Machine

theorem State.advanceTo_same (s : State) (t : Nat) :
    Same { time := true } s (State.advanceTo s t) := by
  unfold State.advanceTo
  refine Same.update ?_
  exact Same.refl _ _

theorem State.draw_same (s : State) (n : Nat) :
    Same { rng := true } s (State.draw s n).2 := by
  unfold State.draw
  dsimp only
  refine Same.update ?_
  exact Same.refl _ _

theorem State.drawNat_same (s : State) (n : Nat) :
    Same { rng := true } s (State.drawNat s n).2 := by
  unfold State.drawNat
  dsimp only
  refine Same.update ?_
  exact Same.refl _ _

theorem State.choose_same (s : State) (f : Nat → Nat → Nat) (n : Nat) :
    Same { rng := true } s (State.choose s f n).2 := by
  unfold State.choose
  dsimp only
  refine Same.update ?_
  exact Same.refl _ _

theorem State.stir_same (s : State) :
    Same { pwr := true } s (State.stir s) := by
  unfold State.stir
  dsimp only
  refine Same.update ?_
  exact Same.refl _ _

theorem State.emit_same (s : State) (o : Output) :
    Same { out := true } s (State.emit s o) := by
  unfold State.emit
  refine Same.update ?_
  exact Same.refl _ _

theorem State.sendVector_same (s : State) (v : Nat) :
    Same { out := true, regs := true } s (State.sendVector s v) := by
  unfold State.sendVector
  dsimp only
  refine Same.ite ?_ ?_
  refine Same.update ?_
  exact Same.refl _ _
  refine (State.emit_same ..).then rfl ?_
  exact Same.refl _ _

theorem State.eventBit_same (s : State) (v : Nat) (enable : Bool) (old : Bool) (new : Bool) :
    Same { out := true, regs := true } s (State.eventBit s v enable old new) := by
  unfold State.eventBit
  refine Same.ite ?_ ?_
  refine (State.sendVector_same ..).then rfl ?_
  exact Same.refl _ _
  exact Same.refl _ _

theorem State.putPad_same (s : State) (p : Pad) :
    Same { pads := true } s (State.putPad s p) := by
  unfold State.putPad
  refine Same.update ?_
  exact Same.refl _ _

theorem State.modPad_same (s : State) (p : Nat) (f : Pad → Pad) :
    Same { pads := true } s (State.modPad s p f) := by
  unfold State.modPad
  refine (State.putPad_same ..).then rfl ?_
  exact Same.refl _ _

theorem State.modSeq_same (s : State) (d : Nat) (f : Seq → Seq) :
    Same { store := true } s (State.modSeq s d f) := by
  unfold State.modSeq
  dsimp only
  refine Same.update ?_
  exact Same.refl _ _

theorem State.modBlock_same (s : State) (n : Nat) (f : Block → Block) :
    Same { store := true } s (State.modBlock s n f) := by
  unfold State.modBlock
  dsimp only
  refine Same.update ?_
  exact Same.refl _ _

theorem State.modOp_same (s : State) (i : Nat) (f : Op → Op) :
    Same { eng := true } s (State.modOp s i f) := by
  unfold State.modOp
  dsimp only
  refine Same.update ?_
  exact Same.refl _ _

theorem State.modQp_same (s : State) (q : Nat) (f : Qp → Qp) :
    Same { net := true } s (State.modQp s q f) := by
  unfold State.modQp
  dsimp only
  refine Same.update ?_
  exact Same.refl _ _

theorem State.modWindow_same (s : State) (i : Nat) (f : Window → Window) :
    Same { maps := true } s (State.modWindow s i f) := by
  unfold State.modWindow
  dsimp only
  refine Same.update ?_
  exact Same.refl _ _

theorem State.modStream_same (s : State) (i : Nat) (f : Stream → Stream) :
    Same { maps := true } s (State.modStream s i f) := by
  unfold State.modStream
  dsimp only
  refine Same.update ?_
  exact Same.refl _ _

theorem State.modSched_same (s : State) (i : Nat) (f : Sched → Sched) :
    Same { sch := true } s (State.modSched s i f) := by
  unfold State.modSched
  dsimp only
  refine Same.update ?_
  exact Same.refl _ _

theorem State.modOstler_same (s : State) (i : Nat) (f : Ostler → Ostler) :
    Same { ostlers := true } s (State.modOstler s i f) := by
  unfold State.modOstler
  refine Same.update ?_
  exact Same.refl _ _

theorem State.modLink_same (s : State) (i : Nat) (f : Link → Link) :
    Same { net := true } s (State.modLink s i f) := by
  unfold State.modLink
  dsimp only
  refine Same.update ?_
  exact Same.refl _ _

theorem State.modBox_same (s : State) (i : Nat) (f : Mailbox → Mailbox) :
    Same { host := true } s (State.modBox s i f) := by
  unfold State.modBox
  dsimp only
  refine Same.update ?_
  exact Same.refl _ _

theorem State.tally_same (s : State) (p : Nat) (counter : Nat) (amount : Nat) :
    Same { pads := true } s (State.tally s p counter amount) := by
  unfold State.tally
  refine (State.modPad_same ..).then rfl ?_
  exact Same.refl _ _

theorem State.postNotice_same (s : State) :
    Same { out := true, regs := true, host := true } s (State.postNotice s) := by
  unfold State.postNotice
  dsimp only
  refine Same.ite ?_ ?_
  exact Same.refl _ _
  split
  exact Same.refl _ _
  refine (State.eventBit_same ..).then rfl ?_
  refine (State.modBox_same ..).then rfl ?_
  refine Same.update ?_
  exact Same.refl _ _

theorem State.notify_same (s : State) (n : Notice) :
    Same { out := true, regs := true, host := true } s (State.notify s n) := by
  unfold State.notify
  dsimp only
  refine (State.postNotice_same ..).then rfl ?_
  refine Same.ite ?_ ?_
  exact Same.refl _ _
  refine Same.ite ?_ ?_
  refine Same.update ?_
  exact Same.refl _ _
  refine Same.update ?_
  exact Same.refl _ _

theorem State.afterStop_same (s : State) (boot : Boot) (regs : Regs) (log : Log) (sec : Security) (pwr : Power) (pads
    : List Pad) :
    Same { time := true, boot := true, img := true, regs := true, host := true, log := true, ostlers := true, pads :=
           true, sec := true, net := true, maps := true, store := true, eng := true, sch := true, leases := true, pwr
           := true, shr := true, mem := true } s (State.afterStop s boot regs log sec pwr pads) := by
  unfold State.afterStop
  dsimp only
  refine Same.updateMem ?_ rfl (fun _ => rfl)
  exact Same.refl _ _

theorem State.setStage_same (s : State) (st : Nat) :
    Same { out := true, boot := true, regs := true, host := true } s (State.setStage s st) := by
  unfold State.setStage
  dsimp only
  refine Same.ite ?_ ?_
  exact Same.refl _ _
  refine (State.notify_same ..).then rfl ?_
  refine Same.ite ?_ ?_
  refine (State.sendVector_same ..).then rfl ?_
  refine Same.update ?_
  exact Same.refl _ _
  refine Same.update ?_
  exact Same.refl _ _

theorem State.warmReset_same (s : State) (cause : Nat) :
    Same { time := true, boot := true, img := true, regs := true, host := true, log := true, ostlers := true, pads :=
           true, sec := true, net := true, maps := true, store := true, eng := true, sch := true, leases := true, pwr
           := true, shr := true, mem := true } s (State.warmReset s cause) := by
  unfold State.warmReset
  dsimp only
  refine (State.afterStop_same ..).then rfl ?_
  exact Same.refl _ _

theorem State.coldReset_same (s : State) (cause : Nat) :
    Same { time := true, power := true, boot := true, img := true, regs := true, host := true, log := true, ostlers
           := true, pads := true, sec := true, net := true, maps := true, store := true, eng := true, sch := true,
           leases := true, pwr := true, shr := true, mem := true } s (State.coldReset s cause) := by
  unfold State.coldReset
  dsimp only
  refine Same.update ?_
  refine (State.afterStop_same ..).then rfl ?_
  exact Same.refl _ _

theorem State.errSummary_same (s : State) (b : Nat) :
    Same { out := true, regs := true, log := true } s (State.errSummary s b) := by
  unfold State.errSummary
  dsimp only
  refine (State.eventBit_same ..).then rfl ?_
  refine Same.update ?_
  exact Same.refl _ _

theorem State.addRecord_same (s : State) (e : ErrRep) (detected : Nat) :
    Same { out := true, regs := true, host := true, log := true } s (State.addRecord s e detected) := by
  unfold State.addRecord
  dsimp only
  refine Same.ite ?_ ?_
  refine (State.notify_same ..).then rfl ?_
  refine (State.errSummary_same ..).then rfl ?_
  refine Same.update ?_
  exact Same.refl _ _
  refine (State.errSummary_same ..).then rfl ?_
  refine Same.update ?_
  exact Same.refl _ _

theorem State.failProbation_same (s : State) (reason : Nat) :
    Same { out := true, boot := true, regs := true, host := true, log := true } s (State.failProbation s reason) := by
  unfold State.failProbation
  dsimp only
  split
  exact Same.refl _ _
  refine (State.addRecord_same ..).then rfl ?_
  refine (State.notify_same ..).then rfl ?_
  refine Same.update ?_
  exact Same.refl _ _

theorem State.fatalEvent_same (s : State) (e : ErrRep) (detected : Nat) :
    Same { out := true, regs := true, host := true, log := true } s (State.fatalEvent s e detected) := by
  unfold State.fatalEvent
  dsimp only
  refine (State.emit_same ..).then rfl ?_
  refine (State.addRecord_same ..).then rfl ?_
  exact Same.refl _ _

theorem State.logReport_same (s : State) (e : ErrRep) (detected : Nat) :
    Same { out := true, regs := true, host := true, log := true } s (State.logReport s e detected) := by
  unfold State.logReport
  dsimp only
  split
  refine Same.update ?_
  exact Same.refl _ _
  refine (State.addRecord_same ..).then rfl ?_
  exact Same.refl _ _

theorem State.handleError_same (s : State) (e : ErrRep) (detected : Nat) :
    Same { out := true, time := true, boot := true, img := true, regs := true, host := true, log := true, ostlers :=
           true, pads := true, sec := true, net := true, maps := true, store := true, eng := true, sch := true,
           leases := true, pwr := true, shr := true, mem := true } s (State.handleError s e detected) := by
  unfold State.handleError
  refine Same.ite ?_ ?_
  refine (State.logReport_same ..).then rfl ?_
  exact Same.refl _ _
  refine (State.warmReset_same ..).then rfl ?_
  refine (State.fatalEvent_same ..).then rfl ?_
  refine (State.failProbation_same ..).then rfl ?_
  exact Same.refl _ _

theorem State.queueReport_same (s : State) (e : ErrRep) :
    Same { out := true, regs := true, log := true } s (State.queueReport s e) := by
  unfold State.queueReport
  dsimp only
  refine Same.ite ?_ ?_
  refine Same.update ?_
  exact Same.refl _ _
  refine (State.errSummary_same ..).then rfl ?_
  refine Same.update ?_
  exact Same.refl _ _

theorem State.note_same (s : State) (e : ErrRep) :
    Same { out := true, regs := true, host := true, log := true } s (State.note s e) := by
  unfold State.note
  refine Same.ite ?_ ?_
  refine (State.queueReport_same ..).then rfl ?_
  exact Same.refl _ _
  refine (State.logReport_same ..).then rfl ?_
  exact Same.refl _ _

theorem State.report_same (s : State) (e : ErrRep) :
    Same { out := true, time := true, boot := true, img := true, regs := true, host := true, log := true, ostlers :=
           true, pads := true, sec := true, net := true, maps := true, store := true, eng := true, sch := true,
           leases := true, pwr := true, shr := true, mem := true } s (State.report s e) := by
  unfold State.report
  refine Same.ite ?_ ?_
  refine (State.queueReport_same ..).then rfl ?_
  exact Same.refl _ _
  refine (State.handleError_same ..).then rfl ?_
  exact Same.refl _ _

theorem State.suspectUnit_same (s : State) (kind : Nat) (unit : Nat) :
    Same { eng := true } s (State.suspectUnit s kind unit) := by
  unfold State.suspectUnit
  dsimp only
  refine Same.update ?_
  exact Same.refl _ _

theorem State.modFault_same (s : State) (f : FaultLine → FaultLine) :
    Same { maps := true } s (State.modFault s f) := by
  unfold State.modFault
  dsimp only
  refine Same.ite ?_ ?_
  exact Same.refl _ _
  refine Same.update ?_
  exact Same.refl _ _

theorem State.putBridle_same (s : State) (d : Sched) (cls : Nat) (paddock : Nat) (b : Bridle) :
    Same { sch := true } s (State.putBridle s d cls paddock b) := by
  unfold State.putBridle
  dsimp only
  refine Same.update ?_
  exact Same.refl _ _

theorem State.chargeBridle_same (s : State) (d : Sched) (q : Queue) (bytes : Nat) :
    Same { sch := true } s (State.chargeBridle s d q bytes) := by
  unfold State.chargeBridle
  dsimp only
  split
  exact Same.refl _ _
  refine (State.putBridle_same ..).then rfl ?_
  exact Same.refl _ _

theorem State.putSched_same (s : State) (d : Sched) :
    Same { sch := true } s (State.putSched s d) := by
  unfold State.putSched
  refine (State.modSched_same ..).then rfl ?_
  exact Same.refl _ _

theorem State.enqueue_same (s : State) (sched : Nat) (cls : Nat) (paddock : Nat) (item : Item) (cost : Nat) :
    Same { sch := true } s (State.enqueue s sched cls paddock item cost) := by
  unfold State.enqueue
  refine (State.modSched_same ..).then rfl ?_
  exact Same.refl _ _

theorem State.makeRoom_same (s : State) :
    Same { net := true } s (State.makeRoom s) := by
  unfold State.makeRoom
  dsimp only
  refine Same.ite ?_ ?_
  split
  exact Same.refl _ _
  refine Same.update ?_
  exact Same.refl _ _
  exact Same.refl _ _

theorem State.touchContext_same (s : State) (qpn : Nat) :
    Same { net := true } s (State.touchContext s qpn) := by
  unfold State.touchContext
  dsimp only
  refine Same.ite ?_ ?_
  refine Same.update ?_
  exact Same.refl _ _
  exact Same.refl _ _

theorem State.startFetch_same (s : State) (port : Nat) (qpn : Nat) :
    Same { net := true } s (State.startFetch s port qpn) := by
  unfold State.startFetch
  dsimp only
  refine Same.ite ?_ ?_
  exact Same.refl _ _
  refine (State.makeRoom_same ..).then rfl ?_
  refine Same.update ?_
  exact Same.refl _ _

theorem State.cacheNew_same (s : State) (qpn : Nat) :
    Same { net := true } s (State.cacheNew s qpn) := by
  unfold State.cacheNew
  dsimp only
  refine Same.ite ?_ ?_
  refine Same.update ?_
  exact Same.refl _ _
  refine (State.startFetch_same ..).then rfl ?_
  refine (State.modQp_same ..).then rfl ?_
  exact Same.refl _ _

theorem State.atHand_same (s : State) (qpn : Nat) :
    SomeSame { net := true } s id (State.atHand s qpn) := by
  unfold State.atHand
  dsimp only
  split
  apply SomeSame.some
  dsimp only [id]
  refine (State.touchContext_same ..).then rfl ?_
  exact Same.refl _ _
  split
  apply SomeSame.some
  dsimp only [id]
  refine (State.makeRoom_same ..).then rfl ?_
  refine Same.update ?_
  exact Same.refl _ _
  exact SomeSame.none

theorem State.egress_same (s : State) (link : Nat) (tc : Nat) (paddock : Nat) (f : OutFrame) :
    Same { sch := true } s (State.egress s link tc paddock f) := by
  unfold State.egress
  refine (State.enqueue_same ..).then rfl ?_
  exact Same.refl _ _

theorem State.egressOther_same (s : State) (link : Nat) (tc : Nat) (kind : FrameKind) (bytes : Bytes) (wire : Nat) :
    Same { sch := true } s (State.egressOther s link tc kind bytes wire) := by
  unfold State.egressOther
  refine (State.egress_same ..).then rfl ?_
  exact Same.refl _ _

theorem State.sendPkt_same (s : State) (qpn : Nat) (p : OutPkt) (first : Bool) :
    Same { net := true, sch := true } s (State.sendPkt s qpn p first) := by
  unfold State.sendPkt
  dsimp only
  split
  exact Same.refl _ _
  refine (State.egress_same ..).then rfl ?_
  refine (State.touchContext_same ..).then rfl ?_
  refine (State.modQp_same ..).then rfl ?_
  exact Same.refl _ _

theorem State.control_same (s : State) (qpn : Nat) (type : Nat) (psn : Nat) (offset : Nat) :
    Same { net := true, sch := true } s (State.control s qpn type psn offset) := by
  unfold State.control
  dsimp only
  split
  exact Same.refl _ _
  split
  refine (State.startFetch_same ..).then rfl ?_
  refine (State.modQp_same ..).then rfl ?_
  exact Same.refl _ _
  refine (State.egress_same ..).then rfl ?_
  refine (State.modQp_same ..).then rfl ?_
  rename_i h8
  refine ((State.atHand_same ..).of _ h8).then rfl ?_
  exact Same.refl _ _

theorem State.flushControl_same (s : State) (qpn : Nat) :
    Same { net := true, sch := true } s (State.flushControl s qpn) := by
  unfold State.flushControl
  dsimp only
  split
  exact Same.refl _ _
  refine Same.foldl ?_ ?_
  refine (State.modQp_same ..).then rfl ?_
  exact Same.refl _ _
  intro _ _
  refine (State.control_same ..).then rfl ?_
  exact Same.refl _ _

theorem State.releaseSlot_same (s : State) (qpn : Nat) (msn : Nat) :
    Same { net := true } s (State.releaseSlot s qpn msn) := by
  unfold State.releaseSlot
  dsimp only
  refine (State.modQp_same ..).then rfl ?_
  exact Same.refl _ _

theorem State.pumpFuel_same (qpn : Nat) (x0 : Nat) (x1 : State) :
    Same { net := true, sch := true } x1 (State.pumpFuel qpn x0 x1) := by
  induction x0 generalizing x1 with
  | zero => exact Same.refl _ _
  | succ n ih_pumpFuel =>
    unfold State.pumpFuel
    dsimp only
    split
    exact Same.refl _ _
    refine Same.ite ?_ ?_
    exact Same.refl _ _
    split
    exact Same.refl _ _
    split
    refine (State.startFetch_same ..).then rfl ?_
    exact Same.refl _ _
    refine (ih_pumpFuel ..).then rfl ?_
    split
    refine (State.sendPkt_same ..).then rfl ?_
    refine (State.modQp_same ..).then rfl ?_
    rename_i h13 _ _
    refine ((State.atHand_same ..).of _ h13).then rfl ?_
    exact Same.refl _ _
    refine (State.releaseSlot_same ..).then rfl ?_
    refine (State.sendPkt_same ..).then rfl ?_
    refine (State.modQp_same ..).then rfl ?_
    rename_i h18 _ _ _
    refine ((State.atHand_same ..).of _ h18).then rfl ?_
    exact Same.refl _ _

theorem State.pumpOnce_same (s : State) (qpn : Nat) :
    Same { net := true, sch := true } s (State.pumpOnce s qpn) := by
  unfold State.pumpOnce
  dsimp only
  split
  exact Same.refl _ _
  refine (State.pumpFuel_same ..).then rfl ?_
  refine (State.modQp_same ..).then rfl ?_
  exact Same.refl _ _

theorem State.sendDisconnect_same (s : State) (qpn : Nat) :
    Same { net := true, sch := true } s (State.sendDisconnect s qpn) := by
  unfold State.sendDisconnect
  dsimp only
  split
  exact Same.refl _ _
  refine Same.ite ?_ ?_
  refine (State.pumpOnce_same ..).then rfl ?_
  refine (State.modQp_same ..).then rfl ?_
  exact Same.refl _ _
  exact Same.refl _ _

theorem State.pump_same (s : State) (qpn : Nat) :
    Same { net := true, sch := true } s (State.pump s qpn) := by
  unfold State.pump
  refine (State.sendDisconnect_same ..).then rfl ?_
  refine (State.pumpOnce_same ..).then rfl ?_
  exact Same.refl _ _

theorem State.sendMsg_same (s : State) (qpn : Nat) (opcode : Nat) (tc : Nat) (body : Bytes) (final : Bool) (answers :
    Option Nat) :
    Same { net := true, sch := true } s (State.sendMsg s qpn opcode tc body final answers) := by
  unfold State.sendMsg
  dsimp only
  split
  exact Same.refl _ _
  split
  refine Same.ite ?_ ?_
  exact Same.refl _ _
  refine (State.pump_same ..).then rfl ?_
  refine (State.modQp_same ..).then rfl ?_
  exact Same.refl _ _
  refine Same.ite ?_ ?_
  exact Same.refl _ _
  refine (State.pump_same ..).then rfl ?_
  refine (State.modQp_same ..).then rfl ?_
  exact Same.refl _ _
  exact Same.refl _ _

theorem State.consume_same (s : State) (qpn : Nat) (msn : Nat) :
    Same { net := true, sch := true } s (State.consume s qpn msn) := by
  unfold State.consume
  dsimp only
  refine (State.sendDisconnect_same ..).then rfl ?_
  refine Same.update ?_
  refine (State.modQp_same ..).then rfl ?_
  exact Same.refl _ _

theorem State.answer_same (s : State) (qpn : Nat) (msn : Nat) (opcode : Nat) (body : Bytes) :
    Same { net := true, sch := true } s (State.answer s qpn msn opcode body) := by
  unfold State.answer
  dsimp only
  refine Same.ite ?_ ?_
  refine (State.sendMsg_same ..).then rfl ?_
  refine (State.modQp_same ..).then rfl ?_
  refine Same.update ?_
  exact Same.refl _ _
  refine (State.consume_same ..).then rfl ?_
  refine (State.modQp_same ..).then rfl ?_
  refine Same.update ?_
  exact Same.refl _ _

theorem State.hold_same (s : State) (w : HeldWork) (xs : List (Nat × Nat)) :
    Same { store := true } s (State.hold s w xs) := by
  unfold State.hold
  dsimp only
  refine Same.update ?_
  exact Same.refl _ _

theorem State.holdOnce_same (s : State) (w : HeldWork) (xs : List (Nat × Nat)) :
    Same { store := true } s (State.holdOnce s w xs) := by
  unfold State.holdOnce
  refine Same.ite ?_ ?_
  exact Same.refl _ _
  refine (State.hold_same ..).then rfl ?_
  exact Same.refl _ _

theorem State.dropHeld_same (s : State) (p : HeldWork → Bool) :
    Same { store := true } s (State.dropHeld s p) := by
  unfold State.dropHeld
  dsimp only
  refine Same.update ?_
  exact Same.refl _ _

theorem State.allocIn_same (s : State) (paddock : Nat) (t : Tier) (frameAt : Nat → Nat) (count : Nat) (inRange : Nat
    → Bool) (shift : Nat) (units : Nat) :
    SomeSame { rng := true } s Prod.snd (State.allocIn s paddock t frameAt count inRange shift units) := by
  unfold State.allocIn
  dsimp only
  refine SomeSame.map ?_
  intro _
  dsimp only
  refine (State.choose_same ..).then rfl ?_
  refine (State.choose_same ..).then rfl ?_
  exact Same.refl _ _

theorem State.allocT1_same (s : State) (slice : Nat) (paddock : Nat) (shift : Nat) (units : Nat) :
    SomeSame { rng := true } s Prod.snd (State.allocT1 s slice paddock shift units) := by
  unfold State.allocT1
  split
  exact SomeSame.none
  refine (State.allocIn_same ..).via rfl ?_
  exact Same.refl _ _

theorem State.allocT2_same (s : State) (slice : Nat) (paddock : Nat) (shift : Nat) (units : Nat) :
    SomeSame { rng := true } s Prod.snd (State.allocT2 s slice paddock shift units) := by
  unfold State.allocT2
  refine SomeSame.findSome ?_
  intro _
  refine (State.allocIn_same ..).via rfl ?_
  exact Same.refl _ _

theorem State.emptyFrame_same (s : State) (paddock : Nat) (frame : Nat) :
    Same { store := true, leases := true } s (State.emptyFrame s paddock frame) := by
  unfold State.emptyFrame
  dsimp only
  refine Same.ite ?_ ?_
  exact Same.refl _ _
  refine Same.ite ?_ ?_
  refine Same.update ?_
  exact Same.refl _ _
  refine Same.update ?_
  exact Same.refl _ _

theorem State.freePlace_same (s : State) (paddock : Nat) (p : Place) :
    Same { store := true, leases := true } s (State.freePlace s paddock p) := by
  unfold State.freePlace
  refine Same.foldl ?_ ?_
  exact Same.refl _ _
  intro _ _
  refine (State.emptyFrame_same ..).then rfl ?_
  exact Same.refl _ _

theorem State.freeOld_same (s : State) (block : Nat) (desc : Nat) (generation : Nat) (paddock : Nat) (p : Place) :
    Same { store := true, leases := true } s (State.freeOld s block desc generation paddock p) := by
  unfold State.freeOld
  dsimp only
  refine Same.ite ?_ ?_
  refine (State.freePlace_same ..).then rfl ?_
  exact Same.refl _ _
  refine Same.update ?_
  exact Same.refl _ _

theorem State.dropRef_same (s : State) (n : Nat) :
    Same { store := true, leases := true } s (State.dropRef s n) := by
  unfold State.dropRef
  dsimp only
  split
  exact Same.refl _ _
  refine Same.ite ?_ ?_
  refine (State.modBlock_same ..).then rfl ?_
  exact Same.refl _ _
  refine (State.freePlace_same ..).then rfl ?_
  refine Same.update ?_
  exact Same.refl _ _

theorem State.freeSlot_same (s : State) (paddock : Nat) (x : Slot) :
    Same { store := true, leases := true } s (State.freeSlot s paddock x) := by
  unfold State.freeSlot
  split
  refine (State.freePlace_same ..).then rfl ?_
  exact Same.refl _ _
  refine (State.dropRef_same ..).then rfl ?_
  exact Same.refl _ _

theorem State.abandonMoves_same (s : State) (p : Move → Bool) :
    Same { store := true, leases := true, pwr := true } s (State.abandonMoves s p) := by
  unfold State.abandonMoves
  dsimp only
  refine Same.foldl ?_ ?_
  refine Same.ite ?_ ?_
  refine Same.update ?_
  exact Same.refl _ _
  refine (State.stir_same ..).then rfl ?_
  refine Same.update ?_
  exact Same.refl _ _
  intro _ _
  refine (State.freePlace_same ..).then rfl ?_
  exact Same.refl _ _

theorem State.version_same (s : State) (paddock : Nat) (sealed : Bool) :
    Same { pads := true } s (State.version s paddock sealed).2 := by
  unfold State.version
  split
  dsimp only
  refine (State.modPad_same ..).then rfl ?_
  exact Same.refl _ _
  dsimp only
  exact Same.refl _ _

theorem State.ledgerInsert_same (s : State) (key : Nat) (mask : Nat) (result : Nat) (members : List Nat) (own : Bool)
    (partition : Nat) :
    Same { rng := true, maps := true } s (State.ledgerInsert s key mask result members own partition) := by
  unfold State.ledgerInsert
  dsimp only
  refine Same.ite ?_ ?_
  exact Same.refl _ _
  split
  refine (State.choose_same ..).then rfl ?_
  exact Same.refl _ _
  refine Same.update ?_
  refine (State.choose_same ..).then rfl ?_
  exact Same.refl _ _

theorem State.ledgerRemove_same (s : State) (p : LedgerEntry → Bool) :
    Same { maps := true } s (State.ledgerRemove s p) := by
  unfold State.ledgerRemove
  dsimp only
  refine Same.update ?_
  exact Same.refl _ _

end Sys2Proof.Machine
end

