-- ==== Sys2Proof/Laws/FrameSeqs.lean ====
section
/-! SUPPORT. Frames of the operations on sequences, blocks and directories. -/

set_option Elab.async false

namespace Sys2Proof.Machine

theorem State.refuseBlock_same (s : State) (q : Seq) (layer : Nat) (block : Nat) :
    Same { rng := true, maps := true } s (State.refuseBlock s q layer block) := by
  unfold State.refuseBlock
  dsimp only
  refine Same.ite ?_ ?_
  exact Same.refl _ _
  refine (State.ledgerInsert_same ..).then rfl ?_
  exact Same.refl _ _

theorem State.endRefusals_same (s : State) (d : Nat) :
    Same { maps := true } s (State.endRefusals s d) := by
  unfold State.endRefusals
  split
  exact Same.refl _ _
  refine Same.ite ?_ ?_
  exact Same.refl _ _
  refine (State.ledgerRemove_same ..).then rfl ?_
  exact Same.refl _ _

theorem State.resealDescPage_same (s : State) (q : Seq) :
    Same { pads := true, store := true } s (State.resealDescPage s q) := by
  unfold State.resealDescPage
  dsimp only
  refine Same.ite ?_ ?_
  exact Same.refl _ _
  refine Same.update ?_
  refine (State.version_same ..).then rfl ?_
  exact Same.refl _ _

theorem State.resealTailTable_same (s : State) (d : Nat) :
    Same { pads := true, store := true } s (State.resealTailTable s d) := by
  unfold State.resealTailTable
  dsimp only
  split
  exact Same.refl _ _
  refine Same.ite ?_ ?_
  exact Same.refl _ _
  refine (State.resealDescPage_same ..).then rfl ?_
  refine (State.modSeq_same ..).then rfl ?_
  refine (State.version_same ..).then rfl ?_
  exact Same.refl _ _

theorem State.resealPrefix_same (s : State) (d : Nat) :
    Same { pads := true, store := true } s (State.resealPrefix s d) := by
  unfold State.resealPrefix
  dsimp only
  split
  exact Same.refl _ _
  refine Same.ite ?_ ?_
  exact Same.refl _ _
  refine (State.resealDescPage_same ..).then rfl ?_
  refine (State.modSeq_same ..).then rfl ?_
  refine (State.version_same ..).then rfl ?_
  exact Same.refl _ _

theorem State.metaWritten_same (s : State) (address : Nat) (bytes : Nat) :
    Same { store := true } s (State.metaWritten s address bytes) := by
  unfold State.metaWritten
  dsimp only
  refine Same.update ?_
  exact Same.refl _ _

theorem State.ktbInvalidate_same (s : State) (d : Nat) (pages : List Nat) :
    Same { eng := true } s (State.ktbInvalidate s d pages) := by
  unfold State.ktbInvalidate
  dsimp only
  refine Same.update ?_
  exact Same.refl _ _

theorem State.resealPage_same (s : State) (d : Nat) (page : Nat) :
    Same { pads := true, store := true } s (State.resealPage s d page) := by
  unfold State.resealPage
  dsimp only
  split
  exact Same.refl _ _
  refine (State.modSeq_same ..).then rfl ?_
  refine (State.metaWritten_same ..).then rfl ?_
  refine (State.version_same ..).then rfl ?_
  exact Same.refl _ _

theorem State.resealL1_same (s : State) (d : Nat) :
    Same { pads := true, store := true } s (State.resealL1 s d) := by
  unfold State.resealL1
  dsimp only
  split
  exact Same.refl _ _
  refine (State.resealDescPage_same ..).then rfl ?_
  refine (State.modSeq_same ..).then rfl ?_
  refine (State.metaWritten_same ..).then rfl ?_
  refine (State.version_same ..).then rfl ?_
  exact Same.refl _ _

theorem State.reseal_same (s : State) (d : Nat) :
    Same { pads := true, store := true, eng := true } s (State.reseal s d) := by
  unfold State.reseal
  dsimp only
  split
  exact Same.refl _ _
  refine Same.ite ?_ ?_
  exact Same.refl _ _
  refine Same.ite ?_ ?_
  exact Same.refl _ _
  refine (State.resealL1_same ..).then rfl ?_
  refine Same.foldl ?_ ?_
  refine (State.ktbInvalidate_same ..).then rfl ?_
  exact Same.refl _ _
  intro _ _
  refine (State.resealPage_same ..).then rfl ?_
  exact Same.refl _ _

theorem State.l1Changed_same (s : State) (d : Nat) (page : Nat) :
    Same { pads := true, store := true, eng := true } s (State.l1Changed s d page) := by
  unfold State.l1Changed
  dsimp only
  refine Same.ite ?_ ?_
  refine (State.resealL1_same ..).then rfl ?_
  refine (State.ktbInvalidate_same ..).then rfl ?_
  exact Same.refl _ _
  refine (State.ktbInvalidate_same ..).then rfl ?_
  exact Same.refl _ _

theorem State.resealTails_same (s : State) (d : Nat) (layers : List Nat) :
    Same { store := true } s (State.resealTails s d layers) := by
  unfold State.resealTails
  refine (State.modSeq_same ..).then rfl ?_
  exact Same.refl _ _

theorem State.allocMeta_same (s : State) (slice : Nat) (paddock : Nat) (bytes : Nat) (align : Nat) (taken : List (Nat
    × Nat)) :
    SomeSame { rng := true, store := true } s Prod.snd (State.allocMeta s slice paddock bytes align taken) := by
  unfold State.allocMeta
  dsimp only
  split
  exact SomeSame.none
  refine SomeSame.map ?_
  intro _
  dsimp only
  refine (State.metaWritten_same ..).then rfl ?_
  refine (State.choose_same ..).then rfl ?_
  exact Same.refl _ _

theorem State.backPage_same (s : State) (d : Nat) (page : Nat) :
    SomeSame { rng := true, store := true, eng := true } s id (State.backPage s d page) := by
  unfold State.backPage
  split
  exact SomeSame.none
  split
  apply SomeSame.some
  dsimp only [id]
  exact Same.refl _ _
  refine SomeSame.mapOf (h := Prod.snd) ?_ ?_
  rotate_left
  intro _ _
  rotate_left
  refine (State.allocMeta_same ..).via rfl ?_
  exact Same.refl _ _
  dsimp only [id]
  refine (State.modSeq_same ..).then rfl ?_
  refine (State.ktbInvalidate_same ..).then rfl ?_
  assumption

theorem State.newTail_same (s : State) (d : Nat) (layer : Nat) (head : Nat) (block : Nat) :
    OkSame { rng := true, pads := true, store := true, eng := true } s id (State.newTail s d layer head block) := by
  unfold State.newTail
  dsimp only
  split
  exact OkSame.error
  split
  exact OkSame.error
  split
  exact OkSame.error
  apply OkSame.ok
  dsimp only [id]
  refine (State.modSeq_same ..).then rfl ?_
  refine (State.version_same ..).then rfl ?_
  rename_i h10
  refine ((State.allocT1_same ..).of _ h10).then rfl ?_
  rename_i h11 _ _ _
  refine ((State.backPage_same ..).of _ h11).then rfl ?_
  exact Same.refl _ _

theorem State.allocClosed_same (s : State) (q : Seq) (units : Nat) :
    SomeSame { rng := true } s Prod.snd (State.allocClosed s q units) := by
  unfold State.allocClosed
  dsimp only
  split
  apply SomeSame.some
  rename_i h2
  refine SomeSame.of (g := Prod.snd) ?_ _ h2
  split
  split
  refine (State.allocT2_same ..).via rfl ?_
  exact Same.refl _ _
  exact SomeSame.none
  split
  split
  refine (State.allocT2_same ..).via rfl ?_
  exact Same.refl _ _
  exact SomeSame.none
  split
  refine (State.allocT2_same ..).via rfl ?_
  exact Same.refl _ _
  exact SomeSame.none
  refine (State.allocT1_same ..).via rfl ?_
  exact Same.refl _ _

theorem State.writeClosed_same (s : State) (close : Bool) (d : Nat) (layer : Nat) (head : Nat) (block : Nat) (recs :
    List Bytes) :
    OkSame { out := true, rng := true, regs := true, host := true, log := true, pads := true, store := true, eng :=
             true } s id (State.writeClosed s close d layer head block recs) := by
  unfold State.writeClosed
  dsimp only
  split
  exact OkSame.error
  split
  exact OkSame.error
  split
  exact OkSame.error
  apply OkSame.ok
  dsimp only [id]
  refine (State.modSeq_same ..).then rfl ?_
  refine Same.update ?_
  refine (State.version_same ..).then rfl ?_
  rename_i h11
  refine SomeSame.of (g := Prod.snd) ?_ _ h11
  split
  refine (State.allocClosed_same ..).via rfl ?_
  rename_i h14 _ _ _ _
  refine ((State.backPage_same ..).of _ h14).then rfl ?_
  refine Same.ite ?_ ?_
  refine (State.note_same ..).then rfl ?_
  exact Same.refl _ _
  exact Same.refl _ _
  refine (State.allocT1_same ..).via rfl ?_
  rename_i h20 _ _ _ _
  refine ((State.backPage_same ..).of _ h20).then rfl ?_
  refine Same.ite ?_ ?_
  refine (State.note_same ..).then rfl ?_
  exact Same.refl _ _
  exact Same.refl _ _

theorem State.registerPrefix_same (s : State) (d : Nat) (k : Nat) :
    Same { rng := true, maps := true } s (State.registerPrefix s d k) := by
  unfold State.registerPrefix
  dsimp only
  split
  exact Same.refl _ _
  split
  exact Same.refl _ _
  refine Same.ite ?_ ?_
  refine (State.ledgerInsert_same ..).then rfl ?_
  exact Same.refl _ _
  exact Same.refl _ _

theorem State.dropPrefixes_same (s : State) (d : Nat) (k : Nat) :
    Same { maps := true, store := true } s (State.dropPrefixes s d k) := by
  unfold State.dropPrefixes
  dsimp only
  split
  exact Same.refl _ _
  refine (State.modSeq_same ..).then rfl ?_
  refine (State.ledgerRemove_same ..).then rfl ?_
  exact Same.refl _ _

theorem State.closeTail_same (s : State) (d : Nat) (layer : Nat) (head : Nat) (block : Nat) :
    OkSame { out := true, rng := true, regs := true, host := true, log := true, pads := true, maps := true, store :=
             true, eng := true, leases := true } s id (State.closeTail s d layer head block) := by
  unfold State.closeTail
  dsimp only
  split
  exact OkSame.error
  split
  split
  exact OkSame.error
  split
  exact OkSame.error
  split
  exact OkSame.error
  apply OkSame.ok
  dsimp only [id]
  refine (State.registerPrefix_same ..).then rfl ?_
  refine (State.reseal_same ..).then rfl ?_
  rename_i h13
  refine OkSame.of (g := id) ?_ _ h13
  split
  apply OkSame.ok
  dsimp only [id]
  refine (State.freeOld_same ..).then rfl ?_
  rename_i h18 _ _ _
  refine ((State.writeClosed_same ..).of _ h18).then rfl ?_
  exact Same.refl _ _
  refine (State.newTail_same ..).via rfl ?_
  refine (State.freeOld_same ..).then rfl ?_
  rename_i h22 _ _ _
  refine ((State.writeClosed_same ..).of _ h22).then rfl ?_
  exact Same.refl _ _
  exact OkSame.error

theorem State.appendRow_same (s : State) (close : Bool) (d : Nat) (layer : Nat) (head : Nat) (x0 : Nat) (x1 : Nat)
    (x2 : List Bytes) :
    OkSame { out := true, rng := true, regs := true, host := true, log := true, pads := true, store := true, eng :=
             true, leases := true } s id (State.appendRow s close d layer head x0 x1 x2) := by
  induction x0 generalizing s x1 x2 with
  | zero => exact OkSame.ok (Same.refl _ _)
  | succ n ih_appendRow =>
    cases x2 with
    | nil => exact OkSame.ok (Same.refl _ _)
    | cons r rs =>
      unfold State.appendRow
      dsimp only
      split
      exact OkSame.error
      split
      split
      split
      exact OkSame.error
      split
      refine (ih_appendRow ..).via rfl ?_
      rename_i h8 _
      refine ((State.writeClosed_same ..).of _ h8).then rfl ?_
      exact Same.refl _ _
      split
      exact OkSame.error
      refine (ih_appendRow ..).via rfl ?_
      rename_i h13
      refine ((State.newTail_same ..).of _ h13).then rfl ?_
      rename_i h14 _ _ _
      refine ((State.writeClosed_same ..).of _ h14).then rfl ?_
      exact Same.refl _ _
      split
      exact OkSame.error
      refine (ih_appendRow ..).via rfl ?_
      refine (State.modSeq_same ..).then rfl ?_
      rename_i h20
      refine OkSame.of (g := id) ?_ _ h20
      split
      refine (State.newTail_same ..).via rfl ?_
      exact Same.refl _ _
      apply OkSame.ok
      dsimp only [id]
      exact Same.refl _ _
      split
      split
      exact OkSame.error
      split
      refine (ih_appendRow ..).via rfl ?_
      refine (State.freePlace_same ..).then rfl ?_
      rename_i h33 _
      refine ((State.writeClosed_same ..).of _ h33).then rfl ?_
      exact Same.refl _ _
      split
      exact OkSame.error
      refine (ih_appendRow ..).via rfl ?_
      rename_i h38
      refine ((State.newTail_same ..).of _ h38).then rfl ?_
      refine (State.freePlace_same ..).then rfl ?_
      rename_i h40 _ _ _
      refine ((State.writeClosed_same ..).of _ h40).then rfl ?_
      exact Same.refl _ _
      split
      exact OkSame.error
      refine (ih_appendRow ..).via rfl ?_
      refine (State.modSeq_same ..).then rfl ?_
      rename_i h46
      refine OkSame.of (g := id) ?_ _ h46
      split
      refine (State.newTail_same ..).via rfl ?_
      exact Same.refl _ _
      apply OkSame.ok
      dsimp only [id]
      exact Same.refl _ _

theorem State.appendLayer_same (s : State) (d : Nat) (pos : Nat) (kvHeads : Nat) (layer : Nat) (recs : List Bytes) :
    OkSame { out := true, rng := true, regs := true, host := true, log := true, pads := true, store := true, eng :=
             true, leases := true } s id (State.appendLayer s d pos kvHeads layer recs) := by
  unfold State.appendLayer
  dsimp only
  refine OkSame.foldlM ?_ ?_
  exact Same.refl _ _
  intro _ _
  refine (State.appendRow_same ..).via rfl ?_
  exact Same.refl _ _

theorem State.backPrefix_same (s : State) (d : Nat) :
    SomeSame { rng := true, store := true } s id (State.backPrefix s d) := by
  unfold State.backPrefix
  split
  exact SomeSame.none
  split
  apply SomeSame.some
  dsimp only [id]
  exact Same.refl _ _
  split
  exact SomeSame.none
  refine SomeSame.mapOf (h := Prod.snd) ?_ ?_
  rotate_left
  intro _ _
  rotate_left
  refine (State.allocMeta_same ..).via rfl ?_
  exact Same.refl _ _
  dsimp only [id]
  refine (State.modSeq_same ..).then rfl ?_
  assumption

theorem State.recordHashes_same (s : State) (d : Nat) (first : Nat) (hs : List Nat) :
    Same { rng := true, pads := true, maps := true, store := true } s (State.recordHashes s d first hs) := by
  unfold State.recordHashes
  dsimp only
  split
  exact Same.refl _ _
  refine Same.ite ?_ ?_
  exact Same.refl _ _
  split
  exact Same.refl _ _
  refine Same.foldl ?_ ?_
  refine (State.resealPrefix_same ..).then rfl ?_
  refine (State.modSeq_same ..).then rfl ?_
  rename_i h9
  refine ((State.backPrefix_same ..).of _ h9).then rfl ?_
  exact Same.refl _ _
  intro _ _
  refine (State.registerPrefix_same ..).then rfl ?_
  exact Same.refl _ _

theorem State.applyAppend_same (s : State) (d : Nat) (pos : Nat) (tokens : Nat) (layers : List (Nat × List Bytes)) :
    OkSame { out := true, rng := true, regs := true, host := true, log := true, pads := true, maps := true, store :=
             true, eng := true, leases := true } s id (State.applyAppend s d pos tokens layers) := by
  unfold State.applyAppend
  dsimp only
  split
  exact OkSame.error
  split
  exact OkSame.error
  apply OkSame.ok
  dsimp only [id]
  refine Same.foldl ?_ ?_
  refine (State.reseal_same ..).then rfl ?_
  refine (State.resealTailTable_same ..).then rfl ?_
  refine (State.resealTails_same ..).then rfl ?_
  refine (State.modSeq_same ..).then rfl ?_
  rename_i h11
  refine OkSame.of (g := id) ?_ _ h11
  refine OkSame.foldlM ?_ ?_
  exact Same.refl _ _
  intro _ _
  refine (State.appendLayer_same ..).via rfl ?_
  exact Same.refl _ _
  intro _ _
  refine (State.registerPrefix_same ..).then rfl ?_
  exact Same.refl _ _

theorem State.counterFits_same (t : State) (paddock : Nat) :
    OkSame {} t id (State.counterFits t paddock) := by
  unfold State.counterFits
  split
  exact OkSame.error
  apply OkSame.ok
  dsimp only [id]
  exact Same.refl _ _

theorem State.fits_same (s t : State) (paddock : Nat) : OkSame {} t id (State.fits s t paddock) := by
  unfold State.fits
  split
  exact OkSame.error
  refine (State.counterFits_same ..).via rfl ?_
  exact Same.refl _ _

theorem State.freeDescriptor_same (s : State) (c : SliceCfg) (paddock : Nat) :
    SomeSame { store := true } s Prod.snd (State.freeDescriptor s c paddock) := by
  unfold State.freeDescriptor
  dsimp only
  split
  apply SomeSame.some
  dsimp only
  exact Same.refl _ _
  split
  split
  exact SomeSame.none
  split
  exact SomeSame.none
  apply SomeSame.some
  dsimp only
  refine Same.update ?_
  exact Same.refl _ _
  split
  exact SomeSame.none
  split
  exact SomeSame.none
  apply SomeSame.some
  dsimp only
  refine Same.update ?_
  exact Same.refl _ _

theorem State.nextGeneration_same (s : State) (d : Nat) :
    Same { store := true } s (State.nextGeneration s d).2 := by
  unfold State.nextGeneration
  dsimp only
  refine Same.update ?_
  exact Same.refl _ _

theorem State.seqMeta_same (s : State) (slice : Nat) (paddock : Nat) (sealed : Bool) (shape : Shape) :
    SomeSame { rng := true, store := true } s Prod.snd (State.seqMeta s slice paddock sealed shape) := by
  unfold State.seqMeta
  dsimp only
  refine SomeSame.bind (h := Prod.snd) ?_ ?_
  rotate_left
  intro _ _
  rotate_left
  refine (State.allocMeta_same ..).via rfl ?_
  exact Same.refl _ _
  refine SomeSame.bind (h := Prod.snd) ?_ ?_
  rotate_left
  intro _ _
  rotate_left
  refine (State.allocMeta_same ..).via rfl ?_
  assumption
  split
  refine SomeSame.mapOf (h := Prod.snd) ?_ ?_
  rotate_left
  intro _ _
  rotate_left
  apply SomeSame.some
  dsimp only
  assumption
  refine (State.allocMeta_same ..).via rfl ?_
  assumption
  dsimp only
  assumption

theorem State.newSeq_same (s : State) (slice : Nat) (paddock : Nat) (id : Nat) (modelId : Nat) (shape : Shape)
    (created : Bytes) (ttl : Nat) (weightSet : Nat) (len : Nat) (mirror : Bool) (forked : Option Fork) :
    OkSame { rng := true, store := true } s Prod.snd (State.newSeq s slice paddock id modelId shape created ttl
        weightSet len mirror forked) := by
  unfold State.newSeq
  dsimp only
  split
  exact OkSame.error
  split
  exact OkSame.error
  split
  exact OkSame.error
  split
  exact OkSame.error
  apply OkSame.ok
  dsimp only
  refine Same.update ?_
  refine (State.metaWritten_same ..).then rfl ?_
  rename_i h12
  refine ((State.seqMeta_same ..).of _ h12).then rfl ?_
  refine (State.nextGeneration_same ..).then rfl ?_
  rename_i h14 _ _ _
  refine ((State.freeDescriptor_same ..).of _ h14).then rfl ?_
  exact Same.refl _ _

theorem State.newTails_same (s : State) (d : Nat) (len : Nat) :
    OkSame { rng := true, pads := true, store := true, eng := true } s id (State.newTails s d len) := by
  unfold State.newTails
  split
  exact OkSame.error
  split
  apply OkSame.ok
  dsimp only [id]
  exact Same.refl _ _
  refine OkSame.foldlM ?_ ?_
  exact Same.refl _ _
  intro _ _
  refine (State.newTail_same ..).via rfl ?_
  exact Same.refl _ _

theorem State.sealNew_same (s : State) (d : Nat) :
    Same { pads := true, store := true, eng := true } s (State.sealNew s d) := by
  unfold State.sealNew
  dsimp only
  split
  exact Same.refl _ _
  refine Same.ite ?_ ?_
  refine (State.resealL1_same ..).then rfl ?_
  refine Same.ite ?_ ?_
  refine (State.resealTailTable_same ..).then rfl ?_
  refine (State.resealTails_same ..).then rfl ?_
  exact Same.refl _ _
  refine (State.resealPrefix_same ..).then rfl ?_
  refine (State.resealTailTable_same ..).then rfl ?_
  refine (State.resealTails_same ..).then rfl ?_
  exact Same.refl _ _
  refine (State.reseal_same ..).then rfl ?_
  refine Same.ite ?_ ?_
  refine (State.resealTailTable_same ..).then rfl ?_
  refine (State.resealTails_same ..).then rfl ?_
  exact Same.refl _ _
  refine (State.resealPrefix_same ..).then rfl ?_
  refine (State.resealTailTable_same ..).then rfl ?_
  refine (State.resealTails_same ..).then rfl ?_
  exact Same.refl _ _

theorem State.createSeq_same (s : State) (slice : Nat) (paddock : Nat) (id : Nat) (modelId : Nat) (shape : Shape)
    (created : Bytes) (ttl : Nat) (weightSet : Nat) (mirror : Bool) :
    OkSame { rng := true, pads := true, store := true, eng := true } s Prod.snd (State.createSeq s slice paddock id
        modelId shape created ttl weightSet mirror) := by
  unfold State.createSeq
  split
  exact OkSame.error
  split
  exact OkSame.error
  apply OkSame.ok
  dsimp only
  refine (State.sealNew_same ..).then rfl ?_
  rename_i h7
  refine ((State.newTails_same ..).of _ h7).then rfl ?_
  rename_i h8 _ _
  refine ((State.newSeq_same ..).of _ h8).then rfl ?_
  exact Same.refl _ _

theorem State.insertExact_same (s : State) (d : Nat) (mirror : Bool) (partner : Nat) (below : Nat) :
    Same { rng := true, maps := true } s (State.insertExact s d mirror partner below) := by
  unfold State.insertExact
  dsimp only
  split
  exact Same.refl _ _
  refine (State.ledgerInsert_same ..).then rfl ?_
  refine (State.ledgerRemove_same ..).then rfl ?_
  exact Same.refl _ _

theorem State.settleLost_same (s : State) :
    Same { maps := true } s (State.settleLost s) := by
  unfold State.settleLost
  refine Same.ite ?_ ?_
  exact Same.refl _ _
  refine (State.modFault_same ..).then rfl ?_
  exact Same.refl _ _

theorem State.regain_same (s : State) (paddock : Nat) (seq : Nat) :
    Same { maps := true } s (State.regain s paddock seq) := by
  unfold State.regain
  dsimp only
  refine (State.settleLost_same ..).then rfl ?_
  refine Same.update ?_
  exact Same.refl _ _

theorem State.startRelease_same (s : State) (d : Nat) :
    Same { maps := true, store := true } s (State.startRelease s d) := by
  unfold State.startRelease
  dsimp only
  split
  exact Same.refl _ _
  refine (State.modSeq_same ..).then rfl ?_
  refine (State.ledgerRemove_same ..).then rfl ?_
  refine (State.regain_same ..).then rfl ?_
  refine (State.dropPrefixes_same ..).then rfl ?_
  exact Same.refl _ _

theorem State.finishRelease_same (s : State) (d : Nat) :
    Same { store := true, eng := true, leases := true } s (State.finishRelease s d) := by
  unfold State.finishRelease
  dsimp only
  split
  exact Same.refl _ _
  refine Same.ite ?_ ?_
  refine (State.ktbInvalidate_same ..).then rfl ?_
  refine Same.foldl ?_ ?_
  refine Same.update ?_
  split
  exact Same.refl _ _
  refine (State.metaWritten_same ..).then rfl ?_
  exact Same.refl _ _
  intro _ _
  refine (State.freeSlot_same ..).then rfl ?_
  exact Same.refl _ _
  refine Same.update ?_
  refine (State.ktbInvalidate_same ..).then rfl ?_
  refine Same.foldl ?_ ?_
  refine Same.update ?_
  split
  exact Same.refl _ _
  refine (State.metaWritten_same ..).then rfl ?_
  exact Same.refl _ _
  intro _ _
  refine (State.freeSlot_same ..).then rfl ?_
  exact Same.refl _ _

theorem State.release_same (s : State) (d : Nat) :
    Same { maps := true, store := true, eng := true, leases := true } s (State.release s d) := by
  unfold State.release
  dsimp only
  split
  refine (State.startRelease_same ..).then rfl ?_
  exact Same.refl _ _
  refine Same.ite ?_ ?_
  refine (State.finishRelease_same ..).then rfl ?_
  refine (State.startRelease_same ..).then rfl ?_
  exact Same.refl _ _
  refine (State.startRelease_same ..).then rfl ?_
  exact Same.refl _ _

theorem State.cutRow_same (s : State) (d : Nat) (layer : Nat) (head : Nat) (len : Nat) :
    OkSame { rng := true, pads := true, store := true, eng := true, leases := true } s id (State.cutRow s d layer
        head len) := by
  unfold State.cutRow
  dsimp only
  split
  exact OkSame.error
  split
  split
  apply OkSame.ok
  dsimp only [id]
  refine Same.foldl ?_ ?_
  refine (State.modSeq_same ..).then rfl ?_
  exact Same.refl _ _
  intro _ _
  refine (State.freeSlot_same ..).then rfl ?_
  exact Same.refl _ _
  refine (State.newTail_same ..).via rfl ?_
  refine Same.foldl ?_ ?_
  refine (State.modSeq_same ..).then rfl ?_
  exact Same.refl _ _
  intro _ _
  refine (State.freeSlot_same ..).then rfl ?_
  exact Same.refl _ _
  split
  apply OkSame.ok
  dsimp only [id]
  refine Same.foldl ?_ ?_
  refine (State.modSeq_same ..).then rfl ?_
  exact Same.refl _ _
  intro _ _
  refine (State.freeSlot_same ..).then rfl ?_
  exact Same.refl _ _
  split
  apply OkSame.ok
  dsimp only [id]
  refine (State.modSeq_same ..).then rfl ?_
  refine Same.foldl ?_ ?_
  refine (State.modSeq_same ..).then rfl ?_
  exact Same.refl _ _
  intro _ _
  refine (State.freeSlot_same ..).then rfl ?_
  exact Same.refl _ _
  split
  exact OkSame.error
  apply OkSame.ok
  dsimp only [id]
  refine (State.dropRef_same ..).then rfl ?_
  refine (State.modSeq_same ..).then rfl ?_
  rename_i h48
  refine ((State.newTail_same ..).of _ h48).then rfl ?_
  refine (State.modSeq_same ..).then rfl ?_
  refine Same.foldl ?_ ?_
  refine (State.modSeq_same ..).then rfl ?_
  exact Same.refl _ _
  intro _ _
  refine (State.freeSlot_same ..).then rfl ?_
  exact Same.refl _ _

theorem State.applyTruncate_same (s : State) (d : Nat) (len : Nat) :
    OkSame { rng := true, pads := true, maps := true, store := true, eng := true, leases := true } s id
        (State.applyTruncate s d len) := by
  unfold State.applyTruncate
  dsimp only
  split
  exact OkSame.error
  split
  exact OkSame.error
  apply OkSame.ok
  dsimp only [id]
  refine (State.endRefusals_same ..).then rfl ?_
  refine (State.reseal_same ..).then rfl ?_
  refine (State.resealTailTable_same ..).then rfl ?_
  refine (State.resealTails_same ..).then rfl ?_
  refine Same.ite ?_ ?_
  refine (State.resealPrefix_same ..).then rfl ?_
  refine (State.modSeq_same ..).then rfl ?_
  rename_i h13
  refine OkSame.of (g := id) ?_ _ h13
  refine OkSame.foldlM ?_ ?_
  refine (State.dropPrefixes_same ..).then rfl ?_
  exact Same.refl _ _
  intro _ _
  refine (State.cutRow_same ..).via rfl ?_
  exact Same.refl _ _
  refine (State.modSeq_same ..).then rfl ?_
  rename_i h22
  refine OkSame.of (g := id) ?_ _ h22
  refine OkSame.foldlM ?_ ?_
  refine (State.dropPrefixes_same ..).then rfl ?_
  exact Same.refl _ _
  intro _ _
  refine (State.cutRow_same ..).via rfl ?_
  exact Same.refl _ _

theorem State.replaceEntry_same (s : State) (d : Nat) (e : Entry) :
    Same { store := true, leases := true } s (State.replaceEntry s d e) := by
  unfold State.replaceEntry
  dsimp only
  split
  exact Same.refl _ _
  split
  refine (State.modSeq_same ..).then rfl ?_
  exact Same.refl _ _
  refine (State.freePlace_same ..).then rfl ?_
  refine (State.modSeq_same ..).then rfl ?_
  exact Same.refl _ _

theorem State.forkClosed_same (s : State) (d : Nat) (e : Entry) (n : Nat) (acc : Nat × Nat) :
    OkSame { rng := true, store := true, eng := true, leases := true } s Prod.fst (State.forkClosed s d e n acc) := by
  unfold State.forkClosed
  dsimp only
  split
  split
  exact OkSame.error
  split
  split
  exact OkSame.error
  apply OkSame.ok
  dsimp only
  refine (State.replaceEntry_same ..).then rfl ?_
  refine Same.update ?_
  rename_i h10
  refine ((State.allocT1_same ..).of _ h10).then rfl ?_
  rename_i h11 _ _ _ _
  refine ((State.backPage_same ..).of _ h11).then rfl ?_
  exact Same.refl _ _
  apply OkSame.ok
  dsimp only
  refine (State.replaceEntry_same ..).then rfl ?_
  refine (State.modBlock_same ..).then rfl ?_
  rename_i h17 _
  refine ((State.backPage_same ..).of _ h17).then rfl ?_
  exact Same.refl _ _
  exact OkSame.error

theorem State.forkEntry_same (d len : Nat) (parent : Seq) (acc : State × Nat × Nat) (e : Entry) :
    OkSame { out := true, rng := true, regs := true, host := true, log := true, pads := true, store := true, eng :=
             true, leases := true } acc.1 Prod.fst (State.forkEntry d len parent acc e) := by
  unfold State.forkEntry
  dsimp only
  split
  split
  refine (State.forkClosed_same ..).via rfl ?_
  exact Same.refl _ _
  split
  exact OkSame.error
  apply OkSame.ok
  dsimp only
  rename_i h8
  refine ((State.appendRow_same ..).of _ h8).then rfl ?_
  exact Same.refl _ _
  split
  exact OkSame.error
  apply OkSame.ok
  dsimp only
  rename_i h14
  refine ((State.appendRow_same ..).of _ h14).then rfl ?_
  exact Same.refl _ _

theorem State.inheritHashes_same (s : State) (d : Nat) (hs : List (Nat × Nat)) :
    Same { rng := true, store := true } s (State.inheritHashes s d hs) := by
  unfold State.inheritHashes
  refine Same.ite ?_ ?_
  exact Same.refl _ _
  split
  exact Same.refl _ _
  refine (State.modSeq_same ..).then rfl ?_
  rename_i h5
  refine ((State.backPrefix_same ..).of _ h5).then rfl ?_
  exact Same.refl _ _

theorem State.applyFork_same (s : State) (parent : Seq) (child : Nat) (len : Nat) (maxLength : Nat) (ttl : Nat)
    (mirror : Bool) :
    OkSame { out := true, rng := true, regs := true, host := true, log := true, pads := true, maps := true, store :=
             true, eng := true, leases := true } s Prod.snd (State.applyFork s parent child len maxLength ttl mirror)
             := by
  unfold State.applyFork
  dsimp only
  split
  exact OkSame.error
  split
  exact OkSame.error
  split
  exact OkSame.error
  split
  exact OkSame.error
  apply OkSame.ok
  dsimp only
  refine (State.reseal_same ..).then rfl ?_
  refine Same.foldl ?_ ?_
  refine (State.sealNew_same ..).then rfl ?_
  refine (State.inheritHashes_same ..).then rfl ?_
  rename_i h14
  refine OkSame.of (g := id) ?_ _ h14
  split
  apply OkSame.ok
  dsimp only [id]
  refine (State.modSeq_same ..).then rfl ?_
  refine (State.modSeq_same ..).then rfl ?_
  rename_i h20 _ _ _ _ _ _
  refine OkSame.of (g := Prod.fst) ?_ _ h20
  refine OkSame.foldlM_of ?_ ?_
  dsimp only
  rename_i h23 _ _ _ _ _ _ _ _ _ _
  refine ((State.newSeq_same ..).of _ h23).then rfl ?_
  exact Same.refl _ _
  intro _ _
  refine (State.forkEntry_same ..).via rfl ?_
  exact Same.refl _ _
  refine OkSame.foldlM ?_ ?_
  refine (State.modSeq_same ..).then rfl ?_
  refine (State.modSeq_same ..).then rfl ?_
  rename_i h32 _ _ _ _ _ _
  refine OkSame.of (g := Prod.fst) ?_ _ h32
  refine OkSame.foldlM_of ?_ ?_
  dsimp only
  rename_i h35 _ _ _ _ _ _ _ _ _ _
  refine ((State.newSeq_same ..).of _ h35).then rfl ?_
  exact Same.refl _ _
  intro _ _
  refine (State.forkEntry_same ..).via rfl ?_
  exact Same.refl _ _
  intro _ _
  refine (State.newTail_same ..).via rfl ?_
  exact Same.refl _ _
  intro _ _
  refine (State.registerPrefix_same ..).then rfl ?_
  exact Same.refl _ _

end Sys2Proof.Machine
end

