-- ==== Sys2Proof/Laws/FramePair.lean ====
section
/-! SUPPORT. Frames of a pair's sending side and of the operand and flag operations. -/

set_option Elab.async false

namespace Sys2Proof.Machine

theorem State.ensureStream_same (s : State) (partner : Nat) (paddock : Nat) :
    Same { maps := true } s (State.ensureStream s partner paddock) := by
  unfold State.ensureStream
  dsimp only
  split
  exact Same.refl _ _
  refine Same.update ?_
  exact Same.refl _ _

theorem State.writeRing_same (qpn : Nat) (size : Nat) (tc : Nat) (x0 : Nat) (x1 : Nat) (x2 : Bytes) (x3 : State) :
    Same { net := true, sch := true } x3 (State.writeRing qpn size tc x0 x1 x2 x3) := by
  induction x0 generalizing x1 x2 x3 with
  | zero => exact Same.refl _ _
  | succ n ih_writeRing =>
    unfold State.writeRing
    dsimp only
    refine Same.ite ?_ ?_
    exact Same.refl _ _
    refine (ih_writeRing ..).then rfl ?_
    refine (State.sendMsg_same ..).then rfl ?_
    exact Same.refl _ _

theorem State.sendCommit_same (s : State) (qpn : Nat) (length : Nat) (c : Commit) :
    Same { net := true, sch := true } s (State.sendCommit s qpn length c) := by
  unfold State.sendCommit
  dsimp only
  refine (State.sendMsg_same ..).then rfl ?_
  refine (State.writeRing_same ..).then rfl ?_
  exact Same.refl _ _

theorem State.pumpStreamFuel_same (i : Nat) (x0 : Nat) (x1 : State) :
    Same { net := true, maps := true, eng := true, sch := true } x1 (State.pumpStreamFuel i x0 x1) := by
  induction x0 generalizing x1 with
  | zero => exact Same.refl _ _
  | succ n ih_pumpStreamFuel =>
    unfold State.pumpStreamFuel
    dsimp only
    split
    exact Same.refl _ _
    split
    refine Same.ite ?_ ?_
    exact Same.refl _ _
    split
    refine (ih_pumpStreamFuel ..).then rfl ?_
    refine (State.modStream_same ..).then rfl ?_
    exact Same.refl _ _
    refine Same.ite ?_ ?_
    exact Same.refl _ _
    refine (ih_pumpStreamFuel ..).then rfl ?_
    refine (State.sendCommit_same ..).then rfl ?_
    refine Same.ite ?_ ?_
    refine (State.modStream_same ..).then rfl ?_
    exact Same.refl _ _
    refine (State.modOp_same ..).then rfl ?_
    refine (State.modStream_same ..).then rfl ?_
    exact Same.refl _ _
    exact Same.refl _ _

theorem State.pumpStream_same (s : State) (i : Nat) :
    Same { net := true, maps := true, eng := true, sch := true } s (State.pumpStream s i) := by
  unfold State.pumpStream
  split
  exact Same.refl _ _
  refine (State.pumpStreamFuel_same ..).then rfl ?_
  exact Same.refl _ _

theorem State.queueRecords_same (s : State) (partner : Nat) (paddock : Nat) (op : Nat) (records : List Bytes) :
    Same { net := true, maps := true, eng := true, sch := true } s (State.queueRecords s partner paddock op records)
        := by
  unfold State.queueRecords
  dsimp only
  refine Same.ite ?_ ?_
  exact Same.refl _ _
  split
  refine (State.ensureStream_same ..).then rfl ?_
  exact Same.refl _ _
  refine (State.pumpStream_same ..).then rfl ?_
  refine (State.modStream_same ..).then rfl ?_
  refine (State.ensureStream_same ..).then rfl ?_
  exact Same.refl _ _

theorem State.freeParts_same (s : State) (w : Nat) :
    Same { store := true, leases := true } s (State.freeParts s w) := by
  unfold State.freeParts
  dsimp only
  refine Same.foldl ?_ ?_
  refine Same.update ?_
  exact Same.refl _ _
  intro _ _
  refine (State.freePlace_same ..).then rfl ?_
  exact Same.refl _ _

theorem State.dropParts_same (s : State) (w : Window) :
    Same { maps := true, store := true, leases := true } s (State.dropParts s w) := by
  unfold State.dropParts
  refine (State.modWindow_same ..).then rfl ?_
  refine (State.freeParts_same ..).then rfl ?_
  exact Same.refl _ _

theorem State.connError_same (s : State) (qpn : Nat) :
    Same { net := true, maps := true, eng := true, sch := true, pwr := true } s (State.connError s qpn) := by
  unfold State.connError
  dsimp only
  split
  exact Same.refl _ _
  split
  exact Same.refl _ _
  exact Same.refl _ _
  refine Same.update ?_
  refine Same.ite ?_ ?_
  refine Same.update ?_
  refine (State.modQp_same ..).then rfl ?_
  exact Same.refl _ _
  refine (State.stir_same ..).then rfl ?_
  refine Same.update ?_
  refine (State.modQp_same ..).then rfl ?_
  exact Same.refl _ _

theorem State.nakError_same (s : State) (qpn : Nat) (psn : Nat) (syndrome : Nat) :
    Same { net := true, maps := true, eng := true, sch := true, pwr := true } s (State.nakError s qpn psn syndrome)
        := by
  unfold State.nakError
  refine (State.connError_same ..).then rfl ?_
  refine (State.control_same ..).then rfl ?_
  exact Same.refl _ _

theorem State.restoreRange_same (s : State) (q : Seq) (layer : Nat) (layers : Nat) (head : Nat) (block : Nat) (count
    : Nat) :
    Same { net := true, maps := true, eng := true, sch := true } s (State.restoreRange s q layer layers head block
        count) := by
  unfold State.restoreRange
  refine (State.queueRecords_same ..).then rfl ?_
  exact Same.refl _ _

theorem State.restoreReq_same (s : State) (q : Seq) (layer : Nat) (head : Nat) (block : Nat) :
    Same { rng := true, net := true, maps := true, eng := true, sch := true } s (State.restoreReq s q layer head
        block) := by
  unfold State.restoreReq
  dsimp only
  refine Same.ite ?_ ?_
  exact Same.refl _ _
  refine (State.restoreRange_same ..).then rfl ?_
  refine (State.refuseBlock_same ..).then rfl ?_
  exact Same.refl _ _

theorem State.restoreAll_same (s : State) (q : Seq) :
    Same { net := true, maps := true, eng := true, sch := true } s (State.restoreAll s q) := by
  unfold State.restoreAll
  dsimp only
  refine (State.restoreRange_same ..).then rfl ?_
  exact Same.refl _ _

theorem State.stopFrame_same (s : State) (frame : Nat) :
    Same { store := true } s (State.stopFrame s frame) := by
  unfold State.stopFrame
  dsimp only
  refine Same.ite ?_ ?_
  exact Same.refl _ _
  refine Same.update ?_
  exact Same.refl _ _

theorem State.recordFrame_same (s : State) (frame : Nat) :
    Same { farrier := true } s (State.recordFrame s frame) := by
  unfold State.recordFrame
  dsimp only
  refine Same.ite ?_ ?_
  refine Same.update ?_
  exact Same.refl _ _
  exact Same.refl _ _

theorem State.endNamerRefusals_same (s : State) (n : Nat) :
    Same { maps := true } s (State.endNamerRefusals s n) := by
  unfold State.endNamerRefusals
  refine Same.foldl ?_ ?_
  exact Same.refl _ _
  intro _ _
  refine (State.endRefusals_same ..).then rfl ?_
  exact Same.refl _ _

theorem State.resealNamers_same (s : State) (n : Nat) :
    Same { pads := true, store := true, eng := true } s (State.resealNamers s n) := by
  unfold State.resealNamers
  refine Same.foldl ?_ ?_
  exact Same.refl _ _
  intro _ _
  refine (State.reseal_same ..).then rfl ?_
  exact Same.refl _ _

theorem State.relocateBlock_same (s : State) (b : Block) :
    Same { out := true, rng := true, regs := true, host := true, log := true, pads := true, net := true, maps :=
           true, store := true, eng := true, sch := true, leases := true } s (State.relocateBlock s b) := by
  unfold State.relocateBlock
  split
  exact Same.refl _ _
  refine Same.ite ?_ ?_
  exact Same.refl _ _
  refine Same.ite ?_ ?_
  refine (State.restoreReq_same ..).then rfl ?_
  refine (State.note_same ..).then rfl ?_
  refine (State.resealNamers_same ..).then rfl ?_
  refine (State.modBlock_same ..).then rfl ?_
  exact Same.refl _ _
  split
  exact Same.refl _ _
  refine (State.freeOld_same ..).then rfl ?_
  refine (State.resealNamers_same ..).then rfl ?_
  refine (State.modBlock_same ..).then rfl ?_
  rename_i h15
  refine ((State.allocT1_same ..).of _ h15).then rfl ?_
  exact Same.refl _ _

theorem State.relocateTail_same (s : State) (q : Seq) (e : Entry) (x : TailSlot) :
    Same { out := true, rng := true, regs := true, host := true, log := true, pads := true, net := true, maps :=
           true, store := true, eng := true, sch := true, leases := true } s (State.relocateTail s q e x) := by
  unfold State.relocateTail
  refine Same.ite ?_ ?_
  exact Same.refl _ _
  refine Same.ite ?_ ?_
  refine (State.restoreReq_same ..).then rfl ?_
  refine (State.note_same ..).then rfl ?_
  refine (State.reseal_same ..).then rfl ?_
  refine (State.modSeq_same ..).then rfl ?_
  exact Same.refl _ _
  split
  exact Same.refl _ _
  refine (State.freeOld_same ..).then rfl ?_
  refine (State.reseal_same ..).then rfl ?_
  refine (State.modSeq_same ..).then rfl ?_
  rename_i h13
  refine ((State.allocT1_same ..).of _ h13).then rfl ?_
  exact Same.refl _ _

theorem State.losePages_same (s : State) (q : Seq) (pages : List Nat) (address : Nat) :
    Same { out := true, rng := true, regs := true, host := true, log := true, pads := true, net := true, maps :=
           true, store := true, eng := true, sch := true } s (State.losePages s q pages address) := by
  unfold State.losePages
  dsimp only
  refine Same.foldl ?_ ?_
  refine (State.note_same ..).then rfl ?_
  refine Same.ite ?_ ?_
  refine (State.resealL1_same ..).then rfl ?_
  refine (State.modSeq_same ..).then rfl ?_
  refine (State.ktbInvalidate_same ..).then rfl ?_
  exact Same.refl _ _
  refine (State.modSeq_same ..).then rfl ?_
  refine (State.ktbInvalidate_same ..).then rfl ?_
  exact Same.refl _ _
  intro _ _
  refine (State.restoreReq_same ..).then rfl ?_
  exact Same.refl _ _

theorem State.loseSeq_same (s : State) (q : Seq) (address : Nat) :
    Same { out := true, regs := true, host := true, log := true, pads := true, net := true, maps := true, store :=
           true, eng := true, sch := true } s (State.loseSeq s q address) := by
  unfold State.loseSeq
  dsimp only
  refine Same.ite ?_ ?_
  exact Same.refl _ _
  refine (State.restoreAll_same ..).then rfl ?_
  refine (State.note_same ..).then rfl ?_
  refine (State.resealDescPage_same ..).then rfl ?_
  refine (State.modSeq_same ..).then rfl ?_
  exact Same.refl _ _

theorem State.moveMeta_same (s : State) (q : Seq) (bytes : Nat) (align : Nat) (put : Nat → Seq → Seq) :
    Same { rng := true, store := true } s (State.moveMeta s q bytes align put) := by
  unfold State.moveMeta
  split
  exact Same.refl _ _
  refine (State.modSeq_same ..).then rfl ?_
  rename_i h3
  refine ((State.allocMeta_same ..).of _ h3).then rfl ?_
  exact Same.refl _ _

theorem State.moveTable_same (s : State) (q : Seq) (i : Nat) (bytes : Nat) (align : Nat) (hit : Bool) :
    Same { rng := true, store := true } s (State.moveTable s q i bytes align hit) := by
  unfold State.moveTable
  dsimp only
  refine Same.ite ?_ ?_
  refine (State.moveMeta_same ..).then rfl ?_
  exact Same.refl _ _
  exact Same.refl _ _

theorem State.relocateMeta_same (s : State) (q : Seq) (frame : Nat) :
    Same { out := true, rng := true, regs := true, host := true, log := true, pads := true, net := true, maps :=
           true, store := true, eng := true, sch := true } s (State.relocateMeta s q frame) := by
  unfold State.relocateMeta
  dsimp only
  refine Same.ite ?_ ?_
  exact Same.refl _ _
  refine Same.ite ?_ ?_
  refine (State.resealL1_same ..).then rfl ?_
  refine Same.ite ?_ ?_
  refine (State.ktbInvalidate_same ..).then rfl ?_
  refine (State.moveTable_same ..).then rfl ?_
  refine (State.moveTable_same ..).then rfl ?_
  refine (State.moveTable_same ..).then rfl ?_
  refine Same.ite ?_ ?_
  refine (State.loseSeq_same ..).then rfl ?_
  refine Same.foldl ?_ ?_
  refine (State.moveTable_same ..).then rfl ?_
  refine Same.foldl ?_ ?_
  exact Same.refl _ _
  intro _ _
  refine (State.losePages_same ..).then rfl ?_
  exact Same.refl _ _
  intro _ _
  refine Same.ite ?_ ?_
  exact Same.refl _ _
  refine Same.ite ?_ ?_
  refine (State.losePages_same ..).then rfl ?_
  exact Same.refl _ _
  refine (State.moveMeta_same ..).then rfl ?_
  exact Same.refl _ _
  refine Same.foldl ?_ ?_
  refine (State.moveTable_same ..).then rfl ?_
  refine Same.foldl ?_ ?_
  exact Same.refl _ _
  intro _ _
  refine (State.losePages_same ..).then rfl ?_
  exact Same.refl _ _
  intro _ _
  refine Same.ite ?_ ?_
  exact Same.refl _ _
  refine Same.ite ?_ ?_
  refine (State.losePages_same ..).then rfl ?_
  exact Same.refl _ _
  refine (State.moveMeta_same ..).then rfl ?_
  exact Same.refl _ _
  refine (State.moveTable_same ..).then rfl ?_
  refine (State.moveTable_same ..).then rfl ?_
  refine (State.moveTable_same ..).then rfl ?_
  refine Same.ite ?_ ?_
  refine (State.loseSeq_same ..).then rfl ?_
  refine Same.foldl ?_ ?_
  refine (State.moveTable_same ..).then rfl ?_
  refine Same.foldl ?_ ?_
  exact Same.refl _ _
  intro _ _
  refine (State.losePages_same ..).then rfl ?_
  exact Same.refl _ _
  intro _ _
  refine Same.ite ?_ ?_
  exact Same.refl _ _
  refine Same.ite ?_ ?_
  refine (State.losePages_same ..).then rfl ?_
  exact Same.refl _ _
  refine (State.moveMeta_same ..).then rfl ?_
  exact Same.refl _ _
  refine Same.foldl ?_ ?_
  refine (State.moveTable_same ..).then rfl ?_
  refine Same.foldl ?_ ?_
  exact Same.refl _ _
  intro _ _
  refine (State.losePages_same ..).then rfl ?_
  exact Same.refl _ _
  intro _ _
  refine Same.ite ?_ ?_
  exact Same.refl _ _
  refine Same.ite ?_ ?_
  refine (State.losePages_same ..).then rfl ?_
  exact Same.refl _ _
  refine (State.moveMeta_same ..).then rfl ?_
  exact Same.refl _ _
  refine Same.ite ?_ ?_
  refine (State.ktbInvalidate_same ..).then rfl ?_
  refine (State.moveTable_same ..).then rfl ?_
  refine (State.moveTable_same ..).then rfl ?_
  refine (State.moveTable_same ..).then rfl ?_
  refine Same.ite ?_ ?_
  refine (State.loseSeq_same ..).then rfl ?_
  refine Same.foldl ?_ ?_
  refine (State.moveTable_same ..).then rfl ?_
  refine Same.foldl ?_ ?_
  exact Same.refl _ _
  intro _ _
  refine (State.losePages_same ..).then rfl ?_
  exact Same.refl _ _
  intro _ _
  refine Same.ite ?_ ?_
  exact Same.refl _ _
  refine Same.ite ?_ ?_
  refine (State.losePages_same ..).then rfl ?_
  exact Same.refl _ _
  refine (State.moveMeta_same ..).then rfl ?_
  exact Same.refl _ _
  refine Same.foldl ?_ ?_
  refine (State.moveTable_same ..).then rfl ?_
  refine Same.foldl ?_ ?_
  exact Same.refl _ _
  intro _ _
  refine (State.losePages_same ..).then rfl ?_
  exact Same.refl _ _
  intro _ _
  refine Same.ite ?_ ?_
  exact Same.refl _ _
  refine Same.ite ?_ ?_
  refine (State.losePages_same ..).then rfl ?_
  exact Same.refl _ _
  refine (State.moveMeta_same ..).then rfl ?_
  exact Same.refl _ _
  refine (State.moveTable_same ..).then rfl ?_
  refine (State.moveTable_same ..).then rfl ?_
  refine (State.moveTable_same ..).then rfl ?_
  refine Same.ite ?_ ?_
  refine (State.loseSeq_same ..).then rfl ?_
  refine Same.foldl ?_ ?_
  refine (State.moveTable_same ..).then rfl ?_
  refine Same.foldl ?_ ?_
  exact Same.refl _ _
  intro _ _
  refine (State.losePages_same ..).then rfl ?_
  exact Same.refl _ _
  intro _ _
  refine Same.ite ?_ ?_
  exact Same.refl _ _
  refine Same.ite ?_ ?_
  refine (State.losePages_same ..).then rfl ?_
  exact Same.refl _ _
  refine (State.moveMeta_same ..).then rfl ?_
  exact Same.refl _ _
  refine Same.foldl ?_ ?_
  refine (State.moveTable_same ..).then rfl ?_
  refine Same.foldl ?_ ?_
  exact Same.refl _ _
  intro _ _
  refine (State.losePages_same ..).then rfl ?_
  exact Same.refl _ _
  intro _ _
  refine Same.ite ?_ ?_
  exact Same.refl _ _
  refine Same.ite ?_ ?_
  refine (State.losePages_same ..).then rfl ?_
  exact Same.refl _ _
  refine (State.moveMeta_same ..).then rfl ?_
  exact Same.refl _ _

theorem State.relocateFrame_same (s : State) (frame : Nat) :
    Same { out := true, rng := true, regs := true, host := true, log := true, pads := true, net := true, maps :=
           true, store := true, eng := true, sch := true, leases := true } s (State.relocateFrame s frame) := by
  unfold State.relocateFrame
  dsimp only
  refine Same.foldl ?_ ?_
  refine Same.foldl ?_ ?_
  refine Same.foldl ?_ ?_
  exact Same.refl _ _
  intro _ _
  refine (State.relocateBlock_same ..).then rfl ?_
  exact Same.refl _ _
  intro _ _
  refine Same.foldl ?_ ?_
  exact Same.refl _ _
  intro _ _
  split
  refine Same.ite ?_ ?_
  refine (State.relocateTail_same ..).then rfl ?_
  exact Same.refl _ _
  exact Same.refl _ _
  exact Same.refl _ _
  intro _ _
  refine (State.relocateMeta_same ..).then rfl ?_
  exact Same.refl _ _

theorem State.retireFrame_same (s : State) (frame : Nat) :
    Same { out := true, rng := true, farrier := true, regs := true, host := true, log := true, pads := true, net :=
           true, maps := true, store := true, eng := true, sch := true, leases := true } s (State.retireFrame s
           frame) := by
  unfold State.retireFrame
  refine (State.recordFrame_same ..).then rfl ?_
  refine (State.relocateFrame_same ..).then rfl ?_
  refine (State.stopFrame_same ..).then rfl ?_
  exact Same.refl _ _

theorem State.retireRest_same (s : State) :
    Same { out := true, rng := true, farrier := true, regs := true, host := true, log := true, pads := true, net :=
           true, maps := true, store := true, eng := true, sch := true, leases := true } s (State.retireRest s) := by
  unfold State.retireRest
  refine Same.foldl ?_ ?_
  exact Same.refl _ _
  intro _ _
  refine (State.retireFrame_same ..).then rfl ?_
  exact Same.refl _ _

theorem State.poisonFrame_same (s : State) (frame : Nat) (line : Nat) (n : Nat) :
    Same { store := true } s (State.poisonFrame s frame line n) := by
  unfold State.poisonFrame
  dsimp only
  refine Same.ite ?_ ?_
  refine Same.update ?_
  exact Same.refl _ _
  exact Same.refl _ _

theorem State.eccDomain_same (s : State) (paddock : Nat) (unit : Nat) (frame : Nat) :
    Same { out := true, rng := true, farrier := true, regs := true, host := true, log := true, pads := true, net :=
           true, maps := true, store := true, eng := true, sch := true, leases := true } s (State.eccDomain s paddock
           unit frame) := by
  unfold State.eccDomain
  split
  exact Same.refl _ _
  refine (State.retireFrame_same ..).then rfl ?_
  refine (State.poisonFrame_same ..).then rfl ?_
  refine (State.note_same ..).then rfl ?_
  exact Same.refl _ _

theorem State.markLost_same (s : State) (d : Nat) (layer : Nat) (head : Nat) (block : Nat) :
    Same { out := true, rng := true, farrier := true, regs := true, host := true, log := true, pads := true, net :=
           true, maps := true, store := true, eng := true, sch := true, leases := true } s (State.markLost s d layer
           head block) := by
  unfold State.markLost
  dsimp only
  split
  exact Same.refl _ _
  split
  exact Same.refl _ _
  refine (State.restoreReq_same ..).then rfl ?_
  refine Same.ite ?_ ?_
  refine (State.note_same ..).then rfl ?_
  split
  refine (State.reseal_same ..).then rfl ?_
  split
  refine (State.modSeq_same ..).then rfl ?_
  exact Same.refl _ _
  refine (State.modBlock_same ..).then rfl ?_
  exact Same.refl _ _
  refine (State.resealNamers_same ..).then rfl ?_
  split
  refine (State.modSeq_same ..).then rfl ?_
  exact Same.refl _ _
  refine (State.modBlock_same ..).then rfl ?_
  exact Same.refl _ _
  refine (State.retireFrame_same ..).then rfl ?_
  refine (State.note_same ..).then rfl ?_
  split
  refine (State.reseal_same ..).then rfl ?_
  split
  refine (State.modSeq_same ..).then rfl ?_
  exact Same.refl _ _
  refine (State.modBlock_same ..).then rfl ?_
  exact Same.refl _ _
  refine (State.resealNamers_same ..).then rfl ?_
  split
  refine (State.modSeq_same ..).then rfl ?_
  exact Same.refl _ _
  refine (State.modBlock_same ..).then rfl ?_
  exact Same.refl _ _

theorem State.verify_same (s : State) (d : Nat) (at_ : List (Nat × Nat × Nat)) :
    Same { out := true, rng := true, farrier := true, regs := true, host := true, log := true, pads := true, net :=
           true, maps := true, store := true, eng := true, sch := true, leases := true } s (State.verify s d at_) :=
           by
  unfold State.verify
  refine Same.foldl ?_ ?_
  exact Same.refl _ _
  intro _ _
  split
  exact Same.refl _ _
  split
  exact Same.refl _ _
  refine Same.ite ?_ ?_
  exact Same.refl _ _
  refine (State.markLost_same ..).then rfl ?_
  exact Same.refl _ _

theorem State.loseFrameOf_same (s : State) (address : Nat) :
    Same { out := true, rng := true, farrier := true, regs := true, host := true, log := true, pads := true, net :=
           true, maps := true, store := true, eng := true, sch := true, leases := true } s (State.loseFrameOf s
           address) := by
  unfold State.loseFrameOf
  dsimp only
  refine (State.retireFrame_same ..).then rfl ?_
  refine Same.ite ?_ ?_
  refine (State.eccDomain_same ..).then rfl ?_
  exact Same.refl _ _
  exact Same.refl _ _

theorem State.markPageLost_same (s : State) (d : Nat) (page : Nat) :
    Same { out := true, rng := true, farrier := true, regs := true, host := true, log := true, pads := true, net :=
           true, maps := true, store := true, eng := true, sch := true, leases := true } s (State.markPageLost s d
           page) := by
  unfold State.markPageLost
  dsimp only
  split
  exact Same.refl _ _
  refine (State.loseFrameOf_same ..).then rfl ?_
  refine (State.losePages_same ..).then rfl ?_
  exact Same.refl _ _

theorem State.markL1Lost_same (s : State) (d : Nat) (n : Nat) :
    Same { out := true, rng := true, farrier := true, regs := true, host := true, log := true, pads := true, net :=
           true, maps := true, store := true, eng := true, sch := true, leases := true } s (State.markL1Lost s d n)
           := by
  unfold State.markL1Lost
  dsimp only
  split
  exact Same.refl _ _
  refine (State.loseFrameOf_same ..).then rfl ?_
  refine (State.losePages_same ..).then rfl ?_
  refine (State.modSeq_same ..).then rfl ?_
  exact Same.refl _ _

theorem State.fetchChecks_same (s : State) (d : Nat) :
    Same { out := true, rng := true, farrier := true, regs := true, host := true, log := true, pads := true, net :=
           true, maps := true, store := true, eng := true, sch := true, leases := true } s (State.fetchChecks s d) :=
           by
  unfold State.fetchChecks
  dsimp only
  split
  exact Same.refl _ _
  refine Same.ite ?_ ?_
  refine (State.loseFrameOf_same ..).then rfl ?_
  refine Same.foldl ?_ ?_
  exact Same.refl _ _
  intro _ _
  refine (State.loseSeq_same ..).then rfl ?_
  exact Same.refl _ _
  refine Same.ite ?_ ?_
  refine (State.loseFrameOf_same ..).then rfl ?_
  refine (State.loseSeq_same ..).then rfl ?_
  exact Same.refl _ _
  refine Same.ite ?_ ?_
  refine (State.loseFrameOf_same ..).then rfl ?_
  refine (State.loseSeq_same ..).then rfl ?_
  exact Same.refl _ _
  exact Same.refl _ _

theorem State.refault_same (t : State) (s : State) :
    Same { maps := true } t (State.refault t s) := by
  unfold State.refault
  dsimp only
  refine Same.ite ?_ ?_
  exact Same.refl _ _
  refine Same.update ?_
  exact Same.refl _ _

theorem State.finish_same {m : Mask} {s t u : State} (maps : m.maps = true) (h : Same m s u) :
    OutSame m s (State.finish t u) := by
  refine OutSame.next (h.trans ?_)
  exact (State.refault_same u t).mono (by simp [Mask.le, maps])

end Sys2Proof.Machine
end

