-- ==== Sys2Proof/Laws/FrameEngine.lean ====
section
/-! SUPPORT. Frames of cache requests, steps, clusters and schedulers. -/

set_option Elab.async false

namespace Sys2Proof.Machine

theorem State.useDescriptor_same (s : State) (q : Seq) :
    Same { out := true, rng := true, farrier := true, regs := true, host := true, log := true, pads := true, net :=
           true, maps := true, store := true, eng := true, sch := true, leases := true } s (State.useDescriptor s q)
           := by
  unfold State.useDescriptor
  dsimp only
  refine Same.foldl ?_ ?_
  exact Same.refl _ _
  intro _ _
  refine Same.update ?_
  refine Same.ite ?_ ?_
  exact Same.refl _ _
  refine (State.fetchChecks_same ..).then rfl ?_
  exact Same.refl _ _

theorem State.fetchDescriptor_same (s : State) (qp : Option Qp) (r : Req) :
    Same { out := true, rng := true, farrier := true, regs := true, host := true, log := true, pads := true, net :=
           true, maps := true, store := true, eng := true, sch := true, leases := true } s (State.fetchDescriptor s
           qp r) := by
  unfold State.fetchDescriptor
  dsimp only
  split
  exact Same.refl _ _
  refine (State.useDescriptor_same ..).then rfl ?_
  exact Same.refl _ _

theorem State.roomy_same (s : State) :
    Same { img := true } s (State.roomy s) := by
  unfold State.roomy
  dsimp only
  refine Same.update ?_
  exact Same.refl _ _

theorem State.tryAppendOn_same (s : State) (q : Seq) (pos : Nat) (tokens : Nat) (layers : List (Nat × List Bytes))
    (hs : List Nat) :
    OkSame { out := true, rng := true, regs := true, host := true, log := true, pads := true, maps := true, store :=
             true, eng := true, leases := true } s id (State.tryAppendOn s q pos tokens layers hs) := by
  unfold State.tryAppendOn
  split
  exact OkSame.error
  unfold liftRefused
  split
  apply OkSame.ok
  dsimp only [id]
  rename_i h6
  refine ((State.fits_same ..).of _ h6).then rfl ?_
  refine (State.recordHashes_same ..).then rfl ?_
  rename_i h8 _ _
  refine OkSame.of (g := id) ?_ _ h8
  unfold liftWrite
  split
  apply OkSame.ok
  dsimp only [id]
  rename_i h13
  refine OkSame.of (g := id) ?_ _ h13
  split
  apply OkSame.ok
  dsimp only [id]
  exact Same.refl _ _
  refine (State.applyAppend_same ..).via rfl ?_
  exact Same.refl _ _
  split
  exact OkSame.error
  unfold refuse
  exact OkSame.error
  split
  exact OkSame.error
  unfold refuse
  exact OkSame.error

theorem State.tryAppend_same (s : State) (q : Seq) (pos : Nat) (tokens : Nat) (layers : List (Nat × List Bytes)) (hs
    : List Nat) :
    OkSame { out := true, rng := true, img := true, regs := true, host := true, log := true, pads := true, maps :=
             true, store := true, eng := true, leases := true } s id (State.tryAppend s q pos tokens layers hs) := by
  unfold State.tryAppend
  split
  apply OkSame.ok
  dsimp only [id]
  exact Same.refl _ _
  unfold quotaFirst
  split
  apply OkSame.ok
  dsimp only [id]
  rename_i h8
  refine ((State.tryAppendOn_same ..).of _ h8).then rfl ?_
  exact Same.refl _ _
  split
  split
  exact OkSame.error
  exact OkSame.error
  exact OkSame.error

theorem State.freeQpn_same (s : State) :
    Same { rng := true } s (State.freeQpn s).2 := by
  unfold State.freeQpn
  dsimp only
  refine (State.choose_same ..).then rfl ?_
  exact Same.refl _ _

theorem State.sendConnect_same (s : State) (link : Nat) (target : Bytes) (dest : Nat) (body : Bytes) :
    Same { sch := true } s (State.sendConnect s link target dest body) := by
  unfold State.sendConnect
  refine (State.egress_same ..).then rfl ?_
  exact Same.refl _ _

theorem State.startConnect_same (s : State) (partner : Nat) (paddock : Nat) (key : Bytes) (stream : Option Nat) :
    Same { rng := true, net := true, sch := true } s (State.startConnect s partner paddock key stream) := by
  unfold State.startConnect
  dsimp only
  split
  rename_i h1
  refine (Same.of_snd (State.freeQpn_same ..) h1).then rfl ?_
  exact Same.refl _ _
  refine (State.sendConnect_same ..).then rfl ?_
  refine Same.update ?_
  refine (State.choose_same ..).then rfl ?_
  refine (State.drawNat_same ..).then rfl ?_
  refine (State.drawNat_same ..).then rfl ?_
  refine (State.draw_same ..).then rfl ?_
  rename_i h9
  refine (Same.of_snd (State.freeQpn_same ..) h9).then rfl ?_
  exact Same.refl _ _

theorem State.connectStream_same (s : State) (i : Nat) :
    Same { rng := true, net := true, sch := true } s (State.connectStream s i) := by
  unfold State.connectStream
  split
  exact Same.refl _ _
  refine Same.ite ?_ ?_
  exact Same.refl _ _
  refine (State.startConnect_same ..).then rfl ?_
  exact Same.refl _ _

theorem State.reconnect_same (s : State) :
    Same { rng := true, net := true, sch := true } s (State.reconnect s) := by
  unfold State.reconnect
  refine Same.foldl ?_ ?_
  exact Same.refl _ _
  intro _ _
  refine (State.connectStream_same ..).then rfl ?_
  exact Same.refl _ _

theorem State.dropStaging_same (s : State) (qpn : Nat) :
    Same { maps := true } s (State.dropStaging s qpn) := by
  unfold State.dropStaging
  dsimp only
  split
  exact Same.refl _ _
  refine Same.ite ?_ ?_
  exact Same.refl _ _
  refine Same.ite ?_ ?_
  refine Same.update ?_
  exact Same.refl _ _
  refine Same.update ?_
  exact Same.refl _ _

theorem State.failConn_same (s : State) (qpn : Nat) :
    Same { rng := true, net := true, maps := true, eng := true, sch := true, pwr := true } s (State.failConn s qpn)
        := by
  unfold State.failConn
  refine (State.reconnect_same ..).then rfl ?_
  refine (State.dropStaging_same ..).then rfl ?_
  refine (State.connError_same ..).then rfl ?_
  exact Same.refl _ _

theorem State.nakFail_same (s : State) (qpn : Nat) (psn : Nat) (syndrome : Nat) :
    Same { rng := true, net := true, maps := true, eng := true, sch := true, pwr := true } s (State.nakFail s qpn psn
        syndrome) := by
  unfold State.nakFail
  refine (State.reconnect_same ..).then rfl ?_
  refine (State.dropStaging_same ..).then rfl ?_
  refine (State.nakError_same ..).then rfl ?_
  exact Same.refl _ _

theorem State.queueCommit_same (s : State) (partner : Nat) (paddock : Nat) (op : Nat) (records : List Bytes) :
    Same { rng := true, net := true, maps := true, eng := true, sch := true } s (State.queueCommit s partner paddock
        op records) := by
  unfold State.queueCommit
  dsimp only
  split
  refine (State.queueRecords_same ..).then rfl ?_
  exact Same.refl _ _
  refine (State.connectStream_same ..).then rfl ?_
  refine (State.queueRecords_same ..).then rfl ?_
  exact Same.refl _ _

theorem State.rlaRead_same (s : State) (qpn : Nat) (addr : Nat) (lines : Nat) (tag : Nat) :
    Same { net := true, sch := true } s (State.rlaRead s qpn addr lines tag) := by
  unfold State.rlaRead
  dsimp only
  split
  exact Same.refl _ _
  refine (State.sendMsg_same ..).then rfl ?_
  refine (State.modQp_same ..).then rfl ?_
  exact Same.refl _ _

theorem State.askFm_same (s : State) (addr : Nat) (lines : Nat) (tag : Nat) :
    Same { rng := true, net := true, sch := true } s (State.askFm s addr lines tag) := by
  unfold State.askFm
  split
  refine (State.rlaRead_same ..).then rfl ?_
  exact Same.refl _ _
  refine Same.ite ?_ ?_
  exact Same.refl _ _
  refine (State.startConnect_same ..).then rfl ?_
  exact Same.refl _ _

theorem State.fetchHeader_same (s : State) :
    Same { rng := true, net := true, maps := true, sch := true } s (State.fetchHeader s) := by
  unfold State.fetchHeader
  dsimp only
  refine Same.ite ?_ ?_
  exact Same.refl _ _
  refine (State.askFm_same ..).then rfl ?_
  refine Same.update ?_
  exact Same.refl _ _

theorem State.startResync_same (s : State) (partner : Nat) (q : Seq) :
    Same { out := true, rng := true, farrier := true, regs := true, host := true, log := true, pads := true, net :=
           true, maps := true, store := true, eng := true, sch := true, leases := true } s (State.startResync s
           partner q) := by
  unfold State.startResync
  dsimp only
  refine Same.ite ?_ ?_
  exact Same.refl _ _
  split
  refine (State.ensureStream_same ..).then rfl ?_
  refine (State.verify_same ..).then rfl ?_
  exact Same.refl _ _
  refine (State.queueCommit_same ..).then rfl ?_
  refine (State.modStream_same ..).then rfl ?_
  refine (State.ensureStream_same ..).then rfl ?_
  refine (State.verify_same ..).then rfl ?_
  exact Same.refl _ _

theorem State.answerReq_same (s : State) (r : Req) (slice : Nat) (status : Nat) (detail : Nat) (hint : Nat) (body :
    Bytes) :
    Same { net := true, sch := true } s (State.answerReq s r slice status detail hint body) := by
  unfold State.answerReq
  dsimp only
  refine (State.answer_same ..).then rfl ?_
  exact Same.refl _ _

theorem State.checkEffects_same (s : State) (r : Req) (e : CheckFail) :
    Same { out := true, rng := true, farrier := true, regs := true, host := true, log := true, pads := true, net :=
           true, maps := true, store := true, eng := true, sch := true, leases := true } s (State.checkEffects s r e)
           := by
  unfold State.checkEffects
  dsimp only
  refine Same.ite ?_ ?_
  refine (State.fetchHeader_same ..).then rfl ?_
  split
  refine Same.ite ?_ ?_
  refine (State.note_same ..).then rfl ?_
  refine Same.foldl ?_ ?_
  refine Same.foldl ?_ ?_
  exact Same.refl _ _
  intro _ _
  refine (State.markLost_same ..).then rfl ?_
  exact Same.refl _ _
  intro _ _
  split
  exact Same.refl _ _
  refine (State.restoreReq_same ..).then rfl ?_
  exact Same.refl _ _
  refine Same.foldl ?_ ?_
  refine Same.foldl ?_ ?_
  exact Same.refl _ _
  intro _ _
  refine (State.markLost_same ..).then rfl ?_
  exact Same.refl _ _
  intro _ _
  split
  exact Same.refl _ _
  refine (State.restoreReq_same ..).then rfl ?_
  exact Same.refl _ _
  refine (State.note_same ..).then rfl ?_
  refine (State.suspectUnit_same ..).then rfl ?_
  refine Same.ite ?_ ?_
  refine (State.note_same ..).then rfl ?_
  refine Same.foldl ?_ ?_
  refine Same.foldl ?_ ?_
  exact Same.refl _ _
  intro _ _
  refine (State.markLost_same ..).then rfl ?_
  exact Same.refl _ _
  intro _ _
  split
  exact Same.refl _ _
  refine (State.restoreReq_same ..).then rfl ?_
  exact Same.refl _ _
  refine Same.foldl ?_ ?_
  refine Same.foldl ?_ ?_
  exact Same.refl _ _
  intro _ _
  refine (State.markLost_same ..).then rfl ?_
  exact Same.refl _ _
  intro _ _
  split
  exact Same.refl _ _
  refine (State.restoreReq_same ..).then rfl ?_
  exact Same.refl _ _
  split
  refine Same.ite ?_ ?_
  refine (State.note_same ..).then rfl ?_
  refine Same.foldl ?_ ?_
  refine Same.foldl ?_ ?_
  exact Same.refl _ _
  intro _ _
  refine (State.markLost_same ..).then rfl ?_
  exact Same.refl _ _
  intro _ _
  split
  exact Same.refl _ _
  refine (State.restoreReq_same ..).then rfl ?_
  exact Same.refl _ _
  refine Same.foldl ?_ ?_
  refine Same.foldl ?_ ?_
  exact Same.refl _ _
  intro _ _
  refine (State.markLost_same ..).then rfl ?_
  exact Same.refl _ _
  intro _ _
  split
  exact Same.refl _ _
  refine (State.restoreReq_same ..).then rfl ?_
  exact Same.refl _ _
  refine (State.note_same ..).then rfl ?_
  refine (State.suspectUnit_same ..).then rfl ?_
  refine Same.ite ?_ ?_
  refine (State.note_same ..).then rfl ?_
  refine Same.foldl ?_ ?_
  refine Same.foldl ?_ ?_
  exact Same.refl _ _
  intro _ _
  refine (State.markLost_same ..).then rfl ?_
  exact Same.refl _ _
  intro _ _
  split
  exact Same.refl _ _
  refine (State.restoreReq_same ..).then rfl ?_
  exact Same.refl _ _
  refine Same.foldl ?_ ?_
  refine Same.foldl ?_ ?_
  exact Same.refl _ _
  intro _ _
  refine (State.markLost_same ..).then rfl ?_
  exact Same.refl _ _
  intro _ _
  split
  exact Same.refl _ _
  refine (State.restoreReq_same ..).then rfl ?_
  exact Same.refl _ _

theorem State.refuseReq_same (s : State) (r : Req) (e : CheckFail) :
    Same { out := true, rng := true, farrier := true, regs := true, host := true, log := true, pads := true, net :=
           true, maps := true, store := true, eng := true, sch := true, leases := true } s (State.refuseReq s r e) :=
           by
  unfold State.refuseReq
  refine (State.answerReq_same ..).then rfl ?_
  refine (State.checkEffects_same ..).then rfl ?_
  exact Same.refl _ _

theorem State.loadSlot_same (s : State) (keep : List (Nat × Nat × Nat)) (die : Nat) (paddock : Nat) (set : Nat)
    (layer : Nat) :
    Same { store := true } s (State.loadSlot s keep die paddock set layer) := by
  unfold State.loadSlot
  dsimp only
  refine Same.ite ?_ ?_
  exact Same.refl _ _
  split
  exact Same.refl _ _
  refine Same.update ?_
  exact Same.refl _ _

theorem State.loadLayer_same (s : State) (keep : List (Nat × Nat × Nat)) (slice : Nat) (paddock : Nat) (set : Nat)
    (layer : Nat) :
    Same { store := true } s (State.loadLayer s keep slice paddock set layer) := by
  unfold State.loadLayer
  split
  exact Same.refl _ _
  refine Same.foldl ?_ ?_
  exact Same.refl _ _
  intro _ _
  refine (State.loadSlot_same ..).then rfl ?_
  exact Same.refl _ _

theorem State.layerArrived_same (s : State) (paddock : Nat) (set : Nat) (layer : Nat) :
    Same { store := true } s (State.layerArrived s paddock set layer) := by
  unfold State.layerArrived
  dsimp only
  refine Same.update ?_
  exact Same.refl _ _

theorem State.useLayer_same (s : State) (slice : Nat) (paddock : Nat) (seq : Nat) (set : Nat) (layer : Nat) :
    Same { store := true } s (State.useLayer s slice paddock seq set layer) := by
  unfold State.useLayer
  dsimp only
  refine Same.foldl ?_ ?_
  refine Same.update ?_
  exact Same.refl _ _
  intro _ _
  refine (State.loadLayer_same ..).then rfl ?_
  exact Same.refl _ _

theorem State.queueOp_same (s : State) (o : Op) :
    Same { eng := true, sch := true } s (State.queueOp s o) := by
  unfold State.queueOp
  dsimp only
  refine (State.enqueue_same ..).then rfl ?_
  refine (State.modOp_same ..).then rfl ?_
  exact Same.refl _ _

theorem State.holdSeq_same (s : State) (r : Req) (p : Plan) :
    Same { maps := true, store := true } s (State.holdSeq s r p) := by
  unfold State.holdSeq
  dsimp only
  split
  exact Same.refl _ _
  split
  refine (State.modSeq_same ..).then rfl ?_
  exact Same.refl _ _
  refine Same.ite ?_ ?_
  refine (State.modSeq_same ..).then rfl ?_
  exact Same.refl _ _
  refine Same.ite ?_ ?_
  refine Same.update ?_
  refine (State.modSeq_same ..).then rfl ?_
  exact Same.refl _ _
  refine (State.modSeq_same ..).then rfl ?_
  refine (State.modSeq_same ..).then rfl ?_
  exact Same.refl _ _

theorem State.countStep_same (s : State) (slice : Nat) :
    Same { eng := true } s (State.countStep s slice) := by
  unfold State.countStep
  dsimp only
  refine Same.update ?_
  exact Same.refl _ _

theorem State.holdForWeights_same (s : State) (o : Op) :
    Same { store := true, eng := true } s (State.holdForWeights s o) := by
  unfold State.holdForWeights
  split
  refine (State.loadLayer_same ..).then rfl ?_
  refine (State.modOp_same ..).then rfl ?_
  exact Same.refl _ _
  exact Same.refl _ _

theorem State.acceptReq_same (s : State) (r : Req) (p : Plan) :
    Same { store := true, eng := true, sch := true } s (State.acceptReq s r p) := by
  unfold State.acceptReq
  dsimp only
  refine Same.ite ?_ ?_
  refine (State.holdForWeights_same ..).then rfl ?_
  split
  refine Same.update ?_
  exact Same.refl _ _
  refine (State.layerArrived_same ..).then rfl ?_
  refine Same.update ?_
  exact Same.refl _ _
  refine (State.queueOp_same ..).then rfl ?_
  split
  refine Same.update ?_
  exact Same.refl _ _
  refine (State.layerArrived_same ..).then rfl ?_
  refine Same.update ?_
  exact Same.refl _ _

theorem State.runReq_same (s : State) (r : Req) :
    Same { out := true, rng := true, farrier := true, regs := true, host := true, log := true, pads := true, net :=
           true, maps := true, store := true, eng := true, sch := true, leases := true } s (State.runReq s r) := by
  unfold State.runReq
  dsimp only
  split
  exact Same.refl _ _
  split
  refine (State.refuseReq_same ..).then rfl ?_
  refine (State.fetchDescriptor_same ..).then rfl ?_
  exact Same.refl _ _
  refine (State.acceptReq_same ..).then rfl ?_
  refine (State.fetchDescriptor_same ..).then rfl ?_
  exact Same.refl _ _

theorem State.parkReq_same (s : State) (r : Req) (phase : OpPhase) :
    Same { eng := true } s (State.parkReq s r phase) := by
  unfold State.parkReq
  dsimp only
  refine Same.update ?_
  exact Same.refl _ _

theorem State.considerReq_same (s : State) (r : Req) :
    Same { out := true, rng := true, farrier := true, regs := true, host := true, log := true, pads := true, net :=
           true, maps := true, store := true, eng := true, sch := true, leases := true } s (State.considerReq s r) :=
           by
  unfold State.considerReq
  refine Same.ite ?_ ?_
  refine (State.parkReq_same ..).then rfl ?_
  exact Same.refl _ _
  refine (State.runReq_same ..).then rfl ?_
  exact Same.refl _ _

theorem State.receiveCache_same (s : State) (m : Msg) (opcode : Nat) :
    Same { out := true, rng := true, farrier := true, regs := true, host := true, log := true, pads := true, net :=
           true, maps := true, store := true, eng := true, sch := true, leases := true, pwr := true } s
           (State.receiveCache s m opcode) := by
  unfold State.receiveCache
  dsimp only
  split
  exact Same.refl _ _
  split
  exact Same.refl _ _
  exact Same.refl _ _
  refine Same.ite ?_ ?_
  refine (State.nakFail_same ..).then rfl ?_
  exact Same.refl _ _
  refine Same.ite ?_ ?_
  refine (State.nakFail_same ..).then rfl ?_
  exact Same.refl _ _
  refine Same.ite ?_ ?_
  refine (State.considerReq_same ..).then rfl ?_
  exact Same.refl _ _
  refine (State.parkReq_same ..).then rfl ?_
  exact Same.refl _ _

theorem State.runHeldFuel_same (key : Nat × Nat) (x0 : Nat) (x1 : State) :
    Same { out := true, rng := true, farrier := true, regs := true, host := true, log := true, pads := true, net :=
           true, maps := true, store := true, eng := true, sch := true, leases := true } x1 (State.runHeldFuel key x0
           x1) := by
  induction x0 generalizing x1 with
  | zero => exact Same.refl _ _
  | succ n ih_runHeldFuel =>
    unfold State.runHeldFuel
    dsimp only
    refine Same.ite ?_ ?_
    exact Same.refl _ _
    split
    exact Same.refl _ _
    refine (ih_runHeldFuel ..).then rfl ?_
    refine (State.runReq_same ..).then rfl ?_
    refine Same.update ?_
    exact Same.refl _ _

theorem State.runHeld_same (s : State) :
    Same { out := true, rng := true, farrier := true, regs := true, host := true, log := true, pads := true, net :=
           true, maps := true, store := true, eng := true, sch := true, leases := true } s (State.runHeld s) := by
  unfold State.runHeld
  refine Same.foldl ?_ ?_
  exact Same.refl _ _
  intro _ _
  refine (State.runHeldFuel_same ..).then rfl ?_
  exact Same.refl _ _

theorem State.unref_same (s : State) (o : Op) :
    Same { store := true } s (State.unref s o) := by
  unfold State.unref
  split
  exact Same.refl _ _
  refine (State.modSeq_same ..).then rfl ?_
  exact Same.refl _ _

theorem State.returnCharge_same (s : State) (o : Op) :
    Same { sch := true } s (State.returnCharge s o) := by
  unfold State.returnCharge
  refine Same.ite ?_ ?_
  refine (State.modSched_same ..).then rfl ?_
  exact Same.refl _ _
  exact Same.refl _ _

theorem State.dropRemoved_same (s : State) :
    Same { store := true } s (State.dropRemoved s) := by
  unfold State.dropRemoved
  dsimp only
  refine Same.ite ?_ ?_
  exact Same.refl _ _
  refine Same.update ?_
  exact Same.refl _ _

theorem State.endOp_same (s : State) (o : Op) (status : Nat) (detail : Nat) (hint : Nat) (body : Bytes) :
    Same { out := true, rng := true, farrier := true, regs := true, host := true, log := true, pads := true, net :=
           true, maps := true, store := true, eng := true, sch := true, leases := true, pwr := true } s (State.endOp
           s o status detail hint body) := by
  unfold State.endOp
  dsimp only
  refine Same.ite ?_ ?_
  refine (State.runHeldFuel_same ..).then rfl ?_
  refine (State.dropRemoved_same ..).then rfl ?_
  refine Same.ite ?_ ?_
  refine (State.consume_same ..).then rfl ?_
  refine (State.stir_same ..).then rfl ?_
  refine Same.update ?_
  refine (State.dropHeld_same ..).then rfl ?_
  refine (State.unref_same ..).then rfl ?_
  refine (State.returnCharge_same ..).then rfl ?_
  exact Same.refl _ _
  refine (State.answerReq_same ..).then rfl ?_
  refine (State.stir_same ..).then rfl ?_
  refine Same.update ?_
  refine (State.dropHeld_same ..).then rfl ?_
  refine (State.unref_same ..).then rfl ?_
  refine (State.returnCharge_same ..).then rfl ?_
  exact Same.refl _ _
  refine (State.dropRemoved_same ..).then rfl ?_
  refine Same.ite ?_ ?_
  refine (State.consume_same ..).then rfl ?_
  refine (State.stir_same ..).then rfl ?_
  refine Same.update ?_
  refine (State.dropHeld_same ..).then rfl ?_
  refine (State.unref_same ..).then rfl ?_
  refine (State.returnCharge_same ..).then rfl ?_
  exact Same.refl _ _
  refine (State.answerReq_same ..).then rfl ?_
  refine (State.stir_same ..).then rfl ?_
  refine Same.update ?_
  refine (State.dropHeld_same ..).then rfl ?_
  refine (State.unref_same ..).then rfl ?_
  refine (State.returnCharge_same ..).then rfl ?_
  exact Same.refl _ _

theorem State.failOp_same (s : State) (o : Op) (status : Nat) (detail : Nat) (hint : Nat) :
    Same { out := true, rng := true, farrier := true, regs := true, host := true, log := true, pads := true, net :=
           true, maps := true, store := true, eng := true, sch := true, leases := true, pwr := true } s (State.failOp
           s o status detail hint) := by
  unfold State.failOp
  refine (State.endOp_same ..).then rfl ?_
  exact Same.refl _ _

theorem State.countOk_same (s : State) (o : Op) :
    Same { pads := true } s (State.countOk s o) := by
  unfold State.countOk
  dsimp only
  refine (State.tally_same ..).then rfl ?_
  refine (State.tally_same ..).then rfl ?_
  exact Same.refl _ _

theorem State.recordHint_same (s : State) (o : Op) :
    Same { store := true } s (State.recordHint s o) := by
  unfold State.recordHint
  dsimp only
  split
  refine Same.update ?_
  exact Same.refl _ _
  split
  refine Same.update ?_
  exact Same.refl _ _
  refine Same.ite ?_ ?_
  refine Same.update ?_
  exact Same.refl _ _
  split
  refine (State.useLayer_same ..).then rfl ?_
  refine Same.update ?_
  exact Same.refl _ _
  refine Same.foldl ?_ ?_
  refine Same.update ?_
  exact Same.refl _ _
  intro _ _
  refine (State.loadLayer_same ..).then rfl ?_
  exact Same.refl _ _

theorem State.reuseId_same (s : State) (p : Nat) (q : Nat) :
    Same { store := true } s (State.reuseId s p q) := by
  unfold State.reuseId
  dsimp only
  refine Same.update ?_
  exact Same.refl _ _

theorem State.applyEffect_same (s : State) (o : Op) :
    OkSame { out := true, rng := true, regs := true, host := true, log := true, pads := true, maps := true, store :=
             true, eng := true, leases := true } s id (State.applyEffect s o) := by
  unfold State.applyEffect
  dsimp only
  split
  apply OkSame.ok
  dsimp only [id]
  exact Same.refl _ _
  split
  exact OkSame.error
  apply OkSame.ok
  dsimp only [id]
  refine Same.ite ?_ ?_
  rename_i h9
  refine ((State.applyAppend_same ..).of _ h9).then rfl ?_
  exact Same.refl _ _
  refine (State.recordHashes_same ..).then rfl ?_
  rename_i h12
  refine ((State.applyAppend_same ..).of _ h12).then rfl ?_
  exact Same.refl _ _
  apply OkSame.ok
  dsimp only [id]
  refine (State.recordHashes_same ..).then rfl ?_
  exact Same.refl _ _
  split
  exact OkSame.error
  split
  exact OkSame.error
  apply OkSame.ok
  dsimp only [id]
  refine (State.reuseId_same ..).then rfl ?_
  refine (State.insertExact_same ..).then rfl ?_
  rename_i h26
  refine ((State.createSeq_same ..).of _ h26).then rfl ?_
  refine Same.ite ?_ ?_
  split
  exact Same.refl _ _
  refine (State.release_same ..).then rfl ?_
  exact Same.refl _ _
  exact Same.refl _ _
  split
  exact OkSame.error
  split
  exact OkSame.error
  apply OkSame.ok
  dsimp only [id]
  refine (State.reuseId_same ..).then rfl ?_
  refine (State.insertExact_same ..).then rfl ?_
  rename_i h41
  refine ((State.applyFork_same ..).of _ h41).then rfl ?_
  exact Same.refl _ _
  refine (State.applyTruncate_same ..).via rfl ?_
  exact Same.refl _ _
  apply OkSame.ok
  dsimp only [id]
  refine (State.startRelease_same ..).then rfl ?_
  exact Same.refl _ _

theorem State.finishOther_same (s : State) (pre : State) (o : Op) :
    Same { out := true, rng := true, farrier := true, regs := true, host := true, log := true, pads := true, net :=
           true, maps := true, store := true, eng := true, sch := true, leases := true, pwr := true } s
           (State.finishOther s pre o) := by
  unfold State.finishOther
  dsimp only
  split
  refine (State.endOp_same ..).then rfl ?_
  refine (State.countOk_same ..).then rfl ?_
  exact Same.refl _ _
  refine (State.endOp_same ..).then rfl ?_
  refine (State.recordHint_same ..).then rfl ?_
  refine (State.countOk_same ..).then rfl ?_
  exact Same.refl _ _
  refine (State.endOp_same ..).then rfl ?_
  refine (State.countOk_same ..).then rfl ?_
  exact Same.refl _ _

theorem State.admitOp_same (s : State) (o : Op) (p : Plan) :
    Same { out := true, rng := true, farrier := true, regs := true, host := true, log := true, pads := true, net :=
           true, maps := true, store := true, eng := true, sch := true, leases := true, pwr := true } s
           (State.admitOp s o p) := by
  unfold State.admitOp
  dsimp only
  split
  refine Same.ite ?_ ?_
  split
  refine Same.update ?_
  refine (State.modSched_same ..).then rfl ?_
  refine Same.ite ?_ ?_
  refine (State.countStep_same ..).then rfl ?_
  refine (State.holdSeq_same ..).then rfl ?_
  exact Same.refl _ _
  refine (State.holdSeq_same ..).then rfl ?_
  exact Same.refl _ _
  refine (State.useLayer_same ..).then rfl ?_
  refine Same.update ?_
  refine (State.modSched_same ..).then rfl ?_
  refine Same.ite ?_ ?_
  refine (State.countStep_same ..).then rfl ?_
  refine (State.holdSeq_same ..).then rfl ?_
  exact Same.refl _ _
  refine (State.holdSeq_same ..).then rfl ?_
  exact Same.refl _ _
  refine (State.finishOther_same ..).then rfl ?_
  split
  refine Same.update ?_
  refine (State.modSched_same ..).then rfl ?_
  refine Same.ite ?_ ?_
  refine (State.countStep_same ..).then rfl ?_
  refine (State.holdSeq_same ..).then rfl ?_
  exact Same.refl _ _
  refine (State.holdSeq_same ..).then rfl ?_
  exact Same.refl _ _
  refine (State.useLayer_same ..).then rfl ?_
  refine Same.update ?_
  refine (State.modSched_same ..).then rfl ?_
  refine Same.ite ?_ ?_
  refine (State.countStep_same ..).then rfl ?_
  refine (State.holdSeq_same ..).then rfl ?_
  exact Same.refl _ _
  refine (State.holdSeq_same ..).then rfl ?_
  exact Same.refl _ _
  refine (State.queueCommit_same ..).then rfl ?_
  split
  refine Same.update ?_
  refine (State.modSched_same ..).then rfl ?_
  refine Same.ite ?_ ?_
  refine (State.countStep_same ..).then rfl ?_
  refine (State.holdSeq_same ..).then rfl ?_
  exact Same.refl _ _
  refine (State.holdSeq_same ..).then rfl ?_
  exact Same.refl _ _
  refine (State.useLayer_same ..).then rfl ?_
  refine Same.update ?_
  refine (State.modSched_same ..).then rfl ?_
  refine Same.ite ?_ ?_
  refine (State.countStep_same ..).then rfl ?_
  refine (State.holdSeq_same ..).then rfl ?_
  exact Same.refl _ _
  refine (State.holdSeq_same ..).then rfl ?_
  exact Same.refl _ _

theorem State.releaseOp_same (s : State) (o : Op) :
    Same { out := true, rng := true, farrier := true, regs := true, host := true, log := true, pads := true, net :=
           true, maps := true, store := true, eng := true, sch := true, leases := true, pwr := true } s
           (State.releaseOp s o) := by
  unfold State.releaseOp
  dsimp only
  split
  refine (State.endOp_same ..).then rfl ?_
  refine (State.checkEffects_same ..).then rfl ?_
  refine (State.fetchDescriptor_same ..).then rfl ?_
  exact Same.refl _ _
  refine Same.ite ?_ ?_
  refine (State.holdForWeights_same ..).then rfl ?_
  refine (State.fetchDescriptor_same ..).then rfl ?_
  exact Same.refl _ _
  refine (State.admitOp_same ..).then rfl ?_
  refine (State.fetchDescriptor_same ..).then rfl ?_
  exact Same.refl _ _

theorem State.takeTurn_same (s : State) (slice : Nat) (cls : Nat) (paddock : Nat) (w : Work) (bytes : Nat) :
    Same { sch := true } s (State.takeTurn s slice cls paddock w bytes).1 := by
  unfold State.takeTurn
  dsimp only
  split
  dsimp only
  refine Same.update ?_
  exact Same.refl _ _
  split
  dsimp only
  refine Same.ite ?_ ?_
  exact Same.refl _ _
  refine (State.enqueue_same ..).then rfl ?_
  exact Same.refl _ _
  split
  split
  dsimp only
  refine (State.chargeBridle_same ..).then rfl ?_
  refine (State.putSched_same ..).then rfl ?_
  refine Same.ite ?_ ?_
  exact Same.refl _ _
  refine (State.enqueue_same ..).then rfl ?_
  exact Same.refl _ _
  dsimp only
  refine Same.ite ?_ ?_
  exact Same.refl _ _
  refine (State.enqueue_same ..).then rfl ?_
  exact Same.refl _ _
  dsimp only
  refine Same.ite ?_ ?_
  exact Same.refl _ _
  refine (State.enqueue_same ..).then rfl ?_
  exact Same.refl _ _

theorem State.dropWork_same (s : State) (p : Nat) :
    Same { sch := true } s (State.dropWork s p) := by
  unfold State.dropWork
  dsimp only
  refine Same.update ?_
  exact Same.refl _ _

theorem State.putUnit_same (s : State) (op : Nat) (index : Nat) (cs : List (Nat × Nat)) :
    Same { eng := true } s (State.putUnit s op index cs) := by
  unfold State.putUnit
  dsimp only
  refine Same.update ?_
  refine (State.modOp_same ..).then rfl ?_
  exact Same.refl _ _

theorem State.placeUnits_same (op : Nat) (x0 : List Nat) (x1 : State) :
    Same { eng := true } x1 (State.placeUnits op x0 x1).1 := by
  induction x0 generalizing x1 with
  | nil => exact Same.refl _ _
  | cons i is ih_placeUnits =>
    unfold State.placeUnits
    split
    dsimp only
    exact Same.refl _ _
    split
    refine (ih_placeUnits ..).then rfl ?_
    exact Same.refl _ _
    split
    refine (ih_placeUnits ..).then rfl ?_
    exact Same.refl _ _
    split
    dsimp only
    exact Same.refl _ _
    split
    dsimp only
    exact Same.refl _ _
    refine (ih_placeUnits ..).then rfl ?_
    refine (State.putUnit_same ..).then rfl ?_
    exact Same.refl _ _

theorem State.placeOps_same (x0 : List Nat) (x1 : List Nat) (x2 : List (Nat × Nat × Nat)) (x3 : State) :
    Same { eng := true } x3 (State.placeOps x0 x1 x2 x3) := by
  induction x0 generalizing x1 x2 x3 with
  | nil => exact Same.refl _ _
  | cons i is ih_placeOps =>
    unfold State.placeOps
    dsimp only
    split
    refine (ih_placeOps ..).then rfl ?_
    exact Same.refl _ _
    refine Same.ite ?_ ?_
    refine (ih_placeOps ..).then rfl ?_
    exact Same.refl _ _
    split
    refine (ih_placeOps ..).then rfl ?_
    refine (State.placeUnits_same ..).then rfl ?_
    exact Same.refl _ _
    refine (ih_placeOps ..).then rfl ?_
    refine (State.placeUnits_same ..).then rfl ?_
    exact Same.refl _ _
    refine (ih_placeOps ..).then rfl ?_
    refine (State.placeUnits_same ..).then rfl ?_
    exact Same.refl _ _

theorem State.place_same (s : State) :
    Same { eng := true } s (State.place s) := by
  unfold State.place
  refine (State.placeOps_same ..).then rfl ?_
  exact Same.refl _ _

theorem State.markIdle_same (s : State) :
    Same { eng := true } s (State.markIdle s) := by
  unfold State.markIdle
  dsimp only
  refine Same.update ?_
  exact Same.refl _ _

theorem State.dropAppend_same (s : State) (o : Op) :
    Same { maps := true, eng := true } s (State.dropAppend s o) := by
  unfold State.dropAppend
  dsimp only
  refine Same.ite ?_ ?_
  exact Same.refl _ _
  refine Same.ite ?_ ?_
  refine (State.modOp_same ..).then rfl ?_
  refine Same.update ?_
  exact Same.refl _ _
  refine (State.modOp_same ..).then rfl ?_
  exact Same.refl _ _

theorem State.breakStep_same (s : State) (op : Nat) (status : Nat) :
    Same { maps := true, store := true, eng := true } s (State.breakStep s op status) := by
  unfold State.breakStep
  split
  exact Same.refl _ _
  refine Same.ite ?_ ?_
  refine (State.markIdle_same ..).then rfl ?_
  refine (State.modOp_same ..).then rfl ?_
  refine (State.dropAppend_same ..).then rfl ?_
  refine (State.dropHeld_same ..).then rfl ?_
  exact Same.refl _ _
  exact Same.refl _ _

theorem State.breakSteps_same (s : State) (p : Op → Bool) (status : Nat) :
    Same { maps := true, store := true, eng := true } s (State.breakSteps s p status) := by
  unfold State.breakSteps
  dsimp only
  refine Same.foldl ?_ ?_
  exact Same.refl _ _
  intro _ _
  refine (State.breakStep_same ..).then rfl ?_
  exact Same.refl _ _

theorem State.modCluster_same (s : State) (die : Nat) (phys : Nat) (f : Cluster → Cluster) :
    Same { eng := true } s (State.modCluster s die phys f) := by
  unfold State.modCluster
  dsimp only
  refine Same.update ?_
  exact Same.refl _ _

theorem State.testSpare_same (s : State) (die : Nat) (logical : Nat) :
    Same { eng := true } s (State.testSpare s die logical) := by
  unfold State.testSpare
  dsimp only
  split
  exact Same.refl _ _
  refine (State.modCluster_same ..).then rfl ?_
  exact Same.refl _ _

theorem State.breakOn_same (s : State) (die : Nat) (logical : Nat) (p : Op → Bool) :
    Same { maps := true, store := true, eng := true } s (State.breakOn s die logical p) := by
  unfold State.breakOn
  refine (State.breakSteps_same ..).then rfl ?_
  exact Same.refl _ _

theorem State.retireCluster_same (s : State) (die : Nat) (phys : Nat) :
    Same { farrier := true, maps := true, store := true, eng := true } s (State.retireCluster s die phys) := by
  unfold State.retireCluster
  dsimp only
  split
  exact Same.refl _ _
  refine Same.ite ?_ ?_
  exact Same.refl _ _
  split
  split
  refine (State.breakOn_same ..).then rfl ?_
  refine Same.update ?_
  refine (State.modCluster_same ..).then rfl ?_
  exact Same.refl _ _
  refine (State.breakOn_same ..).then rfl ?_
  refine Same.update ?_
  refine (State.modCluster_same ..).then rfl ?_
  exact Same.refl _ _
  refine Same.update ?_
  refine (State.modCluster_same ..).then rfl ?_
  exact Same.refl _ _
  refine (State.testSpare_same ..).then rfl ?_
  split
  refine (State.breakOn_same ..).then rfl ?_
  refine Same.update ?_
  refine (State.modCluster_same ..).then rfl ?_
  exact Same.refl _ _
  refine (State.breakOn_same ..).then rfl ?_
  refine Same.update ?_
  refine (State.modCluster_same ..).then rfl ?_
  exact Same.refl _ _
  refine Same.update ?_
  refine (State.modCluster_same ..).then rfl ?_
  exact Same.refl _ _

theorem State.takeIds_same (s : State) (p : Cluster → Bool) :
    Same { eng := true } s (State.takeIds s p) := by
  unfold State.takeIds
  dsimp only
  refine Same.ite ?_ ?_
  refine Same.foldl ?_ ?_
  exact Same.refl _ _
  intro _ _
  split
  exact Same.refl _ _
  refine Same.ite ?_ ?_
  refine (State.modCluster_same ..).then rfl ?_
  exact Same.refl _ _
  refine (State.modCluster_same ..).then rfl ?_
  exact Same.refl _ _
  refine (State.place_same ..).then rfl ?_
  refine Same.foldl ?_ ?_
  exact Same.refl _ _
  intro _ _
  split
  exact Same.refl _ _
  refine Same.ite ?_ ?_
  refine (State.modCluster_same ..).then rfl ?_
  exact Same.refl _ _
  refine (State.modCluster_same ..).then rfl ?_
  exact Same.refl _ _

theorem State.settleDrains_same (s : State) :
    Same { eng := true } s (State.settleDrains s) := by
  unfold State.settleDrains
  dsimp only
  refine Same.foldl ?_ ?_
  exact Same.refl _ _
  intro _ _
  split
  refine Same.ite ?_ ?_
  exact Same.refl _ _
  split
  refine (State.modCluster_same ..).then rfl ?_
  refine (State.modCluster_same ..).then rfl ?_
  exact Same.refl _ _
  refine (State.modCluster_same ..).then rfl ?_
  exact Same.refl _ _
  exact Same.refl _ _

theorem State.afterUnits_same (s : State) :
    Same { eng := true } s (State.afterUnits s) := by
  unfold State.afterUnits
  refine (State.markIdle_same ..).then rfl ?_
  refine (State.place_same ..).then rfl ?_
  refine (State.settleDrains_same ..).then rfl ?_
  exact Same.refl _ _

theorem execStep_same (m : Msg) (s : State) :
    OutSame { out := true, rng := true, farrier := true, regs := true, host := true, log := true, pads := true, net
              := true, maps := true, store := true, eng := true, sch := true, leases := true, pwr := true } s
              (execStep m s) := by
  unfold execStep
  refine State.finish_same rfl ?_
  refine (State.receiveCache_same ..).then rfl ?_
  exact Same.refl _ _

theorem execAppend_same (m : Msg) (s : State) :
    OutSame { out := true, rng := true, farrier := true, regs := true, host := true, log := true, pads := true, net
              := true, maps := true, store := true, eng := true, sch := true, leases := true, pwr := true } s
              (execAppend m s) := by
  unfold execAppend
  refine State.finish_same rfl ?_
  refine (State.receiveCache_same ..).then rfl ?_
  exact Same.refl _ _

theorem execSeqCreate_same (m : Msg) (s : State) :
    OutSame { out := true, rng := true, farrier := true, regs := true, host := true, log := true, pads := true, net
              := true, maps := true, store := true, eng := true, sch := true, leases := true, pwr := true } s
              (execSeqCreate m s) := by
  unfold execSeqCreate
  refine State.finish_same rfl ?_
  refine (State.receiveCache_same ..).then rfl ?_
  exact Same.refl _ _

theorem execSeqFork_same (m : Msg) (s : State) :
    OutSame { out := true, rng := true, farrier := true, regs := true, host := true, log := true, pads := true, net
              := true, maps := true, store := true, eng := true, sch := true, leases := true, pwr := true } s
              (execSeqFork m s) := by
  unfold execSeqFork
  refine State.finish_same rfl ?_
  refine (State.receiveCache_same ..).then rfl ?_
  exact Same.refl _ _

theorem execSeqTruncate_same (m : Msg) (s : State) :
    OutSame { out := true, rng := true, farrier := true, regs := true, host := true, log := true, pads := true, net
              := true, maps := true, store := true, eng := true, sch := true, leases := true, pwr := true } s
              (execSeqTruncate m s) := by
  unfold execSeqTruncate
  refine State.finish_same rfl ?_
  refine (State.receiveCache_same ..).then rfl ?_
  exact Same.refl _ _

theorem execSeqRelease_same (m : Msg) (s : State) :
    OutSame { out := true, rng := true, farrier := true, regs := true, host := true, log := true, pads := true, net
              := true, maps := true, store := true, eng := true, sch := true, leases := true, pwr := true } s
              (execSeqRelease m s) := by
  unfold execSeqRelease
  refine State.finish_same rfl ?_
  refine (State.receiveCache_same ..).then rfl ?_
  exact Same.refl _ _

theorem execPrefixLookup_same (m : Msg) (s : State) :
    OutSame { out := true, rng := true, farrier := true, regs := true, host := true, log := true, pads := true, net
              := true, maps := true, store := true, eng := true, sch := true, leases := true, pwr := true } s
              (execPrefixLookup m s) := by
  unfold execPrefixLookup
  refine State.finish_same rfl ?_
  refine (State.receiveCache_same ..).then rfl ?_
  exact Same.refl _ _

theorem execSeqQuery_same (m : Msg) (s : State) :
    OutSame { out := true, rng := true, farrier := true, regs := true, host := true, log := true, pads := true, net
              := true, maps := true, store := true, eng := true, sch := true, leases := true, pwr := true } s
              (execSeqQuery m s) := by
  unfold execSeqQuery
  refine State.finish_same rfl ?_
  refine (State.receiveCache_same ..).then rfl ?_
  exact Same.refl _ _

theorem execPrefetch_same (m : Msg) (s : State) :
    OutSame { out := true, rng := true, farrier := true, regs := true, host := true, log := true, pads := true, net
              := true, maps := true, store := true, eng := true, sch := true, leases := true, pwr := true } s
              (execPrefetch m s) := by
  unfold execPrefetch
  refine State.finish_same rfl ?_
  refine (State.receiveCache_same ..).then rfl ?_
  exact Same.refl _ _

theorem State.walk_same (s : State) (k : Cluster) (e : KtbEntry) :
    SomeSame { eng := true } s id (State.walk s k e) := by
  unfold State.walk
  dsimp only
  split
  split
  apply SomeSame.some
  dsimp only [id]
  refine (State.modCluster_same ..).then rfl ?_
  exact Same.refl _ _
  apply SomeSame.some
  dsimp only [id]
  refine Same.update ?_
  refine (State.modCluster_same ..).then rfl ?_
  exact Same.refl _ _
  exact SomeSame.none

theorem State.modUnit_same (s : State) (op : Nat) (index : Nat) (f : WorkUnit → WorkUnit) :
    Same { eng := true } s (State.modUnit s op index f) := by
  unfold State.modUnit
  refine (State.modOp_same ..).then rfl ?_
  exact Same.refl _ _

theorem State.endReaders_same (s : State) (e : KtbEntry) (status : Nat) :
    Same { out := true, rng := true, farrier := true, regs := true, host := true, log := true, pads := true, net :=
           true, maps := true, store := true, eng := true, sch := true, leases := true } s (State.endReaders s e
           status) := by
  unfold State.endReaders
  dsimp only
  refine (State.afterUnits_same ..).then rfl ?_
  refine Same.ite ?_ ?_
  refine (State.markPageLost_same ..).then rfl ?_
  refine (State.breakSteps_same ..).then rfl ?_
  exact Same.refl _ _
  refine (State.breakSteps_same ..).then rfl ?_
  exact Same.refl _ _

theorem State.issueFor_same (s : State) (k : Cluster) (x : Op × StepWork × WorkUnit) :
    SomeSame { out := true, rng := true, farrier := true, regs := true, host := true, log := true, pads := true, net
               := true, maps := true, store := true, eng := true, sch := true, leases := true } s id (State.issueFor
               s k x) := by
  unfold State.issueFor
  dsimp only
  split
  exact SomeSame.none
  split
  exact SomeSame.none
  split
  exact SomeSame.none
  refine SomeSame.mapOf (h := id) ?_ ?_
  rotate_left
  intro _ _
  rotate_left
  refine (State.walk_same ..).via rfl ?_
  exact Same.refl _ _
  dsimp only [id]
  split
  refine (State.endReaders_same ..).then rfl ?_
  assumption
  refine Same.ite ?_ ?_
  refine (State.hold_same ..).then rfl ?_
  refine (State.modCluster_same ..).then rfl ?_
  refine (State.modUnit_same ..).then rfl ?_
  assumption
  refine (State.modCluster_same ..).then rfl ?_
  refine (State.modUnit_same ..).then rfl ?_
  assumption

theorem execOutriderReadIssue_same (die : Nat) (cluster : Nat) (s : State) :
    OutSame { out := true, rng := true, farrier := true, regs := true, host := true, log := true, pads := true, net
              := true, maps := true, store := true, eng := true, sch := true, leases := true } s
              (execOutriderReadIssue die cluster s) := by
  unfold execOutriderReadIssue
  dsimp only
  split
  apply OutSame.next
  exact Same.refl _ _
  split
  apply OutSame.next
  exact Same.refl _ _
  refine State.finish_same rfl ?_
  refine SomeSame.getD ?_ ?_
  refine SomeSame.findSome ?_
  intro _
  refine (State.issueFor_same ..).via rfl ?_
  exact Same.refl _ _
  exact Same.refl _ _

theorem State.fillKtb_same (s : State) (die : Nat) (e : KtbEntry) :
    Same { eng := true } s (State.fillKtb s die e) := by
  unfold State.fillKtb
  dsimp only
  refine Same.update ?_
  exact Same.refl _ _

theorem State.walkFill_same (s : State) (die : Nat) (q : Seq) (y : DirPage) (r : ReadOutcome) :
    Same { out := true, rng := true, farrier := true, regs := true, host := true, log := true, pads := true, net :=
           true, maps := true, store := true, eng := true, sch := true, leases := true } s (State.walkFill s die q y
           r) := by
  unfold State.walkFill
  dsimp only
  refine Same.ite ?_ ?_
  refine (State.endReaders_same ..).then rfl ?_
  exact Same.refl _ _
  refine Same.ite ?_ ?_
  refine (State.afterUnits_same ..).then rfl ?_
  refine (State.markL1Lost_same ..).then rfl ?_
  refine (State.breakSteps_same ..).then rfl ?_
  exact Same.refl _ _
  refine Same.ite ?_ ?_
  refine Same.foldl ?_ ?_
  exact Same.refl _ _
  intro _ _
  refine (State.fillKtb_same ..).then rfl ?_
  exact Same.refl _ _
  refine (State.endReaders_same ..).then rfl ?_
  refine Same.ite ?_ ?_
  refine (State.eccDomain_same ..).then rfl ?_
  exact Same.refl _ _
  exact Same.refl _ _

theorem execWalkFillDone_same (die : Nat) (paddock : Nat) (seq : Nat) (page : Nat) (r : ReadOutcome) (s : State) :
    OutSame { out := true, rng := true, farrier := true, regs := true, host := true, log := true, pads := true, net
              := true, maps := true, store := true, eng := true, sch := true, leases := true } s (execWalkFillDone
              die paddock seq page r s) := by
  unfold execWalkFillDone
  dsimp only
  split
  apply OutSame.next
  exact Same.refl _ _
  split
  apply OutSame.next
  refine (State.holdOnce_same ..).then rfl ?_
  exact Same.refl _ _
  refine State.finish_same rfl ?_
  refine (State.walkFill_same ..).then rfl ?_
  exact Same.refl _ _

theorem State.heatUp_same (s : State) (d : Nat) (layer : Nat) (head : Nat) (block : Nat) :
    Same { store := true } s (State.heatUp s d layer head block) := by
  unfold State.heatUp
  refine (State.modSeq_same ..).then rfl ?_
  exact Same.refl _ _

theorem State.modWork_same (s : State) (op : Nat) (f : StepWork → StepWork) :
    Same { eng := true } s (State.modWork s op f) := by
  unfold State.modWork
  refine (State.modOp_same ..).then rfl ?_
  exact Same.refl _ _

theorem State.dropSummary_same (s : State) (o : Op) (index : Nat) (head : Nat) (block : Nat) :
    Same { out := true, regs := true, host := true, log := true, store := true, eng := true } s (State.dropSummary s
        o index head block) := by
  unfold State.dropSummary
  dsimp only
  refine (State.note_same ..).then rfl ?_
  refine (State.modUnit_same ..).then rfl ?_
  refine (State.modWork_same ..).then rfl ?_
  split
  exact Same.refl _ _
  refine (State.modBlock_same ..).then rfl ?_
  exact Same.refl _ _

theorem execBlockReadDone_same (op : Nat) (head : Nat) (block : Nat) (r : ReadOutcome) (s : State) :
    OutSame { out := true, rng := true, farrier := true, regs := true, host := true, log := true, pads := true, net
              := true, maps := true, store := true, eng := true, sch := true, leases := true } s (execBlockReadDone
              op head block r s) := by
  unfold execBlockReadDone
  dsimp only
  split
  apply OutSame.next
  exact Same.refl _ _
  split
  apply OutSame.next
  exact Same.refl _ _
  split
  apply OutSame.next
  exact Same.refl _ _
  split
  apply OutSame.next
  exact Same.refl _ _
  split
  split
  split
  apply OutSame.next
  refine (State.modWork_same ..).then rfl ?_
  refine (State.dropHeld_same ..).then rfl ?_
  exact Same.refl _ _
  refine State.finish_same rfl ?_
  refine (State.dropSummary_same ..).then rfl ?_
  refine (State.dropHeld_same ..).then rfl ?_
  exact Same.refl _ _
  split
  apply OutSame.next
  refine (State.modWork_same ..).then rfl ?_
  refine (State.dropHeld_same ..).then rfl ?_
  exact Same.refl _ _
  refine State.finish_same rfl ?_
  refine (State.dropSummary_same ..).then rfl ?_
  refine (State.dropHeld_same ..).then rfl ?_
  exact Same.refl _ _
  split
  refine State.finish_same rfl ?_
  refine (State.afterUnits_same ..).then rfl ?_
  refine (State.breakStep_same ..).then rfl ?_
  refine (State.dropHeld_same ..).then rfl ?_
  exact Same.refl _ _
  split
  apply OutSame.next
  refine (State.modWork_same ..).then rfl ?_
  refine (State.heatUp_same ..).then rfl ?_
  refine (State.dropHeld_same ..).then rfl ?_
  exact Same.refl _ _
  refine State.finish_same rfl ?_
  refine (State.afterUnits_same ..).then rfl ?_
  refine (State.markLost_same ..).then rfl ?_
  refine (State.breakStep_same ..).then rfl ?_
  refine (State.dropHeld_same ..).then rfl ?_
  exact Same.refl _ _

theorem State.mismatch_same (s : State) (w : StepWork) (u : WorkUnit) (agreed : List Partial) :
    Same { out := true, farrier := true, regs := true, host := true, log := true, maps := true, store := true, eng :=
           true } s (State.mismatch s w u agreed) := by
  unfold State.mismatch
  dsimp only
  refine Same.foldl ?_ ?_
  exact Same.refl _ _
  intro _ _
  split
  exact Same.refl _ _
  refine (State.note_same ..).then rfl ?_
  refine Same.update ?_
  refine (State.retireCluster_same ..).then rfl ?_
  exact Same.refl _ _

theorem State.compareRuns_same (s : State) (op : Nat) (u : WorkUnit) :
    Same { out := true, farrier := true, regs := true, host := true, log := true, maps := true, store := true, eng :=
           true } s (State.compareRuns s op u) := by
  unfold State.compareRuns
  dsimp only
  split
  exact Same.refl _ _
  split
  refine Same.ite ?_ ?_
  exact Same.refl _ _
  refine (State.modWork_same ..).then rfl ?_
  exact Same.refl _ _
  refine Same.ite ?_ ?_
  exact Same.refl _ _
  refine Same.ite ?_ ?_
  refine (State.mismatch_same ..).then rfl ?_
  exact Same.refl _ _
  refine Same.ite ?_ ?_
  refine (State.mismatch_same ..).then rfl ?_
  refine (State.modUnit_same ..).then rfl ?_
  exact Same.refl _ _
  refine (State.breakStep_same ..).then rfl ?_
  exact Same.refl _ _
  exact Same.refl _ _

theorem State.rootsOf_same (s : State) (w : StepWork) (u : WorkUnit) (faulty : Bool) :
    Same { rng := true } s (State.rootsOf s w u faulty).2 := by
  unfold State.rootsOf
  dsimp only
  split
  dsimp only
  exact Same.refl _ _
  dsimp only
  refine (State.choose_same ..).then rfl ?_
  exact Same.refl _ _

theorem execSubtreeRootDone_same (op : Nat) (unit : Nat) (faulty : Bool) (s : State) :
    OutSame { out := true, rng := true, farrier := true, regs := true, host := true, log := true, maps := true, store
              := true, eng := true } s (execSubtreeRootDone op unit faulty s) := by
  unfold execSubtreeRootDone
  dsimp only
  split
  apply OutSame.next
  exact Same.refl _ _
  split
  apply OutSame.next
  exact Same.refl _ _
  split
  apply OutSame.next
  exact Same.refl _ _
  refine State.finish_same rfl ?_
  refine (State.afterUnits_same ..).then rfl ?_
  refine (State.compareRuns_same ..).then rfl ?_
  refine (State.modUnit_same ..).then rfl ?_
  refine (State.rootsOf_same ..).then rfl ?_
  exact Same.refl _ _

theorem State.countStepWork_same (s : State) (o : Op) (w : StepWork) (ws : Option WeightSet) :
    Same { pads := true } s (State.countStepWork s o w ws) := by
  unfold State.countStepWork
  dsimp only
  refine Same.ite ?_ ?_
  refine (State.tally_same ..).then rfl ?_
  refine (State.tally_same ..).then rfl ?_
  refine (State.tally_same ..).then rfl ?_
  refine (State.tally_same ..).then rfl ?_
  exact Same.refl _ _
  refine (State.tally_same ..).then rfl ?_
  refine (State.tally_same ..).then rfl ?_
  exact Same.refl _ _

theorem State.correctCost_same (s : State) (o : Op) (w : StepWork) :
    Same { sch := true } s (State.correctCost s o w) := by
  unfold State.correctCost
  refine (State.modSched_same ..).then rfl ?_
  exact Same.refl _ _

theorem State.kickWeights_same (s : State) :
    Same { store := true, eng := true, sch := true } s (State.kickWeights s) := by
  unfold State.kickWeights
  refine Same.foldl ?_ ?_
  exact Same.refl _ _
  intro _ _
  split
  exact Same.refl _ _
  refine Same.ite ?_ ?_
  refine (State.queueOp_same ..).then rfl ?_
  exact Same.refl _ _
  refine (State.loadLayer_same ..).then rfl ?_
  exact Same.refl _ _

theorem execStepEnd_same (op : Nat) (faulty : Bool) (s : State) :
    OutSame { out := true, rng := true, farrier := true, regs := true, host := true, log := true, pads := true, net
              := true, maps := true, store := true, eng := true, sch := true, leases := true, pwr := true } s
              (execStepEnd op faulty s) := by
  unfold execStepEnd
  dsimp only
  split
  apply OutSame.next
  exact Same.refl _ _
  split
  apply OutSame.next
  exact Same.refl _ _
  split
  apply OutSame.next
  exact Same.refl _ _
  refine State.finish_same rfl ?_
  refine (State.afterUnits_same ..).then rfl ?_
  refine (State.kickWeights_same ..).then rfl ?_
  refine (State.endOp_same ..).then rfl ?_
  refine Same.update ?_
  refine Same.ite ?_ ?_
  refine (State.countOk_same ..).then rfl ?_
  refine Same.ite ?_ ?_
  refine Same.update ?_
  refine (State.countStepWork_same ..).then rfl ?_
  refine (State.correctCost_same ..).then rfl ?_
  exact Same.refl _ _
  refine (State.countStepWork_same ..).then rfl ?_
  refine (State.correctCost_same ..).then rfl ?_
  exact Same.refl _ _
  refine Same.ite ?_ ?_
  refine Same.update ?_
  refine (State.countStepWork_same ..).then rfl ?_
  refine (State.correctCost_same ..).then rfl ?_
  exact Same.refl _ _
  refine (State.countStepWork_same ..).then rfl ?_
  refine (State.correctCost_same ..).then rfl ?_
  exact Same.refl _ _

theorem execClusterFault_same (die : Nat) (cluster : Nat) (s : State) :
    OutSame { farrier := true, maps := true, store := true, eng := true } s (execClusterFault die cluster s) := by
  unfold execClusterFault
  split
  apply OutSame.next
  exact Same.refl _ _
  refine State.finish_same rfl ?_
  refine (State.afterUnits_same ..).then rfl ?_
  refine (State.retireCluster_same ..).then rfl ?_
  exact Same.refl _ _

theorem execWeightSlotLoadDone_same (die : Nat) (slot : Nat) (s : State) :
    OutSame { store := true, eng := true, sch := true } s (execWeightSlotLoadDone die slot s) := by
  unfold execWeightSlotLoadDone
  dsimp only
  apply OutSame.next
  refine (State.kickWeights_same ..).then rfl ?_
  refine Same.update ?_
  exact Same.refl _ _

theorem State.beginExit_same (s : State) (source : Nat) (port : Nat) :
    Same { pwr := true } s (State.beginExit s source port) := by
  unfold State.beginExit
  dsimp only
  refine Same.update ?_
  exact Same.refl _ _

theorem State.wake_same (s : State) (source : Nat) (port : Nat) :
    Same { pwr := true } s (State.wake s source port) := by
  unfold State.wake
  dsimp only
  split
  refine (State.beginExit_same ..).then rfl ?_
  exact Same.refl _ _
  refine Same.ite ?_ ?_
  refine Same.update ?_
  exact Same.refl _ _
  exact Same.refl _ _
  refine Same.ite ?_ ?_
  refine Same.update ?_
  exact Same.refl _ _
  exact Same.refl _ _
  exact Same.refl _ _

theorem execAdmissionServe_same (slice : Nat) (s : State) :
    OutSame { out := true, rng := true, farrier := true, regs := true, host := true, log := true, pads := true, net
              := true, maps := true, store := true, eng := true, sch := true, leases := true, pwr := true } s
              (execAdmissionServe slice s) := by
  unfold execAdmissionServe
  dsimp only
  split
  apply OutSame.next
  refine (State.runHeld_same ..).then rfl ?_
  exact Same.refl _ _
  split
  split
  apply OutSame.next
  refine (State.chargeBridle_same ..).then rfl ?_
  refine (State.putSched_same ..).then rfl ?_
  refine (State.runHeld_same ..).then rfl ?_
  exact Same.refl _ _
  refine State.finish_same rfl ?_
  refine (State.place_same ..).then rfl ?_
  refine (State.releaseOp_same ..).then rfl ?_
  refine (State.chargeBridle_same ..).then rfl ?_
  refine (State.putSched_same ..).then rfl ?_
  refine (State.runHeld_same ..).then rfl ?_
  exact Same.refl _ _
  apply OutSame.next
  refine Same.update ?_
  refine (State.chargeBridle_same ..).then rfl ?_
  refine (State.putSched_same ..).then rfl ?_
  refine (State.runHeld_same ..).then rfl ?_
  exact Same.refl _ _
  apply OutSame.next
  refine (State.putSched_same ..).then rfl ?_
  refine (State.runHeld_same ..).then rfl ?_
  exact Same.refl _ _

theorem execEgressServe_same (link : Nat) (s : State) :
    OutSame { out := true, pads := true, sch := true } s (execEgressServe link s) := by
  unfold execEgressServe
  dsimp only
  split
  split
  apply OutSame.next
  exact Same.refl _ _
  split
  apply OutSame.next
  refine (State.emit_same ..).then rfl ?_
  refine Same.ite ?_ ?_
  refine (State.tally_same ..).then rfl ?_
  refine (State.chargeBridle_same ..).then rfl ?_
  refine (State.putSched_same ..).then rfl ?_
  exact Same.refl _ _
  refine (State.chargeBridle_same ..).then rfl ?_
  refine (State.putSched_same ..).then rfl ?_
  exact Same.refl _ _
  apply OutSame.next
  refine (State.putSched_same ..).then rfl ?_
  exact Same.refl _ _
  apply OutSame.next
  exact Same.refl _ _

theorem execWheelSlotStart_same (sched : Nat) (s : State) :
    OutSame { time := true, sch := true } s (execWheelSlotStart sched s) := by
  unfold execWheelSlotStart
  dsimp only
  split
  apply OutSame.next
  exact Same.refl _ _
  split
  apply OutSame.next
  exact Same.refl _ _
  apply OutSame.next
  refine (State.putSched_same ..).then rfl ?_
  refine (State.advanceTo_same ..).then rfl ?_
  exact Same.refl _ _

theorem execGateEntryBoundary_same (sched : Nat) (s : State) :
    OutSame { time := true, eng := true, sch := true } s (execGateEntryBoundary sched s) := by
  unfold execGateEntryBoundary
  dsimp only
  split
  apply OutSame.next
  exact Same.refl _ _
  split
  apply OutSame.next
  exact Same.refl _ _
  apply OutSame.next
  refine (State.place_same ..).then rfl ?_
  refine (State.putSched_same ..).then rfl ?_
  refine (State.advanceTo_same ..).then rfl ?_
  exact Same.refl _ _

theorem execGclCycleStart_same (sched : Nat) (late : Nat) (s : State) :
    OutSame { out := true, time := true, regs := true, host := true, log := true, maps := true, eng := true, sch :=
              true } s (execGclCycleStart sched late s) := by
  unfold execGclCycleStart
  dsimp only
  split
  apply OutSame.next
  exact Same.refl _ _
  split
  split
  refine State.finish_same rfl ?_
  refine (State.note_same ..).then rfl ?_
  refine (State.place_same ..).then rfl ?_
  refine (State.putSched_same ..).then rfl ?_
  refine (State.advanceTo_same ..).then rfl ?_
  refine (State.advanceTo_same ..).then rfl ?_
  exact Same.refl _ _
  apply OutSame.next
  refine (State.place_same ..).then rfl ?_
  refine (State.putSched_same ..).then rfl ?_
  refine (State.advanceTo_same ..).then rfl ?_
  exact Same.refl _ _
  split
  refine State.finish_same rfl ?_
  refine (State.note_same ..).then rfl ?_
  refine (State.place_same ..).then rfl ?_
  refine (State.putSched_same ..).then rfl ?_
  refine (State.advanceTo_same ..).then rfl ?_
  refine (State.advanceTo_same ..).then rfl ?_
  exact Same.refl _ _
  apply OutSame.next
  refine (State.place_same ..).then rfl ?_
  refine (State.putSched_same ..).then rfl ?_
  refine (State.advanceTo_same ..).then rfl ?_
  exact Same.refl _ _

theorem execStarveTimeExpiry_same (sched : Nat) (cls : Nat) (paddock : Nat) (s : State) :
    OutSame { time := true, sch := true } s (execStarveTimeExpiry sched cls paddock s) := by
  unfold execStarveTimeExpiry
  dsimp only
  split
  apply OutSame.next
  exact Same.refl _ _
  split
  apply OutSame.next
  exact Same.refl _ _
  split
  apply OutSame.next
  exact Same.refl _ _
  apply OutSame.next
  refine (State.putSched_same ..).then rfl ?_
  refine (State.advanceTo_same ..).then rfl ?_
  exact Same.refl _ _

theorem execFrontDelayRelease_same (slice : Nat) (s : State) :
    OutSame { out := true, rng := true, time := true, farrier := true, regs := true, host := true, log := true, pads
              := true, net := true, maps := true, store := true, eng := true, sch := true, leases := true } s
              (execFrontDelayRelease slice s) := by
  unfold execFrontDelayRelease
  dsimp only
  split
  apply OutSame.next
  exact Same.refl _ _
  refine State.finish_same rfl ?_
  refine (State.considerReq_same ..).then rfl ?_
  refine Same.ite ?_ ?_
  refine (State.note_same ..).then rfl ?_
  refine Same.update ?_
  refine (State.advanceTo_same ..).then rfl ?_
  exact Same.refl _ _
  refine Same.update ?_
  refine (State.advanceTo_same ..).then rfl ?_
  exact Same.refl _ _

end Sys2Proof.Machine
end

