-- ==== Sys2Proof/Laws/FrameLines.lean ====
section
/-! SUPPORT. Frames of windows, epochs, the pair's receiving side and remote line access. -/

set_option Elab.async false

namespace Sys2Proof.Machine

theorem State.windowPlaceIn_same (s : State) (c : SliceCfg) (paddock : Nat) (length : Nat) :
    SomeSame { rng := true, store := true } s Prod.snd (State.windowPlaceIn s c paddock length) := by
  unfold State.windowPlaceIn
  refine (State.allocMeta_same ..).via rfl ?_
  exact Same.refl _ _

theorem State.windowPlace_same (s : State) (paddock : Nat) (length : Nat) (landing : Bool) :
    SomeSame { rng := true, store := true } s Prod.snd (State.windowPlace s paddock length landing) := by
  unfold State.windowPlace
  dsimp only
  split
  refine SomeSame.map ?_
  intro _
  dsimp only
  refine (State.choose_same ..).then rfl ?_
  exact Same.refl _ _
  split
  exact SomeSame.none
  refine (State.windowPlaceIn_same ..).via rfl ?_
  exact Same.refl _ _

theorem State.freeWindow_same (s : State) :
    Same { rng := true } s (State.freeWindow s).2 := by
  unfold State.freeWindow
  dsimp only
  refine (State.choose_same ..).then rfl ?_
  exact Same.refl _ _

theorem State.openWindow_same (s : State) (index : Nat) (srcNode : Nat) (srcPaddock : Nat) (localPaddock : Nat)
    (rights : Nat) (base : Nat) (length : Nat) (key : Bytes) (use : WindowUse) :
    Same { rng := true, maps := true } s (State.openWindow s index srcNode srcPaddock localPaddock rights base length
        key use) := by
  unfold State.openWindow
  dsimp only
  refine (State.ledgerInsert_same ..).then rfl ?_
  refine Same.update ?_
  exact Same.refl _ _

theorem State.installWindow_same (s : State) (srcNode : Nat) (srcPaddock : Nat) (localPaddock : Nat) (rights : Nat)
    (landing : Bool) (length : Nat) (key : Bytes) (use : WindowUse) :
    SomeSame { rng := true, maps := true, store := true } s Prod.snd (State.installWindow s srcNode srcPaddock
        localPaddock rights landing length key use) := by
  unfold State.installWindow
  split
  exact SomeSame.none
  split
  exact SomeSame.none
  refine SomeSame.mapOf (h := Prod.snd) ?_ ?_
  rotate_left
  intro _ _
  rotate_left
  refine (State.windowPlace_same ..).via rfl ?_
  rename_i h6
  refine (Same.of_snd (State.freeWindow_same ..) h6).then rfl ?_
  exact Same.refl _ _
  dsimp only
  refine (State.openWindow_same ..).then rfl ?_
  assumption

theorem State.pairWindows_same (s : State) :
    Same { rng := true, maps := true, store := true } s (State.pairWindows s) := by
  unfold State.pairWindows
  dsimp only
  refine Same.foldl ?_ ?_
  exact Same.refl _ _
  intro _ _
  refine Same.ite ?_ ?_
  exact Same.refl _ _
  split
  exact Same.refl _ _
  rename_i h8
  refine SomeSame.of (g := Prod.snd) ?_ _ h8
  split
  refine (State.installWindow_same ..).via rfl ?_
  exact Same.refl _ _
  refine (State.installWindow_same ..).via rfl ?_
  exact Same.refl _ _

theorem State.dropRegions_same (s : State) (w : Window) :
    Same { maps := true } s (State.dropRegions s w) := by
  unfold State.dropRegions
  dsimp only
  refine Same.update ?_
  exact Same.refl _ _

theorem State.closeWindow_same (s : State) (index : Nat) :
    Same { rng := true, net := true, maps := true, store := true, eng := true, sch := true, leases := true, pwr :=
           true } s (State.closeWindow s index) := by
  unfold State.closeWindow
  dsimp only
  split
  exact Same.refl _ _
  refine Same.foldl ?_ ?_
  refine (State.ledgerRemove_same ..).then rfl ?_
  refine (State.modWindow_same ..).then rfl ?_
  refine (State.dropParts_same ..).then rfl ?_
  exact Same.refl _ _
  intro _ _
  refine (State.failConn_same ..).then rfl ?_
  exact Same.refl _ _

theorem State.modEpochs_same (s : State) (f : Epochs → Epochs) :
    Same { maps := true } s (State.modEpochs s f) := by
  unfold State.modEpochs
  dsimp only
  refine Same.update ?_
  exact Same.refl _ _

theorem State.dropSlot_same (s : State) (slot : Nat) :
    Same { maps := true } s (State.dropSlot s slot) := by
  unfold State.dropSlot
  dsimp only
  refine (State.ledgerRemove_same ..).then rfl ?_
  refine Same.update ?_
  exact Same.refl _ _

theorem State.unstage_same (s : State) (slot : Nat) (key : Nat) (mask : Nat) (result : Nat) :
    Same { maps := true } s (State.unstage s slot key mask result) := by
  unfold State.unstage
  dsimp only
  refine (State.ledgerRemove_same ..).then rfl ?_
  refine Same.update ?_
  exact Same.refl _ _

theorem State.stageRecord_same (s : State) (slot : Nat) (r : MapRecord) :
    SomeSame { rng := true, maps := true } s id (State.stageRecord s slot r) := by
  unfold State.stageRecord
  dsimp only
  split
  apply SomeSame.some
  dsimp only [id]
  refine Same.update ?_
  refine (State.unstage_same ..).then rfl ?_
  exact Same.refl _ _
  split
  apply SomeSame.some
  dsimp only [id]
  refine (State.ledgerInsert_same ..).then rfl ?_
  refine (State.unstage_same ..).then rfl ?_
  exact Same.refl _ _
  exact SomeSame.none

theorem State.carryOver_same (s : State) (slot : Nat) (cur : Option Nat) (full : Bool) (named : List (Nat × Nat)) :
    Same { maps := true } s (State.carryOver s slot cur full named) := by
  unfold State.carryOver
  dsimp only
  refine Same.update ?_
  exact Same.refl _ _

theorem State.stageFail_same (s : State) (cause : Nat) :
    Same { maps := true } s (State.stageFail s cause) := by
  unfold State.stageFail
  dsimp only
  refine (State.modEpochs_same ..).then rfl ?_
  split
  exact Same.refl _ _
  refine (State.modEpochs_same ..).then rfl ?_
  refine (State.dropSlot_same ..).then rfl ?_
  exact Same.refl _ _

theorem State.stagingSlot_same (s : State) :
    Same { maps := true } s (State.stagingSlot s).2 := by
  unfold State.stagingSlot
  split
  dsimp only
  refine (State.dropSlot_same ..).then rfl ?_
  exact Same.refl _ _
  split
  dsimp only
  exact Same.refl _ _
  dsimp only
  refine (State.modEpochs_same ..).then rfl ?_
  exact Same.refl _ _

theorem State.stageArea_same (s : State) (area : Bytes) :
    Same { rng := true, maps := true, store := true } s (State.stageArea s area) := by
  unfold State.stageArea
  dsimp only
  refine Same.ite ?_ ?_
  refine (State.stageFail_same ..).then rfl ?_
  exact Same.refl _ _
  refine Same.ite ?_ ?_
  refine (State.stageFail_same ..).then rfl ?_
  exact Same.refl _ _
  split
  refine (State.stageFail_same ..).then rfl ?_
  rename_i h8
  refine (Same.of_snd (State.stagingSlot_same ..) h8).then rfl ?_
  exact Same.refl _ _
  split
  refine (State.stageFail_same ..).then rfl ?_
  rename_i h12 _ _
  refine (Same.of_snd (State.stagingSlot_same ..) h12).then rfl ?_
  exact Same.refl _ _
  refine (State.pairWindows_same ..).then rfl ?_
  refine (State.modEpochs_same ..).then rfl ?_
  refine (State.carryOver_same ..).then rfl ?_
  rename_i h17
  refine SomeSame.of (g := id) ?_ _ h17
  refine SomeSame.foldlM ?_ ?_
  rename_i h19 _ _
  refine (Same.of_snd (State.stagingSlot_same ..) h19).then rfl ?_
  exact Same.refl _ _
  intro _ _
  refine (State.stageRecord_same ..).via rfl ?_
  exact Same.refl _ _

theorem State.dropStopped_same (s : State) (w : Window) :
    Same { net := true, maps := true, store := true, leases := true } s (State.dropStopped s w) := by
  unfold State.dropStopped
  dsimp only
  refine Same.update ?_
  refine (State.dropParts_same ..).then rfl ?_
  exact Same.refl _ _

theorem State.adoptRole_same (s : State) (old : Option Nat) (d : Nat) :
    Same { out := true, rng := true, farrier := true, regs := true, host := true, log := true, pads := true, net :=
           true, maps := true, store := true, eng := true, sch := true, leases := true } s (State.adoptRole s old d)
           := by
  unfold State.adoptRole
  dsimp only
  split
  exact Same.refl _ _
  split
  exact Same.refl _ _
  refine (State.modSeq_same ..).then rfl ?_
  exact Same.refl _ _
  refine Same.ite ?_ ?_
  refine Same.ite ?_ ?_
  refine (State.modSeq_same ..).then rfl ?_
  refine Same.foldl ?_ ?_
  exact Same.refl _ _
  intro _ _
  refine (State.dropStopped_same ..).then rfl ?_
  exact Same.refl _ _
  exact Same.refl _ _
  refine Same.ite ?_ ?_
  refine (State.startResync_same ..).then rfl ?_
  refine (State.regain_same ..).then rfl ?_
  refine Same.ite ?_ ?_
  refine (State.modSeq_same ..).then rfl ?_
  refine Same.foldl ?_ ?_
  exact Same.refl _ _
  intro _ _
  refine (State.dropStopped_same ..).then rfl ?_
  exact Same.refl _ _
  exact Same.refl _ _
  refine Same.ite ?_ ?_
  refine (State.modSeq_same ..).then rfl ?_
  refine Same.foldl ?_ ?_
  exact Same.refl _ _
  intro _ _
  refine (State.dropStopped_same ..).then rfl ?_
  exact Same.refl _ _
  exact Same.refl _ _

theorem State.publish_same (s : State) :
    Same { out := true, rng := true, farrier := true, boot := true, regs := true, host := true, log := true, pads :=
           true, net := true, maps := true, store := true, eng := true, sch := true, leases := true } s
           (State.publish s) := by
  unfold State.publish
  dsimp only
  split
  exact Same.refl _ _
  refine Same.ite ?_ ?_
  refine (State.setStage_same ..).then rfl ?_
  refine (State.takeIds_same ..).then rfl ?_
  refine (State.pairWindows_same ..).then rfl ?_
  refine (State.settleLost_same ..).then rfl ?_
  refine Same.foldl ?_ ?_
  refine (State.modEpochs_same ..).then rfl ?_
  exact Same.refl _ _
  intro _ _
  refine (State.adoptRole_same ..).then rfl ?_
  exact Same.refl _ _
  refine (State.takeIds_same ..).then rfl ?_
  refine (State.pairWindows_same ..).then rfl ?_
  refine (State.settleLost_same ..).then rfl ?_
  refine Same.foldl ?_ ?_
  refine (State.modEpochs_same ..).then rfl ?_
  exact Same.refl _ _
  intro _ _
  refine (State.adoptRole_same ..).then rfl ?_
  exact Same.refl _ _

theorem State.publishOrHold_same (s : State) :
    Same { out := true, rng := true, farrier := true, boot := true, regs := true, host := true, log := true, pads :=
           true, net := true, maps := true, store := true, eng := true, sch := true, leases := true } s
           (State.publishOrHold s) := by
  unfold State.publishOrHold
  refine Same.ite ?_ ?_
  refine (State.modEpochs_same ..).then rfl ?_
  exact Same.refl _ _
  refine (State.publish_same ..).then rfl ?_
  exact Same.refl _ _

theorem State.releaseUnmapped_same (s : State) :
    Same { maps := true, store := true, eng := true, leases := true } s (State.releaseUnmapped s) := by
  unfold State.releaseUnmapped
  refine Same.foldl ?_ ?_
  exact Same.refl _ _
  intro _ _
  split
  exact Same.refl _ _
  refine (State.release_same ..).then rfl ?_
  exact Same.refl _ _

theorem State.endDrain_same (s : State) :
    Same { out := true, rng := true, farrier := true, boot := true, regs := true, host := true, log := true, pads :=
           true, net := true, maps := true, store := true, eng := true, sch := true, leases := true } s
           (State.endDrain s) := by
  unfold State.endDrain
  dsimp only
  split
  exact Same.refl _ _
  split
  refine (State.releaseUnmapped_same ..).then rfl ?_
  refine (State.modEpochs_same ..).then rfl ?_
  exact Same.refl _ _
  refine (State.publish_same ..).then rfl ?_
  refine (State.releaseUnmapped_same ..).then rfl ?_
  refine (State.modEpochs_same ..).then rfl ?_
  exact Same.refl _ _

theorem State.insertMirror_same (s : State) (d : Nat) (partner : Nat) (below : Nat) :
    Same { rng := true, maps := true } s (State.insertMirror s d partner below) := by
  unfold State.insertMirror
  dsimp only
  split
  exact Same.refl _ _
  refine Same.ite ?_ ?_
  refine Same.update ?_
  exact Same.refl _ _
  refine (State.insertExact_same ..).then rfl ?_
  refine Same.update ?_
  exact Same.refl _ _

theorem State.recvCreate_same (s : State) (from_ : Nat) (h : PairHead) :
    OkSame { rng := true, pads := true, maps := true, store := true, eng := true, leases := true } s id
        (State.recvCreate s from_ h) := by
  unfold State.recvCreate
  dsimp only
  split
  exact OkSame.error
  split
  split
  apply OkSame.ok
  dsimp only [id]
  exact Same.refl _ _
  exact OkSame.error
  split
  exact OkSame.error
  split
  split
  exact OkSame.error
  split
  exact OkSame.error
  split
  exact OkSame.error
  apply OkSame.ok
  dsimp only [id]
  refine (State.reuseId_same ..).then rfl ?_
  refine (State.insertMirror_same ..).then rfl ?_
  refine (State.modSeq_same ..).then rfl ?_
  rename_i h22
  refine ((State.fits_same ..).of _ h22).then rfl ?_
  rename_i h23 _ _
  refine ((State.createSeq_same ..).of _ h23).then rfl ?_
  exact Same.refl _ _
  split
  exact OkSame.error
  split
  exact OkSame.error
  split
  exact OkSame.error
  apply OkSame.ok
  dsimp only [id]
  refine (State.reuseId_same ..).then rfl ?_
  refine (State.insertMirror_same ..).then rfl ?_
  refine (State.modSeq_same ..).then rfl ?_
  rename_i h36
  refine ((State.fits_same ..).of _ h36).then rfl ?_
  rename_i h37 _ _
  refine ((State.createSeq_same ..).of _ h37).then rfl ?_
  refine (State.release_same ..).then rfl ?_
  exact Same.refl _ _

theorem State.recvFork_same (s : State) (from_ : Nat) (h : PairHead) :
    OkSame { out := true, rng := true, regs := true, host := true, log := true, pads := true, maps := true, store :=
             true, eng := true, leases := true } s id (State.recvFork s from_ h) := by
  unfold State.recvFork
  dsimp only
  refine OkSame.pass ?_
  intro _
  split
  split
  apply OkSame.ok
  dsimp only [id]
  exact Same.refl _ _
  exact OkSame.error
  split
  exact OkSame.error
  split
  exact OkSame.error
  split
  exact OkSame.error
  refine OkSame.bind (g := Prod.snd) ?_ ?_
  rotate_left
  intro _ _
  rotate_left
  unfold noSpace
  split
  apply OkSame.ok
  rename_i h18
  refine ((State.applyFork_same ..).of _ h18).then rfl ?_
  exact Same.refl _ _
  exact OkSame.error
  refine OkSame.bind (g := id) ?_ ?_
  rotate_left
  intro _ _
  rotate_left
  unfold noSpace
  split
  apply OkSame.ok
  dsimp only [id]
  rename_i h26
  refine ((State.fits_same ..).of _ h26).then rfl ?_
  assumption
  exact OkSame.error
  apply OkSame.ok
  dsimp only [id]
  refine (State.reuseId_same ..).then rfl ?_
  refine (State.insertExact_same ..).then rfl ?_
  assumption

theorem State.recvTruncate_same (s : State) (h : PairHead) :
    OkSame { rng := true, pads := true, maps := true, store := true, eng := true, leases := true } s id
        (State.recvTruncate s h) := by
  unfold State.recvTruncate
  refine OkSame.pass ?_
  intro _
  split
  exact OkSame.error
  split
  exact OkSame.error
  refine OkSame.bind (g := id) ?_ ?_
  rotate_left
  intro _ _
  rotate_left
  unfold noSpace
  split
  apply OkSame.ok
  dsimp only [id]
  rename_i h11
  refine ((State.applyTruncate_same ..).of _ h11).then rfl ?_
  exact Same.refl _ _
  exact OkSame.error
  unfold noSpace
  split
  apply OkSame.ok
  dsimp only [id]
  rename_i h18
  refine ((State.counterFits_same ..).of _ h18).then rfl ?_
  assumption
  exact OkSame.error

theorem State.recvAppend_same (s : State) (r : PairRec) :
    OkSame { out := true, rng := true, regs := true, host := true, log := true, pads := true, maps := true, store :=
             true, eng := true, leases := true } s id (State.recvAppend s r) := by
  unfold State.recvAppend
  dsimp only
  refine OkSame.pass ?_
  intro _
  split
  exact OkSame.error
  split
  exact OkSame.error
  split
  exact OkSame.error
  split
  exact OkSame.error
  split
  apply OkSame.ok
  dsimp only [id]
  exact Same.refl _ _
  refine OkSame.bind (g := id) ?_ ?_
  rotate_left
  intro _ _
  rotate_left
  unfold noSpace
  split
  apply OkSame.ok
  dsimp only [id]
  rename_i h19
  refine ((State.applyAppend_same ..).of _ h19).then rfl ?_
  exact Same.refl _ _
  exact OkSame.error
  refine OkSame.bind (g := id) ?_ ?_
  rotate_left
  intro _ _
  rotate_left
  unfold noSpace
  split
  apply OkSame.ok
  dsimp only [id]
  rename_i h27
  refine ((State.fits_same ..).of _ h27).then rfl ?_
  assumption
  exact OkSame.error
  apply OkSame.ok
  dsimp only [id]
  refine (State.tally_same ..).then rfl ?_
  assumption

theorem State.lostBlock_same (s : State) (q : Seq) (layer : Nat) (head : Nat) (block : Nat) :
    OkSame { rng := true, store := true, eng := true } s id (State.lostBlock s q layer head block) := by
  unfold State.lostBlock
  dsimp only
  split
  exact OkSame.error
  apply OkSame.ok
  dsimp only [id]
  refine (State.modSeq_same ..).then rfl ?_
  refine Same.update ?_
  rename_i h6
  refine ((State.backPage_same ..).of _ h6).then rfl ?_
  exact Same.refl _ _

theorem State.fillRow_same (s : State) (q : Seq) (layer : Nat) (head : Nat) (pos : Nat) (recs : List Bytes) :
    OkSame { out := true, rng := true, regs := true, host := true, log := true, pads := true, store := true, eng :=
             true, leases := true } s id (State.fillRow s q layer head pos recs) := by
  unfold State.fillRow
  dsimp only
  refine OkSame.bind (g := id) ?_ ?_
  rotate_left
  intro _ _
  rotate_left
  refine OkSame.foldlM ?_ ?_
  refine Same.ite ?_ ?_
  exact Same.refl _ _
  split
  refine (State.freePlace_same ..).then rfl ?_
  refine (State.modSeq_same ..).then rfl ?_
  exact Same.refl _ _
  refine (State.modSeq_same ..).then rfl ?_
  exact Same.refl _ _
  intro _ _
  refine (State.lostBlock_same ..).via rfl ?_
  exact Same.refl _ _
  refine OkSame.bind (g := id) ?_ ?_
  rotate_left
  intro _ _
  rotate_left
  unfold noSpace
  split
  apply OkSame.ok
  dsimp only [id]
  rename_i h19
  refine ((State.appendRow_same ..).of _ h19).then rfl ?_
  assumption
  exact OkSame.error
  split
  apply OkSame.ok
  dsimp only [id]
  assumption
  split
  apply OkSame.ok
  dsimp only [id]
  assumption
  unfold noSpace
  split
  apply OkSame.ok
  dsimp only [id]
  rename_i h34
  refine ((State.newTail_same ..).of _ h34).then rfl ?_
  assumption
  exact OkSame.error

theorem State.refill_same (s : State) (q : Seq) (b : Block) (coding : Nat) (stored : Bytes) (summary : Option Bytes) :
    OkSame { rng := true, pads := true, maps := true, store := true, eng := true, leases := true } s id (State.refill
        s q b coding stored summary) := by
  unfold State.refill
  dsimp only
  split
  exact OkSame.error
  refine OkSame.bind (g := id) ?_ ?_
  rotate_left
  intro _ _
  rotate_left
  unfold noSpace
  split
  apply OkSame.ok
  dsimp only [id]
  rename_i h7
  refine ((State.fits_same ..).of _ h7).then rfl ?_
  refine Same.ite ?_ ?_
  refine (State.modBlock_same ..).then rfl ?_
  refine (State.version_same ..).then rfl ?_
  rename_i h11 _ _
  refine ((State.allocT1_same ..).of _ h11).then rfl ?_
  exact Same.refl _ _
  refine (State.freePlace_same ..).then rfl ?_
  refine (State.modBlock_same ..).then rfl ?_
  refine (State.version_same ..).then rfl ?_
  rename_i h16 _ _
  refine ((State.allocT1_same ..).of _ h16).then rfl ?_
  exact Same.refl _ _
  exact OkSame.error
  apply OkSame.ok
  dsimp only [id]
  refine (State.endNamerRefusals_same ..).then rfl ?_
  refine (State.resealNamers_same ..).then rfl ?_
  assumption

theorem State.restoreEntry_same (s : State) (d : Nat) (layer : Nat) (head : Nat) (pos : Nat) (recs : List Bytes)
    (block : Nat) :
    OkSame { rng := true, pads := true, maps := true, store := true, eng := true, leases := true } s id
        (State.restoreEntry s d layer head pos recs block) := by
  unfold State.restoreEntry
  dsimp only
  split
  apply OkSame.ok
  dsimp only [id]
  exact Same.refl _ _
  split
  split
  apply OkSame.ok
  dsimp only [id]
  refine (State.modSeq_same ..).then rfl ?_
  exact Same.refl _ _
  apply OkSame.ok
  dsimp only [id]
  exact Same.refl _ _
  split
  apply OkSame.ok
  dsimp only [id]
  exact Same.refl _ _
  split
  refine (State.refill_same ..).via rfl ?_
  exact Same.refl _ _
  apply OkSame.ok
  dsimp only [id]
  exact Same.refl _ _

theorem State.restoreRow_same (s : State) (d : Nat) (layer : Nat) (head : Nat) (pos : Nat) (recs : List Bytes) :
    OkSame { rng := true, pads := true, maps := true, store := true, eng := true, leases := true } s id
        (State.restoreRow s d layer head pos recs) := by
  unfold State.restoreRow
  refine OkSame.foldlM ?_ ?_
  exact Same.refl _ _
  intro _ _
  refine (State.restoreEntry_same ..).via rfl ?_
  exact Same.refl _ _

theorem State.recvTail_same (s : State) (r : PairRec) :
    OkSame { out := true, rng := true, regs := true, host := true, log := true, pads := true, maps := true, store :=
             true, eng := true, leases := true } s id (State.recvTail s r) := by
  unfold State.recvTail
  dsimp only
  refine OkSame.pass ?_
  intro _
  split
  exact OkSame.error
  split
  refine OkSame.bind (g := id) ?_ ?_
  rotate_left
  intro _ _
  rotate_left
  split
  refine OkSame.bind (g := id) ?_ ?_
  rotate_left
  intro _ _
  rotate_left
  split
  refine OkSame.bind (g := id) ?_ ?_
  rotate_left
  intro _ _
  rotate_left
  exact OkSame.error
  refine OkSame.foldlM ?_ ?_
  exact Same.refl _ _
  intro _ _
  refine (State.restoreRow_same ..).via rfl ?_
  exact Same.refl _ _
  refine OkSame.bind (g := id) ?_ ?_
  rotate_left
  intro _ _
  rotate_left
  refine OkSame.foldlM ?_ ?_
  exact Same.refl _ _
  intro _ _
  refine (State.fillRow_same ..).via rfl ?_
  exact Same.refl _ _
  refine OkSame.bind (g := id) ?_ ?_
  rotate_left
  intro _ _
  rotate_left
  unfold noSpace
  split
  apply OkSame.ok
  dsimp only [id]
  rename_i h29
  refine ((State.applyAppend_same ..).of _ h29).then rfl ?_
  exact Same.refl _ _
  exact OkSame.error
  unfold noSpace
  split
  apply OkSame.ok
  dsimp only [id]
  rename_i h36
  refine ((State.fits_same ..).of _ h36).then rfl ?_
  assumption
  exact OkSame.error
  unfold noSpace
  split
  apply OkSame.ok
  dsimp only [id]
  rename_i h43
  refine ((State.counterFits_same ..).of _ h43).then rfl ?_
  refine (State.reseal_same ..).then rfl ?_
  refine (State.resealTailTable_same ..).then rfl ?_
  assumption
  exact OkSame.error
  apply OkSame.ok
  dsimp only [id]
  refine (State.endRefusals_same ..).then rfl ?_
  assumption
  unfold noSpace
  split
  apply OkSame.ok
  dsimp only [id]
  rename_i h56
  refine ((State.fits_same ..).of _ h56).then rfl ?_
  refine (State.modSeq_same ..).then rfl ?_
  assumption
  exact OkSame.error
  unfold noSpace
  split
  apply OkSame.ok
  dsimp only [id]
  rename_i h64
  refine ((State.counterFits_same ..).of _ h64).then rfl ?_
  refine (State.reseal_same ..).then rfl ?_
  refine (State.resealTailTable_same ..).then rfl ?_
  refine (State.resealTails_same ..).then rfl ?_
  assumption
  exact OkSame.error

theorem State.recvBlock_same (s : State) (r : PairRec) :
    OkSame { out := true, rng := true, regs := true, host := true, log := true, pads := true, maps := true, store :=
             true, eng := true, leases := true } s id (State.recvBlock s r) := by
  unfold State.recvBlock
  dsimp only
  refine OkSame.pass ?_
  intro _
  split
  exact OkSame.error
  split
  apply OkSame.ok
  dsimp only [id]
  exact Same.refl _ _
  split
  split
  refine OkSame.bind (g := id) ?_ ?_
  rotate_left
  intro _ _
  rotate_left
  apply OkSame.ok
  dsimp only [id]
  exact Same.refl _ _
  split
  apply OkSame.ok
  dsimp only [id]
  exact Same.refl _ _
  split
  apply OkSame.ok
  dsimp only [id]
  exact Same.refl _ _
  refine (State.refill_same ..).via rfl ?_
  exact Same.refl _ _
  unfold noSpace
  split
  apply OkSame.ok
  dsimp only [id]
  rename_i h28
  refine ((State.writeClosed_same ..).of _ h28).then rfl ?_
  exact Same.refl _ _
  exact OkSame.error
  refine OkSame.bind (g := id) ?_ ?_
  rotate_left
  intro _ _
  rotate_left
  unfold noSpace
  split
  apply OkSame.ok
  dsimp only [id]
  rename_i h36
  refine ((State.fits_same ..).of _ h36).then rfl ?_
  refine (State.reseal_same ..).then rfl ?_
  refine (State.freePlace_same ..).then rfl ?_
  assumption
  exact OkSame.error
  apply OkSame.ok
  dsimp only [id]
  refine (State.endRefusals_same ..).then rfl ?_
  refine (State.registerPrefix_same ..).then rfl ?_
  assumption

theorem State.answerRestore_same (s : State) (from_ : Nat) (h : PairHead) :
    Same { out := true, rng := true, farrier := true, regs := true, host := true, log := true, pads := true, net :=
           true, maps := true, store := true, eng := true, sch := true, leases := true } s (State.answerRestore s
           from_ h) := by
  unfold State.answerRestore
  dsimp only
  split
  exact Same.refl _ _
  refine (State.queueCommit_same ..).then rfl ?_
  refine (State.verify_same ..).then rfl ?_
  exact Same.refl _ _

theorem State.noticeLost_same (s : State) (h : PairHead) :
    Same { pads := true, maps := true, store := true, eng := true } s (State.noticeLost s h) := by
  unfold State.noticeLost
  dsimp only
  split
  exact Same.refl _ _
  refine (State.modFault_same ..).then rfl ?_
  refine (State.ledgerRemove_same ..).then rfl ?_
  refine (State.reseal_same ..).then rfl ?_
  refine Same.foldl ?_ ?_
  exact Same.refl _ _
  intro _ _
  split
  refine (State.modSeq_same ..).then rfl ?_
  exact Same.refl _ _
  refine (State.resealNamers_same ..).then rfl ?_
  refine (State.modBlock_same ..).then rfl ?_
  exact Same.refl _ _
  exact Same.refl _ _

theorem State.recvRecord_same (s : State) (from_ : Nat) (r : PairRec) :
    OkSame { out := true, rng := true, farrier := true, regs := true, host := true, log := true, pads := true, net :=
             true, maps := true, store := true, eng := true, sch := true, leases := true } s id (State.recvRecord s
             from_ r) := by
  unfold State.recvRecord
  dsimp only
  split
  refine (State.recvCreate_same ..).via rfl ?_
  exact Same.refl _ _
  refine (State.recvFork_same ..).via rfl ?_
  exact Same.refl _ _
  refine (State.recvTruncate_same ..).via rfl ?_
  exact Same.refl _ _
  apply OkSame.ok
  dsimp only [id]
  split
  exact Same.refl _ _
  refine (State.release_same ..).then rfl ?_
  exact Same.refl _ _
  refine (State.recvAppend_same ..).via rfl ?_
  exact Same.refl _ _
  split
  exact OkSame.error
  unfold noSpace
  split
  apply OkSame.ok
  dsimp only [id]
  rename_i h21
  refine ((State.counterFits_same ..).of _ h21).then rfl ?_
  refine (State.recordHashes_same ..).then rfl ?_
  exact Same.refl _ _
  exact OkSame.error
  refine (State.recvBlock_same ..).via rfl ?_
  exact Same.refl _ _
  refine (State.recvTail_same ..).via rfl ?_
  exact Same.refl _ _
  apply OkSame.ok
  dsimp only [id]
  split
  exact Same.refl _ _
  refine Same.ite ?_ ?_
  exact Same.refl _ _
  refine (State.modSeq_same ..).then rfl ?_
  exact Same.refl _ _
  apply OkSame.ok
  dsimp only [id]
  refine (State.answerRestore_same ..).then rfl ?_
  exact Same.refl _ _
  apply OkSame.ok
  dsimp only [id]
  refine (State.noticeLost_same ..).then rfl ?_
  exact Same.refl _ _
  exact OkSame.error

theorem State.recvAll_same (w : Window) (x0 : List PairRec) (x1 : State) :
    OkSame { out := true, rng := true, farrier := true, regs := true, host := true, log := true, pads := true, net :=
             true, maps := true, store := true, eng := true, sch := true, leases := true } x1 id (State.recvAll w x0
             x1) := by
  induction x0 generalizing x1 with
  | nil => exact OkSame.ok (Same.refl _ _)
  | cons r rs ih_recvAll =>
    unfold State.recvAll
    split
    exact OkSame.error
    split
    exact OkSame.error
    refine (ih_recvAll ..).via rfl ?_
    rename_i h5
    refine ((State.recvRecord_same ..).of _ h5).then rfl ?_
    exact Same.refl _ _

theorem State.withParts_same (s : State) (w : Window) (rs : List PairRec) :
    Same { maps := true, store := true, leases := true } s (State.withParts s w rs).1 := by
  unfold State.withParts
  dsimp only
  split
  dsimp only
  refine Same.update ?_
  exact Same.refl _ _
  dsimp only
  refine (State.dropParts_same ..).then rfl ?_
  exact Same.refl _ _

theorem State.recvCommit_same (s : State) (w : Window) (line : Bytes) :
    OkSame { out := true, rng := true, farrier := true, regs := true, host := true, log := true, pads := true, net :=
             true, maps := true, store := true, eng := true, sch := true, leases := true } s id (State.recvCommit s w
             line) := by
  unfold State.recvCommit
  dsimp only
  split
  exact OkSame.error
  split
  exact OkSame.error
  split
  apply OkSame.ok
  dsimp only [id]
  refine Same.update ?_
  refine (State.modWindow_same ..).then rfl ?_
  refine (State.withParts_same ..).then rfl ?_
  exact Same.refl _ _
  apply OkSame.ok
  dsimp only [id]
  refine (State.modWindow_same ..).then rfl ?_
  rename_i h14 _
  refine ((State.recvAll_same ..).of _ h14).then rfl ?_
  refine (State.withParts_same ..).then rfl ?_
  exact Same.refl _ _

theorem State.refuseCommit_same (s : State) (w : Window) (line : Bytes) (reason : Nat) (paddock : Nat) (seq : Nat) :
    Same { out := true, rng := true, farrier := true, regs := true, host := true, log := true, pads := true, net :=
           true, maps := true, store := true, eng := true, sch := true, leases := true } s (State.refuseCommit s w
           line reason paddock seq) := by
  unfold State.refuseCommit
  dsimp only
  refine Same.foldl ?_ ?_
  refine (State.modWindow_same ..).then rfl ?_
  refine (State.dropParts_same ..).then rfl ?_
  exact Same.refl _ _
  intro _ _
  refine (State.verify_same ..).then rfl ?_
  exact Same.refl _ _

theorem State.settleNow_same (s : State) (o : Op) :
    Same { out := true, rng := true, farrier := true, regs := true, host := true, log := true, pads := true, net :=
           true, maps := true, store := true, eng := true, sch := true, leases := true, pwr := true } s
           (State.settleNow s o) := by
  unfold State.settleNow
  dsimp only
  split
  refine Same.ite ?_ ?_
  refine Same.ite ?_ ?_
  refine (State.modOp_same ..).then rfl ?_
  rename_i h4
  refine ((State.applyEffect_same ..).of _ h4).then rfl ?_
  exact Same.refl _ _
  split
  refine (State.modOp_same ..).then rfl ?_
  rename_i h8 _ _
  refine ((State.applyEffect_same ..).of _ h8).then rfl ?_
  exact Same.refl _ _
  refine (State.startResync_same ..).then rfl ?_
  refine (State.modOp_same ..).then rfl ?_
  rename_i h12 _ _ _
  refine ((State.applyEffect_same ..).of _ h12).then rfl ?_
  exact Same.refl _ _
  split
  refine (State.finishOther_same ..).then rfl ?_
  refine (State.modOp_same ..).then rfl ?_
  rename_i h17 _ _
  refine ((State.applyEffect_same ..).of _ h17).then rfl ?_
  exact Same.refl _ _
  refine (State.failOp_same ..).then rfl ?_
  refine (State.modOp_same ..).then rfl ?_
  rename_i h21 _ _
  refine ((State.applyEffect_same ..).of _ h21).then rfl ?_
  exact Same.refl _ _
  refine Same.ite ?_ ?_
  refine (State.breakStep_same ..).then rfl ?_
  split
  refine (State.modOp_same ..).then rfl ?_
  exact Same.refl _ _
  refine (State.startResync_same ..).then rfl ?_
  refine (State.modOp_same ..).then rfl ?_
  exact Same.refl _ _
  refine (State.failOp_same ..).then rfl ?_
  split
  refine (State.modOp_same ..).then rfl ?_
  exact Same.refl _ _
  refine (State.startResync_same ..).then rfl ?_
  refine (State.modOp_same ..).then rfl ?_
  exact Same.refl _ _

theorem State.settleOp_same (s : State) (o : Op) :
    Same { out := true, rng := true, farrier := true, regs := true, host := true, log := true, pads := true, net :=
           true, maps := true, store := true, eng := true, sch := true, leases := true, pwr := true } s
           (State.settleOp s o) := by
  unfold State.settleOp
  dsimp only
  refine Same.ite ?_ ?_
  refine (State.hold_same ..).then rfl ?_
  exact Same.refl _ _
  refine (State.settleNow_same ..).then rfl ?_
  exact Same.refl _ _

theorem State.commitDone_same (s : State) (stream : Nat) (c : Commit) :
    Same { out := true, rng := true, farrier := true, regs := true, host := true, log := true, pads := true, net :=
           true, maps := true, store := true, eng := true, sch := true, leases := true, pwr := true } s
           (State.commitDone s stream c) := by
  unfold State.commitDone
  dsimp only
  split
  split
  refine (State.modStream_same ..).then rfl ?_
  refine (State.stir_same ..).then rfl ?_
  refine (State.modStream_same ..).then rfl ?_
  exact Same.refl _ _
  refine (State.modStream_same ..).then rfl ?_
  refine (State.modStream_same ..).then rfl ?_
  refine (State.stir_same ..).then rfl ?_
  refine (State.modStream_same ..).then rfl ?_
  exact Same.refl _ _
  refine Same.ite ?_ ?_
  refine (State.modOp_same ..).then rfl ?_
  split
  refine (State.modStream_same ..).then rfl ?_
  refine (State.stir_same ..).then rfl ?_
  refine (State.modStream_same ..).then rfl ?_
  exact Same.refl _ _
  refine (State.modStream_same ..).then rfl ?_
  refine (State.modStream_same ..).then rfl ?_
  refine (State.stir_same ..).then rfl ?_
  refine (State.modStream_same ..).then rfl ?_
  exact Same.refl _ _
  refine (State.settleOp_same ..).then rfl ?_
  refine (State.modOp_same ..).then rfl ?_
  split
  refine (State.modStream_same ..).then rfl ?_
  refine (State.stir_same ..).then rfl ?_
  refine (State.modStream_same ..).then rfl ?_
  exact Same.refl _ _
  refine (State.modStream_same ..).then rfl ?_
  refine (State.modStream_same ..).then rfl ?_
  refine (State.stir_same ..).then rfl ?_
  refine (State.modStream_same ..).then rfl ?_
  exact Same.refl _ _

theorem State.commitsDone_same (s : State) (stream : Nat) (upTo : Nat) :
    Same { out := true, rng := true, farrier := true, regs := true, host := true, log := true, pads := true, net :=
           true, maps := true, store := true, eng := true, sch := true, leases := true, pwr := true } s
           (State.commitsDone s stream upTo) := by
  unfold State.commitsDone
  split
  exact Same.refl _ _
  refine Same.foldl ?_ ?_
  exact Same.refl _ _
  intro _ _
  refine (State.commitDone_same ..).then rfl ?_
  exact Same.refl _ _

theorem State.failCommit_same (s : State) (op : Nat) (hint : Nat) :
    Same { out := true, rng := true, farrier := true, regs := true, host := true, log := true, pads := true, net :=
           true, maps := true, store := true, eng := true, sch := true, leases := true, pwr := true } s
           (State.failCommit s op hint) := by
  unfold State.failCommit
  split
  exact Same.refl _ _
  refine Same.ite ?_ ?_
  refine (State.breakStep_same ..).then rfl ?_
  refine (State.modOp_same ..).then rfl ?_
  exact Same.refl _ _
  refine (State.failOp_same ..).then rfl ?_
  exact Same.refl _ _

theorem State.refusedCommit_same (s : State) (stream : Nat) (c : Commit) (paddock : Nat) (seq : Nat) :
    Same { out := true, rng := true, farrier := true, regs := true, host := true, log := true, pads := true, net :=
           true, maps := true, store := true, eng := true, sch := true, leases := true, pwr := true } s
           (State.refusedCommit s stream c paddock seq) := by
  unfold State.refusedCommit
  dsimp only
  split
  exact Same.refl _ _
  split
  refine (State.failCommit_same ..).then rfl ?_
  refine (State.modStream_same ..).then rfl ?_
  exact Same.refl _ _
  refine (State.startResync_same ..).then rfl ?_
  refine (State.failCommit_same ..).then rfl ?_
  refine (State.modStream_same ..).then rfl ?_
  exact Same.refl _ _

theorem State.statusRead_same (s : State) (stream : Nat) (line : Bytes) :
    Same { out := true, rng := true, farrier := true, regs := true, host := true, log := true, pads := true, net :=
           true, maps := true, store := true, eng := true, sch := true, leases := true, pwr := true } s
           (State.statusRead s stream line) := by
  unfold State.statusRead
  dsimp only
  split
  split
  refine Same.ite ?_ ?_
  refine (State.refusedCommit_same ..).then rfl ?_
  refine (State.commitsDone_same ..).then rfl ?_
  exact Same.refl _ _
  refine (State.commitsDone_same ..).then rfl ?_
  exact Same.refl _ _
  refine (State.commitsDone_same ..).then rfl ?_
  exact Same.refl _ _
  refine (State.pumpStream_same ..).then rfl ?_
  refine (State.modStream_same ..).then rfl ?_
  refine Same.foldl ?_ ?_
  split
  refine Same.ite ?_ ?_
  refine (State.refusedCommit_same ..).then rfl ?_
  refine (State.commitsDone_same ..).then rfl ?_
  exact Same.refl _ _
  refine (State.commitsDone_same ..).then rfl ?_
  exact Same.refl _ _
  refine (State.commitsDone_same ..).then rfl ?_
  exact Same.refl _ _
  intro _ _
  refine (State.modOp_same ..).then rfl ?_
  exact Same.refl _ _

theorem State.giveUp_same (s : State) (stream : Nat) :
    Same { out := true, rng := true, farrier := true, regs := true, host := true, log := true, pads := true, net :=
           true, maps := true, store := true, eng := true, sch := true, leases := true, pwr := true } s (State.giveUp
           s stream) := by
  unfold State.giveUp
  dsimp only
  split
  exact Same.refl _ _
  refine (State.note_same ..).then rfl ?_
  refine (State.stir_same ..).then rfl ?_
  refine (State.modFault_same ..).then rfl ?_
  refine Same.update ?_
  refine Same.foldl ?_ ?_
  refine (State.modStream_same ..).then rfl ?_
  exact Same.refl _ _
  intro _ _
  refine (State.failCommit_same ..).then rfl ?_
  exact Same.refl _ _

theorem State.sendAck_same (s : State) (qpn : Nat) :
    Same { net := true, sch := true } s (State.sendAck s qpn) := by
  unfold State.sendAck
  dsimp only
  split
  exact Same.refl _ _
  refine (State.control_same ..).then rfl ?_
  refine (State.modQp_same ..).then rfl ?_
  exact Same.refl _ _

theorem State.deliver_same (s : State) (qpn : Nat) (m : InMsg) :
    Same { net := true } s (State.deliver s qpn m) := by
  unfold State.deliver
  dsimp only
  split
  exact Same.refl _ _
  refine Same.ite ?_ ?_
  refine Same.update ?_
  refine (State.modQp_same ..).then rfl ?_
  exact Same.refl _ _
  refine (State.modQp_same ..).then rfl ?_
  exact Same.refl _ _

theorem State.deliverHeldFuel_same (x0 : Nat) (x1 : State) (x2 : Nat) :
    Same { net := true } x1 (State.deliverHeldFuel x0 x1 x2) := by
  induction x0 generalizing x1 with
  | zero => exact Same.refl _ _
  | succ n ih_deliverHeldFuel =>
    unfold State.deliverHeldFuel
    split
    exact Same.refl _ _
    dsimp only
    refine (ih_deliverHeldFuel ..).then rfl ?_
    refine (State.deliver_same ..).then rfl ?_
    refine (State.modQp_same ..).then rfl ?_
    exact Same.refl _ _

theorem State.deliverHeld_same (s : State) (qpn : Nat) :
    Same { net := true } s (State.deliverHeld s qpn) := by
  unfold State.deliverHeld
  refine (State.deliverHeldFuel_same ..).then rfl ?_
  exact Same.refl _ _

theorem State.releaseHeld_same (s : State) (qpn : Nat) :
    Same { net := true, sch := true } s (State.releaseHeld s qpn) := by
  unfold State.releaseHeld
  split
  exact Same.refl _ _
  refine (State.sendAck_same ..).then rfl ?_
  refine (State.deliverHeld_same ..).then rfl ?_
  exact Same.refl _ _

theorem State.deliverOrHold_same (s : State) (qpn : Nat) (m : InMsg) :
    Same { net := true, sch := true } s (State.deliverOrHold s qpn m) := by
  unfold State.deliverOrHold
  dsimp only
  refine Same.ite ?_ ?_
  refine (State.releaseHeld_same ..).then rfl ?_
  refine (State.modQp_same ..).then rfl ?_
  exact Same.refl _ _
  refine (State.deliver_same ..).then rfl ?_
  exact Same.refl _ _

theorem State.placeLines_same (s : State) (w : Window) (addr : Nat) (data : Bytes) :
    Same { store := true, mem := true } s (State.placeLines s w addr data) := by
  unfold State.placeLines
  dsimp only
  refine Same.updateMem ?_ rfl Memory.wf_writeBytes
  exact Same.refl _ _

theorem execLread_same (m : Msg) (s : State) :
    OutSame { rng := true, net := true, maps := true, eng := true, sch := true, pwr := true } s (execLread m s) := by
  unfold execLread
  dsimp only
  split
  apply OutSame.next
  exact Same.refl _ _
  split
  apply OutSame.next
  exact Same.refl _ _
  split
  apply OutSame.next
  refine (State.nakFail_same ..).then rfl ?_
  exact Same.refl _ _
  split
  apply OutSame.next
  refine (State.answer_same ..).then rfl ?_
  exact Same.refl _ _
  split
  apply OutSame.next
  refine (State.answer_same ..).then rfl ?_
  exact Same.refl _ _
  split
  apply OutSame.next
  refine (State.answer_same ..).then rfl ?_
  exact Same.refl _ _
  split
  apply OutSame.next
  refine (State.answer_same ..).then rfl ?_
  exact Same.refl _ _
  split
  apply OutSame.next
  refine (State.answer_same ..).then rfl ?_
  exact Same.refl _ _
  apply OutSame.next
  refine (State.answer_same ..).then rfl ?_
  exact Same.refl _ _

theorem execLwrite_same (m : Msg) (s : State) :
    OutSame { rng := true, net := true, maps := true, store := true, eng := true, sch := true, pwr := true, mem :=
              true } s (execLwrite m s) := by
  unfold execLwrite
  dsimp only
  split
  apply OutSame.next
  exact Same.refl _ _
  split
  apply OutSame.next
  exact Same.refl _ _
  split
  apply OutSame.next
  refine (State.nakFail_same ..).then rfl ?_
  exact Same.refl _ _
  split
  apply OutSame.next
  refine (State.nakFail_same ..).then rfl ?_
  exact Same.refl _ _
  split
  apply OutSame.next
  refine (State.nakFail_same ..).then rfl ?_
  exact Same.refl _ _
  apply OutSame.next
  refine (State.releaseHeld_same ..).then rfl ?_
  refine (State.consume_same ..).then rfl ?_
  refine (State.placeLines_same ..).then rfl ?_
  exact Same.refl _ _

theorem State.recordResult_same (s : State) (w : Window) (line : Bytes) (result : Nat) :
    Same { maps := true } s (State.recordResult s w line result) := by
  unfold State.recordResult
  refine (State.modWindow_same ..).then rfl ?_
  exact Same.refl _ _

theorem execLwriteFinal_same (m : Msg) (s : State) :
    OutSame { rng := true, net := true, maps := true, eng := true, sch := true, pwr := true } s (execLwriteFinal m s)
        := by
  unfold execLwriteFinal
  dsimp only
  split
  apply OutSame.next
  exact Same.refl _ _
  split
  apply OutSame.next
  exact Same.refl _ _
  split
  apply OutSame.next
  refine (State.nakFail_same ..).then rfl ?_
  exact Same.refl _ _
  split
  apply OutSame.next
  refine (State.nakFail_same ..).then rfl ?_
  exact Same.refl _ _
  split
  apply OutSame.next
  refine (State.nakFail_same ..).then rfl ?_
  exact Same.refl _ _
  apply OutSame.next
  refine (State.modQp_same ..).then rfl ?_
  refine Same.update ?_
  exact Same.refl _ _

theorem State.settleFinal_same (s : State) (qpn : Nat) :
    Same { net := true } s (State.settleFinal s qpn) := by
  unfold State.settleFinal
  dsimp only
  refine (State.modQp_same ..).then rfl ?_
  exact Same.refl _ _

theorem execFinalTakesEffect_same (qpn : Nat) (psn : Nat) (s : State) :
    OutSame { net := true, maps := true, store := true, sch := true, mem := true } s (execFinalTakesEffect qpn psn s)
        := by
  unfold execFinalTakesEffect
  dsimp only
  split
  apply OutSame.next
  exact Same.refl _ _
  split
  apply OutSame.next
  exact Same.refl _ _
  apply OutSame.next
  refine (State.sendAck_same ..).then rfl ?_
  refine (State.deliverHeld_same ..).then rfl ?_
  refine (State.consume_same ..).then rfl ?_
  refine (State.modQp_same ..).then rfl ?_
  refine Same.ite ?_ ?_
  refine (State.placeLines_same ..).then rfl ?_
  exact Same.refl _ _
  refine Same.ite ?_ ?_
  exact Same.refl _ _
  refine (State.recordResult_same ..).then rfl ?_
  exact Same.refl _ _

theorem State.controlDone_same (s : State) (qpn : Nat) (w : Window) (line : Bytes) (result : Nat) :
    Same { net := true, maps := true } s (State.controlDone s qpn w line result) := by
  unfold State.controlDone
  refine (State.settleFinal_same ..).then rfl ?_
  refine (State.recordResult_same ..).then rfl ?_
  exact Same.refl _ _

theorem State.giveRegion_same (s : State) (index : Nat) (node : Nat) (paddock : Nat) :
    Same { maps := true } s (State.giveRegion s index node paddock) := by
  unfold State.giveRegion
  dsimp only
  refine Same.update ?_
  exact Same.refl _ _

theorem execHandover_same (qpn : Nat) (psn : Nat) (s : State) :
    OutSame { net := true, maps := true } s (execHandover qpn psn s) := by
  unfold execHandover
  split
  apply OutSame.next
  exact Same.refl _ _
  split
  apply OutSame.next
  refine (State.controlDone_same ..).then rfl ?_
  exact Same.refl _ _
  split
  apply OutSame.next
  refine (State.controlDone_same ..).then rfl ?_
  exact Same.refl _ _
  split
  apply OutSame.next
  refine (State.controlDone_same ..).then rfl ?_
  exact Same.refl _ _
  apply OutSame.next
  refine (State.controlDone_same ..).then rfl ?_
  refine (State.giveRegion_same ..).then rfl ?_
  exact Same.refl _ _

theorem execForceOwner_same (qpn : Nat) (psn : Nat) (s : State) :
    OutSame { rng := true, net := true, maps := true } s (execForceOwner qpn psn s) := by
  unfold execForceOwner
  split
  apply OutSame.next
  exact Same.refl _ _
  split
  apply OutSame.next
  refine (State.controlDone_same ..).then rfl ?_
  exact Same.refl _ _
  split
  apply OutSame.next
  refine (State.controlDone_same ..).then rfl ?_
  refine Same.update ?_
  exact Same.refl _ _
  split
  apply OutSame.next
  refine (State.controlDone_same ..).then rfl ?_
  exact Same.refl _ _
  split
  apply OutSame.next
  exact Same.refl _ _
  apply OutSame.next
  refine (State.controlDone_same ..).then rfl ?_
  refine (State.giveRegion_same ..).then rfl ?_
  exact Same.refl _ _

theorem execEpochStage_same (qpn : Nat) (psn : Nat) (s : State) :
    OutSame { rng := true, net := true, maps := true, sch := true } s (execEpochStage qpn psn s) := by
  unfold execEpochStage
  dsimp only
  split
  apply OutSame.next
  exact Same.refl _ _
  split
  apply OutSame.next
  refine (State.controlDone_same ..).then rfl ?_
  exact Same.refl _ _
  split
  apply OutSame.next
  exact Same.refl _ _
  apply OutSame.next
  refine (State.askFm_same ..).then rfl ?_
  refine (State.controlDone_same ..).then rfl ?_
  refine (State.modEpochs_same ..).then rfl ?_
  split
  exact Same.refl _ _
  refine (State.dropSlot_same ..).then rfl ?_
  exact Same.refl _ _

theorem execEpochPublish_same (qpn : Nat) (psn : Nat) (s : State) :
    OutSame { out := true, rng := true, farrier := true, boot := true, regs := true, host := true, log := true, pads
              := true, net := true, maps := true, store := true, eng := true, sch := true, leases := true } s
              (execEpochPublish qpn psn s) := by
  unfold execEpochPublish
  dsimp only
  split
  apply OutSame.next
  exact Same.refl _ _
  split
  apply OutSame.next
  refine (State.controlDone_same ..).then rfl ?_
  exact Same.refl _ _
  split
  refine State.finish_same rfl ?_
  refine Same.ite ?_ ?_
  refine (State.publishOrHold_same ..).then rfl ?_
  exact Same.refl _ _
  refine (State.controlDone_same ..).then rfl ?_
  refine (State.publishOrHold_same ..).then rfl ?_
  exact Same.refl _ _
  split
  apply OutSame.next
  refine (State.controlDone_same ..).then rfl ?_
  exact Same.refl _ _
  apply OutSame.next
  refine (State.controlDone_same ..).then rfl ?_
  refine Same.update ?_
  exact Same.refl _ _

theorem execDrainEnd_same (s : State) :
    OutSame { out := true, rng := true, time := true, farrier := true, boot := true, regs := true, host := true, log
              := true, pads := true, net := true, maps := true, store := true, eng := true, sch := true, leases :=
              true } s (execDrainEnd s) := by
  unfold execDrainEnd
  dsimp only
  split
  apply OutSame.next
  exact Same.refl _ _
  split
  apply OutSame.next
  refine (State.modEpochs_same ..).then rfl ?_
  refine (State.advanceTo_same ..).then rfl ?_
  exact Same.refl _ _
  refine State.finish_same rfl ?_
  refine (State.endDrain_same ..).then rfl ?_
  refine (State.advanceTo_same ..).then rfl ?_
  exact Same.refl _ _

theorem execClearingDone_same (s : State) :
    OutSame { out := true, rng := true, farrier := true, boot := true, regs := true, host := true, log := true, pads
              := true, net := true, maps := true, store := true, eng := true, sch := true, leases := true } s
              (execClearingDone s) := by
  unfold execClearingDone
  dsimp only
  split
  apply OutSame.next
  exact Same.refl _ _
  split
  refine State.finish_same rfl ?_
  refine (State.endDrain_same ..).then rfl ?_
  refine (State.modEpochs_same ..).then rfl ?_
  refine (State.dropSlot_same ..).then rfl ?_
  exact Same.refl _ _
  apply OutSame.next
  refine (State.modEpochs_same ..).then rfl ?_
  refine (State.dropSlot_same ..).then rfl ?_
  exact Same.refl _ _

theorem State.areaRead_same (s : State) (qpn : Nat) (data : Bytes) :
    Same { rng := true, net := true, maps := true, store := true, sch := true } s (State.areaRead s qpn data) := by
  unfold State.areaRead
  dsimp only
  split
  exact Same.refl _ _
  refine Same.ite ?_ ?_
  refine (State.stageArea_same ..).then rfl ?_
  exact Same.refl _ _
  refine (State.rlaRead_same ..).then rfl ?_
  refine (State.modEpochs_same ..).then rfl ?_
  exact Same.refl _ _

theorem State.headerCame_same (s : State) (status : Nat) (data : Bytes) :
    Same { out := true, rng := true, farrier := true, boot := true, regs := true, host := true, log := true, pads :=
           true, net := true, maps := true, store := true, eng := true, sch := true, leases := true } s
           (State.headerCame s status data) := by
  unfold State.headerCame
  dsimp only
  refine Same.ite ?_ ?_
  refine (State.publishOrHold_same ..).then rfl ?_
  refine (State.modEpochs_same ..).then rfl ?_
  exact Same.refl _ _
  refine (State.modEpochs_same ..).then rfl ?_
  exact Same.refl _ _

theorem execLreadResponse_same (m : Msg) (s : State) :
    OutSame { out := true, rng := true, farrier := true, boot := true, regs := true, host := true, log := true, pads
              := true, net := true, maps := true, store := true, eng := true, sch := true, leases := true, pwr :=
              true } s (execLreadResponse m s) := by
  unfold execLreadResponse
  dsimp only
  split
  apply OutSame.next
  exact Same.refl _ _
  split
  apply OutSame.next
  exact Same.refl _ _
  split
  apply OutSame.next
  refine (State.nakFail_same ..).then rfl ?_
  exact Same.refl _ _
  split
  refine State.finish_same rfl ?_
  refine (State.headerCame_same ..).then rfl ?_
  refine (State.consume_same ..).then rfl ?_
  refine (State.modQp_same ..).then rfl ?_
  exact Same.refl _ _
  split
  apply OutSame.next
  refine (State.areaRead_same ..).then rfl ?_
  refine (State.consume_same ..).then rfl ?_
  refine (State.modQp_same ..).then rfl ?_
  exact Same.refl _ _
  apply OutSame.next
  refine (State.stageFail_same ..).then rfl ?_
  refine (State.consume_same ..).then rfl ?_
  refine (State.modQp_same ..).then rfl ?_
  exact Same.refl _ _
  split
  apply OutSame.next
  refine (State.consume_same ..).then rfl ?_
  refine (State.modQp_same ..).then rfl ?_
  exact Same.refl _ _
  split
  refine State.finish_same rfl ?_
  refine (State.statusRead_same ..).then rfl ?_
  refine (State.consume_same ..).then rfl ?_
  refine (State.modQp_same ..).then rfl ?_
  exact Same.refl _ _
  apply OutSame.next
  refine (State.failConn_same ..).then rfl ?_
  refine (State.consume_same ..).then rfl ?_
  refine (State.modQp_same ..).then rfl ?_
  exact Same.refl _ _

theorem State.commitNow_same (s : State) (w : Window) (qpn : Nat) (psn : Nat) (line : Bytes) :
    Same { out := true, rng := true, farrier := true, regs := true, host := true, log := true, pads := true, net :=
           true, maps := true, store := true, eng := true, sch := true, leases := true, pwr := true } s
           (State.commitNow s w qpn psn line) := by
  unfold State.commitNow
  split
  refine (State.settleFinal_same ..).then rfl ?_
  rename_i h2
  refine ((State.recvCommit_same ..).of _ h2).then rfl ?_
  exact Same.refl _ _
  refine (State.nakFail_same ..).then rfl ?_
  refine (State.refuseCommit_same ..).then rfl ?_
  exact Same.refl _ _

theorem execPairCommit_same (qpn : Nat) (psn : Nat) (s : State) :
    OutSame { out := true, rng := true, farrier := true, regs := true, host := true, log := true, pads := true, net
              := true, maps := true, store := true, eng := true, sch := true, leases := true, pwr := true } s
              (execPairCommit qpn psn s) := by
  unfold execPairCommit
  dsimp only
  split
  apply OutSame.next
  exact Same.refl _ _
  split
  split
  apply OutSame.next
  refine (State.holdOnce_same ..).then rfl ?_
  exact Same.refl _ _
  refine State.finish_same rfl ?_
  refine (State.commitNow_same ..).then rfl ?_
  exact Same.refl _ _
  refine State.finish_same rfl ?_
  refine (State.commitNow_same ..).then rfl ?_
  exact Same.refl _ _

theorem execPairCommitAck_same (stream : Nat) (seq : Nat) (s : State) :
    OutSame { out := true, rng := true, farrier := true, regs := true, host := true, log := true, pads := true, net
              := true, maps := true, store := true, eng := true, sch := true, leases := true, pwr := true } s
              (execPairCommitAck stream seq s) := by
  unfold execPairCommitAck
  split
  apply OutSame.next
  exact Same.refl _ _
  split
  apply OutSame.next
  exact Same.refl _ _
  refine State.finish_same rfl ?_
  refine (State.pumpStream_same ..).then rfl ?_
  refine (State.commitsDone_same ..).then rfl ?_
  exact Same.refl _ _

theorem execMirrorHoldExpiry_same (stream : Nat) (s : State) :
    OutSame { out := true, rng := true, time := true, farrier := true, regs := true, host := true, log := true, pads
              := true, net := true, maps := true, store := true, eng := true, sch := true, leases := true, pwr :=
              true } s (execMirrorHoldExpiry stream s) := by
  unfold execMirrorHoldExpiry
  split
  apply OutSame.next
  exact Same.refl _ _
  refine State.finish_same rfl ?_
  refine (State.afterUnits_same ..).then rfl ?_
  refine (State.giveUp_same ..).then rfl ?_
  refine (State.advanceTo_same ..).then rfl ?_
  exact Same.refl _ _

theorem execDeadlineReportTimer_same (s : State) :
    OutSame { rng := true, net := true, maps := true, eng := true, sch := true } s (execDeadlineReportTimer s) := by
  unfold execDeadlineReportTimer
  dsimp only
  apply OutSame.next
  refine Same.foldl ?_ ?_
  refine Same.update ?_
  exact Same.refl _ _
  intro _ _
  refine (State.queueCommit_same ..).then rfl ?_
  exact Same.refl _ _

theorem execResyncBlockSend_same (stream : Nat) (s : State) :
    OutSame { out := true, rng := true, farrier := true, regs := true, host := true, log := true, pads := true, net
              := true, maps := true, store := true, eng := true, sch := true, leases := true } s (execResyncBlockSend
              stream s) := by
  unfold execResyncBlockSend
  dsimp only
  split
  apply OutSame.next
  exact Same.refl _ _
  split
  apply OutSame.next
  exact Same.refl _ _
  split
  apply OutSame.next
  refine (State.modStream_same ..).then rfl ?_
  exact Same.refl _ _
  split
  apply OutSame.next
  rename_i h12
  refine (Same.of_fst (State.takeTurn_same ..) h12).then rfl ?_
  exact Same.refl _ _
  refine State.finish_same rfl ?_
  refine (State.queueCommit_same ..).then rfl ?_
  refine (State.modStream_same ..).then rfl ?_
  refine Same.ite ?_ ?_
  refine (State.modFault_same ..).then rfl ?_
  refine (State.verify_same ..).then rfl ?_
  refine (State.modStream_same ..).then rfl ?_
  rename_i h21
  refine (Same.of_fst (State.takeTurn_same ..) h21).then rfl ?_
  exact Same.refl _ _
  refine (State.verify_same ..).then rfl ?_
  refine (State.modStream_same ..).then rfl ?_
  rename_i h25
  refine (Same.of_fst (State.takeTurn_same ..) h25).then rfl ?_
  exact Same.refl _ _

end Sys2Proof.Machine
end

