-- ==== Sys2Proof/Laws/FrameNet.lean ====
section
/-! SUPPORT. Frames of the transport and of connections. -/

set_option Elab.async false

namespace Sys2Proof.Machine

theorem State.discardPkt_same (s : State) :
    Same { net := true } s (State.discardPkt s) := by
  unfold State.discardPkt
  dsimp only
  refine Same.update ?_
  exact Same.refl _ _

theorem State.ackBelow_same (s : State) (qpn : Nat) (p : Nat) :
    Same { net := true } s (State.ackBelow s qpn p).1 := by
  unfold State.ackBelow
  dsimp only
  split
  dsimp only
  exact Same.refl _ _
  split
  dsimp only
  exact Same.refl _ _
  dsimp only
  refine (State.modQp_same ..).then rfl ?_
  exact Same.refl _ _

theorem State.resendAll_same (s : State) (qpn : Nat) :
    Same { net := true, sch := true } s (State.resendAll s qpn) := by
  unfold State.resendAll
  dsimp only
  split
  exact Same.refl _ _
  refine Same.foldl ?_ ?_
  refine (State.modQp_same ..).then rfl ?_
  exact Same.refl _ _
  intro _ _
  refine (State.sendPkt_same ..).then rfl ?_
  exact Same.refl _ _

theorem State.goBack_same (s : State) (qpn : Nat) (shrink : Bool) :
    Same { rng := true, net := true, maps := true, eng := true, sch := true, pwr := true } s (State.goBack s qpn
        shrink) := by
  unfold State.goBack
  dsimp only
  split
  exact Same.refl _ _
  refine Same.ite ?_ ?_
  refine (State.failConn_same ..).then rfl ?_
  exact Same.refl _ _
  refine (State.resendAll_same ..).then rfl ?_
  refine (State.modQp_same ..).then rfl ?_
  exact Same.refl _ _

theorem State.takeAck_same (s : State) (q : Qp) (h : PktHead) :
    Same { net := true, sch := true } s (State.takeAck s q h) := by
  unfold State.takeAck
  dsimp only
  refine Same.ite ?_ ?_
  exact Same.refl _ _
  refine (State.pump_same ..).then rfl ?_
  refine (State.ackBelow_same ..).then rfl ?_
  exact Same.refl _ _

theorem State.takeNak_same (s : State) (q : Qp) (h : PktHead) :
    Same { rng := true, net := true, maps := true, eng := true, sch := true, pwr := true } s (State.takeNak s q h) :=
        by
  unfold State.takeNak
  dsimp only
  refine Same.ite ?_ ?_
  refine (State.failConn_same ..).then rfl ?_
  exact Same.refl _ _
  refine Same.ite ?_ ?_
  exact Same.refl _ _
  split
  refine (State.ackBelow_same ..).then rfl ?_
  exact Same.refl _ _
  refine Same.ite ?_ ?_
  refine (State.pump_same ..).then rfl ?_
  refine (State.ackBelow_same ..).then rfl ?_
  exact Same.refl _ _
  refine (State.pump_same ..).then rfl ?_
  refine (State.goBack_same ..).then rfl ?_
  refine (State.ackBelow_same ..).then rfl ?_
  exact Same.refl _ _

theorem State.takeRnr_same (s : State) (q : Qp) (h : PktHead) :
    Same { rng := true, net := true, maps := true, eng := true, sch := true, pwr := true } s (State.takeRnr s q h) :=
        by
  unfold State.takeRnr
  dsimp only
  refine Same.ite ?_ ?_
  exact Same.refl _ _
  refine Same.ite ?_ ?_
  refine (State.failConn_same ..).then rfl ?_
  refine (State.ackBelow_same ..).then rfl ?_
  exact Same.refl _ _
  refine (State.modQp_same ..).then rfl ?_
  refine (State.ackBelow_same ..).then rfl ?_
  exact Same.refl _ _

theorem State.takeCnp_same (s : State) (q : Qp) :
    Same { net := true } s (State.takeCnp s q) := by
  unfold State.takeCnp
  dsimp only
  refine Same.ite ?_ ?_
  exact Same.refl _ _
  refine (State.modQp_same ..).then rfl ?_
  exact Same.refl _ _

theorem State.noteAccept_same (s : State) (qpn : Nat) :
    Same { net := true } s (State.noteAccept s qpn) := by
  unfold State.noteAccept
  dsimp only
  refine (State.modQp_same ..).then rfl ?_
  exact Same.refl _ _

theorem State.afterAccept_same (s : State) (qpn : Nat) (h : PktHead) :
    Same { net := true, sch := true } s (State.afterAccept s qpn h) := by
  unfold State.afterAccept
  split
  exact Same.refl _ _
  refine Same.ite ?_ ?_
  exact Same.refl _ _
  refine Same.ite ?_ ?_
  refine (State.sendAck_same ..).then rfl ?_
  exact Same.refl _ _
  exact Same.refl _ _

theorem State.dupAck_same (s : State) (q : Qp) :
    Same { net := true, sch := true } s (State.dupAck s q) := by
  unfold State.dupAck
  split
  refine Same.ite ?_ ?_
  exact Same.refl _ _
  refine (State.sendAck_same ..).then rfl ?_
  exact Same.refl _ _
  refine (State.sendAck_same ..).then rfl ?_
  exact Same.refl _ _

theorem State.refuseOpen_same (s : State) (qpn : Nat) (psn : Nat) (delayUs : Nat) :
    Same { net := true, sch := true } s (State.refuseOpen s qpn psn delayUs) := by
  unfold State.refuseOpen
  dsimp only
  refine (State.control_same ..).then rfl ?_
  refine (State.modQp_same ..).then rfl ?_
  exact Same.refl _ _

theorem State.acceptInto_same (s : State) (q : Qp) (m : Option InMsg) (f : Frame) (payload : Bytes) :
    Same { pads := true, net := true } s (State.acceptInto s q m f payload).1 := by
  unfold State.acceptInto
  dsimp only
  refine (State.tally_same ..).then rfl ?_
  refine (State.modQp_same ..).then rfl ?_
  exact Same.refl _ _

theorem State.takeOrdered_same (s : State) (q : Qp) (f : Frame) (payload : Bytes) :
    Same { rng := true, pads := true, net := true, maps := true, eng := true, sch := true, pwr := true } s
        (State.takeOrdered s q f payload) := by
  unfold State.takeOrdered
  dsimp only
  refine Same.ite ?_ ?_
  refine (State.dupAck_same ..).then rfl ?_
  exact Same.refl _ _
  refine Same.ite ?_ ?_
  refine Same.ite ?_ ?_
  exact Same.refl _ _
  refine (State.control_same ..).then rfl ?_
  refine (State.modQp_same ..).then rfl ?_
  exact Same.refl _ _
  split
  refine (State.nakFail_same ..).then rfl ?_
  exact Same.refl _ _
  refine Same.ite ?_ ?_
  refine (State.nakFail_same ..).then rfl ?_
  exact Same.refl _ _
  refine Same.ite ?_ ?_
  refine (State.refuseOpen_same ..).then rfl ?_
  exact Same.refl _ _
  refine (State.afterAccept_same ..).then rfl ?_
  refine Same.ite ?_ ?_
  refine (State.deliverOrHold_same ..).then rfl ?_
  refine (State.modQp_same ..).then rfl ?_
  refine (State.noteAccept_same ..).then rfl ?_
  refine (State.acceptInto_same ..).then rfl ?_
  exact Same.refl _ _
  refine (State.modQp_same ..).then rfl ?_
  refine (State.noteAccept_same ..).then rfl ?_
  refine (State.acceptInto_same ..).then rfl ?_
  exact Same.refl _ _

theorem State.deliverReady_same (s : State) (qpn : Nat) :
    Same { net := true, sch := true } s (State.deliverReady s qpn) := by
  unfold State.deliverReady
  split
  exact Same.refl _ _
  refine (State.releaseHeld_same ..).then rfl ?_
  refine Same.foldl ?_ ?_
  exact Same.refl _ _
  intro _ _
  refine (State.deliverOrHold_same ..).then rfl ?_
  exact Same.refl _ _

theorem State.takeSprayed_same (s : State) (q : Qp) (f : Frame) (payload : Bytes) :
    Same { rng := true, pads := true, net := true, maps := true, eng := true, sch := true, pwr := true } s
        (State.takeSprayed s q f payload) := by
  unfold State.takeSprayed
  dsimp only
  refine Same.ite ?_ ?_
  refine (State.dupAck_same ..).then rfl ?_
  exact Same.refl _ _
  refine Same.ite ?_ ?_
  exact Same.refl _ _
  split
  refine (State.nakFail_same ..).then rfl ?_
  exact Same.refl _ _
  refine Same.ite ?_ ?_
  refine (State.nakFail_same ..).then rfl ?_
  exact Same.refl _ _
  refine Same.ite ?_ ?_
  refine (State.refuseOpen_same ..).then rfl ?_
  exact Same.refl _ _
  refine (State.afterAccept_same ..).then rfl ?_
  refine (State.deliverReady_same ..).then rfl ?_
  refine (State.noteAccept_same ..).then rfl ?_
  refine (State.modQp_same ..).then rfl ?_
  refine Same.ite ?_ ?_
  refine (State.acceptInto_same ..).then rfl ?_
  exact Same.refl _ _
  refine (State.modQp_same ..).then rfl ?_
  refine (State.acceptInto_same ..).then rfl ?_
  exact Same.refl _ _

theorem State.takeData_same (s : State) (q : Qp) (f : Frame) (payload : Bytes) :
    Same { rng := true, pads := true, net := true, maps := true, eng := true, sch := true, pwr := true } s
        (State.takeData s q f payload) := by
  unfold State.takeData
  dsimp only
  refine Same.ite ?_ ?_
  refine Same.ite ?_ ?_
  refine (State.control_same ..).then rfl ?_
  refine (State.modQp_same ..).then rfl ?_
  exact Same.refl _ _
  exact Same.refl _ _
  refine Same.ite ?_ ?_
  refine Same.ite ?_ ?_
  refine Same.ite ?_ ?_
  refine (State.control_same ..).then rfl ?_
  refine (State.modQp_same ..).then rfl ?_
  exact Same.refl _ _
  exact Same.refl _ _
  refine (State.refuseOpen_same ..).then rfl ?_
  refine Same.update ?_
  refine Same.ite ?_ ?_
  refine (State.control_same ..).then rfl ?_
  refine (State.modQp_same ..).then rfl ?_
  exact Same.refl _ _
  exact Same.refl _ _
  split
  refine (State.modQp_same ..).then rfl ?_
  refine Same.ite ?_ ?_
  refine (State.control_same ..).then rfl ?_
  refine (State.modQp_same ..).then rfl ?_
  exact Same.refl _ _
  exact Same.refl _ _
  refine Same.ite ?_ ?_
  refine (State.takeSprayed_same ..).then rfl ?_
  refine (State.modQp_same ..).then rfl ?_
  refine Same.ite ?_ ?_
  refine (State.control_same ..).then rfl ?_
  refine (State.modQp_same ..).then rfl ?_
  exact Same.refl _ _
  exact Same.refl _ _
  refine (State.takeOrdered_same ..).then rfl ?_
  refine (State.modQp_same ..).then rfl ?_
  refine Same.ite ?_ ?_
  refine (State.control_same ..).then rfl ?_
  refine (State.modQp_same ..).then rfl ?_
  exact Same.refl _ _
  exact Same.refl _ _

theorem State.blockFrame_same (s : State) (f : Frame) :
    Same { out := true, net := true } s (State.blockFrame s f) := by
  unfold State.blockFrame
  dsimp only
  refine Same.ite ?_ ?_
  refine Same.update ?_
  exact Same.refl _ _
  refine (State.emit_same ..).then rfl ?_
  refine (State.modLink_same ..).then rfl ?_
  refine Same.update ?_
  exact Same.refl _ _

theorem State.missFrame_same (s : State) (qpn : Nat) (f : Frame) :
    Same { out := true, net := true } s (State.missFrame s qpn f) := by
  unfold State.missFrame
  dsimp only
  refine Same.ite ?_ ?_
  refine (State.startFetch_same ..).then rfl ?_
  refine Same.update ?_
  exact Same.refl _ _
  refine (State.blockFrame_same ..).then rfl ?_
  exact Same.refl _ _

theorem State.takePacket_same (s : State) (qpn : Nat) (f : Frame) :
    Same { rng := true, pads := true, net := true, maps := true, eng := true, sch := true, pwr := true } s
        (State.takePacket s qpn f) := by
  unfold State.takePacket
  dsimp only
  split
  refine (State.discardPkt_same ..).then rfl ?_
  exact Same.refl _ _
  split
  refine (State.discardPkt_same ..).then rfl ?_
  exact Same.refl _ _
  split
  refine (State.discardPkt_same ..).then rfl ?_
  refine (State.touchContext_same ..).then rfl ?_
  refine (State.modQp_same ..).then rfl ?_
  exact Same.refl _ _
  refine Same.ite ?_ ?_
  refine (State.touchContext_same ..).then rfl ?_
  refine (State.modQp_same ..).then rfl ?_
  exact Same.refl _ _
  refine (State.control_same ..).then rfl ?_
  refine (State.modQp_same ..).then rfl ?_
  refine (State.touchContext_same ..).then rfl ?_
  refine (State.modQp_same ..).then rfl ?_
  exact Same.refl _ _
  split
  refine (State.takeData_same ..).then rfl ?_
  refine (State.touchContext_same ..).then rfl ?_
  refine (State.modQp_same ..).then rfl ?_
  exact Same.refl _ _
  refine (State.takeAck_same ..).then rfl ?_
  refine (State.tally_same ..).then rfl ?_
  refine (State.touchContext_same ..).then rfl ?_
  refine (State.modQp_same ..).then rfl ?_
  exact Same.refl _ _
  refine (State.takeNak_same ..).then rfl ?_
  refine (State.tally_same ..).then rfl ?_
  refine (State.touchContext_same ..).then rfl ?_
  refine (State.modQp_same ..).then rfl ?_
  exact Same.refl _ _
  refine (State.takeRnr_same ..).then rfl ?_
  refine (State.tally_same ..).then rfl ?_
  refine (State.touchContext_same ..).then rfl ?_
  refine (State.modQp_same ..).then rfl ?_
  exact Same.refl _ _
  refine (State.takeCnp_same ..).then rfl ?_
  refine (State.tally_same ..).then rfl ?_
  refine (State.touchContext_same ..).then rfl ?_
  refine (State.modQp_same ..).then rfl ?_
  exact Same.refl _ _
  refine (State.nakFail_same ..).then rfl ?_
  refine (State.touchContext_same ..).then rfl ?_
  refine (State.modQp_same ..).then rfl ?_
  exact Same.refl _ _

theorem State.receiveFrame_same (s : State) (f : Frame) :
    Same { out := true, rng := true, pads := true, net := true, maps := true, eng := true, sch := true, pwr := true }
        s (State.receiveFrame s f) := by
  unfold State.receiveFrame
  dsimp only
  split
  exact Same.refl _ _
  refine Same.ite ?_ ?_
  refine (State.modLink_same ..).then rfl ?_
  exact Same.refl _ _
  refine Same.ite ?_ ?_
  refine Same.update ?_
  exact Same.refl _ _
  split
  refine (State.discardPkt_same ..).then rfl ?_
  refine Same.ite ?_ ?_
  refine (State.wake_same ..).then rfl ?_
  exact Same.refl _ _
  exact Same.refl _ _
  refine Same.ite ?_ ?_
  refine (State.discardPkt_same ..).then rfl ?_
  refine Same.ite ?_ ?_
  refine (State.wake_same ..).then rfl ?_
  exact Same.refl _ _
  exact Same.refl _ _
  split
  refine (State.takePacket_same ..).then rfl ?_
  rename_i h22
  refine ((State.atHand_same ..).of _ h22).then rfl ?_
  refine Same.ite ?_ ?_
  refine Same.update ?_
  refine Same.ite ?_ ?_
  refine (State.wake_same ..).then rfl ?_
  exact Same.refl _ _
  exact Same.refl _ _
  refine Same.ite ?_ ?_
  refine (State.wake_same ..).then rfl ?_
  exact Same.refl _ _
  exact Same.refl _ _
  refine (State.missFrame_same ..).then rfl ?_
  refine Same.ite ?_ ?_
  refine Same.update ?_
  refine Same.ite ?_ ?_
  refine (State.wake_same ..).then rfl ?_
  exact Same.refl _ _
  exact Same.refl _ _
  refine Same.ite ?_ ?_
  refine (State.wake_same ..).then rfl ?_
  exact Same.refl _ _
  exact Same.refl _ _

theorem State.unblock_same (s : State) (port : Nat) :
    Same { out := true, rng := true, pads := true, net := true, maps := true, eng := true, sch := true, pwr := true }
        s (State.unblock s port) := by
  unfold State.unblock
  dsimp only
  refine Same.foldl ?_ ?_
  refine Same.foldl ?_ ?_
  refine Same.update ?_
  exact Same.refl _ _
  intro _ _
  refine (State.receiveFrame_same ..).then rfl ?_
  exact Same.refl _ _
  intro _ _
  refine (State.emit_same ..).then rfl ?_
  refine (State.modLink_same ..).then rfl ?_
  exact Same.refl _ _

theorem State.moreFetches_same (s : State) :
    Same { net := true } s (State.moreFetches s) := by
  unfold State.moreFetches
  dsimp only
  refine Same.foldl ?_ ?_
  refine Same.foldl ?_ ?_
  exact Same.refl _ _
  intro _ _
  refine (State.startFetch_same ..).then rfl ?_
  exact Same.refl _ _
  intro _ _
  refine (State.startFetch_same ..).then rfl ?_
  exact Same.refl _ _

theorem execDataPacket_same (f : Frame) (s : State) :
    OutSame { out := true, rng := true, pads := true, net := true, maps := true, eng := true, sch := true, pwr :=
              true } s (execDataPacket f s) := by
  unfold execDataPacket
  split
  apply OutSame.next
  refine (State.receiveFrame_same ..).then rfl ?_
  exact Same.refl _ _
  apply OutSame.next
  exact Same.refl _ _

theorem execSprayedDataPacket_same (f : Frame) (s : State) :
    OutSame { out := true, rng := true, pads := true, net := true, maps := true, eng := true, sch := true, pwr :=
              true } s (execSprayedDataPacket f s) := by
  unfold execSprayedDataPacket
  split
  apply OutSame.next
  refine (State.receiveFrame_same ..).then rfl ?_
  exact Same.refl _ _
  apply OutSame.next
  exact Same.refl _ _

theorem execAckReceive_same (f : Frame) (s : State) :
    OutSame { out := true, rng := true, pads := true, net := true, maps := true, eng := true, sch := true, pwr :=
              true } s (execAckReceive f s) := by
  unfold execAckReceive
  split
  apply OutSame.next
  refine (State.receiveFrame_same ..).then rfl ?_
  exact Same.refl _ _
  apply OutSame.next
  exact Same.refl _ _

theorem execNakReceive_same (f : Frame) (s : State) :
    OutSame { out := true, rng := true, pads := true, net := true, maps := true, eng := true, sch := true, pwr :=
              true } s (execNakReceive f s) := by
  unfold execNakReceive
  split
  apply OutSame.next
  refine (State.receiveFrame_same ..).then rfl ?_
  exact Same.refl _ _
  apply OutSame.next
  exact Same.refl _ _

theorem execRnrNakReceive_same (f : Frame) (s : State) :
    OutSame { out := true, rng := true, pads := true, net := true, maps := true, eng := true, sch := true, pwr :=
              true } s (execRnrNakReceive f s) := by
  unfold execRnrNakReceive
  split
  apply OutSame.next
  refine (State.receiveFrame_same ..).then rfl ?_
  exact Same.refl _ _
  apply OutSame.next
  exact Same.refl _ _

theorem execCnpReceive_same (f : Frame) (s : State) :
    OutSame { out := true, rng := true, pads := true, net := true, maps := true, eng := true, sch := true, pwr :=
              true } s (execCnpReceive f s) := by
  unfold execCnpReceive
  split
  apply OutSame.next
  refine (State.receiveFrame_same ..).then rfl ?_
  exact Same.refl _ _
  apply OutSame.next
  exact Same.refl _ _

theorem execRtoExpiry_same (qpn : Nat) (s : State) :
    OutSame { rng := true, time := true, net := true, maps := true, eng := true, sch := true, pwr := true } s
        (execRtoExpiry qpn s) := by
  unfold execRtoExpiry
  split
  apply OutSame.next
  exact Same.refl _ _
  split
  apply OutSame.next
  exact Same.refl _ _
  split
  apply OutSame.next
  refine (State.pump_same ..).then rfl ?_
  refine (State.goBack_same ..).then rfl ?_
  refine (State.advanceTo_same ..).then rfl ?_
  exact Same.refl _ _
  apply OutSame.next
  exact Same.refl _ _

theorem execAckDelayExpiry_same (qpn : Nat) (s : State) :
    OutSame { time := true, net := true, sch := true } s (execAckDelayExpiry qpn s) := by
  unfold execAckDelayExpiry
  split
  apply OutSame.next
  exact Same.refl _ _
  split
  apply OutSame.next
  exact Same.refl _ _
  split
  apply OutSame.next
  refine (State.sendAck_same ..).then rfl ?_
  refine (State.advanceTo_same ..).then rfl ?_
  exact Same.refl _ _
  apply OutSame.next
  exact Same.refl _ _

theorem execHoleTimerExpiry_same (qpn : Nat) (s : State) :
    OutSame { time := true, net := true, sch := true } s (execHoleTimerExpiry qpn s) := by
  unfold execHoleTimerExpiry
  dsimp only
  split
  apply OutSame.next
  exact Same.refl _ _
  split
  apply OutSame.next
  exact Same.refl _ _
  split
  apply OutSame.next
  refine (State.modQp_same ..).then rfl ?_
  refine (State.advanceTo_same ..).then rfl ?_
  exact Same.refl _ _
  apply OutSame.next
  refine (State.control_same ..).then rfl ?_
  refine (State.modQp_same ..).then rfl ?_
  refine (State.advanceTo_same ..).then rfl ?_
  exact Same.refl _ _

theorem execRnrDelayExpiry_same (qpn : Nat) (s : State) :
    OutSame { time := true, net := true, sch := true } s (execRnrDelayExpiry qpn s) := by
  unfold execRnrDelayExpiry
  dsimp only
  split
  apply OutSame.next
  exact Same.refl _ _
  split
  apply OutSame.next
  exact Same.refl _ _
  split
  apply OutSame.next
  refine (State.pump_same ..).then rfl ?_
  refine (State.resendAll_same ..).then rfl ?_
  refine (State.modQp_same ..).then rfl ?_
  refine (State.advanceTo_same ..).then rfl ?_
  exact Same.refl _ _
  apply OutSame.next
  refine (State.modQp_same ..).then rfl ?_
  refine (State.advanceTo_same ..).then rfl ?_
  exact Same.refl _ _

theorem State.quarantine_same (s : State) (qpn : Nat) :
    Same { rng := true, net := true, maps := true, eng := true, sch := true, pwr := true } s (State.quarantine s qpn)
        := by
  unfold State.quarantine
  dsimp only
  refine (State.reconnect_same ..).then rfl ?_
  refine Same.update ?_
  refine (State.modQp_same ..).then rfl ?_
  refine (State.connError_same ..).then rfl ?_
  exact Same.refl _ _

theorem execQpErrorHoldExpiry_same (qpn : Nat) (s : State) :
    OutSame { rng := true, time := true, net := true, maps := true, eng := true, sch := true, pwr := true } s
        (execQpErrorHoldExpiry qpn s) := by
  unfold execQpErrorHoldExpiry
  split
  apply OutSame.next
  exact Same.refl _ _
  split
  apply OutSame.next
  refine (State.quarantine_same ..).then rfl ?_
  refine (State.advanceTo_same ..).then rfl ?_
  exact Same.refl _ _
  split
  apply OutSame.next
  refine (State.quarantine_same ..).then rfl ?_
  refine (State.advanceTo_same ..).then rfl ?_
  exact Same.refl _ _
  apply OutSame.next
  exact Same.refl _ _
  apply OutSame.next
  exact Same.refl _ _

theorem execQpnQuarantineExpiry_same (qpn : Nat) (s : State) :
    OutSame { time := true, net := true } s (execQpnQuarantineExpiry qpn s) := by
  unfold execQpnQuarantineExpiry
  dsimp only
  split
  apply OutSame.next
  exact Same.refl _ _
  split
  apply OutSame.next
  refine Same.update ?_
  refine (State.advanceTo_same ..).then rfl ?_
  exact Same.refl _ _
  apply OutSame.next
  exact Same.refl _ _

theorem execContextFetchDone_same (qpn : Nat) (good : Bool) (s : State) :
    OutSame { out := true, rng := true, pads := true, net := true, maps := true, eng := true, sch := true, pwr :=
              true } s (execContextFetchDone qpn good s) := by
  unfold execContextFetchDone
  dsimp only
  split
  apply OutSame.next
  exact Same.refl _ _
  split
  apply OutSame.next
  refine (State.makeRoom_same ..).then rfl ?_
  exact Same.refl _ _
  apply OutSame.next
  refine (State.moreFetches_same ..).then rfl ?_
  refine Same.foldl ?_ ?_
  refine (State.pump_same ..).then rfl ?_
  refine (State.flushControl_same ..).then rfl ?_
  refine Same.foldl ?_ ?_
  refine Same.ite ?_ ?_
  refine Same.update ?_
  refine (State.modQp_same ..).then rfl ?_
  exact Same.refl _ _
  refine (State.failConn_same ..).then rfl ?_
  refine Same.update ?_
  refine (State.modQp_same ..).then rfl ?_
  exact Same.refl _ _
  intro _ _
  refine (State.takePacket_same ..).then rfl ?_
  exact Same.refl _ _
  intro _ _
  refine (State.unblock_same ..).then rfl ?_
  exact Same.refl _ _

theorem execContextWriteBackDone_same (qpn : Nat) (s : State) :
    OutSame { net := true } s (execContextWriteBackDone qpn s) := by
  unfold execContextWriteBackDone
  dsimp only
  split
  apply OutSame.next
  exact Same.refl _ _
  apply OutSame.next
  refine (State.moreFetches_same ..).then rfl ?_
  refine Same.update ?_
  refine (State.modQp_same ..).then rfl ?_
  exact Same.refl _ _

theorem State.conRefuse_same (s : State) (c : Connect) (status : Nat) :
    Same { sch := true } s (State.conRefuse s c status) := by
  unfold State.conRefuse
  refine (State.sendConnect_same ..).then rfl ?_
  exact Same.refl _ _

theorem execHello_same (c : Connect) (s : State) :
    OutSame { net := true, sch := true, pwr := true } s (execHello c s) := by
  unfold execHello
  dsimp only
  split
  apply OutSame.next
  refine (State.wake_same ..).then rfl ?_
  exact Same.refl _ _
  split
  apply OutSame.next
  exact Same.refl _ _
  split
  apply OutSame.next
  refine (State.conRefuse_same ..).then rfl ?_
  exact Same.refl _ _
  apply OutSame.next
  refine (State.sendConnect_same ..).then rfl ?_
  refine Same.update ?_
  exact Same.refl _ _

theorem State.conAllocate_same (s : State) (c : Connect) (key : Bytes) (nonceI : Bytes) (qpn : Nat) :
    Same { rng := true, net := true } s (State.conAllocate s c key nonceI qpn).1 := by
  unfold State.conAllocate
  dsimp only
  refine (State.cacheNew_same ..).then rfl ?_
  refine Same.update ?_
  refine (State.choose_same ..).then rfl ?_
  refine (State.choose_same ..).then rfl ?_
  refine (State.drawNat_same ..).then rfl ?_
  refine (State.drawNat_same ..).then rfl ?_
  exact Same.refl _ _

theorem execProof_same (c : Connect) (s : State) :
    OutSame { rng := true, net := true, maps := true, eng := true, sch := true, pwr := true } s (execProof c s) := by
  unfold execProof
  dsimp only
  split
  apply OutSame.next
  refine (State.wake_same ..).then rfl ?_
  exact Same.refl _ _
  split
  apply OutSame.next
  exact Same.refl _ _
  split
  split
  apply OutSame.next
  refine (State.sendConnect_same ..).then rfl ?_
  exact Same.refl _ _
  apply OutSame.next
  exact Same.refl _ _
  split
  apply OutSame.next
  refine (State.conRefuse_same ..).then rfl ?_
  exact Same.refl _ _
  split
  apply OutSame.next
  refine (State.conRefuse_same ..).then rfl ?_
  rename_i h21
  refine (Same.of_snd (State.freeQpn_same ..) h21).then rfl ?_
  exact Same.refl _ _
  split
  apply OutSame.next
  refine (State.modWindow_same ..).then rfl ?_
  refine (State.failConn_same ..).then rfl ?_
  refine Same.update ?_
  refine (State.conAllocate_same ..).then rfl ?_
  rename_i h29 _ _ _ _ _ _
  refine (Same.of_snd (State.freeQpn_same ..) h29).then rfl ?_
  exact Same.refl _ _
  apply OutSame.next
  refine (State.sendConnect_same ..).then rfl ?_
  refine Same.update ?_
  refine (State.conAllocate_same ..).then rfl ?_
  rename_i h35 _ _ _
  refine (Same.of_snd (State.freeQpn_same ..) h35).then rfl ?_
  exact Same.refl _ _

theorem execWindowTakeoverAccept_same (window : Nat) (s : State) :
    OutSame { net := true, maps := true, sch := true } s (execWindowTakeoverAccept window s) := by
  unfold execWindowTakeoverAccept
  dsimp only
  split
  apply OutSame.next
  exact Same.refl _ _
  split
  apply OutSame.next
  refine (State.modWindow_same ..).then rfl ?_
  exact Same.refl _ _
  apply OutSame.next
  refine (State.sendConnect_same ..).then rfl ?_
  refine Same.update ?_
  refine (State.modWindow_same ..).then rfl ?_
  exact Same.refl _ _

theorem State.modAttempt_same (s : State) (q : Nat) (f : Attempt → Attempt) :
    Same { net := true } s (State.modAttempt s q f) := by
  unfold State.modAttempt
  dsimp only
  refine Same.update ?_
  exact Same.refl _ _

theorem execChallenge_same (c : Connect) (s : State) :
    OutSame { net := true, sch := true } s (execChallenge c s) := by
  unfold execChallenge
  dsimp only
  split
  apply OutSame.next
  exact Same.refl _ _
  split
  apply OutSame.next
  exact Same.refl _ _
  apply OutSame.next
  refine (State.sendConnect_same ..).then rfl ?_
  refine (State.modAttempt_same ..).then rfl ?_
  exact Same.refl _ _

theorem State.freshPort_same (s : State) (partner : Nat) :
    Same { rng := true } s (State.freshPort s partner).2 := by
  unfold State.freshPort
  dsimp only
  refine (State.choose_same ..).then rfl ?_
  exact Same.refl _ _

theorem State.connected_same (s : State) (a : Attempt) :
    Same { net := true, maps := true, sch := true } s (State.connected s a) := by
  unfold State.connected
  dsimp only
  split
  refine (State.rlaRead_same ..).then rfl ?_
  refine (State.modStream_same ..).then rfl ?_
  exact Same.refl _ _
  refine Same.ite ?_ ?_
  refine (State.rlaRead_same ..).then rfl ?_
  refine Same.ite ?_ ?_
  refine (State.rlaRead_same ..).then rfl ?_
  exact Same.refl _ _
  exact Same.refl _ _
  refine Same.ite ?_ ?_
  refine (State.rlaRead_same ..).then rfl ?_
  exact Same.refl _ _
  exact Same.refl _ _

theorem execAccept_same (c : Connect) (s : State) :
    OutSame { rng := true, net := true, maps := true, sch := true } s (execAccept c s) := by
  unfold execAccept
  dsimp only
  split
  apply OutSame.next
  exact Same.refl _ _
  split
  apply OutSame.next
  exact Same.refl _ _
  apply OutSame.next
  refine (State.connected_same ..).then rfl ?_
  refine (State.cacheNew_same ..).then rfl ?_
  refine Same.update ?_
  refine (State.freshPort_same ..).then rfl ?_
  exact Same.refl _ _

theorem State.attemptFailed_same (s : State) (a : Attempt) :
    Same { rng := true, net := true, maps := true, sch := true } s (State.attemptFailed s a) := by
  unfold State.attemptFailed
  dsimp only
  split
  refine Same.ite ?_ ?_
  refine (State.stageFail_same ..).then rfl ?_
  refine (State.modEpochs_same ..).then rfl ?_
  refine Same.update ?_
  exact Same.refl _ _
  refine (State.modEpochs_same ..).then rfl ?_
  refine Same.update ?_
  exact Same.refl _ _
  refine (State.reconnect_same ..).then rfl ?_
  refine (State.modStream_same ..).then rfl ?_
  refine Same.update ?_
  exact Same.refl _ _

theorem execRefuse_same (c : Connect) (s : State) :
    OutSame { rng := true, net := true, maps := true, sch := true } s (execRefuse c s) := by
  unfold execRefuse
  split
  apply OutSame.next
  exact Same.refl _ _
  split
  apply OutSame.next
  exact Same.refl _ _
  apply OutSame.next
  refine (State.attemptFailed_same ..).then rfl ?_
  exact Same.refl _ _

theorem execConnectResendTimeout_same (initQpn : Nat) (s : State) :
    OutSame { rng := true, time := true, net := true, maps := true, sch := true } s (execConnectResendTimeout initQpn
        s) := by
  unfold execConnectResendTimeout
  dsimp only
  split
  apply OutSame.next
  exact Same.refl _ _
  split
  apply OutSame.next
  refine (State.attemptFailed_same ..).then rfl ?_
  refine (State.advanceTo_same ..).then rfl ?_
  exact Same.refl _ _
  apply OutSame.next
  refine (State.sendConnect_same ..).then rfl ?_
  refine (State.modAttempt_same ..).then rfl ?_
  refine (State.advanceTo_same ..).then rfl ?_
  exact Same.refl _ _

theorem execDisconnect_same (m : Msg) (s : State) :
    OutSame { rng := true, net := true, maps := true, sch := true } s (execDisconnect m s) := by
  unfold execDisconnect
  dsimp only
  split
  apply OutSame.next
  exact Same.refl _ _
  split
  apply OutSame.next
  exact Same.refl _ _
  apply OutSame.next
  refine (State.reconnect_same ..).then rfl ?_
  refine (State.dropStaging_same ..).then rfl ?_
  refine (State.consume_same ..).then rfl ?_
  refine Same.update ?_
  refine (State.modQp_same ..).then rfl ?_
  exact Same.refl _ _

theorem execDisconnectAcked_same (qpn : Nat) (s : State) :
    OutSame { rng := true, net := true, maps := true, eng := true, sch := true, pwr := true } s (execDisconnectAcked
        qpn s) := by
  unfold execDisconnectAcked
  dsimp only
  split
  apply OutSame.next
  exact Same.refl _ _
  split
  apply OutSame.next
  exact Same.refl _ _
  split
  apply OutSame.next
  refine (State.quarantine_same ..).then rfl ?_
  refine Same.ite ?_ ?_
  refine (State.sendAck_same ..).then rfl ?_
  exact Same.refl _ _
  exact Same.refl _ _
  apply OutSame.next
  exact Same.refl _ _

end Sys2Proof.Machine
end

