-- ==== Sys2Proof/Laws/FrameStore.lean ====
section
/-! SUPPORT. Frames of paddocks, tiers, leases and repair. -/

set_option Elab.async false

namespace Sys2Proof.Machine

theorem State.bringUpPad_same (s : State) (p : Nat) (c : PadConfig) (ktp : Bytes) :
    Same { pads := true } s (State.bringUpPad s p c ktp) := by
  unfold State.bringUpPad
  refine (State.modPad_same ..).then rfl ?_
  exact Same.refl _ _

theorem State.flushQueued_same (s : State) (p : Nat) :
    Same { out := true, rng := true, farrier := true, regs := true, host := true, log := true, pads := true, net :=
           true, maps := true, store := true, eng := true, sch := true, leases := true, pwr := true } s
           (State.flushQueued s p) := by
  unfold State.flushQueued
  dsimp only
  refine Same.foldl ?_ ?_
  refine Same.update ?_
  exact Same.refl _ _
  intro _ _
  split
  exact Same.refl _ _
  refine (State.failOp_same ..).then rfl ?_
  exact Same.refl _ _

theorem State.untag_same (s : State) (p : Nat) :
    Same { maps := true, store := true, eng := true } s (State.untag s p) := by
  unfold State.untag
  dsimp only
  refine (State.ledgerRemove_same ..).then rfl ?_
  refine Same.update ?_
  exact Same.refl _ _

theorem State.zeroise_same (s : State) (p : Nat) :
    Same { pads := true, net := true, maps := true, store := true, eng := true, sch := true } s (State.zeroise s p)
        := by
  unfold State.zeroise
  dsimp only
  refine (State.dropWork_same ..).then rfl ?_
  refine (State.untag_same ..).then rfl ?_
  refine (State.modPad_same ..).then rfl ?_
  refine Same.update ?_
  exact Same.refl _ _

theorem State.zeroTeardown_same (s : State) (x : Pad) :
    Same { pads := true, net := true, maps := true, store := true, eng := true, sch := true, leases := true } s
        (State.zeroTeardown s x) := by
  unfold State.zeroTeardown
  dsimp only
  refine Same.ite ?_ ?_
  exact Same.refl _ _
  refine Same.ite ?_ ?_
  refine Same.update ?_
  refine (State.modPad_same ..).then rfl ?_
  refine (State.zeroise_same ..).then rfl ?_
  exact Same.refl _ _
  refine Same.update ?_
  refine (State.modPad_same ..).then rfl ?_
  refine (State.zeroise_same ..).then rfl ?_
  exact Same.refl _ _

theorem State.zeroTeardowns_same (s : State) :
    Same { pads := true, net := true, maps := true, store := true, eng := true, sch := true, leases := true } s
        (State.zeroTeardowns s) := by
  unfold State.zeroTeardowns
  refine Same.foldl ?_ ?_
  exact Same.refl _ _
  intro _ _
  refine (State.zeroTeardown_same ..).then rfl ?_
  exact Same.refl _ _

theorem State.startTeardown_same (s : State) (p : Nat) :
    Same { out := true, rng := true, farrier := true, regs := true, host := true, log := true, pads := true, net :=
           true, maps := true, store := true, eng := true, sch := true, leases := true, pwr := true } s
           (State.startTeardown s p) := by
  unfold State.startTeardown
  dsimp only
  refine (State.zeroTeardowns_same ..).then rfl ?_
  refine (State.abandonMoves_same ..).then rfl ?_
  refine Same.update ?_
  refine (State.flushQueued_same ..).then rfl ?_
  refine Same.foldl ?_ ?_
  refine (State.modPad_same ..).then rfl ?_
  exact Same.refl _ _
  intro _ _
  refine (State.closeWindow_same ..).then rfl ?_
  exact Same.refl _ _

theorem State.requestTeardown_same (s : State) (p : Nat) :
    Same { out := true, rng := true, farrier := true, regs := true, host := true, log := true, pads := true, net :=
           true, maps := true, store := true, eng := true, sch := true, leases := true, pwr := true } s
           (State.requestTeardown s p) := by
  unfold State.requestTeardown
  split
  exact Same.refl _ _
  refine (State.modPad_same ..).then rfl ?_
  exact Same.refl _ _
  refine (State.startTeardown_same ..).then rfl ?_
  exact Same.refl _ _

theorem State.clearWindows_same (s : State) (p : Nat) :
    Same { maps := true, mem := true } s (State.clearWindows s p) := by
  unfold State.clearWindows
  dsimp only
  refine Same.updateMem ?_ rfl Memory.wf_filter
  refine Same.foldl ?_ ?_
  exact Same.refl _ _
  intro _ _
  refine (State.dropRegions_same ..).then rfl ?_
  exact Same.refl _ _

theorem State.freshSched_same (s : State) (p : Nat) :
    Same { sch := true } s (State.freshSched s p) := by
  unfold State.freshSched
  dsimp only
  refine Same.update ?_
  exact Same.refl _ _

theorem State.purgePad_same (s : State) (p : Nat) :
    Same { maps := true, store := true, eng := true, sch := true } s (State.purgePad s p) := by
  unfold State.purgePad
  dsimp only
  refine Same.update ?_
  refine (State.freshSched_same ..).then rfl ?_
  refine (State.untag_same ..).then rfl ?_
  refine Same.update ?_
  refine Same.foldl ?_ ?_
  exact Same.refl _ _
  intro _ _
  refine (State.metaWritten_same ..).then rfl ?_
  exact Same.refl _ _

theorem State.functionDone_same (s : State) (kind : Nat) (id : Nat) (paddock : Nat) (generation : Nat) (phase : Nat) :
    Same { out := true, regs := true, host := true } s (State.functionDone s kind id paddock generation phase) := by
  unfold State.functionDone
  refine (State.notify_same ..).then rfl ?_
  exact Same.refl _ _

theorem execTeardownComplete_same (paddock : Nat) (s : State) :
    OutSame { out := true, rng := true, regs := true, host := true, pads := true, net := true, maps := true, store :=
              true, eng := true, sch := true, leases := true, pwr := true, mem := true } s (execTeardownComplete
              paddock s) := by
  unfold execTeardownComplete
  dsimp only
  split
  apply OutSame.next
  exact Same.refl _ _
  split
  apply OutSame.next
  refine (State.zeroTeardowns_same ..).then rfl ?_
  exact Same.refl _ _
  split
  apply OutSame.next
  exact Same.refl _ _
  split
  refine State.finish_same rfl ?_
  refine (State.functionDone_same ..).then rfl ?_
  refine (State.modPad_same ..).then rfl ?_
  refine (State.stir_same ..).then rfl ?_
  refine (State.purgePad_same ..).then rfl ?_
  refine (State.clearWindows_same ..).then rfl ?_
  refine Same.foldl ?_ ?_
  exact Same.refl _ _
  intro _ _
  refine (State.failConn_same ..).then rfl ?_
  exact Same.refl _ _
  refine State.finish_same rfl ?_
  refine (State.functionDone_same ..).then rfl ?_
  refine (State.bringUpPad_same ..).then rfl ?_
  refine (State.functionDone_same ..).then rfl ?_
  refine (State.modPad_same ..).then rfl ?_
  refine (State.stir_same ..).then rfl ?_
  refine (State.purgePad_same ..).then rfl ?_
  refine (State.clearWindows_same ..).then rfl ?_
  refine Same.foldl ?_ ?_
  exact Same.refl _ _
  intro _ _
  refine (State.failConn_same ..).then rfl ?_
  exact Same.refl _ _

theorem State.retryClose_same (s : State) (b : BlockRef) :
    Same { store := true } s (State.retryClose s b) := by
  unfold State.retryClose
  dsimp only
  refine Same.update ?_
  exact Same.refl _ _

theorem State.closeBlock_same (s : State) (b : BlockRef) (good : Bool) :
    Same { out := true, rng := true, farrier := true, regs := true, host := true, log := true, pads := true, net :=
           true, maps := true, store := true, eng := true, sch := true, leases := true } s (State.closeBlock s b
           good) := by
  unfold State.closeBlock
  split
  exact Same.refl _ _
  split
  refine Same.ite ?_ ?_
  exact Same.refl _ _
  refine Same.ite ?_ ?_
  refine (State.markLost_same ..).then rfl ?_
  exact Same.refl _ _
  refine Same.ite ?_ ?_
  refine (State.retryClose_same ..).then rfl ?_
  exact Same.refl _ _
  split
  rename_i h12
  refine ((State.closeTail_same ..).of _ h12).then rfl ?_
  exact Same.refl _ _
  refine Same.ite ?_ ?_
  refine (State.note_same ..).then rfl ?_
  refine (State.retryClose_same ..).then rfl ?_
  exact Same.refl _ _
  refine (State.retryClose_same ..).then rfl ?_
  exact Same.refl _ _
  exact Same.refl _ _

theorem State.closeInTurn_same (s : State) (b : BlockRef) (good : Bool) :
    Same { out := true, rng := true, farrier := true, regs := true, host := true, log := true, pads := true, net :=
           true, maps := true, store := true, eng := true, sch := true, leases := true } s (State.closeInTurn s b
           good) := by
  unfold State.closeInTurn
  dsimp only
  split
  exact Same.refl _ _
  refine Same.ite ?_ ?_
  exact Same.refl _ _
  split
  rename_i h5
  refine (Same.of_fst (State.takeTurn_same ..) h5).then rfl ?_
  exact Same.refl _ _
  refine (State.closeBlock_same ..).then rfl ?_
  rename_i h8
  refine (Same.of_fst (State.takeTurn_same ..) h8).then rfl ?_
  exact Same.refl _ _

theorem execBlockClose_same (b : BlockRef) (r : ReadOutcome) (s : State) :
    OutSame { out := true, rng := true, farrier := true, regs := true, host := true, log := true, pads := true, net
              := true, maps := true, store := true, eng := true, sch := true, leases := true } s (execBlockClose b r
              s) := by
  unfold execBlockClose
  refine State.finish_same rfl ?_
  refine (State.closeInTurn_same ..).then rfl ?_
  exact Same.refl _ _

theorem execCloseRetryTimer_same (b : BlockRef) (s : State) :
    OutSame { out := true, rng := true, time := true, farrier := true, regs := true, host := true, log := true, pads
              := true, net := true, maps := true, store := true, eng := true, sch := true, leases := true } s
              (execCloseRetryTimer b s) := by
  unfold execCloseRetryTimer
  dsimp only
  split
  apply OutSame.next
  exact Same.refl _ _
  refine State.finish_same rfl ?_
  refine (State.closeInTurn_same ..).then rfl ?_
  refine Same.update ?_
  refine (State.advanceTo_same ..).then rfl ?_
  exact Same.refl _ _

theorem execDeferredFree_same (block : Nat) (s : State) :
    OutSame { store := true, leases := true } s (execDeferredFree block s) := by
  unfold execDeferredFree
  dsimp only
  split
  apply OutSame.next
  exact Same.refl _ _
  split
  apply OutSame.next
  exact Same.refl _ _
  apply OutSame.next
  refine (State.freePlace_same ..).then rfl ?_
  refine Same.update ?_
  exact Same.refl _ _

theorem execTtlExpiry_same (paddock : Nat) (seq : Nat) (s : State) :
    OutSame { rng := true, time := true, net := true, maps := true, store := true, eng := true, sch := true } s
        (execTtlExpiry paddock seq s) := by
  unfold execTtlExpiry
  dsimp only
  split
  apply OutSame.next
  exact Same.refl _ _
  split
  apply OutSame.next
  exact Same.refl _ _
  refine State.finish_same rfl ?_
  refine Same.ite ?_ ?_
  refine Same.update ?_
  refine (State.startRelease_same ..).then rfl ?_
  refine (State.advanceTo_same ..).then rfl ?_
  exact Same.refl _ _
  refine (State.queueCommit_same ..).then rfl ?_
  refine Same.update ?_
  refine (State.startRelease_same ..).then rfl ?_
  refine (State.advanceTo_same ..).then rfl ?_
  exact Same.refl _ _

theorem execReleaseRefZero_same (desc : Nat) (s : State) :
    OutSame { store := true, eng := true, sch := true, leases := true } s (execReleaseRefZero desc s) := by
  unfold execReleaseRefZero
  split
  apply OutSame.next
  exact Same.refl _ _
  split
  split
  apply OutSame.next
  rename_i h6
  refine (Same.of_fst (State.takeTurn_same ..) h6).then rfl ?_
  exact Same.refl _ _
  apply OutSame.next
  refine (State.finishRelease_same ..).then rfl ?_
  rename_i h10
  refine (Same.of_fst (State.takeTurn_same ..) h10).then rfl ?_
  exact Same.refl _ _
  apply OutSame.next
  exact Same.refl _ _

theorem State.rewritePage_same (s : State) (q : Seq) (y : DirPage) :
    Same { rng := true, pads := true, store := true, eng := true } s (State.rewritePage s q y) := by
  unfold State.rewritePage
  dsimp only
  refine Same.ite ?_ ?_
  refine (State.resealL1_same ..).then rfl ?_
  refine (State.resealPage_same ..).then rfl ?_
  refine (State.ktbInvalidate_same ..).then rfl ?_
  refine (State.modSeq_same ..).then rfl ?_
  refine Same.ite ?_ ?_
  refine (State.moveMeta_same ..).then rfl ?_
  exact Same.refl _ _
  refine (State.metaWritten_same ..).then rfl ?_
  exact Same.refl _ _
  refine (State.ktbInvalidate_same ..).then rfl ?_
  refine (State.modSeq_same ..).then rfl ?_
  refine Same.ite ?_ ?_
  refine (State.moveMeta_same ..).then rfl ?_
  exact Same.refl _ _
  refine (State.metaWritten_same ..).then rfl ?_
  exact Same.refl _ _

theorem State.rewriteTables_same (s : State) (q : Seq) :
    Same { store := true } s (State.rewriteTables s q) := by
  unfold State.rewriteTables
  dsimp only
  refine Same.ite ?_ ?_
  refine (State.metaWritten_same ..).then rfl ?_
  split
  exact Same.refl _ _
  refine Same.ite ?_ ?_
  refine (State.metaWritten_same ..).then rfl ?_
  exact Same.refl _ _
  refine (State.metaWritten_same ..).then rfl ?_
  exact Same.refl _ _
  refine (State.metaWritten_same ..).then rfl ?_
  refine (State.metaWritten_same ..).then rfl ?_
  split
  exact Same.refl _ _
  refine Same.ite ?_ ?_
  refine (State.metaWritten_same ..).then rfl ?_
  exact Same.refl _ _
  refine (State.metaWritten_same ..).then rfl ?_
  exact Same.refl _ _

theorem State.resealAll_same (s : State) (d : Nat) :
    Same { pads := true, store := true } s (State.resealAll s d) := by
  unfold State.resealAll
  split
  exact Same.refl _ _
  refine Same.ite ?_ ?_
  refine (State.resealTailTable_same ..).then rfl ?_
  exact Same.refl _ _
  refine (State.resealPrefix_same ..).then rfl ?_
  refine (State.resealTailTable_same ..).then rfl ?_
  exact Same.refl _ _

theorem State.restored_same (s : State) (x : Restored) :
    Same { rng := true, pads := true, maps := true, store := true, eng := true } s (State.restored s x) := by
  unfold State.restored
  split
  split
  exact Same.refl _ _
  split
  split
  exact Same.refl _ _
  refine Same.ite ?_ ?_
  refine (State.endNamerRefusals_same ..).then rfl ?_
  refine (State.resealNamers_same ..).then rfl ?_
  refine (State.modBlock_same ..).then rfl ?_
  exact Same.refl _ _
  exact Same.refl _ _
  exact Same.refl _ _
  split
  exact Same.refl _ _
  split
  split
  refine Same.ite ?_ ?_
  refine (State.endRefusals_same ..).then rfl ?_
  refine (State.reseal_same ..).then rfl ?_
  refine (State.modSeq_same ..).then rfl ?_
  exact Same.refl _ _
  exact Same.refl _ _
  exact Same.refl _ _
  exact Same.refl _ _
  split
  exact Same.refl _ _
  split
  exact Same.refl _ _
  refine Same.ite ?_ ?_
  refine (State.endRefusals_same ..).then rfl ?_
  refine (State.rewritePage_same ..).then rfl ?_
  exact Same.refl _ _
  exact Same.refl _ _
  split
  exact Same.refl _ _
  refine Same.ite ?_ ?_
  refine (State.resealAll_same ..).then rfl ?_
  refine (State.modSeq_same ..).then rfl ?_
  refine (State.rewriteTables_same ..).then rfl ?_
  exact Same.refl _ _
  exact Same.refl _ _

theorem execRestoreComplete_same (x : Restored) (s : State) :
    OutSame { rng := true, pads := true, maps := true, store := true, eng := true } s (execRestoreComplete x s) := by
  unfold execRestoreComplete
  refine State.finish_same rfl ?_
  refine (State.restored_same ..).then rfl ?_
  exact Same.refl _ _

theorem execHeatEpochSweep_same (die : Nat) (s : State) :
    OutSame { time := true, pads := true, store := true, eng := true } s (execHeatEpochSweep die s) := by
  unfold execHeatEpochSweep
  dsimp only
  split
  apply OutSame.next
  exact Same.refl _ _
  apply OutSame.next
  refine Same.foldl ?_ ?_
  refine Same.update ?_
  refine (State.advanceTo_same ..).then rfl ?_
  exact Same.refl _ _
  intro _ _
  refine (State.reseal_same ..).then rfl ?_
  exact Same.refl _ _

theorem State.zeroFrames_same (s : State) (frames : List Nat) :
    Same { store := true, mem := true } s (State.zeroFrames s frames) := by
  unfold State.zeroFrames
  dsimp only
  refine Same.updateMem ?_ rfl Memory.wf_filter
  exact Same.refl _ _

theorem State.moveTurn_same (s : State) (cls : Nat) (owner : Nat) (b : Block) :
    Same { sch := true } s (State.moveTurn s cls owner b).1 := by
  unfold State.moveTurn
  refine (State.takeTurn_same ..).then rfl ?_
  exact Same.refl _ _

theorem State.promoteOne_same (s : State) (c : SliceCfg) (owner : Nat) :
    Same { rng := true, store := true, sch := true } s (State.promoteOne s c owner) := by
  unfold State.promoteOne
  split
  exact Same.refl _ _
  refine Same.ite ?_ ?_
  exact Same.refl _ _
  split
  rename_i h5
  refine (Same.of_fst (State.moveTurn_same ..) h5).then rfl ?_
  exact Same.refl _ _
  refine SomeSame.getD ?_ ?_
  refine SomeSame.mapOf (h := Prod.snd) ?_ ?_
  rotate_left
  intro _ _
  rotate_left
  rename_i h9
  refine (Same.of_fst (State.moveTurn_same ..) h9).then rfl ?_
  exact Same.refl _ _
  refine (State.allocT1_same ..).via rfl ?_
  rename_i h12
  refine (Same.of_fst (State.moveTurn_same ..) h12).then rfl ?_
  exact Same.refl _ _
  dsimp only [id]
  unfold State.startMove
  split
  refine Same.update ?_
  assumption

theorem State.demoteOne_same (s : State) (c : SliceCfg) (owner : Nat) :
    SomeSame { rng := true, store := true, sch := true } s id (State.demoteOne s c owner) := by
  unfold State.demoteOne
  dsimp only
  split
  exact SomeSame.none
  split
  exact SomeSame.none
  split
  apply SomeSame.some
  dsimp only [id]
  rename_i h7
  refine (Same.of_fst (State.moveTurn_same ..) h7).then rfl ?_
  exact Same.refl _ _
  apply SomeSame.some
  dsimp only [id]
  refine SomeSame.getD ?_ ?_
  refine SomeSame.mapOf (h := Prod.snd) ?_ ?_
  rotate_left
  intro _ _
  rotate_left
  rename_i h13
  refine (Same.of_fst (State.moveTurn_same ..) h13).then rfl ?_
  exact Same.refl _ _
  refine (State.allocT2_same ..).via rfl ?_
  rename_i h16
  refine (Same.of_fst (State.moveTurn_same ..) h16).then rfl ?_
  exact Same.refl _ _
  dsimp only [id]
  unfold State.startMove
  split
  refine Same.update ?_
  assumption

theorem State.issueMove_same (s : State) (c : SliceCfg) (owner : Nat) :
    Same { rng := true, store := true, sch := true } s (State.issueMove s c owner) := by
  unfold State.issueMove
  dsimp only
  refine Same.ite ?_ ?_
  refine SomeSame.getD ?_ ?_
  refine (State.demoteOne_same ..).via rfl ?_
  refine Same.update ?_
  exact Same.refl _ _
  refine (State.promoteOne_same ..).then rfl ?_
  refine Same.update ?_
  exact Same.refl _ _
  refine (State.promoteOne_same ..).then rfl ?_
  refine Same.update ?_
  exact Same.refl _ _

theorem State.zeroOne_same (slice : Nat) (s : State) (f : Nat) :
    Same { store := true, sch := true, mem := true } s (State.zeroOne slice s f) := by
  unfold State.zeroOne
  dsimp only
  split
  rename_i h1
  refine (Same.of_fst (State.takeTurn_same ..) h1).then rfl ?_
  exact Same.refl _ _
  refine Same.update ?_
  refine (State.zeroFrames_same ..).then rfl ?_
  rename_i h5
  refine (Same.of_fst (State.takeTurn_same ..) h5).then rfl ?_
  exact Same.refl _ _

theorem State.zeroTier2_same (s : State) (slice : Nat) :
    Same { store := true, sch := true, mem := true } s (State.zeroTier2 s slice) := by
  unfold State.zeroTier2
  dsimp only
  refine Same.foldl ?_ ?_
  exact Same.refl _ _
  intro _ _
  refine (State.zeroOne_same ..).then rfl ?_
  exact Same.refl _ _

theorem execMigrationMoveIssue_same (slice : Nat) (s : State) :
    OutSame { out := true, rng := true, farrier := true, regs := true, host := true, log := true, pads := true, net
              := true, maps := true, store := true, eng := true, sch := true, leases := true, mem := true } s
              (execMigrationMoveIssue slice s) := by
  unfold execMigrationMoveIssue
  split
  apply OutSame.next
  exact Same.refl _ _
  split
  apply OutSame.next
  exact Same.refl _ _
  refine State.finish_same rfl ?_
  refine (State.zeroTier2_same ..).then rfl ?_
  refine Same.foldl ?_ ?_
  refine (State.zeroTeardowns_same ..).then rfl ?_
  refine (State.retireRest_same ..).then rfl ?_
  exact Same.refl _ _
  intro _ _
  refine (State.issueMove_same ..).then rfl ?_
  exact Same.refl _ _

theorem State.moveDone_same (s : State) (m : Move) (r : ReadOutcome) :
    Same { out := true, rng := true, farrier := true, regs := true, host := true, log := true, pads := true, net :=
           true, maps := true, store := true, eng := true, sch := true, leases := true, pwr := true } s
           (State.moveDone s m r) := by
  unfold State.moveDone
  dsimp only
  split
  refine Same.ite ?_ ?_
  refine (State.freePlace_same ..).then rfl ?_
  refine (State.stir_same ..).then rfl ?_
  refine Same.update ?_
  exact Same.refl _ _
  refine Same.ite ?_ ?_
  refine (State.retireFrame_same ..).then rfl ?_
  refine (State.note_same ..).then rfl ?_
  refine (State.freePlace_same ..).then rfl ?_
  refine (State.stir_same ..).then rfl ?_
  refine Same.update ?_
  exact Same.refl _ _
  refine Same.ite ?_ ?_
  refine (State.markLost_same ..).then rfl ?_
  refine (State.freePlace_same ..).then rfl ?_
  refine (State.stir_same ..).then rfl ?_
  refine Same.update ?_
  exact Same.refl _ _
  refine (State.freeOld_same ..).then rfl ?_
  refine (State.resealNamers_same ..).then rfl ?_
  refine (State.modBlock_same ..).then rfl ?_
  refine (State.stir_same ..).then rfl ?_
  refine Same.update ?_
  exact Same.refl _ _
  refine (State.freePlace_same ..).then rfl ?_
  refine (State.stir_same ..).then rfl ?_
  refine Same.update ?_
  exact Same.refl _ _

theorem execMigrationMoveDone_same (move : Nat) (r : ReadOutcome) (s : State) :
    OutSame { out := true, rng := true, farrier := true, regs := true, host := true, log := true, pads := true, net
              := true, maps := true, store := true, eng := true, sch := true, leases := true, pwr := true } s
              (execMigrationMoveDone move r s) := by
  unfold execMigrationMoveDone
  dsimp only
  split
  apply OutSame.next
  exact Same.refl _ _
  split
  apply OutSame.next
  exact Same.refl _ _
  split
  apply OutSame.next
  refine (State.holdOnce_same ..).then rfl ?_
  exact Same.refl _ _
  refine State.finish_same rfl ?_
  refine (State.moveDone_same ..).then rfl ?_
  exact Same.refl _ _

theorem State.loseBlocks_same (s : State) (p : Block → Bool) :
    Same { rng := true, pads := true, net := true, maps := true, store := true, eng := true, sch := true } s
        (State.loseBlocks s p) := by
  unfold State.loseBlocks
  dsimp only
  refine Same.foldl ?_ ?_
  refine Same.update ?_
  exact Same.refl _ _
  intro _ _
  split
  refine (State.resealNamers_same ..).then rfl ?_
  exact Same.refl _ _
  refine (State.restoreReq_same ..).then rfl ?_
  refine (State.resealNamers_same ..).then rfl ?_
  exact Same.refl _ _

theorem State.losePort_same (s : State) (port : Nat) :
    Same { rng := true, pads := true, net := true, maps := true, store := true, eng := true, sch := true, leases :=
           true, pwr := true } s (State.losePort s port) := by
  unfold State.losePort
  dsimp only
  refine (State.loseBlocks_same ..).then rfl ?_
  refine (State.abandonMoves_same ..).then rfl ?_
  refine Same.update ?_
  exact Same.refl _ _

theorem execTier2PortLost_same (port : Nat) (s : State) :
    OutSame { rng := true, pads := true, net := true, maps := true, store := true, eng := true, sch := true, leases
              := true, pwr := true } s (execTier2PortLost port s) := by
  unfold execTier2PortLost
  split
  refine State.finish_same rfl ?_
  refine (State.losePort_same ..).then rfl ?_
  exact Same.refl _ _
  apply OutSame.next
  exact Same.refl _ _

theorem State.emptyPort_same (s : State) (port : Nat) :
    Same { store := true } s (State.emptyPort s port) := by
  unfold State.emptyPort
  dsimp only
  refine Same.update ?_
  exact Same.refl _ _

theorem execTier2PortReturn_same (port : Nat) (capacityFrames : Nat) (s : State) :
    OutSame { maps := true, store := true } s (execTier2PortReturn port capacityFrames s) := by
  unfold execTier2PortReturn
  dsimp only
  split
  refine State.finish_same rfl ?_
  refine Same.update ?_
  refine (State.emptyPort_same ..).then rfl ?_
  exact Same.refl _ _
  apply OutSame.next
  exact Same.refl _ _

theorem execCxlEventRecord_same (port : Nat) (record : Bytes) (s : State) :
    OutSame { out := true, rng := true, regs := true, host := true, log := true, pads := true, net := true, maps :=
              true, store := true, eng := true, sch := true, leases := true, pwr := true } s (execCxlEventRecord port
              record s) := by
  unfold execCxlEventRecord
  dsimp only
  split
  refine State.finish_same rfl ?_
  refine Same.ite ?_ ?_
  refine (State.losePort_same ..).then rfl ?_
  refine (State.note_same ..).then rfl ?_
  exact Same.refl _ _
  refine (State.note_same ..).then rfl ?_
  exact Same.refl _ _
  apply OutSame.next
  exact Same.refl _ _

theorem State.discardOp_same (s : State) (x : Op) (status : Nat) :
    Same { out := true, rng := true, farrier := true, regs := true, host := true, log := true, pads := true, net :=
           true, maps := true, store := true, eng := true, sch := true, leases := true, pwr := true } s
           (State.discardOp s x status) := by
  unfold State.discardOp
  dsimp only
  refine (State.failOp_same ..).then rfl ?_
  refine Same.update ?_
  exact Same.refl _ _

theorem State.endSliceOps_same (s : State) (slice : Nat) :
    Same { out := true, rng := true, farrier := true, regs := true, host := true, log := true, pads := true, net :=
           true, maps := true, store := true, eng := true, sch := true, leases := true, pwr := true } s
           (State.endSliceOps s slice) := by
  unfold State.endSliceOps
  dsimp only
  refine Same.foldl ?_ ?_
  exact Same.refl _ _
  intro _ _
  split
  exact Same.refl _ _
  refine (State.discardOp_same ..).then rfl ?_
  exact Same.refl _ _

theorem State.stopStack_same (s : State) (stack : Nat) :
    Same { out := true, rng := true, farrier := true, regs := true, host := true, log := true, pads := true, net :=
           true, maps := true, store := true, eng := true, sch := true, leases := true, pwr := true } s
           (State.stopStack s stack) := by
  unfold State.stopStack
  dsimp only
  refine (State.note_same ..).then rfl ?_
  refine Same.foldl ?_ ?_
  refine Same.foldl ?_ ?_
  refine (State.modFault_same ..).then rfl ?_
  refine (State.abandonMoves_same ..).then rfl ?_
  refine Same.update ?_
  exact Same.refl _ _
  intro _ _
  refine (State.endSliceOps_same ..).then rfl ?_
  exact Same.refl _ _
  intro _ _
  refine (State.restoreAll_same ..).then rfl ?_
  exact Same.refl _ _

theorem execStackStop_same (stack : Nat) (s : State) :
    OutSame { out := true, rng := true, farrier := true, regs := true, host := true, log := true, pads := true, net
              := true, maps := true, store := true, eng := true, sch := true, leases := true, pwr := true } s
              (execStackStop stack s) := by
  unfold execStackStop
  split
  refine State.finish_same rfl ?_
  refine (State.afterUnits_same ..).then rfl ?_
  refine (State.stopStack_same ..).then rfl ?_
  exact Same.refl _ _
  apply OutSame.next
  exact Same.refl _ _

theorem execStackTempReport_same (stack : Nat) (hot : Bool) (s : State) :
    OutSame { store := true, leases := true } s (execStackTempReport stack hot s) := by
  unfold execStackTempReport
  dsimp only
  apply OutSame.next
  refine Same.update ?_
  exact Same.refl _ _

theorem execRefreshDue_same (stack : Nat) (pc : Nat) (s : State) :
    OutSame { store := true } s (execRefreshDue stack pc s) := by
  unfold execRefreshDue
  dsimp only
  split
  apply OutSame.next
  exact Same.refl _ _
  apply OutSame.next
  refine Same.update ?_
  exact Same.refl _ _

theorem State.openLease_same (s : State) (r : LeaseReq) (first : Nat) (fixed : Bool) :
    Same { leases := true } s (State.openLease s r first fixed) := by
  unfold State.openLease
  dsimp only
  refine Same.update ?_
  exact Same.refl _ _

theorem State.addChore_same (s : State) (k : Chore) :
    Same { leases := true } s (State.addChore s k) := by
  unfold State.addChore
  dsimp only
  refine Same.update ?_
  exact Same.refl _ _

theorem State.takeChore_same (s : State) (program : Nat) (paddock : Nat) (frames : List Nat) :
    Same { leases := true } s (State.takeChore s program paddock frames).2 := by
  unfold State.takeChore
  dsimp only
  refine Same.update ?_
  exact Same.refl _ _

theorem execLeaseRequest_same (r : LeaseReq) (s : State) :
    OutSame { out := true, regs := true, host := true, log := true, pads := true, net := true, maps := true, store :=
              true, eng := true, sch := true, leases := true } s (execLeaseRequest r s) := by
  unfold execLeaseRequest
  dsimp only
  split
  apply OutSame.next
  exact Same.refl _ _
  split
  apply OutSame.next
  refine (State.zeroTeardowns_same ..).then rfl ?_
  exact Same.refl _ _
  split
  refine State.finish_same rfl ?_
  refine (State.note_same ..).then rfl ?_
  refine (State.zeroTeardowns_same ..).then rfl ?_
  exact Same.refl _ _
  split
  refine State.finish_same rfl ?_
  refine (State.note_same ..).then rfl ?_
  refine (State.zeroTeardowns_same ..).then rfl ?_
  exact Same.refl _ _
  split
  apply OutSame.next
  refine (State.addChore_same ..).then rfl ?_
  refine (State.zeroTeardowns_same ..).then rfl ?_
  exact Same.refl _ _
  split
  apply OutSame.next
  refine (State.zeroTeardowns_same ..).then rfl ?_
  exact Same.refl _ _
  split
  apply OutSame.next
  rename_i h28
  refine (Same.of_fst (State.takeTurn_same ..) h28).then rfl ?_
  refine (State.zeroTeardowns_same ..).then rfl ?_
  exact Same.refl _ _
  apply OutSame.next
  refine (State.openLease_same ..).then rfl ?_
  refine (State.takeChore_same ..).then rfl ?_
  rename_i h34
  refine (Same.of_fst (State.takeTurn_same ..) h34).then rfl ?_
  refine (State.zeroTeardowns_same ..).then rfl ?_
  exact Same.refl _ _

theorem State.roundOn_same (s : State) (c : SliceCfg) (stack : Nat) :
    Same { out := true, regs := true, host := true, log := true, leases := true } s (State.roundOn s c stack) := by
  unfold State.roundOn
  dsimp only
  refine Same.ite ?_ ?_
  exact Same.refl _ _
  refine Same.ite ?_ ?_
  refine Same.update ?_
  exact Same.refl _ _
  split
  refine (State.openLease_same ..).then rfl ?_
  refine Same.update ?_
  exact Same.refl _ _
  refine Same.ite ?_ ?_
  refine (State.note_same ..).then rfl ?_
  refine (State.openLease_same ..).then rfl ?_
  refine Same.update ?_
  exact Same.refl _ _
  refine Same.ite ?_ ?_
  refine (State.note_same ..).then rfl ?_
  refine (State.openLease_same ..).then rfl ?_
  refine Same.update ?_
  exact Same.refl _ _
  refine (State.openLease_same ..).then rfl ?_
  refine (State.takeChore_same ..).then rfl ?_
  refine Same.update ?_
  exact Same.refl _ _

theorem execLeaseRoundTimer_same (slice : Nat) (s : State) :
    OutSame { out := true, time := true, regs := true, host := true, log := true, pads := true, net := true, maps :=
              true, store := true, eng := true, sch := true, leases := true } s (execLeaseRoundTimer slice s) := by
  unfold execLeaseRoundTimer
  dsimp only
  split
  apply OutSame.next
  exact Same.refl _ _
  split
  apply OutSame.next
  exact Same.refl _ _
  refine State.finish_same rfl ?_
  refine Same.foldl ?_ ?_
  refine Same.update ?_
  refine (State.zeroTeardowns_same ..).then rfl ?_
  refine (State.advanceTo_same ..).then rfl ?_
  exact Same.refl _ _
  intro _ _
  refine (State.roundOn_same ..).then rfl ?_
  exact Same.refl _ _

theorem State.modLease_same (s : State) (i : Nat) (f : Lease → Lease) :
    Same { leases := true } s (State.modLease s i f) := by
  unfold State.modLease
  dsimp only
  refine Same.update ?_
  exact Same.refl _ _

theorem State.putCore_same (s : State) (k : StallCore) :
    Same { leases := true } s (State.putCore s k) := by
  unfold State.putCore
  dsimp only
  refine Same.update ?_
  exact Same.refl _ _

theorem State.startCore_same (s : State) (l : Lease) :
    Same { leases := true } s (State.startCore s l) := by
  unfold State.startCore
  dsimp only
  split
  exact Same.refl _ _
  refine Same.ite ?_ ?_
  exact Same.refl _ _
  refine (State.modLease_same ..).then rfl ?_
  refine (State.putCore_same ..).then rfl ?_
  exact Same.refl _ _

theorem State.setPostponed_same (s : State) (stack : Nat) (counts : List (Nat × Nat)) :
    Same { store := true } s (State.setPostponed s stack counts) := by
  unfold State.setPostponed
  dsimp only
  refine Same.update ?_
  exact Same.refl _ _

theorem execLeaseHandoverDone_same (lease : Nat) (s : State) :
    OutSame { store := true, leases := true } s (execLeaseHandoverDone lease s) := by
  unfold execLeaseHandoverDone
  dsimp only
  split
  apply OutSame.next
  exact Same.refl _ _
  apply OutSame.next
  refine (State.startCore_same ..).then rfl ?_
  refine Same.update ?_
  refine (State.setPostponed_same ..).then rfl ?_
  refine (State.modLease_same ..).then rfl ?_
  exact Same.refl _ _

theorem execLeaseRefreshDue_same (lease : Nat) (pc : Nat) (s : State) :
    OutSame { store := true, leases := true } s (execLeaseRefreshDue lease pc s) := by
  unfold execLeaseRefreshDue
  dsimp only
  split
  apply OutSame.next
  exact Same.refl _ _
  split
  apply OutSame.next
  exact Same.refl _ _
  apply OutSame.next
  refine Same.update ?_
  refine (State.modLease_same ..).then rfl ?_
  exact Same.refl _ _

theorem State.endProgram_same (s : State) (l : Lease) (code : Nat) (r : ProgramResult) :
    Same { store := true, leases := true, mem := true } s (State.endProgram s l code r) := by
  unfold State.endProgram
  dsimp only
  refine Same.ite ?_ ?_
  refine (State.zeroFrames_same ..).then rfl ?_
  split
  refine (State.modLease_same ..).then rfl ?_
  exact Same.refl _ _
  refine (State.putCore_same ..).then rfl ?_
  refine (State.modLease_same ..).then rfl ?_
  exact Same.refl _ _
  split
  refine (State.modLease_same ..).then rfl ?_
  exact Same.refl _ _
  refine (State.putCore_same ..).then rfl ?_
  refine (State.modLease_same ..).then rfl ?_
  exact Same.refl _ _

theorem State.stallCycles_same (s : State) :
    Same { rng := true } s (State.stallCycles s).2 := by
  unfold State.stallCycles
  dsimp only
  refine Same.update ?_
  exact Same.refl _ _

theorem execFenceFault_same (lease : Nat) (address : Nat) (s : State) :
    OutSame { out := true, rng := true, regs := true, host := true, log := true, maps := true, store := true, leases
              := true, mem := true } s (execFenceFault lease address s) := by
  unfold execFenceFault
  dsimp only
  split
  split
  apply OutSame.next
  exact Same.refl _ _
  refine State.finish_same rfl ?_
  refine (State.note_same ..).then rfl ?_
  refine Same.update ?_
  refine (State.endProgram_same ..).then rfl ?_
  refine (State.stallCycles_same ..).then rfl ?_
  exact Same.refl _ _
  apply OutSame.next
  exact Same.refl _ _

theorem execLeaseExpiry_same (lease : Nat) (nextFrame : Nat) (s : State) :
    OutSame { rng := true, time := true, store := true, leases := true, mem := true } s (execLeaseExpiry lease
        nextFrame s) := by
  unfold execLeaseExpiry
  dsimp only
  split
  apply OutSame.next
  exact Same.refl _ _
  split
  apply OutSame.next
  refine (State.modLease_same ..).then rfl ?_
  refine (State.advanceTo_same ..).then rfl ?_
  exact Same.refl _ _
  apply OutSame.next
  refine (State.endProgram_same ..).then rfl ?_
  refine (State.stallCycles_same ..).then rfl ?_
  refine (State.advanceTo_same ..).then rfl ?_
  exact Same.refl _ _

theorem execStallProgramDone_same (lease : Nat) (r : ProgramResult) (s : State) :
    OutSame { store := true, leases := true, mem := true } s (execStallProgramDone lease r s) := by
  unfold execStallProgramDone
  split
  apply OutSame.next
  exact Same.refl _ _
  split
  apply OutSame.next
  exact Same.refl _ _
  split
  apply OutSame.next
  refine (State.endProgram_same ..).then rfl ?_
  exact Same.refl _ _
  split
  apply OutSame.next
  refine (State.endProgram_same ..).then rfl ?_
  exact Same.refl _ _
  apply OutSame.next
  refine (State.endProgram_same ..).then rfl ?_
  exact Same.refl _ _

theorem State.scrubbed_same (s : State) (b : BlockRef) :
    Same { out := true, rng := true, farrier := true, regs := true, host := true, log := true, pads := true, net :=
           true, maps := true, store := true, eng := true, sch := true, leases := true } s (State.scrubbed s b) := by
  unfold State.scrubbed
  split
  exact Same.refl _ _
  refine (State.markLost_same ..).then rfl ?_
  exact Same.refl _ _

theorem State.allocWithin_same (s : State) (frames : List Nat) (shift : Nat) (units : Nat) :
    SomeSame { rng := true } s Prod.snd (State.allocWithin s frames shift units) := by
  unfold State.allocWithin
  dsimp only
  refine SomeSame.map ?_
  intro _
  dsimp only
  refine (State.choose_same ..).then rfl ?_
  exact Same.refl _ _

theorem State.compacted_same (s : State) (frames : List Nat) (b : BlockRef) :
    Same { out := true, rng := true, farrier := true, regs := true, host := true, log := true, pads := true, net :=
           true, maps := true, store := true, eng := true, sch := true, leases := true } s (State.compacted s frames
           b) := by
  unfold State.compacted
  dsimp only
  split
  exact Same.refl _ _
  refine Same.ite ?_ ?_
  exact Same.refl _ _
  split
  exact Same.refl _ _
  refine Same.ite ?_ ?_
  refine (State.markLost_same ..).then rfl ?_
  rename_i h8
  refine ((State.allocWithin_same ..).of _ h8).then rfl ?_
  exact Same.refl _ _
  refine (State.freeOld_same ..).then rfl ?_
  refine (State.resealNamers_same ..).then rfl ?_
  refine (State.modBlock_same ..).then rfl ?_
  rename_i h13
  refine ((State.allocWithin_same ..).of _ h13).then rfl ?_
  exact Same.refl _ _

theorem State.summarised_same (s : State) (b : BlockRef) :
    Same { store := true } s (State.summarised s b) := by
  unfold State.summarised
  dsimp only
  split
  exact Same.refl _ _
  refine Same.ite ?_ ?_
  exact Same.refl _ _
  split
  exact Same.refl _ _
  refine (State.modBlock_same ..).then rfl ?_
  exact Same.refl _ _

theorem State.programEffect_same (s : State) (l : Lease) (done : List Nat) (r : ProgramResult) :
    Same { out := true, rng := true, farrier := true, regs := true, host := true, log := true, pads := true, net :=
           true, maps := true, store := true, eng := true, sch := true, leases := true } s (State.programEffect s l
           done r) := by
  unfold State.programEffect
  dsimp only
  split
  refine Same.ite ?_ ?_
  exact Same.refl _ _
  refine Same.foldl ?_ ?_
  exact Same.refl _ _
  intro _ _
  refine (State.scrubbed_same ..).then rfl ?_
  exact Same.refl _ _
  refine Same.ite ?_ ?_
  exact Same.refl _ _
  refine Same.foldl ?_ ?_
  exact Same.refl _ _
  intro _ _
  refine (State.compacted_same ..).then rfl ?_
  exact Same.refl _ _
  refine Same.ite ?_ ?_
  exact Same.refl _ _
  refine Same.foldl ?_ ?_
  exact Same.refl _ _
  intro _ _
  refine (State.summarised_same ..).then rfl ?_
  exact Same.refl _ _
  refine Same.update ?_
  exact Same.refl _ _
  exact Same.refl _ _

theorem State.rechore_same (s : State) (l : Lease) (r : ProgramResult) :
    Same { leases := true } s (State.rechore s l r) := by
  unfold State.rechore
  dsimp only
  refine Same.ite ?_ ?_
  refine (State.addChore_same ..).then rfl ?_
  exact Same.refl _ _
  exact Same.refl _ _

theorem State.completeLease_same (s : State) (l : Lease) :
    Same { out := true, rng := true, farrier := true, regs := true, host := true, log := true, pads := true, net :=
           true, maps := true, store := true, eng := true, sch := true, leases := true, pwr := true } s
           (State.completeLease s l) := by
  unfold State.completeLease
  dsimp only
  refine Same.foldl ?_ ?_
  split
  refine (State.stir_same ..).then rfl ?_
  refine Same.update ?_
  exact Same.refl _ _
  refine (State.rechore_same ..).then rfl ?_
  refine (State.programEffect_same ..).then rfl ?_
  refine (State.tally_same ..).then rfl ?_
  refine (State.stir_same ..).then rfl ?_
  refine Same.update ?_
  exact Same.refl _ _
  intro _ _
  refine (State.retireFrame_same ..).then rfl ?_
  exact Same.refl _ _

theorem State.serveOne_same (s : State) (w : HeldWork) :
    Same { out := true, rng := true, farrier := true, regs := true, host := true, log := true, pads := true, net :=
           true, maps := true, store := true, eng := true, sch := true, leases := true, pwr := true } s
           (State.serveOne s w) := by
  unfold State.serveOne
  dsimp only
  split
  refine Same.update ?_
  exact Same.refl _ _
  split
  refine (State.dropHeld_same ..).then rfl ?_
  exact Same.refl _ _
  refine (State.settleOp_same ..).then rfl ?_
  refine (State.dropHeld_same ..).then rfl ?_
  exact Same.refl _ _
  split
  refine (State.dropHeld_same ..).then rfl ?_
  exact Same.refl _ _
  refine (State.walkFill_same ..).then rfl ?_
  refine (State.dropHeld_same ..).then rfl ?_
  exact Same.refl _ _
  split
  refine (State.dropHeld_same ..).then rfl ?_
  exact Same.refl _ _
  refine Same.ite ?_ ?_
  refine (State.dropHeld_same ..).then rfl ?_
  exact Same.refl _ _
  refine (State.moveDone_same ..).then rfl ?_
  refine (State.dropHeld_same ..).then rfl ?_
  exact Same.refl _ _
  split
  refine (State.dropHeld_same ..).then rfl ?_
  exact Same.refl _ _
  refine (State.commitNow_same ..).then rfl ?_
  refine (State.dropHeld_same ..).then rfl ?_
  exact Same.refl _ _

theorem State.serveHeld_same (s : State) :
    Same { out := true, rng := true, farrier := true, regs := true, host := true, log := true, pads := true, net :=
           true, maps := true, store := true, eng := true, sch := true, leases := true, pwr := true } s
           (State.serveHeld s) := by
  unfold State.serveHeld
  dsimp only
  refine Same.foldl ?_ ?_
  exact Same.refl _ _
  intro _ _
  refine Same.ite ?_ ?_
  exact Same.refl _ _
  refine (State.serveOne_same ..).then rfl ?_
  exact Same.refl _ _

theorem execLeaseReturnDone_same (lease : Nat) (s : State) :
    OutSame { out := true, rng := true, farrier := true, regs := true, host := true, log := true, pads := true, net
              := true, maps := true, store := true, eng := true, sch := true, leases := true, pwr := true } s
              (execLeaseReturnDone lease s) := by
  unfold execLeaseReturnDone
  dsimp only
  split
  apply OutSame.next
  exact Same.refl _ _
  refine State.finish_same rfl ?_
  refine (State.serveHeld_same ..).then rfl ?_
  refine Same.ite ?_ ?_
  refine (State.modLease_same ..).then rfl ?_
  refine Same.update ?_
  refine (State.setPostponed_same ..).then rfl ?_
  exact Same.refl _ _
  refine (State.completeLease_same ..).then rfl ?_
  refine (State.modLease_same ..).then rfl ?_
  refine Same.update ?_
  refine (State.setPostponed_same ..).then rfl ?_
  exact Same.refl _ _

theorem State.readReturned_same (s : State) :
    Same { out := true, rng := true, farrier := true, regs := true, host := true, log := true, pads := true, net :=
           true, maps := true, store := true, eng := true, sch := true, leases := true, pwr := true } s
           (State.readReturned s) := by
  unfold State.readReturned
  refine Same.foldl ?_ ?_
  exact Same.refl _ _
  intro _ _
  refine (State.completeLease_same ..).then rfl ?_
  exact Same.refl _ _

theorem execLbistSwapTimer_same (die : Nat) (s : State) :
    OutSame { out := true, regs := true, host := true, log := true, maps := true, eng := true } s (execLbistSwapTimer
        die s) := by
  unfold execLbistSwapTimer
  dsimp only
  split
  apply OutSame.next
  exact Same.refl _ _
  split
  split
  refine State.finish_same rfl ?_
  refine (State.note_same ..).then rfl ?_
  refine Same.update ?_
  exact Same.refl _ _
  refine State.finish_same rfl ?_
  refine (State.settleDrains_same ..).then rfl ?_
  refine (State.modCluster_same ..).then rfl ?_
  refine Same.update ?_
  exact Same.refl _ _
  refine State.finish_same rfl ?_
  refine (State.modCluster_same ..).then rfl ?_
  refine Same.update ?_
  exact Same.refl _ _

theorem State.offerSpare_same (s : State) (die : Nat) (cluster : Nat) :
    Same { eng := true } s (State.offerSpare s die cluster) := by
  unfold State.offerSpare
  split
  exact Same.refl _ _
  refine (State.modCluster_same ..).then rfl ?_
  exact Same.refl _ _

theorem execLbistDone_same (die : Nat) (cluster : Nat) (pass : Bool) (s : State) :
    OutSame { out := true, farrier := true, regs := true, host := true, log := true, maps := true, store := true, eng
              := true, pwr := true } s (execLbistDone die cluster pass s) := by
  unfold execLbistDone
  dsimp only
  split
  apply OutSame.next
  exact Same.refl _ _
  split
  split
  apply OutSame.next
  refine (State.modCluster_same ..).then rfl ?_
  exact Same.refl _ _
  split
  split
  apply OutSame.next
  exact Same.refl _ _
  split
  refine State.finish_same rfl ?_
  refine (State.place_same ..).then rfl ?_
  refine (State.stir_same ..).then rfl ?_
  refine (State.offerSpare_same ..).then rfl ?_
  refine (State.modCluster_same ..).then rfl ?_
  exact Same.refl _ _
  refine State.finish_same rfl ?_
  refine (State.note_same ..).then rfl ?_
  refine (State.retireCluster_same ..).then rfl ?_
  refine (State.stir_same ..).then rfl ?_
  refine (State.modCluster_same ..).then rfl ?_
  exact Same.refl _ _
  split
  apply OutSame.next
  exact Same.refl _ _
  split
  refine State.finish_same rfl ?_
  refine (State.place_same ..).then rfl ?_
  refine (State.stir_same ..).then rfl ?_
  refine (State.offerSpare_same ..).then rfl ?_
  refine (State.modCluster_same ..).then rfl ?_
  exact Same.refl _ _
  refine State.finish_same rfl ?_
  refine (State.note_same ..).then rfl ?_
  refine (State.retireCluster_same ..).then rfl ?_
  refine (State.stir_same ..).then rfl ?_
  refine (State.modCluster_same ..).then rfl ?_
  exact Same.refl _ _
  split
  apply OutSame.next
  exact Same.refl _ _
  split
  refine State.finish_same rfl ?_
  refine (State.place_same ..).then rfl ?_
  refine (State.stir_same ..).then rfl ?_
  refine (State.offerSpare_same ..).then rfl ?_
  refine (State.modCluster_same ..).then rfl ?_
  exact Same.refl _ _
  refine State.finish_same rfl ?_
  refine (State.note_same ..).then rfl ?_
  refine (State.retireCluster_same ..).then rfl ?_
  refine (State.stir_same ..).then rfl ?_
  refine (State.modCluster_same ..).then rfl ?_
  exact Same.refl _ _
  split
  apply OutSame.next
  refine (State.modCluster_same ..).then rfl ?_
  exact Same.refl _ _
  split
  split
  apply OutSame.next
  exact Same.refl _ _
  split
  refine State.finish_same rfl ?_
  refine (State.place_same ..).then rfl ?_
  refine (State.stir_same ..).then rfl ?_
  refine (State.offerSpare_same ..).then rfl ?_
  refine (State.modCluster_same ..).then rfl ?_
  exact Same.refl _ _
  refine State.finish_same rfl ?_
  refine (State.note_same ..).then rfl ?_
  refine (State.retireCluster_same ..).then rfl ?_
  refine (State.stir_same ..).then rfl ?_
  refine (State.modCluster_same ..).then rfl ?_
  exact Same.refl _ _
  split
  apply OutSame.next
  exact Same.refl _ _
  split
  refine State.finish_same rfl ?_
  refine (State.place_same ..).then rfl ?_
  refine (State.stir_same ..).then rfl ?_
  refine (State.offerSpare_same ..).then rfl ?_
  refine (State.modCluster_same ..).then rfl ?_
  exact Same.refl _ _
  refine State.finish_same rfl ?_
  refine (State.note_same ..).then rfl ?_
  refine (State.retireCluster_same ..).then rfl ?_
  refine (State.stir_same ..).then rfl ?_
  refine (State.modCluster_same ..).then rfl ?_
  exact Same.refl _ _
  split
  apply OutSame.next
  exact Same.refl _ _
  split
  refine State.finish_same rfl ?_
  refine (State.place_same ..).then rfl ?_
  refine (State.stir_same ..).then rfl ?_
  refine (State.offerSpare_same ..).then rfl ?_
  refine (State.modCluster_same ..).then rfl ?_
  exact Same.refl _ _
  refine State.finish_same rfl ?_
  refine (State.note_same ..).then rfl ?_
  refine (State.retireCluster_same ..).then rfl ?_
  refine (State.stir_same ..).then rfl ?_
  refine (State.modCluster_same ..).then rfl ?_
  exact Same.refl _ _

theorem execSpareWaitExpiry_same (die : Nat) (cluster : Nat) (s : State) :
    OutSame { time := true, maps := true, eng := true } s (execSpareWaitExpiry die cluster s) := by
  unfold execSpareWaitExpiry
  dsimp only
  split
  apply OutSame.next
  exact Same.refl _ _
  split
  refine State.finish_same rfl ?_
  refine (State.takeIds_same ..).then rfl ?_
  refine (State.advanceTo_same ..).then rfl ?_
  exact Same.refl _ _
  apply OutSame.next
  exact Same.refl _ _

theorem execWindowFree_same (window : Nat) (s : State) :
    OutSame { maps := true } s (execWindowFree window s) := by
  unfold execWindowFree
  dsimp only
  split
  apply OutSame.next
  exact Same.refl _ _
  split
  apply OutSame.next
  exact Same.refl _ _
  apply OutSame.next
  refine (State.dropRegions_same ..).then rfl ?_
  refine (State.modWindow_same ..).then rfl ?_
  exact Same.refl _ _

theorem execTallyOccupancyTick_same (s : State) :
    OutSame { pads := true } s (execTallyOccupancyTick s) := by
  unfold execTallyOccupancyTick
  dsimp only
  apply OutSame.next
  refine Same.foldl ?_ ?_
  exact Same.refl _ _
  intro _ _
  refine (State.tally_same ..).then rfl ?_
  refine (State.tally_same ..).then rfl ?_
  exact Same.refl _ _

end Sys2Proof.Machine
end

