-- ==== Sys2Proof/Laws/FrameNode.lean ====
section
/-! SUPPORT. Frames of links, settings, start-up and ostlers. -/

set_option Elab.async false

namespace Sys2Proof.Machine

theorem execPfcFrameReceive_same (link : Nat) (prio : Nat) (pause : Bool) (s : State) :
    OutSame { sch := true } s (execPfcFrameReceive link prio pause s) := by
  unfold execPfcFrameReceive
  dsimp only
  split
  split
  apply OutSame.next
  exact Same.refl _ _
  apply OutSame.next
  refine (State.putSched_same ..).then rfl ?_
  exact Same.refl _ _
  apply OutSame.next
  exact Same.refl _ _

theorem State.moveHomes_same (s : State) (link : Nat) :
    Same { net := true } s (State.moveHomes s link) := by
  unfold State.moveHomes
  dsimp only
  split
  exact Same.refl _ _
  refine Same.update ?_
  exact Same.refl _ _

theorem State.dropLink_same (s : State) (link : Nat) :
    Same { net := true, sch := true } s (State.dropLink s link) := by
  unfold State.dropLink
  dsimp only
  refine (State.moveHomes_same ..).then rfl ?_
  refine (State.modSched_same ..).then rfl ?_
  refine (State.modLink_same ..).then rfl ?_
  exact Same.refl _ _

theorem execLinkDown_same (link : Nat) (s : State) :
    OutSame { net := true, sch := true } s (execLinkDown link s) := by
  unfold execLinkDown
  split
  apply OutSame.next
  exact Same.refl _ _
  split
  apply OutSame.next
  refine (State.dropLink_same ..).then rfl ?_
  exact Same.refl _ _
  apply OutSame.next
  exact Same.refl _ _

theorem State.sendLldp_same (s : State) (link : Nat) :
    Same { sch := true } s (State.sendLldp s link) := by
  unfold State.sendLldp
  dsimp only
  refine (State.egressOther_same ..).then rfl ?_
  exact Same.refl _ _

theorem State.announce_same (s : State) :
    Same { sch := true } s (State.announce s) := by
  unfold State.announce
  refine Same.foldl ?_ ?_
  exact Same.refl _ _
  intro _ _
  refine (State.sendLldp_same ..).then rfl ?_
  exact Same.refl _ _

theorem State.discover_same (s : State) :
    Same { out := true, boot := true, regs := true, host := true, sch := true } s (State.discover s) := by
  unfold State.discover
  refine (State.announce_same ..).then rfl ?_
  refine (State.setStage_same ..).then rfl ?_
  exact Same.refl _ _

theorem execLinkUp_same (link : Nat) (s : State) :
    OutSame { out := true, boot := true, regs := true, host := true, net := true, sch := true } s (execLinkUp link s)
        := by
  unfold execLinkUp
  dsimp only
  split
  apply OutSame.next
  exact Same.refl _ _
  split
  apply OutSame.next
  exact Same.refl _ _
  apply OutSame.next
  refine Same.ite ?_ ?_
  refine (State.discover_same ..).then rfl ?_
  refine (State.sendLldp_same ..).then rfl ?_
  refine (State.modLink_same ..).then rfl ?_
  exact Same.refl _ _
  refine (State.sendLldp_same ..).then rfl ?_
  refine (State.modLink_same ..).then rfl ?_
  exact Same.refl _ _

theorem execLinkStageTimeout_same (s : State) :
    OutSame { out := true, time := true, boot := true, regs := true, host := true, log := true, maps := true, sch :=
              true } s (execLinkStageTimeout s) := by
  unfold execLinkStageTimeout
  dsimp only
  split
  apply OutSame.next
  exact Same.refl _ _
  refine State.finish_same rfl ?_
  refine Same.ite ?_ ?_
  refine (State.discover_same ..).then rfl ?_
  refine (State.note_same ..).then rfl ?_
  refine Same.update ?_
  refine (State.advanceTo_same ..).then rfl ?_
  exact Same.refl _ _
  refine (State.note_same ..).then rfl ?_
  refine Same.update ?_
  refine (State.advanceTo_same ..).then rfl ?_
  exact Same.refl _ _

theorem execLldpduReceive_same (link : Nat) (chassis : Bytes) (port : Bytes) (s : State) :
    OutSame { out := true, regs := true, host := true, net := true } s (execLldpduReceive link chassis port s) := by
  unfold execLldpduReceive
  dsimp only
  split
  apply OutSame.next
  exact Same.refl _ _
  split
  apply OutSame.next
  exact Same.refl _ _
  split
  apply OutSame.next
  refine (State.functionDone_same ..).then rfl ?_
  refine (State.modLink_same ..).then rfl ?_
  refine (State.modLink_same ..).then rfl ?_
  exact Same.refl _ _
  apply OutSame.next
  refine (State.modLink_same ..).then rfl ?_
  exact Same.refl _ _

theorem execDiscoveryEnd_same (s : State) :
    OutSame { out := true, time := true, boot := true, regs := true, host := true } s (execDiscoveryEnd s) := by
  unfold execDiscoveryEnd
  dsimp only
  split
  apply OutSame.next
  exact Same.refl _ _
  apply OutSame.next
  refine Same.update ?_
  refine (State.setStage_same ..).then rfl ?_
  refine Same.ite ?_ ?_
  exact Same.refl _ _
  refine (State.advanceTo_same ..).then rfl ?_
  exact Same.refl _ _

theorem execPtpMessage_same (offsetNs : Int) (locked : Bool) (s : State) :
    OutSame { time := true, net := true, sch := true } s (execPtpMessage offsetNs locked s) := by
  unfold execPtpMessage
  dsimp only
  split
  apply OutSame.next
  exact Same.refl _ _
  split
  apply OutSame.next
  exact Same.refl _ _
  apply OutSame.next
  refine (State.egressOther_same ..).then rfl ?_
  refine Same.update ?_
  exact Same.refl _ _

theorem State.applyImage_same (s : State) (img : Image) :
    Same { img := true, net := true, store := true, sch := true, pwr := true } s (State.applyImage s img) := by
  unfold State.applyImage
  dsimp only
  refine Same.update ?_
  exact Same.refl _ _

theorem State.adoptImage_same (s : State) (slot : Nat) (m : List Host.Cell) :
    Same { out := true, boot := true, img := true, regs := true, host := true, log := true, net := true, store :=
           true, sch := true, pwr := true } s (State.adoptImage s slot m) := by
  unfold State.adoptImage
  dsimp only
  refine Same.foldl ?_ ?_
  refine (State.applyImage_same ..).then rfl ?_
  refine Same.update ?_
  exact Same.refl _ _
  intro _ _
  refine (State.note_same ..).then rfl ?_
  exact Same.refl _ _

theorem execVauxUp_same (mgmtSel : Bool) (mgmtId : Nat) (testMode : Bool) (s : State) :
    OutSame { power := true, regs := true, log := true } s (execVauxUp mgmtSel mgmtId testMode s) := by
  unfold execVauxUp
  dsimp only
  split
  apply OutSame.next
  exact Same.refl _ _
  apply OutSame.next
  refine Same.update ?_
  exact Same.refl _ _

theorem State.startPhase_same (s : State) (phase : Nat) :
    Same { power := true, boot := true } s (State.startPhase s phase) := by
  unfold State.startPhase
  dsimp only
  refine Same.update ?_
  exact Same.refl _ _

theorem execPowerGood_same (mgmtSel : Bool) (mgmtId : Nat) (testMode : Bool) (s : State) :
    OutSame { out := true, power := true, boot := true, regs := true, host := true } s (execPowerGood mgmtSel mgmtId
        testMode s) := by
  unfold execPowerGood
  dsimp only
  split
  apply OutSame.next
  exact Same.refl _ _
  apply OutSame.next
  refine Same.ite ?_ ?_
  refine Same.update ?_
  exact Same.refl _ _
  refine (State.startPhase_same ..).then rfl ?_
  refine (State.setStage_same ..).then rfl ?_
  refine Same.update ?_
  exact Same.refl _ _

theorem State.powerDone_same (s : State) :
    Same { out := true, power := true, boot := true, regs := true, host := true, pwr := true } s (State.powerDone s)
        := by
  unfold State.powerDone
  dsimp only
  refine (State.setStage_same ..).then rfl ?_
  refine Same.update ?_
  exact Same.refl _ _

theorem execPowerPhaseReady_same (s : State) :
    OutSame { out := true, power := true, boot := true, regs := true, host := true, pwr := true } s
        (execPowerPhaseReady s) := by
  unfold execPowerPhaseReady
  dsimp only
  split
  apply OutSame.next
  exact Same.refl _ _
  apply OutSame.next
  refine Same.ite ?_ ?_
  refine (State.powerDone_same ..).then rfl ?_
  refine Same.update ?_
  exact Same.refl _ _
  refine (State.startPhase_same ..).then rfl ?_
  refine Same.update ?_
  exact Same.refl _ _

theorem State.failPhase_same (s : State) (phase : Nat) :
    Same { out := true, power := true, boot := true, regs := true, host := true, log := true } s (State.failPhase s
        phase) := by
  unfold State.failPhase
  dsimp only
  refine Same.ite ?_ ?_
  refine (State.fatalEvent_same ..).then rfl ?_
  refine (State.setStage_same ..).then rfl ?_
  refine Same.update ?_
  exact Same.refl _ _
  refine Same.update ?_
  exact Same.refl _ _

theorem execPowerPhaseTimeout_same (s : State) :
    OutSame { out := true, time := true, power := true, boot := true, regs := true, host := true, log := true } s
        (execPowerPhaseTimeout s) := by
  unfold execPowerPhaseTimeout
  dsimp only
  split
  apply OutSame.next
  exact Same.refl _ _
  apply OutSame.next
  refine (State.failPhase_same ..).then rfl ?_
  refine (State.advanceTo_same ..).then rfl ?_
  exact Same.refl _ _

theorem execA384PhaseDelayEnd_same (ivr : Bool) (osc : Bool) (logic : Bool) (sites : Nat) (s : State) :
    OutSame { out := true, time := true, power := true, boot := true, regs := true, host := true, log := true, pwr :=
              true } s (execA384PhaseDelayEnd ivr osc logic sites s) := by
  unfold execA384PhaseDelayEnd
  dsimp only
  split
  apply OutSame.next
  exact Same.refl _ _
  split
  apply OutSame.next
  refine (State.startPhase_same ..).then rfl ?_
  refine (State.advanceTo_same ..).then rfl ?_
  exact Same.refl _ _
  split
  apply OutSame.next
  refine (State.failPhase_same ..).then rfl ?_
  refine (State.advanceTo_same ..).then rfl ?_
  exact Same.refl _ _
  split
  apply OutSame.next
  refine (State.failPhase_same ..).then rfl ?_
  refine (State.advanceTo_same ..).then rfl ?_
  exact Same.refl _ _
  split
  apply OutSame.next
  refine (State.failPhase_same ..).then rfl ?_
  refine (State.advanceTo_same ..).then rfl ?_
  exact Same.refl _ _
  split
  apply OutSame.next
  refine (State.failPhase_same ..).then rfl ?_
  refine (State.advanceTo_same ..).then rfl ?_
  exact Same.refl _ _
  apply OutSame.next
  refine (State.powerDone_same ..).then rfl ?_
  refine Same.update ?_
  refine (State.advanceTo_same ..).then rfl ?_
  exact Same.refl _ _

theorem execPowerRetryTimer_same (s : State) :
    OutSame { out := true, time := true, power := true, boot := true, regs := true, host := true } s
        (execPowerRetryTimer s) := by
  unfold execPowerRetryTimer
  dsimp only
  split
  apply OutSame.next
  exact Same.refl _ _
  apply OutSame.next
  refine (State.startPhase_same ..).then rfl ?_
  refine (State.setStage_same ..).then rfl ?_
  refine Same.update ?_
  refine (State.advanceTo_same ..).then rfl ?_
  exact Same.refl _ _

theorem execPowerGoodLoss_same (s : State) :
    OutSame { time := true, power := true, boot := true, img := true, regs := true, host := true, log := true,
              ostlers := true, pads := true, sec := true, net := true, maps := true, store := true, eng := true, sch
              := true, leases := true, pwr := true, shr := true, mem := true } s (execPowerGoodLoss s) := by
  unfold execPowerGoodLoss
  split
  apply OutSame.next
  refine (State.coldReset_same ..).then rfl ?_
  exact Same.refl _ _
  apply OutSame.next
  exact Same.refl _ _

theorem execNodeRstN_same (lowNs : Nat) (s : State) :
    OutSame { time := true, power := true, boot := true, img := true, regs := true, host := true, log := true,
              ostlers := true, pads := true, sec := true, net := true, maps := true, store := true, eng := true, sch
              := true, leases := true, pwr := true, shr := true, mem := true } s (execNodeRstN lowNs s) := by
  unfold execNodeRstN
  split
  apply OutSame.next
  exact Same.refl _ _
  apply OutSame.next
  refine (State.coldReset_same ..).then rfl ?_
  exact Same.refl _ _

theorem execVauxLoss_same (s : State) :
    OutSame { time := true, power := true, boot := true, img := true, regs := true, host := true, log := true,
              ostlers := true, pads := true, sec := true, net := true, maps := true, store := true, eng := true, sch
              := true, leases := true, pwr := true, shr := true, mem := true } s (execVauxLoss s) := by
  unfold execVauxLoss
  dsimp only
  split
  apply OutSame.next
  exact Same.refl _ _
  apply OutSame.next
  refine Same.update ?_
  refine (State.coldReset_same ..).then rfl ?_
  exact Same.refl _ _

theorem State.resetFunction_same (s : State) :
    Same { regs := true, host := true, log := true, sec := true, pwr := true } s (State.resetFunction s) := by
  unfold State.resetFunction
  dsimp only
  refine Same.update ?_
  exact Same.refl _ _

theorem execPerst_same (s : State) :
    OutSame { regs := true, host := true, log := true, sec := true, pwr := true } s (execPerst s) := by
  unfold execPerst
  split
  apply OutSame.next
  refine (State.resetFunction_same ..).then rfl ?_
  exact Same.refl _ _
  apply OutSame.next
  exact Same.refl _ _

theorem execFlr_same (s : State) :
    OutSame { regs := true, host := true, log := true, sec := true, pwr := true } s (execFlr s) := by
  unfold execFlr
  apply OutSame.next
  refine (State.resetFunction_same ..).then rfl ?_
  exact Same.refl _ _

theorem State.markSlot_same (s : State) (i : Nat) (st : SlotState) (reason : Nat) :
    Same { out := true, boot := true, regs := true, host := true } s (State.markSlot s i st reason) := by
  unfold State.markSlot
  dsimp only
  refine (State.notify_same ..).then rfl ?_
  refine Same.update ?_
  exact Same.refl _ _

theorem State.writeRecord_same (s : State) :
    Same { boot := true } s (State.writeRecord s) := by
  unfold State.writeRecord
  refine Same.update ?_
  exact Same.refl _ _

theorem State.setSlot_same (s : State) (i : Nat) (st : SlotState) (reason : Nat) :
    Same { out := true, boot := true, regs := true, host := true } s (State.setSlot s i st reason) := by
  unfold State.setSlot
  refine (State.writeRecord_same ..).then rfl ?_
  refine (State.markSlot_same ..).then rfl ?_
  exact Same.refl _ _

theorem State.closeProbations_same (s : State) :
    Same { out := true, boot := true, regs := true, host := true, log := true } s (State.closeProbations s) := by
  unfold State.closeProbations
  refine Same.foldl ?_ ?_
  exact Same.refl _ _
  intro _ _
  refine Same.ite ?_ ?_
  refine (State.note_same ..).then rfl ?_
  refine (State.setSlot_same ..).then rfl ?_
  exact Same.refl _ _
  exact Same.refl _ _

theorem State.tryStart_same (s : State) (st : SlotState) :
    Same { out := true, boot := true, img := true, regs := true, host := true, log := true, net := true, store :=
           true, sch := true, pwr := true } s (State.tryStart s st).2 := by
  unfold State.tryStart
  dsimp only
  split
  dsimp only
  exact Same.refl _ _
  split
  dsimp only
  refine (State.setSlot_same ..).then rfl ?_
  exact Same.refl _ _
  split
  dsimp only
  refine Same.update ?_
  refine (State.setSlot_same ..).then rfl ?_
  refine (State.adoptImage_same ..).then rfl ?_
  exact Same.refl _ _
  dsimp only
  refine (State.setSlot_same ..).then rfl ?_
  refine (State.adoptImage_same ..).then rfl ?_
  exact Same.refl _ _
  dsimp only
  refine (State.adoptImage_same ..).then rfl ?_
  exact Same.refl _ _

theorem State.chooseImage_same (s : State) :
    Same { out := true, boot := true, img := true, regs := true, host := true, log := true, net := true, store :=
           true, sch := true, pwr := true } s (State.chooseImage s).2 := by
  unfold State.chooseImage
  split
  dsimp only
  rename_i h2
  refine (Same.of_snd (State.tryStart_same ..) h2).then rfl ?_
  exact Same.refl _ _
  split
  dsimp only
  rename_i h6
  refine (Same.of_snd (State.tryStart_same ..) h6).then rfl ?_
  rename_i h7 _ _
  refine (Same.of_snd (State.tryStart_same ..) h7).then rfl ?_
  exact Same.refl _ _
  refine (State.tryStart_same ..).then rfl ?_
  rename_i h10
  refine (Same.of_snd (State.tryStart_same ..) h10).then rfl ?_
  rename_i h11 _ _
  refine (Same.of_snd (State.tryStart_same ..) h11).then rfl ?_
  exact Same.refl _ _

theorem State.imageStage_same (s : State) :
    Same { out := true, boot := true, img := true, regs := true, host := true, log := true, net := true, store :=
           true, sch := true, pwr := true } s (State.imageStage s) := by
  unfold State.imageStage
  dsimp only
  split
  refine (State.setStage_same ..).then rfl ?_
  rename_i h2
  refine (Same.of_snd (State.chooseImage_same ..) h2).then rfl ?_
  refine (State.closeProbations_same ..).then rfl ?_
  refine Same.update ?_
  exact Same.refl _ _
  refine (State.fatalEvent_same ..).then rfl ?_
  refine (State.setStage_same ..).then rfl ?_
  refine Same.update ?_
  rename_i h9
  refine (Same.of_snd (State.chooseImage_same ..) h9).then rfl ?_
  refine (State.closeProbations_same ..).then rfl ?_
  refine Same.update ?_
  exact Same.refl _ _

theorem execImageSelect_same (s : State) :
    OutSame { out := true, boot := true, img := true, regs := true, host := true, log := true, net := true, maps :=
              true, store := true, sch := true, pwr := true } s (execImageSelect s) := by
  unfold execImageSelect
  split
  refine State.finish_same rfl ?_
  refine (State.imageStage_same ..).then rfl ?_
  refine (State.setStage_same ..).then rfl ?_
  exact Same.refl _ _
  apply OutSame.next
  exact Same.refl _ _

theorem State.mapDie_same (s : State) (die : Nat) (failed : List Nat) :
    Same { out := true, farrier := true, regs := true, host := true, log := true, eng := true } s (State.mapDie s die
        failed) := by
  unfold State.mapDie
  dsimp only
  refine Same.foldl ?_ ?_
  refine Same.update ?_
  exact Same.refl _ _
  intro _ _
  refine (State.note_same ..).then rfl ?_
  exact Same.refl _ _

theorem State.overrun_same (s : State) :
    Same { boot := true } s (State.overrun s) := by
  unfold State.overrun
  dsimp only
  refine Same.update ?_
  exact Same.refl _ _

theorem execBistStageDone_same (failed0 : List Nat) (failed1 : List Nat) (s : State) :
    OutSame { out := true, farrier := true, boot := true, regs := true, host := true, log := true, maps := true, eng
              := true } s (execBistStageDone failed0 failed1 s) := by
  unfold execBistStageDone
  dsimp only
  split
  apply OutSame.next
  exact Same.refl _ _
  refine State.finish_same rfl ?_
  refine (State.setStage_same ..).then rfl ?_
  refine (State.modFault_same ..).then rfl ?_
  refine Same.ite ?_ ?_
  refine (State.mapDie_same ..).then rfl ?_
  refine (State.mapDie_same ..).then rfl ?_
  exact Same.refl _ _
  refine (State.overrun_same ..).then rfl ?_
  refine (State.mapDie_same ..).then rfl ?_
  refine (State.mapDie_same ..).then rfl ?_
  exact Same.refl _ _

theorem State.hbmStage_same (s : State) :
    Same { out := true, boot := true, regs := true, host := true } s (State.hbmStage s) := by
  unfold State.hbmStage
  refine Same.ite ?_ ?_
  refine (State.setStage_same ..).then rfl ?_
  exact Same.refl _ _
  exact Same.refl _ _

theorem State.modStack_same (s : State) (i : Nat) (f : Stack → Stack) :
    Same { store := true } s (State.modStack s i f) := by
  unfold State.modStack
  dsimp only
  refine Same.update ?_
  exact Same.refl _ _

theorem State.repairRows_same (s : State) (stack : Nat) :
    Same { farrier := true, store := true } s (State.repairRows s stack) := by
  unfold State.repairRows
  dsimp only
  refine Same.update ?_
  exact Same.refl _ _

theorem execHbmTrainingDone_same (stack : Nat) (s : State) :
    OutSame { out := true, farrier := true, boot := true, regs := true, host := true, store := true } s
        (execHbmTrainingDone stack s) := by
  unfold execHbmTrainingDone
  split
  apply OutSame.next
  exact Same.refl _ _
  split
  apply OutSame.next
  exact Same.refl _ _
  apply OutSame.next
  refine (State.hbmStage_same ..).then rfl ?_
  refine (State.modStack_same ..).then rfl ?_
  refine (State.repairRows_same ..).then rfl ?_
  exact Same.refl _ _

theorem execHbmTrainingTimeout_same (stack : Nat) (s : State) :
    OutSame { out := true, rng := true, time := true, farrier := true, boot := true, regs := true, host := true, log
              := true, pads := true, net := true, maps := true, store := true, eng := true, sch := true, leases :=
              true, pwr := true } s (execHbmTrainingTimeout stack s) := by
  unfold execHbmTrainingTimeout
  dsimp only
  split
  apply OutSame.next
  exact Same.refl _ _
  split
  apply OutSame.next
  exact Same.refl _ _
  split
  refine State.finish_same rfl ?_
  refine (State.note_same ..).then rfl ?_
  refine (State.overrun_same ..).then rfl ?_
  refine (State.modStack_same ..).then rfl ?_
  refine (State.advanceTo_same ..).then rfl ?_
  exact Same.refl _ _
  refine State.finish_same rfl ?_
  refine (State.hbmStage_same ..).then rfl ?_
  refine (State.stopStack_same ..).then rfl ?_
  refine Same.update ?_
  refine (State.advanceTo_same ..).then rfl ?_
  exact Same.refl _ _

theorem execBeaconSlotTimer_same (s : State) :
    OutSame { rng := true, time := true, boot := true, sch := true } s (execBeaconSlotTimer s) := by
  unfold execBeaconSlotTimer
  dsimp only
  split
  apply OutSame.next
  exact Same.refl _ _
  split
  apply OutSame.next
  exact Same.refl _ _
  split
  apply OutSame.next
  refine Same.update ?_
  refine (State.advanceTo_same ..).then rfl ?_
  exact Same.refl _ _
  apply OutSame.next
  refine Same.foldl ?_ ?_
  refine Same.update ?_
  refine (State.draw_same ..).then rfl ?_
  refine (State.advanceTo_same ..).then rfl ?_
  exact Same.refl _ _
  intro _ _
  refine (State.egressOther_same ..).then rfl ?_
  exact Same.refl _ _

theorem execJoinTimeout_same (s : State) :
    OutSame { out := true, time := true, boot := true, regs := true, host := true, log := true, maps := true } s
        (execJoinTimeout s) := by
  unfold execJoinTimeout
  dsimp only
  split
  apply OutSame.next
  exact Same.refl _ _
  refine State.finish_same rfl ?_
  refine (State.note_same ..).then rfl ?_
  refine (State.overrun_same ..).then rfl ?_
  refine Same.update ?_
  refine (State.advanceTo_same ..).then rfl ?_
  exact Same.refl _ _

theorem execJoinReply_same (reply : Bytes) (s : State) :
    OutSame { out := true, rng := true, boot := true, regs := true, host := true, maps := true } s (execJoinReply
        reply s) := by
  unfold execJoinReply
  dsimp only
  split
  apply OutSame.next
  exact Same.refl _ _
  apply OutSame.next
  refine (State.setStage_same ..).then rfl ?_
  refine (State.openWindow_same ..).then rfl ?_
  refine Same.update ?_
  exact Same.refl _ _

theorem State.passProbation_same (s : State) :
    Same { out := true, boot := true, regs := true, host := true } s (State.passProbation s) := by
  unfold State.passProbation
  dsimp only
  refine Same.foldl ?_ ?_
  refine Same.update ?_
  refine (State.setSlot_same ..).then rfl ?_
  refine Same.foldl ?_ ?_
  exact Same.refl _ _
  intro _ _
  refine (State.markSlot_same ..).then rfl ?_
  exact Same.refl _ _
  intro _ _
  refine (State.setSlot_same ..).then rfl ?_
  exact Same.refl _ _

theorem execProbationTimeExpiry_same (s : State) :
    OutSame { out := true, time := true, boot := true, regs := true, host := true } s (execProbationTimeExpiry s) :=
        by
  unfold execProbationTimeExpiry
  split
  apply OutSame.next
  exact Same.refl _ _
  apply OutSame.next
  refine (State.passProbation_same ..).then rfl ?_
  refine (State.advanceTo_same ..).then rfl ?_
  exact Same.refl _ _

theorem execProbationServeExpiry_same (s : State) :
    OutSame { out := true, time := true, boot := true, regs := true, host := true, log := true, maps := true } s
        (execProbationServeExpiry s) := by
  unfold execProbationServeExpiry
  dsimp only
  split
  apply OutSame.next
  exact Same.refl _ _
  refine State.finish_same rfl ?_
  refine (State.failProbation_same ..).then rfl ?_
  refine (State.advanceTo_same ..).then rfl ?_
  exact Same.refl _ _

theorem State.loseRef_same (s : State) (ref : Nat) :
    Same { out := true, regs := true, pwr := true } s (State.loseRef s ref) := by
  unfold State.loseRef
  dsimp only
  refine (State.eventBit_same ..).then rfl ?_
  refine Same.update ?_
  exact Same.refl _ _

theorem State.dropPorts_same (s : State) (ports : List Nat) :
    Same { net := true, sch := true } s (State.dropPorts s ports) := by
  unfold State.dropPorts
  refine Same.foldl ?_ ?_
  exact Same.refl _ _
  intro _ _
  refine (State.dropLink_same ..).then rfl ?_
  exact Same.refl _ _

theorem execRefclkLoss_same (ref : Nat) (s : State) :
    OutSame { out := true, rng := true, time := true, boot := true, img := true, regs := true, host := true, log :=
              true, ostlers := true, pads := true, sec := true, net := true, maps := true, store := true, eng :=
              true, sch := true, leases := true, pwr := true, shr := true, mem := true } s (execRefclkLoss ref s) :=
              by
  unfold execRefclkLoss
  dsimp only
  split
  apply OutSame.next
  exact Same.refl _ _
  split
  refine State.finish_same rfl ?_
  refine Same.foldl ?_ ?_
  refine Same.update ?_
  refine (State.loseRef_same ..).then rfl ?_
  exact Same.refl _ _
  intro _ _
  refine (State.losePort_same ..).then rfl ?_
  exact Same.refl _ _
  refine State.finish_same rfl ?_
  refine (State.note_same ..).then rfl ?_
  refine Same.update ?_
  refine (State.dropPorts_same ..).then rfl ?_
  refine (State.loseRef_same ..).then rfl ?_
  exact Same.refl _ _
  apply OutSame.next
  refine (State.dropPorts_same ..).then rfl ?_
  refine (State.loseRef_same ..).then rfl ?_
  exact Same.refl _ _
  refine State.finish_same rfl ?_
  refine (State.report_same ..).then rfl ?_
  refine (State.loseRef_same ..).then rfl ?_
  exact Same.refl _ _

theorem execRefclkRestore_same (ref : Nat) (s : State) :
    OutSame { pwr := true } s (execRefclkRestore ref s) := by
  unfold execRefclkRestore
  dsimp only
  split
  apply OutSame.next
  exact Same.refl _ _
  apply OutSame.next
  refine Same.update ?_
  exact Same.refl _ _

theorem execPpsPulse_same (s : State) :
    OutSame { out := true, time := true } s (execPpsPulse s) := by
  unfold execPpsPulse
  split
  apply OutSame.next
  exact Same.refl _ _
  apply OutSame.next
  refine (State.emit_same ..).then rfl ?_
  refine (State.advanceTo_same ..).then rfl ?_
  exact Same.refl _ _

theorem State.tagMismatch_same (s : State) (e : ErrRep) :
    Same { net := true, maps := true, store := true, eng := true } s (State.tagMismatch s e) := by
  unfold State.tagMismatch
  dsimp only
  refine (State.afterUnits_same ..).then rfl ?_
  refine (State.breakSteps_same ..).then rfl ?_
  refine Same.ite ?_ ?_
  refine Same.update ?_
  refine (State.suspectUnit_same ..).then rfl ?_
  exact Same.refl _ _
  refine (State.suspectUnit_same ..).then rfl ?_
  exact Same.refl _ _

theorem State.repairUnit_same (s : State) (e : ErrRep) :
    Same { out := true, rng := true, farrier := true, regs := true, host := true, log := true, pads := true, net :=
           true, maps := true, store := true, eng := true, sch := true, leases := true } s (State.repairUnit s e) :=
           by
  unfold State.repairUnit
  dsimp only
  refine Same.ite ?_ ?_
  exact Same.refl _ _
  refine Same.ite ?_ ?_
  refine (State.tagMismatch_same ..).then rfl ?_
  exact Same.refl _ _
  refine Same.ite ?_ ?_
  refine Same.ite ?_ ?_
  refine Same.ite ?_ ?_
  refine (State.retireFrame_same ..).then rfl ?_
  refine Same.update ?_
  exact Same.refl _ _
  refine Same.update ?_
  exact Same.refl _ _
  refine (State.retireFrame_same ..).then rfl ?_
  refine (State.poisonFrame_same ..).then rfl ?_
  exact Same.refl _ _
  refine Same.ite ?_ ?_
  refine Same.ite ?_ ?_
  refine (State.afterUnits_same ..).then rfl ?_
  refine (State.modCluster_same ..).then rfl ?_
  split
  refine (State.breakOn_same ..).then rfl ?_
  exact Same.refl _ _
  refine (State.breakOn_same ..).then rfl ?_
  exact Same.refl _ _
  exact Same.refl _ _
  refine (State.afterUnits_same ..).then rfl ?_
  refine (State.retireCluster_same ..).then rfl ?_
  exact Same.refl _ _
  exact Same.refl _ _

theorem State.handleReport_same (s : State) (e : ErrRep) (detected : Nat) :
    Same { out := true, rng := true, time := true, farrier := true, boot := true, img := true, regs := true, host :=
           true, log := true, ostlers := true, pads := true, sec := true, net := true, maps := true, store := true,
           eng := true, sch := true, leases := true, pwr := true, shr := true, mem := true } s (State.handleReport s
           e detected) := by
  unfold State.handleReport
  refine Same.ite ?_ ?_
  refine (State.eccDomain_same ..).then rfl ?_
  exact Same.refl _ _
  refine (State.repairUnit_same ..).then rfl ?_
  refine (State.handleError_same ..).then rfl ?_
  exact Same.refl _ _

theorem execErrorReport_same (report : ErrRep) (s : State) :
    OutSame { out := true, rng := true, time := true, farrier := true, boot := true, img := true, regs := true, host
              := true, log := true, ostlers := true, pads := true, sec := true, net := true, maps := true, store :=
              true, eng := true, sch := true, leases := true, pwr := true, shr := true, mem := true } s
              (execErrorReport report s) := by
  unfold execErrorReport
  dsimp only
  split
  refine State.finish_same rfl ?_
  refine (State.report_same ..).then rfl ?_
  refine (State.wake_same ..).then rfl ?_
  exact Same.refl _ _
  refine State.finish_same rfl ?_
  refine (State.handleReport_same ..).then rfl ?_
  refine (State.wake_same ..).then rfl ?_
  exact Same.refl _ _

theorem State.startOstler_same (s : State) (b : Bytes) (i : Nat) :
    Same { ostlers := true } s (State.startOstler s b i) := by
  unfold State.startOstler
  refine (State.modOstler_same ..).then rfl ?_
  exact Same.refl _ _

theorem State.haltOstler_same (s : State) (i : Nat) :
    Same { out := true, rng := true, farrier := true, regs := true, host := true, log := true, pads := true, sec :=
           true, net := true, maps := true, store := true, eng := true, sch := true, leases := true, pwr := true } s
           (State.haltOstler s i) := by
  unfold State.haltOstler
  dsimp only
  refine Same.ite ?_ ?_
  refine Same.update ?_
  exact Same.refl _ _
  refine Same.ite ?_ ?_
  refine Same.foldl ?_ ?_
  exact Same.refl _ _
  intro _ _
  split
  exact Same.refl _ _
  refine (State.failOp_same ..).then rfl ?_
  exact Same.refl _ _
  exact Same.refl _ _

theorem State.restartOstler_same (s : State) (i : Nat) :
    Same { out := true, rng := true, time := true, farrier := true, boot := true, img := true, regs := true, host :=
           true, log := true, ostlers := true, pads := true, sec := true, net := true, maps := true, store := true,
           eng := true, sch := true, leases := true, pwr := true, shr := true, mem := true } s (State.restartOstler s
           i) := by
  unfold State.restartOstler
  dsimp only
  split
  exact Same.refl _ _
  refine Same.ite ?_ ?_
  exact Same.refl _ _
  refine Same.ite ?_ ?_
  refine (State.report_same ..).then rfl ?_
  refine Same.ite ?_ ?_
  refine (State.failProbation_same ..).then rfl ?_
  refine (State.note_same ..).then rfl ?_
  refine (State.modOstler_same ..).then rfl ?_
  refine (State.haltOstler_same ..).then rfl ?_
  exact Same.refl _ _
  refine (State.note_same ..).then rfl ?_
  refine (State.modOstler_same ..).then rfl ?_
  refine (State.haltOstler_same ..).then rfl ?_
  exact Same.refl _ _
  refine Same.ite ?_ ?_
  refine (State.failProbation_same ..).then rfl ?_
  refine (State.note_same ..).then rfl ?_
  refine (State.modOstler_same ..).then rfl ?_
  refine (State.haltOstler_same ..).then rfl ?_
  exact Same.refl _ _
  refine (State.note_same ..).then rfl ?_
  refine (State.modOstler_same ..).then rfl ?_
  refine (State.haltOstler_same ..).then rfl ?_
  exact Same.refl _ _

theorem execWatchdogExpiry_same (ostler : Nat) (s : State) :
    OutSame { out := true, rng := true, time := true, farrier := true, boot := true, img := true, regs := true, host
              := true, log := true, ostlers := true, pads := true, sec := true, net := true, maps := true, store :=
              true, eng := true, sch := true, leases := true, pwr := true, shr := true, mem := true } s
              (execWatchdogExpiry ostler s) := by
  unfold execWatchdogExpiry
  refine State.finish_same rfl ?_
  refine (State.restartOstler_same ..).then rfl ?_
  refine (State.wake_same ..).then rfl ?_
  exact Same.refl _ _

theorem execProtectionViolation_same (ostler : Nat) (address : Nat) (s : State) :
    OutSame { out := true, rng := true, time := true, farrier := true, boot := true, img := true, regs := true, host
              := true, log := true, ostlers := true, pads := true, sec := true, net := true, maps := true, store :=
              true, eng := true, sch := true, leases := true, pwr := true, shr := true, mem := true } s
              (execProtectionViolation ostler address s) := by
  unfold execProtectionViolation
  dsimp only
  split
  apply OutSame.next
  exact Same.refl _ _
  split
  apply OutSame.next
  exact Same.refl _ _
  refine State.finish_same rfl ?_
  refine (State.restartOstler_same ..).then rfl ?_
  refine (State.note_same ..).then rfl ?_
  refine (State.wake_same ..).then rfl ?_
  exact Same.refl _ _

theorem State.putFunction_same (s : State) (f : Function_) :
    Same { host := true } s (State.putFunction s f) := by
  unfold State.putFunction
  dsimp only
  refine Same.update ?_
  exact Same.refl _ _

theorem State.startSlice_same (s : State) (slice : Nat) :
    Same { out := true, regs := true, host := true, sch := true } s (State.startSlice s slice) := by
  unfold State.startSlice
  dsimp only
  refine (State.functionDone_same ..).then rfl ?_
  refine (State.putFunction_same ..).then rfl ?_
  refine (State.modSched_same ..).then rfl ?_
  refine Same.update ?_
  exact Same.refl _ _

theorem State.sliceDown_same (s : State) (slice : Nat) :
    Same { out := true, regs := true, host := true, sch := true } s (State.sliceDown s slice) := by
  unfold State.sliceDown
  dsimp only
  refine Same.ite ?_ ?_
  exact Same.refl _ _
  refine Same.ite ?_ ?_
  refine (State.startSlice_same ..).then rfl ?_
  refine (State.functionDone_same ..).then rfl ?_
  refine (State.putFunction_same ..).then rfl ?_
  exact Same.refl _ _
  refine (State.functionDone_same ..).then rfl ?_
  refine (State.putFunction_same ..).then rfl ?_
  exact Same.refl _ _

theorem State.linkDown_same (s : State) (link : Nat) :
    Same { out := true, regs := true, host := true, net := true, sch := true } s (State.linkDown s link) := by
  unfold State.linkDown
  dsimp only
  split
  exact Same.refl _ _
  refine Same.ite ?_ ?_
  exact Same.refl _ _
  refine (State.functionDone_same ..).then rfl ?_
  refine (State.modLink_same ..).then rfl ?_
  refine (State.modSched_same ..).then rfl ?_
  refine (State.dropLink_same ..).then rfl ?_
  exact Same.refl _ _

theorem State.ostlerDown_same (s : State) (i : Nat) :
    Same { out := true, regs := true, host := true } s (State.ostlerDown s i) := by
  unfold State.ostlerDown
  dsimp only
  refine Same.ite ?_ ?_
  exact Same.refl _ _
  refine (State.functionDone_same ..).then rfl ?_
  refine (State.putFunction_same ..).then rfl ?_
  exact Same.refl _ _

theorem execFunctionShutdownComplete_same (kind : Nat) (id : Nat) (s : State) :
    OutSame { out := true, regs := true, host := true, net := true, sch := true } s (execFunctionShutdownComplete
        kind id s) := by
  unfold execFunctionShutdownComplete
  split
  apply OutSame.next
  refine (State.linkDown_same ..).then rfl ?_
  exact Same.refl _ _
  apply OutSame.next
  refine (State.sliceDown_same ..).then rfl ?_
  exact Same.refl _ _
  apply OutSame.next
  refine (State.ostlerDown_same ..).then rfl ?_
  exact Same.refl _ _
  apply OutSame.next
  exact Same.refl _ _

theorem execPortEgressDiscard_same (link : Nat) (s : State) :
    OutSame { time := true, sch := true } s (execPortEgressDiscard link s) := by
  unfold execPortEgressDiscard
  dsimp only
  split
  apply OutSame.next
  exact Same.refl _ _
  split
  apply OutSame.next
  exact Same.refl _ _
  apply OutSame.next
  refine (State.modSched_same ..).then rfl ?_
  refine (State.advanceTo_same ..).then rfl ?_
  exact Same.refl _ _

end Sys2Proof.Machine
end

