-- ==== Sys2Proof/Laws/FrameHost.lean ====
section
/-! SUPPORT. Frames of the host interface, power, registers, Sherun and SPDM. -/

set_option Elab.async false

namespace Sys2Proof.Machine

theorem okReply_same (s : State) (body : Bytes) :
    Same {} s (okReply s body).state := by
  unfold okReply
  dsimp only
  exact Same.refl _ _

theorem noReply_same (s : State) (status : Nat) (detail : Nat) :
    Same {} s (noReply s status detail).state := by
  unfold noReply
  dsimp only
  exact Same.refl _ _

theorem cmdNodeInfo_same (x0 : Mail) (s : State) :
    Same {} s (cmdNodeInfo x0 s).state := by
  unfold cmdNodeInfo
  refine (okReply_same ..).then rfl ?_
  exact Same.refl _ _

theorem cmdFwLoad_same (m : Mail) (s : State) :
    Same { boot := true } s (cmdFwLoad m s).state := by
  unfold cmdFwLoad
  dsimp only
  split
  refine (noReply_same ..).then rfl ?_
  exact Same.refl _ _
  split
  refine (noReply_same ..).then rfl ?_
  exact Same.refl _ _
  refine (okReply_same ..).then rfl ?_
  refine Same.update ?_
  exact Same.refl _ _

theorem State.enumerateCxl_same (s : State) :
    Same { store := true } s (State.enumerateCxl s) := by
  unfold State.enumerateCxl
  dsimp only
  refine Same.update ?_
  exact Same.refl _ _

theorem State.loadPrograms_same (s : State) (b : Bytes) :
    Same { out := true, regs := true, host := true, log := true, leases := true } s (State.loadPrograms s b) := by
  unfold State.loadPrograms
  dsimp only
  refine Same.foldl ?_ ?_
  refine Same.update ?_
  exact Same.refl _ _
  intro _ _
  refine (State.note_same ..).then rfl ?_
  exact Same.refl _ _

theorem State.passFirmware_same (s : State) (b : Bytes) :
    Same { out := true, rng := true, boot := true, regs := true, host := true, log := true, ostlers := true, sec :=
           true, store := true, leases := true } s (State.passFirmware s b) := by
  unfold State.passFirmware
  dsimp only
  refine (State.enumerateCxl_same ..).then rfl ?_
  refine (State.setStage_same ..).then rfl ?_
  refine (State.loadPrograms_same ..).then rfl ?_
  refine Same.update ?_
  refine Same.foldl ?_ ?_
  refine (State.draw_same ..).then rfl ?_
  refine (State.draw_same ..).then rfl ?_
  exact Same.refl _ _
  intro _ _
  refine (State.startOstler_same ..).then rfl ?_
  exact Same.refl _ _

theorem cmdFwStart_same (x0 : Mail) (s : State) :
    Same { out := true, rng := true, boot := true, regs := true, host := true, log := true, ostlers := true, sec :=
           true, store := true, leases := true } s (cmdFwStart x0 s).state := by
  unfold cmdFwStart
  dsimp only
  split
  refine (noReply_same ..).then rfl ?_
  exact Same.refl _ _
  split
  refine (noReply_same ..).then rfl ?_
  exact Same.refl _ _
  split
  refine (okReply_same ..).then rfl ?_
  refine (State.passFirmware_same ..).then rfl ?_
  refine (State.setStage_same ..).then rfl ?_
  exact Same.refl _ _
  refine (noReply_same ..).then rfl ?_
  refine (State.setStage_same ..).then rfl ?_
  refine (State.failProbation_same ..).then rfl ?_
  refine (State.note_same ..).then rfl ?_
  refine Same.update ?_
  refine (State.overrun_same ..).then rfl ?_
  refine (State.setStage_same ..).then rfl ?_
  exact Same.refl _ _

theorem State.refuseRim_same (s : State) :
    Same { boot := true } s (State.refuseRim s).state := by
  unfold State.refuseRim
  dsimp only
  refine (noReply_same ..).then rfl ?_
  refine Same.update ?_
  exact Same.refl _ _

theorem cmdRimWrite_same (m : Mail) (s : State) :
    Same { out := true, boot := true, regs := true, host := true } s (cmdRimWrite m s).state := by
  unfold cmdRimWrite
  dsimp only
  split
  refine (State.refuseRim_same ..).then rfl ?_
  exact Same.refl _ _
  split
  refine (noReply_same ..).then rfl ?_
  exact Same.refl _ _
  split
  refine (noReply_same ..).then rfl ?_
  exact Same.refl _ _
  refine (okReply_same ..).then rfl ?_
  refine Same.update ?_
  refine Same.ite ?_ ?_
  exact Same.refl _ _
  refine (State.setSlot_same ..).then rfl ?_
  exact Same.refl _ _

theorem cmdRimCommit_same (m : Mail) (s : State) :
    Same { out := true, boot := true, regs := true, host := true } s (cmdRimCommit m s).state := by
  unfold cmdRimCommit
  dsimp only
  split
  refine (State.refuseRim_same ..).then rfl ?_
  exact Same.refl _ _
  split
  refine (noReply_same ..).then rfl ?_
  exact Same.refl _ _
  split
  refine (noReply_same ..).then rfl ?_
  exact Same.refl _ _
  refine (okReply_same ..).then rfl ?_
  refine Same.ite ?_ ?_
  refine (State.setStage_same ..).then rfl ?_
  refine (State.setSlot_same ..).then rfl ?_
  refine Same.update ?_
  exact Same.refl _ _
  refine (State.setSlot_same ..).then rfl ?_
  refine Same.update ?_
  exact Same.refl _ _

theorem cmdRimReject_same (x0 : Mail) (s : State) :
    Same { out := true, boot := true, regs := true, host := true, log := true } s (cmdRimReject x0 s).state := by
  unfold cmdRimReject
  refine (okReply_same ..).then rfl ?_
  refine (State.failProbation_same ..).then rfl ?_
  exact Same.refl _ _

theorem cmdRimStatus_same (x0 : Mail) (s : State) :
    Same {} s (cmdRimStatus x0 s).state := by
  unfold cmdRimStatus
  dsimp only
  refine (okReply_same ..).then rfl ?_
  exact Same.refl _ _

theorem cmdWarmReset_same (x0 : Mail) (s : State) :
    Same {} s (cmdWarmReset x0 s).state := by
  unfold cmdWarmReset
  refine (okReply_same ..).then rfl ?_
  exact Same.refl _ _

theorem cmdOstlerRestart_same (m : Mail) (s : State) :
    Same { out := true, rng := true, time := true, farrier := true, boot := true, img := true, regs := true, host :=
           true, log := true, ostlers := true, pads := true, sec := true, net := true, maps := true, store := true,
           eng := true, sch := true, leases := true, pwr := true, shr := true, mem := true } s (cmdOstlerRestart m
           s).state := by
  unfold cmdOstlerRestart
  dsimp only
  split
  refine (noReply_same ..).then rfl ?_
  exact Same.refl _ _
  split
  refine (noReply_same ..).then rfl ?_
  exact Same.refl _ _
  split
  refine (noReply_same ..).then rfl ?_
  exact Same.refl _ _
  split
  refine (okReply_same ..).then rfl ?_
  exact Same.refl _ _
  refine (okReply_same ..).then rfl ?_
  refine (State.restartOstler_same ..).then rfl ?_
  refine (State.putFunction_same ..).then rfl ?_
  exact Same.refl _ _

theorem State.disableLink_same (s : State) (l : Link) :
    Same { net := true } s (State.disableLink s l).state := by
  unfold State.disableLink
  dsimp only
  split
  refine (okReply_same ..).then rfl ?_
  refine (State.modLink_same ..).then rfl ?_
  exact Same.refl _ _
  split
  refine (okReply_same ..).then rfl ?_
  exact Same.refl _ _
  refine (okReply_same ..).then rfl ?_
  refine (State.moveHomes_same ..).then rfl ?_
  refine (State.modLink_same ..).then rfl ?_
  exact Same.refl _ _

theorem State.enableLink_same (s : State) (l : Link) :
    Same { net := true } s (State.enableLink s l).state := by
  unfold State.enableLink
  split
  refine (okReply_same ..).then rfl ?_
  exact Same.refl _ _
  split
  split
  refine (noReply_same ..).then rfl ?_
  exact Same.refl _ _
  refine (okReply_same ..).then rfl ?_
  refine (State.modLink_same ..).then rfl ?_
  exact Same.refl _ _
  split
  refine (okReply_same ..).then rfl ?_
  exact Same.refl _ _
  refine (okReply_same ..).then rfl ?_
  refine (State.modLink_same ..).then rfl ?_
  exact Same.refl _ _

theorem cmdPortCtl_same (m : Mail) (s : State) :
    Same { net := true } s (cmdPortCtl m s).state := by
  unfold cmdPortCtl
  split
  refine (noReply_same ..).then rfl ?_
  exact Same.refl _ _
  split
  refine (noReply_same ..).then rfl ?_
  exact Same.refl _ _
  split
  refine (noReply_same ..).then rfl ?_
  exact Same.refl _ _
  split
  refine (State.disableLink_same ..).then rfl ?_
  exact Same.refl _ _
  refine (State.enableLink_same ..).then rfl ?_
  exact Same.refl _ _

theorem State.stopSlice_same (s : State) (slice : Nat) :
    Same { out := true, rng := true, farrier := true, regs := true, host := true, log := true, pads := true, net :=
           true, maps := true, store := true, eng := true, sch := true, leases := true, pwr := true } s
           (State.stopSlice s slice).state := by
  unfold State.stopSlice
  dsimp only
  split
  refine (okReply_same ..).then rfl ?_
  refine (State.putFunction_same ..).then rfl ?_
  exact Same.refl _ _
  refine (okReply_same ..).then rfl ?_
  refine Same.foldl ?_ ?_
  refine Same.update ?_
  refine (State.putFunction_same ..).then rfl ?_
  exact Same.refl _ _
  intro _ _
  split
  exact Same.refl _ _
  refine (State.failOp_same ..).then rfl ?_
  exact Same.refl _ _

theorem State.resumeSlice_same (s : State) (slice : Nat) :
    Same { out := true, regs := true, host := true, sch := true } s (State.resumeSlice s slice).state := by
  unfold State.resumeSlice
  dsimp only
  split
  refine (okReply_same ..).then rfl ?_
  exact Same.refl _ _
  split
  split
  refine (noReply_same ..).then rfl ?_
  exact Same.refl _ _
  refine (okReply_same ..).then rfl ?_
  refine (State.putFunction_same ..).then rfl ?_
  exact Same.refl _ _
  refine (okReply_same ..).then rfl ?_
  refine (State.startSlice_same ..).then rfl ?_
  exact Same.refl _ _

theorem cmdSliceCtl_same (m : Mail) (s : State) :
    Same { out := true, rng := true, farrier := true, regs := true, host := true, log := true, pads := true, net :=
           true, maps := true, store := true, eng := true, sch := true, leases := true, pwr := true } s (cmdSliceCtl
           m s).state := by
  unfold cmdSliceCtl
  dsimp only
  split
  refine (noReply_same ..).then rfl ?_
  exact Same.refl _ _
  split
  refine (noReply_same ..).then rfl ?_
  exact Same.refl _ _
  split
  refine (State.stopSlice_same ..).then rfl ?_
  exact Same.refl _ _
  refine (State.resumeSlice_same ..).then rfl ?_
  exact Same.refl _ _

theorem cmdPaddockCreate_same (m : Mail) (s : State) :
    Same { pads := true } s (cmdPaddockCreate m s).state := by
  unfold cmdPaddockCreate
  dsimp only
  split
  refine (noReply_same ..).then rfl ?_
  exact Same.refl _ _
  split
  refine (noReply_same ..).then rfl ?_
  exact Same.refl _ _
  refine (noReply_same ..).then rfl ?_
  exact Same.refl _ _
  refine (noReply_same ..).then rfl ?_
  exact Same.refl _ _
  split
  refine (noReply_same ..).then rfl ?_
  exact Same.refl _ _
  split
  refine (noReply_same ..).then rfl ?_
  exact Same.refl _ _
  split
  split
  refine (noReply_same ..).then rfl ?_
  exact Same.refl _ _
  refine (okReply_same ..).then rfl ?_
  refine (State.modPad_same ..).then rfl ?_
  exact Same.refl _ _
  refine (okReply_same ..).then rfl ?_
  refine (State.bringUpPad_same ..).then rfl ?_
  exact Same.refl _ _

theorem cmdPaddockTeardown_same (m : Mail) (s : State) :
    Same { out := true, rng := true, farrier := true, regs := true, host := true, log := true, pads := true, net :=
           true, maps := true, store := true, eng := true, sch := true, leases := true, pwr := true } s
           (cmdPaddockTeardown m s).state := by
  unfold cmdPaddockTeardown
  split
  refine (noReply_same ..).then rfl ?_
  exact Same.refl _ _
  refine (okReply_same ..).then rfl ?_
  refine (State.requestTeardown_same ..).then rfl ?_
  exact Same.refl _ _

theorem cmdPaddockQuery_same (m : Mail) (s : State) :
    Same {} s (cmdPaddockQuery m s).state := by
  unfold cmdPaddockQuery
  refine (okReply_same ..).then rfl ?_
  exact Same.refl _ _

theorem cmdAuditMode_same (m : Mail) (s : State) :
    Same { pads := true } s (cmdAuditMode m s).state := by
  unfold cmdAuditMode
  dsimp only
  split
  refine (noReply_same ..).then rfl ?_
  exact Same.refl _ _
  split
  refine (noReply_same ..).then rfl ?_
  exact Same.refl _ _
  split
  refine (noReply_same ..).then rfl ?_
  exact Same.refl _ _
  split
  refine (noReply_same ..).then rfl ?_
  exact Same.refl _ _
  refine (okReply_same ..).then rfl ?_
  refine (State.modPad_same ..).then rfl ?_
  exact Same.refl _ _

theorem cmdWindowInstall_same (m : Mail) (s : State) :
    Same { rng := true, maps := true, store := true } s (cmdWindowInstall m s).state := by
  unfold cmdWindowInstall
  dsimp only
  split
  refine (noReply_same ..).then rfl ?_
  exact Same.refl _ _
  split
  refine (noReply_same ..).then rfl ?_
  exact Same.refl _ _
  split
  refine (noReply_same ..).then rfl ?_
  exact Same.refl _ _
  split
  refine (noReply_same ..).then rfl ?_
  exact Same.refl _ _
  split
  refine (noReply_same ..).then rfl ?_
  exact Same.refl _ _
  split
  refine (noReply_same ..).then rfl ?_
  exact Same.refl _ _
  refine (okReply_same ..).then rfl ?_
  rename_i h19
  refine ((State.installWindow_same ..).of _ h19).then rfl ?_
  exact Same.refl _ _

theorem cmdWindowRemove_same (m : Mail) (s : State) :
    Same { rng := true, net := true, maps := true, store := true, eng := true, sch := true, leases := true, pwr :=
           true } s (cmdWindowRemove m s).state := by
  unfold cmdWindowRemove
  dsimp only
  split
  refine (noReply_same ..).then rfl ?_
  exact Same.refl _ _
  split
  refine (noReply_same ..).then rfl ?_
  exact Same.refl _ _
  refine (okReply_same ..).then rfl ?_
  refine (State.closeWindow_same ..).then rfl ?_
  exact Same.refl _ _

theorem State.freeRegion_same (s : State) :
    Same { rng := true } s (State.freeRegion s).2 := by
  unfold State.freeRegion
  dsimp only
  refine (State.choose_same ..).then rfl ?_
  exact Same.refl _ _

theorem State.putRegion_same (s : State) (index : Nat) (base : Nat) (size : Nat) (node : Nat) (paddock : Nat) :
    Same { maps := true } s (State.putRegion s index base size node paddock) := by
  unfold State.putRegion
  dsimp only
  refine Same.update ?_
  exact Same.refl _ _

theorem cmdRegionSet_same (m : Mail) (s : State) :
    Same { rng := true, maps := true } s (cmdRegionSet m s).state := by
  unfold cmdRegionSet
  dsimp only
  split
  refine (noReply_same ..).then rfl ?_
  exact Same.refl _ _
  split
  refine (noReply_same ..).then rfl ?_
  exact Same.refl _ _
  split
  refine (noReply_same ..).then rfl ?_
  exact Same.refl _ _
  split
  split
  refine (okReply_same ..).then rfl ?_
  exact Same.refl _ _
  refine (okReply_same ..).then rfl ?_
  refine (State.putRegion_same ..).then rfl ?_
  exact Same.refl _ _
  split
  refine (noReply_same ..).then rfl ?_
  exact Same.refl _ _
  split
  refine (noReply_same ..).then rfl ?_
  exact Same.refl _ _
  refine (okReply_same ..).then rfl ?_
  refine (State.putRegion_same ..).then rfl ?_
  rename_i h24
  refine (Same.of_snd (State.freeRegion_same ..) h24).then rfl ?_
  exact Same.refl _ _

theorem State.weightRoom_same (s : State) (n : Nat) (x0 : List Nat) :
    SomeSame { rng := true, store := true } s Prod.snd (State.weightRoom s n x0) := by
  induction x0 with
  | nil => exact SomeSame.some (Same.refl _ _)
  | cons k ks ih_weightRoom =>
    unfold State.weightRoom
    split
    exact SomeSame.none
    refine SomeSame.mapOf (h := Prod.snd) ?_ ?_
    rotate_left
    intro _ _
    rotate_left
    refine (State.allocMeta_same ..).via rfl ?_
    rename_i h4
    refine ((ih_weightRoom ..).of _ h4).then rfl ?_
    exact Same.refl _ _
    dsimp only
    assumption

theorem cmdWeightCreate_same (m : Mail) (s : State) :
    Same { rng := true, maps := true, store := true } s (cmdWeightCreate m s).state := by
  unfold cmdWeightCreate
  dsimp only
  split
  refine (noReply_same ..).then rfl ?_
  exact Same.refl _ _
  split
  refine (noReply_same ..).then rfl ?_
  exact Same.refl _ _
  split
  refine (noReply_same ..).then rfl ?_
  exact Same.refl _ _
  split
  split
  refine (noReply_same ..).then rfl ?_
  exact Same.refl _ _
  split
  refine (noReply_same ..).then rfl ?_
  exact Same.refl _ _
  refine (okReply_same ..).then rfl ?_
  refine Same.update ?_
  refine (State.openWindow_same ..).then rfl ?_
  rename_i h19
  refine ((State.weightRoom_same ..).of _ h19).then rfl ?_
  rename_i h20 _ _ _
  refine ((State.windowPlaceIn_same ..).of _ h20).then rfl ?_
  rename_i h21 _ _ _ _ _ _
  refine (Same.of_snd (State.freeWindow_same ..) h21).then rfl ?_
  exact Same.refl _ _
  refine (noReply_same ..).then rfl ?_
  exact Same.refl _ _

theorem cmdWeightCommit_same (m : Mail) (s : State) :
    Same { rng := true, net := true, maps := true, store := true, eng := true, sch := true, leases := true, pwr :=
           true } s (cmdWeightCommit m s).state := by
  unfold cmdWeightCommit
  dsimp only
  split
  refine (noReply_same ..).then rfl ?_
  exact Same.refl _ _
  split
  refine (noReply_same ..).then rfl ?_
  exact Same.refl _ _
  split
  refine (noReply_same ..).then rfl ?_
  exact Same.refl _ _
  split
  refine (okReply_same ..).then rfl ?_
  refine Same.update ?_
  refine (State.closeWindow_same ..).then rfl ?_
  exact Same.refl _ _
  refine (noReply_same ..).then rfl ?_
  refine Same.update ?_
  refine (State.closeWindow_same ..).then rfl ?_
  exact Same.refl _ _

theorem cmdWeightRemove_same (m : Mail) (s : State) :
    Same { rng := true, net := true, maps := true, store := true, eng := true, sch := true, leases := true, pwr :=
           true } s (cmdWeightRemove m s).state := by
  unfold cmdWeightRemove
  dsimp only
  split
  refine (noReply_same ..).then rfl ?_
  exact Same.refl _ _
  split
  refine (noReply_same ..).then rfl ?_
  exact Same.refl _ _
  refine (okReply_same ..).then rfl ?_
  refine (State.dropRemoved_same ..).then rfl ?_
  refine Same.update ?_
  split
  exact Same.refl _ _
  refine (State.closeWindow_same ..).then rfl ?_
  exact Same.refl _ _

theorem cmdSchedSet_same (m : Mail) (s : State) :
    Same { sch := true } s (cmdSchedSet m s).state := by
  unfold cmdSchedSet
  dsimp only
  split
  refine (noReply_same ..).then rfl ?_
  exact Same.refl _ _
  split
  refine (noReply_same ..).then rfl ?_
  exact Same.refl _ _
  split
  refine (noReply_same ..).then rfl ?_
  exact Same.refl _ _
  split
  refine (noReply_same ..).then rfl ?_
  exact Same.refl _ _
  refine (okReply_same ..).then rfl ?_
  refine Same.ite ?_ ?_
  refine Same.update ?_
  refine (State.putSched_same ..).then rfl ?_
  exact Same.refl _ _
  refine (State.putBridle_same ..).then rfl ?_
  refine Same.update ?_
  refine (State.putSched_same ..).then rfl ?_
  exact Same.refl _ _

theorem cmdGclSet_same (m : Mail) (s : State) :
    Same { sch := true } s (cmdGclSet m s).state := by
  unfold cmdGclSet
  dsimp only
  split
  refine (noReply_same ..).then rfl ?_
  exact Same.refl _ _
  split
  refine (noReply_same ..).then rfl ?_
  exact Same.refl _ _
  split
  refine (noReply_same ..).then rfl ?_
  exact Same.refl _ _
  split
  refine (noReply_same ..).then rfl ?_
  exact Same.refl _ _
  refine (okReply_same ..).then rfl ?_
  refine (State.putSched_same ..).then rfl ?_
  exact Same.refl _ _

theorem cmdTallySnapshot_same (m : Mail) (s : State) :
    Same { host := true } s (cmdTallySnapshot m s).state := by
  unfold cmdTallySnapshot
  dsimp only
  split
  refine (noReply_same ..).then rfl ?_
  exact Same.refl _ _
  split
  refine (noReply_same ..).then rfl ?_
  exact Same.refl _ _
  refine (okReply_same ..).then rfl ?_
  refine (State.modBox_same ..).then rfl ?_
  exact Same.refl _ _

theorem cmdTallyFetch_same (m : Mail) (s : State) :
    Same {} s (cmdTallyFetch m s).state := by
  unfold cmdTallyFetch
  dsimp only
  split
  refine (noReply_same ..).then rfl ?_
  exact Same.refl _ _
  split
  refine (noReply_same ..).then rfl ?_
  exact Same.refl _ _
  refine (okReply_same ..).then rfl ?_
  exact Same.refl _ _

theorem cmdLogRead_same (m : Mail) (s : State) :
    Same {} s (cmdLogRead m s).state := by
  unfold cmdLogRead
  dsimp only
  split
  refine (noReply_same ..).then rfl ?_
  exact Same.refl _ _
  split
  refine (noReply_same ..).then rfl ?_
  exact Same.refl _ _
  refine (okReply_same ..).then rfl ?_
  exact Same.refl _ _

theorem cmdHealthRead_same (x0 : Mail) (s : State) :
    Same {} s (cmdHealthRead x0 s).state := by
  unfold cmdHealthRead
  refine (okReply_same ..).then rfl ?_
  exact Same.refl _ _

theorem cmdPowerSet_same (m : Mail) (s : State) :
    Same { pwr := true } s (cmdPowerSet m s).state := by
  unfold cmdPowerSet
  dsimp only
  split
  refine (noReply_same ..).then rfl ?_
  exact Same.refl _ _
  split
  split
  refine (noReply_same ..).then rfl ?_
  exact Same.refl _ _
  split
  refine (noReply_same ..).then rfl ?_
  exact Same.refl _ _
  refine (okReply_same ..).then rfl ?_
  refine Same.update ?_
  exact Same.refl _ _
  split
  refine (noReply_same ..).then rfl ?_
  exact Same.refl _ _
  split
  refine (noReply_same ..).then rfl ?_
  exact Same.refl _ _
  refine (okReply_same ..).then rfl ?_
  refine Same.update ?_
  exact Same.refl _ _

theorem runCommand_same (m : Mail) (s : State) :
    Same { out := true, rng := true, time := true, farrier := true, boot := true, img := true, regs := true, host :=
           true, log := true, ostlers := true, pads := true, sec := true, net := true, maps := true, store := true,
           eng := true, sch := true, leases := true, pwr := true, shr := true, mem := true } s (runCommand m s).state
           := by
  unfold runCommand
  split
  refine (cmdNodeInfo_same ..).then rfl ?_
  exact Same.refl _ _
  refine (cmdFwLoad_same ..).then rfl ?_
  exact Same.refl _ _
  refine (cmdFwStart_same ..).then rfl ?_
  exact Same.refl _ _
  refine (cmdRimWrite_same ..).then rfl ?_
  exact Same.refl _ _
  refine (cmdRimCommit_same ..).then rfl ?_
  exact Same.refl _ _
  refine (cmdRimReject_same ..).then rfl ?_
  exact Same.refl _ _
  refine (cmdRimStatus_same ..).then rfl ?_
  exact Same.refl _ _
  refine (cmdWarmReset_same ..).then rfl ?_
  exact Same.refl _ _
  refine (cmdOstlerRestart_same ..).then rfl ?_
  exact Same.refl _ _
  refine (cmdPortCtl_same ..).then rfl ?_
  exact Same.refl _ _
  refine (cmdSliceCtl_same ..).then rfl ?_
  exact Same.refl _ _
  refine (cmdPaddockCreate_same ..).then rfl ?_
  exact Same.refl _ _
  refine (cmdPaddockTeardown_same ..).then rfl ?_
  exact Same.refl _ _
  refine (cmdPaddockQuery_same ..).then rfl ?_
  exact Same.refl _ _
  refine (cmdAuditMode_same ..).then rfl ?_
  exact Same.refl _ _
  refine (cmdWindowInstall_same ..).then rfl ?_
  exact Same.refl _ _
  refine (cmdWindowRemove_same ..).then rfl ?_
  exact Same.refl _ _
  refine (cmdRegionSet_same ..).then rfl ?_
  exact Same.refl _ _
  refine (cmdWeightCreate_same ..).then rfl ?_
  exact Same.refl _ _
  refine (cmdWeightCommit_same ..).then rfl ?_
  exact Same.refl _ _
  refine (cmdWeightRemove_same ..).then rfl ?_
  exact Same.refl _ _
  refine (cmdSchedSet_same ..).then rfl ?_
  exact Same.refl _ _
  refine (cmdGclSet_same ..).then rfl ?_
  exact Same.refl _ _
  refine (cmdTallySnapshot_same ..).then rfl ?_
  exact Same.refl _ _
  refine (cmdTallyFetch_same ..).then rfl ?_
  exact Same.refl _ _
  refine (cmdLogRead_same ..).then rfl ?_
  exact Same.refl _ _
  refine (cmdHealthRead_same ..).then rfl ?_
  exact Same.refl _ _
  refine (cmdPowerSet_same ..).then rfl ?_
  exact Same.refl _ _
  refine (noReply_same ..).then rfl ?_
  exact Same.refl _ _

theorem State.reply_same (s : State) (m : Mail) :
    Same { out := true, rng := true, time := true, farrier := true, boot := true, img := true, regs := true, host :=
           true, log := true, ostlers := true, pads := true, sec := true, net := true, maps := true, store := true,
           eng := true, sch := true, leases := true, pwr := true, shr := true, mem := true } s (State.reply s
           m).state := by
  unfold State.reply
  split
  refine (noReply_same ..).then rfl ?_
  exact Same.refl _ _
  split
  refine (noReply_same ..).then rfl ?_
  exact Same.refl _ _
  split
  refine (noReply_same ..).then rfl ?_
  exact Same.refl _ _
  split
  refine (noReply_same ..).then rfl ?_
  exact Same.refl _ _
  refine (runCommand_same ..).then rfl ?_
  exact Same.refl _ _

theorem State.writeReply_same (s : State) (m : Mail) (r : Reply) : Same { out := true, regs := true, host := true }
    r.state (State.writeReply s m r) := by
  unfold State.writeReply
  dsimp only
  refine (State.eventBit_same ..).then rfl ?_
  refine (State.modBox_same ..).then rfl ?_
  exact Same.refl _ _

theorem State.serveBox_same (s : State) (box : Nat) :
    Same { out := true, rng := true, time := true, farrier := true, boot := true, img := true, regs := true, host :=
           true, log := true, ostlers := true, pads := true, sec := true, net := true, maps := true, store := true,
           eng := true, sch := true, leases := true, pwr := true, shr := true, mem := true } s (State.serveBox s box)
           := by
  unfold State.serveBox
  dsimp only
  refine Same.ite ?_ ?_
  refine (State.warmReset_same ..).then rfl ?_
  refine (State.writeReply_same ..).then rfl ?_
  refine (State.reply_same ..).then rfl ?_
  refine Same.update ?_
  exact Same.refl _ _
  refine (State.writeReply_same ..).then rfl ?_
  refine (State.reply_same ..).then rfl ?_
  refine Same.update ?_
  exact Same.refl _ _

theorem State.serveWaiting_same (s : State) :
    Same { out := true, rng := true, time := true, farrier := true, boot := true, img := true, regs := true, host :=
           true, log := true, ostlers := true, pads := true, sec := true, net := true, maps := true, store := true,
           eng := true, sch := true, leases := true, pwr := true, shr := true, mem := true } s (State.serveWaiting s)
           := by
  unfold State.serveWaiting
  dsimp only
  refine Same.foldl ?_ ?_
  exact Same.refl _ _
  intro _ _
  refine Same.ite ?_ ?_
  refine (State.serveBox_same ..).then rfl ?_
  refine Same.update ?_
  exact Same.refl _ _
  exact Same.refl _ _

theorem State.ring_same (s : State) (box : Nat) :
    Same { out := true, rng := true, time := true, farrier := true, boot := true, img := true, regs := true, host :=
           true, log := true, ostlers := true, pads := true, sec := true, net := true, maps := true, store := true,
           eng := true, sch := true, leases := true, pwr := true, shr := true, mem := true } s (State.ring s box) :=
           by
  unfold State.ring
  dsimp only
  refine Same.ite ?_ ?_
  exact Same.refl _ _
  refine Same.ite ?_ ?_
  refine (State.modBox_same ..).then rfl ?_
  exact Same.refl _ _
  refine (State.serveWaiting_same ..).then rfl ?_
  refine (State.wake_same ..).then rfl ?_
  refine Same.update ?_
  refine (State.modBox_same ..).then rfl ?_
  exact Same.refl _ _

theorem State.fillBox_same (s : State) (box : Nat) (bytes : Bytes) :
    Same { host := true } s (State.fillBox s box bytes) := by
  unfold State.fillBox
  refine (State.modBox_same ..).then rfl ?_
  exact Same.refl _ _

theorem State.exchange_same (s : State) (m : Mbx) (op : Nat) :
    OutSame { out := true, rng := true, time := true, farrier := true, boot := true, img := true, regs := true, host
              := true, log := true, ostlers := true, pads := true, sec := true, net := true, maps := true, store :=
              true, eng := true, sch := true, leases := true, pwr := true, shr := true, mem := true } s
              (State.exchange s m op) := by
  unfold State.exchange
  split
  apply OutSame.next
  exact Same.refl _ _
  refine State.finish_same rfl ?_
  refine (State.serveWaiting_same ..).then rfl ?_
  refine (State.ring_same ..).then rfl ?_
  refine (State.fillBox_same ..).then rfl ?_
  exact Same.refl _ _

theorem execNodeInfo_same (m : Mbx) (s : State) :
    OutSame { out := true, rng := true, time := true, farrier := true, boot := true, img := true, regs := true, host
              := true, log := true, ostlers := true, pads := true, sec := true, net := true, maps := true, store :=
              true, eng := true, sch := true, leases := true, pwr := true, shr := true, mem := true } s (execNodeInfo
              m s) := by
  unfold execNodeInfo
  refine (State.exchange_same ..).via rfl ?_
  exact Same.refl _ _

theorem execFwLoad_same (m : Mbx) (s : State) :
    OutSame { out := true, rng := true, time := true, farrier := true, boot := true, img := true, regs := true, host
              := true, log := true, ostlers := true, pads := true, sec := true, net := true, maps := true, store :=
              true, eng := true, sch := true, leases := true, pwr := true, shr := true, mem := true } s (execFwLoad m
              s) := by
  unfold execFwLoad
  refine (State.exchange_same ..).via rfl ?_
  exact Same.refl _ _

theorem execFwStart_same (m : Mbx) (s : State) :
    OutSame { out := true, rng := true, time := true, farrier := true, boot := true, img := true, regs := true, host
              := true, log := true, ostlers := true, pads := true, sec := true, net := true, maps := true, store :=
              true, eng := true, sch := true, leases := true, pwr := true, shr := true, mem := true } s (execFwStart
              m s) := by
  unfold execFwStart
  refine (State.exchange_same ..).via rfl ?_
  exact Same.refl _ _

theorem execRimWrite_same (m : Mbx) (s : State) :
    OutSame { out := true, rng := true, time := true, farrier := true, boot := true, img := true, regs := true, host
              := true, log := true, ostlers := true, pads := true, sec := true, net := true, maps := true, store :=
              true, eng := true, sch := true, leases := true, pwr := true, shr := true, mem := true } s (execRimWrite
              m s) := by
  unfold execRimWrite
  refine (State.exchange_same ..).via rfl ?_
  exact Same.refl _ _

theorem execRimCommit_same (m : Mbx) (s : State) :
    OutSame { out := true, rng := true, time := true, farrier := true, boot := true, img := true, regs := true, host
              := true, log := true, ostlers := true, pads := true, sec := true, net := true, maps := true, store :=
              true, eng := true, sch := true, leases := true, pwr := true, shr := true, mem := true } s
              (execRimCommit m s) := by
  unfold execRimCommit
  refine (State.exchange_same ..).via rfl ?_
  exact Same.refl _ _

theorem execRimReject_same (m : Mbx) (s : State) :
    OutSame { out := true, rng := true, time := true, farrier := true, boot := true, img := true, regs := true, host
              := true, log := true, ostlers := true, pads := true, sec := true, net := true, maps := true, store :=
              true, eng := true, sch := true, leases := true, pwr := true, shr := true, mem := true } s
              (execRimReject m s) := by
  unfold execRimReject
  refine (State.exchange_same ..).via rfl ?_
  exact Same.refl _ _

theorem execRimStatus_same (m : Mbx) (s : State) :
    OutSame { out := true, rng := true, time := true, farrier := true, boot := true, img := true, regs := true, host
              := true, log := true, ostlers := true, pads := true, sec := true, net := true, maps := true, store :=
              true, eng := true, sch := true, leases := true, pwr := true, shr := true, mem := true } s
              (execRimStatus m s) := by
  unfold execRimStatus
  refine (State.exchange_same ..).via rfl ?_
  exact Same.refl _ _

theorem execWarmReset_same (m : Mbx) (s : State) :
    OutSame { out := true, rng := true, time := true, farrier := true, boot := true, img := true, regs := true, host
              := true, log := true, ostlers := true, pads := true, sec := true, net := true, maps := true, store :=
              true, eng := true, sch := true, leases := true, pwr := true, shr := true, mem := true } s
              (execWarmReset m s) := by
  unfold execWarmReset
  refine (State.exchange_same ..).via rfl ?_
  exact Same.refl _ _

theorem execOstlerRestart_same (m : Mbx) (s : State) :
    OutSame { out := true, rng := true, time := true, farrier := true, boot := true, img := true, regs := true, host
              := true, log := true, ostlers := true, pads := true, sec := true, net := true, maps := true, store :=
              true, eng := true, sch := true, leases := true, pwr := true, shr := true, mem := true } s
              (execOstlerRestart m s) := by
  unfold execOstlerRestart
  refine (State.exchange_same ..).via rfl ?_
  exact Same.refl _ _

theorem execPortCtlDisable_same (m : Mbx) (s : State) :
    OutSame { out := true, rng := true, time := true, farrier := true, boot := true, img := true, regs := true, host
              := true, log := true, ostlers := true, pads := true, sec := true, net := true, maps := true, store :=
              true, eng := true, sch := true, leases := true, pwr := true, shr := true, mem := true } s
              (execPortCtlDisable m s) := by
  unfold execPortCtlDisable
  split
  refine (State.exchange_same ..).via rfl ?_
  exact Same.refl _ _
  apply OutSame.next
  exact Same.refl _ _

theorem execPortCtlEnable_same (m : Mbx) (s : State) :
    OutSame { out := true, rng := true, time := true, farrier := true, boot := true, img := true, regs := true, host
              := true, log := true, ostlers := true, pads := true, sec := true, net := true, maps := true, store :=
              true, eng := true, sch := true, leases := true, pwr := true, shr := true, mem := true } s
              (execPortCtlEnable m s) := by
  unfold execPortCtlEnable
  split
  apply OutSame.next
  exact Same.refl _ _
  refine (State.exchange_same ..).via rfl ?_
  exact Same.refl _ _

theorem execSliceCtlStop_same (m : Mbx) (s : State) :
    OutSame { out := true, rng := true, time := true, farrier := true, boot := true, img := true, regs := true, host
              := true, log := true, ostlers := true, pads := true, sec := true, net := true, maps := true, store :=
              true, eng := true, sch := true, leases := true, pwr := true, shr := true, mem := true } s
              (execSliceCtlStop m s) := by
  unfold execSliceCtlStop
  split
  refine (State.exchange_same ..).via rfl ?_
  exact Same.refl _ _
  apply OutSame.next
  exact Same.refl _ _

theorem execSliceCtlStart_same (m : Mbx) (s : State) :
    OutSame { out := true, rng := true, time := true, farrier := true, boot := true, img := true, regs := true, host
              := true, log := true, ostlers := true, pads := true, sec := true, net := true, maps := true, store :=
              true, eng := true, sch := true, leases := true, pwr := true, shr := true, mem := true } s
              (execSliceCtlStart m s) := by
  unfold execSliceCtlStart
  split
  apply OutSame.next
  exact Same.refl _ _
  refine (State.exchange_same ..).via rfl ?_
  exact Same.refl _ _

theorem execPaddockCreate_same (m : Mbx) (s : State) :
    OutSame { out := true, rng := true, time := true, farrier := true, boot := true, img := true, regs := true, host
              := true, log := true, ostlers := true, pads := true, sec := true, net := true, maps := true, store :=
              true, eng := true, sch := true, leases := true, pwr := true, shr := true, mem := true } s
              (execPaddockCreate m s) := by
  unfold execPaddockCreate
  refine (State.exchange_same ..).via rfl ?_
  exact Same.refl _ _

theorem execPaddockTeardown_same (m : Mbx) (s : State) :
    OutSame { out := true, rng := true, time := true, farrier := true, boot := true, img := true, regs := true, host
              := true, log := true, ostlers := true, pads := true, sec := true, net := true, maps := true, store :=
              true, eng := true, sch := true, leases := true, pwr := true, shr := true, mem := true } s
              (execPaddockTeardown m s) := by
  unfold execPaddockTeardown
  refine (State.exchange_same ..).via rfl ?_
  exact Same.refl _ _

theorem execPaddockQuery_same (m : Mbx) (s : State) :
    OutSame { out := true, rng := true, time := true, farrier := true, boot := true, img := true, regs := true, host
              := true, log := true, ostlers := true, pads := true, sec := true, net := true, maps := true, store :=
              true, eng := true, sch := true, leases := true, pwr := true, shr := true, mem := true } s
              (execPaddockQuery m s) := by
  unfold execPaddockQuery
  refine (State.exchange_same ..).via rfl ?_
  exact Same.refl _ _

theorem execAuditMode_same (m : Mbx) (s : State) :
    OutSame { out := true, rng := true, time := true, farrier := true, boot := true, img := true, regs := true, host
              := true, log := true, ostlers := true, pads := true, sec := true, net := true, maps := true, store :=
              true, eng := true, sch := true, leases := true, pwr := true, shr := true, mem := true } s
              (execAuditMode m s) := by
  unfold execAuditMode
  refine (State.exchange_same ..).via rfl ?_
  exact Same.refl _ _

theorem execWindowInstall_same (m : Mbx) (s : State) :
    OutSame { out := true, rng := true, time := true, farrier := true, boot := true, img := true, regs := true, host
              := true, log := true, ostlers := true, pads := true, sec := true, net := true, maps := true, store :=
              true, eng := true, sch := true, leases := true, pwr := true, shr := true, mem := true } s
              (execWindowInstall m s) := by
  unfold execWindowInstall
  refine (State.exchange_same ..).via rfl ?_
  exact Same.refl _ _

theorem execWindowRemove_same (m : Mbx) (s : State) :
    OutSame { out := true, rng := true, time := true, farrier := true, boot := true, img := true, regs := true, host
              := true, log := true, ostlers := true, pads := true, sec := true, net := true, maps := true, store :=
              true, eng := true, sch := true, leases := true, pwr := true, shr := true, mem := true } s
              (execWindowRemove m s) := by
  unfold execWindowRemove
  refine (State.exchange_same ..).via rfl ?_
  exact Same.refl _ _

theorem execRegionSet_same (m : Mbx) (s : State) :
    OutSame { out := true, rng := true, time := true, farrier := true, boot := true, img := true, regs := true, host
              := true, log := true, ostlers := true, pads := true, sec := true, net := true, maps := true, store :=
              true, eng := true, sch := true, leases := true, pwr := true, shr := true, mem := true } s
              (execRegionSet m s) := by
  unfold execRegionSet
  refine (State.exchange_same ..).via rfl ?_
  exact Same.refl _ _

theorem execWeightCreate_same (m : Mbx) (s : State) :
    OutSame { out := true, rng := true, time := true, farrier := true, boot := true, img := true, regs := true, host
              := true, log := true, ostlers := true, pads := true, sec := true, net := true, maps := true, store :=
              true, eng := true, sch := true, leases := true, pwr := true, shr := true, mem := true } s
              (execWeightCreate m s) := by
  unfold execWeightCreate
  refine (State.exchange_same ..).via rfl ?_
  exact Same.refl _ _

theorem execWeightCommit_same (m : Mbx) (s : State) :
    OutSame { out := true, rng := true, time := true, farrier := true, boot := true, img := true, regs := true, host
              := true, log := true, ostlers := true, pads := true, sec := true, net := true, maps := true, store :=
              true, eng := true, sch := true, leases := true, pwr := true, shr := true, mem := true } s
              (execWeightCommit m s) := by
  unfold execWeightCommit
  refine (State.exchange_same ..).via rfl ?_
  exact Same.refl _ _

theorem execWeightRemove_same (m : Mbx) (s : State) :
    OutSame { out := true, rng := true, time := true, farrier := true, boot := true, img := true, regs := true, host
              := true, log := true, ostlers := true, pads := true, sec := true, net := true, maps := true, store :=
              true, eng := true, sch := true, leases := true, pwr := true, shr := true, mem := true } s
              (execWeightRemove m s) := by
  unfold execWeightRemove
  refine (State.exchange_same ..).via rfl ?_
  exact Same.refl _ _

theorem execSchedSet_same (m : Mbx) (s : State) :
    OutSame { out := true, rng := true, time := true, farrier := true, boot := true, img := true, regs := true, host
              := true, log := true, ostlers := true, pads := true, sec := true, net := true, maps := true, store :=
              true, eng := true, sch := true, leases := true, pwr := true, shr := true, mem := true } s (execSchedSet
              m s) := by
  unfold execSchedSet
  refine (State.exchange_same ..).via rfl ?_
  exact Same.refl _ _

theorem execGclSet_same (m : Mbx) (s : State) :
    OutSame { out := true, rng := true, time := true, farrier := true, boot := true, img := true, regs := true, host
              := true, log := true, ostlers := true, pads := true, sec := true, net := true, maps := true, store :=
              true, eng := true, sch := true, leases := true, pwr := true, shr := true, mem := true } s (execGclSet m
              s) := by
  unfold execGclSet
  refine (State.exchange_same ..).via rfl ?_
  exact Same.refl _ _

theorem execTallySnapshot_same (m : Mbx) (s : State) :
    OutSame { out := true, rng := true, time := true, farrier := true, boot := true, img := true, regs := true, host
              := true, log := true, ostlers := true, pads := true, sec := true, net := true, maps := true, store :=
              true, eng := true, sch := true, leases := true, pwr := true, shr := true, mem := true } s
              (execTallySnapshot m s) := by
  unfold execTallySnapshot
  refine (State.exchange_same ..).via rfl ?_
  exact Same.refl _ _

theorem execTallyFetch_same (m : Mbx) (s : State) :
    OutSame { out := true, rng := true, time := true, farrier := true, boot := true, img := true, regs := true, host
              := true, log := true, ostlers := true, pads := true, sec := true, net := true, maps := true, store :=
              true, eng := true, sch := true, leases := true, pwr := true, shr := true, mem := true } s
              (execTallyFetch m s) := by
  unfold execTallyFetch
  refine (State.exchange_same ..).via rfl ?_
  exact Same.refl _ _

theorem execLogRead_same (m : Mbx) (s : State) :
    OutSame { out := true, rng := true, time := true, farrier := true, boot := true, img := true, regs := true, host
              := true, log := true, ostlers := true, pads := true, sec := true, net := true, maps := true, store :=
              true, eng := true, sch := true, leases := true, pwr := true, shr := true, mem := true } s (execLogRead
              m s) := by
  unfold execLogRead
  refine (State.exchange_same ..).via rfl ?_
  exact Same.refl _ _

theorem execHealthRead_same (m : Mbx) (s : State) :
    OutSame { out := true, rng := true, time := true, farrier := true, boot := true, img := true, regs := true, host
              := true, log := true, ostlers := true, pads := true, sec := true, net := true, maps := true, store :=
              true, eng := true, sch := true, leases := true, pwr := true, shr := true, mem := true } s
              (execHealthRead m s) := by
  unfold execHealthRead
  refine (State.exchange_same ..).via rfl ?_
  exact Same.refl _ _

theorem execPowerSet_same (m : Mbx) (s : State) :
    OutSame { out := true, rng := true, time := true, farrier := true, boot := true, img := true, regs := true, host
              := true, log := true, ostlers := true, pads := true, sec := true, net := true, maps := true, store :=
              true, eng := true, sch := true, leases := true, pwr := true, shr := true, mem := true } s (execPowerSet
              m s) := by
  unfold execPowerSet
  refine (State.exchange_same ..).via rfl ?_
  exact Same.refl _ _

theorem execNotifyClear_same (s : State) :
    OutSame { out := true, regs := true, host := true } s (execNotifyClear s) := by
  unfold execNotifyClear
  split
  apply OutSame.next
  refine (State.postNotice_same ..).then rfl ?_
  refine (State.modBox_same ..).then rfl ?_
  exact Same.refl _ _
  apply OutSame.next
  exact Same.refl _ _

theorem execK1IdleExpiry_same (die : Nat) (cluster : Nat) (s : State) :
    OutSame { time := true, eng := true } s (execK1IdleExpiry die cluster s) := by
  unfold execK1IdleExpiry
  dsimp only
  split
  apply OutSame.next
  exact Same.refl _ _
  split
  apply OutSame.next
  refine (State.modCluster_same ..).then rfl ?_
  refine (State.advanceTo_same ..).then rfl ?_
  exact Same.refl _ _
  apply OutSame.next
  exact Same.refl _ _

theorem execK2IdleExpiry_same (die : Nat) (cluster : Nat) (s : State) :
    OutSame { time := true, eng := true } s (execK2IdleExpiry die cluster s) := by
  unfold execK2IdleExpiry
  dsimp only
  split
  apply OutSame.next
  exact Same.refl _ _
  split
  apply OutSame.next
  refine (State.modCluster_same ..).then rfl ?_
  refine (State.advanceTo_same ..).then rfl ?_
  exact Same.refl _ _
  apply OutSame.next
  exact Same.refl _ _

theorem execK2EntryComplete_same (die : Nat) (cluster : Nat) (s : State) :
    OutSame { eng := true } s (execK2EntryComplete die cluster s) := by
  unfold execK2EntryComplete
  split
  apply OutSame.next
  exact Same.refl _ _
  split
  apply OutSame.next
  refine (State.modCluster_same ..).then rfl ?_
  exact Same.refl _ _
  apply OutSame.next
  exact Same.refl _ _

theorem execN2IdleExpiry_same (s : State) :
    OutSame { time := true, net := true, pwr := true } s (execN2IdleExpiry s) := by
  unfold execN2IdleExpiry
  dsimp only
  split
  apply OutSame.next
  exact Same.refl _ _
  apply OutSame.next
  refine Same.update ?_
  refine Same.foldl ?_ ?_
  refine (State.advanceTo_same ..).then rfl ?_
  exact Same.refl _ _
  intro _ _
  refine Same.ite ?_ ?_
  exact Same.refl _ _
  refine (State.cacheNew_same ..).then rfl ?_
  exact Same.refl _ _

theorem execN2EntryComplete_same (s : State) :
    OutSame { eng := true, pwr := true } s (execN2EntryComplete s) := by
  unfold execN2EntryComplete
  dsimp only
  split
  apply OutSame.next
  split
  refine Same.update ?_
  exact Same.refl _ _
  refine Same.update ?_
  refine (State.beginExit_same ..).then rfl ?_
  refine Same.update ?_
  exact Same.refl _ _
  apply OutSame.next
  exact Same.refl _ _

theorem execN2Wake_same (source : Nat) (port : Nat) (s : State) :
    OutSame { pwr := true } s (execN2Wake source port s) := by
  unfold execN2Wake
  split
  apply OutSame.next
  exact Same.refl _ _
  apply OutSame.next
  refine (State.wake_same ..).then rfl ?_
  exact Same.refl _ _

theorem State.reachN0_same (s : State) :
    Same { out := true, rng := true, time := true, farrier := true, boot := true, img := true, regs := true, host :=
           true, log := true, ostlers := true, pads := true, sec := true, net := true, maps := true, store := true,
           eng := true, sch := true, leases := true, pwr := true, shr := true, mem := true } s (State.reachN0 s) := by
  unfold State.reachN0
  dsimp only
  refine (State.serveWaiting_same ..).then rfl ?_
  refine Same.update ?_
  exact Same.refl _ _

theorem execN2ExitPhaseReady_same (s : State) :
    OutSame { out := true, rng := true, time := true, farrier := true, boot := true, img := true, regs := true, host
              := true, log := true, ostlers := true, pads := true, sec := true, net := true, maps := true, store :=
              true, eng := true, sch := true, leases := true, pwr := true, shr := true, mem := true } s
              (execN2ExitPhaseReady s) := by
  unfold execN2ExitPhaseReady
  dsimp only
  split
  split
  apply OutSame.next
  refine Same.update ?_
  refine Same.ite ?_ ?_
  exact Same.refl _ _
  refine (State.advanceTo_same ..).then rfl ?_
  exact Same.refl _ _
  refine State.finish_same rfl ?_
  refine (State.reachN0_same ..).then rfl ?_
  refine Same.ite ?_ ?_
  exact Same.refl _ _
  refine (State.advanceTo_same ..).then rfl ?_
  exact Same.refl _ _
  apply OutSame.next
  exact Same.refl _ _

theorem execN2ExitTimeout_same (s : State) :
    OutSame { out := true, time := true, boot := true, img := true, regs := true, host := true, log := true, ostlers
              := true, pads := true, sec := true, net := true, maps := true, store := true, eng := true, sch := true,
              leases := true, pwr := true, shr := true, mem := true } s (execN2ExitTimeout s) := by
  unfold execN2ExitTimeout
  dsimp only
  split
  refine State.finish_same rfl ?_
  refine (State.report_same ..).then rfl ?_
  refine (State.advanceTo_same ..).then rfl ?_
  exact Same.refl _ _
  apply OutSame.next
  exact Same.refl _ _

theorem execTimebaseAlarm_same (s : State) :
    OutSame { time := true, pwr := true } s (execTimebaseAlarm s) := by
  unfold execTimebaseAlarm
  dsimp only
  split
  apply OutSame.next
  refine (State.wake_same ..).then rfl ?_
  refine Same.update ?_
  refine (State.advanceTo_same ..).then rfl ?_
  exact Same.refl _ _
  apply OutSame.next
  exact Same.refl _ _

theorem State.stepPoints_same (s : State) (sel : Nat → Bool) (down : Bool) (floor : Nat) :
    Same { pwr := true } s (State.stepPoints s sel down floor) := by
  unfold State.stepPoints
  dsimp only
  refine Same.update ?_
  exact Same.refl _ _

theorem execPowerAverageTick_same (deciWatts : Nat) (s : State) :
    OutSame { pwr := true } s (execPowerAverageTick deciWatts s) := by
  unfold execPowerAverageTick
  dsimp only
  split
  apply OutSame.next
  refine Same.update ?_
  exact Same.refl _ _
  split
  apply OutSame.next
  refine (State.stepPoints_same ..).then rfl ?_
  refine Same.update ?_
  exact Same.refl _ _
  split
  apply OutSame.next
  refine (State.stepPoints_same ..).then rfl ?_
  refine Same.update ?_
  exact Same.refl _ _
  apply OutSame.next
  refine Same.update ?_
  exact Same.refl _ _

theorem State.readTemp_same (s : State) (die : Nat) (t : Int) :
    Same { out := true, regs := true, pwr := true } s (State.readTemp s die t) := by
  unfold State.readTemp
  dsimp only
  refine Same.ite ?_ ?_
  refine (State.wake_same ..).then rfl ?_
  refine (State.eventBit_same ..).then rfl ?_
  refine Same.update ?_
  exact Same.refl _ _
  refine (State.eventBit_same ..).then rfl ?_
  refine Same.update ?_
  exact Same.refl _ _

theorem execThrottleStepTimer_same (die : Nat) (deciC : Int) (s : State) :
    OutSame { out := true, regs := true, pwr := true } s (execThrottleStepTimer die deciC s) := by
  unfold execThrottleStepTimer
  dsimp only
  split
  apply OutSame.next
  refine (State.readTemp_same ..).then rfl ?_
  exact Same.refl _ _
  split
  apply OutSame.next
  refine (State.stepPoints_same ..).then rfl ?_
  refine (State.readTemp_same ..).then rfl ?_
  exact Same.refl _ _
  split
  apply OutSame.next
  refine (State.stepPoints_same ..).then rfl ?_
  refine (State.readTemp_same ..).then rfl ?_
  exact Same.refl _ _
  apply OutSame.next
  refine (State.readTemp_same ..).then rfl ?_
  exact Same.refl _ _

theorem execTEmergCross_same (die : Nat) (deciC : Int) (s : State) :
    OutSame { out := true, regs := true, host := true, log := true, maps := true, pwr := true } s (execTEmergCross
        die deciC s) := by
  unfold execTEmergCross
  dsimp only
  split
  apply OutSame.next
  refine (State.readTemp_same ..).then rfl ?_
  exact Same.refl _ _
  refine State.finish_same rfl ?_
  refine (State.note_same ..).then rfl ?_
  refine (State.eventBit_same ..).then rfl ?_
  refine Same.update ?_
  refine (State.readTemp_same ..).then rfl ?_
  exact Same.refl _ _

theorem execTEmergRelease_same (die : Nat) (deciC : Int) (s : State) :
    OutSame { out := true, regs := true, pwr := true } s (execTEmergRelease die deciC s) := by
  unfold execTEmergRelease
  dsimp only
  split
  apply OutSame.next
  refine (State.readTemp_same ..).then rfl ?_
  exact Same.refl _ _
  apply OutSame.next
  refine Same.update ?_
  refine (State.readTemp_same ..).then rfl ?_
  exact Same.refl _ _

theorem execTTripCross_same (die : Nat) (deciC : Int) (s : State) :
    OutSame { out := true, time := true, power := true, boot := true, img := true, regs := true, host := true, log :=
              true, ostlers := true, pads := true, sec := true, net := true, maps := true, store := true, eng :=
              true, sch := true, leases := true, pwr := true, shr := true, mem := true } s (execTTripCross die deciC
              s) := by
  unfold execTTripCross
  dsimp only
  split
  apply OutSame.next
  refine (State.readTemp_same ..).then rfl ?_
  exact Same.refl _ _
  apply OutSame.next
  refine Same.update ?_
  refine (State.coldReset_same ..).then rfl ?_
  refine (State.fatalEvent_same ..).then rfl ?_
  refine (State.failProbation_same ..).then rfl ?_
  exact Same.refl _ _

theorem State.drainErrors_same (s : State) :
    Same { out := true, rng := true, time := true, farrier := true, boot := true, img := true, regs := true, host :=
           true, log := true, ostlers := true, pads := true, sec := true, net := true, maps := true, store := true,
           eng := true, sch := true, leases := true, pwr := true, shr := true, mem := true } s (State.drainErrors s)
           := by
  unfold State.drainErrors
  dsimp only
  refine Same.ite ?_ ?_
  refine Same.foldl ?_ ?_
  refine Same.update ?_
  exact Same.refl _ _
  intro _ _
  refine (State.handleReport_same ..).then rfl ?_
  exact Same.refl _ _
  refine (State.note_same ..).then rfl ?_
  refine Same.foldl ?_ ?_
  refine Same.update ?_
  exact Same.refl _ _
  intro _ _
  refine (State.handleReport_same ..).then rfl ?_
  exact Same.refl _ _

theorem State.restartStaging_same (s : State) :
    Same { rng := true, net := true, maps := true, sch := true } s (State.restartStaging s) := by
  unfold State.restartStaging
  dsimp only
  split
  exact Same.refl _ _
  refine (State.askFm_same ..).then rfl ?_
  refine (State.modEpochs_same ..).then rfl ?_
  split
  exact Same.refl _ _
  refine (State.dropSlot_same ..).then rfl ?_
  exact Same.refl _ _

theorem execOstlerRestartComplete_same (ostler : Nat) (s : State) :
    OutSame { out := true, rng := true, time := true, farrier := true, boot := true, img := true, regs := true, host
              := true, log := true, ostlers := true, pads := true, sec := true, net := true, maps := true, store :=
              true, eng := true, sch := true, leases := true, pwr := true, shr := true, mem := true } s
              (execOstlerRestartComplete ostler s) := by
  unfold execOstlerRestartComplete
  dsimp only
  split
  apply OutSame.next
  exact Same.refl _ _
  split
  split
  refine State.finish_same rfl ?_
  refine (State.functionDone_same ..).then rfl ?_
  refine (State.putFunction_same ..).then rfl ?_
  refine Same.ite ?_ ?_
  refine (State.functionDone_same ..).then rfl ?_
  refine (State.drainErrors_same ..).then rfl ?_
  refine (State.stir_same ..).then rfl ?_
  refine (State.startOstler_same ..).then rfl ?_
  exact Same.refl _ _
  refine (State.drainErrors_same ..).then rfl ?_
  refine (State.stir_same ..).then rfl ?_
  refine (State.startOstler_same ..).then rfl ?_
  exact Same.refl _ _
  refine State.finish_same rfl ?_
  refine (State.drainErrors_same ..).then rfl ?_
  refine (State.stir_same ..).then rfl ?_
  refine (State.startOstler_same ..).then rfl ?_
  exact Same.refl _ _
  split
  refine State.finish_same rfl ?_
  refine (State.functionDone_same ..).then rfl ?_
  refine (State.putFunction_same ..).then rfl ?_
  refine Same.ite ?_ ?_
  refine (State.functionDone_same ..).then rfl ?_
  refine (State.restartStaging_same ..).then rfl ?_
  refine (State.stir_same ..).then rfl ?_
  refine (State.startOstler_same ..).then rfl ?_
  exact Same.refl _ _
  refine (State.restartStaging_same ..).then rfl ?_
  refine (State.stir_same ..).then rfl ?_
  refine (State.startOstler_same ..).then rfl ?_
  exact Same.refl _ _
  refine State.finish_same rfl ?_
  refine (State.restartStaging_same ..).then rfl ?_
  refine (State.stir_same ..).then rfl ?_
  refine (State.startOstler_same ..).then rfl ?_
  exact Same.refl _ _
  split
  refine State.finish_same rfl ?_
  refine (State.functionDone_same ..).then rfl ?_
  refine (State.putFunction_same ..).then rfl ?_
  refine Same.ite ?_ ?_
  refine (State.functionDone_same ..).then rfl ?_
  refine (State.readReturned_same ..).then rfl ?_
  refine (State.stir_same ..).then rfl ?_
  refine (State.startOstler_same ..).then rfl ?_
  exact Same.refl _ _
  refine (State.readReturned_same ..).then rfl ?_
  refine (State.stir_same ..).then rfl ?_
  refine (State.startOstler_same ..).then rfl ?_
  exact Same.refl _ _
  refine State.finish_same rfl ?_
  refine (State.readReturned_same ..).then rfl ?_
  refine (State.stir_same ..).then rfl ?_
  refine (State.startOstler_same ..).then rfl ?_
  exact Same.refl _ _
  split
  refine State.finish_same rfl ?_
  refine (State.functionDone_same ..).then rfl ?_
  refine (State.putFunction_same ..).then rfl ?_
  refine Same.ite ?_ ?_
  refine (State.functionDone_same ..).then rfl ?_
  refine (State.postNotice_same ..).then rfl ?_
  refine (State.serveWaiting_same ..).then rfl ?_
  refine (State.stir_same ..).then rfl ?_
  refine (State.startOstler_same ..).then rfl ?_
  exact Same.refl _ _
  refine (State.postNotice_same ..).then rfl ?_
  refine (State.serveWaiting_same ..).then rfl ?_
  refine (State.stir_same ..).then rfl ?_
  refine (State.startOstler_same ..).then rfl ?_
  exact Same.refl _ _
  refine State.finish_same rfl ?_
  refine (State.postNotice_same ..).then rfl ?_
  refine (State.serveWaiting_same ..).then rfl ?_
  refine (State.stir_same ..).then rfl ?_
  refine (State.startOstler_same ..).then rfl ?_
  exact Same.refl _ _
  split
  refine State.finish_same rfl ?_
  refine (State.functionDone_same ..).then rfl ?_
  refine (State.putFunction_same ..).then rfl ?_
  refine Same.ite ?_ ?_
  refine (State.functionDone_same ..).then rfl ?_
  refine (State.stir_same ..).then rfl ?_
  refine (State.startOstler_same ..).then rfl ?_
  exact Same.refl _ _
  refine (State.stir_same ..).then rfl ?_
  refine (State.startOstler_same ..).then rfl ?_
  exact Same.refl _ _
  refine State.finish_same rfl ?_
  refine (State.stir_same ..).then rfl ?_
  refine (State.startOstler_same ..).then rfl ?_
  exact Same.refl _ _

theorem execRegisterPairLoRead_same (offset : Nat) (s : State) :
    OutSame { out := true, regs := true } s (execRegisterPairLoRead offset s) := by
  unfold execRegisterPairLoRead
  dsimp only
  split
  apply OutSame.next
  exact Same.refl _ _
  apply OutSame.next
  refine (State.emit_same ..).then rfl ?_
  refine Same.update ?_
  exact Same.refl _ _

theorem State.resetCtl_same (s : State) (value : Nat) :
    Same { time := true, boot := true, img := true, regs := true, host := true, log := true, ostlers := true, pads :=
           true, sec := true, net := true, maps := true, store := true, eng := true, sch := true, leases := true, pwr
           := true, shr := true, mem := true } s (State.resetCtl s value) := by
  unfold State.resetCtl
  refine Same.ite ?_ ?_
  refine (State.warmReset_same ..).then rfl ?_
  exact Same.refl _ _
  exact Same.refl _ _

theorem execResetCtlWarm_same (value : Nat) (s : State) :
    OutSame { time := true, boot := true, img := true, regs := true, host := true, log := true, ostlers := true, pads
              := true, sec := true, net := true, maps := true, store := true, eng := true, sch := true, leases :=
              true, pwr := true, shr := true, mem := true } s (execResetCtlWarm value s) := by
  unfold execResetCtlWarm
  split
  apply OutSame.next
  refine (State.resetCtl_same ..).then rfl ?_
  exact Same.refl _ _
  apply OutSame.next
  exact Same.refl _ _

theorem State.setDebug_same (s : State) (permitted : Bool) (reason : Nat) :
    Same { out := true, regs := true, sec := true } s (State.setDebug s permitted reason) := by
  unfold State.setDebug
  dsimp only
  refine Same.ite ?_ ?_
  exact Same.refl _ _
  refine (State.eventBit_same ..).then rfl ?_
  refine Same.update ?_
  exact Same.refl _ _

theorem State.requestDebug_same (s : State) :
    Same { out := true, regs := true, sec := true } s (State.requestDebug s) := by
  unfold State.requestDebug
  dsimp only
  refine Same.ite ?_ ?_
  refine (State.setDebug_same ..).then rfl ?_
  exact Same.refl _ _
  refine Same.ite ?_ ?_
  exact Same.refl _ _
  refine Same.ite ?_ ?_
  refine (State.setDebug_same ..).then rfl ?_
  exact Same.refl _ _
  refine Same.ite ?_ ?_
  refine (State.setDebug_same ..).then rfl ?_
  exact Same.refl _ _
  refine Same.ite ?_ ?_
  refine (State.setDebug_same ..).then rfl ?_
  exact Same.refl _ _
  refine Same.update ?_
  exact Same.refl _ _

theorem State.withdrawDebug_same (s : State) :
    Same { out := true, regs := true, sec := true, shr := true } s (State.withdrawDebug s) := by
  unfold State.withdrawDebug
  dsimp only
  refine Same.ite ?_ ?_
  refine Same.update ?_
  exact Same.refl _ _
  refine Same.update ?_
  refine (State.setDebug_same ..).then rfl ?_
  exact Same.refl _ _

theorem State.dbgCtl_same (s : State) (value : Nat) :
    Same { out := true, regs := true, sec := true, shr := true } s (State.dbgCtl s value) := by
  unfold State.dbgCtl
  refine Same.ite ?_ ?_
  exact Same.refl _ _
  refine Same.ite ?_ ?_
  refine (State.requestDebug_same ..).then rfl ?_
  exact Same.refl _ _
  refine Same.ite ?_ ?_
  refine (State.withdrawDebug_same ..).then rfl ?_
  exact Same.refl _ _
  exact Same.refl _ _

theorem execDbgCtlRequest_same (value : Nat) (s : State) :
    OutSame { out := true, regs := true, sec := true, shr := true } s (execDbgCtlRequest value s) := by
  unfold execDbgCtlRequest
  split
  apply OutSame.next
  refine (State.dbgCtl_same ..).then rfl ?_
  exact Same.refl _ _
  apply OutSame.next
  exact Same.refl _ _

theorem execDbgCtlWithdraw_same (value : Nat) (s : State) :
    OutSame { out := true, regs := true, sec := true, shr := true } s (execDbgCtlWithdraw value s) := by
  unfold execDbgCtlWithdraw
  split
  apply OutSame.next
  refine (State.dbgCtl_same ..).then rfl ?_
  exact Same.refl _ _
  apply OutSame.next
  exact Same.refl _ _

theorem execDebugRequestDone_same (zeroised : Bool) (s : State) :
    OutSame { out := true, regs := true, pads := true, sec := true } s (execDebugRequestDone zeroised s) := by
  unfold execDebugRequestDone
  dsimp only
  split
  apply OutSame.next
  exact Same.refl _ _
  split
  apply OutSame.next
  refine (State.setDebug_same ..).then rfl ?_
  refine Same.update ?_
  exact Same.refl _ _
  split
  apply OutSame.next
  refine Same.update ?_
  exact Same.refl _ _
  apply OutSame.next
  refine (State.setDebug_same ..).then rfl ?_
  refine Same.update ?_
  exact Same.refl _ _

theorem State.snap_same (s : State) :
    Same { regs := true } s (State.snap s) := by
  unfold State.snap
  dsimp only
  refine Same.ite ?_ ?_
  refine Same.update ?_
  exact Same.refl _ _
  refine Same.update ?_
  exact Same.refl _ _

theorem State.setTlyIrq_same (s : State) (on : Bool) :
    Same { out := true, regs := true } s (State.setTlyIrq s on) := by
  unfold State.setTlyIrq
  dsimp only
  refine Same.ite ?_ ?_
  refine (State.sendVector_same ..).then rfl ?_
  refine Same.update ?_
  exact Same.refl _ _
  refine Same.update ?_
  exact Same.refl _ _

theorem State.tlyCtl_same (s : State) (value : Nat) :
    Same { out := true, regs := true } s (State.tlyCtl s value) := by
  unfold State.tlyCtl
  dsimp only
  refine Same.ite ?_ ?_
  refine (State.snap_same ..).then rfl ?_
  refine (State.setTlyIrq_same ..).then rfl ?_
  exact Same.refl _ _
  refine (State.setTlyIrq_same ..).then rfl ?_
  exact Same.refl _ _

theorem execTlyCtlSnap_same (value : Nat) (s : State) :
    OutSame { out := true, regs := true } s (execTlyCtlSnap value s) := by
  unfold execTlyCtlSnap
  split
  apply OutSame.next
  refine (State.tlyCtl_same ..).then rfl ?_
  exact Same.refl _ _
  apply OutSame.next
  exact Same.refl _ _

theorem execTallyLatch_same (s : State) :
    OutSame { out := true, regs := true } s (execTallyLatch s) := by
  unfold execTallyLatch
  dsimp only
  split
  apply OutSame.next
  exact Same.refl _ _
  apply OutSame.next
  refine (State.eventBit_same ..).then rfl ?_
  refine Same.update ?_
  exact Same.refl _ _

theorem State.enableEvent_same (s : State) (v : Nat) (was : Bool) (on : Bool) (event : Bool) :
    Same { out := true, regs := true } s (State.enableEvent s v was on event) := by
  unfold State.enableEvent
  refine Same.ite ?_ ?_
  refine (State.sendVector_same ..).then rfl ?_
  exact Same.refl _ _
  exact Same.refl _ _

theorem State.writeBoxWord_same (s : State) (n : Nat) (off : Nat) (value : Nat) :
    Same { out := true, rng := true, time := true, farrier := true, boot := true, img := true, regs := true, host :=
           true, log := true, ostlers := true, pads := true, sec := true, net := true, maps := true, store := true,
           eng := true, sch := true, leases := true, pwr := true, shr := true, mem := true } s (State.writeBoxWord s
           n off value) := by
  unfold State.writeBoxWord
  dsimp only
  refine Same.ite ?_ ?_
  refine (State.modBox_same ..).then rfl ?_
  exact Same.refl _ _
  split
  refine Same.ite ?_ ?_
  refine (State.ring_same ..).then rfl ?_
  exact Same.refl _ _
  exact Same.refl _ _
  refine Same.ite ?_ ?_
  refine (State.postNotice_same ..).then rfl ?_
  refine (State.modBox_same ..).then rfl ?_
  exact Same.refl _ _
  refine (State.modBox_same ..).then rfl ?_
  exact Same.refl _ _
  refine (State.enableEvent_same ..).then rfl ?_
  refine (State.modBox_same ..).then rfl ?_
  exact Same.refl _ _
  exact Same.refl _ _

theorem State.writeMsix_same (s : State) (i : Nat) (value : Nat) :
    Same { out := true, regs := true } s (State.writeMsix s i value) := by
  unfold State.writeMsix
  dsimp only
  refine Same.ite ?_ ?_
  refine (State.emit_same ..).then rfl ?_
  refine Same.update ?_
  exact Same.refl _ _
  refine Same.update ?_
  exact Same.refl _ _

theorem State.writeTherm_same (s : State) (value : Nat) :
    Same { out := true, regs := true, pwr := true } s (State.writeTherm s value) := by
  unfold State.writeTherm
  dsimp only
  refine (State.enableEvent_same ..).then rfl ?_
  refine Same.update ?_
  exact Same.refl _ _

theorem State.writeErrCtl_same (s : State) (value : Nat) :
    Same { out := true, regs := true, log := true } s (State.writeErrCtl s value) := by
  unfold State.writeErrCtl
  dsimp only
  refine Same.foldl ?_ ?_
  refine Same.update ?_
  exact Same.refl _ _
  intro _ _
  refine (State.enableEvent_same ..).then rfl ?_
  exact Same.refl _ _

theorem State.writePlain_same (s : State) (off : Nat) (value : Nat) :
    Same { out := true, time := true, boot := true, img := true, regs := true, host := true, log := true, ostlers :=
           true, pads := true, sec := true, net := true, maps := true, store := true, eng := true, sch := true,
           leases := true, pwr := true, shr := true, mem := true } s (State.writePlain s off value) := by
  unfold State.writePlain
  dsimp only
  split
  refine Same.ite ?_ ?_
  exact Same.refl _ _
  refine Same.update ?_
  exact Same.refl _ _
  refine (State.resetCtl_same ..).then rfl ?_
  exact Same.refl _ _
  refine (State.writeTherm_same ..).then rfl ?_
  exact Same.refl _ _
  refine Same.update ?_
  exact Same.refl _ _
  refine Same.update ?_
  exact Same.refl _ _
  refine Same.update ?_
  exact Same.refl _ _
  refine (State.tlyCtl_same ..).then rfl ?_
  exact Same.refl _ _
  refine Same.update ?_
  exact Same.refl _ _
  refine Same.update ?_
  exact Same.refl _ _
  refine (State.writeErrCtl_same ..).then rfl ?_
  exact Same.refl _ _
  refine Same.update ?_
  exact Same.refl _ _
  refine (State.dbgCtl_same ..).then rfl ?_
  exact Same.refl _ _
  refine Same.update ?_
  exact Same.refl _ _
  exact Same.refl _ _

theorem State.writeWord_same (s : State) (off : Nat) (value : Nat) :
    Same { out := true, rng := true, time := true, farrier := true, boot := true, img := true, regs := true, host :=
           true, log := true, ostlers := true, pads := true, sec := true, net := true, maps := true, store := true,
           eng := true, sch := true, leases := true, pwr := true, shr := true, mem := true } s (State.writeWord s off
           value) := by
  unfold State.writeWord
  refine Same.ite ?_ ?_
  refine (State.writeBoxWord_same ..).then rfl ?_
  exact Same.refl _ _
  refine Same.ite ?_ ?_
  refine (State.writeMsix_same ..).then rfl ?_
  exact Same.refl _ _
  refine (State.writePlain_same ..).then rfl ?_
  exact Same.refl _ _

theorem State.writeNarrow_same (s : State) (off : Nat) (size : Nat) (value : Nat) :
    Same { host := true } s (State.writeNarrow s off size value) := by
  unfold State.writeNarrow
  dsimp only
  refine Same.ite ?_ ?_
  refine (State.modBox_same ..).then rfl ?_
  exact Same.refl _ _
  exact Same.refl _ _

theorem execRegisterWrite_same (offset : Nat) (size : Nat) (value : Nat) (s : State) :
    OutSame { out := true, rng := true, time := true, farrier := true, boot := true, img := true, regs := true, host
              := true, log := true, ostlers := true, pads := true, sec := true, net := true, maps := true, store :=
              true, eng := true, sch := true, leases := true, pwr := true, shr := true, mem := true } s
              (execRegisterWrite offset size value s) := by
  unfold execRegisterWrite
  split
  apply OutSame.next
  exact Same.refl _ _
  split
  refine State.finish_same rfl ?_
  refine (State.writeWord_same ..).then rfl ?_
  exact Same.refl _ _
  split
  refine State.finish_same rfl ?_
  refine (State.writeWord_same ..).then rfl ?_
  refine (State.writeWord_same ..).then rfl ?_
  exact Same.refl _ _
  split
  apply OutSame.next
  refine (State.writeNarrow_same ..).then rfl ?_
  exact Same.refl _ _
  apply OutSame.next
  exact Same.refl _ _

theorem State.tdiError_same (s : State) :
    Same { sec := true } s (State.tdiError s) := by
  unfold State.tdiError
  dsimp only
  split
  exact Same.refl _ _
  refine Same.update ?_
  exact Same.refl _ _

theorem execConfigurationWrite_same (w : CfgWrite) (s : State) :
    OutSame { out := true, sec := true, pwr := true } s (execConfigurationWrite w s) := by
  unfold execConfigurationWrite
  split
  apply OutSame.next
  refine (State.emit_same ..).then rfl ?_
  exact Same.refl _ _
  split
  apply OutSame.next
  refine (State.wake_same ..).then rfl ?_
  exact Same.refl _ _
  apply OutSame.next
  refine (State.tdiError_same ..).then rfl ?_
  exact Same.refl _ _
  apply OutSame.next
  exact Same.refl _ _

theorem execIdeFailure_same (s : State) :
    OutSame { sec := true } s (execIdeFailure s) := by
  unfold execIdeFailure
  apply OutSame.next
  refine (State.tdiError_same ..).then rfl ?_
  exact Same.refl _ _

theorem execPldmRequest_same (p : Pldm) (s : State) :
    OutSame { out := true } s (execPldmRequest p s) := by
  unfold execPldmRequest
  dsimp only
  split
  apply OutSame.next
  exact Same.refl _ _
  split
  apply OutSame.next
  refine (State.emit_same ..).then rfl ?_
  exact Same.refl _ _
  apply OutSame.next
  refine (State.emit_same ..).then rfl ?_
  exact Same.refl _ _
  apply OutSame.next
  refine (State.emit_same ..).then rfl ?_
  exact Same.refl _ _
  split
  apply OutSame.next
  refine (State.emit_same ..).then rfl ?_
  exact Same.refl _ _
  apply OutSame.next
  exact Same.refl _ _
  split
  apply OutSame.next
  refine (State.emit_same ..).then rfl ?_
  exact Same.refl _ _
  apply OutSame.next
  exact Same.refl _ _

theorem State.clearPartition_same (s : State) (part : Nat) :
    Same { pads := true, net := true, maps := true, store := true, eng := true, leases := true, mem := true } s
        (State.clearPartition s part) := by
  unfold State.clearPartition
  dsimp only
  split
  refine Same.update ?_
  exact Same.refl _ _
  refine Same.update ?_
  exact Same.refl _ _
  refine Same.update ?_
  exact Same.refl _ _
  refine Same.updateMem ?_ rfl Memory.wf_filter
  exact Same.refl _ _
  refine Same.update ?_
  exact Same.refl _ _
  refine Same.update ?_
  exact Same.refl _ _
  exact Same.refl _ _

theorem execJtagInstruction_same (j : Jtag) (s : State) :
    OutSame { out := true, pads := true, sec := true, net := true, maps := true, store := true, eng := true, leases
              := true, mem := true } s (execJtagInstruction j s) := by
  unfold execJtagInstruction
  dsimp only
  split
  apply OutSame.next
  refine (State.emit_same ..).then rfl ?_
  refine Same.update ?_
  split
  refine (State.clearPartition_same ..).then rfl ?_
  exact Same.refl _ _
  exact Same.refl _ _
  apply OutSame.next
  refine (State.emit_same ..).then rfl ?_
  refine Same.update ?_
  split
  refine (State.clearPartition_same ..).then rfl ?_
  exact Same.refl _ _
  exact Same.refl _ _
  split
  apply OutSame.next
  exact Same.refl _ _
  apply OutSame.next
  refine (State.emit_same ..).then rfl ?_
  refine Same.update ?_
  split
  refine (State.clearPartition_same ..).then rfl ?_
  exact Same.refl _ _
  exact Same.refl _ _
  split
  apply OutSame.next
  exact Same.refl _ _
  apply OutSame.next
  refine (State.emit_same ..).then rfl ?_
  refine Same.update ?_
  refine (State.clearPartition_same ..).then rfl ?_
  split
  refine (State.clearPartition_same ..).then rfl ?_
  exact Same.refl _ _
  exact Same.refl _ _

theorem State.sherunAnswer_same (s : State) (code : Nat) (lines : Bytes) :
    Same { out := true, shr := true } s (State.sherunAnswer s code lines) := by
  unfold State.sherunAnswer
  dsimp only
  refine (State.emit_same ..).then rfl ?_
  refine Same.update ?_
  exact Same.refl _ _

theorem State.sherunReport_same (s : State) (c : SherunCmd) (values : List Nat) :
    Same { out := true, shr := true } s (State.sherunReport s c values) := by
  unfold State.sherunReport
  refine (State.sherunAnswer_same ..).then rfl ?_
  exact Same.refl _ _

theorem execShrHelp_same (s : State) :
    OutSame { out := true, pwr := true, shr := true } s (execShrHelp s) := by
  unfold execShrHelp
  apply OutSame.next
  unfold State.sherun
  refine Same.ite ?_ ?_
  exact Same.refl _ _
  dsimp only
  refine Same.ite ?_ ?_
  refine (State.sherunAnswer_same ..).then rfl ?_
  refine (State.wake_same ..).then rfl ?_
  exact Same.refl _ _
  refine (State.sherunReport_same ..).then rfl ?_
  refine (State.wake_same ..).then rfl ?_
  exact Same.refl _ _

theorem execShrVer_same (s : State) :
    OutSame { out := true, pwr := true, shr := true } s (execShrVer s) := by
  unfold execShrVer
  apply OutSame.next
  unfold State.sherun
  refine Same.ite ?_ ?_
  exact Same.refl _ _
  dsimp only
  refine Same.ite ?_ ?_
  refine (State.sherunAnswer_same ..).then rfl ?_
  refine (State.wake_same ..).then rfl ?_
  exact Same.refl _ _
  refine (State.sherunReport_same ..).then rfl ?_
  refine (State.wake_same ..).then rfl ?_
  exact Same.refl _ _

theorem execShrStage_same (s : State) :
    OutSame { out := true, pwr := true, shr := true } s (execShrStage s) := by
  unfold execShrStage
  apply OutSame.next
  unfold State.sherun
  refine Same.ite ?_ ?_
  exact Same.refl _ _
  dsimp only
  refine Same.ite ?_ ?_
  refine (State.sherunAnswer_same ..).then rfl ?_
  refine (State.wake_same ..).then rfl ?_
  exact Same.refl _ _
  refine (State.sherunReport_same ..).then rfl ?_
  refine (State.wake_same ..).then rfl ?_
  exact Same.refl _ _

theorem execShrHealth_same (s : State) :
    OutSame { out := true, pwr := true, shr := true } s (execShrHealth s) := by
  unfold execShrHealth
  apply OutSame.next
  unfold State.sherun
  refine Same.ite ?_ ?_
  exact Same.refl _ _
  dsimp only
  refine Same.ite ?_ ?_
  refine (State.sherunAnswer_same ..).then rfl ?_
  refine (State.wake_same ..).then rfl ?_
  exact Same.refl _ _
  refine (State.sherunReport_same ..).then rfl ?_
  refine (State.wake_same ..).then rfl ?_
  exact Same.refl _ _

theorem execShrLog_same (n : Option Nat) (s : State) :
    OutSame { out := true, pwr := true, shr := true } s (execShrLog n s) := by
  unfold execShrLog
  dsimp only
  apply OutSame.next
  unfold State.sherun
  refine Same.ite ?_ ?_
  exact Same.refl _ _
  dsimp only
  refine Same.ite ?_ ?_
  refine (State.sherunAnswer_same ..).then rfl ?_
  refine (State.wake_same ..).then rfl ?_
  exact Same.refl _ _
  refine (State.sherunReport_same ..).then rfl ?_
  refine (State.wake_same ..).then rfl ?_
  exact Same.refl _ _

theorem execShrTally_same (paddock : Nat) (s : State) :
    OutSame { out := true, pwr := true, shr := true } s (execShrTally paddock s) := by
  unfold execShrTally
  dsimp only
  apply OutSame.next
  unfold State.sherun
  refine Same.ite ?_ ?_
  exact Same.refl _ _
  dsimp only
  refine Same.ite ?_ ?_
  refine (State.sherunAnswer_same ..).then rfl ?_
  refine (State.wake_same ..).then rfl ?_
  exact Same.refl _ _
  refine Same.ite ?_ ?_
  refine (State.sherunAnswer_same ..).then rfl ?_
  refine (State.wake_same ..).then rfl ?_
  exact Same.refl _ _
  refine (State.sherunReport_same ..).then rfl ?_
  refine (State.wake_same ..).then rfl ?_
  exact Same.refl _ _

theorem execShrBistStatus_same (s : State) :
    OutSame { out := true, pwr := true, shr := true } s (execShrBistStatus s) := by
  unfold execShrBistStatus
  apply OutSame.next
  unfold State.sherun
  refine Same.ite ?_ ?_
  exact Same.refl _ _
  dsimp only
  refine Same.ite ?_ ?_
  refine (State.sherunAnswer_same ..).then rfl ?_
  refine (State.wake_same ..).then rfl ?_
  exact Same.refl _ _
  refine (State.sherunReport_same ..).then rfl ?_
  refine (State.wake_same ..).then rfl ?_
  exact Same.refl _ _

theorem execShrBistRun_same (die : Nat) (cluster : Nat) (s : State) :
    OutSame { out := true, eng := true, pwr := true, shr := true } s (execShrBistRun die cluster s) := by
  unfold execShrBistRun
  dsimp only
  apply OutSame.next
  unfold State.sherun
  refine Same.ite ?_ ?_
  exact Same.refl _ _
  dsimp only
  refine Same.ite ?_ ?_
  refine (State.sherunAnswer_same ..).then rfl ?_
  refine (State.wake_same ..).then rfl ?_
  exact Same.refl _ _
  split
  refine (State.sherunAnswer_same ..).then rfl ?_
  refine (State.wake_same ..).then rfl ?_
  exact Same.refl _ _
  split
  refine Same.ite ?_ ?_
  refine (State.sherunAnswer_same ..).then rfl ?_
  refine (State.modCluster_same ..).then rfl ?_
  refine (State.wake_same ..).then rfl ?_
  exact Same.refl _ _
  refine (State.sherunAnswer_same ..).then rfl ?_
  refine (State.wake_same ..).then rfl ?_
  exact Same.refl _ _
  refine (State.sherunAnswer_same ..).then rfl ?_
  refine (State.modCluster_same ..).then rfl ?_
  refine (State.wake_same ..).then rfl ?_
  exact Same.refl _ _
  refine (State.sherunAnswer_same ..).then rfl ?_
  refine (State.modCluster_same ..).then rfl ?_
  refine (State.wake_same ..).then rfl ?_
  exact Same.refl _ _
  refine (State.sherunAnswer_same ..).then rfl ?_
  refine (State.wake_same ..).then rfl ?_
  exact Same.refl _ _

theorem execShrBaud_same (rate : Nat) (s : State) :
    OutSame { out := true, pwr := true, shr := true } s (execShrBaud rate s) := by
  unfold execShrBaud
  dsimp only
  apply OutSame.next
  unfold State.sherun
  refine Same.ite ?_ ?_
  exact Same.refl _ _
  dsimp only
  refine Same.ite ?_ ?_
  refine (State.sherunAnswer_same ..).then rfl ?_
  refine (State.wake_same ..).then rfl ?_
  exact Same.refl _ _
  refine Same.ite ?_ ?_
  refine Same.update ?_
  refine (State.sherunAnswer_same ..).then rfl ?_
  refine (State.wake_same ..).then rfl ?_
  exact Same.refl _ _
  refine (State.sherunAnswer_same ..).then rfl ?_
  refine (State.wake_same ..).then rfl ?_
  exact Same.refl _ _

theorem State.writeCheck_same (s : State) (word : Nat) (v : Byte) :
    Same { store := true } s (State.writeCheck s word v) := by
  unfold State.writeCheck
  dsimp only
  refine Same.update ?_
  exact Same.refl _ _

theorem State.writePhys_same (s : State) (a : Nat) (v : Byte) :
    Same { store := true, mem := true } s (State.writePhys s a v) := by
  unfold State.writePhys
  split
  refine (State.writeCheck_same ..).then rfl ?_
  exact Same.refl _ _
  split
  refine (State.modBlock_same ..).then rfl ?_
  exact Same.refl _ _
  refine Same.ite ?_ ?_
  exact Same.refl _ _
  refine Same.ite ?_ ?_
  refine Same.updateMem ?_ rfl Memory.wf_write
  exact Same.refl _ _
  exact Same.refl _ _

theorem execShrMr_same (addr : Nat) (n : Option Nat) (s : State) :
    OutSame { out := true, rng := true, pwr := true, shr := true } s (execShrMr addr n s) := by
  unfold execShrMr
  dsimp only
  split
  exact OutSame.fault
  apply OutSame.next
  unfold State.sherun
  refine Same.ite ?_ ?_
  exact Same.refl _ _
  dsimp only
  refine Same.ite ?_ ?_
  refine (State.sherunAnswer_same ..).then rfl ?_
  refine (State.wake_same ..).then rfl ?_
  exact Same.refl _ _
  refine Same.ite ?_ ?_
  refine (State.sherunReport_same ..).then rfl ?_
  refine Same.update ?_
  refine (State.wake_same ..).then rfl ?_
  exact Same.refl _ _
  refine (State.sherunAnswer_same ..).then rfl ?_
  refine (State.wake_same ..).then rfl ?_
  exact Same.refl _ _

theorem execShrMw_same (addr : Nat) (value : Nat) (s : State) :
    OutSame { out := true, store := true, pwr := true, shr := true, mem := true } s (execShrMw addr value s) := by
  unfold execShrMw
  dsimp only
  split
  exact OutSame.fault
  apply OutSame.next
  unfold State.sherun
  refine Same.ite ?_ ?_
  exact Same.refl _ _
  dsimp only
  refine Same.ite ?_ ?_
  refine (State.sherunAnswer_same ..).then rfl ?_
  refine (State.wake_same ..).then rfl ?_
  exact Same.refl _ _
  refine Same.ite ?_ ?_
  refine (State.sherunAnswer_same ..).then rfl ?_
  refine Same.foldl ?_ ?_
  refine (State.wake_same ..).then rfl ?_
  exact Same.refl _ _
  intro _ _
  refine (State.writePhys_same ..).then rfl ?_
  exact Same.refl _ _
  refine (State.sherunAnswer_same ..).then rfl ?_
  refine (State.wake_same ..).then rfl ?_
  exact Same.refl _ _

theorem execShrTraceStart_same (s : State) :
    OutSame { out := true, pwr := true, shr := true } s (execShrTraceStart s) := by
  unfold execShrTraceStart
  dsimp only
  apply OutSame.next
  unfold State.sherunTrace
  unfold State.sherun
  refine Same.ite ?_ ?_
  exact Same.refl _ _
  dsimp only
  refine Same.ite ?_ ?_
  refine (State.sherunAnswer_same ..).then rfl ?_
  refine (State.wake_same ..).then rfl ?_
  exact Same.refl _ _
  refine Same.ite ?_ ?_
  refine (State.sherunAnswer_same ..).then rfl ?_
  refine Same.update ?_
  refine (State.wake_same ..).then rfl ?_
  exact Same.refl _ _
  refine (State.sherunAnswer_same ..).then rfl ?_
  refine (State.wake_same ..).then rfl ?_
  exact Same.refl _ _

theorem State.stopTrace_same (s : State) :
    Same { rng := true, shr := true } s (State.stopTrace s) := by
  unfold State.stopTrace
  dsimp only
  refine Same.ite ?_ ?_
  refine Same.update ?_
  exact Same.refl _ _
  exact Same.refl _ _

theorem execShrTraceStop_same (s : State) :
    OutSame { out := true, rng := true, pwr := true, shr := true } s (execShrTraceStop s) := by
  unfold execShrTraceStop
  apply OutSame.next
  unfold State.sherunTrace
  unfold State.sherun
  refine Same.ite ?_ ?_
  exact Same.refl _ _
  dsimp only
  refine Same.ite ?_ ?_
  refine (State.sherunAnswer_same ..).then rfl ?_
  refine (State.wake_same ..).then rfl ?_
  exact Same.refl _ _
  refine Same.ite ?_ ?_
  refine (State.sherunAnswer_same ..).then rfl ?_
  refine (State.stopTrace_same ..).then rfl ?_
  refine (State.wake_same ..).then rfl ?_
  exact Same.refl _ _
  refine (State.sherunAnswer_same ..).then rfl ?_
  refine (State.wake_same ..).then rfl ?_
  exact Same.refl _ _

theorem execShrTraceDump_same (s : State) :
    OutSame { out := true, rng := true, pwr := true, shr := true } s (execShrTraceDump s) := by
  unfold execShrTraceDump
  dsimp only
  apply OutSame.next
  unfold State.sherunTrace
  unfold State.sherun
  refine Same.ite ?_ ?_
  exact Same.refl _ _
  dsimp only
  refine Same.ite ?_ ?_
  refine (State.sherunAnswer_same ..).then rfl ?_
  refine (State.wake_same ..).then rfl ?_
  exact Same.refl _ _
  refine Same.ite ?_ ?_
  refine (State.sherunReport_same ..).then rfl ?_
  refine Same.update ?_
  refine (State.wake_same ..).then rfl ?_
  exact Same.refl _ _
  refine (State.sherunAnswer_same ..).then rfl ?_
  refine (State.wake_same ..).then rfl ?_
  exact Same.refl _ _

theorem execShrLongLine_same (line : Bytes) (s : State) :
    OutSame { out := true, pwr := true, shr := true } s (execShrLongLine line s) := by
  unfold execShrLongLine
  dsimp only
  split
  apply OutSame.next
  exact Same.refl _ _
  apply OutSame.next
  refine (State.sherunAnswer_same ..).then rfl ?_
  refine Same.update ?_
  refine (State.wake_same ..).then rfl ?_
  exact Same.refl _ _

theorem State.tunnelSay_same (s : State) (qpn : Nat) (body : Bytes) :
    Same { net := true, sch := true } s (State.tunnelSay s qpn body) := by
  unfold State.tunnelSay
  split
  refine (State.answer_same ..).then rfl ?_
  exact Same.refl _ _
  refine (State.sendMsg_same ..).then rfl ?_
  exact Same.refl _ _

theorem State.spdmSay_same (s : State) (path : Nat) (qpn : Nat) (sess : Nat) (body : Bytes) :
    Same { out := true, rng := true, net := true, sch := true } s (State.spdmSay s path qpn sess body) := by
  unfold State.spdmSay
  refine Same.ite ?_ ?_
  split
  refine (State.tunnelSay_same ..).then rfl ?_
  exact Same.refl _ _
  refine (State.tunnelSay_same ..).then rfl ?_
  refine Same.update ?_
  exact Same.refl _ _
  refine (State.emit_same ..).then rfl ?_
  exact Same.refl _ _

theorem execSpdmTunnel_same (m : Msg) (s : State) :
    OutSame { rng := true, net := true, maps := true, eng := true, sch := true, pwr := true } s (execSpdmTunnel m s)
        := by
  unfold execSpdmTunnel
  dsimp only
  split
  apply OutSame.next
  exact Same.refl _ _
  split
  apply OutSame.next
  exact Same.refl _ _
  split
  apply OutSame.next
  refine (State.nakFail_same ..).then rfl ?_
  exact Same.refl _ _
  split
  apply OutSame.next
  refine (State.nakFail_same ..).then rfl ?_
  exact Same.refl _ _
  apply OutSame.next
  refine (State.answer_same ..).then rfl ?_
  refine Same.update ?_
  exact Same.refl _ _

theorem execKeyExchange_same (k : KeyExchange) (s : State) :
    OutSame { out := true, rng := true, sec := true, net := true, sch := true } s (execKeyExchange k s) := by
  unfold execKeyExchange
  dsimp only
  split
  split
  apply OutSame.next
  exact Same.refl _ _
  split
  apply OutSame.next
  refine (State.spdmSay_same ..).then rfl ?_
  refine Same.update ?_
  exact Same.refl _ _
  apply OutSame.next
  refine (State.spdmSay_same ..).then rfl ?_
  refine Same.update ?_
  refine Same.ite ?_ ?_
  refine (State.modQp_same ..).then rfl ?_
  refine Same.update ?_
  exact Same.refl _ _
  refine Same.update ?_
  exact Same.refl _ _
  split
  apply OutSame.next
  exact Same.refl _ _
  split
  apply OutSame.next
  refine (State.spdmSay_same ..).then rfl ?_
  refine Same.update ?_
  exact Same.refl _ _
  apply OutSame.next
  refine (State.spdmSay_same ..).then rfl ?_
  refine Same.update ?_
  refine Same.ite ?_ ?_
  refine (State.modQp_same ..).then rfl ?_
  refine Same.update ?_
  exact Same.refl _ _
  refine Same.update ?_
  exact Same.refl _ _

theorem execGetMeasurements_same (sess : Nat) (index : Nat) (nonce : Bytes) (s : State) :
    OutSame { out := true, rng := true, net := true, sch := true } s (execGetMeasurements sess index nonce s) := by
  unfold execGetMeasurements
  dsimp only
  split
  apply OutSame.next
  exact Same.refl _ _
  split
  apply OutSame.next
  exact Same.refl _ _
  apply OutSame.next
  refine (State.spdmSay_same ..).then rfl ?_
  exact Same.refl _ _

theorem State.vendorSay_same (s : State) (x : Session) (cmd : Nat) (status : Nat) (body : Bytes) :
    Same { out := true, rng := true, net := true, sch := true } s (State.vendorSay s x cmd status body) := by
  unfold State.vendorSay
  refine (State.spdmSay_same ..).then rfl ?_
  exact Same.refl _ _

theorem execSelectPaddock_same (v : VendorReq) (s : State) :
    OutSame { out := true, rng := true, sec := true, net := true, sch := true } s (execSelectPaddock v s) := by
  unfold execSelectPaddock
  dsimp only
  split
  apply OutSame.next
  exact Same.refl _ _
  split
  apply OutSame.next
  refine (State.vendorSay_same ..).then rfl ?_
  exact Same.refl _ _
  apply OutSame.next
  refine (State.vendorSay_same ..).then rfl ?_
  refine Same.update ?_
  exact Same.refl _ _

theorem execSeal_same (v : VendorReq) (s : State) :
    OutSame { out := true, rng := true, pads := true, net := true, maps := true, store := true, eng := true, sch :=
              true, pwr := true } s (execSeal v s) := by
  unfold execSeal
  dsimp only
  split
  apply OutSame.next
  exact Same.refl _ _
  split
  apply OutSame.next
  refine (State.vendorSay_same ..).then rfl ?_
  exact Same.refl _ _
  apply OutSame.next
  refine (State.vendorSay_same ..).then rfl ?_
  refine (State.pairWindows_same ..).then rfl ?_
  refine (State.modPad_same ..).then rfl ?_
  refine Same.foldl ?_ ?_
  refine (State.draw_same ..).then rfl ?_
  refine (State.draw_same ..).then rfl ?_
  exact Same.refl _ _
  intro _ _
  refine (State.failConn_same ..).then rfl ?_
  exact Same.refl _ _

theorem execWindowKey_same (v : VendorReq) (s : State) :
    OutSame { out := true, rng := true, net := true, maps := true, sch := true } s (execWindowKey v s) := by
  unfold execWindowKey
  dsimp only
  split
  apply OutSame.next
  exact Same.refl _ _
  split
  apply OutSame.next
  refine (State.vendorSay_same ..).then rfl ?_
  exact Same.refl _ _
  split
  apply OutSame.next
  refine (State.vendorSay_same ..).then rfl ?_
  exact Same.refl _ _
  apply OutSame.next
  refine (State.vendorSay_same ..).then rfl ?_
  refine Same.foldl ?_ ?_
  refine Same.update ?_
  exact Same.refl _ _
  intro _ _
  refine (State.connectStream_same ..).then rfl ?_
  exact Same.refl _ _

theorem execTeardown_same (v : VendorReq) (s : State) :
    OutSame { out := true, rng := true, farrier := true, regs := true, host := true, log := true, pads := true, net
              := true, maps := true, store := true, eng := true, sch := true, leases := true, pwr := true } s
              (execTeardown v s) := by
  unfold execTeardown
  dsimp only
  split
  apply OutSame.next
  exact Same.refl _ _
  split
  apply OutSame.next
  refine (State.vendorSay_same ..).then rfl ?_
  exact Same.refl _ _
  refine State.finish_same rfl ?_
  refine (State.vendorSay_same ..).then rfl ?_
  refine (State.requestTeardown_same ..).then rfl ?_
  exact Same.refl _ _

theorem execTallyRead_same (v : VendorReq) (s : State) :
    OutSame { out := true, rng := true, net := true, sch := true } s (execTallyRead v s) := by
  unfold execTallyRead
  dsimp only
  split
  apply OutSame.next
  exact Same.refl _ _
  split
  apply OutSame.next
  refine (State.vendorSay_same ..).then rfl ?_
  exact Same.refl _ _
  apply OutSame.next
  refine (State.vendorSay_same ..).then rfl ?_
  exact Same.refl _ _

theorem execTdispMessage_same (t : Tdisp) (s : State) :
    OutSame { out := true, rng := true, sec := true, net := true, sch := true } s (execTdispMessage t s) := by
  unfold execTdispMessage
  dsimp only
  split
  apply OutSame.next
  exact Same.refl _ _
  apply OutSame.next
  refine (State.spdmSay_same ..).then rfl ?_
  refine Same.update ?_
  exact Same.refl _ _

end Sys2Proof.Machine
end

