-- ==== Sys2Proof/Laws/State.lean ====
section
/-! SUPPORT. What each update of the state leaves alone, one lemma per field: a proof about another field never unfolds a
record update. -/

set_option Elab.async false

namespace Sys2Proof.Machine

section
variable (s : State) (t : Nat)
@[simp] theorem State.advanceTo_pending : (s.advanceTo t).pending = s.pending := rfl
@[simp] theorem State.advanceTo_out : (s.advanceTo t).out = s.out := rfl
@[simp] theorem State.advanceTo_rng : (s.advanceTo t).rng = s.rng := rfl
@[simp] theorem State.advanceTo_fused : (s.advanceTo t).fused = s.fused := rfl
@[simp] theorem State.advanceTo_farrier : (s.advanceTo t).farrier = s.farrier := rfl
@[simp] theorem State.advanceTo_power : (s.advanceTo t).power = s.power := rfl
@[simp] theorem State.advanceTo_boot : (s.advanceTo t).boot = s.boot := rfl
@[simp] theorem State.advanceTo_img : (s.advanceTo t).img = s.img := rfl
@[simp] theorem State.advanceTo_regs : (s.advanceTo t).regs = s.regs := rfl
@[simp] theorem State.advanceTo_host : (s.advanceTo t).host = s.host := rfl
@[simp] theorem State.advanceTo_log : (s.advanceTo t).log = s.log := rfl
@[simp] theorem State.advanceTo_ostlers : (s.advanceTo t).ostlers = s.ostlers := rfl
@[simp] theorem State.advanceTo_pads : (s.advanceTo t).pads = s.pads := rfl
@[simp] theorem State.advanceTo_sec : (s.advanceTo t).sec = s.sec := rfl
@[simp] theorem State.advanceTo_net : (s.advanceTo t).net = s.net := rfl
@[simp] theorem State.advanceTo_maps : (s.advanceTo t).maps = s.maps := rfl
@[simp] theorem State.advanceTo_store : (s.advanceTo t).store = s.store := rfl
@[simp] theorem State.advanceTo_eng : (s.advanceTo t).eng = s.eng := rfl
@[simp] theorem State.advanceTo_sch : (s.advanceTo t).sch = s.sch := rfl
@[simp] theorem State.advanceTo_leases : (s.advanceTo t).leases = s.leases := rfl
@[simp] theorem State.advanceTo_pwr : (s.advanceTo t).pwr = s.pwr := rfl
@[simp] theorem State.advanceTo_shr : (s.advanceTo t).shr = s.shr := rfl
@[simp] theorem State.advanceTo_mem : (s.advanceTo t).mem = s.mem := rfl
end

section
variable (s : State) (o : Output)
@[simp] theorem State.emit_pending : (s.emit o).pending = s.pending := rfl
@[simp] theorem State.emit_rng : (s.emit o).rng = s.rng := rfl
@[simp] theorem State.emit_time : (s.emit o).time = s.time := rfl
@[simp] theorem State.emit_fused : (s.emit o).fused = s.fused := rfl
@[simp] theorem State.emit_farrier : (s.emit o).farrier = s.farrier := rfl
@[simp] theorem State.emit_power : (s.emit o).power = s.power := rfl
@[simp] theorem State.emit_boot : (s.emit o).boot = s.boot := rfl
@[simp] theorem State.emit_img : (s.emit o).img = s.img := rfl
@[simp] theorem State.emit_regs : (s.emit o).regs = s.regs := rfl
@[simp] theorem State.emit_host : (s.emit o).host = s.host := rfl
@[simp] theorem State.emit_log : (s.emit o).log = s.log := rfl
@[simp] theorem State.emit_ostlers : (s.emit o).ostlers = s.ostlers := rfl
@[simp] theorem State.emit_pads : (s.emit o).pads = s.pads := rfl
@[simp] theorem State.emit_sec : (s.emit o).sec = s.sec := rfl
@[simp] theorem State.emit_net : (s.emit o).net = s.net := rfl
@[simp] theorem State.emit_maps : (s.emit o).maps = s.maps := rfl
@[simp] theorem State.emit_store : (s.emit o).store = s.store := rfl
@[simp] theorem State.emit_eng : (s.emit o).eng = s.eng := rfl
@[simp] theorem State.emit_sch : (s.emit o).sch = s.sch := rfl
@[simp] theorem State.emit_leases : (s.emit o).leases = s.leases := rfl
@[simp] theorem State.emit_pwr : (s.emit o).pwr = s.pwr := rfl
@[simp] theorem State.emit_shr : (s.emit o).shr = s.shr := rfl
@[simp] theorem State.emit_mem : (s.emit o).mem = s.mem := rfl
end

section
variable (s : State) (i : Nat) (f : Window → Window)
@[simp] theorem State.modWindow_pending : (s.modWindow i f).pending = s.pending := rfl
@[simp] theorem State.modWindow_out : (s.modWindow i f).out = s.out := rfl
@[simp] theorem State.modWindow_rng : (s.modWindow i f).rng = s.rng := rfl
@[simp] theorem State.modWindow_time : (s.modWindow i f).time = s.time := rfl
@[simp] theorem State.modWindow_fused : (s.modWindow i f).fused = s.fused := rfl
@[simp] theorem State.modWindow_farrier : (s.modWindow i f).farrier = s.farrier := rfl
@[simp] theorem State.modWindow_power : (s.modWindow i f).power = s.power := rfl
@[simp] theorem State.modWindow_boot : (s.modWindow i f).boot = s.boot := rfl
@[simp] theorem State.modWindow_img : (s.modWindow i f).img = s.img := rfl
@[simp] theorem State.modWindow_regs : (s.modWindow i f).regs = s.regs := rfl
@[simp] theorem State.modWindow_host : (s.modWindow i f).host = s.host := rfl
@[simp] theorem State.modWindow_log : (s.modWindow i f).log = s.log := rfl
@[simp] theorem State.modWindow_ostlers : (s.modWindow i f).ostlers = s.ostlers := rfl
@[simp] theorem State.modWindow_pads : (s.modWindow i f).pads = s.pads := rfl
@[simp] theorem State.modWindow_sec : (s.modWindow i f).sec = s.sec := rfl
@[simp] theorem State.modWindow_net : (s.modWindow i f).net = s.net := rfl
@[simp] theorem State.modWindow_store : (s.modWindow i f).store = s.store := rfl
@[simp] theorem State.modWindow_eng : (s.modWindow i f).eng = s.eng := rfl
@[simp] theorem State.modWindow_sch : (s.modWindow i f).sch = s.sch := rfl
@[simp] theorem State.modWindow_leases : (s.modWindow i f).leases = s.leases := rfl
@[simp] theorem State.modWindow_pwr : (s.modWindow i f).pwr = s.pwr := rfl
@[simp] theorem State.modWindow_shr : (s.modWindow i f).shr = s.shr := rfl
@[simp] theorem State.modWindow_mem : (s.modWindow i f).mem = s.mem := rfl
end

section
variable (s : State) (i : Nat) (f : Sched → Sched)
@[simp] theorem State.modSched_pending : (s.modSched i f).pending = s.pending := rfl
@[simp] theorem State.modSched_out : (s.modSched i f).out = s.out := rfl
@[simp] theorem State.modSched_rng : (s.modSched i f).rng = s.rng := rfl
@[simp] theorem State.modSched_time : (s.modSched i f).time = s.time := rfl
@[simp] theorem State.modSched_fused : (s.modSched i f).fused = s.fused := rfl
@[simp] theorem State.modSched_farrier : (s.modSched i f).farrier = s.farrier := rfl
@[simp] theorem State.modSched_power : (s.modSched i f).power = s.power := rfl
@[simp] theorem State.modSched_boot : (s.modSched i f).boot = s.boot := rfl
@[simp] theorem State.modSched_img : (s.modSched i f).img = s.img := rfl
@[simp] theorem State.modSched_regs : (s.modSched i f).regs = s.regs := rfl
@[simp] theorem State.modSched_host : (s.modSched i f).host = s.host := rfl
@[simp] theorem State.modSched_log : (s.modSched i f).log = s.log := rfl
@[simp] theorem State.modSched_ostlers : (s.modSched i f).ostlers = s.ostlers := rfl
@[simp] theorem State.modSched_pads : (s.modSched i f).pads = s.pads := rfl
@[simp] theorem State.modSched_sec : (s.modSched i f).sec = s.sec := rfl
@[simp] theorem State.modSched_net : (s.modSched i f).net = s.net := rfl
@[simp] theorem State.modSched_maps : (s.modSched i f).maps = s.maps := rfl
@[simp] theorem State.modSched_store : (s.modSched i f).store = s.store := rfl
@[simp] theorem State.modSched_eng : (s.modSched i f).eng = s.eng := rfl
@[simp] theorem State.modSched_leases : (s.modSched i f).leases = s.leases := rfl
@[simp] theorem State.modSched_pwr : (s.modSched i f).pwr = s.pwr := rfl
@[simp] theorem State.modSched_shr : (s.modSched i f).shr = s.shr := rfl
@[simp] theorem State.modSched_mem : (s.modSched i f).mem = s.mem := rfl
end

section
variable (s : State) (i : Nat) (f : Ostler → Ostler)
@[simp] theorem State.modOstler_pending : (s.modOstler i f).pending = s.pending := rfl
@[simp] theorem State.modOstler_out : (s.modOstler i f).out = s.out := rfl
@[simp] theorem State.modOstler_rng : (s.modOstler i f).rng = s.rng := rfl
@[simp] theorem State.modOstler_time : (s.modOstler i f).time = s.time := rfl
@[simp] theorem State.modOstler_fused : (s.modOstler i f).fused = s.fused := rfl
@[simp] theorem State.modOstler_farrier : (s.modOstler i f).farrier = s.farrier := rfl
@[simp] theorem State.modOstler_power : (s.modOstler i f).power = s.power := rfl
@[simp] theorem State.modOstler_boot : (s.modOstler i f).boot = s.boot := rfl
@[simp] theorem State.modOstler_img : (s.modOstler i f).img = s.img := rfl
@[simp] theorem State.modOstler_regs : (s.modOstler i f).regs = s.regs := rfl
@[simp] theorem State.modOstler_host : (s.modOstler i f).host = s.host := rfl
@[simp] theorem State.modOstler_log : (s.modOstler i f).log = s.log := rfl
@[simp] theorem State.modOstler_pads : (s.modOstler i f).pads = s.pads := rfl
@[simp] theorem State.modOstler_sec : (s.modOstler i f).sec = s.sec := rfl
@[simp] theorem State.modOstler_net : (s.modOstler i f).net = s.net := rfl
@[simp] theorem State.modOstler_maps : (s.modOstler i f).maps = s.maps := rfl
@[simp] theorem State.modOstler_store : (s.modOstler i f).store = s.store := rfl
@[simp] theorem State.modOstler_eng : (s.modOstler i f).eng = s.eng := rfl
@[simp] theorem State.modOstler_sch : (s.modOstler i f).sch = s.sch := rfl
@[simp] theorem State.modOstler_leases : (s.modOstler i f).leases = s.leases := rfl
@[simp] theorem State.modOstler_pwr : (s.modOstler i f).pwr = s.pwr := rfl
@[simp] theorem State.modOstler_shr : (s.modOstler i f).shr = s.shr := rfl
@[simp] theorem State.modOstler_mem : (s.modOstler i f).mem = s.mem := rfl
end

section
variable (s : State) (i : Nat) (f : Stream → Stream)
@[simp] theorem State.modStream_pending : (s.modStream i f).pending = s.pending := rfl
@[simp] theorem State.modStream_out : (s.modStream i f).out = s.out := rfl
@[simp] theorem State.modStream_rng : (s.modStream i f).rng = s.rng := rfl
@[simp] theorem State.modStream_time : (s.modStream i f).time = s.time := rfl
@[simp] theorem State.modStream_fused : (s.modStream i f).fused = s.fused := rfl
@[simp] theorem State.modStream_farrier : (s.modStream i f).farrier = s.farrier := rfl
@[simp] theorem State.modStream_power : (s.modStream i f).power = s.power := rfl
@[simp] theorem State.modStream_boot : (s.modStream i f).boot = s.boot := rfl
@[simp] theorem State.modStream_img : (s.modStream i f).img = s.img := rfl
@[simp] theorem State.modStream_regs : (s.modStream i f).regs = s.regs := rfl
@[simp] theorem State.modStream_host : (s.modStream i f).host = s.host := rfl
@[simp] theorem State.modStream_log : (s.modStream i f).log = s.log := rfl
@[simp] theorem State.modStream_ostlers : (s.modStream i f).ostlers = s.ostlers := rfl
@[simp] theorem State.modStream_pads : (s.modStream i f).pads = s.pads := rfl
@[simp] theorem State.modStream_sec : (s.modStream i f).sec = s.sec := rfl
@[simp] theorem State.modStream_net : (s.modStream i f).net = s.net := rfl
@[simp] theorem State.modStream_store : (s.modStream i f).store = s.store := rfl
@[simp] theorem State.modStream_eng : (s.modStream i f).eng = s.eng := rfl
@[simp] theorem State.modStream_sch : (s.modStream i f).sch = s.sch := rfl
@[simp] theorem State.modStream_leases : (s.modStream i f).leases = s.leases := rfl
@[simp] theorem State.modStream_pwr : (s.modStream i f).pwr = s.pwr := rfl
@[simp] theorem State.modStream_shr : (s.modStream i f).shr = s.shr := rfl
@[simp] theorem State.modStream_mem : (s.modStream i f).mem = s.mem := rfl
end

section
variable (s : State) (n : Nat) (f : Block → Block)
@[simp] theorem State.modBlock_pending : (s.modBlock n f).pending = s.pending := rfl
@[simp] theorem State.modBlock_out : (s.modBlock n f).out = s.out := rfl
@[simp] theorem State.modBlock_rng : (s.modBlock n f).rng = s.rng := rfl
@[simp] theorem State.modBlock_time : (s.modBlock n f).time = s.time := rfl
@[simp] theorem State.modBlock_fused : (s.modBlock n f).fused = s.fused := rfl
@[simp] theorem State.modBlock_farrier : (s.modBlock n f).farrier = s.farrier := rfl
@[simp] theorem State.modBlock_power : (s.modBlock n f).power = s.power := rfl
@[simp] theorem State.modBlock_boot : (s.modBlock n f).boot = s.boot := rfl
@[simp] theorem State.modBlock_img : (s.modBlock n f).img = s.img := rfl
@[simp] theorem State.modBlock_regs : (s.modBlock n f).regs = s.regs := rfl
@[simp] theorem State.modBlock_host : (s.modBlock n f).host = s.host := rfl
@[simp] theorem State.modBlock_log : (s.modBlock n f).log = s.log := rfl
@[simp] theorem State.modBlock_ostlers : (s.modBlock n f).ostlers = s.ostlers := rfl
@[simp] theorem State.modBlock_pads : (s.modBlock n f).pads = s.pads := rfl
@[simp] theorem State.modBlock_sec : (s.modBlock n f).sec = s.sec := rfl
@[simp] theorem State.modBlock_net : (s.modBlock n f).net = s.net := rfl
@[simp] theorem State.modBlock_maps : (s.modBlock n f).maps = s.maps := rfl
@[simp] theorem State.modBlock_eng : (s.modBlock n f).eng = s.eng := rfl
@[simp] theorem State.modBlock_sch : (s.modBlock n f).sch = s.sch := rfl
@[simp] theorem State.modBlock_leases : (s.modBlock n f).leases = s.leases := rfl
@[simp] theorem State.modBlock_pwr : (s.modBlock n f).pwr = s.pwr := rfl
@[simp] theorem State.modBlock_shr : (s.modBlock n f).shr = s.shr := rfl
@[simp] theorem State.modBlock_mem : (s.modBlock n f).mem = s.mem := rfl
end

section
variable (s : State) (p : Pad)
@[simp] theorem State.putPad_pending : (s.putPad p).pending = s.pending := rfl
@[simp] theorem State.putPad_out : (s.putPad p).out = s.out := rfl
@[simp] theorem State.putPad_rng : (s.putPad p).rng = s.rng := rfl
@[simp] theorem State.putPad_time : (s.putPad p).time = s.time := rfl
@[simp] theorem State.putPad_fused : (s.putPad p).fused = s.fused := rfl
@[simp] theorem State.putPad_farrier : (s.putPad p).farrier = s.farrier := rfl
@[simp] theorem State.putPad_power : (s.putPad p).power = s.power := rfl
@[simp] theorem State.putPad_boot : (s.putPad p).boot = s.boot := rfl
@[simp] theorem State.putPad_img : (s.putPad p).img = s.img := rfl
@[simp] theorem State.putPad_regs : (s.putPad p).regs = s.regs := rfl
@[simp] theorem State.putPad_host : (s.putPad p).host = s.host := rfl
@[simp] theorem State.putPad_log : (s.putPad p).log = s.log := rfl
@[simp] theorem State.putPad_ostlers : (s.putPad p).ostlers = s.ostlers := rfl
@[simp] theorem State.putPad_sec : (s.putPad p).sec = s.sec := rfl
@[simp] theorem State.putPad_net : (s.putPad p).net = s.net := rfl
@[simp] theorem State.putPad_maps : (s.putPad p).maps = s.maps := rfl
@[simp] theorem State.putPad_store : (s.putPad p).store = s.store := rfl
@[simp] theorem State.putPad_eng : (s.putPad p).eng = s.eng := rfl
@[simp] theorem State.putPad_sch : (s.putPad p).sch = s.sch := rfl
@[simp] theorem State.putPad_leases : (s.putPad p).leases = s.leases := rfl
@[simp] theorem State.putPad_pwr : (s.putPad p).pwr = s.pwr := rfl
@[simp] theorem State.putPad_shr : (s.putPad p).shr = s.shr := rfl
@[simp] theorem State.putPad_mem : (s.putPad p).mem = s.mem := rfl
end

section
variable (s : State) (q : Nat) (f : Qp → Qp)
@[simp] theorem State.modQp_pending : (s.modQp q f).pending = s.pending := rfl
@[simp] theorem State.modQp_out : (s.modQp q f).out = s.out := rfl
@[simp] theorem State.modQp_rng : (s.modQp q f).rng = s.rng := rfl
@[simp] theorem State.modQp_time : (s.modQp q f).time = s.time := rfl
@[simp] theorem State.modQp_fused : (s.modQp q f).fused = s.fused := rfl
@[simp] theorem State.modQp_farrier : (s.modQp q f).farrier = s.farrier := rfl
@[simp] theorem State.modQp_power : (s.modQp q f).power = s.power := rfl
@[simp] theorem State.modQp_boot : (s.modQp q f).boot = s.boot := rfl
@[simp] theorem State.modQp_img : (s.modQp q f).img = s.img := rfl
@[simp] theorem State.modQp_regs : (s.modQp q f).regs = s.regs := rfl
@[simp] theorem State.modQp_host : (s.modQp q f).host = s.host := rfl
@[simp] theorem State.modQp_log : (s.modQp q f).log = s.log := rfl
@[simp] theorem State.modQp_ostlers : (s.modQp q f).ostlers = s.ostlers := rfl
@[simp] theorem State.modQp_pads : (s.modQp q f).pads = s.pads := rfl
@[simp] theorem State.modQp_sec : (s.modQp q f).sec = s.sec := rfl
@[simp] theorem State.modQp_maps : (s.modQp q f).maps = s.maps := rfl
@[simp] theorem State.modQp_store : (s.modQp q f).store = s.store := rfl
@[simp] theorem State.modQp_eng : (s.modQp q f).eng = s.eng := rfl
@[simp] theorem State.modQp_sch : (s.modQp q f).sch = s.sch := rfl
@[simp] theorem State.modQp_leases : (s.modQp q f).leases = s.leases := rfl
@[simp] theorem State.modQp_pwr : (s.modQp q f).pwr = s.pwr := rfl
@[simp] theorem State.modQp_shr : (s.modQp q f).shr = s.shr := rfl
@[simp] theorem State.modQp_mem : (s.modQp q f).mem = s.mem := rfl
end

section
variable (s : State) (p : Nat) (f : Pad → Pad)
@[simp] theorem State.modPad_pending : (s.modPad p f).pending = s.pending := rfl
@[simp] theorem State.modPad_out : (s.modPad p f).out = s.out := rfl
@[simp] theorem State.modPad_rng : (s.modPad p f).rng = s.rng := rfl
@[simp] theorem State.modPad_time : (s.modPad p f).time = s.time := rfl
@[simp] theorem State.modPad_fused : (s.modPad p f).fused = s.fused := rfl
@[simp] theorem State.modPad_farrier : (s.modPad p f).farrier = s.farrier := rfl
@[simp] theorem State.modPad_power : (s.modPad p f).power = s.power := rfl
@[simp] theorem State.modPad_boot : (s.modPad p f).boot = s.boot := rfl
@[simp] theorem State.modPad_img : (s.modPad p f).img = s.img := rfl
@[simp] theorem State.modPad_regs : (s.modPad p f).regs = s.regs := rfl
@[simp] theorem State.modPad_host : (s.modPad p f).host = s.host := rfl
@[simp] theorem State.modPad_log : (s.modPad p f).log = s.log := rfl
@[simp] theorem State.modPad_ostlers : (s.modPad p f).ostlers = s.ostlers := rfl
@[simp] theorem State.modPad_sec : (s.modPad p f).sec = s.sec := rfl
@[simp] theorem State.modPad_net : (s.modPad p f).net = s.net := rfl
@[simp] theorem State.modPad_maps : (s.modPad p f).maps = s.maps := rfl
@[simp] theorem State.modPad_store : (s.modPad p f).store = s.store := rfl
@[simp] theorem State.modPad_eng : (s.modPad p f).eng = s.eng := rfl
@[simp] theorem State.modPad_sch : (s.modPad p f).sch = s.sch := rfl
@[simp] theorem State.modPad_leases : (s.modPad p f).leases = s.leases := rfl
@[simp] theorem State.modPad_pwr : (s.modPad p f).pwr = s.pwr := rfl
@[simp] theorem State.modPad_shr : (s.modPad p f).shr = s.shr := rfl
@[simp] theorem State.modPad_mem : (s.modPad p f).mem = s.mem := rfl
end

section
variable (s : State) (i : Nat) (f : Mailbox → Mailbox)
@[simp] theorem State.modBox_pending : (s.modBox i f).pending = s.pending := rfl
@[simp] theorem State.modBox_out : (s.modBox i f).out = s.out := rfl
@[simp] theorem State.modBox_rng : (s.modBox i f).rng = s.rng := rfl
@[simp] theorem State.modBox_time : (s.modBox i f).time = s.time := rfl
@[simp] theorem State.modBox_fused : (s.modBox i f).fused = s.fused := rfl
@[simp] theorem State.modBox_farrier : (s.modBox i f).farrier = s.farrier := rfl
@[simp] theorem State.modBox_power : (s.modBox i f).power = s.power := rfl
@[simp] theorem State.modBox_boot : (s.modBox i f).boot = s.boot := rfl
@[simp] theorem State.modBox_img : (s.modBox i f).img = s.img := rfl
@[simp] theorem State.modBox_regs : (s.modBox i f).regs = s.regs := rfl
@[simp] theorem State.modBox_log : (s.modBox i f).log = s.log := rfl
@[simp] theorem State.modBox_ostlers : (s.modBox i f).ostlers = s.ostlers := rfl
@[simp] theorem State.modBox_pads : (s.modBox i f).pads = s.pads := rfl
@[simp] theorem State.modBox_sec : (s.modBox i f).sec = s.sec := rfl
@[simp] theorem State.modBox_net : (s.modBox i f).net = s.net := rfl
@[simp] theorem State.modBox_maps : (s.modBox i f).maps = s.maps := rfl
@[simp] theorem State.modBox_store : (s.modBox i f).store = s.store := rfl
@[simp] theorem State.modBox_eng : (s.modBox i f).eng = s.eng := rfl
@[simp] theorem State.modBox_sch : (s.modBox i f).sch = s.sch := rfl
@[simp] theorem State.modBox_leases : (s.modBox i f).leases = s.leases := rfl
@[simp] theorem State.modBox_pwr : (s.modBox i f).pwr = s.pwr := rfl
@[simp] theorem State.modBox_shr : (s.modBox i f).shr = s.shr := rfl
@[simp] theorem State.modBox_mem : (s.modBox i f).mem = s.mem := rfl
end

section
variable (s : State) (d : Nat) (f : Seq → Seq)
@[simp] theorem State.modSeq_pending : (s.modSeq d f).pending = s.pending := rfl
@[simp] theorem State.modSeq_out : (s.modSeq d f).out = s.out := rfl
@[simp] theorem State.modSeq_rng : (s.modSeq d f).rng = s.rng := rfl
@[simp] theorem State.modSeq_time : (s.modSeq d f).time = s.time := rfl
@[simp] theorem State.modSeq_fused : (s.modSeq d f).fused = s.fused := rfl
@[simp] theorem State.modSeq_farrier : (s.modSeq d f).farrier = s.farrier := rfl
@[simp] theorem State.modSeq_power : (s.modSeq d f).power = s.power := rfl
@[simp] theorem State.modSeq_boot : (s.modSeq d f).boot = s.boot := rfl
@[simp] theorem State.modSeq_img : (s.modSeq d f).img = s.img := rfl
@[simp] theorem State.modSeq_regs : (s.modSeq d f).regs = s.regs := rfl
@[simp] theorem State.modSeq_host : (s.modSeq d f).host = s.host := rfl
@[simp] theorem State.modSeq_log : (s.modSeq d f).log = s.log := rfl
@[simp] theorem State.modSeq_ostlers : (s.modSeq d f).ostlers = s.ostlers := rfl
@[simp] theorem State.modSeq_pads : (s.modSeq d f).pads = s.pads := rfl
@[simp] theorem State.modSeq_sec : (s.modSeq d f).sec = s.sec := rfl
@[simp] theorem State.modSeq_net : (s.modSeq d f).net = s.net := rfl
@[simp] theorem State.modSeq_maps : (s.modSeq d f).maps = s.maps := rfl
@[simp] theorem State.modSeq_eng : (s.modSeq d f).eng = s.eng := rfl
@[simp] theorem State.modSeq_sch : (s.modSeq d f).sch = s.sch := rfl
@[simp] theorem State.modSeq_leases : (s.modSeq d f).leases = s.leases := rfl
@[simp] theorem State.modSeq_pwr : (s.modSeq d f).pwr = s.pwr := rfl
@[simp] theorem State.modSeq_shr : (s.modSeq d f).shr = s.shr := rfl
@[simp] theorem State.modSeq_mem : (s.modSeq d f).mem = s.mem := rfl
end

section
variable (s : State) (i : Nat) (f : Link → Link)
@[simp] theorem State.modLink_pending : (s.modLink i f).pending = s.pending := rfl
@[simp] theorem State.modLink_out : (s.modLink i f).out = s.out := rfl
@[simp] theorem State.modLink_rng : (s.modLink i f).rng = s.rng := rfl
@[simp] theorem State.modLink_time : (s.modLink i f).time = s.time := rfl
@[simp] theorem State.modLink_fused : (s.modLink i f).fused = s.fused := rfl
@[simp] theorem State.modLink_farrier : (s.modLink i f).farrier = s.farrier := rfl
@[simp] theorem State.modLink_power : (s.modLink i f).power = s.power := rfl
@[simp] theorem State.modLink_boot : (s.modLink i f).boot = s.boot := rfl
@[simp] theorem State.modLink_img : (s.modLink i f).img = s.img := rfl
@[simp] theorem State.modLink_regs : (s.modLink i f).regs = s.regs := rfl
@[simp] theorem State.modLink_host : (s.modLink i f).host = s.host := rfl
@[simp] theorem State.modLink_log : (s.modLink i f).log = s.log := rfl
@[simp] theorem State.modLink_ostlers : (s.modLink i f).ostlers = s.ostlers := rfl
@[simp] theorem State.modLink_pads : (s.modLink i f).pads = s.pads := rfl
@[simp] theorem State.modLink_sec : (s.modLink i f).sec = s.sec := rfl
@[simp] theorem State.modLink_maps : (s.modLink i f).maps = s.maps := rfl
@[simp] theorem State.modLink_store : (s.modLink i f).store = s.store := rfl
@[simp] theorem State.modLink_eng : (s.modLink i f).eng = s.eng := rfl
@[simp] theorem State.modLink_sch : (s.modLink i f).sch = s.sch := rfl
@[simp] theorem State.modLink_leases : (s.modLink i f).leases = s.leases := rfl
@[simp] theorem State.modLink_pwr : (s.modLink i f).pwr = s.pwr := rfl
@[simp] theorem State.modLink_shr : (s.modLink i f).shr = s.shr := rfl
@[simp] theorem State.modLink_mem : (s.modLink i f).mem = s.mem := rfl
end

section
variable (s : State) (i : Nat) (f : Op → Op)
@[simp] theorem State.modOp_pending : (s.modOp i f).pending = s.pending := rfl
@[simp] theorem State.modOp_out : (s.modOp i f).out = s.out := rfl
@[simp] theorem State.modOp_rng : (s.modOp i f).rng = s.rng := rfl
@[simp] theorem State.modOp_time : (s.modOp i f).time = s.time := rfl
@[simp] theorem State.modOp_fused : (s.modOp i f).fused = s.fused := rfl
@[simp] theorem State.modOp_farrier : (s.modOp i f).farrier = s.farrier := rfl
@[simp] theorem State.modOp_power : (s.modOp i f).power = s.power := rfl
@[simp] theorem State.modOp_boot : (s.modOp i f).boot = s.boot := rfl
@[simp] theorem State.modOp_img : (s.modOp i f).img = s.img := rfl
@[simp] theorem State.modOp_regs : (s.modOp i f).regs = s.regs := rfl
@[simp] theorem State.modOp_host : (s.modOp i f).host = s.host := rfl
@[simp] theorem State.modOp_log : (s.modOp i f).log = s.log := rfl
@[simp] theorem State.modOp_ostlers : (s.modOp i f).ostlers = s.ostlers := rfl
@[simp] theorem State.modOp_pads : (s.modOp i f).pads = s.pads := rfl
@[simp] theorem State.modOp_sec : (s.modOp i f).sec = s.sec := rfl
@[simp] theorem State.modOp_net : (s.modOp i f).net = s.net := rfl
@[simp] theorem State.modOp_maps : (s.modOp i f).maps = s.maps := rfl
@[simp] theorem State.modOp_store : (s.modOp i f).store = s.store := rfl
@[simp] theorem State.modOp_sch : (s.modOp i f).sch = s.sch := rfl
@[simp] theorem State.modOp_leases : (s.modOp i f).leases = s.leases := rfl
@[simp] theorem State.modOp_pwr : (s.modOp i f).pwr = s.pwr := rfl
@[simp] theorem State.modOp_shr : (s.modOp i f).shr = s.shr := rfl
@[simp] theorem State.modOp_mem : (s.modOp i f).mem = s.mem := rfl
end

section
variable (s : State) (die : Nat) (phys : Nat) (f : Cluster → Cluster)
@[simp] theorem State.modCluster_pending : (s.modCluster die phys f).pending = s.pending := rfl
@[simp] theorem State.modCluster_out : (s.modCluster die phys f).out = s.out := rfl
@[simp] theorem State.modCluster_rng : (s.modCluster die phys f).rng = s.rng := rfl
@[simp] theorem State.modCluster_time : (s.modCluster die phys f).time = s.time := rfl
@[simp] theorem State.modCluster_fused : (s.modCluster die phys f).fused = s.fused := rfl
@[simp] theorem State.modCluster_farrier : (s.modCluster die phys f).farrier = s.farrier := rfl
@[simp] theorem State.modCluster_power : (s.modCluster die phys f).power = s.power := rfl
@[simp] theorem State.modCluster_boot : (s.modCluster die phys f).boot = s.boot := rfl
@[simp] theorem State.modCluster_img : (s.modCluster die phys f).img = s.img := rfl
@[simp] theorem State.modCluster_regs : (s.modCluster die phys f).regs = s.regs := rfl
@[simp] theorem State.modCluster_host : (s.modCluster die phys f).host = s.host := rfl
@[simp] theorem State.modCluster_log : (s.modCluster die phys f).log = s.log := rfl
@[simp] theorem State.modCluster_ostlers : (s.modCluster die phys f).ostlers = s.ostlers := rfl
@[simp] theorem State.modCluster_pads : (s.modCluster die phys f).pads = s.pads := rfl
@[simp] theorem State.modCluster_sec : (s.modCluster die phys f).sec = s.sec := rfl
@[simp] theorem State.modCluster_net : (s.modCluster die phys f).net = s.net := rfl
@[simp] theorem State.modCluster_maps : (s.modCluster die phys f).maps = s.maps := rfl
@[simp] theorem State.modCluster_store : (s.modCluster die phys f).store = s.store := rfl
@[simp] theorem State.modCluster_sch : (s.modCluster die phys f).sch = s.sch := rfl
@[simp] theorem State.modCluster_leases : (s.modCluster die phys f).leases = s.leases := rfl
@[simp] theorem State.modCluster_pwr : (s.modCluster die phys f).pwr = s.pwr := rfl
@[simp] theorem State.modCluster_shr : (s.modCluster die phys f).shr = s.shr := rfl
@[simp] theorem State.modCluster_mem : (s.modCluster die phys f).mem = s.mem := rfl
end

section
variable (s : State) (op : Nat) (index : Nat) (f : WorkUnit → WorkUnit)
@[simp] theorem State.modUnit_pending : (s.modUnit op index f).pending = s.pending := rfl
@[simp] theorem State.modUnit_out : (s.modUnit op index f).out = s.out := rfl
@[simp] theorem State.modUnit_rng : (s.modUnit op index f).rng = s.rng := rfl
@[simp] theorem State.modUnit_time : (s.modUnit op index f).time = s.time := rfl
@[simp] theorem State.modUnit_fused : (s.modUnit op index f).fused = s.fused := rfl
@[simp] theorem State.modUnit_farrier : (s.modUnit op index f).farrier = s.farrier := rfl
@[simp] theorem State.modUnit_power : (s.modUnit op index f).power = s.power := rfl
@[simp] theorem State.modUnit_boot : (s.modUnit op index f).boot = s.boot := rfl
@[simp] theorem State.modUnit_img : (s.modUnit op index f).img = s.img := rfl
@[simp] theorem State.modUnit_regs : (s.modUnit op index f).regs = s.regs := rfl
@[simp] theorem State.modUnit_host : (s.modUnit op index f).host = s.host := rfl
@[simp] theorem State.modUnit_log : (s.modUnit op index f).log = s.log := rfl
@[simp] theorem State.modUnit_ostlers : (s.modUnit op index f).ostlers = s.ostlers := rfl
@[simp] theorem State.modUnit_pads : (s.modUnit op index f).pads = s.pads := rfl
@[simp] theorem State.modUnit_sec : (s.modUnit op index f).sec = s.sec := rfl
@[simp] theorem State.modUnit_net : (s.modUnit op index f).net = s.net := rfl
@[simp] theorem State.modUnit_maps : (s.modUnit op index f).maps = s.maps := rfl
@[simp] theorem State.modUnit_store : (s.modUnit op index f).store = s.store := rfl
@[simp] theorem State.modUnit_sch : (s.modUnit op index f).sch = s.sch := rfl
@[simp] theorem State.modUnit_leases : (s.modUnit op index f).leases = s.leases := rfl
@[simp] theorem State.modUnit_pwr : (s.modUnit op index f).pwr = s.pwr := rfl
@[simp] theorem State.modUnit_shr : (s.modUnit op index f).shr = s.shr := rfl
@[simp] theorem State.modUnit_mem : (s.modUnit op index f).mem = s.mem := rfl
end

section
variable (s : State) (op : Nat) (f : StepWork → StepWork)
@[simp] theorem State.modWork_pending : (s.modWork op f).pending = s.pending := rfl
@[simp] theorem State.modWork_out : (s.modWork op f).out = s.out := rfl
@[simp] theorem State.modWork_rng : (s.modWork op f).rng = s.rng := rfl
@[simp] theorem State.modWork_time : (s.modWork op f).time = s.time := rfl
@[simp] theorem State.modWork_fused : (s.modWork op f).fused = s.fused := rfl
@[simp] theorem State.modWork_farrier : (s.modWork op f).farrier = s.farrier := rfl
@[simp] theorem State.modWork_power : (s.modWork op f).power = s.power := rfl
@[simp] theorem State.modWork_boot : (s.modWork op f).boot = s.boot := rfl
@[simp] theorem State.modWork_img : (s.modWork op f).img = s.img := rfl
@[simp] theorem State.modWork_regs : (s.modWork op f).regs = s.regs := rfl
@[simp] theorem State.modWork_host : (s.modWork op f).host = s.host := rfl
@[simp] theorem State.modWork_log : (s.modWork op f).log = s.log := rfl
@[simp] theorem State.modWork_ostlers : (s.modWork op f).ostlers = s.ostlers := rfl
@[simp] theorem State.modWork_pads : (s.modWork op f).pads = s.pads := rfl
@[simp] theorem State.modWork_sec : (s.modWork op f).sec = s.sec := rfl
@[simp] theorem State.modWork_net : (s.modWork op f).net = s.net := rfl
@[simp] theorem State.modWork_maps : (s.modWork op f).maps = s.maps := rfl
@[simp] theorem State.modWork_store : (s.modWork op f).store = s.store := rfl
@[simp] theorem State.modWork_sch : (s.modWork op f).sch = s.sch := rfl
@[simp] theorem State.modWork_leases : (s.modWork op f).leases = s.leases := rfl
@[simp] theorem State.modWork_pwr : (s.modWork op f).pwr = s.pwr := rfl
@[simp] theorem State.modWork_shr : (s.modWork op f).shr = s.shr := rfl
@[simp] theorem State.modWork_mem : (s.modWork op f).mem = s.mem := rfl
end

section
variable (s : State) (i : Nat) (f : Lease → Lease)
@[simp] theorem State.modLease_pending : (s.modLease i f).pending = s.pending := rfl
@[simp] theorem State.modLease_out : (s.modLease i f).out = s.out := rfl
@[simp] theorem State.modLease_rng : (s.modLease i f).rng = s.rng := rfl
@[simp] theorem State.modLease_time : (s.modLease i f).time = s.time := rfl
@[simp] theorem State.modLease_fused : (s.modLease i f).fused = s.fused := rfl
@[simp] theorem State.modLease_farrier : (s.modLease i f).farrier = s.farrier := rfl
@[simp] theorem State.modLease_power : (s.modLease i f).power = s.power := rfl
@[simp] theorem State.modLease_boot : (s.modLease i f).boot = s.boot := rfl
@[simp] theorem State.modLease_img : (s.modLease i f).img = s.img := rfl
@[simp] theorem State.modLease_regs : (s.modLease i f).regs = s.regs := rfl
@[simp] theorem State.modLease_host : (s.modLease i f).host = s.host := rfl
@[simp] theorem State.modLease_log : (s.modLease i f).log = s.log := rfl
@[simp] theorem State.modLease_ostlers : (s.modLease i f).ostlers = s.ostlers := rfl
@[simp] theorem State.modLease_pads : (s.modLease i f).pads = s.pads := rfl
@[simp] theorem State.modLease_sec : (s.modLease i f).sec = s.sec := rfl
@[simp] theorem State.modLease_net : (s.modLease i f).net = s.net := rfl
@[simp] theorem State.modLease_maps : (s.modLease i f).maps = s.maps := rfl
@[simp] theorem State.modLease_store : (s.modLease i f).store = s.store := rfl
@[simp] theorem State.modLease_eng : (s.modLease i f).eng = s.eng := rfl
@[simp] theorem State.modLease_sch : (s.modLease i f).sch = s.sch := rfl
@[simp] theorem State.modLease_pwr : (s.modLease i f).pwr = s.pwr := rfl
@[simp] theorem State.modLease_shr : (s.modLease i f).shr = s.shr := rfl
@[simp] theorem State.modLease_mem : (s.modLease i f).mem = s.mem := rfl
end

section
variable (s : State) (i : Nat) (f : Stack → Stack)
@[simp] theorem State.modStack_pending : (s.modStack i f).pending = s.pending := rfl
@[simp] theorem State.modStack_out : (s.modStack i f).out = s.out := rfl
@[simp] theorem State.modStack_rng : (s.modStack i f).rng = s.rng := rfl
@[simp] theorem State.modStack_time : (s.modStack i f).time = s.time := rfl
@[simp] theorem State.modStack_fused : (s.modStack i f).fused = s.fused := rfl
@[simp] theorem State.modStack_farrier : (s.modStack i f).farrier = s.farrier := rfl
@[simp] theorem State.modStack_power : (s.modStack i f).power = s.power := rfl
@[simp] theorem State.modStack_boot : (s.modStack i f).boot = s.boot := rfl
@[simp] theorem State.modStack_img : (s.modStack i f).img = s.img := rfl
@[simp] theorem State.modStack_regs : (s.modStack i f).regs = s.regs := rfl
@[simp] theorem State.modStack_host : (s.modStack i f).host = s.host := rfl
@[simp] theorem State.modStack_log : (s.modStack i f).log = s.log := rfl
@[simp] theorem State.modStack_ostlers : (s.modStack i f).ostlers = s.ostlers := rfl
@[simp] theorem State.modStack_pads : (s.modStack i f).pads = s.pads := rfl
@[simp] theorem State.modStack_sec : (s.modStack i f).sec = s.sec := rfl
@[simp] theorem State.modStack_net : (s.modStack i f).net = s.net := rfl
@[simp] theorem State.modStack_maps : (s.modStack i f).maps = s.maps := rfl
@[simp] theorem State.modStack_eng : (s.modStack i f).eng = s.eng := rfl
@[simp] theorem State.modStack_sch : (s.modStack i f).sch = s.sch := rfl
@[simp] theorem State.modStack_leases : (s.modStack i f).leases = s.leases := rfl
@[simp] theorem State.modStack_pwr : (s.modStack i f).pwr = s.pwr := rfl
@[simp] theorem State.modStack_shr : (s.modStack i f).shr = s.shr := rfl
@[simp] theorem State.modStack_mem : (s.modStack i f).mem = s.mem := rfl
end

section
variable (s : State) (f : Epochs → Epochs)
@[simp] theorem State.modEpochs_pending : (s.modEpochs f).pending = s.pending := rfl
@[simp] theorem State.modEpochs_out : (s.modEpochs f).out = s.out := rfl
@[simp] theorem State.modEpochs_rng : (s.modEpochs f).rng = s.rng := rfl
@[simp] theorem State.modEpochs_time : (s.modEpochs f).time = s.time := rfl
@[simp] theorem State.modEpochs_fused : (s.modEpochs f).fused = s.fused := rfl
@[simp] theorem State.modEpochs_farrier : (s.modEpochs f).farrier = s.farrier := rfl
@[simp] theorem State.modEpochs_power : (s.modEpochs f).power = s.power := rfl
@[simp] theorem State.modEpochs_boot : (s.modEpochs f).boot = s.boot := rfl
@[simp] theorem State.modEpochs_img : (s.modEpochs f).img = s.img := rfl
@[simp] theorem State.modEpochs_regs : (s.modEpochs f).regs = s.regs := rfl
@[simp] theorem State.modEpochs_host : (s.modEpochs f).host = s.host := rfl
@[simp] theorem State.modEpochs_log : (s.modEpochs f).log = s.log := rfl
@[simp] theorem State.modEpochs_ostlers : (s.modEpochs f).ostlers = s.ostlers := rfl
@[simp] theorem State.modEpochs_pads : (s.modEpochs f).pads = s.pads := rfl
@[simp] theorem State.modEpochs_sec : (s.modEpochs f).sec = s.sec := rfl
@[simp] theorem State.modEpochs_net : (s.modEpochs f).net = s.net := rfl
@[simp] theorem State.modEpochs_store : (s.modEpochs f).store = s.store := rfl
@[simp] theorem State.modEpochs_eng : (s.modEpochs f).eng = s.eng := rfl
@[simp] theorem State.modEpochs_sch : (s.modEpochs f).sch = s.sch := rfl
@[simp] theorem State.modEpochs_leases : (s.modEpochs f).leases = s.leases := rfl
@[simp] theorem State.modEpochs_pwr : (s.modEpochs f).pwr = s.pwr := rfl
@[simp] theorem State.modEpochs_shr : (s.modEpochs f).shr = s.shr := rfl
@[simp] theorem State.modEpochs_mem : (s.modEpochs f).mem = s.mem := rfl
end

section
variable (s : State) (q : Nat) (f : Attempt → Attempt)
@[simp] theorem State.modAttempt_pending : (s.modAttempt q f).pending = s.pending := rfl
@[simp] theorem State.modAttempt_out : (s.modAttempt q f).out = s.out := rfl
@[simp] theorem State.modAttempt_rng : (s.modAttempt q f).rng = s.rng := rfl
@[simp] theorem State.modAttempt_time : (s.modAttempt q f).time = s.time := rfl
@[simp] theorem State.modAttempt_fused : (s.modAttempt q f).fused = s.fused := rfl
@[simp] theorem State.modAttempt_farrier : (s.modAttempt q f).farrier = s.farrier := rfl
@[simp] theorem State.modAttempt_power : (s.modAttempt q f).power = s.power := rfl
@[simp] theorem State.modAttempt_boot : (s.modAttempt q f).boot = s.boot := rfl
@[simp] theorem State.modAttempt_img : (s.modAttempt q f).img = s.img := rfl
@[simp] theorem State.modAttempt_regs : (s.modAttempt q f).regs = s.regs := rfl
@[simp] theorem State.modAttempt_host : (s.modAttempt q f).host = s.host := rfl
@[simp] theorem State.modAttempt_log : (s.modAttempt q f).log = s.log := rfl
@[simp] theorem State.modAttempt_ostlers : (s.modAttempt q f).ostlers = s.ostlers := rfl
@[simp] theorem State.modAttempt_pads : (s.modAttempt q f).pads = s.pads := rfl
@[simp] theorem State.modAttempt_sec : (s.modAttempt q f).sec = s.sec := rfl
@[simp] theorem State.modAttempt_maps : (s.modAttempt q f).maps = s.maps := rfl
@[simp] theorem State.modAttempt_store : (s.modAttempt q f).store = s.store := rfl
@[simp] theorem State.modAttempt_eng : (s.modAttempt q f).eng = s.eng := rfl
@[simp] theorem State.modAttempt_sch : (s.modAttempt q f).sch = s.sch := rfl
@[simp] theorem State.modAttempt_leases : (s.modAttempt q f).leases = s.leases := rfl
@[simp] theorem State.modAttempt_pwr : (s.modAttempt q f).pwr = s.pwr := rfl
@[simp] theorem State.modAttempt_shr : (s.modAttempt q f).shr = s.shr := rfl
@[simp] theorem State.modAttempt_mem : (s.modAttempt q f).mem = s.mem := rfl
end

section
variable (s : State) (d : Sched)
@[simp] theorem State.putSched_pending : (s.putSched d).pending = s.pending := rfl
@[simp] theorem State.putSched_out : (s.putSched d).out = s.out := rfl
@[simp] theorem State.putSched_rng : (s.putSched d).rng = s.rng := rfl
@[simp] theorem State.putSched_time : (s.putSched d).time = s.time := rfl
@[simp] theorem State.putSched_fused : (s.putSched d).fused = s.fused := rfl
@[simp] theorem State.putSched_farrier : (s.putSched d).farrier = s.farrier := rfl
@[simp] theorem State.putSched_power : (s.putSched d).power = s.power := rfl
@[simp] theorem State.putSched_boot : (s.putSched d).boot = s.boot := rfl
@[simp] theorem State.putSched_img : (s.putSched d).img = s.img := rfl
@[simp] theorem State.putSched_regs : (s.putSched d).regs = s.regs := rfl
@[simp] theorem State.putSched_host : (s.putSched d).host = s.host := rfl
@[simp] theorem State.putSched_log : (s.putSched d).log = s.log := rfl
@[simp] theorem State.putSched_ostlers : (s.putSched d).ostlers = s.ostlers := rfl
@[simp] theorem State.putSched_pads : (s.putSched d).pads = s.pads := rfl
@[simp] theorem State.putSched_sec : (s.putSched d).sec = s.sec := rfl
@[simp] theorem State.putSched_net : (s.putSched d).net = s.net := rfl
@[simp] theorem State.putSched_maps : (s.putSched d).maps = s.maps := rfl
@[simp] theorem State.putSched_store : (s.putSched d).store = s.store := rfl
@[simp] theorem State.putSched_eng : (s.putSched d).eng = s.eng := rfl
@[simp] theorem State.putSched_leases : (s.putSched d).leases = s.leases := rfl
@[simp] theorem State.putSched_pwr : (s.putSched d).pwr = s.pwr := rfl
@[simp] theorem State.putSched_shr : (s.putSched d).shr = s.shr := rfl
@[simp] theorem State.putSched_mem : (s.putSched d).mem = s.mem := rfl
end

end Sys2Proof.Machine
end

