-- ==== Sys2Proof/Tests/Slice0.lean ====
section
/-! SUPPORT. Tests of one command each on small states: ill-formed commands are refused, the hypotheses of every claim hold
somewhere, and worked examples of the manual come out as it gives them. -/

set_option Elab.async false

open Sys2Proof Sys2Proof.Machine

namespace Sys2Proof.Tests

/-! ### Small states -/

/-- A connection in READY with nothing sent or received. -/
def conn (n : Nat) : Qp where
  qpn := n
  state := .ready
  service := 0
  paddock := 1
  version := 4
  enc := false
  spray := false
  mtu := 4096
  peerQpn := 9
  myTkey := 0
  peerTkey := 0
  srcNode := 7
  window := none
  initiator := false
  keys := []
  homeSlice := 0
  homePort := 0
  udpPort := 50000
  src := zeros 16
  stateUntil := 500
  pinned := false
  wrapped := []
  mgmtSession := none
  rx :=
    { expect := 10, accepted := [], msgs := [], nextMsn := 3, slots := 8, used := [], nakSent := false, refusing := none,
      sinceAck := 0, ackAt := none, lastAck := none, lastCnp := none, hole := none, finals := [], outstanding := [],
      prios := [], lastErrNak := none, drainFrom := none, txHigh := 0, txSeen := [], held := [], nextFirst := 10,
      spans := [] }
  tx :=
    { nextPsn := 20, nextMsn := 5, queue := [], ready := [], unacked := [], w := 16, credit := 0, srtt := 0, holdUntil := 0,
      retries := 0, rtoAt := none, rnrCount := 0, rnrPsn := 0, rnrUntil := none, peerSlots := 8, sentDisconnect := false,
      disconnectPsn := none, txCount := 0, asked := [], control := [] }

/-- Two mapped clusters on each die, and a spare that passed. -/
def mappedClusters : List Cluster :=
  ((List.range 2).map fun d => (List.range 3).map fun p =>
    { Cluster.fresh d p with use := if p < 2 then .mapped p else .spare true }).flatten

/-- A node in SERVING: powered, all ostlers running, PCIe up, every link up, and the Ledger's group 0 open to every search. -/
def serving : State :=
  { State.reset with
    time := 1000
    power := { PowerUp.fresh with powerGood := true, phase := 5, pwrok := true }
    boot := { State.reset.boot with stage := 12, nodeId := 5, nodeValid := true }
    ostlers := (List.range 8).map fun i => { Ostler.fresh i with running := true }
    pwr := { State.reset.pwr with f0Up := true, refOk := List.replicate 4 true }
    eng := { State.reset.eng with clusters := mappedClusters }
    maps := { State.reset.maps with groups := [⟨0, 0, 0⟩] }
    net := { State.reset.net with links := (List.range 8).map fun p => { Link.fresh (p * 4) with up := true } } }

/-- The same with connections, whose contexts are on the die. -/
def withConns (qs : List Qp) : State :=
  { serving with net := { serving.net with qps := qs, cached := qs.map fun (q : Qp) => q.qpn } }

/-- An open tenant paddock 1 with no limits. -/
def tenant : Pad := { Pad.fresh 1 with state := .open_, generation := 1, config := ⟨false, true, true, 0xFFFF, 100, 0, 0, 0, []⟩ }

/-- Paddocks 0 and 1. -/
def withPad (p : Pad) (s : State) : State := { s with pads := [Pad.fresh 0, p] }

/-- Epoch 6 is current. -/
def withEpoch (s : State) : State :=
  { s with maps := { s.maps with epochs := { s.maps.epochs with current := 6 } } }

/-- The state after a command. -/
def after (c : Instr) (s : State) : State := match exec c s with | .next t => t | _ => s

/-- An answer whose value a decidable property holds of. -/
theorem ok_of {ε α : Type} {x : Except ε α} {P : α → Prop} [DecidablePred P]
    (h : (match x with | .ok a => decide (P a) | .error _ => false) = true) : ∃ a, x = .ok a ∧ P a := by
  cases x with
  | ok a => exact ⟨a, rfl, by simpa using h⟩
  | error e => simp at h

/-- A failure whose value a decidable property holds of. -/
theorem error_of {ε α : Type} {x : Except ε α} {P : ε → Prop} [DecidablePred P]
    (h : (match x with | .ok _ => false | .error a => decide (P a)) = true) : ∃ a, x = .error a ∧ P a := by
  cases x with
  | ok a => simp at h
  | error e => exact ⟨e, rfl, by simpa using h⟩

/-- An optional value that is there and of which a decidable property holds. -/
theorem some_of {α : Type} {x : Option α} {P : α → Prop} [DecidablePred P]
    (h : (match x with | some a => decide (P a) | none => false) = true) : ∃ a, x = some a ∧ P a := by
  cases x with
  | some a => exact ⟨a, rfl, by simpa using h⟩
  | none => simp at h

/-- A pair from its second part. -/
theorem pair_of {α β : Type} {x : α × β} {b : β} (h : x.2 = b) : x = (x.1, b) := Prod.ext rfl h

/-! ### Witnesses: requests and schedulers -/

/-- A latent sequence of one layer in MXFP4 with 32 channels, nothing committed. -/
def seq9 : Seq where
  desc := 5
  generation := 1
  paddock := 1
  id := 9
  state := .live
  modelId := 3
  shape := ⟨1, 1, true, false, 32, 0, .mxfp4, .mxfp4, 4096, 0⟩
  created := zeros 32
  ttl := 0
  weightSet := 0
  sealed := false
  mirrorCopy := false
  granShift := 0
  ref := 0
  deadline := 0
  slice := 0
  addresses := []
  seals := ⟨0, 0, [], 0, []⟩
  l1 := []
  forked := none
  lens := [0]
  hashes := []
  pages := []
  entries := []

/-- The map entry of `seq9`, in slot 0. -/
def entry9 : LedgerEntry := ⟨0, mapKey 1 9 0 0, exactMask, localResult false 0 false 5 0 0, [0], true, 1⟩

/-- An operation header of epoch 6, paddock 1, sequence 9, tag 77. -/
def opHead (opcode len : Nat) : Bytes :=
  toBe 1 opcode ++ zeros 1 ++ toBe 2 1 ++ toBe 4 6 ++ toBe 8 77 ++ toBe 8 9 ++ toBe 4 len ++ zeros 4

/-- A PREFIX_LOOKUP of one hash of model 3. -/
def lookup : Msg := ⟨2, 3, 10, 7, opHead 7 24 ++ toBe 8 3 ++ toBe 1 1 ++ zeros 7 ++ toBe 8 1234⟩

/-- A STEP of one query token and one query head with scale 1. -/
def stepMsg : Msg :=
  ⟨2, 3, 10, 1, opHead 1 96 ++ toBe 2 0 ++ toBe 2 1 ++ toBe 4 0 ++ toBe 2 1 ++ toBe 2 0 ++ toBe 4 0 ++ toBe 4 0x3F800000
    ++ zeros 12 ++ zeros 64⟩

/-- A node that serves sequence 9 to connection 2. -/
def serves : State :=
  let s := withEpoch (withPad tenant (withConns [conn 2]))
  { s with maps := { s.maps with ledger := [entry9] }, store := { s.store with seqs := [seq9] } }

/-- A node at which an admitted mutation of sequence 9 runs and a second one waits out FRONT_DELAY. -/
def fronted : State :=
  let r := fun (op : Nat) => Req.parse { stepMsg with opcode := op }
  let op := fun (id code : Nat) (ph : OpPhase) =>
    (⟨id, r code, ph, 0, 0, 1, none, 0, 0, .none, .notNeeded, 0, 0, 0, 0, none, false⟩ : Op)
  { serves with eng := { serves.eng with ops := [op 1 5 .admitted, op 2 6 (.front 1500)], nextOp := 3 } }

theorem witness_StepRunsTheFrontCommand : ∃ (c : Instr) (rest : List Instr) (s : State), s.pending = c :: rest :=
  ⟨.ppsPulse, [], { State.reset with pending := [.ppsPulse] }, by decide +kernel⟩

theorem witness_EmptyQueueCountsTheTimebase : ∃ s : State, s.pending = [] := ⟨State.reset, by decide +kernel⟩

theorem witness_RequestWaitsInItsAdmissionQueue : ∃ (c : Instr) (m : Msg) (k : Nat) (s s1 : State) (q : Qp) (d : Sched),
    s1 = s.fetchDescriptor (some q) (Req.parse { m with opcode := k }) ∧
    (c.request = some (m, k) ∧ s.qp m.qpn = some q ∧ q.state = .ready ∧ q.admits k = true ∧ 32 ≤ m.body.length ∧
      s.frontDelay (Req.parse { m with opcode := k }) = 0 ∧ s.orderBusy (Req.parse { m with opcode := k }) = false ∧
      (∀ o ∈ s1.eng.ops, o.id < s1.eng.nextOp) ∧ s1.sched 0 = some d) ∧
    ∃ p : Plan, s1.check q (Req.parse { m with opcode := k }) = .ok p ∧ p.slice = 0 ∧
      s1.stepWaits (Req.parse { m with opcode := k }) p.slice p.step = false :=
  ⟨.step stepMsg, stepMsg, 1, serves, _, conn 2, Sched.fresh (defaultImage true).sched 0 0, rfl, by decide +kernel,
    ok_of (by decide +kernel)⟩

theorem witness_RefusedRequestChangesNoState : ∃ (c : Instr) (m : Msg) (k : Nat) (s s1 : State) (q : Qp),
    s1 = s.fetchDescriptor (some q) (Req.parse { m with opcode := k }) ∧
    (c.request = some (m, k) ∧ s.qp m.qpn = some q ∧ q.state = .ready ∧ q.admits k = true ∧ 32 ≤ m.body.length ∧
      s.frontDelay (Req.parse { m with opcode := k }) = 0 ∧ s.orderBusy (Req.parse { m with opcode := k }) = false) ∧
    ∃ e : CheckFail, s1.check q (Req.parse { m with opcode := k }) = .error e ∧ e.lost = [] ∧ e.restore = [] ∧
      e.ahead = false ∧ e.full = false ∧ e.tag = none :=
  let m : Msg := { stepMsg with body := opHead 6 1 ++ zeros 1 }
  ⟨.seqRelease m, m, 6, serves, _, conn 2, rfl, by decide +kernel, error_of (by decide +kernel)⟩

theorem witness_DescriptorFetchTouchesTheCachesOnly :
    (∃ r : Req, r.opcode = 3 ∨ r.opcode = 7) ∧
    ∃ (s : State) (q : Seq), ∀ c ∈ s.img.slices, ∀ die ∈ c.clusters.map (·.1),
      (⟨die, q.desc, q.paddock⟩ : DescLine) ∈ s.eng.descCache :=
  ⟨⟨Req.parse { lookup with opcode := 7 }, by decide +kernel⟩,
    { serves with eng := { serves.eng with descCache := [⟨0, 5, 1⟩, ⟨1, 5, 1⟩] } }, seq9, by decide +kernel⟩

theorem witness_UnusableRequestPutsConnectionIntoError :
    (∃ (c : Instr) (m : Msg) (k : Nat) (s : State) (q : Qp),
      c.request = some (m, k) ∧ s.qp m.qpn = some q ∧ q.state = .ready ∧ m.body.length = 31) ∧
    (∃ (c : Instr) (m : Msg) (k : Nat) (s : State) (q : Qp),
      c.request = some (m, k) ∧ s.qp m.qpn = some q ∧ q.state = .ready ∧ q.admits k = false ∧ 32 ≤ m.body.length) :=
  let m : Msg := { stepMsg with body := zeros 31 }
  let q : Qp := { conn 2 with service := 2 }
  ⟨⟨.step m, m, 1, serves, conn 2, by decide +kernel⟩,
    ⟨.prefixLookup lookup, lookup, 7, withConns [q], q, by decide +kernel⟩⟩

theorem witness_FrontDelayEndsInOrder : ∃ (slice : Nat) (s : State) (o : Op) (at_ : Nat),
    o ∈ s.eng.ops ∧ o.slice = slice ∧ o.phase = .front at_ ∧ (∀ x ∈ s.eng.ops, x.id < s.eng.nextOp) ∧
    (∀ x ∈ s.eng.ops, x ≠ o → x.slice = slice → x.phase = .admitted) ∧
    (∃ x ∈ s.eng.ops, x.id ≠ o.id ∧ x.req.mutates = true ∧ x.req.orderKey = o.req.orderKey ∧ x.phase = .admitted) ∧
    o.req.mutates = true :=
  ⟨0, fronted, fronted.eng.ops.getD 1 (fronted.eng.ops.head (by decide +kernel)), 1500, by decide +kernel⟩

/-- The state in which the STEP waits for its admission. -/
def stepQueued : State := after (.step stepMsg) serves

theorem witness_AdmissionHoldsAndCharges : ∃ (slice : Nat) (s s1 : State) (d d' : Sched) (q : Queue) (i cost : Nat),
    (slice < 16 ∧ (∀ o ∈ s.eng.ops, o.phase ≠ .held) ∧ s.sched slice = some d ∧
      s.serve (s.regate (s.recost d)) = (d', .item q (.op i) cost)) ∧
    s1 = (s.putSched d').chargeBridle d' q (cost * 1024) ∧
    (∃ o : Op, s1.op i = some o ∧ o.slice = slice ∧ o.req.opcode = 1 ∧
      (let s2 := s1.fetchDescriptor (s1.qp o.req.qpn) o.req
       (s2.sched slice).isSome &&
        match s2.recheck o.req with
        | .ok p => decide (p.effect = .none ∧ s2.stepWaits o.req slice p.step = false ∧ p.desc = some 5)
        | .error _ => false) = true) :=
  let d := (stepQueued.sched 0).getD (Sched.fresh (defaultImage true).sched 0 0)
  let r := stepQueued.serve (stepQueued.regate (stepQueued.recost d))
  let q := match r.2 with | .item q _ _ => q | _ => ⟨0, 0, [], 0, 0, false, none, 0, 0, false, false⟩
  let cost := match r.2 with | .item _ _ c => c | _ => 0
  ⟨0, stepQueued, (stepQueued.putSched r.1).chargeBridle r.1 q (cost * 1024), d, r.1, q, 1, cost, by decide +kernel, rfl,
    some_of (by decide +kernel)⟩

/-- The state in which a SEQ_QUERY waits for its admission. -/
def queryQueued : State := after (.seqQuery { stepMsg with body := opHead 8 4 ++ zeros 4 }) serves

theorem witness_ReadsAreAnsweredAtAdmission : ∃ (slice : Nat) (s s1 : State) (d d' : Sched) (q : Queue) (i cost : Nat),
    (slice < 16 ∧ s.sched slice = some d ∧ s.serve (s.regate (s.recost d)) = (d', .item q (.op i) cost)) ∧
    s1 = (s.putSched d').chargeBridle d' q (cost * 1024) ∧
    (∃ o : Op, s1.op i = some o ∧ s.eng.ops = [o] ∧ o.phase = .queued ∧ o.slice = slice ∧ o.discarded = false ∧
      o.req.opcode = 8 ∧
      (let s2 := s1.fetchDescriptor (s1.qp o.req.qpn) o.req
       s2.eng.ops = [o] ∧ (s2.sched slice).isSome = true ∧
        (match s2.recheck o.req with
        | .ok p => decide (p.effect = .none ∧ p.step = none)
        | .error _ => false) = true)) :=
  let d := (queryQueued.sched 0).getD (Sched.fresh (defaultImage true).sched 0 0)
  let r := queryQueued.serve (queryQueued.regate (queryQueued.recost d))
  let q := match r.2 with | .item q _ _ => q | _ => ⟨0, 0, [], 0, 0, false, none, 0, 0, false, false⟩
  let cost := match r.2 with | .item _ _ c => c | _ => 0
  ⟨0, queryQueued, (queryQueued.putSched r.1).chargeBridle r.1 q (cost * 1024), d, r.1, q, 1, cost, by decide +kernel, rfl,
    some_of (by decide +kernel)⟩

/-- Sequence 9 with one committed token, and its directory page. -/
def seq1 : Seq := { seq9 with lens := [1], pages := [⟨0, 4096, [], 0, zeros 16, false⟩] }

/-- The node with that sequence, the page in the shared KTB of die 0, and the STEP admitted. -/
def stepping : State :=
  let s := { serves with
    store := { serves.store with seqs := [seq1] }
    eng := { serves.eng with sharedKtb := [(0, ⟨1, 5, 1, 0⟩)] } }
  after (.admissionServe 0) (after (.step stepMsg) s)

/-- The admitted operation, and its work. -/
def stepOp : Op := (stepping.op 1).getD ⟨0, Req.parse stepMsg, .held, 0, 0, 0, none, 0, 0, .none, .notNeeded, 0, 0, 0, 0, none, false⟩
def stepWork : StepWork := stepOp.step.getD (serves.formStep serves seq9 0 (StepParams.parse []) ⟨[], [], [], []⟩ none false)
def stepUnit : WorkUnit := stepWork.units.headD ⟨0, 0, 0, 0, 0, 0, 0, [], [], [], false, []⟩

/-- The same node after the block's read is issued, has arrived, and the root is delivered. -/
def stepIssued : State := after (.outriderReadIssue 0 0) stepping
def stepArrived : State := after (.blockReadDone 1 0 0 .good) stepIssued
def stepRooted : State := after (.subtreeRootDone 1 0 false) stepArrived

/-- The same node with the page in the Outrider's own KTB, and in no KTB. -/
def stepWalked : State := stepping.modCluster 0 0 fun k => { k with ktb := [⟨1, 5, 1, 0⟩] }
def stepAsleep : State := stepWalked.modCluster 0 0 fun k => { k with k := .k1 }
def stepPageLost : State :=
  { stepWalked with store := { stepWalked.store with
      seqs := [{ seq1 with ref := 1, pages := [⟨0, 4096, [], 0, zeros 16, true⟩] }] } }
def stepUnwalked : State := { stepping with eng := { stepping.eng with sharedKtb := [] } }

/-- The walked node with the block in a tail slot, whose pseudo-channel an earlier read waits for. -/
def tailPlace : Place := ⟨.tier1, 300000, 0, 2, 0⟩
def stepHeld : State :=
  let e : Entry := ⟨0, 0, 0, .tail ⟨tailPlace, 1, 0, 0, [], [], false⟩, 0, false, false⟩
  { stepWalked with store := { stepWalked.store with
      seqs := [{ seq1 with ref := 1, entries := [e] }], held := [⟨.read 9 0 0 0, stepWalked.channelsOf tailPlace, false⟩] } }

theorem witness_OutriderIssuesReadsInBlockOrder :
    (∀ s ∈ [stepWalked, stepHeld, stepAsleep, stepPageLost, stepUnwalked], ∃ (die cluster : Nat) (k : Cluster) (o : Op) (w : StepWork) (u : WorkUnit) (b : Nat)
        (rest : List Nat) (e : KtbEntry),
      s.clusterOf die cluster = some k ∧ s.ledUnits (die, cluster) = [(o, w, u)] ∧ s.op o.id = some o ∧ o.step = some w ∧
      w.units.find? (·.index == u.index) = some u ∧ u.toIssue = b :: rest ∧ u.outstanding.length < 512 ∧
      s.pageKey o u.head b = some e ∧
      (∀ c ∈ u.clusters, s.blockArea c + ceilDiv (w.readBytes u.head b) 512 ≤ 5120) ∧
      (k.ktb.contains e = true ∨ (k.ktb.contains e = false ∧ s.eng.sharedKtb.contains (k.die, e) = false))) ∧
    (∀ s ∈ [stepWalked, stepHeld, stepPageLost], ∃ k, s.clusterOf 0 0 = some k ∧ k.ktb = [⟨1, 5, 1, 0⟩] ∧ k.k = .k0) ∧
    (∃ k, stepAsleep.clusterOf 0 0 = some k ∧ k.k ≠ .k0) ∧
    (∀ s ∈ [stepWalked, stepHeld], s.pageStatus ⟨1, 5, 1, 0⟩ = none) ∧
    (stepOp.phase = .admitted ∧ stepOp.status = St.ok ∧ ∃ status, stepPageLost.pageStatus ⟨1, 5, 1, 0⟩ = some status) ∧
    (stepWalked.mustHold (stepWalked.readChannels stepOp stepWork 0 0) = false ∧
      stepHeld.mustHold (stepHeld.readChannels stepOp stepWork 0 0) = true) ∧
    (∃ k, stepUnwalked.clusterOf 0 0 = some k ∧ k.ktb = []) := by
  refine ⟨fun s h => ⟨0, 0, (s.clusterOf 0 0).getD (Cluster.fresh 0 0), stepOp, stepWork, stepUnit, 0, [], ⟨1, 5, 1, 0⟩, ?_⟩,
    fun s h => some_of ?_, some_of (by decide +kernel), by decide +kernel,
    ⟨by decide +kernel, by decide +kernel, St.lostBlocks, by decide +kernel⟩, by decide +kernel, some_of (by decide +kernel)⟩ <;>
  (revert s; decide +kernel)

theorem witness_WalkFillsTheSharedKtb :
    (∃ (paddock seq page : Nat) (s : State) (q : Seq) (y : DirPage), s.findSeq paddock seq = some q ∧
      q.pages.find? (·.index == page) = some y ∧ s.mustHold (s.walkChannels q y) = true) ∧
    (∃ (paddock seq page : Nat) (s : State) (q : Seq) (y : DirPage), s.findSeq paddock seq = some q ∧
      q.pages.find? (·.index == page) = some y ∧ s.mustHold (s.walkChannels q y) = false ∧ y.lost = false ∧
      s.l1Ok q (page / 127) = true ∧ s.walkOk q y = true) ∧
    (∃ (paddock seq page : Nat) (s : State) (q : Seq) (y : DirPage) (o : Op), s.findSeq paddock seq = some q ∧
      q.pages.find? (·.index == page) = some y ∧ s.mustHold (s.walkChannels q y) = false ∧ y.lost = true ∧ s.op o.id = some o ∧ o.phase = .admitted ∧
      o.status = St.ok ∧ s.needsPage q.desc page o = true) :=
  let q : Seq := { seq1 with pages := [⟨0, 4096, [], 0, zeros 16, true⟩] }
  let h : State := { stepping with store := { stepping.store with held := [⟨.read 9 0 0 0, [(0, 0)], false⟩] } }
  ⟨⟨1, 9, 0, h, { seq1 with ref := 1 }, ⟨0, 4096, [], 0, zeros 16, false⟩, by decide +kernel⟩,
    ⟨1, 9, 0, stepping, { seq1 with ref := 1 }, ⟨0, 4096, [], 0, zeros 16, false⟩, by decide +kernel⟩,
    ⟨1, 9, 0, { stepping with store := { stepping.store with seqs := [q] } }, q, ⟨0, 4096, [], 0, zeros 16, true⟩, stepOp, by decide +kernel⟩⟩

theorem witness_BlockReadFormsLeavesOrBreaksTheStep : ∃ (op head block : Nat) (s : State) (o : Op) (w : StepWork) (u : WorkUnit),
    s.op op = some o ∧ o.step = some w ∧
    w.units.find? (fun u => u.resident && u.head == head && u.outstanding.contains block) = some u ∧
    w.units.find? (·.index == u.index) = some u ∧ w.scoring = [] ∧ s.readLost o head block = false ∧
    s.heldBack (.read op u.run head block) = false ∧ s.readOk o head block = true ∧ 0 < w.attn.rowCount ∧ o.status = St.ok :=
  let w : StepWork := { stepWork with units := [{ stepUnit with toIssue := [], outstanding := [0] }] }
  ⟨1, 0, 0, stepIssued, { stepOp with step := some w }, w, { stepUnit with toIssue := [], outstanding := [0] }, by decide +kernel⟩

theorem witness_SubtreeRootIsTheReferenceRoot : ∃ (op unit : Nat) (s : State) (o : Op) (w : StepWork) (u : WorkUnit),
    s.op op = some o ∧ o.step = some w ∧ w.units.find? (·.index == unit) = some u ∧ u.resident = true ∧
    u.toIssue = [] ∧ u.outstanding = [] ∧ w.scoring = [] ∧ u.run = 0 ∧ s.gangAsleep u = false ∧ (∀ x ∈ w.units, x.run = 0) ∧
    w.leaves.length = 1 :=
  let o := (stepArrived.op 1).getD stepOp
  let w := o.step.getD stepWork
  ⟨1, 0, stepArrived, o, w, w.units.headD stepUnit, by decide +kernel⟩

theorem witness_StepEndReleasesTheStep :
    (∃ (op : Nat) (s : State) (o : Op) (w : StepWork), s.op op = some o ∧ o.step = some w ∧ o.phase = .admitted ∧
      o.req.opcode = 1 ∧ w.complete = false) ∧
    (∃ (op : Nat) (s : State) (o : Op) (w : StepWork), s.op op = some o ∧ o.step = some w ∧ o.phase = .admitted ∧
      o.req.opcode = 1 ∧ w.complete = true ∧ o.commit ≠ .pending ∧ o.req.mutates = false ∧ o.status = St.ok ∧
      w.shadow = false ∧ (∀ x ∈ s.eng.ops, x.phase ≠ .weights) ∧ w.wProj = none ∧ o.effect = .none ∧
      (s.pad o.req.paddock).counters.length = 10) :=
  let o := (stepRooted.op 1).getD stepOp
  ⟨⟨1, stepping, stepOp, stepWork, by decide +kernel⟩, ⟨1, stepRooted, o, o.step.getD stepWork, by decide +kernel⟩⟩

theorem witness_ClusterFaultRetiresAndEndsSteps : ∃ (die cluster : Nat) (s : State) (k : Cluster) (o : Op) (w : StepWork) (u : WorkUnit),
    s.clusterOf die cluster = some k ∧ (s.eng.clusters.map fun x => (x.die, x.phys)).Nodup ∧ s.op o.id = some o ∧
    o.phase = .admitted ∧ o.status = St.ok ∧ o.step = some w ∧ u ∈ w.units ∧ u.resident = true ∧ (die, cluster) ∈ u.clusters :=
  ⟨0, 0, stepping, (stepping.clusterOf 0 0).getD (Cluster.fresh 0 0), stepOp, stepWork, stepUnit, by decide +kernel⟩

theorem witness_WeightLoadFreesTheHeldStep :
    (∃ (die slot : Nat) (s : State) (x : WeightSlot), x ∈ s.store.weightSlots ∧ x.die = die ∧ x.slot = slot ∧
      x.loading = true ∧ ∀ o ∈ s.eng.ops, o.phase ≠ .weights) ∧
    (∃ (die slot : Nat) (s : State) (x : WeightSlot) (o : Op) (w : StepWork) (c : Nat × Nat) (k : SliceCfg),
      x ∈ s.store.weightSlots ∧ x.die = die ∧ x.slot = slot ∧ x.loading = true ∧ s.eng.ops = [o] ∧ o.phase = .weights ∧
      o.step = some w ∧ w.wProj = some c ∧ s.sliceCfg o.slice = some k ∧
      (∀ n ∈ k.dies, n = die ∨ s.slotLoaded n o.req.paddock c.1 o.req.layer = true) ∧
      x.content = some (o.req.paddock, c.1, o.req.layer)) :=
  let x : WeightSlot := ⟨0, 2, some (1, 4, 0), true, 0⟩
  let w : StepWork := { stepWork with wProj := some (4, 192) }
  let o : Op := { stepOp with phase := .weights, step := some w }
  let s : State := { serving with store := { serving.store with weightSlots := [x] } }
  ⟨⟨0, 2, s, x, by decide +kernel⟩,
    ⟨0, 2, { s with eng := { s.eng with ops := [o] } }, x, o, w, (4, 192), defaultSlice true 0, by decide +kernel⟩⟩

/-! ### Witnesses: schedulers -/

/-- A queue of class 4 of paddock 1 with one frame of 100 bytes, which costs one unit. -/
def frame1 : OutFrame := ⟨2, 20, zeros 100, 100, true, true, .packet⟩
def queue1 : Queue := ⟨4, 1, [(.frame frame1, 1)], 0, 32, false, none, 900, 0, true, false⟩

/-- The egress scheduler of link 0 with that queue active, and a node with it. -/
def egress1 : Sched :=
  let d := Sched.fresh (defaultImage true).sched 0 16
  { d with queues := [queue1], rings := d.rings.map fun r => if r.cls == 4 then r.join 1 else r }
def sending : State := withPad tenant { serving with sch := { serving.sch with scheds := [egress1] } }

theorem egress1_only : egress1.onlyQueue queue1 := by
  refine ⟨by decide +kernel, by decide +kernel, by decide +kernel, by decide +kernel, by decide +kernel, fun c hc => ?_⟩
  have small : ∀ c < 8, c ≠ 4 → (egress1.ring c).order = [] := by decide +kernel
  rcases Nat.lt_or_ge c 8 with h | h
  · exact small c h hc
  · have none : egress1.rings.find? (·.cls == c) = none := by
      have cls : ∀ r ∈ egress1.rings, r.cls < 8 := by decide +kernel
      refine List.find?_eq_none.2 fun r hr => ?_
      have := cls r hr
      simp only [beq_iff_eq]
      omega
    simp [Sched.ring, none, Ring.fresh]

theorem witness_EgressSendsTheHeadFrame : ∀ up ∈ [(false, false), (true, true), (true, false)],
    ∃ (link : Nat) (s : State) (l : Link) (d : Sched) (x : Queue) (f : OutFrame) (cost : Nat),
    (s.net.links.find? (·.id == link) = some l ∧ s.sched (16 + link) = some d ∧ x.items = [(.frame f, cost)] ∧ x.cls < 8 ∧
      (cost : Int) ≤ x.deficit + (x.quantum : Int) ∧ s.bridle d x.cls x.paddock = none ∧ s.classPaused d x.cls = false ∧
      l.up = up.1 ∧ s.linkIdle link = up.2 ∧ f.first = true) ∧
    d.onlyQueue x ∧ s.gateFits d x (.frame f) = true := by
  intro up h
  refine ⟨0, { sending with
    img := { sending.img with transport := { sending.img.transport with ptpPort := 1 } }
    pwr := { sending.pwr with state := if up.2 then .n2 else .n0 } }.modLink 0 fun l => { l with up := up.1 },
    { Link.fresh 0 with up := up.1 }, egress1, queue1, frame1, 1, ?_, egress1_only, ?_⟩
  · revert up; decide +kernel
  · revert up; decide +kernel

theorem witness_WheelAndPromotion :
    (∃ (id : Nat) (s : State) (d : Sched) (q : Queue) (i : Item) (cost at_ : Nat) (rest : List (Item × Nat)) (b : Bridle),
      s.sched id = some d ∧ (d.queues.map fun x => (x.cls, x.paddock)).Nodup ∧ q ∈ d.queues ∧ q.wheelAt = some at_ ∧
      (∀ x ∈ d.queues, x.wheelAt = none ∨ x = q) ∧ q.items = (i, cost) :: rest ∧
      d.rings.any (·.cls == q.cls) = true ∧ ((s.advanceTo at_).gateLeft d q.cls q.paddock).isSome = true ∧ s.bridle d q.cls q.paddock = some b ∧
      (b.at_ (max s.time at_)).wait (itemBytes cost i) = 0) ∧
    (∀ level ∈ [(0 : Int), -1000000000000], ∃ (id cls paddock : Nat) (s s1 : State) (d : Sched) (q : Queue),
      s.sched id = some d ∧ d.queue cls paddock = some q ∧ paddock ∈ (d.ring cls).order ∧ d.canStarve cls = true ∧
      q.promoted = false ∧ q.counting = true ∧ s1 = s.advanceTo (q.since + (d.starve - q.counted)) ∧
      s1.nextStarved d (s.shareKey d paddock) = some q ∧
      (∀ x ∈ d.queues, x.promoted = true → s.shareKey d x.paddock ≠ s.shareKey d paddock) ∧
      (((q.quantum * d.unitBytes : Nat) : Int) ≤ s1.bucketAt d (s.shareKey d paddock) ↔ level = 0)) := by
  let q : Queue := { queue1 with wheelAt := some 1024, deficit := 7 }
  let d : Sched := { egress1 with queues := [q, { queue1 with paddock := 2 }] }
  let b : Bridle := ⟨1000, 1, 99999, 999⟩
  refine ⟨⟨16, { sending with sch := ⟨[d], [], [(16, 4, 1, b)]⟩ }, d, q, .frame frame1, 1, 1024, [], b, by decide +kernel⟩,
    fun level h => ?_⟩
  let e : Sched := { egress1 with buckets := [⟨0, level, 0⟩] }
  let s : State := { sending with sch := ⟨[e], [], []⟩ }
  refine ⟨16, 4, 1, s, s.advanceTo (queue1.since + (e.starve - queue1.counted)), e, queue1, ?_⟩
  revert level; decide +kernel

theorem witness_GatesAndCatchUp :
    (∃ (id : Nat) (s : State) (d : Sched), s.sched id = some d ∧ d.entry + 1 < d.gcl.length) ∧
    (∀ up ∈ [true, false], ∃ (id late l : Nat) (s : State) (d : Sched), s.awake = up ∧ s.sched id = some d ∧ d.newGcl = none ∧
      (s.awake = true → l = late) ∧ (s.awake = false → l = 0) ∧
      d.phaseErr - (d.cycle - d.length) + l ≤ d.catchupMax ∧ (up = true → l = d.catchupMax)) := by
  let d : Sched := { egress1 with gcl := [⟨60000, 255, 15⟩, ⟨40000, 16, 0⟩] }
  refine ⟨⟨16, { sending with sch := ⟨[d], [], []⟩ }, d, by decide +kernel⟩, fun up h => ⟨16, 1000000, if up then 1000000 else 0,
    if up then sending else { sending with pwr := { sending.pwr with state := .n2 } }, egress1, ?_⟩⟩
  revert up; decide +kernel

/-! ### Witnesses: remote lines -/

/-- A plain window of 4,096 bytes for node 7, and a connection bound to it. -/
def window3 : Window where
  index := 3
  srcNode := 7
  srcPaddock := 1
  localPaddock := 1
  read := true
  write := true
  notice := true
  state := .active
  gen := 1
  base := 4194304
  length := 4096
  key := zeros 32
  use := .plain
  control := []
  appliedSeq := 0
  refusedSeq := 0
  refusedPaddock := 0
  refuseReason := 0
  refusedSequence := 0
  parts := []
  takeover := none
def rlaConn : Qp := { conn 2 with service := 2, window := some (3, 1) }

/-- A node with that connection and a window in place of `window3`. -/
def rla (w : Window) (q : Qp) : State :=
  let s := withPad tenant (withConns [q])
  { s with maps := { s.maps with windows := [w], regions := [⟨0, 4194304, 21, true, 7, 1, 4⟩] } }

/-- An RLA message of `lines` lines at an address with its data. -/
def rlaMsg (opcode addr lines : Nat) (data : Bytes) : Msg :=
  ⟨2, 3, 10, opcode, toBe 8 addr ++ toBe 2 lines ++ zeros 2 ++ toBe 4 5 ++ data⟩

theorem witness_LreadAnswersTheLines :
    (∃ (s : State) (m : Msg) (q : Qp) (w : Window), RlaRequest s m 0x40 q w ∧ ∃ h, h = RlaHead.parse m.body ∧
      h.addr % 128 = 0 ∧ 1 ≤ h.lines ∧ h.lines = 4096 ∧ m.body.length = 16 ∧ w.use = .plain ∧
      w.length < h.addr + h.lines * 128) ∧
    (∃ (s : State) (m : Msg) (q : Qp) (w : Window), RlaRequest s m 0x40 q w ∧ ∃ h, h = RlaHead.parse m.body ∧
      h.addr % 128 = 0 ∧ 1 ≤ h.lines ∧ h.lines ≤ 4096 ∧ m.body.length = 16 ∧ w.use = .plain ∧
      h.addr + h.lines * 128 = w.length ∧ w.read = false) ∧
    (∃ (s : State) (m : Msg) (q : Qp) (w : Window), RlaRequest s m 0x40 q w ∧ ∃ h, h = RlaHead.parse m.body ∧
      h.addr % 128 = 0 ∧ 1 ≤ h.lines ∧ h.lines ≤ 4096 ∧ m.body.length = 16 ∧ w.use = .plain ∧
      h.addr + h.lines * 128 = w.length - 128 ∧ h.addr + h.lines * 128 < w.length ∧ w.read = true ∧
      (∀ i < h.lines * 2, (w.base + h.addr) / 64 + i ∉ s.store.poisonLines)) ∧
    (∃ (s : State) (m : Msg) (q : Qp) (w : Window), RlaRequest s m 0x40 q w ∧ ∃ h, h = RlaHead.parse m.body ∧
      h.addr % 128 = 0 ∧ 1 ≤ h.lines ∧ h.lines ≤ 4096 ∧ m.body.length = 16 ∧ w.use = .plain ∧
      h.addr + h.lines * 128 ≤ w.length ∧ w.read = true ∧
      (∃ i < h.lines * 2, (w.base + h.addr) / 64 + i ∈ s.store.poisonLines)) :=
  let s := rla window3 rlaConn
  let p := { s with store := { s.store with poisonLines := [65536 + 61] } }
  ⟨⟨s, rlaMsg 0x40 0 4096 [], rlaConn, window3, ⟨by decide +kernel, rfl, rfl, by decide +kernel⟩, _, rfl, by decide +kernel⟩,
    ⟨rla { window3 with read := false } rlaConn, rlaMsg 0x40 3840 2 [], rlaConn, { window3 with read := false },
      ⟨by decide +kernel, rfl, rfl, by decide +kernel⟩, _, rfl, by decide +kernel⟩,
    ⟨s, rlaMsg 0x40 3712 2 [], rlaConn, window3, ⟨by decide +kernel, rfl, rfl, by decide +kernel⟩, _, rfl, by decide +kernel⟩,
    ⟨p, rlaMsg 0x40 3840 2 [], rlaConn, window3, ⟨by decide +kernel, rfl, rfl, by decide +kernel⟩, _, rfl, by decide +kernel⟩⟩

theorem witness_LwriteStoresItsLinesOnly :
    (∃ (s : State) (m : Msg) (q : Qp) (w : Window), Memory.wf s.mem = true ∧ RlaRequest s m 0x41 q w ∧
      ∃ h, h = RlaHead.parse m.body ∧ h.addr % 128 = 0 ∧ 1 ≤ h.lines ∧ h.lines ≤ 4096 ∧ m.body.length = 16 + h.lines * 128 ∧
      w.use = .plain ∧ h.addr + h.lines * 128 < w.length ∧ w.write = true ∧
      (∀ i < h.lines, s.regionDenies w (h.addr / 128 + i) = false)) ∧
    (∀ w ∈ [{ window3 with length := 128 }, { window3 with write := false }, { window3 with srcNode := 8 }],
      ∃ (s : State) (m : Msg) (q : Qp), Memory.wf s.mem = true ∧ RlaRequest s m 0x41 q w ∧
      ∃ h, h = RlaHead.parse m.body ∧ h.addr % 128 = 0 ∧ 1 ≤ h.lines ∧ h.lines ≤ 4096 ∧ m.body.length = 16 + h.lines * 128 ∧
      w.use = .plain ∧ (w.length < h.addr + h.lines * 128 ∨ w.write = false ∨
        (∃ i < h.lines, s.regionDenies w (h.addr / 128 + i) = true))) := by
  refine ⟨⟨rla window3 rlaConn, rlaMsg 0x41 3840 1 (zeros 128), rlaConn, window3, by decide +kernel,
    ⟨by decide +kernel, rfl, rfl, by decide +kernel⟩, _, rfl, by decide +kernel⟩, fun w h => ?_⟩
  refine ⟨rla w rlaConn, rlaMsg 0x41 128 1 (zeros 128), rlaConn, rfl, ⟨rfl, rfl, rfl, ?_⟩, _, rfl, ?_⟩
  · revert w; decide +kernel
  · revert w; decide +kernel

theorem witness_FinalWriteWaits : ∃ (s : State) (m : Msg) (q : Qp) (w : Window), RlaRequest s m 0x42 q w ∧
    ∃ h, h = RlaHead.parse m.body ∧ h.addr % 128 = 0 ∧ h.lines = 1 ∧ m.body.length = 16 + 128 ∧ w.use = .plain ∧
    h.addr + 128 < w.length ∧ w.write = true ∧ s.regionDenies w (h.addr / 128) = false :=
  ⟨rla window3 rlaConn, rlaMsg 0x42 3840 1 (zeros 128), rlaConn, window3, ⟨by decide +kernel, rfl, rfl, by decide +kernel⟩, _,
    rfl, by decide +kernel⟩

/-- A connection whose oldest waiting FINAL is PSN 10 with a body. -/
def finalConn (body : Bytes) (settled : Bool) : Qp :=
  { rlaConn with rx := { rlaConn.rx with finals := [⟨10, 3, body, settled⟩] } }

theorem witness_FinalTakesEffectAfterEarlierWrites :
    (∃ (s : State) (qpn psn : Nat) (q : Qp) (w : Window) (f : FinalWrite) (rest : List FinalWrite),
      Memory.wf s.mem = true ∧ s.qp qpn = some q ∧ q.state = .ready ∧ s.boundWindow q = some w ∧ q.rx.finals = f :: rest ∧
      f.psn = psn ∧ f.settled = true ∧ f.body.length = 144 ∧ (RlaHead.parse f.body).addr + 128 ≠ w.length ∧
      psn ≠ q.rx.expect ∧ precedes psn q.rx.expect = false) ∧
    (∃ (s : State) (qpn psn : Nat) (q : Qp) (w : Window) (f : FinalWrite) (rest : List FinalWrite),
      Memory.wf s.mem = true ∧ s.qp qpn = some q ∧ q.state = .ready ∧ s.boundWindow q = some w ∧ q.rx.finals = f :: rest ∧
      f.psn = psn ∧ f.settled = true ∧ f.body.length = 144 ∧ (RlaHead.parse f.body).addr + 128 ≠ w.length ∧
      (∃ m ∈ s.net.inbox, m.qpn = qpn ∧ m.opcode = 0x41 ∧ precedes m.msn f.msn = true)) ∧
    (∃ (s : State) (qpn psn : Nat) (q : Qp) (w : Window) (f : FinalWrite) (rest : List FinalWrite),
      Memory.wf s.mem = true ∧ s.qp qpn = some q ∧ q.state = .ready ∧ s.boundWindow q = some w ∧ q.rx.finals = f :: rest ∧
      f.psn = psn ∧ f.settled = true ∧ f.body.length = 144 ∧ (RlaHead.parse f.body).addr + 128 ≠ w.length ∧
      psn = q.rx.expect ∧
      (∀ m ∈ s.net.inbox, m.qpn = qpn → m.opcode = 0x41 ∨ m.opcode = 0x42 → precedes m.msn f.msn = false)) :=
  let b := (rlaMsg 0x42 3840 1 (zeros 128)).body
  let q := finalConn b true
  let s := rla window3 q
  let early : Qp := { q with rx := { q.rx with expect := 9 } }
  ⟨⟨rla window3 early, 2, 10, early, window3, ⟨10, 3, b, true⟩, [], by decide +kernel⟩,
    ⟨{ s with net := { s.net with inbox := [⟨2, 2, 9, 0x41, []⟩] } }, 2, 10, q, window3, ⟨10, 3, b, true⟩, [], by decide +kernel⟩,
    ⟨s, 2, 10, q, window3, ⟨10, 3, b, true⟩, [], by decide +kernel⟩⟩

/-- A control record of a type with an epoch, for region 0 and generation, which gives to node 11, paddock 2. -/
def record (type epoch gen : Nat) : Bytes :=
  (rlaMsg 0x42 3968 1 (toBe 1 type ++ zeros 3 ++ toBe 4 epoch ++ toBe 2 0 ++ zeros 2 ++ toBe 4 gen ++ toBe 2 11 ++ toBe 2 2
    ++ zeros 108)).body

theorem witness_HandoverMovesARegionOnce :
    ∀ x ∈ [(window3, 4), (window3, 3), ({ window3 with srcNode := 8 }, 4), ({ window3 with srcPaddock := 2 }, 4)],
    ∃ (s : State) (qpn psn : Nat) (q : Qp) (f : FinalWrite) (r : Region), ControlReady s qpn psn 1 q x.1 f ∧
      s.region (be (f.body.drop 16) 8 2) = some r ∧ be (f.body.drop 16) 12 4 = x.2 ∧ r.gen = 4 ∧ r.ownerNode = 7 ∧
      r.ownerPaddock = 1 ∧ x.1.base ≤ r.base ∧ r.base < x.1.base + x.1.length := by
  intro x h
  refine ⟨rla x.1 (finalConn (record 1 0 x.2) false), 2, 10, finalConn (record 1 0 x.2) false, ⟨10, 3, record 1 0 x.2, false⟩,
    ⟨0, 4194304, 21, true, 7, 1, 4⟩, ⟨?_, ?_, ?_, ?_, ?_, ?_⟩, ?_⟩ <;> revert x <;> decide +kernel

/-- The fabric manager's window, whose key stays with it. -/
def fmWindow : Window := { window3 with use := .fabricManager, srcPaddock := 0 }

/-- A second connection, of the region's owner, and its window. -/
def ownerQp (st : QpState) : Qp := { rlaConn with qpn := 3, state := st, window := some (4, 2) }
def ownerWindow : Window := { window3 with index := 4, gen := 2 }

theorem witness_ForceOwnerWaitsForTheOldOwner :
    (∃ (s : State) (qpn psn : Nat) (q : Qp) (w : Window) (f : FinalWrite) (r : Region), ControlReady s qpn psn 2 q w f ∧
      s.region (be (f.body.drop 16) 8 2) = some r ∧ w.use ≠ .fabricManager) ∧
    (∀ st ∈ [QpState.ready, .error], ∃ (s : State) (qpn psn : Nat) (q : Qp) (w : Window) (f : FinalWrite) (r : Region),
      ControlReady s qpn psn 2 q w f ∧ s.region (be (f.body.drop 16) 8 2) = some r ∧ w.use = .fabricManager ∧
      r.gen = be (f.body.drop 16) 12 4 ∧ s.ownerAlive r = decide (st = .ready)) := by
  refine ⟨⟨rla window3 (finalConn (record 2 0 4) false), 2, 10, finalConn (record 2 0 4) false, window3,
    ⟨10, 3, record 2 0 4, false⟩, ⟨0, 4194304, 21, true, 7, 1, 4⟩, ⟨by decide +kernel, by decide +kernel, rfl,
      by decide +kernel, by decide +kernel, by decide +kernel⟩, by decide +kernel⟩, fun st h => ?_⟩
  let q := finalConn (record 2 0 4) false
  let s := rla fmWindow q
  refine ⟨{ s with net := { s.net with qps := [q, ownerQp st] }, maps := { s.maps with windows := [fmWindow, ownerWindow] } }, 2, 10,
    q, fmWindow, ⟨10, 3, record 2 0 4, false⟩, ⟨0, 4194304, 21, true, 7, 1, 4⟩, ⟨?_, ?_, ?_, ?_, ?_, ?_⟩, ?_⟩ <;>
    revert st <;> decide +kernel

theorem witness_EpochsStageAndPublish :
    (∀ st ∈ [none, some (8, 128, [])], ∃ (s : State) (qpn psn : Nat) (q : Qp) (w : Window) (f : FinalWrite),
      ControlReady s qpn psn 3 q w f ∧ w.use = .fabricManager ∧ s.maps.epochs.staging = st) ∧
    (∀ role ∈ [SlotRole.idle, .previous], ∃ (s : State) (qpn psn : Nat) (q : Qp) (w : Window) (f : FinalWrite) (k : Nat),
      ControlReady s qpn psn 4 q w f ∧ w.use = .fabricManager ∧ be (f.body.drop 16) 4 4 = s.maps.epochs.staged ∧
      s.maps.epochs.staged ≠ 0 ∧ s.maps.epochs.slotOf .staging = some k ∧ s.maps.epochs.roles.length = 4 ∧
      ((s.maps.epochs.slotOf .previous = none) ↔ role = .idle)) := by
  refine ⟨fun st h => ?_, fun role h => ?_⟩
  · let s := rla fmWindow (finalConn (record 3 7 0) false)
    refine ⟨{ s with maps := { s.maps with epochs := { s.maps.epochs with staging := st } } }, 2, 10,
      finalConn (record 3 7 0) false, fmWindow, ⟨10, 3, record 3 7 0, false⟩, ⟨?_, ?_, ?_, ?_, ?_, ?_⟩, ?_⟩ <;>
      revert st <;> decide +kernel
  let s := rla fmWindow (finalConn (record 4 7 0) false)
  refine ⟨{ s with maps := { s.maps with epochs :=
      { s.maps.epochs with current := 6, staged := 7, roles := [.current, role, .staging, .idle] } } }, 2, 10,
    finalConn (record 4 7 0) false, fmWindow, ⟨10, 3, record 4 7 0, false⟩, 2, ⟨?_, ?_, ?_, ?_, ?_, ?_⟩, ?_⟩ <;>
    revert role <;> decide +kernel

theorem witness_DrainEndsAndSlotClears :
    (∃ (s : State) (at_ k : Nat), s.maps.epochs.drainEnd = some at_ ∧ s.maps.epochs.slotOf .clearing = none ∧
      s.maps.epochs.slotOf .previous = some k ∧ s.maps.epochs.heldPublish = none) ∧
    (∃ (s : State) (k : Nat) (e x : LedgerEntry), s.maps.epochs.slotOf .clearing = some k ∧ s.maps.epochs.drainWaits = false ∧
      e ∈ s.maps.ledger ∧ k ∉ e.members ∧ e.members ≠ [] ∧ keyKind e.key = 0 ∧ x ∈ s.maps.ledger ∧ x.members = [k]) :=
  let e := serves.maps.epochs
  let x : LedgerEntry := { entry9 with row := 1, members := [1] }
  ⟨⟨{ serves with maps := { serves.maps with epochs :=
      { e with drainEnd := some 5000, previous := 5, roles := [.current, .previous, .idle, .idle] } } }, 5000, 1, by decide +kernel⟩,
    ⟨{ serves with maps := { serves.maps with ledger := [entry9, x], epochs := { e with roles := [.current, .clearing, .idle, .idle] } } },
      1, entry9, x, by decide +kernel⟩⟩

/-- A connection that this node opened and on which it asked for lines with a tag. -/
def askConn (tag : Nat) : Qp := { rlaConn with window := none, initiator := true, tx := { rlaConn.tx with asked := [(0x40, tag)] } }

/-- An LREAD_RESPONSE with a status for a tag. -/
def lresp (status tag : Nat) (data : Bytes) : Msg :=
  ⟨2, 3, 10, 0xC0, toBe 8 0 ++ toBe 2 1 ++ toBe 1 status ++ zeros 1 ++ toBe 4 tag ++ data⟩

theorem witness_LreadResponseServesItsRequest :
    (∃ (s : State) (m : Msg) (q : Qp) (h : RlaHead), s.qp m.qpn = some q ∧ q.state = .ready ∧ q.initiator = true ∧
      h = RlaHead.parse m.body ∧ (0x40, h.tag) ∉ q.tx.asked) ∧
    (∃ (s : State) (m : Msg) (q : Qp) (h : RlaHead), s.qp m.qpn = some q ∧ q.state = .ready ∧ q.initiator = true ∧
      h = RlaHead.parse m.body ∧ (0x40, h.tag) ∈ q.tx.asked ∧ h.tag = 2 ∧ be m.body 10 1 ≠ St.ok) ∧
    (∃ (s : State) (m : Msg) (q : Qp) (h : RlaHead), s.qp m.qpn = some q ∧ q.state = .ready ∧ q.initiator = true ∧
      h = RlaHead.parse m.body ∧ (0x40, h.tag) ∈ q.tx.asked ∧ h.tag = 1 ∧ be m.body 10 1 = St.ok ∧
      m.body.length = 16 + h.lines * 128 ∧ be (m.body.drop 16) 4 4 ≠ s.maps.epochs.staged) :=
  ⟨⟨withConns [askConn 2], lresp 0 3 [], askConn 2, _, by decide +kernel, rfl, rfl, rfl, by decide +kernel⟩,
    ⟨withConns [askConn 2], lresp 12 2 [], askConn 2, _, by decide +kernel, rfl, rfl, rfl, by decide +kernel⟩,
    ⟨withConns [askConn 1], lresp St.ok 1 (toBe 8 9 ++ zeros 120), askConn 1, _, by decide +kernel, rfl, rfl, rfl, by decide +kernel⟩⟩

/-! ### Witnesses: mirroring -/

/-- A pair window, and a connection whose FINAL to line 0 is a commit of one record at the start of the ring. -/
def pairWindow : Window := { window3 with use := .pair, localPaddock := 0, srcPaddock := 0 }
def commitBody (seq lines check : Nat) : Bytes :=
  (rlaMsg 0x42 0 1 (toBe 8 seq ++ toBe 4 0 ++ toBe 4 lines ++ toBe 2 1 ++ zeros 2 ++ toBe 4 check ++ zeros 104)).body

/-- A RELEASE of a sequence that this mirror does not hold, in the ring. -/
def releaseRecord : Bytes := pairRecord { type := 4, paddock := 1, seq := 9 } []
def committing (ring body : Bytes) : State :=
  let s := rla pairWindow (finalConn body false)
  { s with mem := Memory.writeBytes [] (4194304 + 256) ring }

/-- An APPEND of a second token to `seq1`, its commit, and a mirror that holds the sequence with its tail. -/
def appendRecord : Bytes := pairRecord { type := 5, paddock := 1, seq := 9, position := 1, count := 1, layerCount := 1 } (zeros 20)
def appendBody : Bytes := commitBody 1 2 3304067530
def mirroring (held : List HeldReq) : State :=
  let e : Entry := ⟨0, 0, 0, .tail (serves.tailWith seq1 0 0 0 1 ⟨tailPlace, 1, 0, 0, [], [], false⟩ [zeros 17]), 0, false, false⟩
  let s := withPad tenant (committing appendRecord appendBody)
  { s with store := { s.store with seqs := [{ seq1 with mirrorCopy := true, entries := [e] }], held := held } }

set_option maxRecDepth 4000 in
theorem witness_CommitIsAppliedOrRefusedWhole :
    (∃ (s : State) (qpn psn : Nat) (q : Qp) (w : Window) (f : FinalWrite), (s.readyFinal qpn psn = some (q, w, f) ∧
      s.qp qpn = some q ∧ q.state = .ready ∧ f.settled = false ∧ w.use = .pair ∧ (RlaHead.parse f.body).addr = 0 ∧
      s.window w.index = some w) ∧ ∃ t0 : State, s.recvCommit w (f.body.drop 16) = .ok t0 ∧
      s.mustHold (s.commitChannels w (f.body.drop 16) t0) = false ∧ (t0.window 3).map (·.appliedSeq) = some 1) ∧
    (∃ (s : State) (qpn psn : Nat) (q : Qp) (w : Window) (f : FinalWrite), (s.readyFinal qpn psn = some (q, w, f) ∧
      s.qp qpn = some q ∧ q.state = .ready ∧ f.settled = false ∧ w.use = .pair ∧ (RlaHead.parse f.body).addr = 0 ∧
      s.window w.index = some w) ∧ ∃ t0 : State, s.recvCommit w (f.body.drop 16) = .ok t0 ∧
      s.mustHold (s.commitChannels w (f.body.drop 16) t0) = true) ∧
    (∃ (s : State) (qpn psn : Nat) (q : Qp) (w : Window) (f : FinalWrite), (s.readyFinal qpn psn = some (q, w, f) ∧
      s.qp qpn = some q ∧ q.state = .ready ∧ f.settled = false ∧ w.use = .pair ∧ (RlaHead.parse f.body).addr = 0 ∧
      s.window w.index = some w ∧ (∀ x ∈ s.store.parts, x.1 ≠ w.index)) ∧
      (∃ e, s.recvCommit w (f.body.drop 16) = .error e ∧ e.1 = 2) ∧ ∃ rs, s.readCommit w (f.body.drop 16) = .ok rs ∧
        State.commitFailures w ((s.withParts w rs).2 ++ rs) (s.withParts w rs).1 = []) ∧
    (∀ seq ∈ [1, 2], ∃ (s : State) (qpn psn : Nat) (q : Qp) (w : Window) (f : FinalWrite), (s.readyFinal qpn psn = some (q, w, f) ∧
      s.qp qpn = some q ∧ q.state = .ready ∧ f.settled = false ∧ w.use = .pair ∧ (RlaHead.parse f.body).addr = 0 ∧
      s.window w.index = some w ∧ (CommitLine.parse (f.body.drop 16)).seq = seq ∧ w.appliedSeq = 0) ∧
      ∃ e : Nat × Nat × Nat, s.recvCommit w (f.body.drop 16) = .error e ∧ e.1 = (if seq = 1 then 3 else 5)) := by
  refine ⟨?_, ?_, ?_, fun seq h => ?_⟩
  · exact ⟨committing releaseRecord (commitBody 1 1 99851926), 2, 10, finalConn (commitBody 1 1 99851926) false, pairWindow,
      ⟨10, 3, commitBody 1 1 99851926, false⟩, by decide +kernel, ok_of (by decide +kernel)⟩
  · exact ⟨mirroring [⟨.read 9 0 0 0, [(0, 0)], false⟩], 2, 10, finalConn appendBody false, pairWindow,
      ⟨10, 3, appendBody, false⟩, by decide +kernel, ok_of (by decide +kernel)⟩
  · exact ⟨withPad tenant (committing appendRecord appendBody), 2, 10, finalConn appendBody false, pairWindow, ⟨10, 3, appendBody, false⟩, by decide +kernel,
      error_of (by decide +kernel), ok_of (by decide +kernel)⟩
  · refine ⟨committing releaseRecord (commitBody seq 1 7), 2, 10, finalConn (commitBody seq 1 7) false, pairWindow,
      ⟨10, 3, commitBody seq 1 7, false⟩, ?_, error_of ?_⟩
    · revert seq; decide +kernel
    · revert seq; decide +kernel
/-- A stream to node 11 for the open paddocks, with one commit of no operation outstanding, and of operation 4. -/
def stream0 : Stream where
  id := 0
  partner := 11
  paddock := 0
  key := []
  qpn := none
  windowLength := 8192
  nextSeq := 2
  ringHead := 1
  unacked := [⟨1, 0, 1, false, [releaseRecord], 0⟩]
  waiting := []
  holdUntil := some 9000
  givenUp := []
  noMirrorSince := 0
  resync := []
  resyncing := []
  sending := []
def streaming (x : Stream) : State := { serves with maps := { serves.maps with streams := [x] } }

/-- An operation that waits for its commit. -/
def committingOp : Op :=
  ⟨4, Req.parse { stepMsg with opcode := 2 }, .admitted, 0, 1, 1, none, 11, 0, .none, .pending, 2, 0, 0, 0, none, false⟩

theorem witness_StreamAcknowledgesAndGivesUp :
    (∃ (s : State) (i : Nat) (x : Stream) (c : Commit), s.stream i = some x ∧ x.unacked = [c] ∧ x.waiting = [] ∧ c.op = 0 ∧
      s.op 0 = none) ∧
    (∃ (s : State) (i : Nat) (x : Stream) (c : Commit) (o : Op), s.stream i = some x ∧ x.unacked = [c] ∧ x.waiting = [] ∧
      c.continued = true ∧ s.op c.op = some o) ∧
    (∃ (s : State) (i at_ : Nat) (x : Stream), s.stream i = some x ∧ x.holdUntil = some at_ ∧
      (∀ o ∈ s.eng.ops, o.phase ≠ .held)) :=
  let c : Commit := ⟨1, 0, 1, true, [releaseRecord], 4⟩
  let x : Stream := { stream0 with unacked := [c] }
  ⟨⟨streaming stream0, 0, stream0, ⟨1, 0, 1, false, [releaseRecord], 0⟩, by decide +kernel⟩,
    ⟨{ streaming x with eng := { serves.eng with ops := [committingOp] } }, 0, x, c, committingOp, by decide +kernel⟩,
    ⟨streaming stream0, 0, 9000, stream0, by decide +kernel⟩⟩

/-- The node at which the commit of a mutation with an effect is the one that its stream waits for. -/
def mutation (opcode : Nat) (body : Bytes) (desc : Option (Nat × Nat)) (effect : Effect) : Op :=
  ⟨4, Req.parse { stepMsg with opcode := opcode, body := body }, .admitted, 0, 1, 1, desc, 11, 0, effect, .pending, 1, 0, 0, 0, none,
    false⟩
def ackCommit : Commit := ⟨1, 0, 1, false, [releaseRecord], 4⟩
def ackStream : Stream := { stream0 with unacked := [ackCommit] }
def mutating (o : Op) (qs : List Seq) : State :=
  let s := streaming ackStream
  { s with eng := { s.eng with ops := [o] }, store := { s.store with seqs := qs } }

/-- The sequence with one token in its tail and a hash of block 0, named by an operation. -/
def seq1Held : Seq :=
  let e : Entry := ⟨0, 0, 0, .tail (serves.tailWith seq1 0 0 0 1 ⟨tailPlace, 1, 0, 0, [], [], false⟩ [zeros 17]), 0, false, false⟩
  { seq1 with entries := [e], hashes := [(0, 77)], ref := 1 }
/-- A SEQ_CREATE of sequence 10 as a shard that begins at its maximum length. -/
def createTen : Bytes :=
  toBe 1 3 ++ zeros 1 ++ toBe 2 1 ++ toBe 4 6 ++ toBe 8 77 ++ toBe 8 10 ++ toBe 4 32 ++ zeros 4
    ++ toBe 8 3 ++ toBe 2 1 ++ [1, 1, 0, 32, 0, 0x22] ++ toBe 4 64 ++ toBe 4 64 ++ zeros 8

set_option maxRecDepth 8000 in
theorem witness_AcknowledgedMutationTakesEffect :
    ∃ (i : Nat) (x : Stream) (c : Commit), x.unacked = [c] ∧ x.waiting = [] ∧ c.continued = false ∧
    (∀ p ∈ [(mutation 6 [] (some (5, 1)) .release, [seq1Held]), (mutation 5 [] (some (5, 1)) (.truncate 1), [seq1Held]),
        (mutation 2 [] (some (5, 1)) (.append 1 1 [(0, [zeros 20])] 0 []), [seq1Held]),
        (mutation 3 createTen none (.create 0 false), [])],
      (mutating p.1 p.2).stream i = some x ∧ (mutating p.1 p.2).eng.ops = [p.1] ∧ p.1.id = c.op ∧ p.1.phase = .admitted ∧
      p.1.status = 0 ∧ p.1.req.opcode ≠ 1 ∧ (mutating p.1 p.2).leases.leases = [] ∧ (mutating p.1 p.2).store.held = []) ∧
    (∀ o ∈ [mutation 6 [] (some (5, 1)) .release, mutation 5 [] (some (5, 1)) (.truncate 1),
        mutation 2 [] (some (5, 1)) (.append 1 1 [(0, [zeros 20])] 0 [])],
      (mutating o [seq1Held]).seqAt 5 = some seq1Held ∧ o.desc = some (5, seq1Held.generation)) ∧
    (let o := mutation 5 [] (some (5, 1)) (.truncate 1)
     ∃ t0, ((mutating o [seq1Held]).acked i c o).applyTruncate 5 1 = .ok t0 ∧ (t0.seqAt 5).map (·.lens) = some [1]) ∧
    (let o := mutation 2 [] (some (5, 1)) (.append 1 1 [(0, [zeros 20])] 0 [])
     ∃ t0, ((mutating o [seq1Held]).acked i c o).applyAppend 5 1 1 [(0, [zeros 20])] = .ok t0 ∧
       (t0.seqAt 5).map (·.lens) = some [2]) ∧
    (let o := mutation 3 createTen none (.create 0 false)
     let b := CreateBody.parse o.req.body
     let h : Shape := ⟨1, 1, true, false, 32, 0, .fp8, .fp8, 64, 64⟩
     b.shape = some h ∧ ∃ r : Nat × State, ((mutating o []).acked i c o).createSeq 0 o.req.paddock o.req.seq b.modelId h
       b.stored b.ttl b.weightSet false = .ok r ∧ (r.2.seqAt r.1).map (·.lens) = some [64]) :=
  ⟨0, ackStream, ackCommit, by decide +kernel, by decide +kernel, by decide +kernel, by decide +kernel,
    by decide +kernel, ok_of (by decide +kernel),
    ok_of (by decide +kernel), by decide +kernel, ok_of (by decide +kernel)⟩

/-- Sequence 9 mirrored at node 11. -/
def mirrored : LedgerEntry := { entry9 with result := localResult false 0 false 5 11 0 }

set_option maxRecDepth 20000 in
theorem witness_MirrorReportsAndResyncBlocks :
    (∃ (s : State) (p q d : Nat) (x : Stream), s.maps.deadlines = [(p, q, d)] ∧ s.partnerOf p q ≠ 0 ∧
      s.streamOf (s.partnerOf p q) p = some x ∧ s.stream x.id = some x ∧ x.qpn = none) ∧
    (∀ ok ∈ [false, true], ∃ (s : State) (i : Nat) (x : Stream) (b : BlockRef) (rest : List BlockRef) (q : Seq) (e : Entry)
      (t1 : State), (s.stream i = some x ∧
      x.resync = b :: rest ∧ b ∉ rest ∧ s.restarting 3 = false ∧ x.resyncing = [] ∧ s.findSeq b.paddock b.seq = some q ∧
      s.seqAt q.desc = some q ∧ s.host.slicesOff.contains q.slice = false ∧
      q.entry b.layer b.head b.block = some e ∧ s.entryLost q e = false ∧ s.entryOk q e = true ∧ x.partner ≠ 0 ∧
      s.streamOf x.partner b.paddock = some x ∧ x.qpn = none) ∧
      s.takeTurn q.slice 2 b.paddock ⟨.resync, b.paddock, [i, b.seq, b.layer, b.head, b.block]⟩ q.shape.rawBlock = (t1, ok)) := by
  let s := streaming stream0
  let b : BlockRef := ⟨1, 9, 0, 0, 0⟩
  let x : Stream := { stream0 with resync := [b] }
  let e : Entry := ⟨0, 0, 0, .closed 1, 0, false, false⟩
  let q : Seq := { seq1 with lens := [64], entries := [e] }
  let k : Block := ⟨1, 1, 0, ⟨.tier1, 600000, 0, 2, 0⟩, 0, 2, zeros 1088, [], 1,
    s.blockCheck 1 false 1 0 0 0 2 2 (zeros 1088), [], false, false, 1, 0, 0, 0⟩
  let r := streaming x
  let d : Sched := { Sched.fresh (defaultImage true).sched 0 0 with gcl := [⟨100000, 3, 15⟩] }
  refine ⟨⟨{ s with maps := { s.maps with ledger := [mirrored], deadlines := [(1, 9, 777)] } }, 1, 9, 777, stream0, by decide +kernel⟩,
    fun ok h => ?_⟩
  let u : State := { r with
      store := { r.store with seqs := [q], blocks := [k] }
      sch := { r.sch with scheds := if ok then r.sch.scheds else [d] } }
  refine ⟨u, 0, x, b, [], q, e, (u.takeTurn q.slice 2 b.paddock ⟨.resync, 1, [0, 9, 0, 0, 0]⟩ q.shape.rawBlock).1, ?_,
    Prod.ext rfl ?_⟩ <;> revert ok <;> decide +kernel

/-! ### Witnesses: connections -/

/-- A CONNECT body: phase, service, paddock, VERSIONS, source node, nonce and proof; INIT_QPN 40, 8 RECV_SLOTS. -/
def conBytes (phase service paddock versions node : Nat) (nonce proof : Bytes) : Bytes :=
  toBe 1 phase ++ toBe 1 service ++ toBe 2 paddock ++ toBe 4 40 ++ toBe 4 0 ++ toBe 1 versions ++ toBe 1 0 ++ toBe 2 8
    ++ toBe 4 77 ++ toBe 4 0 ++ toBe 2 node ++ zeros 6 ++ nonce ++ proof
def con (qp : Nat) (body : Bytes) : Connect := ⟨qp, zeros 16, 1, body⟩

/-- An attempt of this node that sent its message of a phase. -/
def attempt (phase : Nat) : Attempt :=
  ⟨40, 11, 0, [], phase, conBytes 1 2 0 7 5 (zeros 16) (zeros 16), zeros 16, zeros 16, 7, 900, none⟩
def attempting (phase : Nat) : State := { serving with net := { serving.net with attempts := [attempt phase] } }

theorem witness_HelloAllocatesNoConnection :
    (∃ (c : Connect) (s : State), c.qp ≤ 1 ∧ conPhase c.body = 1 ∧ s.awake = true ∧ s.restarting 2 = false ∧
      s.conEarly c.body = none) ∧
    (∃ (c : Connect) (s : State), c.qp ≤ 1 ∧ conPhase c.body = 1 ∧ s.awake = true ∧ s.restarting 2 = false ∧
      conVersions c.body = 0) ∧
    (∃ (c : Connect) (s : State), c.qp ≤ 1 ∧ conPhase c.body = 1 ∧ s.awake = true ∧ s.restarting 2 = false ∧
      conVersions c.body ≠ 0 ∧ conService c.body ≠ 1 ∧ conPaddock c.body ≠ 0 ∧
      (s.pad (conPaddock c.body)).state = .teardown) ∧
    (∃ (c : Connect) (s : State) (a : Attempt), (s.net.attempts.find? fun x => x.initQpn == conInitQpn c.body) = some a ∧
      conPhase c.body = 5 ∧ a.stream = none) :=
  ⟨⟨con 0 (conBytes 1 0 1 7 0 (zeros 16) (zeros 16)), withPad tenant serving, by decide +kernel⟩,
    ⟨con 0 (conBytes 1 0 1 0 0 (zeros 16) (zeros 16)), withPad tenant serving, by decide +kernel⟩,
    ⟨con 0 (conBytes 1 0 1 7 0 (zeros 16) (zeros 16)), withPad { tenant with state := .teardown } serving, by decide +kernel⟩,
    ⟨con 0 (conBytes 5 2 0 7 0 (zeros 16) (zeros 16)), attempting 1, attempt 1, by decide +kernel⟩⟩

/-- A node that challenged a management CONNECT and one of SERVICE 2 over window 3. -/
def windowCon : Connect :=
  let b := conBytes 3 2 1 7 7 (zeros 16) []
  con 0 (b ++ initiatorProof (zeros 32) (zeros 16) (zeros 16) b)
def challenged : State :=
  let s := rla window3 { rlaConn with qpn := 300000 }
  let m := conBytes 3 1 0 7 0 (zeros 16) (zeros 16)
  { s with
    net := { s.net with issued := [⟨zeros 16, zeros 16, zeros 16, connectFields m, 900⟩,
      ⟨zeros 16, zeros 16, zeros 16, connectFields windowCon.body, 900⟩] }
    maps := { s.maps with ledger := [⟨0, windowKeyBits 1 7, fullMask, 3, [], false, 0⟩] } }

/-- Some free QPN is found where the connections use no other number. -/
theorem free_qpn (s : State) (h : s.net.qps.map (·.qpn) ++ s.net.attempts.map (·.initQpn) = [300000]) :
    ∃ qpn t0, s.freeQpn = (some qpn, t0) := by
  have small : ∀ i, 2 + i % 262142 ≠ 300000 := fun i => by omega
  refine ⟨2 + (Config.rowChoice s.rng 262142 % 262142 + 0) % 262142, s.freeQpn.2, Prod.ext ?_ rfl⟩
  simp only [State.freeQpn, h, State.choose, List.length_cons, List.length_nil, List.range_succ, List.range_zero,
    List.nil_append, List.map_append, List.map_cons, List.map_nil]
  simp [small]

theorem sub_length (bs : Bytes) (off len : Nat) : (sub bs off len).length = len := by
  simp only [sub, List.length_append, List.length_take, List.length_drop, List.length_replicate]
  omega

theorem windowCon_judged : challenged.conJudge windowCon = .ok (zeros 32, zeros 16) := by
  have early : challenged.conEarly windowCon.body = none := by decide +kernel
  have found : (challenged.net.issued.find? fun (x : Issued) => x.src == windowCon.src && x.nonceN == conNonce windowCon.body
      && x.fields == connectFields windowCon.body && challenged.time ≤ x.at_ + 200000000) =
      some ⟨zeros 16, zeros 16, zeros 16, connectFields windowCon.body, 900⟩ := by decide +kernel
  have key : challenged.conKey windowCon = some (zeros 32) := by decide +kernel
  have proof : conProof windowCon.body = initiatorProof (zeros 32) (zeros 16) (zeros 16) windowCon.body := by
    have last : ∀ xs ys : Bytes, xs.length = 48 → ys.length = 16 → conProof (xs ++ ys) = ys := by
      intro xs ys hx hy
      simp [conProof, sub, hx, hy]
    have same : connectFields windowCon.body = connectFields (conBytes 3 2 1 7 7 (zeros 16) []) := by decide +kernel
    unfold initiatorProof
    rw [same]
    exact last _ _ (by decide +kernel) (sub_length ..)
  have bad : conBad windowCon.body = false := by
    have len : windowCon.body.length = 64 := by
      show (conBytes 3 2 1 7 7 (zeros 16) [] ++ initiatorProof _ _ _ _).length = 64
      rw [List.length_append, initiatorProof, sub_length]
      decide +kernel
    unfold conBad
    rw [len]
    decide +kernel
  have quota : challenged.conQuotaLeft (conPaddock windowCon.body) = true := by decide +kernel
  unfold State.conJudge
  simp only [early, found, key, proof, bad, quota]
  simp

theorem witness_ProofOpensOneConnection :
    (∃ (c : Connect) (s : State) (r : RecentAccept), c.qp ≤ 1 ∧ conPhase c.body = 3 ∧ s.awake = true ∧ s.restarting 2 = false ∧
      s.recentAccept c = some r) ∧
    (∃ (c : Connect) (s : State), c.qp ≤ 1 ∧ conPhase c.body = 3 ∧ s.awake = true ∧ s.restarting 2 = false ∧
      s.recentAccept c = none ∧ ∃ st, s.conJudge c = .error st ∧ st = St.denied) ∧
    (∃ (c : Connect) (s : State), (c.qp ≤ 1 ∧ conPhase c.body = 3 ∧ s.awake = true ∧ s.restarting 2 = false ∧
      s.recentAccept c = none ∧ conService c.body ≤ 1) ∧ (∃ k, s.conJudge c = .ok k ∧ k.1 = []) ∧
      ∃ qpn t0, s.freeQpn = (some qpn, t0)) :=
  let c := con 1 (conBytes 3 1 0 7 0 (zeros 16) (zeros 16))
  let r : RecentAccept := ⟨zeros 16, zeros 16, 40, 8, zeros 64, 0, true⟩
  ⟨⟨c, { challenged with net := { challenged.net with recent := [r] } }, r, by decide +kernel⟩,
    ⟨c, serving, by decide +kernel, by decide +kernel, by decide +kernel, by decide +kernel, by decide +kernel,
      error_of (by decide +kernel)⟩,
    ⟨c, challenged, by decide +kernel, ok_of (by decide +kernel), free_qpn _ (by decide +kernel)⟩⟩

theorem witness_WindowTakeoverWaitsForTheOldConnection :
    (∃ (c : Connect) (s : State) (k : Bytes × Bytes) (w : Window) (old : Qp), (c.qp ≤ 1 ∧ conPhase c.body = 3 ∧
      s.awake = true ∧ s.restarting 2 = false ∧ s.recentAccept c = none ∧ conService c.body = 2 ∧
      s.conWindow c.body = some w ∧ s.qp old.qpn = some old ∧
      (s.net.qps.find? fun q => q.window == some (w.index, w.gen) && q.works) = some old) ∧ s.conJudge c = .ok k ∧
      ∃ qpn t0, s.freeQpn = (some qpn, t0)) ∧
    (∃ (window : Nat) (s : State) (w : Window) (qpn : Nat) (r : RecentAccept), s.window window = some w ∧
      w.takeover = some qpn ∧ (s.net.recent.find? fun x => x.respQpn == qpn && !x.sent) = some r) :=
  let w := { window3 with takeover := some 8 }
  let r : RecentAccept := ⟨zeros 16, zeros 16, 40, 8, zeros 64, 0, false⟩
  let s := rla w rlaConn
  ⟨⟨windowCon, challenged, (zeros 32, zeros 16), window3, { rlaConn with qpn := 300000 }, by decide +kernel, windowCon_judged,
      free_qpn _ (by decide +kernel)⟩,
    ⟨3, { s with net := { s.net with recent := [r] } }, w, 8, r, by decide +kernel⟩⟩

/-- An ACCEPT of the attempt with a proof, and the proof that verifies. -/
def acceptOf (p : Bytes) : Connect := con 0 (conBytes 4 2 0 4 5 (zeros 16) [] ++ p)
def rightProof (p : Bytes) : Bytes :=
  nodeProof (attempt 3).key (attempt 3).nonceI (attempt 3).nonceN (attempt 3).hello (acceptOf p).body

theorem acceptOf_proof (p : Bytes) (h : p.length = 16) : conProof (acceptOf p).body = p := by
  have len : (conBytes 4 2 0 4 5 (zeros 16) []).length = 48 := by decide +kernel
  simp [acceptOf, con, conProof, sub, len, h]

theorem rightProof_same (p : Bytes) : rightProof p = rightProof [] := by
  have same : ∀ k m, m + k ≤ 48 → sub (acceptOf p).body m k = sub (acceptOf []).body m k := by
    intro k m h
    have len : (conBytes 4 2 0 4 5 (zeros 16) []).length = 48 := by decide +kernel
    simp only [sub, acceptOf, con, List.append_nil]
    rw [List.drop_append_of_le_length (by omega), List.take_append_of_le_length (by rw [List.length_drop]; omega)]
  simp only [rightProof, nodeProof, same 2 12 (by omega), same 4 8 (by omega), same 10 14 (by omega)]

theorem acceptOf_fits (p : Bytes) : ((attempting 3).net.attempts.find? fun x => x.initQpn == conInitQpn (acceptOf p).body
    && x.phase == 3) = some (attempt 3) ∧ conPhase (acceptOf p).body = 4 ∧ (attempting 3).qp (attempt 3).initQpn = none := by
  have same : ∀ k m, m + k ≤ 48 → sub (acceptOf p).body m k = sub (acceptOf []).body m k := by
    intro k m h
    have len : (conBytes 4 2 0 4 5 (zeros 16) []).length = 48 := by decide +kernel
    simp only [sub, acceptOf, con, List.append_nil]
    rw [List.drop_append_of_le_length (by omega), List.take_append_of_le_length (by rw [List.length_drop]; omega)]
  simp only [conInitQpn, conPhase, be, same 4 4 (by omega), same 1 0 (by omega)]
  decide +kernel

theorem witness_InitiatorProvesAndVerifies :
    (∃ (c : Connect) (s : State) (a : Attempt),
      (s.net.attempts.find? fun x => x.initQpn == conInitQpn c.body && x.phase == 1) = some a ∧
      (s.net.attempts.find? fun x => x.initQpn == a.initQpn) = some a ∧ conPhase c.body = 2) ∧
    (∃ (c : Connect) (s : State) (a : Attempt), ((s.net.attempts.find? fun x => x.initQpn == conInitQpn c.body && x.phase == 3) =
      some a ∧ conPhase c.body = 4 ∧ s.qp a.initQpn = none) ∧
      conProof c.body = nodeProof a.key a.nonceI a.nonceN a.hello c.body) ∧
    (∃ (c : Connect) (s : State) (a : Attempt), ((s.net.attempts.find? fun x => x.initQpn == conInitQpn c.body && x.phase == 3) =
      some a ∧ conPhase c.body = 4 ∧ s.qp a.initQpn = none) ∧
      conProof c.body ≠ nodeProof a.key a.nonceI a.nonceN a.hello c.body) ∧
    (∀ n ∈ [7, 8], ∃ (s : State) (a : Attempt), (s.net.attempts.find? fun x => x.initQpn == 40) = some a ∧ a.resends = n ∧
      a.stream = none) := by
  refine ⟨⟨con 0 (conBytes 2 2 0 7 0 (zeros 16) (zeros 16)), attempting 1, attempt 1, by decide +kernel⟩,
    ⟨acceptOf (rightProof []), attempting 3, attempt 3, acceptOf_fits _, ?_⟩, ?_, fun n h =>
      ⟨(attempting 3).modAttempt 40 fun a => { a with resends := n }, { attempt 3 with resends := n }, ?_⟩⟩
  · exact acceptOf_proof _ (sub_length ..) |>.trans (rightProof_same _).symm
  · by_cases h : rightProof [] = zeros 16
    · refine ⟨acceptOf (List.replicate 16 1), attempting 3, attempt 3, acceptOf_fits _, ?_⟩
      rw [acceptOf_proof _ (by decide +kernel)]
      show _ ≠ rightProof _
      rw [rightProof_same, h]
      decide +kernel
    · refine ⟨acceptOf (zeros 16), attempting 3, attempt 3, acceptOf_fits _, ?_⟩
      rw [acceptOf_proof _ (by decide +kernel)]
      show _ ≠ rightProof _
      rw [rightProof_same]
      exact fun x => h x.symm
  · revert n; decide +kernel

/-! ### Witnesses: packets and timers of a connection -/

theorem witness_DisconnectDrainsThenQuarantines :
    (∃ (m : Msg) (s : State) (q : Qp), s.qp m.qpn = some q ∧ q.works = true ∧ q.rx.used = []) ∧
    (∃ (qpn p : Nat) (s : State) (q : Qp), s.qp qpn = some q ∧ q.state = .draining ∧ q.tx.disconnectPsn = some p ∧
      (∀ x ∈ q.tx.unacked ++ q.tx.ready, x.psn ≠ p)) ∧
    (∃ (qpn : Nat) (s : State) (q : Qp), s.qp qpn = some q ∧ q.state = .error) ∧
    (∃ (qpn : Nat) (s : State) (q : Qp), s.qp qpn = some q ∧ q.state = .draining ∧ q.tx.sentDisconnect = true) ∧
    (∃ (qpn : Nat) (s : State) (q : Qp), s.qp qpn = some q ∧ q.state = .quarantine) :=
  let d : Qp := { conn 2 with
    state := .draining, tx := { (conn 2).tx with sentDisconnect := true, disconnectPsn := some 19 } }
  ⟨⟨⟨2, 3, 10, 0x61, []⟩, withConns [conn 2], conn 2, by decide +kernel⟩, ⟨2, 19, withConns [d], d, by decide +kernel⟩,
    ⟨2, withConns [{ conn 2 with state := .error }], { conn 2 with state := .error }, by decide +kernel⟩,
    ⟨2, withConns [d], d, by decide +kernel⟩,
    ⟨2, withConns [{ conn 2 with state := .quarantine }], { conn 2 with state := .quarantine }, by decide +kernel⟩⟩

/-- A header: type, flags, PSN, opcode, LEN, MSN, offset and MSG_LEN; and a frame on link 0 for QP 2. -/
def pktHead (type flags psn opcode len msn offset msgLen : Nat) : Bytes :=
  zeros 1 ++ toBe 1 type ++ toBe 2 flags ++ toBe 4 2 ++ toBe 4 psn ++ toBe 1 opcode ++ zeros 1 ++ toBe 2 len ++ toBe 4 msn
    ++ toBe 4 offset ++ toBe 4 msgLen ++ toBe 4 0
def frame (head payload : Bytes) : Frame :=
  ⟨0, 0, true, serving.taggedLink 0, serving.img.transport.udpPort, false, 140, zeros 16, head, 0, payload, []⟩

/-- A node whose connection 2 is in the cache. -/
def cachedConn (q : Qp) : State :=
  let s := withPad tenant (withConns [q])
  { s with net := { s.net with cached := [2] } }

theorem at_hand (q : Qp) (f : Frame) (hq : q.qpn = 2) (hs : q.state = .ready) (he : q.enc = false) (hk : q.myTkey = 0)
    (hl : f.link = 0) (hf : serving.wellFramed f = true) (hd : (hdr f).dest = 2) (ht : (hdr f).tkey = 0) (hn : (hdr f).enc = false) :
    AtHand (cachedConn q) f q f.payload := by
  refine ⟨⟨{ Link.fresh 0 with up := true }, ?_⟩, hf, by simp [cachedConn, withPad, withConns, serving, State.reset, Net.fresh], ⟨q, ?_, ?_⟩, by omega, ?_, hs, ?_⟩
  · rw [hl]; rfl
  · rw [hd]; simp [cachedConn, withPad, withConns, State.qp, hq]
  · simp [Qp.open_, ht, hn, he, hk]
  · rw [hd]; rfl
  · rfl

theorem witness_PacketsAreAcceptedInOrder :
    (∃ (s : State) (f : Frame) (q : Qp) (payload : Bytes), AtHand s f q payload ∧ (hdr f).type = 0 ∧ q.spray = false ∧
      q.rx.refusing = none ∧ f.ce = false ∧ (hdr f).psn = q.rx.expect ∧ q.pktFault (hdr f) payload = none ∧
      (hdr f).first = true ∧ (hdr f).last = true ∧ ((hdr f).final = false ∨ (hdr f).opcode = 0x42) ∧ (hdr f).msn = q.rx.nextMsn ∧ q.rx.msgs = [] ∧
      q.rx.held = [] ∧ q.drained (hdr f).opcode = false ∧ q.rx.used.length < q.rx.slots ∧ (hdr f).msgLen ≤ s.stagingFree q) ∧
    (∀ psn ∈ [9, 11], ∃ (s : State) (f : Frame) (q : Qp) (payload : Bytes), AtHand s f q payload ∧ (hdr f).type = 0 ∧
      q.spray = false ∧ q.rx.refusing = none ∧ f.ce = false ∧ (hdr f).psn = psn ∧ (hdr f).psn ≠ q.rx.expect ∧
      precedes (hdr f).psn q.rx.expect = decide (psn = 9)) := by
  refine ⟨⟨cachedConn (conn 2), frame (pktHead 0 3 10 8 36 3 0 36) (zeros 36), conn 2, zeros 36,
    at_hand _ _ rfl rfl rfl rfl rfl rfl (by decide +kernel) (by decide +kernel) (by decide +kernel), by decide +kernel⟩,
    fun psn h => ⟨cachedConn (conn 2), frame (pktHead 0 3 psn 8 36 3 0 36) (zeros 36), conn 2, zeros 36,
      at_hand _ _ rfl rfl rfl rfl rfl rfl ?_ ?_ ?_, ?_⟩⟩ <;> revert psn <;> decide +kernel

/-- A sprayed connection of the cache service. -/
def sprayed : Qp := { conn 2 with spray := true }

theorem witness_SprayedPacketsMayArriveOutOfOrder :
    (∃ (s : State) (f : Frame) (q : Qp) (payload : Bytes), AtHand s f q payload ∧ (hdr f).type = 0 ∧ q.spray = true ∧
      q.rx.refusing = none ∧ f.ce = false ∧ precedes (hdr f).psn q.rx.expect = false ∧ (hdr f).psn ≠ q.rx.expect ∧
      psnDistance q.rx.expect (hdr f).psn < 8192 ∧ (hdr f).psn ∉ q.rx.accepted ∧ q.rx.expect ∉ q.rx.accepted ∧
      q.pktFault (hdr f) payload = none ∧ (∀ m ∈ q.rx.msgs, m.msn ≠ (hdr f).msn) ∧
      q.spanFits (q.spanOf (hdr f)) = true ∧ q.drained (hdr f).opcode = false ∧
      q.rx.used.length < q.rx.slots ∧ q.rx.msgs.length < 64 ∧ (hdr f).msgLen ≤ s.stagingFree q ∧
      sumNat ((s.net.qps.filter (·.spray)).map fun x => x.rx.msgs.length) < 4096 ∧ q.rx.nakSent = false ∧ q.rx.hole = none) ∧
    (∀ sent ∈ [false, true], ∃ (s : State) (qpn at_ : Nat) (q : Qp), s.qp qpn = some q ∧ q.works = true ∧
      q.rx.hole = some at_ ∧ q.rx.nakSent = sent) := by
  refine ⟨⟨cachedConn sprayed, frame (pktHead 0 11 8201 2 36 4 0 36) (zeros 36), sprayed, zeros 36,
    at_hand _ _ rfl rfl rfl rfl rfl rfl (by decide +kernel) (by decide +kernel) (by decide +kernel), by decide +kernel⟩,
    fun sent h => ⟨cachedConn { sprayed with rx := { sprayed.rx with hole := some 1500, nakSent := sent } }, 2, 1500,
      { sprayed with rx := { sprayed.rx with hole := some 1500, nakSent := sent } }, ?_⟩⟩
  revert sent; decide +kernel

theorem witness_AcknowledgementDelayEndsInAnAck : ∃ (s : State) (qpn at_ : Nat) (q : Qp), s.qp qpn = some q ∧ q.works = true ∧
    q.rx.ackAt = some at_ :=
  let q : Qp := { conn 2 with rx := { (conn 2).rx with ackAt := some 1200, sinceAck := 3 } }
  ⟨cachedConn q, 2, 1200, q, by decide +kernel⟩

/-- A connection with packets 18 and 19 unacknowledged. -/
def outPkt (psn : Nat) : OutPkt := ⟨psn, 4, 0x81, 3, 0, 8, zeros 8, 800, false, 0, none⟩
def unacked : Qp := { conn 2 with tx := { (conn 2).tx with unacked := [outPkt 18, outPkt 19], rtoAt := some 65000, rnrUntil := some 30000 } }

theorem witness_AcknowledgementsSteerTheSender :
    (∃ (s : State) (f : Frame) (q : Qp) (payload : Bytes) (done rest : List OutPkt), AtHand s f q payload ∧ q.tx.queue = [] ∧
      q.tx.ready = [] ∧ (hdr f).type = 1 ∧ q.tx.unacked = done ++ rest ∧ done ≠ [] ∧
      q.inSpan (((hdr f).psn + 1) % 2 ^ 24) = true ∧ (∀ x ∈ done, precedes x.psn (((hdr f).psn + 1) % 2 ^ 24) = true) ∧
      (∀ x ∈ rest, precedes x.psn (((hdr f).psn + 1) % 2 ^ 24) = false) ∧ q.tx.credit + done.length < q.tx.w) ∧
    (∃ (s : State) (f : Frame) (q : Qp) (payload : Bytes) (done rest : List OutPkt), AtHand s f q payload ∧ q.tx.queue = [] ∧
      q.tx.ready = [] ∧ (hdr f).type = 1 ∧ q.tx.unacked = done ++ rest ∧ done ≠ [] ∧
      q.inSpan (((hdr f).psn + 1) % 2 ^ 24) = true ∧ (∀ x ∈ done, precedes x.psn (((hdr f).psn + 1) % 2 ^ 24) = true) ∧
      rest = [] ∧ q.tx.credit + done.length = q.tx.w ∧ q.tx.w = 1024) ∧
    (∃ (s : State) (f : Frame) (q : Qp) (payload : Bytes), AtHand s f q payload ∧ q.tx.queue = [] ∧ q.tx.ready = [] ∧
      (hdr f).type = 2 ∧ (hdr f).offset % 256 ≠ 0) ∧
    (∃ (s : State) (f : Frame) (q : Qp) (payload : Bytes), AtHand s f q payload ∧ q.tx.queue = [] ∧ q.tx.ready = [] ∧
      (hdr f).type = 2 ∧ (hdr f).offset % 256 = 0 ∧ q.inSpan (hdr f).psn = true ∧ q.tx.unacked ≠ [] ∧
      (∀ x ∈ q.tx.unacked, precedes x.psn (hdr f).psn = false) ∧ q.tx.retries < s.img.transport.retryMax) ∧
    (∃ (s : State) (f : Frame) (q : Qp) (payload : Bytes), AtHand s f q payload ∧ q.tx.queue = [] ∧ q.tx.ready = [] ∧
      (hdr f).type = 3 ∧ q.inSpan (hdr f).psn = true ∧ q.tx.rnrCount = 0 ∧ 1 ≤ s.img.transport.rnrRetryMax ∧
      (∀ x ∈ q.tx.unacked, precedes x.psn (hdr f).psn = false)) ∧
    (∀ hold ∈ [1000, 1001], ∃ (s : State) (f : Frame) (q : Qp) (payload : Bytes), AtHand s f q payload ∧ q.tx.queue = [] ∧
      q.tx.ready = [] ∧ (hdr f).type = 4 ∧ (s.time < q.tx.holdUntil ↔ hold = 1001)) := by
  let full : Qp := { unacked with tx := { unacked.tx with w := 1024, credit := 1022 } }
  let held := fun (n : Nat) => ({ unacked with tx := { unacked.tx with holdUntil := n } } : Qp)
  refine ⟨⟨cachedConn unacked, frame (pktHead 1 0 18 0 0 0 0 0) [], unacked, [], [outPkt 18], [outPkt 19],
      at_hand _ _ rfl rfl rfl rfl rfl rfl (by decide +kernel) (by decide +kernel) (by decide +kernel), by decide +kernel⟩,
    ⟨cachedConn full, frame (pktHead 1 0 19 0 0 0 0 0) [], full, [], [outPkt 18, outPkt 19], [],
      at_hand _ _ rfl rfl rfl rfl rfl rfl (by decide +kernel) (by decide +kernel) (by decide +kernel), by decide +kernel⟩,
    ⟨cachedConn unacked, frame (pktHead 2 0 18 0 0 0 1 0) [], unacked, [],
      at_hand _ _ rfl rfl rfl rfl rfl rfl (by decide +kernel) (by decide +kernel) (by decide +kernel), by decide +kernel⟩,
    ⟨cachedConn unacked, frame (pktHead 2 0 18 0 0 0 0 0) [], unacked, [],
      at_hand _ _ rfl rfl rfl rfl rfl rfl (by decide +kernel) (by decide +kernel) (by decide +kernel), by decide +kernel⟩,
    ⟨cachedConn unacked, frame (pktHead 3 0 18 0 0 0 0 0) [], unacked, [],
      at_hand _ _ rfl rfl rfl rfl rfl rfl (by decide +kernel) (by decide +kernel) (by decide +kernel), by decide +kernel⟩,
    fun hold h => ⟨cachedConn (held hold), frame (pktHead 4 0 18 0 0 0 0 0) [], held hold, [],
      at_hand _ _ rfl rfl rfl rfl rfl rfl (by decide +kernel) (by decide +kernel) (by decide +kernel), ?_⟩⟩
  revert hold; decide +kernel

theorem witness_TimeoutsResendOrGiveUp :
    ∀ n ∈ [6, 7], ∃ (s : State) (qpn at_ : Nat) (q : Qp), s.qp qpn = some q ∧ q.works = true ∧ q.tx.queue = [] ∧
      q.tx.ready = [] ∧ q.tx.unacked ≠ [] ∧ (q.state = .ready ∨ q.tx.sentDisconnect = true) ∧ q.tx.rtoAt = some at_ ∧ (q.tx.retries < s.img.transport.retryMax ↔ n = 6) ∧
      ∃ u, q.tx.rnrUntil = some u := by
  intro n h
  let q : Qp := { unacked with tx := { unacked.tx with retries := n } }
  refine ⟨cachedConn q, 2, 65000, q, ?_, ?_, ?_, ?_, ?_, ?_, ?_, ?_, 30000, ?_⟩ <;> revert n <;> decide +kernel

theorem witness_ContextFetchAndWriteBack :
    (∀ fits ∈ [true, false], ∃ (s : State) (qpn port : Nat) (q : Qp), s.net.fetches = [(port, qpn)] ∧ s.awake = true ∧
      s.nothingWaits ∧ s.qp qpn = some q ∧ q.state = .ready ∧ s.contextFits qpn = fits) ∧
    (∃ (s : State) (qpn : Nat) (q : Qp), s.net.evicting.head? = some qpn ∧ s.nothingWaits ∧ s.qp qpn = some q) := by
  let s := withConns [conn 2]
  refine ⟨fun fits h => ⟨{ s with net := { s.net with
      fetches := [(1, 2)], cached := if fits then [] else (List.range 8192).map (· + 100) } }, 2, 1, conn 2, ?_⟩,
    ⟨{ s with net := { s.net with evicting := [2, 5] } }, 2, conn 2, by unfold State.nothingWaits; decide +kernel⟩⟩
  unfold State.nothingWaits
  revert fits; decide +kernel

/-! ### Witnesses: closing a block -/

theorem choose_lt (s : State) (f : Nat → Nat → Nat) (n : Nat) (h : 0 < n) : (s.choose f n).1 < n := by
  unfold State.choose
  split
  · exact h
  · exact Nat.mod_lt _ h

/-- An allocation succeeds where the paddock's own frames have room. -/
theorem allocIn_some (s : State) (paddock : Nat) (t : Tier) (frameAt : Nat → Nat) (count : Nat) (inRange : Nat → Bool)
    (shift units : Nat) (h : openPlaces s.store.places paddock inRange (s.store.dirty ++ s.store.retired ++ s.leasedFrames) t
      shift units ≠ []) : ∃ x, s.allocIn paddock t frameAt count inRange shift units = some x := by
  apply Option.isSome_iff_exists.1
  simp only [State.allocIn, Option.isSome_map]
  apply List.getElem?_eq_some_iff.2 ⟨_, rfl⟩ |> fun h => by rw [h]; rfl
  apply choose_lt
  have := List.length_pos_iff.2 h
  simp only [List.length_append]
  omega

/-- Sequence 9 with one block of 64 tokens, full in its tail slot. -/
def fullTail : TailSlot :=
  let recs : List Bytes := List.replicate 64 (zeros 17)
  ⟨⟨.tier1, 300000, 0, 4, 0⟩, 1, 0, 0, recs, (seq9.shape.granules recs).map fun d => toLe 4 (crc32c d).toNat ++ zeros 12, false⟩
def fullEntry : Entry := ⟨0, 0, 0, .tail fullTail, 3, false, false⟩
def fullSeq : Seq :=
  { seq9 with
    shape := { seq9.shape with maxLength := 64 }, lens := [64], pages := [⟨0, 1, [], 0, zeros 16, false⟩], entries := [fullEntry] }
def fullRef : BlockRef := ⟨1, 9, 0, 0, 0⟩
def full : State := { serves with store := { serves.store with seqs := [fullSeq], retries := [(fullRef, 5000)] } }

theorem fullTail_ok (s : State) (fitted : s.placeOk fullTail.place = true) : s.tailOk fullSeq 0 0 0 fullTail = true := by
  have gen : (fullTail.generation == fullSeq.generation) = true := rfl
  have same : s.tailChecks fullSeq 0 0 0 (fullSeq.len 0) fullTail = fullTail.checks := rfl
  simp only [State.tailOk, gen, fitted, same, Bool.true_and, beq_self_eq_true]

theorem storedForm_units (recs : List Bytes) (h : ceilDiv recs.flatten.length 512 = 3) :
    ceilDiv (storedForm fullSeq.shape.recShape 512 recs).2.length 512 ≤ 3 := by
  simp only [storedForm, h]
  generalize cbfEncode fullSeq.shape.recShape recs = packed
  split
  · next h =>
    simp only [Bool.and_eq_true, decide_eq_true_eq] at h
    exact Nat.le_of_lt h.1
  · exact Nat.le_of_eq h

theorem fullTail_decodes : cbfMismatch fullSeq.shape.recShape fullTail.recs = false := by decide +kernel

theorem writeClosed_ok (s : State) (close : Bool) (q : Seq) (d layer head block : Nat) (recs : List Bytes) (h : s.seqAt d = some q)
    (same : cbfMismatch q.shape.recShape recs = false) (page : s.backPage d (q.shape.pageOf layer head block) = some s)
    (alloc : ∃ x, (if close then s.allocClosed q (ceilDiv (storedForm q.shape.recShape (512 * 2 ^ q.granShift) recs).2.length
      (512 * 2 ^ q.granShift) + q.summaryUnits) else s.allocT1 q.slice q.paddock q.granShift
        (ceilDiv (storedForm q.shape.recShape (512 * 2 ^ q.granShift) recs).2.length
      (512 * 2 ^ q.granShift) + q.summaryUnits)) = some x) : ∃ t, s.writeClosed close d layer head block recs = .ok t := by
  obtain ⟨x, hx⟩ := alloc
  simp only [State.writeClosed, h, same, Bool.false_eq_true, if_false, page, hx]
  exact ⟨_, rfl⟩

theorem closeTail_last (s : State) (q : Seq) (d layer head block : Nat) (x : TailSlot) (heat : Nat) (h : s.seqAt d = some q)
    (found : q.entry layer head block = some ⟨layer, head, block, .tail x, heat, false, false⟩) (len : x.recs.length = 64)
    (last : q.shape.maxLength ≤ 64 * (block + 1)) (wrote : ∃ t, s.writeClosed true d layer head block x.recs = .ok t) :
    ∃ t, s.closeTail d layer head block = .ok t := by
  obtain ⟨t, ht⟩ := wrote
  have short : ¬ x.recs.length < 64 := by omega
  have next : ((q.entry layer head (block + 1)).isSome || decide (q.shape.maxLength ≤ 64 * (block + 1))) = true := by
    simp [last]
  simp only [State.closeTail, h, found, short, if_false, ht, next, if_true]
  exact ⟨_, rfl⟩

theorem page_there (s : State) (h : s.seqAt 5 = some fullSeq) : s.backPage 5 (fullSeq.shape.pageOf 0 0 0) = some s := by
  have there : fullSeq.pages.any (·.index == fullSeq.shape.pageOf 0 0 0) = true := by decide +kernel
  simp only [State.backPage, h, there, if_true]

theorem closeTail_ok (s : State) (h : s.seqAt 5 = some fullSeq) (alloc : ∀ n < 5, ∃ x, s.allocClosed fullSeq n = some x) :
    ∃ t, s.closeTail 5 0 0 0 = .ok t := by
  refine closeTail_last s fullSeq 5 0 0 0 fullTail 3 h rfl rfl (Nat.le_refl 64)
    (writeClosed_ok s true fullSeq 5 0 0 0 _ h fullTail_decodes (page_there s h) ?_)
  have unit : 512 * 2 ^ fullSeq.granShift = 512 := by decide +kernel
  have one : fullSeq.summaryUnits = 1 := by decide +kernel
  have units := storedForm_units fullTail.recs (by decide +kernel)
  rw [unit, one]
  generalize ceilDiv (storedForm fullSeq.shape.recShape 512 fullTail.recs).2.length 512 = n at units ⊢
  exact alloc _ (by omega)

/-- The node with no slice at all, which has room for nothing. -/
def noRoom : State := { full with img := { full.img with slices := [] } }

theorem closeTail_fails (s : State) (h : s.seqAt 5 = some fullSeq) (none_ : s.img.slices = []) :
    ∃ r, s.closeTail 5 0 0 0 = .error r := by
  have found : fullSeq.entry 0 0 0 = some ⟨0, 0, 0, .tail fullTail, 3, false, false⟩ := rfl
  have short : ¬ fullTail.recs.length < 64 := by decide +kernel
  have t1 : ∀ a b c d, s.allocT1 a b c d = none := by simp [State.allocT1, State.sliceCfg, none_]
  have alloc : ∀ n, s.allocClosed fullSeq n = none := by
    intro n
    simp only [State.allocClosed, State.sliceCfg, none_, List.find?_nil, t1, Bool.false_and, Bool.false_eq_true, if_false]
  have wrote : s.writeClosed true 5 0 0 0 fullTail.recs = .error (St.degradedRetry, 0) := by
    simp only [State.writeClosed, h, fullTail_decodes, Bool.false_eq_true, if_false, page_there s h, if_true, alloc]
  exact ⟨(St.degradedRetry, 0), by simp only [State.closeTail, h, found, short, if_false, wrote]⟩

/-- A lease has marked the frames of the full tail. -/
def leasedFull : State := { full with leases := { full.leases with
  leases := [⟨1, ⟨0, [0], 0, fullTail.place.frames, 1, 0, 256, 0, 0⟩, .draining, 0, none, 0, 0, 1, [], none, 0, false⟩] } }

/-- The bulk class of slice 0 is never open. -/
def bulkShut : State :=
  full.putSched { Sched.fresh (defaultImage true).sched 0 0 with gcl := [⟨1000000, 5, 15⟩] }

/-- The state after the retry timer of the close. -/
def timed (s : State) : State :=
  { s.advanceTo 5000 with store := { s.store with retries := s.store.retries.filter (·.1 != fullRef) } }

/-- The turn of the close of the full tail. -/
def turn (s : State) : State × Bool := s.takeTurn 0 1 1 (closeWork fullRef) 1088

theorem turn_comes : ∀ s ∈ [full, timed full, leasedFull, noRoom, timed noRoom], (turn s).2 = true := by decide +kernel

theorem turn_seqAt (s : State) (d : Nat) : (turn s).1.seqAt d = s.seqAt d := by
  have same : (turn s).1.store = s.store := (State.takeTurn_same s 0 1 1 (closeWork fullRef) 1088).store.eq rfl
  unfold State.seqAt; rw [same]

theorem turn_img (s : State) : (turn s).1.img = s.img := (State.takeTurn_same s 0 1 1 (closeWork fullRef) 1088).img.eq rfl

theorem fullAlloc : ∀ s ∈ [(turn full).1, (turn (timed full)).1], ∀ n < 5,
    ∃ x, s.allocClosed fullSeq n = some x := by
  intro s hs n hn
  have crit : ∀ s ∈ [(turn full).1, (turn (timed full)).1],
      s.freeBelow (defaultSlice true 0) 1 = false ∧ s.sliceCfg 0 = some (defaultSlice true 0) := by decide +kernel
  have places : ∀ s ∈ [(turn full).1, (turn (timed full)).1], ∀ n < 5,
      openPlaces s.store.places 1 (fun f => ((defaultSlice true 0).localOf f).isSome)
        (s.store.dirty ++ s.store.retired ++ s.leasedFrames) .tier1 fullSeq.granShift n ≠ [] := by decide +kernel
  have slice : fullSeq.slice = 0 := rfl
  have pad : fullSeq.paddock = 1 := rfl
  have policy : ((defaultSlice true 0).policy == 0) = true := rfl
  have crit0 : (defaultSlice true 0).freeCrit = 1 := rfl
  simp only [State.allocClosed, slice, pad, (crit s hs).2, policy, crit0, (crit s hs).1, State.allocT1, if_true,
    Bool.false_and, Bool.false_eq_true, if_false]
  exact allocIn_some _ _ _ _ _ _ _ _ (places s hs n hn)

theorem witness_CloseStoresTheFullTail :
    let meets := fun (b : BlockRef) (s : State) (q : Seq) (e : Entry) (x : TailSlot) =>
      s.findSeq b.paddock b.seq = some q ∧ s.seqAt q.desc = some q ∧ q.entry b.layer b.head b.block = some e ∧
      e.slot = .tail x ∧ x.recs.length = 64 ∧ x.lost = false ∧ q.state = .live ∧
      (∀ k ∈ s.store.blocks, k.num < s.store.nextBlock) ∧ s.tailOk q b.layer b.head b.block x = true
    let due := fun (b : BlockRef) (s s1 : State) => ∃ at_, s.store.retries.find? (·.1 == b) = some (b, at_) ∧
      s1 = { s.advanceTo at_ with store := { s.store with retries := s.store.retries.filter (·.1 != b) } }
    (∃ b s q e x t1, meets b s q e x ∧ s.takeTurn q.slice 1 b.paddock (closeWork b) q.shape.rawBlock = (t1, false)) ∧
    (∃ b s q e x t1, meets b s q e x ∧ s.takeTurn q.slice 1 b.paddock (closeWork b) q.shape.rawBlock = (t1, true) ∧
      ∃ f ∈ x.place.frames, f ∈ s.leasedFrames) ∧
    (∃ b s q e x t1 t0, meets b s q e x ∧ s.takeTurn q.slice 1 b.paddock (closeWork b) q.shape.rawBlock = (t1, true) ∧
      (∀ f ∈ x.place.frames, f ∉ s.leasedFrames) ∧ t1.closeTail q.desc b.layer b.head b.block = .ok t0) ∧
    (∃ b s q e x t1 r, meets b s q e x ∧ s.takeTurn q.slice 1 b.paddock (closeWork b) q.shape.rawBlock = (t1, true) ∧
      t1.closeTail q.desc b.layer b.head b.block = .error r) ∧
    (∃ b s q e x s1 t1, meets b s q e x ∧ due b s s1 ∧
      s1.takeTurn q.slice 1 b.paddock (closeWork b) q.shape.rawBlock = (t1, false)) ∧
    (∃ b s q e x s1 t1 r, meets b s q e x ∧ due b s s1 ∧
      s1.takeTurn q.slice 1 b.paddock (closeWork b) q.shape.rawBlock = (t1, true) ∧
      t1.closeTail q.desc b.layer b.head b.block = .error r) ∧
    (∃ b s q e x s1 t1 t0, meets b s q e x ∧ due b s s1 ∧
      s1.takeTurn q.slice 1 b.paddock (closeWork b) q.shape.rawBlock = (t1, true) ∧
      (∀ f ∈ x.place.frames, f ∉ s.leasedFrames) ∧ t1.closeTail q.desc b.layer b.head b.block = .ok t0) := by
  have m : ∀ s : State, s.findSeq 1 9 = some fullSeq → s.seqAt 5 = some fullSeq → s.store.blocks = [] →
      s.placeOk fullTail.place = true → s.findSeq fullRef.paddock fullRef.seq = some fullSeq ∧ s.seqAt fullSeq.desc = some fullSeq ∧
      fullSeq.entry fullRef.layer fullRef.head fullRef.block = some fullEntry ∧ fullEntry.slot = .tail fullTail ∧
      fullTail.recs.length = 64 ∧ fullTail.lost = false ∧ fullSeq.state = .live ∧
      (∀ k ∈ s.store.blocks, k.num < s.store.nextBlock) ∧
      s.tailOk fullSeq fullRef.layer fullRef.head fullRef.block fullTail = true := fun s hf ha hb hp =>
    ⟨hf, ha, rfl, rfl, rfl, rfl, rfl, by simp [hb], fullTail_ok s hp⟩
  have mf : ∀ s ∈ [bulkShut, leasedFull, full, noRoom], s.findSeq 1 9 = some fullSeq ∧ s.seqAt 5 = some fullSeq ∧
      s.store.blocks = [] ∧ s.placeOk fullTail.place = true := by
    intro s hs
    simp only [List.mem_cons, List.not_mem_nil, or_false] at hs
    rcases hs with rfl | rfl | rfl | rfl <;> exact ⟨rfl, rfl, rfl, by decide +kernel⟩
  have mm := fun s hs => m s (mf s hs).1 (mf s hs).2.1 (mf s hs).2.2.1 (mf s hs).2.2.2
  have raw : fullSeq.shape.rawBlock = 1088 := by decide +kernel
  obtain ⟨t1, h1⟩ := closeTail_ok (turn full).1 ((turn_seqAt ..).trans rfl) (fullAlloc _ (by simp))
  obtain ⟨t2, h2⟩ := closeTail_ok (turn (timed full)).1 ((turn_seqAt ..).trans rfl) (fullAlloc _ (by simp))
  obtain ⟨r1, e1⟩ := closeTail_fails (turn noRoom).1 ((turn_seqAt ..).trans rfl) (by rw [turn_img]; rfl)
  obtain ⟨r2, e2⟩ := closeTail_fails (turn (timed noRoom)).1 ((turn_seqAt ..).trans rfl) (by rw [turn_img]; rfl)
  have on : ∀ s ∈ [full, timed full, leasedFull, noRoom, timed noRoom],
      s.takeTurn 0 1 1 (closeWork fullRef) 1088 = ((turn s).1, true) := fun s hs => Prod.ext rfl (turn_comes s hs)
  have off : ∀ s ∈ [bulkShut, timed bulkShut], s.takeTurn 0 1 1 (closeWork fullRef) 1088 = ((turn s).1, false) :=
    fun s hs => Prod.ext rfl ((by decide +kernel : ∀ s ∈ [bulkShut, timed bulkShut], (turn s).2 = false) s hs)
  have free : ∀ f ∈ fullTail.place.frames, f ∉ full.leasedFrames := by decide +kernel
  have due : ∀ s ∈ [full, noRoom, bulkShut], s.store.retries.find? (·.1 == fullRef) = some (fullRef, 5000) := by
    intro s hs
    simp only [List.mem_cons, List.not_mem_nil, or_false] at hs
    rcases hs with rfl | rfl | rfl <;> rfl
  rw [← raw] at on off
  exact ⟨⟨fullRef, bulkShut, fullSeq, fullEntry, fullTail, _, mm _ (by simp), off _ (by simp)⟩,
    ⟨fullRef, leasedFull, fullSeq, fullEntry, fullTail, _, mm _ (by simp), on _ (by simp), by decide +kernel⟩,
    ⟨fullRef, full, fullSeq, fullEntry, fullTail, _, t1, mm _ (by simp), on _ (by simp), free, h1⟩,
    ⟨fullRef, noRoom, fullSeq, fullEntry, fullTail, _, r1, mm _ (by simp), on _ (by simp), e1⟩,
    ⟨fullRef, bulkShut, fullSeq, fullEntry, fullTail, _, _, mm _ (by simp), ⟨_, due _ (by simp), rfl⟩,
      off (timed bulkShut) (by simp)⟩,
    ⟨fullRef, noRoom, fullSeq, fullEntry, fullTail, _, _, r2, mm _ (by simp), ⟨_, due _ (by simp), rfl⟩,
      on (timed noRoom) (by simp), e2⟩,
    ⟨fullRef, full, fullSeq, fullEntry, fullTail, _, _, t2, mm _ (by simp), ⟨_, due _ (by simp), rfl⟩, on (timed full) (by simp),
      free, h2⟩⟩

/-! ### Witnesses: attestation, links, storage -/

/-- A tenant-authenticated session over GWT, and one over DOE, and a paddock whose tenant they are. -/
def session (path : Nat) : Session := ⟨4, path, 2, [1], zeros 64, zeros 32, 0⟩
def keyed (st : PadState) : Pad := { tenant with state := st, config := { tenant.config with keyHash := [1] } }
def attested (st : PadState) (path : Nat) : State :=
  let s := withPad (keyed st) (withConns [conn 2])
  { s with sec := { s.sec with sessions := [session path] } }

/-- A vendor-defined request of paddock 1 in that session. -/
def vendor (cmd : Nat) : VendorReq := ⟨4, toBe 1 cmd ++ toBe 2 1 ++ zeros 34⟩

theorem witness_TenantSealsKeysAndTearsDown :
    (∃ (s : State) (x : Session), s.vendorSession (vendor 2) 2 = some x ∧ 1 ≤ vendorPaddock (vendor 2) ∧
      (s.pad 1).state = .open_ ∧ x.path ≠ 2) ∧
    (∃ (s : State) (x : Session), s.vendorSession (vendor 2) 2 = some x ∧ (s.pad 1).state = .awaitSeal ∧ x.path = 2 ∧
      s.padHolds 1 = true) ∧
    (∃ (s : State) (x : Session), s.vendorSession (vendor 2) 2 = some x ∧ (s.pad 1).state = .awaitSeal ∧ x.path = 2 ∧
      s.padHolds 1 = false ∧ s.sec.permitted = true) ∧
    (∃ (s : State) (x : Session) (q : Qp), s.vendorSession (vendor 2) 2 = some x ∧ (s.pad 1).state = .awaitSeal ∧ x.path = 2 ∧
      s.padHolds 1 = false ∧ s.tenantOf x 1 = true ∧ s.sec.permitted = false ∧ s.sec.dbgBusy = false ∧ (s.pad 1).kmem = [] ∧
      s.qp q.qpn = some q ∧ q.paddock = 1 ∧ q.service = 0) ∧
    (∃ (s : State) (x : Session), s.vendorSession (vendor 3) 3 = some x ∧ x.path = 2 ∧ (s.pad 1).state = .sealed ∧
      s.tenantOf x 1 = true) ∧
    (∃ (s : State) (x : Session), s.vendorSession (vendor 3) 3 = some x ∧ (s.pad 1).state = .teardown) ∧
    (∀ busy ∈ [false, true], ∃ (s : State) (x : Session), s.vendorSession (vendor 4) 4 = some x ∧ x.path = 2 ∧
      (s.pad 1).state = .sealed ∧ (s.maps.windows.map (·.index)).Nodup ∧ s.tenantOf x 1 = true ∧ (s.pad 1).zeroing = false ∧
      ((∃ o ∈ s.eng.ops, o.req.paddock = 1) ↔ busy = true)) := by
  let a := attested .awaitSeal 2
  refine ⟨⟨attested .open_ 0, session 0, by decide +kernel⟩,
    ⟨{ a with maps := { a.maps with windows := [window3] } }, session 2, by decide +kernel⟩,
    ⟨{ a with sec := { a.sec with permitted := true } }, session 2, by decide +kernel⟩, ⟨a, session 2, conn 2, by decide +kernel⟩,
    ⟨attested .sealed 2, session 2, by decide +kernel⟩, ⟨attested .teardown 2, session 2, by decide +kernel⟩,
    fun busy h => ⟨{ attested .sealed 2 with eng := { a.eng with ops := if busy then [committingOp] else [] } }, session 2, ?_⟩⟩
  revert busy; decide +kernel

theorem witness_SessionsReadWhatTheyMay :
    (∀ path ∈ [0, 2], ∃ (s : State) (x : Session), s.vendorSession (vendor 1) 1 = some x ∧ s.session x.id = some x ∧
      s.tenantOf x (vendorPaddock (vendor 1)) = true ∧ x.path = path) ∧
    (∀ path ∈ [0, 2], ∃ (s : State) (x : Session), s.vendorSession (vendor 5) 5 = some x ∧
      s.tenantOf x (vendorPaddock (vendor 5)) = true ∧ (s.pad 1).state ≠ .free ∧ x.path = path) ∧
    (∀ cmd ∈ [1, 5], ∃ (s : State) (x : Session), s.vendorSession (vendor cmd) cmd = some x ∧
      s.tenantOf x (vendorPaddock (vendor cmd)) = false) ∧
    (∃ (s : State) (x : Session), s.session x.id = some x ∧ s.restarting 0 = false) ∧
    (∀ sess ∈ [4, 5], ∃ (s : State) (qpn : Nat), (∀ m ∈ s.net.inbox, m.qpn = qpn → m.opcode ≠ 0x70) ∧
      ((s.sec.sessions.find? (·.id == sess)).isSome ↔ sess = 4) ∧ ((∀ y ∈ s.sec.sessions, y.id ≠ sess) ↔ sess = 5)) := by
  let a := attested .open_ 2
  refine ⟨fun path h => ⟨attested .open_ path, session path, ?_⟩, fun path h => ⟨attested .open_ path, session path, ?_⟩,
    fun cmd h => ⟨withPad tenant a, session 2, ?_⟩, ⟨a, session 2, by decide +kernel⟩, fun sess h => ⟨a, 2, ?_⟩⟩
  · revert path; decide +kernel
  · revert path; decide +kernel
  · revert cmd; decide +kernel
  · revert sess; decide +kernel

/-- A management connection. -/
def mgmtConn : Qp := { conn 2 with service := 1, paddock := 0 }

theorem witness_TunnelAndKeyExchange :
    (∃ (m : Msg) (s : State) (q : Qp), s.qp m.qpn = some q ∧ q.state = .ready ∧ q.admits 0x70 = true ∧ s.restarting 0 = false ∧
      m.body.length = 4096) ∧
    (∃ (m : Msg) (s : State) (q : Qp), s.qp m.qpn = some q ∧ q.state = .ready ∧ q.admits 0x70 = true ∧ s.restarting 0 = false ∧
      m.body.length = 4097) ∧
    (∀ path ≤ 2, ∃ (k : KeyExchange) (s : State) (q : Qp), k.path = path ∧ s.restarting 0 = false ∧ s.qp k.qpn = some q ∧
      q.service = 1 ∧ q.works = true ∧ (s.sec.sessions.filter (·.path == k.path)).length < sessionLimit k.path) ∧
    (∃ (k : KeyExchange) (s : State), k.path = 0 ∧ s.restarting 0 = false ∧
      (s.sec.sessions.filter (·.path == k.path)).length = sessionLimit k.path) := by
  let s := withConns [mgmtConn]
  refine ⟨⟨⟨2, 3, 10, 0x70, List.replicate 4096 0⟩, s, mgmtConn, rfl, rfl, rfl, rfl, List.length_replicate⟩,
    ⟨⟨2, 3, 10, 0x70, List.replicate 4097 0⟩, s, mgmtConn, rfl, rfl, rfl, rfl, List.length_replicate⟩,
    fun path h => ⟨⟨path, 2, true, [], []⟩, s, mgmtConn, ?_⟩,
    ⟨⟨0, 2, false, [], []⟩, { s with sec := { s.sec with sessions := [session 0, { session 0 with id := 5 }] } }, by decide +kernel⟩⟩
  revert path; decide +kernel

theorem witness_TdispMovesTheTdi : ∀ d ∈ [Tdi.unlocked, .locked, .run, .error], ∃ s : State, s.restarting 0 = false ∧ s.sec.tdi = d :=
  fun d _ => ⟨{ serving with sec := { serving.sec with tdi := d } }, rfl, rfl⟩

theorem witness_PauseAndLinkLoss : ∃ (link : Nat) (s : State) (d : Sched) (l : Link) (q : Qp), s.sched (16 + link) = some d ∧
    s.link link = some l ∧ l.up = true ∧ (∃ y ∈ s.net.links, y.id ≠ link ∧ y.up = true ∧ y.enabled = true) ∧
    q ∈ s.net.qps ∧ q.homePort = link :=
  ⟨0, withConns [conn 2], Sched.fresh (defaultImage true).sched 0 16, { Link.fresh 0 with up := true }, conn 2, by decide +kernel⟩

/-- A node in a start stage. -/
def inStage (st at_ : Nat) (s : State) : State := { s with boot := { s.boot with stage := st, stageAt := at_ } }

theorem witness_LinksTrainAndDiscover :
    (∀ st ∈ [8, 13], ∃ (link : Nat) (s : State) (l : Link), s.link link = some l ∧ l.up = false ∧ l.trains = true ∧
      s.boot.stage = st ∧ (st = 8 → s.boot.stageAt + 1500000000 ≤ s.time)) ∧
    (∃ s : State, s.boot.stage = 8 ∧ ∃ l ∈ s.net.links, l.up = true) ∧
    (∃ s : State, s.boot.stage = 8 ∧ ∀ l ∈ s.net.links, l.up = false) ∧
    (∃ (link : Nat) (s : State) (l : Link), s.link link = some l ∧ l.up = true ∧ l.reenable = false) ∧
    (∃ s : State, s.boot.stage = 9 ∧ ∃ l ∈ s.net.links, l.up = true ∧ l.neighbour = false) ∧
    (∃ s : State, s.boot.stage = 9 ∧ ∀ l ∈ s.net.links, l.up = true → l.neighbour = true) := by
  let dark : State := { serving with time := 1500000500, net := State.reset.net }
  refine ⟨fun st h => ⟨0, inStage st 500 dark, Link.fresh 0, ?_⟩, ⟨inStage 8 0 serving, by decide +kernel⟩,
    ⟨inStage 8 0 dark, by decide +kernel⟩, ⟨4, serving, { Link.fresh 4 with up := true }, by decide +kernel⟩,
    ⟨inStage 9 0 serving, by decide +kernel⟩, ⟨inStage 9 0 dark, by decide +kernel⟩⟩
  revert st; decide +kernel

theorem witness_PtpCorrectsTheTimebase :
    (∃ s : State, s.pwr.holdover = true) ∧
    (∀ offset ∈ [(1000 : Int), -18446744073709550615], ∃ s : State, s.pwr.holdover = false ∧
      (∃ l ∈ s.net.links, l.id / 4 = s.img.transport.ptpPort ∧ l.up = true) ∧ 0 ≤ (s.time : Int) - offset ∧
      (s.time : Int) - offset < 2 ^ 64) := by
  refine ⟨⟨{ serving with pwr := { serving.pwr with holdover := true } }, rfl⟩, fun offset h => ⟨serving, ?_⟩⟩
  revert offset; decide +kernel

theorem witness_DeferredFreeWaitsForEarlierOperations : ∀ i ∈ [1, 2], ∃ (block : Nat) (s : State) (d : DeferredFree),
    (s.store.deferred.find? fun x => x.block == block) = some d ∧ ((∃ i ∈ d.after, (s.op i).isSome = true) ↔ i = 1) ∧
    ((∀ i ∈ d.after, s.op i = none) ↔ i = 2) := by
  intro i h
  refine ⟨1, { fronted with store := { fronted.store with deferred := [⟨1, 5, 1, 1, ⟨.tier1, 300000, 0, 2, 0⟩, [if i = 1 then 1 else 7]⟩] } },
    ⟨1, 5, 1, 1, ⟨.tier1, 300000, 0, 2, 0⟩, [if i = 1 then 1 else 7]⟩, ?_⟩
  revert i; decide +kernel

/-- A node with one sequence. -/
def holding (q : Seq) : State := { serves with store := { serves.store with seqs := [q] } }

/-- A releasing sequence, in a slice whose background class has its turn or has none. -/
def gone : Seq := { seq9 with state := .releasing }
def freeing (ok : Bool) : State :=
  (holding gone).putSched { Sched.fresh (defaultImage true).sched 0 0 with gcl := [⟨1000000, if ok then 255 else 2, 15⟩] }
def freeTurn (ok : Bool) : State × Bool := (freeing ok).takeTurn gone.slice 2 gone.paddock ⟨.free, gone.paddock, [5, gone.generation]⟩ 0

theorem freeTurn_is : ∀ ok ∈ [false, true], (freeTurn ok).2 = ok := by decide +kernel

theorem witness_ExpiryAndRelease :
    (∀ copy ∈ [true, false], ∃ (paddock seq : Nat) (s : State) (q : Seq), s.findSeq paddock seq = some q ∧
      s.seqAt q.desc = some q ∧ q.deadline ≠ 0 ∧ q.mirrorCopy = copy ∧
      (∀ x ∈ s.store.seqs, x.paddock = paddock → x.id = seq → x.state ≠ .releasing → x = q) ∧ (s.store.seqs.map (·.desc)).Nodup) ∧
    (∃ (desc : Nat) (s : State) (q : Seq), s.seqAt desc = some q ∧ q.state.leaving = true ∧ q.ref ≠ 0) ∧
    (∀ ok ∈ [false, true], ∃ (desc : Nat) (s : State) (q : Seq) (t1 : State), (s.seqAt desc = some q ∧
      q.state.leaving = true ∧ q.ref = 0) ∧
      s.takeTurn q.slice 2 q.paddock ⟨.free, q.paddock, [desc, q.generation]⟩ 0 = (t1, ok)) := by
  refine ⟨fun c h => ⟨1, 9, holding { seq9 with deadline := 2000, mirrorCopy := c }, { seq9 with deadline := 2000, mirrorCopy := c }, ?_⟩,
    ⟨5, holding { gone with ref := 1 }, { gone with ref := 1 }, by decide +kernel⟩, fun ok h => ?_⟩
  · revert c; decide +kernel
  refine ⟨5, freeing ok, gone, (freeTurn ok).1, ?_, pair_of (freeTurn_is ok h)⟩
  revert ok; decide +kernel

/-- A closed raw block of 64 zero records of sequence 9 with the check of its bytes, or of wrong length. -/
def block1 (len : Nat) : Block :=
  ⟨1, 1, 0, ⟨.tier1, 300000, 0, 3, 0⟩, 0, 2, List.replicate len 0, [], 0, toLe 4 (crc32c (List.replicate len 0)).toNat ++ zeros 12,
    [], false, true, 1, 0, 0, 0⟩
def closedEntry : Entry := ⟨0, 0, 0, .closed 1, 3, false, false⟩
def closedSeq : Seq := { seq9 with lens := [64], pages := [⟨0, 1, [], 0, zeros 16, false⟩], entries := [closedEntry] }
def withBlock (b : Block) : State := { serves with store := { serves.store with seqs := [closedSeq], blocks := [b], nextBlock := 2 } }

theorem block_ok (s : State) (len : Nat) (r : RecShape) (fitted : s.placeOk (block1 len).place = true) :
    s.blockOk false r (block1 len) = (blockRecords r 2 (List.replicate len 0)).isSome := by
  have cipher : ((block1 len).cipher == s.blockCipher 1 false 0 (List.replicate len 0)) = true := rfl
  have check : (block1 len).check = s.blockCheck 1 false 0 0 0 0 2 3 (List.replicate len 0) := rfl
  show (s.placeOk (block1 len).place && ((block1 len).cipher == s.blockCipher 1 false 0 (List.replicate len 0)) &&
    ((block1 len).check == s.blockCheck 1 false 0 0 0 0 2 3 (List.replicate len 0)) && _) = _
  rw [fitted, cipher, check]
  simp only [Bool.true_and, beq_self_eq_true, block1]

theorem witness_RestorationClearsLost :
    (∀ len ∈ [1088, 1], ∃ (b : BlockRef) (s : State) (q : Seq) (e : Entry) (n : Nat) (k : Block), (s.findSeq b.paddock b.seq = some q ∧
      q.entry b.layer b.head b.block = some e ∧ e.slot = .closed n ∧ s.block n = some k) ∧
      s.blockOk q.sealed q.shape.recShape k = decide (len = 1088)) ∧
    (∀ bad ∈ [true, false], ∃ (p i : Nat) (s : State) (q : Seq), s.findSeq p i = some q ∧ s.seqAt q.desc = some q ∧
      q.state = .lost ∧ s.maps.fault.stoppedSlices.contains q.slice = bad ∧ s.objectsOk q q.entries = true) ∧
    (∃ (p i : Nat) (s : State) (q : Seq), s.findSeq p i = some q ∧ s.seqAt q.desc = some q ∧ q.state = .lost ∧
      s.objectsOk q q.entries = false) := by
  let gone : Seq := { seq9 with state := .lost }
  refine ⟨fun len h => ⟨⟨1, 9, 0, 0, 0⟩, withBlock (block1 len), closedSeq, closedEntry, 1, block1 len, ⟨rfl, rfl, rfl, rfl⟩, ?_⟩,
    fun bad h => ⟨1, 9, if bad then after (.stackStop 0) (holding gone) else holding gone, gone, ?_⟩,
    ⟨1, 9, holding { gone with entries := [closedEntry] }, { gone with entries := [closedEntry] }, by decide +kernel⟩⟩
  · show State.blockOk _ false _ _ = _
    have same : (withBlock (block1 len)).placeOk (block1 len).place = (withBlock (block1 0)).placeOk (block1 0).place := rfl
    have fitted := same.trans (show _ = true by decide +kernel)
    rw [block_ok _ _ _ fitted]
    revert len; decide +kernel
  · revert bad; decide +kernel

theorem witness_HeatSweepHalvesHeat :
    (∃ s : State, s.awake = false) ∧
    (∃ (die : Nat) (s : State) (q : Seq), s.awake = true ∧ q ∈ s.store.seqs ∧
      (∃ c ∈ s.img.slices, c.id = q.slice ∧ c.dies.head? = some die)) ∧
    (∃ (die : Nat) (s : State) (q : Seq), s.awake = true ∧ q ∈ s.store.seqs ∧
      (∀ c ∈ s.img.slices, c.id = q.slice → c.dies.head? ≠ some die)) :=
  ⟨⟨{ serving with pwr := { serving.pwr with state := .n2 } }, by decide +kernel⟩,
    ⟨0, withBlock (block1 1), closedSeq, rfl, by simp [withBlock], by decide +kernel⟩,
    ⟨1, withBlock (block1 1), closedSeq, rfl, by simp [withBlock], by decide +kernel⟩⟩

/-- A slice of two data frames that two blocks of 62 units nearly fill, one of them on a Tier-2 port with room. -/
def smallSlice : SliceCfg := { defaultSlice true 0 with hbms := [0], metaFrames := 1864134 }
def filling (n frame : Nat) (t : Tier) : Block :=
  ⟨n, 1, 0, ⟨t, frame, 0, 62, 0⟩, 0, 2, [], [], 0, [], [], false, false, 1, 0, 0, n - 1⟩
def crowded : State :=
  let q : Seq := { seq9 with
    lens := [192], entries := [⟨0, 0, 0, .closed 1, 0, false, false⟩, ⟨0, 0, 1, .closed 2, 1, false, false⟩, ⟨0, 0, 2, .closed 3, 9, false, false⟩] }
  let s := withEpoch (withPad tenant serving)
  { s with
    img := { s.img with slices := [smallSlice] }
    store := { s.store with
      seqs := [q], blocks := [filling 1 1864134 .tier1, filling 2 1864135 .tier1, { filling 3 536870912 (.tier2 0) with place := ⟨.tier2 0, 536870912, 0, 2, 0⟩ }]
      nextBlock := 4, ports := [⟨0, true, false, 100, []⟩] } }

theorem allocT2_some (s : State) (p : Tier2Port) (slice paddock shift units : Nat)
    (ports : (s.store.ports.filter fun p => p.present && !p.lost && s.portServes slice p.port) = [p])
    (h : openPlaces s.store.places paddock (fun f => tier2Base p.port ≤ f && f < tier2Base p.port + p.count)
      (s.store.dirty ++ s.store.retired ++ s.leasedFrames) (.tier2 p.port) shift units ≠ []) :
    ∃ x y, s.allocT2 slice paddock shift units = some (x, y) := by
  obtain ⟨x, hx⟩ := allocIn_some s paddock (.tier2 p.port) (fun i => tier2Base p.port + i) p.count _ shift units h
  exact ⟨x.1, x.2, by simp [State.allocT2, ports, hx]⟩

/-- A block on its way to a Tier-2 port. -/
def move6 : Move := ⟨6, 1, ⟨.tier1, 300000, 0, 3, 0⟩, ⟨.tier2 0, 536870912, 2, 3, 0⟩⟩
def moving (b : Block) : State :=
  let s := withBlock b
  { s with store := { s.store with moves := [move6], ports := [⟨0, true, false, 100, []⟩] } }
/-- The lease of a pseudo-channel, over frames. -/
def leaseOf (stack : Nat) (phase : LeasePhase) (pcs frames : List Nat) : Lease :=
  ⟨1, ⟨stack, pcs, 0, frames, 1, 0, 256, 0, 0⟩, phase, 0, none, 0, 0, 1, [], none, 0, false⟩

/-- A node whose bulk and background classes have their turn or have none: with a freed Tier-2 frame, and short of frames. -/
def gated (ok : Bool) (s : State) : State :=
  s.putSched { Sched.fresh (defaultImage true).sched 0 0 with gcl := [⟨1000000, if ok then 255 else 1, 15⟩] }
def idling (ok : Bool) : State :=
  gated ok { serving with store := { serving.store with dirty := [536870962], ports := [⟨0, true, false, 100, []⟩] } }
def settled (ok : Bool) : State :=
  ((idling ok).watermarkOwners (defaultSlice true 0)).foldl (fun t o => t.issueMove (defaultSlice true 0) o) (idling ok)
def zeroTurn (ok : Bool) : State × Bool := (settled ok).takeTurn 0 2 0 ⟨.zero, 0, [536870962]⟩ 32768
def low (ok : Bool) : State :=
  { gated ok crowded with store := { (gated ok crowded).store with demoting := (gated ok crowded).store.demoting ++ [(smallSlice.id, 0)] } }
def lowBlock : Block := filling 1 1864134 .tier1
def lowTurn (ok : Bool) : State × Bool :=
  (low ok).moveTurn (if ((low ok).below smallSlice 0 smallSlice.freeCrit || (low ok).tailless smallSlice 0) = true then 1 else 2) 0 lowBlock

theorem zeroTurn_is : ∀ ok ∈ [false, true], (zeroTurn ok).2 = ok := by decide +kernel

theorem lowTurn_is (ok : Bool) (h : ok ∈ [false, true]) : (lowTurn ok).2 = ok := by
  have either : ∀ ok ∈ [false, true], ∀ cls ∈ [1, 2], ((low ok).moveTurn cls 0 lowBlock).2 = ok := by decide +kernel
  unfold lowTurn
  split <;> exact either ok h _ (by decide)

theorem lowTurn_room : ∃ p t0, (lowTurn true).1.allocT2 smallSlice.id lowBlock.paddock lowBlock.place.shift lowBlock.whole.units = some (p, t0) := by
  have ports : ∀ cls ∈ [1, 2], (((low true).moveTurn cls 0 lowBlock).1.store.ports.filter fun p => p.present && !p.lost &&
      ((low true).moveTurn cls 0 lowBlock).1.portServes smallSlice.id p.port) = [⟨0, true, false, 100, []⟩] := by decide +kernel
  have room : ∀ cls ∈ [1, 2], openPlaces ((low true).moveTurn cls 0 lowBlock).1.store.places lowBlock.paddock (fun f =>
      tier2Base 0 ≤ f && f < tier2Base 0 + (⟨0, true, false, 100, []⟩ : Tier2Port).count)
      (((low true).moveTurn cls 0 lowBlock).1.store.dirty ++ ((low true).moveTurn cls 0 lowBlock).1.store.retired ++
        ((low true).moveTurn cls 0 lowBlock).1.leasedFrames) (.tier2 0) lowBlock.place.shift lowBlock.whole.units ≠ [] := by
    decide +kernel
  unfold lowTurn
  split <;> exact allocT2_some _ ⟨0, true, false, 100, []⟩ _ _ _ _ (ports _ (by decide)) (room _ (by decide))

theorem witness_MigrationMovesPlacesOnly :
    (∀ ok ∈ [false, true], ∃ (slice f : Nat) (s t0 t1 : State) (c : SliceCfg) (x : Tier2Port), (s.sliceCfg slice = some c ∧
      s.awake = true ∧ s.restarting 3 = false ∧ s.host.slicesOff.contains slice = false ∧
      (∀ f ∈ s.store.retired, f ∈ s.farrier.frames) ∧ (∀ x ∈ s.pads, x.state ≠ .teardown) ∧ s.store.dirty = [f] ∧
      x ∈ s.store.ports ∧ x.present = true ∧ x.lost = false ∧ s.portServes slice x.port = true ∧ tier2Base x.port ≤ f ∧
      f < tier2Base x.port + 134217728) ∧ t0 = (s.watermarkOwners c).foldl (fun t o => t.issueMove c o) s ∧
      t0.takeTurn slice 2 0 ⟨.zero, 0, [f]⟩ 32768 = (t1, ok)) ∧
    (∀ ok ∈ [false, true], ∃ (slice : Nat) (s s1 t1 : State) (c : SliceCfg) (b : Block), (s.sliceCfg slice = some c ∧
      c.policy = 0 ∧ s.awake = true ∧
      s.restarting 3 = false ∧ s.host.slicesOff.contains slice = false ∧ (c.id, 0) ∉ s.store.demoting ∧ s.below c 0 c.freeLow = true ∧
      (∀ x ∈ s.pads, x.state ≠ .teardown) ∧ (∀ f ∈ s.store.retired, f ∈ s.farrier.frames)) ∧
      s1 = { s with store := { s.store with demoting := s.store.demoting ++ [(c.id, 0)] } } ∧ s1.demoteNext c 0 = some b ∧
      (s1.allocT2 c.id b.paddock b.place.shift b.whole.units).isSome = true ∧
      s1.moveTurn (if (s1.below c 0 c.freeCrit || s1.tailless c 0) = true then 1 else 2) 0 b = (t1, ok) ∧
      (ok = true → ∃ p t0, t1.allocT2 c.id b.paddock b.place.shift b.whole.units = some (p, t0))) ∧
    (∀ k ∈ [0, 1], ∃ (move : Nat) (s : State) (m : Move) (b : Block), (s.store.moves.find? fun x => x.id == move) = some m ∧
      s.block m.block = some b ∧ ((∃ f ∈ m.source.frames ++ m.target.frames, f ∈ s.leasedFrames) ↔ k = 0) ∧
      s.mustHold (s.channelsOf m.source ++ s.channelsOf m.target) = decide (k = 1)) ∧
    (∃ (move : Nat) (s : State) (m : Move) (b : Block) (x : Seq × Entry), (s.store.moves.find? fun x => x.id == move) = some m ∧
      s.block m.block = some b ∧ (∀ f ∈ m.source.frames ++ m.target.frames, f ∉ s.leasedFrames) ∧
      s.mustHold (s.channelsOf m.source ++ s.channelsOf m.target) = false ∧ b.whole = m.source ∧ b.lost = false ∧
      (∀ x ∈ s.namers m.block, x.1.state = .live) ∧ s.portLost m.target = false ∧ (s.namers m.block).head? = some x ∧
      s.blockOk x.1.sealed x.1.shape.recShape { b with place := { m.target with units := b.place.units } } = true) ∧
    (∀ k ∈ [0, 1, 2], ∃ (move : Nat) (s : State) (m : Move) (b : Block), (s.store.moves.find? fun x => x.id == move) = some m ∧
      s.block m.block = some b ∧ (∀ f ∈ m.source.frames ++ m.target.frames, f ∉ s.leasedFrames) ∧
      s.mustHold (s.channelsOf m.source ++ s.channelsOf m.target) = false ∧ (b.lost = true ↔ k = 0) ∧ (b.whole ≠ m.source ↔ k = 1) ∧
      s.portLost m.target = decide (k = 2)) := by
  let kept : Block := { block1 1088 with lost := false }
  refine ⟨fun ok h => ⟨0, 536870962, idling ok, settled ok, (zeroTurn ok).1, defaultSlice true 0, ⟨0, true, false, 100, []⟩, ?_, rfl,
      pair_of (zeroTurn_is ok h)⟩,
    fun ok h => ⟨0, gated ok crowded, low ok, (lowTurn ok).1, smallSlice, lowBlock, ?_, rfl, ?_, ?_, pair_of (lowTurn_is ok h),
      fun e => by subst e; exact lowTurn_room⟩,
    fun k h => ⟨6, { moving { block1 0 with lost := false } with leases := { (moving (block1 0)).leases with
      leases := [if k = 0 then leaseOf 0 .draining [1] [300000] else leaseOf 1 .running [32] []] } }, move6,
      { block1 0 with lost := false }, ?_⟩,
    ⟨6, moving kept, move6, kept, (closedSeq, closedEntry), rfl, rfl, by decide +kernel, by decide +kernel, rfl, rfl, by decide +kernel,
      by decide +kernel, rfl, ?_⟩,
    fun k h => ⟨6, { moving { block1 0 with lost := decide (k = 0), place := ⟨.tier1, if k = 1 then 5 else 300000, 0, 3, 0⟩ } with
      store := { (moving { block1 0 with lost := decide (k = 0), place := ⟨.tier1, if k = 1 then 5 else 300000, 0, 3, 0⟩ }).store with
        ports := [⟨0, true, decide (k = 2), 100, []⟩] } }, move6,
      { block1 0 with lost := decide (k = 0), place := ⟨.tier1, if k = 1 then 5 else 300000, 0, 3, 0⟩ }, ?_⟩⟩
  · revert ok; decide +kernel
  · revert ok; decide +kernel
  · revert ok; decide +kernel
  · obtain ⟨p, t, e⟩ := allocT2_some (low ok) ⟨0, true, false, 100, []⟩ smallSlice.id 1 0 62 (by revert ok; decide +kernel)
      (by revert ok; decide +kernel)
    show ((low ok).allocT2 smallSlice.id 1 0 62).isSome = true
    rw [e]; rfl
  · revert k; decide +kernel
  · have ok : (moving kept).placeOk { move6.target with units := 3 } = true := by decide +kernel
    have recs : (blockRecords closedSeq.shape.recShape 2 (List.replicate 1088 0)).isSome = true := by decide +kernel
    show ((moving kept).placeOk { move6.target with units := 3 } && _ && _ && _) = true
    rw [ok]
    simp only [Bool.true_and, Bool.and_eq_true, beq_iff_eq]
    exact ⟨⟨rfl, rfl⟩, recs⟩
  · revert k; decide +kernel

/-! ### Witnesses: Tier-2 ports, stacks, leases, repair -/

/-- A node whose flex port 0 is a Tier-2 port. -/
def withPort (lost : Bool) : State :=
  { serving with store := { serving.store with ports := [⟨0, true, lost, 100, []⟩, ⟨1, false, false, 0, []⟩] } }

theorem witness_TierTwoPortsFailAndReturn :
    (∀ lost ∈ [true, false], ∃ (port : Nat) (s : State) (x : Tier2Port), (s.store.ports.find? fun y => y.port == port) = some x ∧
      x.present = true ∧ x.lost = lost) ∧
    (Config.cxlFatal [1] = false → ∃ (port : Nat) (record : Bytes) (s : State) (x : Tier2Port),
      (s.store.ports.find? fun y => y.port == port) = some x ∧ x.present = true ∧ s.restarting 5 = false ∧ s.log.records = [] ∧
      Config.cxlFatal record = false) := by
  refine ⟨fun lost h => ⟨0, withPort lost, ⟨0, true, lost, 100, []⟩, ?_⟩,
    fun h => ⟨0, [1], withPort false, ⟨0, true, false, 100, []⟩, by decide +kernel, rfl, by decide +kernel, rfl, h⟩⟩
  revert lost; decide +kernel

/-- A request for ZERO on stack 1, pseudo-channel 32 of slice 0, and the lease made of it. -/
def zeroReq : LeaseReq := ⟨1, [32], 50000, [300000], 1, 4, 256, 0, 0⟩
def result1 : ProgramResult := ⟨1, 1, 900, [], []⟩
def lease (ph : LeasePhase) (code : Nat) : Lease :=
  ⟨3, zeroReq, ph, 51000, some { result1 with result := code }, code, 0, 1, [], if ph = .running then some 0 else none, 0, false⟩
def leasing (l : Lease) : State := { serving with leases := { serving.leases with leases := [l], nextLease := 4 } }

theorem witness_StacksStopHeatAndRefresh :
    (∃ (stack : Nat) (s : State) (x : Stack) (c : SliceCfg), (s.store.hbms.find? fun y => y.index == stack) = some x ∧
      x.stopped = false ∧ c ∈ s.img.slices ∧ c.hbms.contains stack = true) ∧
    (∀ l ∈ [true, false], ∃ (stack pc : Nat) (s : State) (x : Stack), (s.store.hbms.find? fun y => y.index == stack) = some x ∧
      s.leased stack pc = l ∧ s.selfRefresh = false ∧ pc < x.refreshes.length) ∧
    (∃ (stack : Nat) (s : State) (x : Stack), (s.store.hbms.find? fun y => y.index == stack) = some x ∧ s.selfRefresh = true) := by
  refine ⟨⟨1, serving, Stack.fresh 1, defaultSlice true 0, by decide +kernel⟩,
    fun l h => ⟨1, if l then 32 else 33, leasing (lease .running 0), Stack.fresh 1, ?_⟩,
    ⟨1, { serving with pwr := { serving.pwr with state := .n2 } }, Stack.fresh 1, by decide +kernel⟩⟩
  revert l; decide +kernel

/-- The node with a bundle whose ZERO declares an ABI. -/
def declaring (abi : Nat) : State := { serving with leases := { serving.leases with programs := [(4, abi)] } }

/-- A slice of sealed policy. -/
def sealedSlice : State :=
  { declaring 256 with img := { serving.img with slices := [{ defaultSlice true 0 with policy := 1 }] } }

/-- The background class of slice 0 is never open. -/
def backgroundShut (s : State) : State := s.putSched { Sched.fresh (defaultImage true).sched 0 0 with gcl := [⟨1000000, 2, 15⟩] }

/-- A sealed-policy slice whose last round was at 500. -/
def rounded : State := { sealedSlice with leases := { sealedSlice.leases with rounds := [(0, 500)] } }

/-- The node at which a request for that lease has its turn or has none. -/
def leaseTurned (ok : Bool) : State := if ok then declaring 256 else backgroundShut (declaring 256)

theorem leaseTurn_is : ∀ ok ∈ [true, false], ((leaseTurned ok).takeTurn (defaultSlice true 0).id 2 zeroReq.paddock
    (leaseWork zeroReq zeroReq.paddock) (zeroReq.frames.length * 32768)).2 = ok := by decide +kernel

theorem witness_LeasesAreGrantedOrRefused :
    let meets := fun (r : LeaseReq) (s : State) (c : SliceCfg) => s.stackSlice r.stack = some c ∧ s.noTeardown ∧
      s.stackStopped r.stack = false ∧ s.restarting 3 = false ∧ (r.stack, r.program) ∉ s.leases.withheld
    let runs := fun (s : State) (c : SliceCfg) => s.awake = true ∧ c.id ∉ s.host.slicesOff
    (∃ r s c, meets r s c ∧ s.awake = false) ∧
    (∃ r s c, meets r s c ∧ c.id ∈ s.host.slicesOff) ∧
    (∃ r s c, meets r s c ∧ runs s c ∧ c.policy ≠ 0 ∧ abiRuns (s.programAbi r.program) = true ∧ s.leaseFits c r = true) ∧
    (∀ ok ∈ [true, false], ∃ r s c t1, meets r s c ∧ (runs s c ∧ c.policy = 0 ∧ abiRuns (s.programAbi r.program) = true ∧
      s.leaseFits c r = true ∧ (s.leasedPcs r.stack).length + r.pcs.length ≤ c.leasePcs ∧
      (∀ p ∈ r.pcs, p ∉ s.leasedPcs r.stack)) ∧
      s.takeTurn c.id 2 r.paddock (leaseWork r r.paddock) (r.frames.length * 32768) = (t1, ok)) ∧
    (∀ abi ∈ [512, 259], ∃ r s c, meets r s c ∧ runs s c ∧ s.programAbi r.program = abi ∧
      abiRuns (s.programAbi r.program) = false ∧ s.log.records = [] ∧ s.restarting 5 = false) ∧
    (∀ duration ∈ [999, 1000001], ∃ r s c, meets r s c ∧ runs s c ∧ r.durationNs = duration ∧ s.leaseFits c r = false ∧
      s.log.records = [] ∧ s.restarting 5 = false) ∧
    (∃ (slice : Nat) (s : State) (c : SliceCfg), s.sliceCfg slice = some c ∧ c.policy = 0) ∧
    (∃ (slice : Nat) (s : State) (c : SliceCfg), s.sliceCfg slice = some c ∧ slice ∈ s.host.slicesOff) ∧
    (∃ (slice : Nat) (s : State) (c : SliceCfg) (r : Nat), s.sliceCfg slice = some c ∧ c.policy ≠ 0 ∧
      slice ∉ s.host.slicesOff ∧ s.noTeardown ∧
      s.restarting 3 = false ∧ c.hbms.Nodup ∧ 1 ≤ c.leasePcs ∧ c.leasePcs ≤ 16 ∧ (∀ l ∈ s.leases.leases, l.req.stack ∉ c.hbms) ∧
      s.leases.rounds.find? (·.1 == slice) = some (slice, r)) := by
  have quiet : ∀ s : State, s.pads = serving.pads → s.noTeardown := by
    intro s h x hx
    rw [h] at hx
    revert x; decide +kernel
  have at1 : serving.stackSlice 1 = some (defaultSlice true 0) := by decide +kernel
  have works : serving.stackStopped 1 = false := by decide +kernel
  have all : ∀ s : State, s.img.slices = serving.img.slices → s.store.hbms = serving.store.hbms → s.pads = serving.pads →
      s.ostlers = serving.ostlers → s.leases.withheld = [] → s.stackSlice 1 = some (defaultSlice true 0) ∧ s.noTeardown ∧
      s.stackStopped 1 = false ∧ s.restarting 3 = false ∧ ((1, 4) : Nat × Nat) ∉ s.leases.withheld := by
    intro s hi hh hp ho hw
    refine ⟨?_, quiet s hp, ?_, ?_, by rw [hw]; exact List.not_mem_nil⟩
    · rw [← at1]; simp only [State.stackSlice, hi]
    · rw [← works]; simp only [State.stackStopped, hh]
    · simp only [State.restarting, ho]; decide +kernel
  refine ⟨⟨zeroReq, { serving with pwr := { serving.pwr with state := .n2 } }, defaultSlice true 0,
      all _ rfl rfl rfl rfl rfl, by decide +kernel⟩,
    ⟨zeroReq, { serving with host := { serving.host with slicesOff := [0] } }, defaultSlice true 0,
      all _ rfl rfl rfl rfl rfl, by decide +kernel⟩,
    ⟨zeroReq, sealedSlice, { defaultSlice true 0 with policy := 1 },
      ⟨by decide +kernel, quiet _ rfl, by decide +kernel⟩, by decide +kernel⟩,
    fun ok h => ⟨zeroReq, leaseTurned ok, defaultSlice true 0, _, all _ (by revert ok; decide +kernel) (by revert ok; decide +kernel)
      (by revert ok; decide +kernel) (by revert ok; decide +kernel) (by revert ok; decide +kernel), by revert ok; decide +kernel,
      pair_of (leaseTurn_is ok h)⟩,
    fun abi h => ⟨zeroReq, declaring abi, defaultSlice true 0, all _ rfl rfl rfl rfl rfl, by revert abi; decide +kernel⟩,
    fun d h => ⟨{ zeroReq with durationNs := d }, declaring 256, defaultSlice true 0, all _ rfl rfl rfl rfl rfl,
      by revert d; decide +kernel⟩,
    ⟨0, serving, defaultSlice true 0, by decide +kernel⟩,
    ⟨0, { serving with host := { serving.host with slicesOff := [0] } }, defaultSlice true 0, by decide +kernel⟩,
    ⟨0, rounded, { defaultSlice true 0 with policy := 1 }, 500, by decide +kernel, by decide +kernel, by decide +kernel, quiet _ rfl, by decide +kernel⟩⟩

theorem witness_LeaseStartsAndRefreshes :
    (∃ (i : Nat) (s : State) (l : Lease), (s.leases.leases.find? fun x => x.id == i) = some l ∧ l.phase = .draining ∧
      l.req.frames ≠ [] ∧ ∀ x ∈ s.leases.leases, x.core = none) ∧
    (∃ (i : Nat) (s : State) (l : Lease), (s.leases.leases.find? fun x => x.id == i) = some l ∧ l.phase = .draining ∧
      l.req.frames = []) ∧
    (∃ (i : Nat) (s : State) (l : Lease) (pc : Nat) (x : Stack), (s.leases.leases.find? fun x => x.id == i) = some l ∧
      l.phase = .running ∧ pc ∈ l.req.pcs ∧ (s.store.hbms.find? fun y => y.index == l.req.stack) = some x ∧
      pc < x.refreshes.length) :=
  let idle : Lease := { lease .draining 0 with req := { zeroReq with frames := [] } }
  ⟨⟨3, leasing (lease .draining 0), lease .draining 0, by decide +kernel⟩, ⟨3, leasing idle, idle, by decide +kernel⟩,
    ⟨3, leasing (lease .running 0), lease .running 0, 32, Stack.fresh 1, by decide +kernel⟩⟩

theorem witness_LeaseProgramsEnd :
    let runs := fun (i : Nat) (s : State) (l : Lease) =>
      (s.leases.leases.find? fun x => x.id == i) = some l ∧ l.phase = .running
    (∀ address ∈ [300000 * 32768 + 32767, 300001 * 32768], ∃ i s l c, runs i s l ∧ s.stackSlice l.req.stack = some c ∧
      (address / 32768 ∈ l.fence c ↔ address = 300000 * 32768 + 32767) ∧ l.core ≠ none ∧ s.restarting 5 = false ∧
      s.log.records = []) ∧
    (∃ i s l, runs i s l ∧ l.core = none) ∧
    (∃ i s l, runs i s l ∧ l.core ≠ none ∧ s.time ≤ l.expires ∧
      (l.req.program = 3 → (s.pad l.req.paddock).state ≠ .sealed) ∧ l.req.program ≠ 4) := by
  let scrub : Lease := { lease .running 0 with req := { zeroReq with program := 1 } }
  let spent : Lease := { lease .running 0 with core := none }
  refine ⟨fun a h => ⟨3, leasing (lease .running 0), lease .running 0, defaultSlice true 0, by decide +kernel, by decide +kernel,
      ?_, by decide +kernel, by decide +kernel, rfl⟩,
    ⟨3, leasing spent, spent, by decide +kernel⟩, ⟨3, leasing scrub, scrub, by decide +kernel⟩⟩
  revert a; decide +kernel

theorem witness_ZeroClearsItsFrames : ∃ (i : Nat) (s : State) (l : Lease) (r : ProgramResult),
    (s.leases.leases.find? fun x => x.id == i) = some l ∧ l.phase = .running ∧ l.core ≠ none ∧ s.time ≤ l.expires ∧
    l.req.program = 4 ∧ r.result = 0 ∧ Memory.wf s.mem = true ∧ (∃ k < 32768, Memory.read s.mem (300000 * 32768 + k) ≠ 0) ∧
    (∀ f ∈ l.req.frames, ∀ c, s.sliceOfFrame f = some c → c.eccPlace f = none) := by
  let s : State := { leasing (lease .running 0) with mem := [⟨300000 * 32768 + 5, 7⟩] }
  have slice : s.sliceOfFrame 300000 = some (defaultSlice true 0) := by decide +kernel
  have data : (defaultSlice true 0).eccPlace 300000 = none := by decide +kernel
  refine ⟨3, s, lease .running 0, { result1 with result := 0 }, by decide +kernel, rfl, by decide +kernel, by decide +kernel, rfl,
    rfl, by decide +kernel, ⟨5, by decide, by decide +kernel⟩, fun f hf c hc => ?_⟩
  have : f = 300000 := List.mem_singleton.1 hf
  subst this
  rw [slice, Option.some.injEq] at hc
  rw [← hc, data]

theorem witness_ReturnedLeaseDeliversItsResult :
    let meets := fun (i : Nat) (s : State) (l : Lease) (r : ProgramResult) =>
      (s.leases.leases.find? fun x => x.id == i) = some l ∧ l.phase = .returning ∧ l.result = some r ∧ l.req.program = 4 ∧
      s.store.held = [] ∧ ∀ f ∈ l.req.frames, f ∉ s.store.retired
    (∃ i s l r, meets i s l r ∧ s.restarting 3 = true) ∧
    (∀ code ≤ 1, ∃ i s l r, meets i s l r ∧ s.restarting 3 = false ∧ l.code = code ∧
      (s.pad l.req.paddock).state ≠ .teardown ∧ r.nextFrame < l.req.frames.length) := by
  let l : Nat → Lease := fun code => { lease .returning code with
    req := { zeroReq with frames := [300000, 300006] }, result := some ⟨code, 1, 900, [], []⟩ }
  refine ⟨⟨3, { leasing (lease .returning 0) with ostlers := [{ Ostler.fresh 3 with restarting := true }] }, lease .returning 0,
      { result1 with result := 0 }, by decide +kernel⟩,
    fun code h => ⟨3, leasing (l code), l code, ⟨code, 1, 900, [], []⟩, ?_⟩⟩
  revert code; decide +kernel

/-- A node whose first cluster of die 0 has this use, and a running unit on it where `busy`. -/
def clusterUse (u : ClusterUse) : State :=
  { serving with eng := { serving.eng with clusters := { Cluster.fresh 0 0 with use := u } :: mappedClusters.tail } }

/-- The same with a work unit resident on the first mapped cluster. -/
def busyCluster (u : ClusterUse) : State :=
  { clusterUse u with eng := { (clusterUse u).eng with ops := stepIssued.eng.ops } }

theorem busy_clusters (u : ClusterUse) : (busyCluster u).eng.clusters = (clusterUse u).eng.clusters := rfl

theorem witness_LbistSwapsAndJudges :
    (∀ u ∈ [ClusterUse.spare false, .spare true], ∃ (die : Nat) (s : State) (k : Cluster), s.nextTest die = some k ∧
      (s.eng.clusters.map fun x => (x.die, x.phys)).Nodup ∧ (∀ y ∈ s.eng.clusters, ∀ m, y.use ≠ .draining m) ∧
      die < s.eng.lbistNext.length ∧ k.use = u) ∧
    (∃ (die : Nat) (s : State) (k x : Cluster) (l : Nat), s.nextTest die = some k ∧
      (s.eng.clusters.map fun x => (x.die, x.phys)).Nodup ∧ (∀ y ∈ s.eng.clusters, ∀ m, y.use ≠ .draining m) ∧
      die < s.eng.lbistNext.length ∧ k.use = .mapped l ∧ s.inUse (die, l) = false ∧
      (s.eng.clusters.find? fun y => y.die == die && decide (y.use = .spare true) && y.spareSince.isNone) = some x) ∧
    (∃ (die : Nat) (s : State) (k : Cluster) (l : Nat), s.nextTest die = some k ∧
      (s.eng.clusters.map fun x => (x.die, x.phys)).Nodup ∧ (∀ y ∈ s.eng.clusters, ∀ m, y.use ≠ .draining m) ∧
      die < s.eng.lbistNext.length ∧ k.use = .mapped l ∧ s.inUse (die, l) = true ∧ s.sealedCluster die l = false) ∧
    (∀ u ∈ [ClusterUse.testing, .swapping 0], ∃ (die phys : Nat) (s : State) (k : Cluster),
      (s.eng.clusters.find? fun x => x.die == die && x.phys == phys) = some k ∧ k.use = u ∧
      (u = .testing → k.spareSince = none ∧ s.vacant die = some 0)) := by
  have none_drains : ∀ u, (∀ m, u ≠ ClusterUse.draining m) → ∀ y ∈ (clusterUse u).eng.clusters, ∀ m, y.use ≠ .draining m := by
    intro u hu y hy m
    have : y = { Cluster.fresh 0 0 with use := u } ∨ y ∈ mappedClusters.tail := List.mem_cons.1 hy
    rcases this with rfl | h
    · exact hu m
    · have : ∀ z ∈ mappedClusters.tail, (match z.use with | .draining _ => false | _ => true) = true := by decide +kernel
      intro e; have := this y h; simp [e] at this
  refine ⟨fun u h => ⟨0, clusterUse u, { Cluster.fresh 0 0 with use := u }, ?_⟩,
    ⟨0, clusterUse (.mapped 0), { Cluster.fresh 0 0 with use := .mapped 0 }, { Cluster.fresh 0 2 with use := .spare true }, 0,
      by decide +kernel, by decide +kernel, none_drains _ (fun m e => nomatch e), by decide +kernel⟩,
    ⟨0, busyCluster (.mapped 0), { Cluster.fresh 0 0 with use := .mapped 0 }, 0,
      by decide +kernel, by decide +kernel, by rw [busy_clusters]; exact none_drains _ (fun m e => nomatch e), by decide +kernel⟩,
    fun u h => ⟨0, 0, clusterUse u, { Cluster.fresh 0 0 with use := u }, rfl, rfl, fun e => by subst e; decide +kernel⟩⟩
  · refine ⟨?_, ?_, none_drains u ?_, ?_⟩
    · revert u; decide +kernel
    · revert u; decide +kernel
    · intro m e; subst e; simp at h
    · revert u; decide +kernel

theorem witness_SpareTakesTheIdAfterItsWait : ∃ (die phys logical passed : Nat) (s : State) (k : Cluster),
    (s.eng.clusters.find? fun x => x.die == die && x.phys == phys) = some k ∧ k.use = .spare true ∧
    k.spareSince = some (logical, passed) ∧ (s.eng.clusters.map fun x => (x.die, x.phys)).Nodup ∧ s.clusterOf die logical = none :=
  let k : Cluster := { Cluster.fresh 0 0 with use := .spare true, spareSince := some (0, 900) }
  ⟨0, 0, 0, 900, { serving with eng := { serving.eng with clusters := k :: mappedClusters.tail } }, k, by decide +kernel⟩

theorem witness_WindowsAndPaddocksAreFreedLast :
    (∀ waits ∈ [true, false], ∃ (window : Nat) (s : State) (w : Window), s.window window = some w ∧ w.state = .closing ∧
      ((∃ m ∈ s.net.inbox, ∃ q ∈ s.net.qps, q.qpn = m.qpn ∧ q.window = some (w.index, w.gen)) ↔ waits = true) ∧
      ((∀ m ∈ s.net.inbox, ∀ q ∈ s.net.qps, q.qpn = m.qpn → q.window ≠ some (w.index, w.gen)) ↔ waits = false)) ∧
    (∀ busy ∈ [true, false], ∃ (p : Nat) (s : State), (s.pad p).state = .teardown ∧ 1 ≤ p ∧ Memory.wf s.mem = true ∧
      (s.pad p).zeroing = false ∧
      ((∃ o ∈ s.eng.ops, o.req.paddock = p) ↔ busy = true) ∧ ((∀ o ∈ s.eng.ops, o.req.paddock ≠ p) ↔ busy = false)) ∧
    (∀ pends ∈ [true, false], ∃ (p : Nat) (s : State), (s.pad p).state = .teardown ∧ 1 ≤ p ∧ Memory.wf s.mem = true ∧
      (s.pad p).zeroing = true ∧ s.zeroPending p = pends ∧ (s.pad p).queued = none ∧ ∀ o ∈ s.eng.ops, o.req.paddock ≠ p) ∧
    (∃ (p : Nat) (s : State) (c : PadConfig) (k : Bytes), (s.pad p).state = .teardown ∧ 1 ≤ p ∧ Memory.wf s.mem = true ∧
      (s.pad p).zeroing = true ∧ s.zeroPending p = false ∧ (s.pad p).queued = some (c, k) ∧
      ∀ o ∈ s.eng.ops, o.req.paddock ≠ p) := by
  let dead : Pad := { tenant with state := .teardown, zeroing := true }
  refine ⟨fun waits h => ⟨3,
      let s := rla { window3 with state := .closing } rlaConn
      { s with net := { s.net with inbox := if waits then [rlaMsg 0x40 0 1 []] else [] } }, { window3 with state := .closing }, ?_⟩,
    fun busy h => ⟨1, let s := withPad { tenant with state := .teardown } fronted
      { s with eng := { s.eng with ops := if busy then s.eng.ops else [] } }, ?_⟩,
    fun pends h => ⟨1, let s := withPad dead serving
      { s with store := { s.store with dirty := [300000] }
               leases := { s.leases with chores := if pends then [⟨4, 1, [300000], 0, 0, 0⟩] else [] } }, ?_⟩,
    ⟨1, withPad { dead with queued := some (tenant.config, []) } serving, tenant.config, [], by decide +kernel⟩⟩
  · revert waits; decide +kernel
  · revert busy; decide +kernel
  · revert pends; decide +kernel

/-! ### Witnesses: the mailboxes -/

/-- A request in mailbox 0 in version 2.1. -/
def post (op : Nat) (body : Bytes) (paddock : Nat := 0) : Mbx :=
  ⟨0, [1, 2] ++ toLe 2 op ++ toLe 4 body.length ++ zeros 8 ++ toLe 2 paddock ++ zeros 14 ++ body⟩

/-- What the mailbox holds once the request is written. -/
def mailIn (s : State) (m : Mbx) : Mail := Mail.parse m.box (overlay (s.box m.box).buffer (m.bytes.take 4096))

/-- The conditions of `Rung` and of `Asked` as a test. -/
def rings (s : State) (m : Mbx) (op : Nat) : Bool :=
  s.bar0Open && s.awake && le m.bytes 2 2 == op && decide (32 ≤ m.bytes.length) && decide (m.box ≤ 2) && s.host.boxes.length == 4
    && s.serves m.box && !(s.box m.box).busy && s.host.doorbells.isEmpty
def asks (s : State) (m : Mbx) (op : Nat) : Bool :=
  rings s m op && s.versionOk (mailIn s m) && stageServes s.boot.stage op && !(cmdOstler op).any s.restarting
    && !(mailIn s m).tooLong op

theorem rung_of {s : State} {m : Mbx} {op : Nat} (h : rings s m op = true) : Rung s m op (mailIn s m) := by
  simp only [rings, Bool.and_eq_true, beq_iff_eq, decide_eq_true_eq, Bool.not_eq_true', List.isEmpty_iff] at h
  obtain ⟨⟨⟨⟨⟨⟨⟨⟨h1, h2⟩, h3⟩, h4⟩, h5⟩, h6⟩, h7⟩, h8⟩, h9⟩ := h
  exact ⟨h1, h2, h3, h4, h5, h6, h7, h8, h9, rfl⟩

theorem asked_of {s : State} {m : Mbx} {op : Nat} (h : asks s m op = true) : Asked s m op (mailIn s m) := by
  simp only [asks, Bool.and_eq_true, Bool.not_eq_true'] at h
  obtain ⟨⟨⟨⟨h1, h2⟩, h3⟩, h4⟩, h5⟩ := h
  exact ⟨rung_of h1, h2, h3, h4, h5⟩

/-- A node whose first mailbox is this one. -/
def withBox (b : Mailbox) (s : State) : State := { s with host := { s.host with boxes := b :: List.replicate 3 Mailbox.fresh } }

theorem witness_MailboxRefusesOutOfTurn :
    (∃ (c : Instr) (m : Mbx) (op : Nat) (s : State), c.mailbox = some (m, op) ∧ s.bar0Open = true ∧ le m.bytes 2 2 = op ∧
      6 ≤ s.boot.stage ∧ m.box ≤ 2 ∧ s.host.boxes.length = 4 ∧ s.host.doorbells = [] ∧ (s.box m.box).busy = true) ∧
    (∃ (c : Instr) (m : Mbx) (op : Nat) (s : State) (b : Mail), c.mailbox = some (m, op) ∧ Rung s m op b ∧ s.versionOk b = false) ∧
    (∃ (c : Instr) (m : Mbx) (op : Nat) (s : State) (b : Mail), c.mailbox = some (m, op) ∧ Rung s m op b ∧
      s.versionOk b = true ∧ stageServes s.boot.stage op = false) ∧
    (∃ (c : Instr) (m : Mbx) (op : Nat) (s : State) (b : Mail), c.mailbox = some (m, op) ∧ Rung s m op b ∧
      s.versionOk b = true ∧ stageServes s.boot.stage op = true ∧ (cmdOstler op).any s.restarting = true) ∧
    (∃ (c : Instr) (m : Mbx) (op : Nat) (s : State) (b : Mail), c.mailbox = some (m, op) ∧ Rung s m op b ∧
      s.versionOk b = true ∧ stageServes s.boot.stage op = true ∧ (cmdOstler op).any s.restarting = false ∧
      b.tooLong op = true) :=
  ⟨⟨.paddockTeardown (post 0x31 []), _, 0x31, withBox { Mailbox.fresh with busy := true } serving, rfl, by decide +kernel⟩,
    ⟨.auditMode ⟨0, [0, 2] ++ (post 0x33 []).bytes.drop 2⟩, _, 0x33, serving, _, rfl, rung_of (by decide +kernel), by decide +kernel⟩,
    ⟨.fwLoad (post 0x02 []), _, 0x02, serving, _, rfl, rung_of (by decide +kernel), by decide +kernel⟩,
    ⟨.windowRemove (post 0x41 []), _, 0x41,
      { serving with ostlers := [{ Ostler.fresh 2 with restarting := true }, { Ostler.fresh 7 with running := true }] }, _, rfl,
      rung_of (by decide +kernel), by decide +kernel⟩,
    ⟨.nodeInfo (post 0x01 [0]), _, 0x01, serving, _, rfl, rung_of (by decide +kernel), by decide +kernel⟩⟩

theorem witness_ReadingCommandsAnswer :
    (∀ op ∈ [0x01, 0x13, 0x32, 0x90], ∃ (m : Mbx) (s : State) (b : Mail), Asked s m op b) ∧
    (∀ n ∈ [1, 64], ∃ (m : Mbx) (s : State) (b : Mail), Asked s m 0x70 b ∧ le b.body 0 1 = n ∧ b.body.length = 2 + 2 * n) ∧
    (∀ n ∈ [1, 40], ∃ (m : Mbx) (s : State) (b : Mail), Asked s m 0x71 b ∧ b.body.length = 2 ∧ le b.body 1 1 = n ∧
      le b.body 0 1 + le b.body 1 1 ≤ (s.box m.box).latch.length) ∧
    (∀ n ∈ [1, 63], ∃ (m : Mbx) (s : State) (b : Mail), Asked s m 0x80 b ∧ b.body.length = 5 ∧ le b.body 4 1 = n) := by
  refine ⟨fun op h => ⟨post op [], serving, _, asked_of ?_⟩,
    fun n h => ⟨post 0x70 (toLe 2 n ++ zeros (2 * n)), serving, _, asked_of ?_, ?_⟩,
    fun n h => ⟨post 0x71 [0, BitVec.ofNat 8 n], withBox { Mailbox.fresh with latch := List.replicate 40 TallyRec.zero } serving, _,
      asked_of ?_, ?_⟩,
    fun n h => ⟨post 0x80 (zeros 4 ++ toLe 1 n), serving, _, asked_of ?_, ?_⟩⟩
  · revert op; decide +kernel
  all_goals revert n; decide +kernel

/-- A node that waits for its bundle, with one staged. -/
def awaiting (b : Bytes) : State :=
  let s := inStage 6 0 serving
  { s with boot := { s.boot with fwTotal := some 16, fwPieces := [(0, b)] } }

/-- A node whose slots are in these states. -/
def slotted (a b : SlotState) (s : State) : State :=
  { s with boot := { s.boot with slots := [{ ImageSlot.fresh with state := a }, { ImageSlot.fresh with state := b }] } }

/-- A bundle of one component of no bytes whose shape is right; its hash is that of no bytes. -/
def bundle1 : Bytes :=
  [0x51, 0x46, 0x57, 0x42] ++ toLe 2 256 ++ toLe 2 1 ++ toLe 4 224 ++ toLe 4 128 ++ zeros 48 ++ zeros 16 ++
    [0x38, 0xB0, 0x60, 0xA7, 0x51, 0xAC, 0x96, 0x38, 0x4C, 0xD9, 0x32, 0x7E, 0xB1, 0xB1, 0xE3, 0x6A, 0x21, 0xFD, 0xB7, 0x11,
      0x14, 0xBE, 0x07, 0x43, 0x4C, 0x0C, 0xC7, 0xBF, 0x63, 0xF6, 0xE1, 0xDA, 0x27, 0x4E, 0xDE, 0xBF, 0xE7, 0x6F, 0x65, 0xFB,
      0xD5, 0x1A, 0xD2, 0xF1, 0x48, 0x98, 0xB9, 0x5B] ++ zeros 96
def loaded : State :=
  let s := inStage 6 0 serving
  { s with boot := { s.boot with fwTotal := some 224, fwPieces := [(0, bundle1)] } }

theorem loaded_passes (signed : bundleSigned (zeros 48) bundle1 = true) (hashes : bundleHashes bundle1 = true)
    (fits : loaded.bundleFits bundle1 = true) : loaded.bundleCause (stagedBytes loaded.boot.fwPieces 224) = 0 := by
  have e : stagedBytes loaded.boot.fwPieces 224 = bundle1 := by decide +kernel
  have shape : bundleShape bundle1 = true := by decide +kernel
  have signed : bundleSigned loaded.fused.firmwareRoot bundle1 = true := signed
  rw [e]
  simp [State.bundleCause, shape, signed, hashes, fits]

/-- The third clause holds where the cryptography accepts the bundle and the image names its component. -/
theorem witness_FirmwareAndImagesAreLoaded :
    (∃ (m : Mbx) (s : State) (b : Mail), Asked s m 0x02 b ∧ 8 ≤ b.body.length ∧ 1 ≤ le b.body 4 4 ∧ le b.body 4 4 ≤ 33554432 ∧
      le b.body 0 4 + (b.body.length - 8) ≤ le b.body 4 4) ∧
    (∀ whole ∈ [true, false], ∃ (m : Mbx) (s : State) (b : Mail) (n : Nat), Asked s m 0x03 b ∧ s.boot.stage = 6 ∧
      s.boot.fwTotal = some n ∧ stagedWhole s.boot.fwPieces n = whole ∧ s.bundleCause (stagedBytes s.boot.fwPieces n) ≠ 0) ∧
    (bundleSigned (zeros 48) bundle1 = true → bundleHashes bundle1 = true → loaded.bundleFits bundle1 = true →
      ∃ (m : Mbx) (s : State) (b : Mail) (n : Nat), Asked s m 0x03 b ∧ s.boot.stage = 6 ∧ s.boot.fwTotal = some n ∧
        stagedWhole s.boot.fwPieces n = true ∧ s.bundleCause (stagedBytes s.boot.fwPieces n) = 0) ∧
    (∃ (m : Mbx) (s : State) (b : Mail), Asked s m 0x10 b ∧ s.slotIn .probation = none ∧ 8 ≤ b.body.length ∧
      s.slotWritable (le b.body 0 1) = true ∧ s.boot.slots.length = 2 ∧ le b.body 4 4 + (b.body.length - 8) ≤ 25165824) ∧
    (∃ (m : Mbx) (s : State) (b : Mail), Asked s m 0x11 b ∧ s.slotIn .probation = none ∧ b.body.length = 8 ∧
      s.slotWritable (le b.body 0 1) = true ∧ s.boot.slots.length = 2 ∧ s.boot.stage ≠ 14) ∧
    (∀ op ∈ [0x10, 0x11], ∃ (m : Mbx) (s : State) (b : Mail) (i : Nat), Asked s m op b ∧ s.slotIn .probation = some i) ∧
    (∃ (m : Mbx) (s : State) (b : Mail), Asked s m 0x12 b ∧ s.boot.probationEnd ≠ none ∧ s.boot.inForce < s.boot.slots.length) := by
  refine ⟨⟨post 0x02 (toLe 4 0 ++ toLe 4 16 ++ zeros 16), inStage 6 0 serving, _, asked_of (by decide +kernel), by decide +kernel⟩,
    fun w h => ⟨post 0x03 [], awaiting (zeros (if w then 16 else 15)), _, 16, asked_of ?_, ?_⟩,
    fun h1 h2 h3 => ⟨post 0x03 [], loaded, _, 224, asked_of (by decide +kernel), rfl, rfl, by decide +kernel, loaded_passes h1 h2 h3⟩,
    ⟨post 0x10 (toLe 4 1 ++ toLe 4 32 ++ zeros 16), slotted .active .fallback serving, _, asked_of (by decide +kernel), by decide +kernel⟩,
    ⟨post 0x11 (toLe 4 1 ++ toLe 4 32), slotted .active .empty serving, _, asked_of (by decide +kernel), by decide +kernel⟩,
    fun op h => ⟨post op [], slotted .active .probation serving, _, 1, asked_of ?_, rfl⟩,
    ⟨post 0x12 [], let s := slotted .active .probation serving
      { s with boot := { s.boot with probationEnd := some 9000, inForce := 1 } }, _, asked_of (by decide +kernel), by decide +kernel⟩⟩
  · revert w; decide +kernel
  · revert w; decide +kernel
  · revert op; decide +kernel

/-- A node whose link 0 is this one. -/
def withLink (l : Link) : State := { serving with net := { serving.net with links := l :: serving.net.links.tail, qps := [conn 2] } }
def up0 : Link := { Link.fresh 0 with up := true }
/-- A node with slice 0 stopped, and this function record of it. -/
def sliceOff (f : List Function_) : State := { serving with host := { serving.host with slicesOff := [0], functions := f } }

theorem witness_FunctionsShutDownAndComeBack :
    (∃ (m : Mbx) (s : State) (b : Mail) (o : Ostler), Asked s m 0x21 b ∧ b.body.length = 1 ∧ s.ostler (le b.body 0 1) = some o ∧
      o.running = true ∧ s.restarting (le b.body 0 1) = false ∧ le b.body 0 1 ≤ 7 ∧
      (s.function 3 (le b.body 0 1)).shutting = false ∧
      (o.restarts.filter fun t => s.time < t + 600000000000).length ≤ 3 ∧ s.noneHeld (le b.body 0 1)) ∧
    (∃ (m : Mbx) (s : State) (b : Mail), Asked s m 0x21 b ∧ b.body.length = 1 ∧ le b.body 0 1 ≤ 7 ∧
      (s.function 3 (le b.body 0 1)).shutting = true ∧ (s.function 3 (le b.body 0 1)).reenable = true) ∧
    (∃ (m : Mbx) (s : State) (b : Mail) (l : Link), Asked s m 0x22 b ∧ b.body.length = 2 ∧ le b.body 0 1 % 16 ≤ 3 ∧
      s.link (portLink b) = some l ∧ le m.bytes 33 1 = 0 ∧ le b.body 1 1 = 0 ∧ l.enabled = true ∧ l.shuttingDown = none ∧
      (∃ k ∈ s.net.links, k.id ≠ l.id ∧ k.up = true ∧ k.enabled = true) ∧ ∃ q ∈ s.net.qps, q.homePort = l.id) ∧
    (∃ (m : Mbx) (s : State) (b : Mail) (l : Link), Asked s m 0x22 b ∧ b.body.length = 2 ∧ le b.body 0 1 % 16 ≤ 3 ∧
      s.link (portLink b) = some l ∧ le m.bytes 33 1 = 0 ∧ le b.body 1 1 = 0 ∧ l.shuttingDown ≠ none) ∧
    (∀ x ∈ [(none, false), (some 900, false), (some 900, true)], ∃ (m : Mbx) (s : State) (b : Mail) (l : Link),
      Asked s m 0x22 b ∧ b.body.length = 2 ∧ le b.body 0 1 % 16 ≤ 3 ∧ s.link (portLink b) = some l ∧ le m.bytes 33 1 ≠ 0 ∧
      le b.body 1 1 = 1 ∧ l.enabled = false ∧ l.shuttingDown = x.1 ∧ l.reenable = x.2) ∧
    (∃ (m : Mbx) (s : State) (b : Mail) (k : SliceCfg), Asked s m 0x23 b ∧ b.body.length = 2 ∧ s.sliceCfg (le b.body 0 1) = some k ∧
      le m.bytes 33 1 = 0 ∧ le b.body 1 1 = 0 ∧ s.host.slicesOff.contains (le b.body 0 1) = false ∧ s.eng.ops = []) ∧
    (∀ sh ∈ [true, false], ∃ (m : Mbx) (s : State) (b : Mail) (k : SliceCfg), Asked s m 0x23 b ∧ b.body.length = 2 ∧
      s.sliceCfg (le b.body 0 1) = some k ∧ le m.bytes 33 1 ≠ 0 ∧ le b.body 1 1 = 1 ∧
      s.host.slicesOff.contains (le b.body 0 1) = true ∧ (s.function 2 (le b.body 0 1)).shutting = sh ∧
      (s.function 2 (le b.body 0 1)).reenable = sh) := by
  refine ⟨⟨post 0x21 [3], serving, _, { Ostler.fresh 3 with running := true }, asked_of (by decide +kernel), by decide +kernel, by decide +kernel,
      by decide +kernel, by decide +kernel, by decide +kernel, by decide +kernel, by decide +kernel,
      by unfold State.noneHeld; decide +kernel⟩,
    ⟨post 0x21 [3], sliceOff [⟨3, 3, 4, true, true⟩], _, asked_of (by decide +kernel), by decide +kernel⟩,
    ⟨post 0x22 [0, 0], withLink up0, _, up0, asked_of (by decide +kernel), by decide +kernel⟩,
    ⟨post 0x22 [0, 0], withLink { up0 with shuttingDown := some 900 }, _, { up0 with shuttingDown := some 900 },
      asked_of (by decide +kernel), by decide +kernel⟩,
    fun x h => ⟨post 0x22 [0, 1], withLink { up0 with enabled := false, shuttingDown := x.1, reenable := x.2 }, _,
      { up0 with enabled := false, shuttingDown := x.1, reenable := x.2 }, asked_of ?_, ?_⟩,
    ⟨post 0x23 [0, 0], serving, _, defaultSlice true 0, asked_of (by decide +kernel), by decide +kernel⟩,
    fun sh h => ⟨post 0x23 [0, 1], sliceOff [⟨2, 0, 4, sh, sh⟩], _, defaultSlice true 0, asked_of ?_, ?_⟩⟩
  · revert x; decide +kernel
  · revert x; decide +kernel
  · revert sh; decide +kernel
  · revert sh; decide +kernel

/-! ### Witnesses: shutdowns, paddocks, windows, weight sets, settings by mailbox -/

/-- A node whose link 0 and its egress scheduler are these. -/
def linkAnd (l : Link) (d : Sched) : State := { withLink l with sch := ⟨[d], [], []⟩ }
def shutting : Link := { up0 with enabled := false, shuttingDown := some 900 }

/-- A node whose one operation is a SEQ_CREATE that O2 holds. -/
def createOp : Op := ⟨1, Req.parse { stepMsg with opcode := 5 }, .admitted, 0, 0, 1, none, 0, 0, .create 0 false, .notNeeded, 0, 0, 0, 0, none, false⟩
def withCreate : State := { serves with eng := { serves.eng with ops := [createOp] } }

/-- O3 with one region of 4 KiB. -/
def guarded : Ostler := { Ostler.fresh 3 with running := true, regions := [⟨3, 4096, 4096⟩] }

theorem witness_ShutdownsEndAndErrorsAreHandled :
    (∀ full ∈ [true, false], ∃ (link : Nat) (s : State) (l : Link) (d : Sched), s.link link = some l ∧ s.sched (16 + link) = some d ∧
      link < 32 ∧ l.shuttingDown = some 900 ∧ ((∀ q ∈ d.queues, q.items = []) ↔ full = false) ∧
      ((∃ q ∈ d.queues, q.items ≠ []) ↔ full = true)) ∧
    (∀ busy ∈ [true, false], ∃ (slice : Nat) (s : State), (s.function 2 slice).shutting = true ∧
      s.host.slicesOff.contains slice = true ∧ ((∃ o ∈ s.eng.ops, o.slice = slice) ↔ busy = true) ∧
      ((∀ o ∈ s.eng.ops, o.slice ≠ slice) ↔ busy = false)) ∧
    (∀ re ∈ [true, false], ∃ (slice : Nat) (s : State), (s.function 2 slice).shutting = true ∧
      s.host.slicesOff.contains slice = true ∧ (∀ o ∈ s.eng.ops, o.slice ≠ slice) ∧ (s.function 2 slice).reenable = re) ∧
    (∃ (i : Nat) (s : State) (o : Ostler), s.ostler i = some o ∧ o.running = true ∧
      (o.restarts.filter fun t => s.time < t + 600000000000).length ≤ 3 ∧ s.noneHeld i) ∧
    (∃ (s : State) (o : Ostler) (x : Op), s.ostler 2 = some o ∧ o.running = true ∧
      (o.restarts.filter fun t => s.time < t + 600000000000).length ≤ 3 ∧ s.eng.ops = [x] ∧ x.needsO2 = true) ∧
    (∀ down ∈ [true, false], ∃ (e : ErrRep) (s : State), e.severity ≤ 2 ∧ e.unitKind ≠ 1 ∧ e.unitKind ≠ 4 ∧
      e.code ≠ 0x5001 ∧ s.restarting 5 = down ∧ s.log.records = [] ∧ s.log.queue.length < 1024) ∧
    (∃ (e : ErrRep) (s : State) (x : Op), e.severity ≤ 2 ∧ e.unitKind ≠ 1 ∧ e.unitKind ≠ 4 ∧ e.code = 0x5001 ∧
      s.restarting 5 = false ∧ s.eng.ops = [x] ∧ x.phase = .admitted ∧ x.step.isSome = true ∧ x.req.paddock = e.paddock ∧
      x.req.seq = e.object ∧ x.status = St.ok) ∧
    (∀ ok ∈ [true, false], ∃ (i a : Nat) (s : State) (o : Ostler), s.ostler i = some o ∧ o.running = true ∧
      (o.restarts.filter fun t => s.time < t + 600000000000).length ≤ 3 ∧ o.permits a = ok) := by
  refine ⟨fun full h => ⟨0, linkAnd shutting (if full then egress1 else { egress1 with queues := [] }), shutting,
      if full then egress1 else { egress1 with queues := [] }, ?_⟩,
    fun busy h => ⟨0, { sliceOff [⟨2, 0, 4, true, false⟩] with eng := { serving.eng with ops := if busy then fronted.eng.ops else [] } }, ?_⟩,
    fun re h => ⟨0, sliceOff [⟨2, 0, 4, true, re⟩], ?_⟩, ⟨3, serving, { Ostler.fresh 3 with running := true }, by decide +kernel, rfl, by decide +kernel, .inl (by decide)⟩,
    ⟨withCreate, { Ostler.fresh 2 with running := true }, createOp, by decide +kernel⟩,
    fun down h => ⟨⟨1, 9, 0x2002, 1, 2, 0, 0, []⟩, { serving with ostlers := [{ Ostler.fresh 5 with running := !down, restarting := down }] }, ?_⟩,
    ⟨⟨1, 9, 0x5001, 1, 2, 0, 9, []⟩, stepping, stepOp, by decide +kernel⟩,
    fun ok h => ⟨3, if ok then 4096 else 8192, { serving with ostlers := [guarded] }, guarded, ?_⟩⟩
  · revert full; decide +kernel
  · revert busy; decide +kernel
  · revert re; decide +kernel
  · revert down; decide +kernel
  · revert ok; decide +kernel

/-- A PADDOCK_CREATE body that fits, in slice 0. -/
def createBody : Bytes := [0, 0, 1, 0] ++ zeros 108

theorem witness_HostCreatesAndTearsDown :
    (∃ (m : Mbx) (s : State) (b : Mail), Asked s m 0x30 b ∧ 1 ≤ b.paddock ∧ (s.pad b.paddock).state = .free ∧
      b.body.length = 112 ∧ s.slicesFit b.paddock (createConfig b.body) = true) ∧
    (∀ st ∈ [PadState.open_, .awaitSeal, .sealed], ∃ (m : Mbx) (s : State) (b : Mail), Asked s m 0x30 b ∧ 1 ≤ b.paddock ∧
      (s.pad b.paddock).state = st) ∧
    (∀ queued ∈ [true, false], ∃ (m : Mbx) (s : State) (b : Mail), Asked s m 0x30 b ∧ 1 ≤ b.paddock ∧
      (s.pad b.paddock).state = .teardown ∧ b.body.length = 112 ∧ s.slicesFit b.paddock (createConfig b.body) = true ∧
      (s.pad b.paddock).queued.isSome = queued) ∧
    (∀ st ∈ [PadState.free, .open_, .teardown], ∃ (m : Mbx) (s : State) (b : Mail), Asked s m 0x31 b ∧ 1 ≤ b.paddock ∧
      (s.pad b.paddock).state = st ∧ (s.pad b.paddock).zeroing = false) ∧
    (∀ on ≤ 1, ∃ (m : Mbx) (s : State) (b : Mail), Asked s m 0x33 b ∧ 1 ≤ b.paddock ∧ b.body.length = 1 ∧ le b.body 0 1 = on ∧
      (s.pad b.paddock).state = .open_) ∧
    (∃ (m : Mbx) (s : State) (b : Mail), Asked s m 0x20 b) := by
  refine ⟨⟨post 0x30 createBody 2, serving, _, asked_of (by decide +kernel), by decide +kernel⟩,
    fun st h => ⟨post 0x30 createBody 1, withPad { tenant with state := st } serving, _, asked_of ?_, ?_⟩,
    fun q h => ⟨post 0x30 createBody 1,
      withPad { tenant with state := .teardown, queued := if q then some (tenant.config, []) else none } serving, _, asked_of ?_, ?_⟩,
    fun st h => ⟨post 0x31 [] 1, withPad { tenant with state := st } serving, _, asked_of ?_, ?_⟩,
    fun on h => ⟨post 0x33 (toLe 1 on) 1, withPad tenant serving, _, asked_of ?_, ?_⟩,
    ⟨post 0x20 [], serving, _, asked_of (by decide +kernel)⟩⟩
  · revert st; decide +kernel
  · revert st; decide +kernel
  · revert q; decide +kernel
  · revert q; decide +kernel
  · revert st; decide +kernel
  · revert st; decide +kernel
  · revert on; decide +kernel
  · revert on; decide +kernel

/-- With no window in use an index is free. -/
theorem freeWindow_some (s : State) (none_ : s.maps.windows = []) : ∃ i, s.freeWindow = (some i, (s.choose Config.rowChoice 65536).2) := by
  have lt := choose_lt s Config.rowChoice 65536 (by decide)
  by_cases h : (s.choose Config.rowChoice 65536).1 = 0
  · refine ⟨1, ?_⟩
    unfold State.freeWindow
    simp [none_, h, List.range, List.range.loop]
  · refine ⟨(s.choose Config.rowChoice 65536).1, ?_⟩
    unfold State.freeWindow
    simp [none_, List.range, List.range.loop, Nat.mod_eq_of_lt lt, h]

/-- With the first frame alone taken, one is found by the second look. -/
theorem freshFrames_spared (count fuel i : Nat) (h : 1 < count) :
    (freshFrames (fun k => k) [0] count 1 (fuel + 2) i).isSome = true := by
  have lt := Nat.mod_lt i (by omega : 0 < count)
  have lt' := Nat.mod_lt (i + 1) (by omega : 0 < count)
  unfold freshFrames
  by_cases zero : i % count = 0
  · have next : (i + 1) % count = 1 := by rw [Nat.add_mod, zero, Nat.zero_add, Nat.mod_mod, Nat.mod_eq_of_lt h]
    unfold freshFrames
    have two : 2 ≤ count := h
    simp [zero, next, two]
  · have fits : i % count + 1 ≤ count := lt
    simp [zero, fits]

/-- A node with tenant paddock 1 that may hold 2 MiB, and no window. -/
def roomy : State := withPad { tenant with config := { tenant.config with t1Allow := 4194304 } } serving

theorem installs (key : Bytes) : (roomy.installWindow 7 1 1 251 true 65536 key .plain).isSome = true := by
  obtain ⟨i, h⟩ := freeWindow_some roomy rfl
  have fits : roomy.windowEntryFits 7 1 = true := by decide +kernel
  simp only [State.installWindow, h, fits, Bool.not_true, Bool.false_eq_true, if_false]
  have e : (roomy.choose Config.rowChoice 65536).2 = { roomy with rng := 1 } := rfl
  rw [e]
  have c : ({ roomy with rng := 1 } : State).windowChunks landingBase 65536 = [] := by decide +kernel
  have d : ceilDiv 65536 65536 = 1 := by decide +kernel
  simp only [State.windowPlace, c, d, if_true]
  rw [Option.isSome_map, Option.isSome_map]
  exact freshFrames_spared 512 511 _ (by decide)

def installBody (t : Nat) : Bytes := toLe 2 7 ++ toLe 2 1 ++ [251, 1, 0, 0] ++ toLe 8 t ++ zeros 32

theorem witness_HostOpensAndClosesWindows :
    (∃ (m : Mbx) (s : State) (b : Mail), Asked s m 0x40 b ∧ b.body.length = 48 ∧ (s.pad b.paddock).state = .open_ ∧
      le b.body 5 1 ≤ 1 ∧ windowLengthOk (le b.body 5 1 == 1) (le b.body 8 8) = true ∧
      ∃ w ∈ s.maps.windows, w.srcNode = le b.body 0 2 ∧ w.srcPaddock = le b.body 2 2 % 4096 ∧ w.state = .active) ∧
    (∃ (m : Mbx) (s : State) (b : Mail), Asked s m 0x40 b ∧ (b.body.length = 48 ∧ (s.pad b.paddock).state = .open_ ∧
      le b.body 5 1 ≤ 1 ∧ windowLengthOk (le b.body 5 1 == 1) (le b.body 8 8) = true ∧
      (∀ w ∈ s.maps.windows, w.srcNode = le b.body 0 2 → w.srcPaddock = le b.body 2 2 % 4096 → w.state ≠ .active) ∧
      (le b.body 5 1 = 0 → s.passesAllowance b.paddock (le b.body 8 8) = false)) ∧
      (s.installWindow (le b.body 0 2) (le b.body 2 2 % 4096) b.paddock (le b.body 4 1) (le b.body 5 1 == 1) (le b.body 8 8)
        (sub b.body 16 32) .plain).isSome = true) ∧
    (∃ (m : Mbx) (s : State) (b : Mail) (w : Window), Asked s m 0x41 b ∧ b.body.length = 2 ∧ s.window (le b.body 0 2) = some w ∧
      w.state = .active ∧ w.index ≠ 0 ∧ ∃ q, s.qp q.qpn = some q ∧ q.window = some (w.index, w.gen)) := by
  refine ⟨⟨post 0x40 (installBody 65536) 1, rla window3 rlaConn, _, asked_of (by decide +kernel), by decide +kernel⟩,
    ⟨post 0x40 (installBody 65536) 1, roomy, _, asked_of (by decide +kernel), by decide +kernel, ?_⟩,
    ⟨post 0x41 (toLe 2 3), rla window3 rlaConn, _, window3, asked_of (by decide +kernel), by decide +kernel, by decide +kernel,
      by decide +kernel, by decide +kernel, rlaConn, by decide +kernel⟩⟩
  have e1 : le (mailIn roomy (post 0x40 (installBody 65536) 1)).body 0 2 = 7 := by decide +kernel
  have e2 : le (mailIn roomy (post 0x40 (installBody 65536) 1)).body 2 2 % 4096 = 1 := by decide +kernel
  have e3 : (mailIn roomy (post 0x40 (installBody 65536) 1)).paddock = 1 := by decide +kernel
  have e4 : le (mailIn roomy (post 0x40 (installBody 65536) 1)).body 4 1 = 251 := by decide +kernel
  have e5 : le (mailIn roomy (post 0x40 (installBody 65536) 1)).body 5 1 = 1 := by decide +kernel
  have e6 : le (mailIn roomy (post 0x40 (installBody 65536) 1)).body 8 8 = 65536 := by decide +kernel
  rw [e1, e2, e3, e4, e5, e6]
  exact installs _

/-- A window of 4 MiB at the start of which REGION_SET asks for a region of 2 MiB, or of 4 MiB. -/
def regionBody (log2 owner : Nat) : Bytes := toLe 2 3 ++ toLe 2 log2 ++ toLe 8 0 ++ toLe 2 owner ++ toLe 2 1
def regional (rs : List Region) : State :=
  let s := rla { window3 with length := 4194304 } rlaConn
  { s with maps := { s.maps with regions := rs } }

theorem freeRegion_some (s : State) (none_ : s.maps.regions = []) : s.freeRegion.1.isSome = true := by
  unfold State.freeRegion
  simp [none_, List.range, List.range.loop]

theorem witness_HostSetsRegions :
    (∀ owner ∈ [7, 8], ∃ (m : Mbx) (s : State) (b : Mail) (w : Window) (r : Region), Asked s m 0x42 b ∧ (b.body.length = 16 ∧
      s.window (le b.body 0 2) = some w ∧ w.state = .active ∧ w.use = .plain ∧ w.base < landingBase ∧ 21 ≤ le b.body 2 1 ∧
      le b.body 2 1 ≤ 30 ∧ (w.base + le b.body 4 8) % 2 ^ le b.body 2 1 = 0 ∧ le b.body 4 8 + 2 ^ le b.body 2 1 ≤ w.length) ∧
      (s.maps.regions.find? fun r => r.active && r.base == w.base + le b.body 4 8 && r.sizeLog2 == le b.body 2 1) = some r ∧
      (s.maps.regions.find? fun x => x.index == r.index) = some r ∧ ((r.ownerNode = le b.body 12 2) ↔ owner = 7) ∧
      r.ownerPaddock = le b.body 14 2 % 4096) ∧
    (∃ (m : Mbx) (s : State) (b : Mail) (w : Window), Asked s m 0x42 b ∧ b.body.length = 16 ∧
      s.window (le b.body 0 2) = some w ∧ w.state = .active ∧ w.use = .plain ∧ w.base < landingBase ∧ 21 ≤ le b.body 2 1 ∧
      le b.body 2 1 ≤ 30 ∧ (w.base + le b.body 4 8) % 2 ^ le b.body 2 1 = 0 ∧ le b.body 4 8 + 2 ^ le b.body 2 1 ≤ w.length ∧
      (∀ r ∈ s.maps.regions, r.active = true → ¬(r.base = w.base + le b.body 4 8 ∧ r.sizeLog2 = le b.body 2 1)) ∧
      (∃ r ∈ s.maps.regions, r.active = true ∧ r.base < w.base + le b.body 4 8 + 2 ^ le b.body 2 1 ∧
        w.base + le b.body 4 8 < r.base + 2 ^ r.sizeLog2)) ∧
    (∃ (m : Mbx) (s : State) (b : Mail) (w : Window), Asked s m 0x42 b ∧ (b.body.length = 16 ∧
      s.window (le b.body 0 2) = some w ∧ w.state = .active ∧ w.use = .plain ∧ w.base < landingBase ∧ 21 ≤ le b.body 2 1 ∧
      le b.body 2 1 ≤ 30 ∧ (w.base + le b.body 4 8) % 2 ^ le b.body 2 1 = 0 ∧ le b.body 4 8 + 2 ^ le b.body 2 1 ≤ w.length ∧
      (∀ r ∈ s.maps.regions, r.active = true → w.base + le b.body 4 8 + 2 ^ le b.body 2 1 ≤ r.base ∨
        r.base + 2 ^ r.sizeLog2 ≤ w.base + le b.body 4 8)) ∧ s.freeRegion.1.isSome = true) := by
  let w : Window := { window3 with length := 4194304 }
  let r : Region := ⟨0, 4194304, 21, true, 7, 1, 4⟩
  refine ⟨fun owner h => ⟨post 0x42 (regionBody 21 owner), regional [r], _, w, r, asked_of ?_, ?_⟩,
    ⟨post 0x42 (regionBody 22 7), regional [r], _, w, asked_of (by decide +kernel), by decide +kernel⟩,
    ⟨post 0x42 (regionBody 21 7), regional [], _, w, asked_of (by decide +kernel), by decide +kernel, freeRegion_some _ rfl⟩⟩
  · revert owner; decide +kernel
  · revert owner; decide +kernel

/-- A weight set of one layer of one head, with its loader's window open, and its header bytes. -/
def header1 (heads : Nat) : Bytes :=
  toLe 2 9 ++ zeros 2 ++ toLe 2 1 ++ toLe 2 heads ++ toLe 2 32 ++ toLe 2 1 ++ [0, 0] ++ toLe 2 32 ++ toLe 8 128 ++ zeros 40
def set9 : WeightSet := ⟨9, 0, [], [], [0], false, false, some 3, 4194304, [], 192⟩
def loadedSet (heads : Nat) : State :=
  let s := rla { window3 with use := .loader 9 } rlaConn
  { s with store := { s.store with weights := [set9] }, mem := Memory.writeBytes [] 4194304 (header1 heads) }

theorem allocMeta_some (s : State) (slice paddock bytes align : Nat) (c : SliceCfg) (h : s.sliceCfg slice = some c)
    (room : s.metaStarts c paddock bytes align [] ≠ []) : ∃ p, s.allocMeta slice paddock bytes align = some p := by
  apply Option.isSome_iff_exists.1
  simp only [State.allocMeta, h, Option.isSome_map]
  rw [List.getElem?_eq_getElem (choose_lt _ _ _ (List.length_pos_iff.2 room))]
  rfl

theorem witness_WeightSetsAreInstalledAndRemoved :
    (∃ (m : Mbx) (s : State) (b : Mail) (slices : List Nat) (length : Nat) (c : SliceCfg) (i : Nat) (t0 : State) (p : Nat × State),
      Asked s m 0x50 b ∧ (b.body.length = 16 ∧ slices = (s.img.slices.filter fun c => bit (le b.body 2 2) c.id).map (·.id) ∧
        length = ceilDiv (le b.body 4 8 + 128) 2097152 * 2097152 ∧ le b.body 0 2 ≠ 0 ∧
        popcount 16 (le b.body 2 2) = slices.length ∧ slices ≠ [] ∧ 64 ≤ le b.body 4 8 ∧ length ≤ 68719476736 ∧
        (∀ w ∈ s.store.weights, w.setId ≠ le b.body 0 2) ∧
        s.windowEntryFits (le b.body 12 2) (le b.body 14 2 % 4096) = true ∧ (s.img.slices.find? fun c => slices.contains c.id) = some c) ∧
      s.freeWindow = (some i, t0) ∧ t0.windowPlaceIn c 0 length = some p ∧
      ∃ r, p.2.weightRoom (le b.body 4 8) (slices.filter (· != c.id)) = some r) ∧
    (∀ ok ∈ [true, false], ∃ (m : Mbx) (s : State) (b : Mail) (w : WeightSet) (i : Nat) (x : Window) (data : Bytes) (y : WeightSet),
      Asked s m 0x51 b ∧ b.body.length = 2 ∧ (s.store.weights.find? fun w => w.setId == le b.body 0 2) = some w ∧
      w.committed = false ∧ w.window = some i ∧ s.window i = some x ∧ data = Memory.readBytes s.mem w.base w.length ∧
      y = { w with header := data.take 64, bytes := data.drop 64, paddock := le (data.take 64) 2 2 % 4096, window := none } ∧
      y.headerOk w.length = ok ∧ (s.closeWindow i).weightSlicesOk y.paddock w.slices = true) ∧
    (∃ (m : Mbx) (s : State) (b : Mail) (w : WeightSet), Asked s m 0x52 b ∧ b.body.length = 2 ∧
      (s.store.weights.find? fun w => w.setId == le b.body 0 2) = some w ∧ w.removing = false ∧ w.window = none ∧ s.eng.ops = []) := by
  obtain ⟨i, hi⟩ := freeWindow_some serving rfl
  obtain ⟨p, hp⟩ := allocMeta_some { serving with rng := 1 } 0 0 2097152 2097152 (defaultSlice true 0) (by decide +kernel)
    (by decide +kernel)
  let read : WeightSet → Nat → WeightSet := fun w h =>
    let data := Memory.readBytes (loadedSet h).mem w.base w.length
    { w with header := data.take 64, bytes := data.drop 64, paddock := le (data.take 64) 2 2 % 4096, window := none }
  refine ⟨⟨post 0x50 (toLe 2 9 ++ toLe 2 1 ++ toLe 8 192 ++ toLe 2 7 ++ toLe 2 1), serving, _, [0], 2097152, defaultSlice true 0, i, _, p,
      asked_of (by decide +kernel), by decide +kernel, hi, hp, _, rfl⟩,
    fun ok h => ⟨post 0x51 (toLe 2 9), loadedSet (if ok then 1 else 0), _, set9, 3, { window3 with use := .loader 9 }, _,
      read set9 (if ok then 1 else 0), asked_of ?_, ?_, ?_, rfl, rfl, ?_, rfl, rfl, ?_, ?_⟩,
    ⟨post 0x52 (toLe 2 9), { serving with store := { serving.store with weights := [{ set9 with committed := true, window := none }] } }, _,
      { set9 with committed := true, window := none }, asked_of (by decide +kernel), by decide +kernel⟩⟩
  all_goals revert ok; decide +kernel

/-- A node with one scheduler, and these limits of its image; and a sealed-policy slice with one bridle for paddock 1. -/
def limited (l : SchedLimits) : State :=
  { serving with
    sch := ⟨[egress1], [], []⟩, img := { serving.img with sched := { serving.img.sched with limits := l } } }
def oneSched : State := limited serving.img.sched.limits
def oneBridle : State :=
  { sealedSlice with sch := { sealedSlice.sch with bridles := [(0, 1, 1, ⟨1000, 1, 99999, 999⟩)] } }

/-- A GCL_SET for link 0 from a cycle on: a list of one entry that opens all. -/
def gclBody (first cycle interval sel : Nat) : Bytes :=
  toLe 2 0x1000 ++ toLe 2 1 ++ toLe 4 cycle ++ toLe 8 first ++ toLe 4 interval ++ [255, BitVec.ofNat 8 sel, 0, 0]

theorem witness_HostSetsSchedulersAndPower :
    (∀ rate ∈ [0, 16777215], ∀ burst ∈ [1, 65536], ∃ (m : Mbx) (s : State) (b : Mail) (d : Sched), Asked s m 0x60 b ∧
      b.body.length = 16 ∧ (schedulerId (le b.body 0 2)).bind s.sched = some d ∧ le b.body 2 1 = (if d.id < 16 then 2 else 7) ∧
      le b.body 4 2 ≠ 0 ∧ le b.body 8 4 = rate ∧ le b.body 12 4 = burst ∧ le b.body 4 2 ≤ s.img.sched.limits.quantum ∧
      le b.body 8 4 ≤ s.img.sched.limits.rate ∧ s.lastBridle d (le b.body 2 1) b.paddock = false ∧
      le b.body 12 4 ≤ s.img.sched.limits.burst) ∧
    (∀ l ∈ [(⟨31, 1000, 65536, 10000, 10000000⟩ : SchedLimits), ⟨32, 999, 65536, 10000, 10000000⟩], ∃ (m : Mbx) (s : State) (b : Mail)
      (d : Sched), Asked s m 0x60 b ∧ b.body.length = 16 ∧ (schedulerId (le b.body 0 2)).bind s.sched = some d ∧
      le b.body 2 1 ≤ (if d.id < 16 then 2 else 7) ∧ le b.body 4 2 ≠ 0 ∧ le b.body 8 4 ≤ 16777215 ∧ le b.body 8 4 ≠ 0 ∧
      le b.body 12 4 = 1 ∧ (s.img.sched.limits.quantum < le b.body 4 2 ↔ l.quantum = 31) ∧
      (s.img.sched.limits.rate < le b.body 8 4 ↔ l.rate = 999)) ∧
    (∃ (m : Mbx) (s : State) (b : Mail) (d : Sched), Asked s m 0x60 b ∧ b.body.length = 16 ∧
      (schedulerId (le b.body 0 2)).bind s.sched = some d ∧ le b.body 2 1 ≤ (if d.id < 16 then 2 else 7) ∧ le b.body 4 2 ≠ 0 ∧
      le b.body 8 4 = 0 ∧ s.lastBridle d (le b.body 2 1) b.paddock = true) ∧
    (∀ x ∈ [(8, 100000, 100000), (8, 100000, 100004), (1, 100000, 100000), (8, 300000, 300000), (1200, 12000000, 12000000)],
      ∃ (m : Mbx) (s : State) (b : Mail) (d : Sched) (gs : List Gate), Asked s m 0x61 b ∧
      (schedulerId (le b.body 0 2)).bind s.sched = some d ∧ gs = gclEntries b.body (le b.body 2 2) ∧
      b.body.length = 16 + 8 * le b.body 2 2 ∧ 1 ≤ le b.body 2 2 ∧ le b.body 2 2 ≤ 256 ∧
      (s.gclOk d.id (le b.body 4 4) gs = true ↔ x.2.1 = x.2.2 ∧ x.1 ≠ 1200) ∧
      (s.gclFrom d (le b.body 4 4) (le b.body 8 8) = true ↔ x.1 ≠ 1 ∧ x.2.1 ≠ 300000) ∧ s.img.sealedGates d.id gs = true ∧
      s.img.sched.limits.cycleMin ≤ le b.body 4 4 ∧ (s.img.sched.limits.cycleMax < le b.body 4 4 ↔ x.1 = 1200)) ∧
    (∃ (m : Mbx) (s : State) (b : Mail) (d : Sched) (gs : List Gate), Asked s m 0x61 b ∧
      (schedulerId (le b.body 0 2)).bind s.sched = some d ∧ gs = gclEntries b.body (le b.body 2 2) ∧
      b.body.length = 16 + 8 * le b.body 2 2 ∧ 1 ≤ le b.body 2 2 ∧ le b.body 2 2 ≤ 256 ∧ s.img.sealedGates d.id gs = false) ∧
    (∀ w ∈ [600, 1250, 599, 1251], ∃ (m : Mbx) (s : State) (b : Mail), Asked s m 0xA0 b ∧ b.body.length = 8 ∧
      le b.body 4 1 < s.img.power.points.length ∧ le b.body 0 2 = w ∧ (if s.fused.a768 then 600 else 500) = 600 ∧ s.fused.tdp = 1250 ∧
      s.img.power.limits = (500, 1250)) ∧
    (∃ (m : Mbx) (s : State) (b : Mail), Asked s m 0xA0 b ∧ b.body.length = 8 ∧ le b.body 4 1 < s.img.power.points.length ∧
      s.img.power.limits.2 < le b.body 0 2) := by
  refine ⟨fun rate h burst g => ⟨post 0x60 (toLe 2 0x1000 ++ [7, 0, 32, 0, 0, 0] ++ toLe 4 rate ++ toLe 4 burst), oneSched, _, egress1,
      asked_of ?_, ?_⟩,
    fun l h => ⟨post 0x60 (toLe 2 0x1000 ++ [7, 0, 32, 0, 0, 0] ++ toLe 4 1000 ++ toLe 4 1), limited l, _, egress1, asked_of ?_, ?_⟩,
    ⟨post 0x60 (toLe 2 0 ++ [1, 0, 32, 0, 0, 0] ++ toLe 4 0 ++ toLe 4 1) 1, oneBridle, _,
      (oneBridle.sched 0).getD egress1, asked_of (by decide +kernel), by decide +kernel⟩,
    fun x h => ⟨post 0x61 (gclBody x.1 x.2.1 x.2.2 15), oneSched, _, egress1, _, asked_of ?_, ?_, rfl, ?_⟩,
    ⟨post 0x61 (gclBody 8 100000 100000 15), { sealedSlice with sch := ⟨[egress1], [], []⟩ }, _, egress1, _, asked_of (by decide +kernel),
      by decide +kernel, rfl, by decide +kernel⟩,
    fun w h => ⟨post 0xA0 (toLe 2 w ++ toLe 2 0xFFFF ++ [5, 0, 0, 0]), serving, _, asked_of ?_, ?_⟩,
    ⟨post 0xA0 (toLe 2 1001 ++ toLe 2 0xFFFF ++ [5, 0, 0, 0]),
      { serving with img := { serving.img with power := { serving.img.power with limits := (500, 1000) } } }, _,
      asked_of (by decide +kernel), by decide +kernel⟩⟩
  · revert rate burst; decide +kernel
  · revert rate burst; decide +kernel
  all_goals first | (revert x; decide +kernel) | (revert w; decide +kernel) | (revert l; decide +kernel)

theorem witness_ClearingNotifyPostsTheNext : ∀ ns ∈ [[], [(⟨0x0103, 0, [1]⟩ : Notice), ⟨0x0101, 1, []⟩]], ∃ s : State, s.bar0Open = true ∧
    s.host.boxes.length = 4 ∧ s.restarting 7 = false ∧ s.host.notices = ns :=
  fun ns _ => ⟨{ serving with host := { serving.host with notices := ns } }, rfl, rfl, rfl, rfl⟩

/-! ### Witnesses: registers, debug, pins -/

theorem witness_RegisterPairsReadWhole :
    ∀ off ∈ [0x1008, 0x50010, 0x50100, 0x50148], (∃ (v : Nat) (s : State), s.pairValue off = some v ∧ s.bar0Open = true ∧
      (∀ x, s.regs.hiLatch ≠ some (off + 4, x))) ∧
    (∃ (v : Nat) (s : State), s.pairValue off = some v ∧ s.bar0Up = true ∧ s.sec.bar0Shut = true) := by
  intro off h
  have : ∀ off ∈ [0x1008, 0x50010, 0x50100, 0x50148], (serving.pairValue off).isSome = true := by decide +kernel
  obtain ⟨v, hv⟩ := Option.isSome_iff_exists.1 (this off h)
  have same : { serving with sec := { serving.sec with bar0Shut := true } }.pairValue off = serving.pairValue off := rfl
  exact ⟨⟨v, serving, hv, by decide +kernel, fun x e => nomatch e⟩,
    v, { serving with sec := { serving.sec with bar0Shut := true } }, same.trans hv, by decide +kernel, rfl⟩

theorem witness_RegisterPairsAreThese :
    (∃ s : State, s.bar0Up = false) ∧ (∃ s : State, s.boot.stage = 2 ∧ s.sec.bar0Shut = false) ∧
    (∃ (off : Nat) (s : State), s.bar0Open = true ∧ s.pairValue off = none) :=
  ⟨⟨State.reset, by decide +kernel⟩, ⟨inStage 2 0 serving, by decide +kernel⟩, ⟨0, serving, by decide +kernel⟩⟩

theorem witness_ResetCtlIsAWarmReset : ∀ v ∈ [0x15A, 0x5A, 0x15B], ∃ s : State, s.bar0Open = true ∧
    ((bit v 8 = true ∧ bits v 7 0 = 0x5A) ↔ v = 0x15A) := by
  intro v h; refine ⟨serving, ?_⟩; revert v; decide +kernel

theorem witness_RegisterWritesFollowTheirAccess :
    (∃ s : State, s.bar0Open = false) ∧
    (∃ s : State, s.bar0Up = true ∧ s.boot.stage = 2 ∧ s.sec.bar0Shut = false) ∧
    (∃ s : State, s.bar0Answers 0x1004 = false) ∧
    (∀ lock ∈ [true, false], ∃ s : State, s.bar0Open = true ∧ s.boot.imageLock = lock) ∧
    (∀ busy ∈ [true, false], ∃ (n o : Nat) (s : State), s.bar0Open = true ∧ n < 4 ∧ s.host.boxes.length = 4 ∧ o % 4 = 0 ∧ o < 0x1000 ∧
      (s.box n).busy = busy) ∧
    (∃ (k : Nat) (s : State), s.bar0Open = true ∧ k < 8 ∧ s.regs.msixTable.length = 32 ∧ bit s.regs.msixPba k = true) := by
  refine ⟨⟨State.reset, by decide +kernel⟩, ⟨inStage 2 0 serving, by decide +kernel⟩, ⟨inStage 2 0 serving, by decide +kernel⟩,
    fun l h => ⟨{ serving with boot := { serving.boot with imageLock := l } }, ?_⟩,
    fun b h => ⟨0, 0xFFC, withBox { Mailbox.fresh with busy := b } serving, ?_⟩,
    ⟨7, { serving with regs := { serving.regs with msixPba := 128 } }, by decide +kernel⟩⟩
  · revert l; decide +kernel
  · revert b; decide +kernel

/-- A node whose image allows debug, with this paddock. -/
def debuggable (p : Pad) : State :=
  let s := withPad p serving
  { s with img := { s.img with service := { s.img.service with debugAllowed := true } } }
def dbgBusy (withdraw : Bool) : State :=
  { debuggable tenant with sec := { serving.sec with dbgBusy := true, withdrawPending := withdraw } }

theorem witness_DebugIsRequestedAndWithdrawn :
    (∃ (v : Nat) (s : State), s.bar0Open = true ∧ bit v 0 = true ∧ bit v 1 = true) ∧
    (∃ (v : Nat) (s : State), s.bar0Open = true ∧ bit v 0 = true ∧ bit v 1 = false ∧ s.sec.dbgBusy = false ∧ s.sec.permitted = false ∧
      s.debugAllowed = false) ∧
    (∃ (v : Nat) (s : State), s.bar0Open = true ∧ bit v 0 = true ∧ bit v 1 = false ∧ s.sec.dbgBusy = false ∧ s.sec.permitted = false ∧
      s.debugAllowed = true ∧ ∃ p ∈ s.pads, p.state = .sealed) ∧
    (∃ (v : Nat) (s : State), s.bar0Open = true ∧ bit v 0 = true ∧ bit v 1 = false ∧ s.sec.dbgBusy = false ∧ s.sec.permitted = false ∧
      s.debugAllowed = true ∧ (∀ p ∈ s.pads, p.state ≠ .sealed) ∧ ∃ p ∈ s.pads, p.sealedTeardown = true) ∧
    (∃ (v : Nat) (s : State), s.bar0Open = true ∧ bit v 0 = true ∧ bit v 1 = false ∧ s.sec.dbgBusy = false ∧ s.sec.permitted = false ∧
      s.debugAllowed = true ∧ (∀ p ∈ s.pads, p.state ≠ .sealed ∧ p.sealedTeardown = false)) ∧
    (∀ w ∈ [true, false], ∀ v ∈ [1, 2], ∃ s : State, s.bar0Open = true ∧ s.sec.dbgBusy = true ∧ (bit v 0 = true ↔ v = 1) ∧
      (bit v 1 = true ↔ v = 2) ∧ s.sec.withdrawPending = w) ∧
    (∃ (v : Nat) (s : State), s.bar0Open = true ∧ s.sec.dbgBusy = false ∧ bit v 0 = false ∧ bit v 1 = true) := by
  refine ⟨⟨3, serving, by decide +kernel⟩, ⟨1, serving, by decide +kernel⟩, ⟨1, debuggable { tenant with state := .sealed }, by decide +kernel⟩,
    ⟨1, debuggable { tenant with state := .teardown, sealedTeardown := true }, by decide +kernel⟩, ⟨1, debuggable tenant, by decide +kernel⟩,
    fun w h v g => ⟨dbgBusy w, ?_⟩, ⟨2, serving, by decide +kernel⟩⟩
  revert w v; decide +kernel

theorem witness_TallyLatchHoldsASnapshot :
    (∀ pend ∈ [none, some 1], ∃ (v : Nat) (s : State), s.bar0Open = true ∧ bit v 0 = true ∧ s.regs.tlyPending = pend) ∧
    (∀ st ∈ [PadState.open_, .free], ∃ (p : Nat) (s : State), s.regs.tlyPending = some p ∧ (s.pad p).state = st ∧ (s.pad p).final = none) ∧
    (∃ (p : Nat) (r : TallyRec) (s : State), s.regs.tlyPending = some p ∧ (s.pad p).state = .free ∧ (s.pad p).final = some r) := by
  refine ⟨fun pend h => ⟨1, { serving with regs := { serving.regs with tlyPending := pend } }, ?_⟩,
    fun st h => ⟨1, withPad { tenant with state := st } { serving with regs := { serving.regs with tlyPending := some 1 } }, ?_⟩,
    ⟨1, TallyRec.zero,
      withPad { Pad.fresh 1 with final := some TallyRec.zero } { serving with regs := { serving.regs with tlyPending := some 1 } },
      by decide +kernel⟩⟩
  · revert pend; decide +kernel
  · revert st; decide +kernel

theorem witness_PcieWritesMoveTheTdi :
    (∃ s : State, s.bar0Up = true ∧ s.boot.stage = 2) ∧ (∃ s : State, s.bar0Up = false) ∧
    (∀ d ∈ [Tdi.unlocked, .locked, .run, .error], ∃ s : State, s.boot.stage ≠ 2 ∧ s.sec.tdi = d) ∧
    (∀ n ∈ [NState.n0, .n2], ∃ s : State, s.boot.stage ≠ 2 ∧ s.pwr.state = n) :=
  ⟨⟨inStage 2 0 serving, by decide +kernel⟩, ⟨State.reset, by decide +kernel⟩,
    fun d _ => ⟨{ serving with sec := { serving.sec with tdi := d } }, (by decide : (12 : Nat) ≠ 2), rfl⟩,
    fun n _ => ⟨{ serving with pwr := { serving.pwr with state := n } }, (by decide : (12 : Nat) ≠ 2), rfl⟩⟩

theorem witness_PldmAnswersWhatIsPowered :
    (∃ s : State, s.power.vaux = false) ∧ (∃ s : State, s.power.inTest = true) ∧
    (∃ s : State, s.power.vaux = true ∧ s.power.inTest = false ∧ s.power.pwrok = true ∧ s.boot.stage = 12) ∧
    (∀ st ∈ [7, 13], ∃ s : State, s.power.vaux = true ∧ s.power.inTest = false ∧ s.power.pwrok = true ∧ s.boot.stage = st) := by
  refine ⟨⟨{ serving with power := { serving.power with vaux := false } }, rfl⟩,
    ⟨{ serving with power := { serving.power with testMode := true } }, rfl⟩, ⟨serving, by decide +kernel⟩,
    fun st h => ⟨inStage st 0 serving, ?_⟩⟩
  revert st; decide +kernel

/-- A node with an instruction in JTAG and debug permitted or not. -/
def scanning (j : Jtag) (permitted : Bool) : State :=
  let s := withPad tenant serving
  { s with sec := { s.sec with jtag := j, permitted := permitted } }

theorem witness_JtagScansClearTheirPartition :
    (∀ j ∈ [Jtag.idcode, .bypass], ∃ s : State, s.sec.jtag = j) ∧ (∃ s : State, ∃ p ∈ s.pads, p.id ≠ 0 ∧ p.state ≠ .free) ∧
    (∃ s : State, s.power.testMode = false ∧ s.power.powerGood = true ∧ s.sec.permitted = true) ∧
    (∃ s : State, s.sec.permitted = false) ∧ (∃ s : State, s.sec.jtag = .internalScan 4) :=
  ⟨fun j _ => ⟨scanning j false, rfl⟩, ⟨scanning .idcode false, by decide +kernel⟩, ⟨scanning .idcode true, by decide +kernel⟩,
    ⟨scanning .idcode false, rfl⟩, ⟨scanning (.internalScan 4) true, rfl⟩⟩

theorem witness_PldmRequestsComplete : ∀ st ∈ [8, 12], ∃ s : State, s.power.vaux = true ∧
    s.power.inTest = false ∧ s.power.pwrok = true ∧ s.boot.stage = st := by
  intro st h
  refine ⟨inStage st 0 serving, ?_⟩
  revert st; decide +kernel

theorem witness_JtagInstructionsComplete :
    (∀ j ∈ [Jtag.idcode, .internalScan 4], ∃ s back : State, back = (match s.sec.jtag with | .internalScan p => s.clearPartition p | _ => s) ∧
      s.sec.jtag = j ∧ s.power.testMode = false ∧ s.power.powerGood = true ∧ s.sec.permitted = true) ∧
    (∃ s : State, s.power.testMode = false ∧ s.power.powerGood = true ∧ ∀ p ∈ s.pads, p.id = 0 ∨ p.state = .free) :=
  ⟨fun j _ => ⟨scanning j true, _, rfl, rfl, rfl, rfl, rfl⟩, ⟨serving, by decide +kernel⟩⟩

/-! ### Witnesses: start-up, clocks, power -/

/-- A node in power phase `p` with VIN_12 good. -/
def powering (a768 : Bool) (p attempts : Nat) : State :=
  { State.reset with
    fused := { Fused.standard with a768 := a768 }
    power := { PowerUp.fresh with powerGood := true, phase := p, on := List.range p }
    boot := { State.reset.boot with stage := 1, attempts := attempts } }

theorem witness_PowerComesUpInPhases :
    (∃ s : State, s.power.vaux = false) ∧ (∃ s : State, s.power.vaux = true ∧ s.power.rstN = true ∧ s.power.powerGood = false) ∧
    (∀ a ∈ [true, false], ∀ p ∈ [1, 3, 4], ∃ s : State, s.power.powerGood = true ∧ s.fused.a768 = a ∧ s.power.phase = p) ∧
    (∃ (sites : Nat) (s : State), s.power.powerGood = true ∧ s.fused.a768 = false ∧ s.power.phase = 4 ∧ s.sitesOn sites = true) ∧
    (∀ n ∈ [1, 2], ∀ p ∈ [1, 4], ∃ s : State, s.power.powerGood = true ∧ s.power.phase = p ∧ s.boot.attempts = n) ∧
    (∃ (at_ : Nat) (s : State), s.power.retryAt = some at_) :=
  ⟨⟨{ serving with power := { serving.power with vaux := false } }, rfl⟩, ⟨State.reset, by decide +kernel⟩,
    fun a _ p _ => ⟨powering a p 0, rfl, rfl, rfl⟩, ⟨4095, powering false 4 0, by decide +kernel⟩,
    fun n _ p _ => ⟨powering true p n, rfl, rfl, rfl⟩,
    ⟨1500, let s := powering true 0 1
      { s with power := { s.power with retryAt := some 1500 } }, rfl⟩⟩

theorem witness_PinsResetTheNode :
    (∃ s : State, s.power.powerGood = true ∧ s.power.vaux = true) ∧
    (∀ d ∈ [Tdi.unlocked, .locked], ∃ s : State, s.power.powerGood = true ∧ s.sec.tdi = d) :=
  ⟨⟨serving, by decide +kernel⟩, fun d _ => ⟨{ serving with sec := { serving.sec with tdi := d } }, rfl, rfl⟩⟩

/-- An image of the required sections, all empty, and a signature of 96 zero bytes with no certificate. -/
def sectionEntry (type offset length check : Nat) : Bytes := toLe 2 type ++ [0, 0] ++ toLe 4 offset ++ toLe 4 length ++ toLe 4 check
def imageBytes : Bytes :=
  [0x51, 0x52, 0x49, 0x4D, 0, 3] ++ toLe 2 8 ++ toLe 4 352 ++ zeros 4 ++ [0, 3, 0, 0] ++ toLe 4 128 ++ zeros 104 ++
    ([1, 2, 5, 7, 8, 9, 11].map fun t => sectionEntry t 128 0 0).flatten ++ sectionEntry 65535 256 96 (crc32c (zeros 96)).toNat
def image1 : List Host.Cell := Memory.writeBytes [] 0 imageBytes

/-- The image passes every check that the cryptography and the ranges of its sections leave. -/
theorem image_passes (s : State) (part : s.fused.a768 = true) (revision : s.fused.revision = 0) (floor : s.boot.floor = 0)
    (signed : imgSigned s.fused.imageRoot image1 = true) (ranges : Config.rangesHold (imgBytes image1) = true)
    (within : (imgSettings image1).inRange true = true) :
    s.imgReason image1 25165824 = 0 := by
  simp only [State.imgReason, part, revision, floor, signed, ranges, within]
  refine (if_neg (by decide +kernel)).trans ((if_neg (by decide)).trans ((if_neg (by decide +kernel)).trans ((if_neg (by omega)).trans
    ((if_neg (by decide +kernel)).trans ((if_neg (by decide +kernel)).trans ((if_neg (by decide +kernel)).trans (if_neg (by decide +kernel))))))))

/-- A node in the stage IMAGE with these two slots, as its slot control record has them; and O1's reading of that record. -/
def imaging (a b : ImageSlot) : State :=
  let s := inStage 2 0 serving
  { s with boot := ({ s.boot with slots := [a, b] } : Boot).writeRecord }
def reading (s : State) : State := { s with boot := s.boot.readRecord }
def slotOf (st : SlotState) (m : List Host.Cell) : ImageSlot := { ImageSlot.fresh with state := st, bytes := m }

theorem bytes1 : ∀ st ∈ [SlotState.fallback, .pending, .active],
    ((reading (imaging ImageSlot.fresh (slotOf st image1))).slot 1).bytes = image1 := by decide +kernel

/-- The third to fifth clauses hold where the cryptography accepts the image and its values are in range. -/
theorem witness_ImagesAreChosenAndProved :
    (∃ s : State, s.boot.ctrl.length = 2) ∧
    (∃ s u : State, u = { s with boot := s.boot.readRecord } ∧ s.boot.stage = 2 ∧ u.boot.slots.length = 2 ∧
      (∀ x ∈ u.boot.slots, x.state ≠ .probation) ∧ (∀ x ∈ u.boot.slots, x.state ≠ .pending) ∧
      (∀ x ∈ u.boot.slots, x.state ≠ .active) ∧ (∀ x ∈ u.boot.slots, x.state ≠ .fallback)) ∧
    (∀ i < 2, ∃ s u : State, u = { s with boot := s.boot.readRecord } ∧ s.boot.stage = 2 ∧ u.boot.slots.length = 2 ∧
      (u.slot i).state = .probation) ∧
    (imgSigned (zeros 48) image1 = true → Config.rangesHold (imgBytes image1) = true → (imgSettings image1).inRange true = true →
      ∀ st ∈ [SlotState.fallback, .pending, .active], ∃ (i : Nat) (s u : State), u = { s with boot := s.boot.readRecord } ∧
        (s.boot.stage = 2 ∧ u.boot.slots.length = 2 ∧ (∀ x ∈ u.boot.slots, x.state ≠ .probation) ∧ i < 2 ∧
          u.slotIn .pending = (if st = .pending then some i else none) ∧
          u.slotIn .active = (if st = .active then some i else none) ∧
          u.slotIn .fallback = (if st = .fallback then some i else none)) ∧ s.imgReason (u.slot i).bytes 25165824 = 0) ∧
    (∃ (at_ : Nat) (s : State), s.boot.probationEnd = some at_ ∧ s.boot.slots.length = 2 ∧ s.boot.inForce < 2 ∧
      (s.slot (1 - s.boot.inForce)).state = .active) ∧
    (∃ s : State, s.boot.probationEnd ≠ none ∧ s.boot.stage ≠ 12 ∧ s.boot.inForce < s.boot.slots.length) := by
  let p : State := slotted .active .probation serving
  let q : State := { p with boot := { p.boot with probationEnd := some 9000, inForce := 1 } }
  refine ⟨⟨serving, by decide +kernel⟩, ⟨imaging ImageSlot.fresh { ImageSlot.fresh with state := .failed }, _, rfl, by decide +kernel⟩,
    fun i h => ⟨imaging { ImageSlot.fresh with state := .probation } { ImageSlot.fresh with state := .probation }, _, rfl, ?_⟩,
    fun h1 h2 h3 st h => ⟨1, imaging ImageSlot.fresh (slotOf st image1), reading (imaging ImageSlot.fresh (slotOf st image1)), rfl, ?_, ?_⟩,
    ⟨9000, q, by decide +kernel⟩, ⟨inStage 9 0 q, by decide +kernel⟩⟩
  · revert i; decide +kernel
  · revert st; decide +kernel
  · rw [bytes1 st h]
    exact image_passes _ (by revert st; decide +kernel) (by revert st; decide +kernel) (by revert st; decide +kernel) h1 h2 h3

theorem witness_BistMapsAndStacksTrain :
    (∃ s : State, s.boot.stage = 4 ∧ ∀ k ∈ s.eng.clusters, k.die < 2 ∧ k.phys < 68) ∧
    (∀ re ∈ [true, false], ∃ (i : Nat) (s : State) (x : Stack) (c : SliceCfg), s.boot.stage = 5 ∧ s.stackAt i = some x ∧
      x.trained = false ∧ x.stopped = false ∧ x.retrained = re ∧ c ∈ s.img.slices ∧ i ∈ c.hbms) := by
  refine ⟨⟨inStage 4 0 State.reset, by decide +kernel⟩,
    fun re h => ⟨1, let s := inStage 5 0 serving
      { s with store := { s.store with hbms := [{ Stack.fresh 1 with retrained := re }] } }, { Stack.fresh 1 with retrained := re },
      defaultSlice true 0, ?_⟩⟩
  revert re; decide +kernel

/-- A joining node, its fabric manager's key of zero bytes accepted, and a reply to its beacon. -/
def joining (j : Join) : State :=
  let s := inStage 10 0 serving
  { s with
    boot := { s.boot with join := j }
    net := { s.net with links := [{ Link.fresh 0 with up := true, neighbour := true }] }
    img := { s.img with service := { s.img.service with fmHashes := [Config.sha384 (zeros 97)], fmAddresses := [zeros 16] } } }
def joined : State := joining { Join.fresh with nonce := List.replicate 16 7, sent := some 900 }
def reply1 : Bytes := [2, 1, 0, 0, 0, 5, 0, 1] ++ zeros 16 ++ List.replicate 16 7 ++ zeros 312

theorem reply_holds (signed : Config.ecdsaOk (zeros 97) (Config.sha384 (sub reply1 0 256 ++ [])) (zeros 96) = true) :
    joined.replyHolds reply1 = true := by
  have k : sub reply1 156 97 = zeros 97 := by decide +kernel
  have g : sub reply1 256 96 = zeros 96 := by decide +kernel
  have h : joined.img.service.fmHashes = [Config.sha384 (zeros 97)] := rfl
  have b : joined.boot.join.beacon = [] := rfl
  have c : (reply1.length == 352 && be reply1 0 1 == 2 && be reply1 1 1 == 1 && !joined.boot.join.nonce.isEmpty
    && sub reply1 24 16 == joined.boot.join.nonce && be reply1 2 2 == joined.boot.join.attempt) = true := by decide +kernel
  simp only [State.replyHolds, k, g, h, b, c, signed, List.contains_cons, beq_self_eq_true, Bool.true_or, Bool.and_self]

/-- The last clause holds where the cryptography accepts the reply's signature. -/
theorem witness_NodeJoinsTheFabric :
    (∃ (at_ : Nat) (l : Link) (s : State), s.boot.stage = 10 ∧ s.boot.join.nextAt = some at_ ∧ s.boot.join.nonce = [] ∧
      (s.net.links.filter fun x => x.up && x.neighbour).head? = some l ∧ (s.sched (16 + l.id)).isSome = true ∧
      s.img.service.fmAddresses ≠ []) ∧
    (∃ (at_ : Nat) (s : State), s.boot.stage = 10 ∧ s.boot.join.nextAt = some at_ ∧
      (∀ x ∈ s.net.links, x.up = false ∨ x.neighbour = false)) ∧
    (∃ (at_ : Nat) (s : State), s.boot.join.sent = some at_) ∧
    (∃ (r : Bytes) (s : State), s.boot.stage = 10 ∧ s.replyHolds r = false) ∧
    (Config.ecdsaOk (zeros 97) (Config.sha384 (sub reply1 0 256 ++ [])) (zeros 96) = true →
      ∃ (r : Bytes) (s : State), s.boot.stage = 10 ∧ s.replyHolds r = true) := by
  let j := joining { Join.fresh with nextAt := some 900 }
  refine ⟨⟨900, { Link.fresh 0 with up := true, neighbour := true }, j, rfl, rfl, rfl, by decide +kernel, by decide +kernel, by decide +kernel⟩,
    ⟨900, { j with net := State.reset.net }, rfl, rfl, ?_⟩,
    ⟨900, joined, rfl⟩, ⟨[], inStage 10 0 serving, by decide +kernel⟩, fun h => ⟨reply1, joined, rfl, reply_holds h⟩⟩
  show ∀ x ∈ State.reset.net.links, _
  decide +kernel

theorem witness_ReferencesAreMonitored :
    (∀ ok ∈ [true, false], ∃ s : State, s.pwr.refOk.length = 4 ∧ s.pwr.refLost.length = 4 ∧ (s.store.ports.map (·.port)).Nodup ∧
      (s.net.links.map (·.id)).Nodup ∧ (∀ r < 4, s.pwr.refOk.getD r (!ok) = ok) ∧ s.restarting 5 = false ∧ s.power.pwrok = true) := by
  intro ok h
  refine ⟨{ serving with pwr := { serving.pwr with refOk := List.replicate 4 ok } }, ?_⟩
  revert ok; decide +kernel

/-- A node whose first cluster is mapped and in this K state, its ID in use or not. -/
def resting (k : KState) (busy : Bool) : State :=
  let s := clusterUse (.mapped 0)
  { s with eng := { s.eng with
      clusters := { Cluster.fresh 0 0 with use := .mapped 0, k := k } :: mappedClusters.tail
      ops := if busy then stepIssued.eng.ops else [] } }

theorem witness_ClustersRestAndWake :
    (∃ (die phys : Nat) (s : State) (k : Cluster), s.physical die phys = some k ∧ s.clusterIdle k = false) ∧
    (∀ st ∈ [KState.k0, .k1, .enteringK2, .k2], ∃ (die phys : Nat) (s : State) (k : Cluster), s.physical die phys = some k ∧
      s.clusterIdle k = true ∧ k.k = st) := by
  refine ⟨⟨0, 0, resting .k0 true, { Cluster.fresh 0 0 with use := .mapped 0 }, by decide +kernel⟩,
    fun st h => ⟨0, 0, resting st false, { Cluster.fresh 0 0 with use := .mapped 0, k := st }, ?_⟩⟩
  revert st; decide +kernel

/-- A node in a node state. -/
def inN (n : NState) (wake : Option (Nat × Nat × Nat)) : State :=
  { serving with pwr := { serving.pwr with state := n, wakePending := wake, alarm := some 5000 } }

theorem witness_NodeSleepsAndWakes :
    (∃ s : State, s.n2Permitted = false) ∧ (∃ s : State, s.eng.ops ≠ []) ∧ (∃ s : State, s.net.miss ≠ []) ∧
    (∃ s : State, ∃ d ∈ s.sch.scheds, d.id < 16 ∧ ∃ q ∈ d.queues, q.items ≠ []) ∧ (∃ s : State, s.pwr.state = .n0 ∧ s.quiet = true) ∧
    (∀ w ∈ [none, some (1, 2, 900)], ∃ s : State, s.pwr.state = .enteringN2 ∧ s.pwr.wakePending = w) ∧
    (∃ s : State, s.pwr.state = .n2 ∧ s.regs.monitorDisable = false ∧ ∃ a, s.pwr.alarm = some a) ∧
    (∃ s : State, s.regs.monitorDisable = true) ∧
    (∀ x ∈ [(1, 0, 3), (0, 1, 3), (0, 0, 2), (0, 0, 3)], ∃ (a p : Nat) (s : State), s.pwr.state = .exitingN2 x.1 ∧
      s.pwr.exitEnd = s.time + 8000000 + x.2.1 ∧ a = x.2.2 ∧ (wakesBefore a p s.pwr.wakeSource s.pwr.wakePort = true ↔ a = 2)) ∧
    (∀ n ∈ [0, 2, 3, 4], ∃ s : State, s.pwr.state = .exitingN2 n ∧ s.host.doorbells = [] ∧ s.restarting 5 = false) := by
  refine ⟨⟨{ serving with regs := { serving.regs with n2Disable := true } }, by decide +kernel⟩, ⟨fronted, by decide +kernel⟩,
    ⟨{ serving with net := { serving.net with miss := [(0, frame (pktHead 0 3 10 8 36 3 0 36) (zeros 36))] } }, by decide +kernel⟩,
    ⟨{ serving with sch := ⟨[{ Sched.fresh (defaultImage true).sched 0 0 with
      queues := [⟨2, 1, [(.work ⟨.free, 1, [4]⟩, 1)], 0, 64, false, none, 0, 0, true, false⟩] }], [], []⟩ }, by decide +kernel⟩,
    ⟨{ serving with eng := { serving.eng with ops := [] }, img := { serving.img with loaded := true } }, by decide +kernel⟩, fun w _ => ⟨inN .enteringN2 w, rfl, rfl⟩,
    ⟨inN .n2 none, rfl, rfl, 5000, rfl⟩, ⟨{ serving with regs := { serving.regs with monitorDisable := true } }, rfl⟩,
    fun x h => ⟨x.2.2, 0, { serving with
      pwr := { serving.pwr with state := .exitingN2 x.1, exitEnd := 8001000 + x.2.1, wakeSource := 3 } }, ?_⟩,
    fun n _ => ⟨inN (.exitingN2 n) none, rfl, rfl, rfl⟩⟩
  revert x; decide +kernel

theorem witness_PowerAndHeatMoveThePoints :
    (∀ forced ∈ [true, false], ∀ down ∈ [true, false], ∃ (d : Nat) (s : State), s.pwr.points.length = 16 ∧ s.pwr.throttle.length = 2 ∧
      s.pwr.forced.length = 2 ∧ s.pwr.temps.length = 3 ∧ d < 2 ∧ s.pwr.forced.getD d false = forced ∧ s.restarting 6 = down ∧
      s.restarting 5 = false ∧ s.power.pwrok = true) ∧
    (∀ p ∈ [true, false], ∃ (g : Nat) (s : State), g < 16 ∧ s.pinnedGroup g = p) ∧
    (∃ s : State, s.boot.probationEnd = none) ∧
    (∃ s : State, s.boot.probationEnd ≠ none ∧ s.boot.inForce < s.boot.slots.length ∧ s.power.pwrok = true) := by
  refine ⟨fun f h down g => ⟨1, { serving with
      pwr := { serving.pwr with forced := [false, f] }, ostlers := [{ Ostler.fresh 6 with running := !down, restarting := down }] }, ?_⟩,
    fun p h => ⟨0, { serving with
      img := { serving.img with slices := [{ defaultSlice true 0 with policy := 1, clockMhz := if p then 1000 else 0 }] } }, ?_⟩,
    ⟨serving, by decide +kernel⟩, ⟨{ serving with boot := { serving.boot with probationEnd := some 9000 } }, by decide +kernel⟩⟩
  · revert f down; decide +kernel
  · revert p; decide +kernel

theorem witness_RestartedOstlersRunAgain :
    (∃ s : State, (s.ostlers.map (·.id)).Nodup ∧ ∀ o < 8, s.restarting o = false) ∧
    (∀ re ∈ [true, false], ∃ (o : Nat) (s : State), (s.ostlers.map (·.id)).Nodup ∧ s.restarting o = true ∧ o ∉ [5, 7] ∧
      (s.function 3 o).reenable = re) ∧
    (∃ (e : ErrRep) (at_ : Nat) (s : State), (s.ostlers.map (·.id)).Nodup ∧ s.restarting 5 = true ∧ s.log.queue = [(e, at_)] ∧ s.log.lostReports = 0 ∧
      e.severity = 1 ∧ e.unitKind = 9) ∧
    (∃ s : State, (s.ostlers.map (·.id)).Nodup ∧ s.restarting 5 = true ∧ s.log.queue = [] ∧ 0 < s.log.lostReports) := by
  let e : ErrRep := ⟨1, 9, 0x2001, 1, 2, 0, 0, []⟩
  refine ⟨⟨serving, by decide +kernel⟩,
    fun re h => ⟨3, { serving with
      ostlers := [{ Ostler.fresh 3 with restarting := true }], host := { serving.host with functions := [⟨3, 3, 0, true, re⟩] } }, ?_⟩,
    ⟨e, 900, { serving with ostlers := [{ Ostler.fresh 5 with restarting := true }], log := { serving.log with queue := [(e, 900)] } },
      by decide +kernel⟩,
    ⟨{ serving with ostlers := [{ Ostler.fresh 5 with restarting := true }], log := { serving.log with lostReports := 2 } }, by decide +kernel⟩⟩
  revert re; decide +kernel

/-! ### Witnesses: the monitor, and the claims over all commands -/

theorem witness_MonitorReports :
    (∃ s : State, s.monitorListens = false) ∧
    (∀ rom ∈ [true, false], ∃ s : State, s.monitorListens = true ∧ s.romMonitor = rom) ∧
    (∀ rom ∈ [true, false], ∃ c : Instr, (c, rom) ∈ monitorReports) := by
  refine ⟨⟨State.reset, by decide +kernel⟩, fun r h => ⟨inStage (if r then 6 else 12) 0 serving, ?_⟩,
    fun r h => ⟨if r then .shrVer else .shrHelp, ?_⟩⟩
  · revert r; decide +kernel
  · revert r; decide +kernel

theorem witness_MonitorSetsItsRateAndTests :
    (∀ u ∈ [ClusterUse.spare true, .retired, .disabled, .mapped 0], ∃ (s : State) (k : Cluster), s.monitorListens = true ∧
      s.romMonitor = false ∧ s.physical 0 0 = some k ∧ k.use = u ∧ k.spareSince = none) ∧ (∃ r, r ∈ baudRates) ∧ (∃ r, r ∉ baudRates) ∧
    (∃ line : Bytes, 128 < line.length) := by
  refine ⟨fun u h => ⟨clusterUse u, { Cluster.fresh 0 0 with use := u }, ?_⟩, ⟨115200, by decide +kernel⟩, ⟨300, by decide +kernel⟩,
    ⟨zeros 129, by decide +kernel⟩⟩
  revert u; decide +kernel

theorem witness_MonitorDebugsWhilePermitted :
    (∃ s : State, s.monitorListens = true ∧ s.romMonitor = false ∧ s.sec.permitted = false) ∧
    (∃ (s : State) (a b : Nat), s.monitorListens = true ∧ s.romMonitor = false ∧ s.sec.permitted = true ∧
      s.wordsReserved a 1 = true ∧ s.wordsReserved b 1 = false ∧ Memory.wf s.mem = true ∧
      (∀ i, i < 4 → s.plainByte (b + i) = true ∧ s.blockAt (b + i) = none ∧ s.checkedWord (b + i) = none ∧
        ∀ x ∈ s.images, ¬(x.1 ≤ b + i ∧ b + i < x.1 + x.2.length))) :=
  ⟨⟨scanning .idcode false, by decide +kernel⟩, ⟨scanning .idcode true, 2 ^ 45 - 4, landingBase, by decide +kernel⟩⟩

theorem witness_EveryCommandAnswers :
    (∃ (c : Instr), (∀ a n, c ≠ .shrMr a n) ∧ ∀ a v, c ≠ .shrMw a v) ∧
    (∃ (c : Instr) (s : State) (f : Fault), exec c s = .fault f) := by
  refine ⟨⟨.flr, fun a n e => (nomatch e), fun a v e => (nomatch e)⟩, ⟨.shrMw (2 ^ 45 - 4) 0, scanning .idcode true, .reservedAddress, ?_⟩⟩
  have : (match exec (.shrMw (2 ^ 45 - 4) 0) (scanning .idcode true) with | .fault .reservedAddress => true | _ => false) = true := by
    decide +kernel
  revert this
  cases exec (.shrMw (2 ^ 45 - 4) 0) (scanning .idcode true) with
  | next t => simp
  | fault f => cases f; simp
  | refused r => simp

theorem witness_CommandsChangeOnlyTheirFields : ∃ (c : Instr) (s t : State), exec c s = .next t :=
  ⟨.flr, serving, serving.resetFunction, rfl⟩

theorem witness_StepsKeepMemoryCanonical : ∃ s t : State, s.Canonical ∧ step s = .next t :=
  ⟨serving, { serving with time := serving.time + 1 }, ⟨by decide +kernel, by decide +kernel⟩, rfl⟩

theorem witness_TimeGoesBackAtAResetOrByPtp : ∃ s t : State, step s = .next t :=
  ⟨serving, { serving with time := serving.time + 1 }, rfl⟩

theorem witness_QuantiserPicksANearestElement : ∃ f : Fmt, f ≠ .bf16 ∧ ∃ c, c ≤ f.maxCode := ⟨.fp8, by decide, 0, by decide⟩

theorem witness_PackedSectionsDecode : ∀ w ∈ [4, 6, 8, 16], ∃ (d : Nat) (codes : List (List Nat)), codes.length = 64 ∧
    (∀ v ∈ codes, v.length = d ∧ ∀ c ∈ v, c < 2 ^ w) := by
  intro w h; refine ⟨2, List.replicate 64 [0, 2 ^ w - 1], ?_⟩; revert w; decide +kernel

theorem witness_RecordsReadBack :
    (∀ f ∈ [Fmt.bf16, .fp8, .mxfp8, .mxfp6, .mxfp4], ∃ (d : Nat) (v : QVec), 32 ∣ d ∧ v.codes.length = d ∧ (∀ c ∈ v.codes, c < 2 ^ f.width) ∧
      v.scales.length = (match f with | .bf16 => 0 | .fp8 => 1 | _ => d / 32) ∧
      (∀ x ∈ v.scales, x < (match f with | .fp8 => 2 ^ 32 | _ => 256))) ∧
    (∃ (r : RecShape) (recs : List Bytes), recs.length = 64 ∧ 1 ≤ r.bytes ∧ ∀ b ∈ recs, b.length = r.bytes) := by
  refine ⟨fun f h => ⟨32, ⟨List.replicate 32 1, if f = .bf16 then [] else [255]⟩, ?_⟩,
    ⟨seq9.shape.recShape, List.replicate 64 (zeros seq9.shape.recShape.bytes), by decide +kernel⟩⟩
  revert f; decide +kernel

theorem witness_LongestMaskWins : ∃ (es : List LedgerEntry) (key slot : Nat), (es.map (·.row)).Nodup ∧
    (∃ e ∈ es, ∃ x ∈ es, x ≠ e ∧ e.hits key slot = true ∧ x.hits key slot = true) :=
  ⟨[⟨1, 16, 48, 5, [0], false, 0⟩, ⟨2, 16, 112, 6, [0], false, 0⟩], 16, 0, by decide +kernel⟩

theorem witness_UnseenBlocksLeaveTheRoot : ∃ (leafOf : Nat → Partial) (h first d j : Nat), first ≤ j ∧ j < first + 2 ^ h ∧
    isNan (leafOf j).m = false ∧ (leafOf j).m ≠ 0xFF800000 ∧ (∀ k, k ≠ j → leafOf k = .identity d) :=
  ⟨fun k => if k = 5 then ⟨0, 0, [0]⟩ else .identity 1, 2, 4, 1, 5, by decide, by decide, by decide +kernel, by decide +kernel,
    fun k h => if_neg h⟩

theorem witness_OccupancyIsChargedEveryTick : ∃ s : State, (s.pads.map (·.id)).Nodup ∧
    (∃ p ∈ s.pads, p.state ≠ .free ∧ p.counters.length = 10) ∧ ∃ p ∈ s.pads, p.state = .free :=
  ⟨{ serving with pads := [tenant, Pad.fresh 2] }, by decide +kernel⟩

/-! ### Well-formed commands -/

def goodMsg : Msg := ⟨2, 3, 10, 5, zeros 32⟩
def goodFrame : Frame := ⟨0, 4, true, false, 4000, false, 100, zeros 16, zeros 32, 0, [], []⟩
def goodRef : BlockRef := ⟨1, 9, 0, 0, 0⟩

/-- One ill-formed message or packet for each check. -/
def illMessages : List Instr :=
  [.step { goodMsg with qpn := 2 ^ 24 }, .append { goodMsg with msn := 2 ^ 24 }, .lread { goodMsg with psn := 2 ^ 24 },
    .disconnect { goodMsg with opcode := 256 }, .dataPacket { goodFrame with link := 32 }, .ackReceive { goodFrame with pcp := 8 },
    .ackReceive { goodFrame with udpPort := 2 ^ 16 },
    .nakReceive { goodFrame with head := zeros 31 }, .cnpReceive { goodFrame with tag := zeros 15 }]

/-- The same for connects, mailboxes, blocks, leases, reports and sessions. -/
def illRecords : List Instr :=
  [.hello ⟨2 ^ 24, zeros 16, 32, zeros 64⟩, .proof ⟨2, zeros 16, 256, zeros 64⟩, .accept ⟨2, zeros 16, 32, zeros 63⟩, .nodeInfo ⟨4, []⟩, .powerSet ⟨0, zeros 4097⟩,
    .blockClose { goodRef with paddock := 4096 } .good, .blockClose { goodRef with seq := 2 ^ 64 } .good,
    .closeRetryTimer { goodRef with layer := 256 }, .closeRetryTimer { goodRef with head := 128 },
    .closeRetryTimer { goodRef with block := 2 ^ 18 }, .leaseRequest { zeroReq with stack := 12 },
    .leaseRequest { zeroReq with pcs := [63, 64] }, .leaseRequest { zeroReq with paddock := 4096 },
    .errorReport ⟨4, 9, 1, 1, 0, 0, 0, []⟩, .errorReport ⟨1, 9, 2 ^ 16, 1, 0, 0, 0, []⟩, .errorReport ⟨1, 9, 1, 4096, 0, 0, 0, []⟩,
    .seal ⟨2 ^ 32, []⟩, .keyExchange ⟨3, 2, false, [], []⟩, .keyExchange ⟨2, 2 ^ 24, false, [], []⟩,
    .getMeasurements (2 ^ 32) 1 (zeros 32), .getMeasurements 1 256 (zeros 32), .getMeasurements 1 1 (zeros 31)]

/-- The same for events on the fabric, in the tiers and in the tables. -/
def illEvents : List Instr :=
  [.rtoExpiry (2 ^ 24), .handover (2 ^ 24) 0, .handover 2 (2 ^ 24), .pairCommitAck 0 (2 ^ 32), .windowFree (2 ^ 16),
    .pfcFrameReceive 0 8 true, .linkUp 32, .admissionServe 16, .wheelSlotStart 48, .starveTimeExpiry 0 8 1, .starveTimeExpiry 0 0 4096,
    .outriderReadIssue 2 0, .clusterFault 0 68, .walkFillDone 0 1 9 (2 ^ 24) .good, .ttlExpiry 4096 9, .ttlExpiry 1 (2 ^ 64),
    .releaseRefZero (2 ^ 32), .restoreComplete (.block { goodRef with paddock := 4096 }), .restoreComplete (.page 4096 9 0),
    .restoreComplete (.whole 1 (2 ^ 64)), .heatEpochSweep 2, .tier2PortLost 8, .stackStop 12, .refreshDue 0 64, .leaseRefreshDue 0 64,
    .fenceFault 0 (2 ^ 48), .teardownComplete 4096]

/-- The same for registers, pins, clocks and the monitor. -/
def illPins : List Instr :=
  [.functionShutdownComplete 16 0, .functionShutdownComplete 2 (2 ^ 16), .resetCtlWarm (2 ^ 32), .registerPairLoRead (2 ^ 20),
    .registerWrite (2 ^ 20) 4 0, .registerWrite 0 3 0, .registerWrite 0 8 (2 ^ 64), .vauxUp false 8 false,
    .a384PhaseDelayEnd true true true (2 ^ 12), .bistStageDone [68] [], .bistStageDone [] [68], .refclkLoss 4, .n2Wake 0 0, .n2Wake 8 0,
    .n2Wake 1 8, .powerAverageTick (2 ^ 16), .throttleStepTimer 2 0, .tTripCross 3 0, .watchdogExpiry 8, .protectionViolation 0 (2 ^ 48),
    .shrMr (2 ^ 48) none, .shrMw 0 (2 ^ 32), .jtagInstruction (.internalScan 7), .shrLongLine (zeros 128)]

theorem test_ill_formed_messages_are_refused : illMessages.all (!·.wellFormed) = true := by decide +kernel
theorem test_ill_formed_records_are_refused : illRecords.all (!·.wellFormed) = true := by decide +kernel
theorem test_ill_formed_events_are_refused : illEvents.all (!·.wellFormed) = true := by decide +kernel
theorem test_ill_formed_pin_events_are_refused : illPins.all (!·.wellFormed) = true := by decide +kernel

/-- A body above 67,108,864 bytes (R188). -/
theorem test_long_message_is_refused : (Instr.step { goodMsg with body := List.replicate 67108865 0 }).wellFormed = false := by
  have long : ∀ n, 67108864 < n → Msg.wf { goodMsg with body := List.replicate n 0 } = false := by
    intro n h
    unfold Msg.wf
    rw [List.length_replicate]
    simp
    omega
  exact long _ (by decide)

theorem test_well_formed_commands_are_accepted :
    [Instr.step goodMsg, .dataPacket goodFrame, .hello ⟨2, zeros 16, 32, zeros 64⟩, .nodeInfo (post 1 []), .blockClose goodRef .good,
      .leaseRequest zeroReq, .registerWrite 0x1004 4 3, .refclkLoss 3, .tTripCross 2 1050, .shrLongLine (zeros 129)].all
      Instr.wellFormed = true := by decide +kernel

/-! ### Worked examples of the manual -/

/-- R105. -/
theorem test_crc32c_check_value : crc32c (ascii "123456789") = 0xE3069283 := by decide +kernel
/-- R85. -/
theorem test_witness_crc_check_value : crc64 (ascii "123456789") = 0x6C40DF5F0B497347 := by decide +kernel
/-- R77. -/
theorem test_exp2_table_check_entries :
    [0, 16, 32, 48].map exp2Entry = [0x3F800000, 0x3F9837F0, 0x3FB504F3, 0x3FD744FD] := by decide +kernel
/-- R76: the traces of the worked leaf. -/
theorem test_exp2_traces : [0xBF7E0000, 0xC0200000, 0].map exp2Ref = [0x3F00B1ED, 0x3E3504F3, 0x3F800000] := by decide +kernel
/-- R71: the appended vector of the worked leaf: scale code 0x7D, channel 2 code 6, every other 0. -/
theorem test_quantise_worked_vector : quantise .mxfp4 ([0, 0, 0x3F80] ++ List.replicate 29 0) =
    ⟨[0, 0, 6] ++ List.replicate 29 0, [0x7D]⟩ := by decide +kernel
/-- R78: the worked leaf. -/
theorem test_worked_leaf : leaf 2 [(0x3F810000, [0x3F800000, 0]), (0xBF000000, [0x3F800000, 0]), (0x40000000, [0x3F800000, 0])] =
    ⟨0x40000000, 0x3FD6F995, [0x3FD72000, 0]⟩ := by decide +kernel
/-- R84: combine of the identity and a partial is the partial. -/
theorem test_combine_identity : combine (.identity 2) ⟨0x40000000, 0x3FD6F995, [0x3FD72000, 0]⟩ =
    ⟨0x40000000, 0x3FD6F995, [0x3FD72000, 0]⟩ := by decide +kernel
/-- R103: the worked group: width 3 and base 6 of the ordered codes, and its payload. -/
def workedGroup : List Nat := [2, 3, 2, 4, 3, 2, 9, 3, 2, 3, 4, 2, 3, 3, 2, 4]
theorem test_packed_group :
    workedGroup.map (toOrdered 4) = [10, 11, 10, 12, 11, 10, 6, 11, 10, 11, 12, 10, 11, 11, 10, 12] ∧
    cbfWidth 4 (workedGroup.map (toOrdered 4)) = 3 ∧
    packBits ((workedGroup.map fun c => bitsOf 3 (toOrdered 4 c - 6)).flatten) = [0x2C, 0x5D, 0xA2, 0xAC, 0xD9, 0xD2] := by
  decide +kernel
/-- R96: the records of W-32 and of W-L take 136 and 580 bytes, a raw block of W-32 17 units. -/
theorem test_record_sizes : (RecShape.mk .mxfp4 .mxfp4 128 128).bytes = 136 ∧ (RecShape.mk .fp8 .fp8 576 0).bytes = 580 ∧
    64 * (RecShape.mk .mxfp4 .mxfp4 128 128).bytes = 17 * 512 := by decide +kernel
/-- R146: frame 1,000,000 of S0 lies on stack 4, pseudo-channel 4, and the next two on H5 PC4 and H0 PC5. -/
theorem test_frame_places : [1000000, 1000001, 1000002].map (fun i => ((framePlace i 6).1, (framePlace i 6).2.1)) = [(4, 4), (5, 4), (0, 5)] := by decide +kernel
/-- The three paddocks of the worked example in the latency ring of S0: 0x011 and 0x022 at V = 500, 0x033 once it wakes. -/
def ringQueue (paddock quantum : Nat) (items : List (Nat × Nat)) : Queue :=
  ⟨0, paddock, items.map fun x => (.op x.1, x.2), 0, quantum, false, none, 1000, 0, true, false⟩
def ring500 : Sched :=
  { Sched.fresh (defaultImage true).sched 0 0 with
    queues := [ringQueue 0x011 64 [(1, 300), (2, 40)], ringQueue 0x022 128 [(3, 150)]], rings := [⟨0, [0x011, 0x022], 2, 500⟩] }
def served (d : Sched) : Sched × Option Nat :=
  match serving.serveClass 0 20 [] d with
  | (t, .item _ (.op i) _) => (t, some i)
  | (t, _) => (t, none)
/-- R250, R251, R252: the worked trace of admission: b1, c1, a1, a2, with V and the deficit of the first queue after each. -/
theorem test_three_paddocks_in_one_ring :
    let b := served ring500
    let c := served { b.1.modRing 0 fun r => r.join 0x033 with queues := b.1.queues ++ [ringQueue 0x033 64 [(4, 30)]] }
    let a1 := served c.1
    [b, c, a1, served a1.1].map (fun x => (x.2, (x.1.ring 0).vtime, (x.1.queue 0 0x011).map (·.deficit))) =
      [(some 3, 501, some 128), (some 4, 501, some 128), (some 1, 504, some 20), (some 2, 505, some 0)] := by decide +kernel
/-- R261: a cycle that starts 30 µs late is repaid over the next three. -/
theorem test_late_window_is_repaid :
    let d := { egress1 with cycleStart := 0, length := 100000 }
    let s0 : State := { serving with sch := ⟨[d], [], []⟩ }
    let s1 := after (.gclCycleStart 16 30000) s0
    let s2 := after (.gclCycleStart 16 0) s1
    [s1, s2, after (.gclCycleStart 16 0) s2].map (fun s => ((s.sched 16).map fun d => (d.phaseErr, d.length))) =
      [some (30000, 87500), some (17500, 87500), some (5000, 95000)] := by decide +kernel
/-- R328: the settings of the standard image are in range, on both parts. -/
theorem test_standard_image_in_range : [true, false].all (fun a => (defaultImage a).inRange a) = true := by decide +kernel
/-- R393, R3: VENDOR and PART of the identity registers. -/
theorem test_identity_register : serving.bar0Word 0 = 0x0A401F6E := by decide +kernel
/-- R357, R362: NODE_INFO of this node answers OK with 36 bytes, its first two the part. -/
theorem test_node_info_answers : ((after (.nodeInfo (post 1 [])) serving).box 0).done = true ∧
    ((((after (.nodeInfo (post 1 [])) serving).box 0).buffer.drop 32).take 2) = [0x40, 0x0A] := by decide +kernel
/-- R392, R396: RESET_CTL with the key 0x5A. -/
theorem test_reset_ctl_key : (after (.resetCtlWarm 0x15A) serving).boot.stage = 2 ∧ (after (.resetCtlWarm 0x15B) serving).boot.stage = 12 := by
  decide +kernel
/-- R418: a pulse on NODE_RST_N of less than 1 µs is ignored. -/
theorem test_short_reset_pulse : (after (.nodeRstN 999) serving).boot.stage = 12 ∧ (after (.nodeRstN 1000) serving).boot.stage = 0 := by
  decide +kernel

end Sys2Proof.Tests
end

section
/-! SUPPORT. The quantiser's rounding (R70, R71) and the reduction tree over unseen blocks (R45, R79, R80).

The value of an element code is a whole number of units, where the unit depends on the binade alone. The quantiser rounds to a
whole number of the units of the magnitude's own binade. A code of this or a higher binade is such a whole number too, so it is
no nearer; a code of a lower binade lies below the binade's first element, which is such a whole number and at least as near. -/

namespace Sys2Proof.Machine

/-! ### Rounding to an integer -/

theorem rneInt_natCast (m k : Nat) : rneInt m (k : Int) = m * 2 ^ k := by
  simp [rneInt]

/-- Whichever way the remainder rounds, the quotient is off by half a divisor at most. -/
theorem rneInt_neg_mul_bounds (m k : Nat) (hk : 0 < k) :
    2 * (rneInt m (-(k : Int)) * 2 ^ k) ≤ 2 * m + 2 ^ k ∧ 2 * m ≤ 2 * (rneInt m (-(k : Int)) * 2 ^ k) + 2 ^ k := by
  have hneg : ¬ (-(k : Int) ≥ 0) := by omega
  have hdiv : m / 2 ^ k * 2 ^ k + m % 2 ^ k = m := Nat.div_add_mod' m (2 ^ k)
  have hr : m % 2 ^ k < 2 ^ k := Nat.mod_lt m (by positivity)
  simp only [rneInt, if_neg hneg, neg_neg, Int.toNat_natCast]
  split
  case isTrue hup =>
    have hhalf : 2 ^ k ≤ 2 * (m % 2 ^ k) := by
      simp only [Bool.or_eq_true, Bool.and_eq_true, decide_eq_true_eq, beq_iff_eq] at hup
      omega
    rw [Nat.add_one_mul (m / 2 ^ k)]
    omega
  case isFalse hdown =>
    have hhalf : 2 * (m % 2 ^ k) ≤ 2 ^ k := by
      simp only [Bool.or_eq_true, decide_eq_true_eq, not_or] at hdown
      omega
    omega

theorem abs_rneInt_sub_le_half (m : Nat) (e : Int) : |(rneInt m e : ℚ) - m * 2 ^ e| ≤ 1 / 2 := by
  obtain ⟨k, rfl | rfl⟩ := e.eq_nat_or_neg
  · simp [rneInt_natCast]
  · rcases Nat.eq_zero_or_pos k with rfl | hk
    · simp [rneInt]
    · obtain ⟨hle, hge⟩ := rneInt_neg_mul_bounds m k hk
      have hd : (0 : ℚ) < 2 ^ k := by positivity
      have hle' : 2 * ((rneInt m (-(k : Int)) : ℚ) * 2 ^ k) ≤ 2 * m + 2 ^ k := by exact_mod_cast hle
      have hge' : 2 * (m : ℚ) ≤ 2 * ((rneInt m (-(k : Int)) : ℚ) * 2 ^ k) + 2 ^ k := by exact_mod_cast hge
      have hm : (m : ℚ) * 2 ^ (-(k : Int)) * 2 ^ k = m := by
        rw [zpow_neg, zpow_natCast, inv_mul_cancel_right₀ hd.ne']
      rw [abs_le]
      constructor
      · refine le_of_mul_le_mul_right ?_ hd
        linarith
      · refine le_of_mul_le_mul_right ?_ hd
        linarith

/-- No whole number is nearer than the one that `rneInt` gives. -/
theorem abs_rneInt_sub_le (m : Nat) (e : Int) (k : Nat) : |(rneInt m e : ℚ) - m * 2 ^ e| ≤ |(k : ℚ) - m * 2 ^ e| := by
  rcases eq_or_ne (rneInt m e) k with heq | hne
  · rw [heq]
  · have hhalf := abs_rneInt_sub_le_half m e
    have hone : (1 : ℚ) ≤ |(rneInt m e : ℚ) - k| := by
      have h : (1 : ℤ) ≤ |(rneInt m e : ℤ) - k| := Int.one_le_abs (sub_ne_zero.mpr (by exact_mod_cast hne))
      exact_mod_cast h
    have htri := abs_sub_le (rneInt m e : ℚ) (m * 2 ^ e) k
    rw [abs_sub_comm ((m : ℚ) * 2 ^ e) k] at htri
    linarith

/-- `m × 2^e` in units of `2^a`. -/
theorem mul_two_zpow_sub_mul (m : Nat) (e a : Int) : (m : ℚ) * 2 ^ (e - a) * 2 ^ a = m * 2 ^ e := by
  rw [mul_assoc, ← zpow_add₀ two_ne_zero, sub_add_cancel]

/-- No multiple of `2^a` is nearer than the one that `rneInt` gives. -/
theorem abs_rneInt_mul_sub_le (m : Nat) (e a : Int) (k : Nat) :
    |(rneInt m (e - a) : ℚ) * 2 ^ a - m * 2 ^ e| ≤ |(k : ℚ) * 2 ^ a - m * 2 ^ e| := by
  rw [← mul_two_zpow_sub_mul m e a, ← sub_mul, ← sub_mul, abs_mul, abs_mul]
  exact mul_le_mul_of_nonneg_right (abs_rneInt_sub_le m (e - a) k) (abs_nonneg _)

theorem le_rneInt {m n : Nat} {e : Int} (h : (n : ℚ) ≤ m * 2 ^ e) : n ≤ rneInt m e := by
  have hhalf := (abs_le.mp (abs_rneInt_sub_le_half m e)).1
  have hlt : (n : ℚ) < (rneInt m e : ℚ) + 1 := by linarith
  exact Nat.lt_succ_iff.mp (by exact_mod_cast hlt)

theorem rneInt_le {m n : Nat} {e : Int} (h : (m : ℚ) * 2 ^ e ≤ n) : rneInt m e ≤ n := by
  have hhalf := (abs_le.mp (abs_rneInt_sub_le_half m e)).2
  have hlt : (rneInt m e : ℚ) < (n : ℚ) + 1 := by linarith
  exact Nat.lt_succ_iff.mp (by exact_mod_cast hlt)

/-! ### The binade of a magnitude -/

theorem two_zpow_exponentOf_le {m : Nat} (hm : m ≠ 0) (e : Int) : (2 : ℚ) ^ exponentOf m e ≤ m * 2 ^ e := by
  have h : (2 : ℚ) ^ Nat.log2 m ≤ m := by exact_mod_cast Nat.log2_self_le hm
  rw [exponentOf, zpow_add₀ two_ne_zero, zpow_natCast, mul_comm]
  exact mul_le_mul_of_nonneg_right h (by positivity)

theorem lt_two_zpow_exponentOf_add_one (m : Nat) (e : Int) : (m : ℚ) * 2 ^ e < 2 ^ (exponentOf m e + 1) := by
  have h : (m : ℚ) < 2 ^ (Nat.log2 m + 1) := by exact_mod_cast Nat.lt_log2_self
  have hexp : exponentOf m e + 1 = ((Nat.log2 m + 1 : Nat) : Int) + e := by simp only [exponentOf]; push_cast; ring
  rw [hexp, zpow_add₀ two_ne_zero, zpow_natCast]
  exact mul_lt_mul_of_pos_right h (by positivity)

/-! ### Element codes (R70) -/

/-- The exponent of the unit in the last place of the elements whose exponent field is `b`. -/
def Fmt.unitExp (f : Fmt) (b : Nat) : Int := (b : Int) - f.bias - (f.mbits : Int)

/-- `c` is the code of `q` units of exponent field `b`: the units of field 1 also count the subnormal elements, and
`2 × 2^mbits` units are the first element of the next field. -/
structure Fmt.Codes (f : Fmt) (c b q : Nat) : Prop where
  one_le : 1 ≤ b
  subnormal_or_le : b = 1 ∨ 2 ^ f.mbits ≤ q
  le_next : q ≤ 2 * 2 ^ f.mbits
  code : c = b * 2 ^ f.mbits + q - 2 ^ f.mbits

theorem Fmt.value_of_codes {f : Fmt} {c b q : Nat} (h : f.Codes c b q) : f.value c = q * 2 ^ f.unitExp b := by
  obtain ⟨hb, hsub, hnext, rfl⟩ := h
  obtain ⟨a, rfl⟩ := Nat.exists_eq_add_of_le' hb
  have hp : 0 < 2 ^ f.mbits := by positivity
  have hcode : (a + 1) * 2 ^ f.mbits + q - 2 ^ f.mbits = q + a * 2 ^ f.mbits := by
    rw [Nat.add_one_mul]; omega
  rw [hcode, Fmt.value, elemMag, Nat.add_mul_div_right _ _ hp, Nat.add_mul_mod_self_right]
  rcases Nat.lt_or_ge q (2 ^ f.mbits) with hlt | hge
  · -- a subnormal element
    obtain rfl : a = 0 := by omega
    simp [Nat.div_eq_of_lt hlt, Nat.mod_eq_of_lt hlt, Fmt.unitExp]
  obtain ⟨r, rfl⟩ := Nat.exists_eq_add_of_le hge
  rcases Nat.lt_or_ge r (2 ^ f.mbits) with hr | hr
  · -- a normal element of the field
    have hfield : (2 ^ f.mbits + r) / 2 ^ f.mbits + a = a + 1 := by
      rw [Nat.add_div_left _ hp, Nat.div_eq_of_lt hr]; omega
    simp only [hfield, Nat.add_mod_left, Nat.mod_eq_of_lt hr, Fmt.unitExp]
    rw [if_neg (by simp)]
  · -- the first element of the next field
    obtain rfl : r = 2 ^ f.mbits := by omega
    have hfield : (2 ^ f.mbits + 2 ^ f.mbits) / 2 ^ f.mbits + a = a + 2 := by
      rw [Nat.add_div_left _ hp, Nat.div_self hp]; omega
    have hexp : ((a + 2 : Nat) : Int) - f.bias - f.mbits = f.unitExp (a + 1) + 1 := by
      simp only [Fmt.unitExp]; push_cast; ring
    simp only [hfield, hexp, Nat.add_mod_right, Nat.mod_self]
    rw [if_neg (by simp), zpow_add_one₀ two_ne_zero]
    push_cast
    ring

/-- Every code counts units of some field, and fewer than reach the next one. -/
theorem Fmt.exists_codes (f : Fmt) (c : Nat) : ∃ b q, f.Codes c b q ∧ q < 2 * 2 ^ f.mbits := by
  have hdiv : c / 2 ^ f.mbits * 2 ^ f.mbits + c % 2 ^ f.mbits = c := Nat.div_add_mod' c (2 ^ f.mbits)
  have hr : c % 2 ^ f.mbits < 2 ^ f.mbits := Nat.mod_lt c (by positivity)
  rcases Nat.eq_zero_or_pos (c / 2 ^ f.mbits) with hzero | hpos
  · rw [hzero] at hdiv
    exact ⟨1, c, ⟨le_rfl, .inl rfl, by omega, by omega⟩, by omega⟩
  · exact ⟨c / 2 ^ f.mbits, 2 ^ f.mbits + c % 2 ^ f.mbits, ⟨hpos, .inr (by omega), by omega, by omega⟩, by omega⟩

theorem Fmt.value_monotone (f : Fmt) : Monotone f.value := by
  refine monotone_nat_of_le_succ fun c => ?_
  obtain ⟨b, q, h, hq⟩ := f.exists_codes c
  have hsucc : f.Codes (c + 1) b (q + 1) := by
    obtain ⟨hb, hsub, -, hc⟩ := h
    have hmul : 2 ^ f.mbits ≤ b * 2 ^ f.mbits := Nat.le_mul_of_pos_left _ hb
    exact ⟨hb, hsub.imp_right (by omega), by omega, by omega⟩
  rw [Fmt.value_of_codes h, Fmt.value_of_codes hsucc]
  exact mul_le_mul_of_nonneg_right (by push_cast; linarith) (by positivity)

/-- Seen from exponent field `b`, an element is a whole number of units, or lies below the first normal element of a field
that is not the lowest. -/
theorem Fmt.value_eq_mul_or_lt (f : Fmt) (c b : Nat) :
    (∃ k : Nat, f.value c = k * 2 ^ f.unitExp b) ∨ (b ≠ 1 ∧ f.value c < 2 ^ f.mbits * 2 ^ f.unitExp b) := by
  obtain ⟨b', q, h, hq⟩ := f.exists_codes c
  rw [Fmt.value_of_codes h]
  rcases Nat.lt_or_ge b' b with hlt | hge
  · right
    refine ⟨by have := h.one_le; omega, ?_⟩
    have hq' : (q : ℚ) < 2 ^ f.mbits * 2 := by exact_mod_cast (by omega : q < 2 ^ f.mbits * 2)
    calc (q : ℚ) * 2 ^ f.unitExp b' < 2 ^ f.mbits * 2 * 2 ^ f.unitExp b' :=
          mul_lt_mul_of_pos_right hq' (by positivity)
      _ = 2 ^ f.mbits * 2 ^ (f.unitExp b' + 1) := by rw [zpow_add_one₀ two_ne_zero]; ring
      _ ≤ 2 ^ f.mbits * 2 ^ f.unitExp b := by
          refine mul_le_mul_of_nonneg_left (zpow_le_zpow_right₀ one_le_two ?_) (by positivity)
          simp only [Fmt.unitExp]; omega
  · left
    obtain ⟨n, rfl⟩ := Nat.exists_eq_add_of_le hge
    refine ⟨q * 2 ^ n, ?_⟩
    have hexp : f.unitExp (b + n) = (n : Int) + f.unitExp b := by simp only [Fmt.unitExp]; push_cast; ring
    rw [hexp, zpow_add₀ two_ne_zero, zpow_natCast]
    push_cast
    ring

/-! ### The quantiser (R71) -/

/-- The exponent field in whose units the quantiser rounds a magnitude: that of its binade, field 1 for anything smaller. -/
def Fmt.roundField (f : Fmt) (m : Nat) (e : Int) : Nat := (max (exponentOf m e) (1 - f.bias) + f.bias).toNat

/-- The magnitude rounded to a whole number of units. -/
def Fmt.roundUnits (f : Fmt) (m : Nat) (e : Int) : Nat := rneInt m (e - f.unitExp (f.roundField m e))

/-- The code of the rounded magnitude, before it saturates. -/
def Fmt.roundCode (f : Fmt) (m : Nat) (e : Int) : Nat :=
  f.roundField m e * 2 ^ f.mbits + f.roundUnits m e - 2 ^ f.mbits

theorem Fmt.natCast_roundField (f : Fmt) (m : Nat) (e : Int) :
    (f.roundField m e : Int) = max (exponentOf m e) (1 - f.bias) + f.bias := by
  rw [Fmt.roundField, Int.toNat_of_nonneg (by omega)]

theorem Fmt.one_le_roundField (f : Fmt) (m : Nat) (e : Int) : 1 ≤ f.roundField m e := by
  have := f.natCast_roundField m e
  omega

theorem encodeMag_zero (f : Fmt) (e : Int) : encodeMag f 0 e = 0 := by simp [encodeMag]

theorem encodeMag_eq_min {m : Nat} (hm : m ≠ 0) (f : Fmt) (e : Int) : encodeMag f m e = min (f.roundCode m e) f.maxCode := by
  have hfield := f.natCast_roundField m e
  rw [encodeMag, if_neg (by simpa using hm), Fmt.roundCode, Fmt.roundUnits, Fmt.unitExp, hfield]
  dsimp only
  congr 1
  split
  case isTrue hlt =>
    have hone : f.roundField m e = 1 := by omega
    rw [hone, max_eq_right hlt.le, add_sub_cancel_right, one_mul, Nat.add_sub_cancel_left]
  case isFalse hge =>
    rw [Fmt.roundField, max_eq_left (not_lt.mp hge), add_sub_cancel_right]

theorem encodeMag_le_maxCode (f : Fmt) (m : Nat) (e : Int) : encodeMag f m e ≤ f.maxCode := by
  rcases eq_or_ne m 0 with rfl | hm
  · rw [encodeMag_zero]; exact Nat.zero_le _
  · rw [encodeMag_eq_min hm]; exact min_le_right _ _

/-- In a field above the lowest, the magnitude is at least the field's first normal element. -/
theorem Fmt.firstNormal_le {f : Fmt} {m : Nat} {e : Int} (hm : m ≠ 0) (h : f.roundField m e ≠ 1) :
    (2 : ℚ) ^ f.mbits * 2 ^ f.unitExp (f.roundField m e) ≤ m * 2 ^ e := by
  have hfield := f.natCast_roundField m e
  have hexp : (f.mbits : Int) + f.unitExp (f.roundField m e) = exponentOf m e := by
    rw [Fmt.unitExp]; omega
  rw [← zpow_natCast, ← zpow_add₀ two_ne_zero, hexp]
  exact two_zpow_exponentOf_le hm e

theorem Fmt.lt_two_firstNormal (f : Fmt) (m : Nat) (e : Int) :
    (m : ℚ) * 2 ^ e < 2 * 2 ^ f.mbits * 2 ^ f.unitExp (f.roundField m e) := by
  have hfield := f.natCast_roundField m e
  calc (m : ℚ) * 2 ^ e < 2 ^ (exponentOf m e + 1) := lt_two_zpow_exponentOf_add_one m e
    _ ≤ 2 ^ (1 + (f.mbits : Int) + f.unitExp (f.roundField m e)) := by
        refine zpow_le_zpow_right₀ one_le_two ?_
        rw [Fmt.unitExp]; omega
    _ = 2 * 2 ^ f.mbits * 2 ^ f.unitExp (f.roundField m e) := by
        rw [zpow_add₀ two_ne_zero, zpow_add₀ two_ne_zero, zpow_one, zpow_natCast]

theorem Fmt.roundCode_codes {m : Nat} (hm : m ≠ 0) (f : Fmt) (e : Int) :
    f.Codes (f.roundCode m e) (f.roundField m e) (f.roundUnits m e) := by
  have hunit : (0 : ℚ) < 2 ^ f.unitExp (f.roundField m e) := by positivity
  refine ⟨f.one_le_roundField m e, or_iff_not_imp_left.mpr fun hne => le_rneInt ?_, rneInt_le ?_, rfl⟩
  · refine le_of_mul_le_mul_right ?_ hunit
    rw [mul_two_zpow_sub_mul]
    exact_mod_cast Fmt.firstNormal_le hm hne
  · refine le_of_mul_le_mul_right ?_ hunit
    rw [mul_two_zpow_sub_mul]
    exact_mod_cast (f.lt_two_firstNormal m e).le

/-- Before saturation, no code at all is nearer. -/
theorem Fmt.roundCode_nearest {m : Nat} (hm : m ≠ 0) (f : Fmt) (e : Int) (c : Nat) :
    |f.value (f.roundCode m e) - m * 2 ^ e| ≤ |f.value c - m * 2 ^ e| := by
  have hround := abs_rneInt_mul_sub_le m e (f.unitExp (f.roundField m e))
  rw [Fmt.value_of_codes (Fmt.roundCode_codes hm f e)]
  rcases f.value_eq_mul_or_lt c (f.roundField m e) with ⟨k, hk⟩ | ⟨hne, hlt⟩
  · rw [hk]
    exact hround k
  · -- the first element of the binade lies between the code's value and the magnitude
    have hfirst := Fmt.firstNormal_le hm hne
    calc _ ≤ |((2 ^ f.mbits : Nat) : ℚ) * 2 ^ f.unitExp (f.roundField m e) - m * 2 ^ e| := hround _
      _ = m * 2 ^ e - 2 ^ f.mbits * 2 ^ f.unitExp (f.roundField m e) := by
          push_cast; rw [abs_of_nonpos (by linarith), neg_sub]
      _ ≤ m * 2 ^ e - f.value c := by linarith
      _ ≤ |f.value c - m * 2 ^ e| := by rw [abs_sub_comm]; exact le_abs_self _

/-- A point cut off at a bound stays as near as any point up to the bound that it was as near as. -/
theorem abs_sub_le_of_le_of_le {v top near x : ℚ} (hv : v ≤ top) (htop : top ≤ near)
    (hnear : |near - x| ≤ |v - x|) : |top - x| ≤ |v - x| := by
  rcases le_or_gt top x with hx | hx
  · rw [abs_of_nonpos (by linarith), abs_of_nonpos (by linarith)]
    linarith
  · rw [abs_of_pos (by linarith : 0 < near - x)] at hnear
    rw [abs_of_pos (by linarith : 0 < top - x)]
    linarith

theorem encodeMag_nearest (f : Fmt) (m : Nat) (e : Int) {c : Nat} (hc : c ≤ f.maxCode) :
    |f.value (encodeMag f m e) - m * 2 ^ e| ≤ |f.value c - m * 2 ^ e| := by
  rcases eq_or_ne m 0 with rfl | hm
  · have hzero : f.value 0 = 0 := by simp [Fmt.value, elemMag]
    rw [encodeMag_zero, hzero]
    simp
  rw [encodeMag_eq_min hm]
  have hnear := Fmt.roundCode_nearest hm f e
  rcases le_total (f.roundCode m e) f.maxCode with hle | hsat
  · rw [min_eq_left hle]
    exact hnear c
  · rw [min_eq_right hsat]
    exact abs_sub_le_of_le_of_le (f.value_monotone hc) (f.value_monotone hsat) (hnear c)

theorem quantiserPicksANearestElement : Claims.QuantiserPicksANearestElement :=
  fun f m e _ => ⟨encodeMag_le_maxCode f m e, fun _ hc => encodeMag_nearest f m e hc⟩

/-! ### The identity partial (R45, R79) -/

@[simp] theorem Partial.identity_m (d : Nat) : (Partial.identity d).m = ninf32 := rfl

theorem isNan_ninf32 : isNan ninf32 = false := by decide

/-- The identity partial is neutral on the left. -/
theorem combine_identity_left (d : Nat) {p : Partial} (hp : isNan p.m = false) : combine (.identity d) p = p := by
  simp [combine, isNan_ninf32, hp]

/-- The identity partial is neutral on the right. -/
theorem combine_identity_right (d : Nat) {p : Partial} (hp : isNan p.m = false) (hne : p.m ≠ ninf32) :
    combine p (.identity d) = p := by
  simp [combine, isNan_ninf32, hp, hne]

/-! ### The reduction tree over unseen blocks (R80) -/

/-- A subtree whose leaves are all identity yields the identity partial (R81). -/
theorem reduceTree_eq_identity {leafOf : Nat → Partial} {d : Nat} (h first : Nat)
    (hleaf : ∀ k, first ≤ k → k < first + 2 ^ h → leafOf k = .identity d) : reduceTree leafOf h first = .identity d := by
  induction h generalizing first with
  | zero => exact hleaf first le_rfl (by simp)
  | succ h ih =>
    rw [pow_succ] at hleaf
    have hleft : reduceTree leafOf h first = .identity d := ih first fun k _ _ => hleaf k (by omega) (by omega)
    have hright : reduceTree leafOf h (first + 2 ^ h) = .identity d := ih _ fun k _ _ => hleaf k (by omega) (by omega)
    rw [reduceTree, hleft, hright]
    exact combine_identity_left d isNan_ninf32

/-- The only leaf that is seen reaches the root unchanged, from whichever half of the tree it stands in. -/
theorem reduceTree_eq_leaf {leafOf : Nat → Partial} {d j : Nat} (hnan : isNan (leafOf j).m = false)
    (hne : (leafOf j).m ≠ ninf32) (hleaf : ∀ k, k ≠ j → leafOf k = .identity d) (h first : Nat) (hlo : first ≤ j)
    (hhi : j < first + 2 ^ h) : reduceTree leafOf h first = leafOf j := by
  induction h generalizing first with
  | zero =>
    obtain rfl : j = first := by rw [pow_zero] at hhi; omega
    rfl
  | succ h ih =>
    rw [pow_succ] at hhi
    rw [reduceTree]
    rcases Nat.lt_or_ge j (first + 2 ^ h) with hj | hj
    · have hright : reduceTree leafOf h (first + 2 ^ h) = .identity d :=
        reduceTree_eq_identity h _ fun k _ _ => hleaf k (by omega)
      rw [ih first hlo hj, hright]
      exact combine_identity_right d hnan hne
    · have hleft : reduceTree leafOf h first = .identity d :=
        reduceTree_eq_identity h _ fun k _ _ => hleaf k (by omega)
      rw [ih (first + 2 ^ h) hj (by omega), hleft]
      exact combine_identity_left d hnan

theorem unseenBlocksLeaveTheRoot : Claims.UnseenBlocksLeaveTheRoot :=
  ⟨fun _ => rfl,
    fun _ h first _ hleaf => reduceTree_eq_identity h first fun k _ _ => hleaf k,
    fun _ h first _ _ hlo hhi hnan hne hleaf => reduceTree_eq_leaf hnan hne hleaf h first hlo hhi⟩

/-- Settles O60: the quantiser rounds to a whole number of the units of the magnitude's binade, of which every code that could
be nearer is one, and the identity partial is neutral on both sides of the tree's combine. -/
theorem arithmeticFollowsTheReference : Obligations.ArithmeticFollowsTheReference := by
  unfold Obligations.ArithmeticFollowsTheReference
  exact ⟨quantiserPicksANearestElement, unseenBlocksLeaveTheRoot⟩

end Sys2Proof.Machine
end

section
/-! SUPPORT. The codecs of stored blocks: bit streams (R96, R102), records (R96), ordered codes and packed sections
(R103, R104).

A packed section is one bit stream of fixed-width fields: the decoder's three readers take from it what the encoder's three
parts put in, each lemma with whatever follows left over, and what is left over at the end is the padding of the last byte. -/

namespace Sys2Proof.Machine

/-! ### Pieces of equal length -/

theorem chunksFuel_eq_of_le {α : Type} {n : Nat} (hn : 0 < n) {fuel : Nat} {xs : List α} (h : xs.length ≤ fuel) :
    chunksFuel n fuel xs = chunks n xs := by
  suffices ∀ (k l : Nat) (xs : List α), xs.length ≤ k → xs.length ≤ l → chunksFuel n k xs = chunksFuel n l xs from
    this fuel xs.length xs h le_rfl
  intro k
  induction k with
  | zero =>
    intro l xs hk _
    obtain rfl : xs = [] := List.length_eq_zero_iff.mp (by omega)
    cases l <;> rfl
  | succ k ih =>
    intro l xs hk hl
    cases xs with
    | nil => cases l <;> rfl
    | cons x xs =>
      cases l with
      | zero => simp at hl
      | succ l =>
        simp only [chunksFuel]
        rw [ih l] <;> simp only [List.length_drop, List.length_cons] at hk hl ⊢ <;> omega

@[simp] theorem chunks_nil {α : Type} (n : Nat) : chunks n ([] : List α) = [] := rfl

theorem chunks_eq_cons {α : Type} {n : Nat} (hn : 0 < n) {xs : List α} (h : xs ≠ []) :
    chunks n xs = xs.take n :: chunks n (xs.drop n) := by
  cases xs with
  | nil => exact absurd rfl h
  | cons x xs =>
    have hlen : ((x :: xs).drop n).length ≤ xs.length := by
      simp only [List.length_drop, List.length_cons]; omega
    rw [chunks, List.length_cons, chunksFuel.eq_def]
    exact congrArg _ (chunksFuel_eq_of_le hn hlen)

theorem chunks_flatten {α : Type} {n : Nat} (hn : 0 < n) {xss : List (List α)} (h : ∀ xs ∈ xss, xs.length = n) :
    chunks n xss.flatten = xss := by
  induction xss with
  | nil => rfl
  | cons xs xss ih =>
    have hlen : xs.length = n := h xs (by simp)
    have hne : xs ++ xss.flatten ≠ [] := by
      intro hnil
      rw [List.append_eq_nil_iff] at hnil
      rw [hnil.1] at hlen
      simp only [List.length_nil] at hlen
      omega
    rw [List.flatten_cons, chunks_eq_cons hn hne, List.take_left' hlen, List.drop_left' hlen,
      ih fun x hx => h x (by simp [hx])]

theorem length_flatten_of_forall {α : Type} {n : Nat} {xss : List (List α)} (h : ∀ xs ∈ xss, xs.length = n) :
    xss.flatten.length = xss.length * n := by
  rw [List.length_flatten, List.eq_replicate_of_mem (a := n) (l := xss.map List.length) (by simpa using h)]
  simp

/-! ### Numbers as bits and as bytes -/

@[simp] theorem length_bitsOf (w n : Nat) : (bitsOf w n).length = w := by
  induction w generalizing n with
  | zero => rfl
  | succ w ih => simp [bitsOf, ih]

theorem natOfBits_bitsOf {w n : Nat} (h : n < 2 ^ w) : natOfBits (bitsOf w n) = n := by
  induction w generalizing n with
  | zero => simp only [pow_zero] at h; simp only [bitsOf, natOfBits]; omega
  | succ w ih =>
    rw [pow_succ] at h
    rw [bitsOf, natOfBits, ih (by omega)]
    have hdiv := Nat.div_add_mod n 2
    rcases Nat.mod_two_eq_zero_or_one n with hn | hn <;> rw [hn] at hdiv ⊢ <;> simp <;> omega

theorem natOfBits_lt (bs : List Bool) : natOfBits bs < 2 ^ bs.length := by
  induction bs with
  | nil => simp [natOfBits]
  | cons b bs ih => cases b <;> simp [natOfBits, pow_succ] <;> omega

theorem bitsOf_zero (k : Nat) : bitsOf k 0 = List.replicate k false := by
  induction k with
  | zero => rfl
  | succ k ih => simp [bitsOf, ih, List.replicate_succ]

/-- A number's bits beyond those that spell it are 0. -/
theorem bitsOf_natOfBits (bs : List Bool) (k : Nat) :
    bitsOf (bs.length + k) (natOfBits bs) = bs ++ List.replicate k false := by
  induction bs with
  | nil => simpa [natOfBits] using bitsOf_zero k
  | cons b bs ih =>
    have hhalf : natOfBits (b :: bs) / 2 = natOfBits bs := by
      cases b <;> simp only [natOfBits, Bool.false_eq_true, if_false, if_true] <;> omega
    have hlow : (natOfBits (b :: bs) % 2 == 1) = b := by
      cases b <;> simp [natOfBits]
    rw [List.length_cons, Nat.succ_add, bitsOf, hhalf, hlow, ih, List.cons_append]

theorem leNat_toLe {k n : Nat} (h : n < 2 ^ (8 * k)) : leNat (toLe k n) = n := by
  induction k generalizing n with
  | zero => simp only [Nat.mul_zero, pow_zero] at h; simp only [toLe, leNat]; omega
  | succ k ih =>
    rw [Nat.mul_succ, pow_add] at h
    rw [toLe, leNat, ih (by omega), BitVec.toNat_ofNat]
    omega

@[simp] theorem length_toLe (k n : Nat) : (toLe k n).length = k := by
  induction k generalizing n with
  | zero => rfl
  | succ k ih => simp [toLe, ih]

theorem sub_zero_append {as bs : Bytes} {n : Nat} (h : as.length = n) : sub (as ++ bs) 0 n = as := by
  simp [sub, List.take_left' h, h]

/-! ### Bit streams (R96, R102) -/

/-- Zero bits that fill the last byte of a bit stream. -/
def padBits (bs : List Bool) : List Bool := List.replicate ((8 - bs.length % 8) % 8) false

theorem padBits_drop {bs : List Bool} (h : 8 ≤ bs.length) : padBits (bs.drop 8) = padBits bs := by
  simp only [padBits, List.length_drop]
  congr 2
  omega

theorem unpackBits_append (xs ys : Bytes) : unpackBits (xs ++ ys) = unpackBits xs ++ unpackBits ys := by
  simp [unpackBits]

/-- The bits of the byte that a piece of a bit stream becomes. -/
theorem unpackBits_piece {c : List Bool} (h : c.length ≤ 8) :
    unpackBits [BitVec.ofNat 8 (natOfBits c)] = c ++ List.replicate (8 - c.length) false := by
  have hlt : natOfBits c < 2 ^ 8 := (natOfBits_lt c).trans_le (Nat.pow_le_pow_right (by omega) h)
  have hbits := bitsOf_natOfBits c (8 - c.length)
  rw [Nat.add_sub_cancel' h] at hbits
  rw [← hbits, unpackBits, List.map_singleton, BitVec.toNat_ofNat, Nat.mod_eq_of_lt hlt, List.flatten_singleton]

theorem packBits_eq_cons {bs : List Bool} (h : bs ≠ []) :
    packBits bs = BitVec.ofNat 8 (natOfBits (bs.take 8)) :: packBits (bs.drop 8) := by
  rw [packBits, chunks_eq_cons (by omega) h, List.map_cons, packBits]

theorem unpackBits_cons (b : Byte) (bs : Bytes) : unpackBits (b :: bs) = unpackBits [b] ++ unpackBits bs :=
  unpackBits_append [b] bs

theorem unpackBits_packBits (bs : List Bool) : unpackBits (packBits bs) = bs ++ padBits bs := by
  induction hn : bs.length using Nat.strong_induction_on generalizing bs with
  | _ n ih =>
    rcases eq_or_ne bs [] with rfl | hne
    · rfl
    have hpos : 0 < bs.length := List.length_pos_iff.mpr hne
    rw [packBits_eq_cons hne, unpackBits_cons, unpackBits_piece (by simp),
      ih (bs.drop 8).length (by simp only [List.length_drop]; omega) (bs.drop 8) rfl]
    rcases Nat.lt_or_ge bs.length 8 with hlt | hge
    · have hmod : bs.length % 8 = bs.length := Nat.mod_eq_of_lt hlt
      have hpad : (8 - bs.length) % 8 = 8 - bs.length := Nat.mod_eq_of_lt (by omega)
      simp [padBits, List.drop_of_length_le hlt.le, List.take_of_length_le hlt.le, hmod, hpad]
    · rw [padBits_drop hge, List.length_take, min_eq_left hge, Nat.sub_self, List.replicate_zero, List.append_nil,
        ← List.append_assoc, List.take_append_drop]

@[simp] theorem length_unpackBits (bs : Bytes) : (unpackBits bs).length = 8 * bs.length := by
  rw [unpackBits, length_flatten_of_forall (n := 8) (by simp), List.length_map, Nat.mul_comm]

theorem eight_mul_length_packBits (bs : List Bool) : 8 * (packBits bs).length = bs.length + (padBits bs).length := by
  rw [← length_unpackBits, unpackBits_packBits, List.length_append]

/-! ### Records (R96) -/

theorem Fmt.width_pos (f : Fmt) : 0 < f.width := by cases f <;> decide

/-- 32 channels fill whole bytes in every format. -/
theorem Fmt.eight_mul_codeBytes {f : Fmt} {d : Nat} (h : 32 ∣ d) : 8 * f.codeBytes d = d * f.width := by
  obtain ⟨k, rfl⟩ := h
  rw [Fmt.codeBytes, Nat.mul_div_cancel']
  exact Dvd.dvd.mul_right (Dvd.dvd.mul_right (by decide) k) f.width

/-- The codes of a vector as the bit stream of its record. -/
def QVec.codeBits (f : Fmt) (v : QVec) : List Bool := (v.codes.map (bitsOf f.width)).flatten

@[simp] theorem QVec.length_codeBits (f : Fmt) (v : QVec) : (v.codeBits f).length = v.codes.length * f.width := by
  rw [QVec.codeBits, length_flatten_of_forall (n := f.width) (by simp), List.length_map]

theorem QVec.padBits_codeBits {f : Fmt} {v : QVec} (h : 32 ∣ v.codes.length) : padBits (v.codeBits f) = [] := by
  have hbytes := f.eight_mul_codeBytes h
  have hmod : (v.codeBits f).length % 8 = 0 := by rw [QVec.length_codeBits]; omega
  rw [padBits, hmod]
  rfl

theorem QVec.length_packBits_codeBits {f : Fmt} {v : QVec} (h : 32 ∣ v.codes.length) :
    (packBits (v.codeBits f)).length = f.codeBytes v.codes.length := by
  have hlen := eight_mul_length_packBits (v.codeBits f)
  rw [QVec.padBits_codeBits h, QVec.length_codeBits, ← f.eight_mul_codeBytes h, List.length_nil] at hlen
  omega

theorem QVec.codes_of_codeBits {f : Fmt} {v : QVec} (h : 32 ∣ v.codes.length) (hc : ∀ c ∈ v.codes, c < 2 ^ f.width) :
    (chunks f.width (unpackBits (packBits (v.codeBits f)))).map natOfBits = v.codes := by
  rw [unpackBits_packBits, QVec.padBits_codeBits h, List.append_nil, QVec.codeBits,
    chunks_flatten f.width_pos (by simp), List.map_map]
  exact (List.map_congr_left fun c hm => natOfBits_bitsOf (hc c hm)).trans (List.map_id _)

/-- The number of scales of a vector of `d` channels (R70). -/
def Fmt.scaleCount (f : Fmt) (d : Nat) : Nat := match f with | .bf16 => 0 | .fp8 => 1 | _ => d / 32

/-- What a scale of a format lies below (R70). -/
def Fmt.scaleLimit (f : Fmt) : Nat := match f with | .fp8 => 2 ^ 32 | _ => 256

theorem map_toNat_ofNat {ss : List Nat} (h : ∀ x ∈ ss, x < 256) : (ss.map (BitVec.ofNat 8)).map (·.toNat) = ss := by
  rw [List.map_map]
  refine (List.map_congr_left fun x hx => ?_).trans (List.map_id _)
  rw [Function.comp_apply, BitVec.toNat_ofNat, Nat.mod_eq_of_lt (h x hx), id]

theorem length_scaleToBytes {f : Fmt} {d : Nat} {ss : List Nat} (h : ss.length = f.scaleCount d) :
    (scaleToBytes f ss).length = f.scaleBytes d := by
  cases f with
  | bf16 => rfl
  | fp8 => rw [scaleToBytes, length_flatten_of_forall (n := 4) (by simp), List.length_map, h]; rfl
  | mxfp8 | mxfp6 | mxfp4 => rw [scaleToBytes, List.length_map, h, Fmt.scaleCount, Fmt.scaleBytes] <;> nofun

theorem scalesOfBytes_scaleToBytes {f : Fmt} {d : Nat} {ss : List Nat} (h : ss.length = f.scaleCount d)
    (hlim : ∀ x ∈ ss, x < f.scaleLimit) : scalesOfBytes f d (scaleToBytes f ss) = ss := by
  cases f with
  | bf16 => exact (List.length_eq_zero_iff.mp h).symm
  | fp8 =>
    obtain ⟨x, rfl⟩ := List.length_eq_one_iff.mp h
    have hx : x < 2 ^ (8 * 4) := hlim x (by simp)
    have hsub := sub_zero_append (bs := []) (length_toLe 4 x)
    rw [List.append_nil] at hsub
    simp [scalesOfBytes, scaleToBytes, le, hsub, leNat_toLe hx]
  | mxfp8 | mxfp6 | mxfp4 =>
    have hsub := sub_zero_append (bs := []) ((List.length_map (BitVec.ofNat 8)).trans h)
    rw [List.append_nil] at hsub
    exact (congrArg (List.map BitVec.toNat) hsub).trans (map_toNat_ofNat hlim)

/-- R96: a record reads back as the vector that was stored. -/
theorem vecOfBytes_vecToBytes {f : Fmt} {d : Nat} {v : QVec} (h : 32 ∣ d) (hd : v.codes.length = d)
    (hc : ∀ c ∈ v.codes, c < 2 ^ f.width) (hs : v.scales.length = f.scaleCount d)
    (hlim : ∀ x ∈ v.scales, x < f.scaleLimit) : vecOfBytes f d (vecToBytes f v) = v := by
  subst hd
  have hlen := QVec.length_packBits_codeBits (f := f) h
  rw [vecOfBytes, vecToBytes, ← QVec.codeBits, sub_zero_append hlen, List.drop_left' hlen, QVec.codes_of_codeBits h hc,
    scalesOfBytes_scaleToBytes hs hlim]

theorem length_vecToBytes {f : Fmt} {d : Nat} {v : QVec} (h : 32 ∣ d) (hd : v.codes.length = d)
    (hs : v.scales.length = f.scaleCount d) : (vecToBytes f v).length = f.recBytes d := by
  subst hd
  rw [vecToBytes, ← QVec.codeBits, List.length_append, QVec.length_packBits_codeBits h, length_scaleToBytes hs,
    Fmt.recBytes]

/-- R102: a raw block reads back as its records, and a packed one is chosen only where it does. -/
theorem blockRecords_storedForm (r : RecShape) (unit : Nat) {recs : List Bytes} (h64 : recs.length = 64)
    (hr : 1 ≤ r.bytes) (hrec : ∀ b ∈ recs, b.length = r.bytes) :
    blockRecords r (storedForm r unit recs).1 (storedForm r unit recs).2 = some recs := by
  simp only [storedForm]
  split
  case isTrue hpacked =>
    simp only [Bool.and_eq_true, beq_iff_eq] at hpacked
    exact hpacked.2
  case isFalse =>
    have hlen : recs.flatten.length = 64 * r.bytes := by rw [length_flatten_of_forall hrec, h64]
    simp [blockRecords, hlen, chunks_flatten hr hrec]

theorem recordsReadBack : Claims.RecordsReadBack :=
  ⟨fun _ _ _ h hd hc hs hlim => ⟨vecOfBytes_vecToBytes h hd hc hs hlim, length_vecToBytes h hd hs⟩,
    fun r unit _ h64 hr hrec => blockRecords_storedForm r unit h64 hr hrec⟩

/-! ### Ordered codes (R103, R104) -/

/-- The top bit of a code says whether it lies in the upper half. -/
theorem bit_top {w c : Nat} (hw : 0 < w) (h : c < 2 ^ w) : bit c (w - 1) = decide (2 ^ (w - 1) ≤ c) := by
  obtain ⟨k, rfl⟩ := Nat.exists_eq_add_of_le' hw
  rw [pow_succ] at h
  rw [Nat.add_sub_cancel, bit]
  rcases Nat.lt_or_ge c (2 ^ k) with hlt | hge
  · simp [Nat.div_eq_of_lt hlt, hlt]
  · have hdiv : c / 2 ^ k = 1 := by
      rw [Nat.div_eq_iff (by positivity)]
      omega
    simp [hdiv, hge]

theorem two_mul_pow_pred {w : Nat} (hw : 0 < w) : 2 * 2 ^ (w - 1) = 2 ^ w := by
  rw [← pow_succ', Nat.sub_add_cancel hw]

theorem toOrdered_lt {w c : Nat} (hw : 0 < w) (h : c < 2 ^ w) : toOrdered w c < 2 ^ w := by
  have htop := two_mul_pow_pred hw
  rw [toOrdered, bit_top hw h]
  simp only [decide_eq_true_eq]
  split <;> omega

theorem fromOrdered_toOrdered {w c : Nat} (hw : 0 < w) (h : c < 2 ^ w) : fromOrdered w (toOrdered w c) = c := by
  have htop := two_mul_pow_pred hw
  rw [fromOrdered, bit_top hw (toOrdered_lt hw h), toOrdered, bit_top hw h]
  simp only [decide_eq_true_eq]
  split <;> split <;> omega

/-! ### Widths and bases of groups (R103) -/

theorem foldl_min_le (a : Nat) (xs : List Nat) : xs.foldl min a ≤ a ∧ ∀ x ∈ xs, xs.foldl min a ≤ x := by
  induction xs generalizing a with
  | nil => simp
  | cons y ys ih =>
    obtain ⟨hstart, hmem⟩ := ih (min a y)
    refine ⟨hstart.trans (min_le_left a y), fun x hx => ?_⟩
    rcases List.mem_cons.mp hx with rfl | hx
    · exact hstart.trans (min_le_right a x)
    · exact hmem x hx

theorem le_foldl_max (a : Nat) (xs : List Nat) : a ≤ xs.foldl max a ∧ ∀ x ∈ xs, x ≤ xs.foldl max a := by
  induction xs generalizing a with
  | nil => simp
  | cons y ys ih =>
    obtain ⟨hstart, hmem⟩ := ih (max a y)
    refine ⟨(le_max_left a y).trans hstart, fun x hx => ?_⟩
    rcases List.mem_cons.mp hx with rfl | hx
    · exact (le_max_right a x).trans hstart
    · exact hmem x hx

theorem minNat_le {xs : List Nat} {x : Nat} (h : x ∈ xs) : minNat xs ≤ x := (foldl_min_le _ xs).2 x h

/-- A group that is not stored whole has a width below the element's, which every offset from its base fits. -/
theorem cbfWidth_fits {w : Nat} {us : List Nat} (h : cbfWidth w us ≠ 15) :
    cbfWidth w us < w ∧ ∀ u ∈ us, u - minNat us < 2 ^ cbfWidth w us := by
  simp only [cbfWidth] at h ⊢
  generalize hspan : us.foldl max 0 - minNat us = span at h ⊢
  have hmax : ∀ u ∈ us, u - minNat us ≤ span := fun u hu => by
    have := (le_foldl_max 0 us).2 u hu
    omega
  have hspan : span < 2 ^ (if (span == 0) = true then 0 else Nat.log2 span + 1) := by
    split
    case isTrue hzero => simpa using hzero
    case isFalse => exact Nat.lt_log2_self
  generalize (if (span == 0) = true then 0 else Nat.log2 span + 1) = x at h hspan ⊢
  split at h
  · exact absurd rfl h
  case isFalse hlt =>
    rw [if_neg hlt]
    exact ⟨by omega, fun u hu => (hmax u hu).trans_lt hspan⟩

theorem cbfWidth_lt_sixteen {w : Nat} (hw : w ≤ 16) (us : List Nat) : cbfWidth w us < 2 ^ 4 := by
  rcases eq_or_ne (cbfWidth w us) 15 with h | h
  · omega
  · have := (cbfWidth_fits h).1
    omega

/-! ### The decoder's readers (R104) -/

theorem readFields_append {w : Nat} {us : List Nat} (h : ∀ u ∈ us, u < 2 ^ w) (rest : List Bool) :
    readFields w us.length ((us.map (bitsOf w)).flatten ++ rest) = some (us, rest) := by
  induction us with
  | nil => rfl
  | cons u us ih =>
    have hread := ih fun x hx => h x (by simp [hx])
    have htake : (bitsOf w u ++ ((us.map (bitsOf w)).flatten ++ rest)).take w = bitsOf w u :=
      List.take_left' (length_bitsOf w u)
    have hdrop : (bitsOf w u ++ ((us.map (bitsOf w)).flatten ++ rest)).drop w = (us.map (bitsOf w)).flatten ++ rest :=
      List.drop_left' (length_bitsOf w u)
    rw [List.length_cons, List.map_cons, List.flatten_cons, List.append_assoc, readFields, if_neg (by simp), hdrop, htake,
      hread, natOfBits_bitsOf (h u (by simp))]

/-- The base of a group as its section stores it. -/
def cbfBaseBits (w : Nat) (g : List Nat) : List Bool := if cbfWidth w g == 15 then [] else bitsOf w (minNat g)

/-- The base that the decoder gives a group. -/
def cbfBase (w : Nat) (g : List Nat) : Nat := if cbfWidth w g == 15 then 0 else minNat g

/-- The codes of a group as its section stores them. -/
def cbfPayloadBits (w : Nat) (g : List Nat) : List Bool :=
  (g.map fun u => if cbfWidth w g == 15 then bitsOf w u else bitsOf (cbfWidth w g) (u - minNat g)).flatten

/-- A group of ordered codes that a section may hold. -/
structure CbfGroup (w : Nat) (g : List Nat) : Prop where
  length : g.length = 16
  lt : ∀ u ∈ g, u < 2 ^ w

theorem CbfGroup.minNat_lt {w : Nat} {g : List Nat} (h : CbfGroup w g) : minNat g < 2 ^ w := by
  have hlen := h.length
  obtain ⟨u, hu⟩ := List.exists_mem_of_length_pos (l := g) (by omega)
  exact (minNat_le hu).trans_lt (h.lt u hu)

theorem readBases_append {w : Nat} {gs : List (List Nat)} (h : ∀ g ∈ gs, CbfGroup w g) (rest : List Bool) :
    readBases w (gs.map (cbfWidth w)) ((gs.map (cbfBaseBits w)).flatten ++ rest) = some (gs.map (cbfBase w), rest) := by
  induction gs with
  | nil => rfl
  | cons g gs ih =>
    have hread := ih fun x hx => h x (by simp [hx])
    simp only [List.map_cons, List.flatten_cons, List.append_assoc, readBases, cbfBaseBits, cbfBase]
    by_cases hraw : cbfWidth w g = 15
    · simp only [hraw, beq_self_eq_true, if_true, List.nil_append, hread, Option.map_some]
    · have hfits := (cbfWidth_fits hraw).1
      have hone := readFields_append (w := w) (us := [minNat g]) (by simpa using (h g (by simp)).minNat_lt)
        ((gs.map (cbfBaseBits w)).flatten ++ rest)
      simp only [List.length_singleton, List.map_singleton, List.flatten_singleton] at hone
      simp only [beq_iff_eq, hraw, if_false, if_neg (not_le.mpr hfits), hone, hread, Option.map_some, List.headD_cons]

/-- The ordered codes that the decoder makes of the fields of a group. -/
theorem cbfPayload_fields {w : Nat} {g : List Nat} (h : CbfGroup w g) (rest : List Bool) :
    ∃ vs, readFields (if cbfWidth w g == 15 then w else cbfWidth w g) 16 (cbfPayloadBits w g ++ rest) = some (vs, rest) ∧
      (if cbfWidth w g == 15 then vs else vs.map (cbfBase w g + ·)) = g := by
  rw [← h.length, cbfPayloadBits, cbfBase]
  by_cases hraw : cbfWidth w g = 15
  · refine ⟨g, ?_, by simp [hraw]⟩
    simpa [hraw] using readFields_append h.lt rest
  · have hfields := readFields_append (w := cbfWidth w g) (us := g.map (· - minNat g))
      (by simpa using (cbfWidth_fits hraw).2) rest
    refine ⟨g.map (· - minNat g), by simpa [hraw, Function.comp_def] using hfields, ?_⟩
    simp only [beq_iff_eq, hraw, if_false, List.map_map]
    refine (List.map_congr_left fun u hu => ?_).trans (List.map_id _)
    exact Nat.add_sub_of_le (minNat_le hu)

theorem readPayload_append {w : Nat} {gs : List (List Nat)} (h : ∀ g ∈ gs, CbfGroup w g) (rest : List Bool) :
    readPayload w (gs.map fun g => (cbfWidth w g, cbfBase w g)) ((gs.map (cbfPayloadBits w)).flatten ++ rest)
      = some (gs.map (List.map (fromOrdered w)), rest) := by
  induction gs with
  | nil => rfl
  | cons g gs ih =>
    have hg := h g (by simp)
    have hany : g.any (· ≥ 2 ^ w) = false := by
      rw [List.any_eq_false]
      intro u hu
      simpa using hg.lt u hu
    obtain ⟨vs, hfields, hvs⟩ := cbfPayload_fields hg ((gs.map (cbfPayloadBits w)).flatten ++ rest)
    simp only [List.map_cons, List.flatten_cons, List.append_assoc, readPayload, hfields, hvs, hany, Bool.false_eq_true,
      if_false, ih fun x hx => h x (by simp [hx]), Option.map_some]

/-! ### Packed sections (R102–R104) -/

/-- The groups of ordered codes of a section. -/
def orderedGroups (w d : Nat) (codes : List (List Nat)) : List (List Nat) :=
  (cbfGroups d codes).map fun g => g.map (toOrdered w)

/-- The bit stream of a section: width table, bases, payload. -/
def sectionBits (w : Nat) (gs : List (List Nat)) : List Bool :=
  ((gs.map (cbfWidth w)).map (bitsOf 4)).flatten ++
    ((gs.map (cbfBaseBits w)).flatten ++ (gs.map (cbfPayloadBits w)).flatten)

theorem cbfSection_eq_packBits (w d : Nat) (codes : List (List Nat)) :
    cbfSection w d codes = packBits (sectionBits w (orderedGroups w d codes)) := by
  have hzip : ∀ gs : List (List Nat), gs.zip (gs.map (cbfWidth w)) = gs.map fun g => (g, cbfWidth w g) :=
    fun gs => List.map_prod_left_eq_zip.symm
  rw [cbfSection, ← orderedGroups]
  simp only [hzip, List.map_map, sectionBits, List.append_assoc]
  rfl

theorem readSection {w : Nat} (hw : w ≤ 16) {gs : List (List Nat)} (h : ∀ g ∈ gs, CbfGroup w g) (rest : List Bool) :
    ∃ r1 r2, readFields 4 gs.length (sectionBits w gs ++ rest) = some (gs.map (cbfWidth w), r1) ∧
      readBases w (gs.map (cbfWidth w)) r1 = some (gs.map (cbfBase w), r2) ∧
      readPayload w ((gs.map (cbfWidth w)).zip (gs.map (cbfBase w))) r2 = some (gs.map (List.map (fromOrdered w)), rest) := by
  refine ⟨_, (gs.map (cbfPayloadBits w)).flatten ++ rest, ?_, readBases_append h _, ?_⟩
  · have hwidths : ∀ x ∈ gs.map (cbfWidth w), x < 2 ^ 4 := by simpa using fun g _ => cbfWidth_lt_sixteen hw g
    rw [sectionBits, List.append_assoc, List.append_assoc]
    simpa only [List.length_map] using readFields_append hwidths _
  · rw [List.zip_map']
    exact readPayload_append h rest

/-- The code of a token in its group (R102): group `4 c + t / 16` holds channel `c` of token `t`. -/
theorem cbfGroups_getD {d : Nat} {codes : List (List Nat)} (h : codes.length = 64) {t c : Nat} (ht : t < 64) (hc : c < d) :
    ((cbfGroups d codes).getD (4 * c + t / 16) []).getD (t % 16) 0 = (codes.getD t []).getD c 0 := by
  have hgroup : (4 * c + t / 16) % 4 = t / 16 := by omega
  have hchannel : (4 * c + t / 16) / 4 = c := by omega
  have htoken : 16 * (t / 16) + t % 16 = t := Nat.div_add_mod t 16
  have hmod : t % 16 < 16 := Nat.mod_lt t (by omega)
  have hlt : 4 * c + t / 16 < 4 * d := by omega
  simp [cbfGroups, List.getD_eq_getElem?_getD, List.getElem?_drop, hgroup, hchannel, htoken, hmod, hlt, h, ht]

theorem length_of_mem_cbfGroups {d : Nat} {codes : List (List Nat)} (h : codes.length = 64) {g : List Nat}
    (hg : g ∈ cbfGroups d codes) : g.length = 16 := by
  obtain ⟨i, -, rfl⟩ := List.mem_map.mp hg
  simp only [List.length_map, List.length_take, List.length_drop, h]
  omega

theorem lt_of_mem_cbfGroups {w d : Nat} {codes : List (List Nat)} (h : ∀ v ∈ codes, ∀ c ∈ v, c < 2 ^ w) {g : List Nat}
    (hg : g ∈ cbfGroups d codes) {c : Nat} (hc : c ∈ g) : c < 2 ^ w := by
  obtain ⟨i, -, rfl⟩ := List.mem_map.mp hg
  obtain ⟨v, hv, rfl⟩ := List.mem_map.mp hc
  have hv : v ∈ codes := List.mem_of_mem_drop (List.mem_of_mem_take hv)
  rw [List.getD_eq_getElem?_getD]
  cases helem : v[i / 4]? with
  | none => exact Nat.two_pow_pos w
  | some c => exact h v hv c (List.mem_of_getElem? helem)

/-- The 64 vectors that the decoder puts together again from the groups. -/
theorem codes_of_cbfGroups {d : Nat} {codes : List (List Nat)} (h : codes.length = 64) (hd : ∀ v ∈ codes, v.length = d) :
    ((List.range 64).map fun t => (List.range d).map fun c =>
      ((cbfGroups d codes).getD (4 * c + t / 16) []).getD (t % 16) 0) = codes := by
  refine List.ext_getElem (by simp [h]) fun t ht ht' => ?_
  have ht64 : t < 64 := by omega
  have hlen : codes[t].length = d := hd _ (List.getElem_mem ht')
  refine List.ext_getElem (by simp [hlen]) fun c hc hc' => ?_
  have hcd : c < d := by omega
  have hvec : codes.getD t [] = codes[t] := List.getD_eq_getElem codes [] ht'
  simp only [List.getElem_map, List.getElem_range]
  rw [cbfGroups_getD h ht64 hcd, hvec, List.getD_eq_getElem codes[t] 0 hc']

section
variable {w d : Nat} {codes : List (List Nat)}

theorem orderedGroups_cbfGroup (hw : 0 < w) (h64 : codes.length = 64) (hc : ∀ v ∈ codes, ∀ c ∈ v, c < 2 ^ w) :
    ∀ g ∈ orderedGroups w d codes, CbfGroup w g := by
  intro g hg
  obtain ⟨g', hg', rfl⟩ := List.mem_map.mp hg
  refine ⟨by rw [List.length_map, length_of_mem_cbfGroups h64 hg'], fun u hu => ?_⟩
  obtain ⟨c, hmem, rfl⟩ := List.mem_map.mp hu
  exact toOrdered_lt hw (lt_of_mem_cbfGroups hc hg' hmem)

theorem fromOrdered_orderedGroups (hw : 0 < w) (hc : ∀ v ∈ codes, ∀ c ∈ v, c < 2 ^ w) :
    (orderedGroups w d codes).map (List.map (fromOrdered w)) = cbfGroups d codes := by
  rw [orderedGroups, List.map_map]
  refine (List.map_congr_left fun g hg => ?_).trans (List.map_id _)
  rw [Function.comp_apply, List.map_map]
  exact (List.map_congr_left fun c hmem => fromOrdered_toOrdered hw (lt_of_mem_cbfGroups hc hg hmem)).trans (List.map_id _)

/-- R102–R104: what follows the section's bits is the padding of its last byte and the bytes after it. -/
theorem cbfDecode_cbfSection (hw : 0 < w) (hw16 : w ≤ 16) (h64 : codes.length = 64)
    (h : ∀ v ∈ codes, v.length = d ∧ ∀ c ∈ v, c < 2 ^ w) (rest : Bytes) :
    cbfDecode w d (cbfSection w d codes ++ rest) = some (codes, (cbfSection w d codes).length) := by
  have hc : ∀ v ∈ codes, ∀ c ∈ v, c < 2 ^ w := fun v hv => (h v hv).2
  have hcount : (orderedGroups w d codes).length = 4 * d := by simp [orderedGroups, cbfGroups]
  have hback := fromOrdered_orderedGroups (d := d) hw hc
  have hgroups := orderedGroups_cbfGroup (d := d) hw h64 hc
  rw [cbfSection_eq_packBits]
  generalize hgs : orderedGroups w d codes = gs at hcount hback hgroups ⊢
  obtain ⟨r1, r2, hfields, hbases, hpayload⟩ := readSection hw16 hgroups (padBits (sectionBits w gs) ++ unpackBits rest)
  have hlen := eight_mul_length_packBits (sectionBits w gs)
  have hused : (unpackBits (packBits (sectionBits w gs) ++ rest)).length -
      (padBits (sectionBits w gs) ++ unpackBits rest).length = (sectionBits w gs).length := by
    simp only [length_unpackBits, List.length_append]
    omega
  have hpad : (8 - (sectionBits w gs).length % 8) % 8 = (padBits (sectionBits w gs)).length := by simp [padBits]
  have hzero : (padBits (sectionBits w gs)).any id = false := by simp [padBits]
  have hbytes : ((sectionBits w gs).length + (padBits (sectionBits w gs)).length) / 8 = (packBits (sectionBits w gs)).length := by
    omega
  have hall : unpackBits (packBits (sectionBits w gs) ++ rest) =
      sectionBits w gs ++ (padBits (sectionBits w gs) ++ unpackBits rest) := by
    rw [unpackBits_append, unpackBits_packBits, List.append_assoc]
  rw [← hall, hcount] at hfields
  simp only [cbfDecode, hfields, hbases, hpayload, hused, hpad, List.take_left', hzero, Bool.false_eq_true, if_false, hback,
    codes_of_cbfGroups h64 fun v hv => (h v hv).1, hbytes]
end

theorem packedSectionsDecode : Claims.PackedSectionsDecode := by
  intro w d codes rest hw h64 h
  have hpos : 0 < w ∧ w ≤ 16 := by
    simp only [List.mem_cons, List.not_mem_nil, or_false] at hw
    omega
  exact cbfDecode_cbfSection hpos.1 hpos.2 h64 h rest

/-- Settles O59: the decoder's readers take from a section's bit stream what the encoder put in, and a record's codes and scales
lie at fixed places. -/
theorem storedBlocksReadBack : Obligations.StoredBlocksReadBack := by
  unfold Obligations.StoredBlocksReadBack
  exact ⟨packedSectionsDecode, recordsReadBack⟩

end Sys2Proof.Machine
end

section
/-! SUPPORT. Lookups by key and how they see an update, answers of commands, and single fields of the shared operations. -/

namespace Sys2Proof.Machine

/-! ### Lists of records by key -/

section
variable {α β : Type} {p q : α → Bool} {f : α → α} {x : α} {xs : List α}

/-- The first of the elements that a test selects also is the first of those that a stronger test selects, if that selects it. -/
theorem find?_of_stronger (h : xs.find? p = some x) (hq : q x = true) (hpq : ∀ y, q y = true → p y = true) :
    xs.find? q = some x := by
  obtain ⟨-, as, bs, rfl, has⟩ := List.find?_eq_some_iff_append.mp h
  refine List.find?_eq_some_iff_append.mpr ⟨hq, as, bs, rfl, fun y hy => ?_⟩
  have hp := has y hy
  cases hqy : q y with
  | false => rfl
  | true => simp [hpq y hqy] at hp

theorem find?_updateFirst (h : xs.find? p = some x) (hf : p (f x) = true) : (updateFirst p f xs).find? p = some (f x) := by
  induction xs with
  | nil => cases h
  | cons y ys ih =>
    by_cases hy : p y = true
    · obtain rfl : y = x := by simpa [hy] using h
      simp [updateFirst, hy, hf]
    · have hys : ys.find? p = some x := by simpa [hy] using h
      simpa [updateFirst, hy] using ih hys

theorem find?_updateFirst_of_disjoint (h : ∀ y, p y = true → q y = false ∧ q (f y) = false) :
    (updateFirst p f xs).find? q = xs.find? q := by
  induction xs with
  | nil => rfl
  | cons y ys ih =>
    by_cases hy : p y = true
    · simp [updateFirst, hy, h y hy]
    · by_cases hq : q y = true <;> simp [updateFirst, hy, hq, ih]

theorem map_updateFirst {g : α → β} (h : ∀ y, p y = true → g (f y) = g y) : (updateFirst p f xs).map g = xs.map g := by
  induction xs with
  | nil => rfl
  | cons y ys ih => by_cases hy : p y = true <;> simp [updateFirst, hy, ih, h]

theorem updateFirst_eq_self (h : ∀ y ∈ xs, p y = true → f y = y) : updateFirst p f xs = xs := by
  induction xs with
  | nil => rfl
  | cons y ys ih =>
    by_cases hy : p y = true
    · simp [updateFirst, hy, h y (by simp) hy]
    · simp [updateFirst, hy, ih fun z hz => h z (by simp [hz])]

end

/-! ### Answers -/

theorem answers_next {t : State} {P : State → Prop} (h : P t) : Answers (.next t) P := ⟨t, rfl, h⟩

/-- Bringing FAULT_SEQ up to date changes the node's maps alone. -/
theorem State.refault_eq_maps (t s : State) : ∃ m, t.refault s = { t with maps := m } := by
  rw [State.refault]
  split
  · exact ⟨t.maps, rfl⟩
  · exact ⟨_, rfl⟩

theorem answers_finish {s t : State} {P : State → Prop} (h : ∀ m, P { t with maps := m }) : Answers (s.finish t) P := by
  obtain ⟨m, hm⟩ := t.refault_eq_maps s
  exact answers_next (hm ▸ h m)

theorem State.finish_self (s : State) : s.finish s = .next s := by simp [State.finish, State.refault]

/-! ### Paddocks -/

@[simp] theorem State.pad_id (s : State) (p : Nat) : (s.pad p).id = p := by
  rw [State.pad]
  cases h : s.pads.find? (·.id == p) with
  | none => rfl
  | some x => simpa using List.find?_some h

theorem State.pad_putPad (s : State) (x : Pad) : (s.putPad x).pad x.id = x := by
  have hself : (x.id == x.id) = true := beq_self_eq_true _
  rw [State.pad, State.putPad]
  dsimp only
  cases h : s.pads.find? (·.id == x.id) with
  | none =>
    have hany : s.pads.any (·.id == x.id) = false := by
      rw [List.any_eq_false]
      exact List.find?_eq_none.mp h
    rw [hany, if_neg Bool.false_ne_true, List.find?_append, h]
    simp
  | some y =>
    have hany : s.pads.any (·.id == x.id) = true :=
      List.any_eq_true.mpr ⟨y, List.mem_of_find?_eq_some h, by simpa using List.find?_some h⟩
    rw [if_pos hany, find?_updateFirst (p := fun z : Pad => z.id == x.id) h hself]
    rfl

theorem State.pad_modPad {s : State} {p : Nat} {f : Pad → Pad} (h : (f (s.pad p)).id = p) :
    (s.modPad p f).pad p = f (s.pad p) := by
  have := s.pad_putPad (f (s.pad p))
  rwa [h] at this

theorem State.mem_pads_of_pad {s : State} {p : Nat} : s.pad p ∈ s.pads ∨ s.pad p = Pad.fresh p := by
  rw [State.pad]
  cases h : s.pads.find? (·.id == p) with
  | none => exact .inr rfl
  | some x => exact .inl (List.mem_of_find?_eq_some h)

/-! ### Leases -/

theorem State.leaseIn_of_find {s : State} {i : Nat} {l : Lease} {p : LeasePhase}
    (h : (s.leases.leases.find? fun x => x.id == i) = some l) (hp : l.phase = p) : s.leaseIn i p = some l := by
  have hid : (l.id == i) = true := by simpa using List.find?_some h
  exact find?_of_stronger h (by simp [hid, hp]) fun y hy => (Bool.and_eq_true_iff.mp hy).1

theorem State.find_modLease {s : State} {i : Nat} {l : Lease} {f : Lease → Lease}
    (h : (s.leases.leases.find? fun x => x.id == i) = some l) (hf : (f l).id = l.id) :
    ((s.modLease i f).leases.leases.find? fun x => x.id == i) = some (f l) := by
  refine find?_updateFirst h ?_
  rw [hf]
  simpa using List.find?_some h

/-- With nothing held, nothing is served. -/
theorem State.serveHeld_of_nil {s : State} (h : s.store.held = []) : s.serveHeld = s := by simp [State.serveHeld, h]

end Sys2Proof.Machine
end

section
/-! SUPPORT. The return of a lease (R166, R170, R179). -/

namespace Sys2Proof.Machine

/-- The controller owns a lease's pseudo-channels again: their refresh duty, rate and postponed refreshes are back (R171). -/
def State.handBack (s : State) (l : Lease) : State :=
  let hot := fun (x : Stack) => { x with hot := l.refreshRate == 2 }
  let t := s.setPostponed l.req.stack l.passed
  let t := { t with store := { t.store with hbms := updateFirst (·.index == l.req.stack) hot t.store.hbms } }
  t.modLease l.id fun x => { x with phase := .returned }

theorem State.handBack_mem (s : State) (l : Lease) : (s.handBack l).mem = s.mem := rfl

theorem exec_leaseReturnDone {s : State} {i : Nat} {l : Lease} (h : s.leaseIn i .returning = some l) :
    exec (.leaseReturnDone i) s =
      s.finish (if (s.handBack l).restarting 3 then s.handBack l else (s.handBack l).completeLease l).serveHeld := by
  have hid : l.id = i := by
    have := List.find?_some h
    simp only [Bool.and_eq_true, beq_iff_eq] at this
    exact this.1
  subst hid
  simp only [exec, execLeaseReturnDone, h]
  rfl

/-- What a returned ZERO leaves (R113, R178): its cleared frames may be allocated again, and its cycles are charged. -/
def State.zeroReturned (s : State) (l : Lease) (r : ProgramResult) : State :=
  let s := { s with leases := { s.leases with leases := s.leases.leases.filter (·.id != l.id) } }.stir
  let s := s.tally (if decide ((s.pad l.req.paddock).state = .teardown) then 0 else l.req.paddock) 8 r.cycles
  { s with store := { s.store with dirty := s.store.dirty.filter fun f => !(l.done l.code r).contains f } }

theorem State.zeroReturned_mem (s : State) (l : Lease) (r : ProgramResult) : (s.zeroReturned l r).mem = s.mem := rfl

section
variable {s : State} {l : Lease} {r : ProgramResult}

/-- A dispatch that is put off changes the chores alone. -/
theorem State.rechore_eq_chores : ∃ ks, s.rechore l r = { s with leases := { s.leases with chores := ks } } := by
  unfold State.rechore
  dsimp only
  split
  · exact ⟨_, rfl⟩
  · exact ⟨s.leases.chores, rfl⟩

theorem State.completeLease_zero (hres : l.result = some r) (hprog : l.req.program = 4)
    (hret : ∀ f ∈ l.req.frames, f ∉ s.store.retired) : s.completeLease l = (s.zeroReturned l r).rechore l r := by
  have hkept : ((s.zeroReturned l r).rechore l r).store.retired = s.store.retired := by
    obtain ⟨ks, hks⟩ := State.rechore_eq_chores (s := s.zeroReturned l r) (l := l) (r := r)
    rw [hks]
    rfl
  have hnone : l.req.frames.filter ((s.zeroReturned l r).rechore l r).store.retired.contains = [] := by
    rw [hkept, List.filter_eq_nil_iff]
    simpa using hret
  have heffect : s.completeLease l = (l.req.frames.filter ((s.zeroReturned l r).rechore l r).store.retired.contains).foldl
      (fun t f => t.retireFrame f) ((s.zeroReturned l r).rechore l r) := by
    simp only [State.completeLease, hres, State.programEffect, hprog]
    rfl
  rw [heffect, hnone, List.foldl_nil]

/-- What is left of an expired ZERO waits for another dispatch, and nothing of one that is done (R178). -/
theorem State.rechore_zero_expired (hprog : l.req.program = 4) (hcode : l.code = 1) (hnext : r.nextFrame < l.req.frames.length) :
    s.rechore l r =
      s.addChore ⟨4, l.req.paddock, l.req.frames, max l.firstFrame r.nextFrame, l.req.param0, l.req.param1⟩ := by
  simp [State.rechore, hprog, hcode, hnext]

theorem State.rechore_done (hcode : l.code = 0) : s.rechore l r = s := by simp [State.rechore, hcode]

theorem State.not_mem_dirty_zeroReturned {f : Nat} (h : f ∈ l.done l.code r) : f ∉ (s.zeroReturned l r).store.dirty := by
  simp [State.zeroReturned, h]

theorem State.counters_zeroReturned (h : (s.pad l.req.paddock).state ≠ .teardown) :
    ((s.zeroReturned l r).pad l.req.paddock).counters =
      updateAt 8 (fun n => (n + r.cycles) % 2 ^ 64) (s.pad l.req.paddock).counters := by
  have hpad : (s.zeroReturned l r).pad l.req.paddock = (s.tally l.req.paddock 8 r.cycles).pad l.req.paddock := by
    have hpayer : (if decide ((s.pad l.req.paddock).state = .teardown) then 0 else l.req.paddock) = l.req.paddock := by
      simp [h]
    rw [← congrArg (fun p => (s.tally p 8 r.cycles).pad l.req.paddock) hpayer]
    rfl
  rw [hpad, State.tally, State.pad_modPad (State.pad_id s _)]

end

theorem returnedLeaseDeliversItsResult : Claims.ReturnedLeaseDeliversItsResult := by
  intro i s l r hfind hphase hres hprog hheld hret
  have hin := State.leaseIn_of_find hfind hphase
  obtain rfl : l.id = i := by simpa using List.find?_some hfind
  have hback : (s.handBack l).restarting 3 = s.restarting 3 := rfl
  rw [exec_leaseReturnDone hin, hback]
  refine ⟨fun hrestart => ?_, fun hruns => ?_⟩
  · rw [if_pos hrestart, State.serveHeld_of_nil (s := s.handBack l) hheld]
    refine answers_finish fun m => ⟨?_, rfl, rfl, rfl⟩
    exact State.find_modLease (s := s) (f := fun x => { x with phase := .returned }) hfind rfl
  · have hruns' : ¬ s.restarting 3 = true := by simp [hruns]
    rw [if_neg hruns', State.completeLease_zero (s := s.handBack l) hres hprog hret]
    generalize hz : (s.handBack l).zeroReturned l r = z
    have hdirty : ∀ f ∈ l.done l.code r, f ∉ z.store.dirty := fun f hf => hz ▸ State.not_mem_dirty_zeroReturned hf
    have hpad : (s.handBack l).pad l.req.paddock = s.pad l.req.paddock := rfl
    have hcounters := @State.counters_zeroReturned (s.handBack l) l r
    rw [hz, hpad] at hcounters
    have hgone : ∀ x ∈ z.leases.leases, x.id ≠ l.id := by
      subst hz
      intro x hx
      simpa using (List.mem_filter.mp hx).2
    obtain ⟨ks, hks⟩ := State.rechore_eq_chores (s := z) (l := l) (r := r)
    have hheld' : (z.rechore l r).store.held = [] := by rw [hks, ← hz]; exact hheld
    rw [State.serveHeld_of_nil hheld']
    have hchores : z.leases.chores = s.leases.chores := by rw [← hz]; rfl
    have hmem : z.mem = s.mem := by rw [← hz, State.zeroReturned_mem, State.handBack_mem]
    refine answers_finish fun m => ⟨?_, ?_, fun hcode => ⟨?_, ?_⟩, fun hcode hnext => ⟨?_, ?_⟩, ?_, ?_, ?_⟩
    · rw [hks]; exact hgone
    · rw [hks]; exact hcounters
    · rw [hks]
      rw [Lease.done.eq_def, hcode] at hdirty
      exact hdirty
    · rw [State.rechore_done hcode]; exact hchores
    · rw [hks]
      rw [Lease.done.eq_def, hcode] at hdirty
      exact hdirty
    · rw [State.rechore_zero_expired hprog hcode hnext, ← hchores]
      rfl
    · rw [hks, ← hz]; rfl
    · rw [hks, ← hz]; rfl
    · rw [hks]; exact hmem

/-- Settles O31: with nothing held, what a returned ZERO changes is written out, and its parts are read off. -/
theorem returnedLeasesDeliver : Obligations.ReturnedLeasesDeliver := by
  unfold Obligations.ReturnedLeasesDeliver
  exact returnedLeaseDeliversItsResult

end Sys2Proof.Machine
end

section
/-! SUPPORT. Leases: requests and fixed rounds (R164, R165, R168, R176), the course of a lease (R166, R169, R171, R172), the
end of a program (R178) and what ZERO clears (R113, R173, R174). -/

namespace Sys2Proof.Machine

/-! ### The log's first record -/

theorem Log.records_retain (l : Log) (r : LogRec) : (l.retain r).records = l.records := by
  unfold Log.retain
  split
  · rfl
  · split <;> rfl

theorem Log.records_count (l : Log) (severity : Nat) : (l.count severity).records = l.records := by
  unfold Log.count
  split <;> rfl

theorem State.errSummary_records (s : State) (b : Nat) : (s.errSummary b).log.records = s.log.records := by
  rw [State.errSummary]
  exact (congrArg Log.records ((State.eventBit_same ..).log.eq rfl)).trans rfl

/-- The first report that a node logs becomes its one record (R365, R366). -/
theorem State.note_first {s : State} {e : ErrRep} (hlog : s.log.records = []) (hruns : s.restarting 5 = false)
    (hsev : e.severity < 2) :
    ∃ r, (s.note e).log.records = [r] ∧ r.severity = e.severity ∧ r.code = e.code ∧ r.address = e.address := by
  have hmin : min e.severity 3 = e.severity := by omega
  have hlow : ¬ min e.severity 3 ≥ 2 := by omega
  rw [State.note, hruns, if_neg Bool.false_ne_true, State.logReport, hlog, List.find?_nil]
  refine ⟨⟨s.time, s.log.nextSeq, min e.severity 3, e.unitKind, e.code, e.paddock, s.sealedPad e.paddock, e.unit, 1,
    e.address, e.object, if e.data.isEmpty then Config.errorData e.code s.log.nextSeq else e.data⟩, ?_, hmin, rfl, rfl⟩
  simp only [State.addRecord]
  rw [if_neg hlow, State.errSummary_records, Log.records_count, Log.records_retain]
  simp [hlog]

theorem State.note_leases (s : State) (e : ErrRep) : (s.note e).leases = s.leases := (State.note_same s e).leases.eq rfl

theorem State.note_store (s : State) (e : ErrRep) : (s.note e).store = s.store := (State.note_same s e).store.eq rfl

theorem State.note_mem (s : State) (e : ErrRep) : (s.note e).mem = s.mem := (State.note_same s e).mem.eq rfl

theorem State.note_time (s : State) (e : ErrRep) : (s.note e).time = s.time := (State.note_same s e).time.eq rfl

theorem State.note_ostlers (s : State) (e : ErrRep) : (s.note e).ostlers = s.ostlers := (State.note_same s e).ostlers.eq rfl

/-! ### Requests (R164, R165, R176) -/

theorem State.zeroTeardowns_of_none {s : State} (h : s.noTeardown) : s.zeroTeardowns = s := by
  have hkeep : ∀ xs : List Pad, (∀ x ∈ xs, x ∈ s.pads) → xs.foldl (fun t x => t.zeroTeardown x) s = s := by
    intro xs
    induction xs with
    | nil => intro _; rfl
    | cons x xs ih =>
      intro hx
      have hstep : s.zeroTeardown x = s := by simp [State.zeroTeardown, h x (hx x (by simp))]
      rw [List.foldl_cons, hstep, ih fun y hy => hx y (by simp [hy])]
  exact hkeep s.pads fun x hx => hx

theorem State.pad_state_ne_teardown {s : State} (h : s.noTeardown) (p : Nat) : (s.pad p).state ≠ .teardown := by
  rcases State.mem_pads_of_pad (s := s) (p := p) with hmem | hfresh
  · exact h _ hmem
  · rw [hfresh, Pad.fresh]
    dsimp only
    split <;> simp

theorem abiRuns_iff (abi : Nat) : abiRuns abi = true ↔ abi / 256 = 1 ∧ abi % 256 ≤ 2 := by simp [abiRuns]

/-- A request that breaks a bound of the controller's conditions does not fit (R164). -/
theorem State.leaseFits_eq_false {s : State} {c : SliceCfg} {r : LeaseReq}
    (h : 16 < r.pcs.length ∨ r.pcs = [] ∨ r.durationNs < 1000 ∨ c.leaseTimeMax < r.durationNs ∨ r.frames = [] ∨
      512 < r.frames.length) : s.leaseFits c r = false := by
  rw [Bool.eq_false_iff]
  intro hfits
  simp only [State.leaseFits, Bool.and_eq_true, decide_eq_true_eq] at hfits
  obtain ⟨⟨⟨⟨⟨⟨⟨⟨⟨⟨hpc1, hpc16⟩, -⟩, -⟩, hmin⟩, hmax⟩, hf1⟩, hf512⟩, -⟩, -⟩, -⟩ := hfits
  rcases h with h | h | h | h | h | h
  · omega
  · simp [h] at hpc1
  · omega
  · omega
  · simp [h] at hf1
  · omega

section
variable {s : State} {r : LeaseReq} {c : SliceCfg}

/-- O3 sends a request where its stack runs, it is awake and its slice on, and the program has not fenced before. -/
structure State.Requests (s : State) (r : LeaseReq) (c : SliceCfg) : Prop where
  slice : s.stackSlice r.stack = some c
  noTeardown : s.noTeardown
  stackRuns : s.stackStopped r.stack = false
  ostlerRuns : s.restarting 3 = false
  allowed : (r.stack, r.program) ∉ s.leases.withheld

/-- A request without its turn waits; in its turn it becomes a lease for at most LEASE_TIME (R164, R247). -/
def State.leaseTurn (s : State) (r : LeaseReq) (c : SliceCfg) : State × Bool → Result
  | (t, false) => .next t
  | (t, true) => .next ((t.takeChore r.program r.paddock r.frames).2.openLease
      { r with durationNs := min r.durationNs c.leaseTime, abi := s.programAbi r.program }
      (t.takeChore r.program r.paddock r.frames).1 false)

/-- What a request that is sent comes to (R164, R165, R168, R176). -/
theorem exec_leaseRequest (h : s.Requests r c) (hawake : s.awake = true) (hon : c.id ∉ s.host.slicesOff) :
    exec (.leaseRequest r) s =
      if !abiRuns (s.programAbi r.program) then s.finish (s.note (unnamed 6 1 2 r.stack 0))
      else if !s.leaseFits c r then s.finish (s.note ⟨1, 2, 0x3003, r.paddock, r.stack, 0, 0, []⟩)
      else if c.policy != 0 then .next (s.addChore ⟨r.program, r.paddock, r.frames, 0, r.param0, r.param1⟩)
      else if c.leasePcs < (s.leasedPcs r.stack).length + r.pcs.length || r.pcs.any (s.leasedPcs r.stack).contains then .next s
      else s.leaseTurn r c (s.takeTurn c.id 2 r.paddock (leaseWork r r.paddock) (r.frames.length * 32768)) := by
  obtain ⟨hslice, hpads, hstack, hostler, hallowed⟩ := h
  have hsent : (s.stackStopped r.stack || s.restarting 3 || !s.awake || s.leases.withheld.contains (r.stack, r.program)
      || s.host.slicesOff.contains c.id) = false := by
    simp [hstack, hostler, hawake, hallowed, hon]
  have hpayer : decide ((s.pad r.paddock).state = .teardown) = false := by
    simpa using State.pad_state_ne_teardown hpads r.paddock
  simp only [exec, execLeaseRequest, hslice, State.zeroTeardowns_of_none hpads, hsent, hpayer, Bool.false_eq_true, if_false]
  rfl

theorem exec_leaseRequest_unsent (h : s.Requests r c) (hoff : s.awake = false ∨ c.id ∈ s.host.slicesOff) :
    exec (.leaseRequest r) s = .next s := by
  have hunsent : (s.stackStopped r.stack || s.restarting 3 || !s.awake || s.leases.withheld.contains (r.stack, r.program)
      || s.host.slicesOff.contains c.id) = true := by
    rcases hoff with hoff | hoff <;> simp [hoff]
  simp only [exec, execLeaseRequest, h.slice, State.zeroTeardowns_of_none h.noTeardown, hunsent, if_true]

end

/-! ### Fixed rounds (R168) -/

/-- A lease that a fixed round of a slice opens (R168). -/
structure SliceCfg.RoundLease (c : SliceCfg) (stack : Nat) (l : Lease) : Prop where
  stack : l.req.stack = stack
  fixed : l.fixed = true
  draining : l.phase = .draining
  time : l.req.durationNs = min c.leaseTime c.leaseTimeMax
  pcs : l.req.pcs.length ≤ c.leasePcs

/-- The pseudo-channels that a round takes on a stack: the next in rotation that are not out (R165, R168). -/
def State.roundPcs (s : State) (c : SliceCfg) (stack : Nat) : List Nat :=
  let first := ((s.leases.rotation.find? (·.1 == stack)).map (·.2)).getD 0
  (((List.range (min c.leasePcs 16)).map fun i => (first + i) % 64).filter fun p => !(s.leasedPcs stack).contains p).take
    (min c.leasePcs 16 - (s.leasedPcs stack).length)

theorem State.length_roundPcs_le (s : State) (c : SliceCfg) (stack : Nat) : (s.roundPcs c stack).length ≤ c.leasePcs := by
  simp only [State.roundPcs, List.length_take]
  omega

theorem State.roundPcs_ne_nil {s : State} {c : SliceCfg} {stack : Nat} (hc : 1 ≤ c.leasePcs)
    (hout : s.leasedPcs stack = []) : s.roundPcs c stack ≠ [] := by
  intro h
  have hlen := congrArg List.length h
  simp [State.roundPcs, hout] at hlen
  omega

/-- A new lease is the last one, and its drain begins. -/
theorem State.openLease_leases (s : State) (r : LeaseReq) (first : Nat) (fixed : Bool) :
    ∃ l, (s.openLease r first fixed).leases.leases = s.leases.leases ++ [l] ∧ l.id = s.leases.nextLease ∧ l.req = r ∧
      l.phase = .draining ∧ l.fixed = fixed := ⟨_, rfl, rfl, rfl, rfl, rfl⟩

/-- What one stack's part of a round comes to: nothing on a stack that has stopped or with every pseudo-channel out, else one
more lease of the round. -/
theorem State.roundOn_cases {s : State} {c : SliceCfg} {stack : Nat} (hostler : s.restarting 3 = false) :
    (s.stackStopped stack = true ∧ s.roundOn c stack = s) ∨
    (s.stackStopped stack = false ∧ s.roundPcs c stack = [] ∧ (s.roundOn c stack).leases.leases = s.leases.leases) ∨
    (s.stackStopped stack = false ∧ s.roundPcs c stack ≠ [] ∧ ∃ l, c.RoundLease stack l ∧
      (s.roundOn c stack).leases.leases = s.leases.leases ++ [l]) := by
  cases hstop : s.stackStopped stack with
  | true => exact .inl ⟨rfl, by simp [State.roundOn, hstop]⟩
  | false =>
    right
    by_cases hpcs : s.roundPcs c stack = []
    · refine .inl ⟨rfl, hpcs, ?_⟩
      simp only [State.roundPcs] at hpcs
      simp only [State.roundOn, hstop, hostler, hpcs, Bool.or_self, Bool.false_eq_true, if_false, List.isEmpty_nil, if_true]
    · refine .inr ⟨rfl, hpcs, ?_⟩
      have hround : ∀ (u : State) (r : LeaseReq), u.leases.leases = s.leases.leases → r.stack = stack →
          r.durationNs = min c.leaseTime c.leaseTimeMax → r.pcs = s.roundPcs c stack →
          ∃ l, c.RoundLease stack l ∧ (u.openLease r 0 true).leases.leases = s.leases.leases ++ [l] := by
        intro u r hu hstack htime hr
        obtain ⟨l, hl, -, hreq, hphase, hfixed⟩ := u.openLease_leases r 0 true
        refine ⟨l, ⟨hreq ▸ hstack, hfixed, hphase, hreq ▸ htime, ?_⟩, hu ▸ hl⟩
        rw [hreq, hr]
        exact s.length_roundPcs_le c stack
      have hsome : (s.roundPcs c stack).isEmpty = false := by simpa using hpcs
      simp only [State.roundPcs] at hsome hround
      simp only [State.roundOn, hstop, hostler, hsome, Bool.or_self, Bool.false_eq_true, if_false]
      split
      · exact hround _ _ rfl rfl rfl rfl
      · split
        · rw [State.note_leases]
          exact hround _ _ rfl rfl rfl rfl
        · split
          · rw [State.note_leases]
            exact hround _ _ rfl rfl rfl rfl
          · exact hround _ _ rfl rfl rfl rfl

section
variable {c : SliceCfg}

/-- Every lease that a round adds is a lease of the round. -/
theorem State.mem_leases_foldl_roundOn {s : State} (hostler : s.restarting 3 = false) {l : Lease} (ks : List Nat)
    (hl : l ∈ (ks.foldl (fun u k => u.roundOn c k) s).leases.leases) :
    l ∈ s.leases.leases ∨ ∃ k ∈ ks, c.RoundLease k l := by
  induction ks generalizing s with
  | nil => exact .inl hl
  | cons k ks ih =>
    have hsame := State.roundOn_same s c k
    have hostler' : (s.roundOn c k).restarting 3 = false := by rw [State.restarting, hsame.ostlers.eq rfl]; exact hostler
    rcases ih hostler' hl with hmem | ⟨k', hk', hround⟩
    · rcases State.roundOn_cases (c := c) (stack := k) hostler with ⟨-, h⟩ | ⟨-, -, h⟩ | ⟨-, -, l', hl', h⟩
      · exact .inl (h ▸ hmem)
      · exact .inl (h ▸ hmem)
      · rw [h, List.mem_append, List.mem_singleton] at hmem
        exact hmem.imp_right fun heq => ⟨k, by simp, by rw [heq]; exact hl'⟩
    · exact .inr ⟨k', by simp [hk'], hround⟩

theorem State.leasedPcs_eq_nil {s : State} {stack : Nat} (h : ∀ l ∈ s.leases.leases, l.req.stack ≠ stack) :
    s.leasedPcs stack = [] := by
  have hnone : (s.leases.leases.filter fun l => l.req.stack == stack && decide (l.phase ≠ .returned)) = [] := by
    rw [List.filter_eq_nil_iff]
    intro l hl
    simp [h l hl]
  rw [State.leasedPcs, hnone]
  rfl

/-- A round opens one lease on every stack that works, where none of them has a lease. -/
theorem State.length_leases_foldl_roundOn {s : State} (hostler : s.restarting 3 = false) (hc : 1 ≤ c.leasePcs) {ks : List Nat}
    (hks : ks.Nodup) (hfree : ∀ l ∈ s.leases.leases, l.req.stack ∉ ks) :
    (ks.foldl (fun u k => u.roundOn c k) s).leases.leases.length =
      s.leases.leases.length + (ks.filter fun k => !s.stackStopped k).length := by
  induction ks generalizing s with
  | nil => rfl
  | cons k ks ih =>
    obtain ⟨hk, hks⟩ := List.nodup_cons.mp hks
    have hsame := State.roundOn_same s c k
    have hostler' : (s.roundOn c k).restarting 3 = false := by rw [State.restarting, hsame.ostlers.eq rfl]; exact hostler
    have hstops : ∀ k', (s.roundOn c k).stackStopped k' = s.stackStopped k' := fun k' => by
      rw [State.stackStopped, hsame.store.eq rfl]
      rfl
    have hfree' : ∀ l ∈ (s.roundOn c k).leases.leases, l.req.stack ∉ ks := by
      intro l hl
      rcases State.mem_leases_foldl_roundOn hostler [k] hl with hmem | ⟨k', hk', hround⟩
      · exact fun h => hfree l hmem (List.mem_cons_of_mem _ h)
      · rw [hround.stack, List.mem_singleton.mp hk']
        exact hk
    rw [List.foldl_cons, ih hostler' hks hfree']
    simp only [hstops]
    have hout : s.leasedPcs k = [] := State.leasedPcs_eq_nil fun l hl heq => hfree l hl (by simp [heq])
    rcases State.roundOn_cases (c := c) (stack := k) hostler with ⟨hstop, h⟩ | ⟨-, hpcs, -⟩ | ⟨hstop, -, l, -, h⟩
    · rw [h, List.filter_cons_of_neg (by simp [hstop])]
    · exact absurd hpcs (State.roundPcs_ne_nil hc hout)
    · rw [h, List.filter_cons_of_pos (by simp [hstop]), List.length_append, List.length_cons, List.length_cons, List.length_nil]
      omega

end

/-- The round of a slice begins: its instant is recorded (R168). -/
def State.beginRound (s : State) (slice at_ : Nat) : State :=
  let t := s.advanceTo at_
  { t with leases := { t.leases with rounds := t.leases.rounds.filter (·.1 != slice) ++ [(slice, at_)] } }

section
variable {s : State} {slice : Nat} {c : SliceCfg}

theorem exec_leaseRoundTimer (hslice : s.sliceCfg slice = some c) (hpolicy : c.policy ≠ 0) (hon : slice ∉ s.host.slicesOff)
    (hpads : s.noTeardown) :
    exec (.leaseRoundTimer slice) s = s.finish (c.hbms.foldl (fun u k => u.roundOn c k) (s.beginRound slice
      (((s.leases.rounds.find? (·.1 == slice)).map fun x => x.2 + c.leasePeriod).getD s.time))) := by
  have hrun : (c.policy == 0 || s.host.slicesOff.contains slice) = false := by simp [hpolicy, hon]
  have hadvance : ∀ n, (s.advanceTo n).zeroTeardowns = s.advanceTo n := fun n => State.zeroTeardowns_of_none hpads
  simp only [exec, execLeaseRoundTimer, hslice, hrun, hadvance, Bool.false_eq_true, if_false]
  rfl

theorem exec_leaseRoundTimer_off (hslice : s.sliceCfg slice = some c) (hoff : c.policy = 0 ∨ slice ∈ s.host.slicesOff) :
    exec (.leaseRoundTimer slice) s = .next s := by
  have hrun : (c.policy == 0 || s.host.slicesOff.contains slice) = true := by rcases hoff with h | h <;> simp [h]
  simp only [exec, execLeaseRoundTimer, hslice, hrun, if_true]

theorem State.foldl_roundOn_same (ks : List Nat) :
    Same { out := true, regs := true, host := true, log := true, leases := true } s (ks.foldl (fun u k => u.roundOn c k) s) :=
  Same.foldl (Same.refl _ _) fun u k => State.roundOn_same u c k

end

theorem leasesAreGrantedOrRefused : Claims.LeasesAreGrantedOrRefused := by
  refine ⟨fun r s c hslice hpads hstack hostler hallowed => ?_, fun slice s c hslice => ?_⟩
  · have hreq : s.Requests r c := ⟨hslice, hpads, hstack, hostler, hallowed⟩
    refine ⟨exec_leaseRequest_unsent hreq, fun hawake hon habi hfits => ⟨fun hpolicy => ?_, ?_⟩,
      fun hawake hon hbad hlog hlogger => ?_, State.leaseFits_eq_false, abiRuns_iff⟩
    · rw [exec_leaseRequest hreq hawake hon]
      simp only [habi, hfits, hpolicy, bne_iff_ne, ne_eq, not_false_eq_true, Bool.not_true, Bool.false_eq_true, if_false, if_true]
      exact answers_next ⟨rfl, rfl⟩
    · intro hpolicy hroom hpcs t1 ok hturn
      have hfree : (decide (c.leasePcs < (s.leasedPcs r.stack).length + r.pcs.length) ||
          r.pcs.any (s.leasedPcs r.stack).contains) = false := by
        simp only [Bool.or_eq_false_iff, decide_eq_false_iff_not, List.any_eq_false, List.contains_iff_mem]
        exact ⟨by omega, hpcs⟩
      have hsame : Same { sch := true } s t1 := by
        have := State.takeTurn_same s c.id 2 r.paddock (leaseWork r r.paddock) (r.frames.length * 32768)
        rwa [hturn] at this
      rw [exec_leaseRequest hreq hawake hon]
      simp only [habi, hfits, hpolicy, hfree, hturn, Bool.not_true, Bool.false_eq_true, if_false, bne_self_eq_false]
      refine ⟨fun hno => ?_, fun hyes => ?_⟩
      · subst hno
        exact ⟨rfl, hsame.leases.eq rfl⟩
      · subst hyes
        have hleases : t1.leases = s.leases := hsame.leases.eq rfl
        obtain ⟨l, hl, hid, hlreq, hphase, hfixed⟩ := (t1.takeChore r.program r.paddock r.frames).2.openLease_leases
          { r with durationNs := min r.durationNs c.leaseTime, abi := s.programAbi r.program }
          (t1.takeChore r.program r.paddock r.frames).1 false
        have hold : (t1.takeChore r.program r.paddock r.frames).2.leases.leases = s.leases.leases := by
          change t1.leases.leases = _
          rw [hleases]
        have hnext : (t1.takeChore r.program r.paddock r.frames).2.leases.nextLease = s.leases.nextLease := by
          change t1.leases.nextLease = _
          rw [hleases]
        rw [hold] at hl
        rw [hnext] at hid
        exact answers_next ⟨⟨l, hl, hid, hphase, hfixed, hlreq⟩, congrArg (· + 1) hnext, hsame.store.eq rfl, hsame.mem.eq rfl⟩
    · have hlogged : ∀ e : ErrRep, e.severity = 1 → Answers (s.finish (s.note e)) fun t =>
          t.leases = s.leases ∧ t.store = s.store ∧ ∃ x, t.log.records = [x] ∧ x.severity = 1 := by
        intro e he
        obtain ⟨x, hx, hsev, -, -⟩ := State.note_first hlog hlogger (e := e) (by omega)
        exact answers_finish fun m => ⟨State.note_leases s e, State.note_store s e, x, hx, hsev.trans he⟩
      rw [exec_leaseRequest hreq hawake hon]
      cases habi : abiRuns (s.programAbi r.program) with
      | false => exact hlogged _ rfl
      | true =>
        have hfits : s.leaseFits c r = false := hbad.resolve_left (by simp [habi])
        simp only [hfits, Bool.not_true, Bool.false_eq_true, if_false, Bool.not_false, if_true]
        exact hlogged _ rfl
  · refine ⟨exec_leaseRoundTimer_off hslice, fun hpolicy hon hpads hostler => ?_⟩
    rw [exec_leaseRoundTimer hslice hpolicy hon hpads]
    generalize hat : ((s.leases.rounds.find? (·.1 == slice)).map fun x => x.2 + c.leasePeriod).getD s.time = at_
    have hsame := State.foldl_roundOn_same (s := s.beginRound slice at_) (c := c) c.hbms
    refine answers_finish fun m => ⟨fun l hl => ?_, fun hstacks hpcs1 hpcs16 hfree => ?_, fun r hr => ?_, ?_, ?_⟩
    · refine (State.mem_leases_foldl_roundOn (s := s.beginRound slice at_) hostler c.hbms hl).imp_right ?_
      rintro ⟨k, hk, hround⟩
      exact ⟨hround.stack ▸ hk, hround.fixed, hround.draining, hround.time, hround.pcs⟩
    · exact State.length_leases_foldl_roundOn (s := s.beginRound slice at_) hostler hpcs1 hstacks hfree
    · rw [hr] at hat
      exact (hsame.time.eq rfl).trans (by rw [← hat]; rfl)
    · exact hsame.store.eq rfl
    · exact hsame.mem.eq rfl

/-! ### The course of a lease (R166, R171, R172, R177) -/

/-- The base die owns a lease's pseudo-channels, and its time begins (R166, R171, R175). -/
def State.handOver (s : State) (l : Lease) : State :=
  let touched := match s.stackSlice l.req.stack with
    | none => []
    | some c => (l.req.frames.filter fun f => c.kindOf f == 0).map fun f => (f, l.id)
  let t := s.modLease l.id fun x => { x with
    phase := .running, expires := s.time + l.req.durationNs, passed := s.postponed l.req.stack l.req.pcs }
  let t := t.setPostponed l.req.stack (l.req.pcs.map fun p => (p, 0))
  { t with store := { t.store with
    leaseTouched := t.store.leaseTouched.filter (fun (x : Nat × Nat) => !touched.any (·.1 == x.1)) ++ touched } }

theorem exec_leaseHandoverDone {s : State} {i : Nat} {l : Lease} (h : s.leaseIn i .draining = some l) :
    exec (.leaseHandoverDone i) s = .next ((s.handOver l).startCore l) := by
  have hid : l.id = i := by
    have := List.find?_some h
    simp only [Bool.and_eq_true, beq_iff_eq] at this
    exact this.1
  subst hid
  simp only [exec, execLeaseHandoverDone, h]
  rfl

/-- A program starts on core 0 of its stack where all are free, and none starts in a round without work (R163, R177). -/
theorem State.startCore_cases (s : State) (l : Lease) :
    (s.startCore l = s ∧ (l.req.frames = [] ∨ ∃ x ∈ s.leases.leases, x.core ≠ none)) ∨
    ∃ k i, l.req.frames ≠ [] ∧ s.startCore l = (s.putCore k).modLease l.id (fun x => { x with core := some i }) ∧
      ((∀ x ∈ s.leases.leases, x.core = none) → i = 0) := by
  unfold State.startCore
  dsimp only
  generalize hbusy : ((s.leases.leases.filter fun x => x.req.stack == l.req.stack).filterMap fun (x : Lease) => x.core) = busy
  have hfree : (∀ x ∈ s.leases.leases, x.core = none) → busy = [] := by
    intro h
    rw [← hbusy, List.filterMap_eq_nil_iff]
    exact fun x hx => h x (List.mem_filter.mp hx).1
  split
  case h_1 hnone =>
    refine .inl ⟨rfl, .inr ?_⟩
    by_contra hall
    have hcores : ∀ x ∈ s.leases.leases, x.core = none := fun x hx => by_contra fun hx' => hall ⟨x, hx, hx'⟩
    rw [hfree hcores] at hnone
    simp only [List.contains_nil, Bool.not_false, List.find?_eq_none, List.mem_range, not_true_eq_false] at hnone
    exact hnone 0 (by omega)
  case h_2 i hi =>
    split
    case isTrue hempty => exact .inl ⟨rfl, .inl (List.isEmpty_iff.mp hempty)⟩
    case isFalse hframes =>
      refine .inr ⟨_, i, fun h => hframes (by simp [h]), rfl, fun h => ?_⟩
      rw [hfree h] at hi
      exact Option.some.inj (hi.symm.trans rfl)

theorem State.find_leases_startCore {s : State} {l y : Lease}
    (h : (s.leases.leases.find? fun x => x.id == l.id) = some y) :
    ∃ c, ((s.startCore l).leases.leases.find? fun x => x.id == l.id) = some { y with core := c } ∧
      (l.req.frames = [] → c = y.core) ∧ (l.req.frames ≠ [] → (∀ x ∈ s.leases.leases, x.core = none) → c = some 0) := by
  rcases s.startCore_cases l with ⟨hsame, hwhy⟩ | ⟨k, i, hframes, hstart, hzero⟩
  · refine ⟨y.core, by rw [hsame]; exact h, fun _ => rfl, fun hframes hcores => ?_⟩
    obtain ⟨x, hx, hbusy⟩ := hwhy.resolve_left hframes
    exact absurd (hcores x hx) hbusy
  · refine ⟨some i, ?_, fun h => absurd h hframes, fun _ hcores => congrArg some (hzero hcores)⟩
    rw [hstart]
    exact State.find_modLease (s := s.putCore k) (f := fun x => { x with core := some i }) h rfl

/-- Leases that a handover leaves alone keep their cores. -/
theorem core_of_mem_updateFirst {ls : List Lease} {p : Lease → Bool} {f : Lease → Lease} (hf : ∀ x, (f x).core = x.core)
    (h : ∀ x ∈ ls, x.core = none) : ∀ x ∈ updateFirst p f ls, x.core = none := by
  have hcores := map_updateFirst (p := p) (f := f) (xs := ls) (g := Lease.core) fun y _ => hf y
  intro x hx
  have hmem : x.core ∈ ls.map Lease.core := hcores ▸ List.mem_map_of_mem hx
  obtain ⟨y, hy, hxy⟩ := List.mem_map.mp hmem
  rw [← hxy, h y hy]

theorem getD_updateAt_self {α : Type} {i : Nat} {f : α → α} {xs : List α} (d : α) (h : i < xs.length) :
    (updateAt i f xs).getD i d = f (xs.getD i d) := by
  induction xs generalizing i with
  | nil => simp at h
  | cons x xs ih =>
    cases i with
    | zero => rfl
    | succ i => simpa [updateAt] using ih (by simpa using h)

theorem leaseStartsAndRefreshes : Claims.LeaseStartsAndRefreshes := by
  intro i s l hfind
  obtain rfl : l.id = i := by simpa using List.find?_some hfind
  refine ⟨fun hphase => ?_, fun hphase pc x hpc hstack hlen => ?_⟩
  · rw [exec_leaseHandoverDone (State.leaseIn_of_find hfind hphase)]
    have hfind' : ((s.handOver l).leases.leases.find? fun x => x.id == l.id) = some { l with
        phase := .running, expires := s.time + l.req.durationNs, passed := s.postponed l.req.stack l.req.pcs } :=
      State.find_modLease (f := fun x => { x with
        phase := .running, expires := s.time + l.req.durationNs, passed := s.postponed l.req.stack l.req.pcs }) hfind rfl
    obtain ⟨c, hc, hidle, hzero⟩ := State.find_leases_startCore hfind'
    have hsame := State.startCore_same (s.handOver l) l
    have hstore : ((s.handOver l).startCore l).store = (s.handOver l).store := hsame.store.eq rfl
    refine answers_next ⟨⟨_, hc, rfl, rfl, rfl, fun hframes hcores => hzero hframes ?_, hidle⟩, ?_, ?_, ?_⟩
    · exact core_of_mem_updateFirst (fun _ => rfl) hcores
    · rw [hstore]; rfl
    · rw [hstore]; rfl
    · exact hsame.mem.eq rfl
  · have howns : (s.leases.leases.find? fun y => y.id == l.id && y.phase.owns) = some l :=
      find?_of_stronger hfind (by simp [hphase, LeasePhase.owns]) fun y hy => (Bool.and_eq_true_iff.mp hy).1
    have hmine : l.req.pcs.contains pc = true := by simpa using hpc
    simp only [exec, execLeaseRefreshDue, howns, hmine, Bool.not_true, Bool.false_eq_true, if_false]
    refine answers_next ⟨⟨_, State.find_modLease (f := fun x => { x with
        paused := if decide (x.phase = .running) then x.paused + 1 else x.paused
        passed := x.passed.map fun c => if c.1 == pc then (pc, 0) else c }) hfind rfl, ?_, hphase, rfl⟩,
      _, find?_updateFirst hstack ?_, ?_, rfl⟩
    · simp [hphase]
    · simpa using List.find?_some hstack
    · exact getD_updateAt_self 0 hlen

/-! ### The end of a program (R178) -/

theorem exec_stallProgramDone {s : State} {i : Nat} {l : Lease} {r : ProgramResult} (h : s.leaseIn i .running = some l)
    (hcore : l.core ≠ none) (htime : s.time ≤ l.expires) (hsealed : l.req.program = 3 → (s.pad l.req.paddock).state ≠ .sealed) :
    exec (.stallProgramDone i r) s = .next (s.endProgram l r.result r) := by
  have hrefused : (l.req.program == 3 && decide ((s.pad l.req.paddock).state = .sealed)) = false := by
    simpa using hsealed
  have hcore' : l.core.isNone = false := by simpa [Option.isSome_iff_ne_none] using hcore
  simp only [exec, execStallProgramDone, h, hcore', hrefused, Bool.false_eq_true, if_false, if_neg (not_lt.mpr htime)]

/-- A program's core is free again, and what it has left is in the lease (R178). -/
def State.haltProgram (s : State) (l : Lease) (code : Nat) (r : ProgramResult) : State :=
  let r := { r with result := code }
  let s := s.modLease l.id fun x => { x with
    phase := l.endPhase s.time, core := none, code := code, result := some r }
  match l.core.bind (s.core l.req.stack) with
  | none => s
  | some k => s.putCore { k with
      data := l.writeResult r k.data
      regs := 0 :: (List.range 31).map fun i => Config.coreRegister l.id (i + 1) % 2 ^ 32 }

section
variable {s : State} {l : Lease} {code : Nat} {r : ProgramResult}

theorem State.endProgram_eq : s.endProgram l code r =
    if l.req.program == 4 then (s.haltProgram l code r).zeroFrames (l.done code { r with result := code })
    else s.haltProgram l code r := rfl

theorem State.haltProgram_same : Same { leases := true } s (s.haltProgram l code r) := by
  unfold State.haltProgram
  dsimp only
  split
  · exact State.modLease_same ..
  · exact (State.putCore_same ..).then rfl (State.modLease_same ..)

theorem State.leases_haltProgram : (s.haltProgram l code r).leases.leases = (s.modLease l.id fun x => { x with
    phase := l.endPhase s.time, core := none, code := code, result := some { r with result := code } }).leases.leases := by
  unfold State.haltProgram
  dsimp only
  split <;> rfl

theorem State.leases_endProgram : (s.endProgram l code r).leases = (s.haltProgram l code r).leases := by
  rw [State.endProgram_eq]
  split <;> rfl

/-- The lease of a program that has ended (R178). -/
theorem State.find_leases_endProgram (h : (s.leases.leases.find? fun x => x.id == l.id) = some l) :
    ((s.endProgram l code r).leases.leases.find? fun x => x.id == l.id) = some { l with
      phase := l.endPhase s.time, core := none, code := code, result := some { r with result := code } } := by
  rw [State.leases_endProgram, State.leases_haltProgram]
  exact State.find_modLease (f := fun x => { x with
    phase := l.endPhase s.time, core := none, code := code, result := some { r with result := code } }) h rfl

theorem State.endProgram_of_ne_zero (h : l.req.program ≠ 4) : s.endProgram l code r = s.haltProgram l code r := by
  rw [State.endProgram_eq, if_neg (by simpa using h)]

theorem State.endProgram_of_zero (h : l.req.program = 4) :
    s.endProgram l code r = (s.haltProgram l code r).zeroFrames (l.done code { r with result := code }) := by
  rw [State.endProgram_eq, if_pos (by simpa using h)]

theorem State.store_endProgram (h : l.req.program ≠ 4) : (s.endProgram l code r).store = s.store := by
  rw [State.endProgram_of_ne_zero h, State.haltProgram_same.store.eq rfl]

/-- A program writes memory only where it has completed frames. -/
theorem State.mem_endProgram (h : l.req.program ≠ 4 ∨ l.done code { r with result := code } = []) :
    (s.endProgram l code r).mem = s.mem := by
  have hhalt : (s.haltProgram l code r).mem = s.mem := State.haltProgram_same.mem.eq rfl
  by_cases hprog : l.req.program = 4
  · rw [State.endProgram_of_zero hprog, h.resolve_left (not_not_intro hprog), State.zeroFrames]
    simp [hhalt]
  · rw [State.endProgram_of_ne_zero hprog, hhalt]

theorem State.endProgram_log : (s.endProgram l code r).log = s.log := by
  rw [State.endProgram_eq]
  split <;> exact State.haltProgram_same.log.eq rfl

theorem State.endProgram_ostlers : (s.endProgram l code r).ostlers = s.ostlers := by
  rw [State.endProgram_eq]
  split <;> exact State.haltProgram_same.ostlers.eq rfl

theorem State.endProgram_time : (s.endProgram l code r).time = s.time := by
  rw [State.endProgram_eq]
  split <;> exact State.haltProgram_same.time.eq rfl

end

/-- What a fence fault leaves before it is logged (R169). -/
def State.fenced (s : State) (l : Lease) (address : Nat) : State :=
  let t := s.stallCycles.2.endProgram l 2 ⟨2, l.firstFrame, s.stallCycles.1, [], []⟩
  { t with leases := { t.leases with
    withheld := t.leases.withheld.filter (· != (l.req.stack, l.req.program)) ++ [(l.req.stack, l.req.program)]
    fenceRecords := t.leases.fenceRecords ++ [(l.id, l.req.program, address)] } }

theorem exec_fenceFault {s : State} {l : Lease} {c : SliceCfg} {address : Nat} (h : s.leaseIn l.id .running = some l)
    (hc : s.stackSlice l.req.stack = some c) :
    exec (.fenceFault l.id address) s =
      if l.core.isNone || (l.fence c).contains (address / 32768) then .next s
      else s.finish ((s.fenced l address).note
        ⟨1, 2, 0x3004, l.req.paddock, l.req.stack, address, l.id, toLe 2 l.req.program⟩) := by
  simp only [exec, execFenceFault, h, Option.bind_some, hc]
  rfl

theorem exec_leaseExpiry {s : State} {l : Lease} {next : Nat} (h : s.leaseIn l.id .running = some l) :
    exec (.leaseExpiry l.id next) s =
      if l.core.isNone then .next ((s.advanceTo l.expires).modLease l.id fun x => { x with phase := .returning })
      else .next ((s.advanceTo l.expires).stallCycles.2.endProgram l 1 ⟨1, next, (s.advanceTo l.expires).stallCycles.1,
        if l.req.program == 1 then ((s.advanceTo l.expires).stallCycles.2.expiredFinds l next).map (·.1) else [],
        ((s.advanceTo l.expires).stallCycles.2.expiredFinds l next).map (·.2)⟩) := by
  simp only [exec, execLeaseExpiry, h]

theorem leaseProgramsEnd : Claims.LeaseProgramsEnd := by
  intro i s l hfind hphase
  obtain rfl : l.id = i := by simpa using List.find?_some hfind
  have hin := State.leaseIn_of_find hfind hphase
  refine ⟨fun address c hslice => ⟨fun hinside => ?_, fun houtside hcore hlogger hlog => ?_⟩, fun next => ?_, fun r hcore => ?_,
    fun r hcore htime hsealed => ?_⟩
  · rw [exec_fenceFault hin hslice, if_pos (by simp [hinside])]
  · have hfault : (l.core.isNone || (l.fence c).contains (address / 32768)) = false := by
      simp [houtside, Option.isSome_iff_ne_none, hcore]
    rw [exec_fenceFault hin hslice, hfault, if_neg Bool.false_ne_true]
    obtain ⟨x, hx, hsev, hcode, haddress⟩ := State.note_first (s := s.fenced l address)
      (e := ⟨1, 2, 0x3004, l.req.paddock, l.req.stack, address, l.id, toLe 2 l.req.program⟩)
      ((congrArg Log.records State.endProgram_log).trans hlog)
      ((congrArg (fun os : List Ostler => os.any fun o => o.id == 5 && o.restarting) State.endProgram_ostlers).trans hlogger)
      (Nat.lt_succ_self 1)
    have hended := (congrArg (fun ls : Leases => ls.leases.find? fun x => x.id == l.id)
        (State.note_leases (s.fenced l address) ⟨1, 2, 0x3004, l.req.paddock, l.req.stack, address, l.id, toLe 2 l.req.program⟩)).trans
      (State.find_leases_endProgram (s := s.stallCycles.2) (code := 2) (r := ⟨2, l.firstFrame, s.stallCycles.1, [], []⟩) hfind)
    refine answers_finish fun m => ⟨⟨_, hended, rfl, rfl, rfl⟩, ?_, ⟨x, hx, hsev, hcode, haddress⟩, fun hprog => ?_, ?_⟩
    · refine (congrArg Leases.withheld (State.note_leases _ _)).symm ▸ ?_
      simp [State.fenced]
    · exact (State.note_store _ _).trans (State.store_endProgram hprog)
    · exact (State.note_mem _ _).trans (State.mem_endProgram (.inr rfl))
  · rw [exec_leaseExpiry hin]
    have hend : l.endPhase (max s.time l.expires) = .returning := by
      simp [Lease.endPhase]
    by_cases hcore : l.core = none
    · rw [if_pos (by simp [hcore])]
      refine answers_next ⟨rfl, fun _ => ?_, fun h => absurd hcore h, fun _ => ⟨rfl, rfl⟩⟩
      exact State.find_modLease (s := s.advanceTo l.expires) (f := fun x => { x with phase := .returning }) hfind rfl
    · rw [if_neg (by simp [hcore])]
      refine answers_next ⟨?_, fun h => absurd h hcore, fun _ => ⟨_, _, State.find_leases_endProgram hfind, hend, rfl, rfl, rfl⟩,
        fun hprog => ⟨?_, ?_⟩⟩
      · exact State.endProgram_time
      · exact State.store_endProgram hprog
      · exact State.mem_endProgram (.inl hprog)
  · have hnone : l.core.isNone = true := by simp [hcore]
    simp only [exec, execStallProgramDone, hin, hnone, if_true]
  · rw [exec_stallProgramDone hin hcore htime hsealed]
    refine answers_next ⟨State.find_leases_endProgram hfind, fun hprog => ⟨State.store_endProgram hprog, ?_⟩⟩
    exact State.mem_endProgram (.inl hprog)

/-! ### What ZERO clears (R113, R173, R174) -/

/-- Taking out listed bytes by their addresses leaves the others as they were. -/
theorem Memory.read_filter {m : List Host.Cell} (h : Memory.wf m = true) (p : Nat → Bool) (a : Nat) :
    Memory.read (m.filter fun c => p c.1) a = if p a then Memory.read m a else 0 := by
  induction m with
  | nil => simp [Memory.read]
  | cons c m ih =>
    obtain ⟨k, b⟩ := c
    obtain ⟨-, habove, hm⟩ := Memory.wf_cons.mp h
    rcases Nat.lt_trichotomy k a with hk | rfl | hk
    · have hread : Memory.read ((k, b) :: m) a = Memory.read m a := by
        rw [Memory.read, if_neg (by omega), if_neg (by omega)]
      rw [hread, ← ih hm, List.filter_cons]
      split
      · rw [Memory.read, if_neg (by omega), if_neg (by omega)]
      · rfl
    · cases hp : p k with
      | true => simp [hp, Memory.read]
      | false =>
        have hrest : Memory.above k (m.filter fun c => p c.1) := fun c hc => habove c (List.mem_filter.mp hc).1
        simp [hp, Memory.read_above hrest le_rfl]
    · have hzero : Memory.read ((k, b) :: m) a = 0 := by
        rw [Memory.read, if_neg (by omega), if_pos hk]
      have hall : Memory.above a ((k, b) :: m) := by
        intro c hc
        rcases List.mem_cons.mp hc with rfl | hc
        · exact hk
        · exact hk.trans (habove c hc)
      have hrest : Memory.above a (((k, b) :: m).filter fun c => p c.1) := fun c hc => hall c (List.mem_filter.mp hc).1
      rw [Memory.read_above hrest le_rfl, hzero, ite_self]

/-- The check-byte areas of some metadata frames (R149, R174). -/
def State.eccAreas (s : State) (frames : List Nat) : List (Nat × Nat) :=
  frames.filterMap fun f => (s.sliceOfFrame f).bind fun c => c.eccPlace f

/-- Whether ZERO of some frames clears an address: in them, or in the check-byte area of one of them. -/
def State.zeroClears (s : State) (frames : List Nat) (a : Nat) : Bool :=
  frames.contains (a / 32768) ||
    (s.eccAreas frames).any fun x => a / 32768 == x.1 && x.2 ≤ a % 32768 && a % 32768 < x.2 + 4096

theorem State.mem_zeroFrames (s : State) (frames : List Nat) :
    (s.zeroFrames frames).mem = s.mem.filter fun c => !s.zeroClears frames c.1 := rfl

theorem State.read_zeroFrames {s : State} (hwf : Memory.wf s.mem = true) (frames : List Nat) (a : Nat) :
    Memory.read (s.zeroFrames frames).mem a = if !s.zeroClears frames a then Memory.read s.mem a else 0 := by
  rw [State.mem_zeroFrames]
  exact Memory.read_filter hwf (fun a => !s.zeroClears frames a) a

theorem State.zeroClears_of_mem {s : State} {frames : List Nat} {f k : Nat} (hf : f ∈ frames) (hk : k < 32768) :
    s.zeroClears frames (f * 32768 + k) = true := by
  have hframe : (f * 32768 + k) / 32768 = f := by omega
  simp [State.zeroClears, hframe, hf]

theorem State.zeroClears_eq_false {s : State} {frames : List Nat} {a : Nat} (h : s.eccAreas frames = []) (ha : a / 32768 ∉ frames) :
    s.zeroClears frames a = false := by
  simp [State.zeroClears, h, ha]

theorem State.eccAreas_eq_nil {s : State} {frames : List Nat}
    (h : ∀ f ∈ frames, ∀ c, s.sliceOfFrame f = some c → c.eccPlace f = none) : s.eccAreas frames = [] := by
  rw [State.eccAreas, List.filterMap_eq_nil_iff]
  intro f hf
  cases hc : s.sliceOfFrame f with
  | none => rfl
  | some c => exact h f hf c hc

theorem zeroClearsItsFrames : Claims.ZeroClearsItsFrames := by
  intro i s l r hfind hphase hcore htime hprog hres hwf
  obtain rfl : l.id = i := by simpa using List.find?_some hfind
  have hin := State.leaseIn_of_find hfind hphase
  rw [exec_stallProgramDone hin hcore htime (fun h => by omega), hres, State.endProgram_of_zero hprog]
  have hdone : l.done 0 { r with result := 0 } = l.req.frames.drop l.firstFrame := rfl
  have hhalt : Same { leases := true } s (s.haltProgram l 0 r) := State.haltProgram_same
  have hwf' : Memory.wf (s.haltProgram l 0 r).mem = true := hhalt.wf hwf
  have hmem : (s.haltProgram l 0 r).mem = s.mem := hhalt.mem.eq rfl
  rw [hdone]
  refine answers_next ⟨fun f hf k hk => ?_, fun hplain a ha => ?_, ?_, ?_⟩
  · rw [State.read_zeroFrames hwf', State.zeroClears_of_mem hf hk]
    rfl
  · have hecc : (s.haltProgram l 0 r).eccAreas (l.req.frames.drop l.firstFrame) = [] := by
      refine State.eccAreas_eq_nil fun f hf c hc => hplain f (List.mem_of_mem_drop hf) c ?_
      rw [State.sliceOfFrame, ← hhalt.img.eq rfl]
      exact hc
    rw [State.read_zeroFrames hwf', State.zeroClears_eq_false hecc ha, hmem]
    rfl
  · show (s.haltProgram l 0 r).store.dirty = s.store.dirty
    rw [hhalt.store.eq rfl]
  · rw [State.mem_zeroFrames]
    exact Memory.wf_filter hwf'

/-- Settles O30: what a request, a round, a handover, a refresh and a program's end come to is written out case by case; each part
of the statements is one of the cases, read by the frames of the operations. -/
theorem leasesRunWithinTheirConditions : Obligations.LeasesRunWithinTheirConditions := by
  unfold Obligations.LeasesRunWithinTheirConditions
  exact ⟨leasesAreGrantedOrRefused, leaseStartsAndRefreshes, leaseProgramsEnd, zeroClearsItsFrames⟩

end Sys2Proof.Machine
end

section
/-! O28. The move of a block that no entry names: its copy is freed and nothing is retired. -/

namespace Sys2Proof.Machine

/-! ### Freeing a place -/

/-- Of the store a freed frame changes the frames that wait for their zero-fill alone: it is one of them, unless it still holds
something or is retired (R113). -/
theorem State.store_emptyFrame (s : State) (paddock f : Nat) :
    ∃ d, (∀ x ∈ s.store.dirty, x ∈ d) ∧
      (f ∉ s.store.retired → (∀ p ∈ s.store.places, f ∉ p.1.frames) → f ∈ d) ∧
      (s.emptyFrame paddock f).store = { s.store with dirty := d } := by
  rw [State.emptyFrame]
  split
  · next hstays =>
    refine ⟨s.store.dirty, fun _ h => h, fun hretired hplaces => ?_, rfl⟩
    have hany : (s.store.places.any fun p => p.1.frames.contains f) = false := by simpa using hplaces
    have hret : s.store.retired.contains f = false := by simpa using hretired
    rw [hany, hret, Bool.false_or, Bool.or_false] at hstays
    simpa using hstays
  · refine ⟨s.store.dirty ++ [f], fun _ h => List.mem_append_left _ h,
      fun _ _ => List.mem_append_right _ (List.mem_singleton_self f), ?_⟩
    dsimp only
    split <;> rfl

/-- Of the store a freed place changes the frames that wait for their zero-fill alone: all of its frames that hold nothing else
and are not retired are among them. -/
theorem State.store_freePlace (s : State) (paddock : Nat) (p : Place) :
    ∃ d, (∀ x ∈ s.store.dirty, x ∈ d) ∧
      (∀ f ∈ p.frames, f ∉ s.store.retired → (∀ y ∈ s.store.places, f ∉ y.1.frames) → f ∈ d) ∧
      (s.freePlace paddock p).store = { s.store with dirty := d } := by
  rw [State.freePlace]
  induction p.frames generalizing s with
  | nil => exact ⟨s.store.dirty, fun _ h => h, nofun, rfl⟩
  | cons f fs ih =>
    obtain ⟨d, hd, hf, hs⟩ := s.store_emptyFrame paddock f
    obtain ⟨d', hd', hfs, hs'⟩ := ih (s.emptyFrame paddock f)
    rw [hs] at hd' hfs
    refine ⟨d', fun x hx => hd' x (hd x hx), fun x hx hretired hplaces => ?_, ?_⟩
    · rcases List.mem_cons.mp hx with rfl | hx
      · exact hd' x (hf hretired hplaces)
      · exact hfs x hx hretired hplaces
    · rw [List.foldl_cons, hs', hs]

/-! ### A move of a block without a namer -/

/-- A move whose block no entry names ends by freeing its copy, however the copy reads back. -/
theorem State.moveDone_of_namers_nil {s : State} {m : Move} (h : s.namers m.block = []) (r : ReadOutcome) :
    s.moveDone m r =
      ({ s with store := { s.store with moves := s.store.moves.filter (·.id != m.id) } }.stir).freePlace (s.store.movePad m)
        m.target := by
  have hn : ({ s with store := { s.store with moves := s.store.moves.filter (·.id != m.id) } }.stir).namers m.block = [] := h
  rw [State.moveDone, hn]
  dsimp only [List.head?_nil]
  split
  · contradiction
  · rfl

theorem State.retired_moveDone_of_namers_nil {s : State} {m : Move} (h : s.namers m.block = []) (r : ReadOutcome) :
    (s.moveDone m r).store.retired = s.store.retired := by
  obtain ⟨d, -, -, hs⟩ := State.store_freePlace
    ({ s with store := { s.store with moves := s.store.moves.filter (·.id != m.id) } }.stir) (s.store.movePad m) m.target
  rw [State.moveDone_of_namers_nil h, hs]
  rfl

theorem answers_of_finish {s t : State} {P : State → Prop} (h : Answers (s.finish t) P) : ∃ m, P { t with maps := m } := by
  obtain ⟨u, hu, hP⟩ := h
  obtain ⟨m, hm⟩ := t.refault_eq_maps s
  obtain rfl : t.refault s = u := by simpa [State.finish] using hu
  exact ⟨m, hm ▸ hP⟩

/-- Where the block of the counterexample lies: one frame of Tier-1. -/
def strayPlace : Place := ⟨.tier1, 100, 0, 1, 0⟩

/-- A closed block, of no sequence. -/
def strayBlock : Block := ⟨0, 0, 0, strayPlace, 0, 0, [], [], 0, [], [], false, false, 1, 0, 0, 0⟩

/-- Its move to the next frame. -/
def strayMove : Move := ⟨0, 0, strayPlace, { strayPlace with frame := 101 }⟩

/-- A node after reset but for the block and its move: no directory entry names the block. -/
def strayState : State :=
  { State.reset with store := { State.reset.store with blocks := [strayBlock], moves := [strayMove] } }

theorem exec_migrationMoveDone_stray :
    exec (.migrationMoveDone 0 .badCheck) strayState = strayState.finish (strayState.moveDone strayMove .badCheck) := by
  simp only [exec, execMigrationMoveDone]
  rfl

/-- Refutes O28: a copy that does not read back right gives its frame to the Farrier only where an entry names the moved block.
In `strayState` the block is in its place and not lost, but no sequence has an entry for it: the move's end frees the copy and
retires nothing, while the statement wants the frame among the retired ones. (The statement's hypotheses ask only that every namer's
sequence is live, which holds where there is none.) -/
theorem not_heatAndMigration : ¬ Obligations.HeatAndMigration := by
  unfold Obligations.HeatAndMigration
  rintro ⟨-, -, -, -, hdone⟩
  obtain ⟨-, -, hmoved, -⟩ := hdone 0 strayState strayMove strayBlock rfl rfl
  have hanswer := (hmoved (fun _ _ => List.not_mem_nil) rfl rfl rfl (fun _ => nofun) rfl).2 .badCheck (by decide)
  rw [exec_migrationMoveDone_stray] at hanswer
  obtain ⟨m, -, hretired, -⟩ := answers_of_finish hanswer
  have hnone : (strayState.moveDone strayMove .badCheck).store.retired = [] :=
    State.retired_moveDone_of_namers_nil rfl _
  exact absurd (hnone ▸ hretired) List.not_mem_nil

end Sys2Proof.Machine
end

section
/-! SUPPORT. What keeps the operations in flight: all but an operation's count of open commits and the clusters of its units. -/

namespace Sys2Proof.Machine

/-- A fold keeps what each of its steps keeps. -/
theorem foldl_keeps {σ β γ : Type} {g : σ → γ} {f : σ → β → σ} (h : ∀ t x, g (f t x) = g t) (xs : List β) (s : σ) :
    g (xs.foldl f s) = g s := by
  induction xs generalizing s with
  | nil => rfl
  | cons x xs ih => rw [List.foldl_cons, ih, h]

/-! ### The lasting part of an operation -/

/-- A unit but for the clusters that it has taken. -/
def WorkUnit.core (u : WorkUnit) : WorkUnit := { u with clusters := [] }

/-- A step's work but for the clusters of its units. -/
def StepWork.core (w : StepWork) : StepWork := { w with units := w.units.map WorkUnit.core }

/-- An operation but for its count of open commits and the clusters of its units. -/
def Op.core (o : Op) : Op := { o with parts := 0, step := o.step.map StepWork.core }

/-- The lasting parts of the operations in flight. -/
def State.opCores (s : State) : List Op := s.eng.ops.map Op.core

section
variable {s t : State} {o : Op}

theorem State.opCores_of_eng (h : t.eng = s.eng) : t.opCores = s.opCores := by rw [State.opCores, h, State.opCores]

theorem State.op_core_of_opCores (h : t.opCores = s.opCores) (i : Nat) : (t.op i).map Op.core = (s.op i).map Op.core := by
  have hfind (x : State) : (x.op i).map Op.core = x.opCores.find? (·.id == i) := by
    rw [State.opCores, List.find?_map]
    rfl
  rw [hfind, hfind, h]

theorem State.op_of_opCores {i : Nat} (h : t.opCores = s.opCores) (ho : s.op i = some o) :
    ∃ o', t.op i = some o' ∧ o'.core = o.core := by
  have hmap := State.op_core_of_opCores h i
  rw [ho] at hmap
  simpa using hmap

theorem State.opCores_modOp {i : Nat} {f : Op → Op} (h : ∀ x, (f x).core = x.core) : (s.modOp i f).opCores = s.opCores :=
  map_updateFirst fun x _ => h x

theorem State.op_modOp {i : Nat} {f : Op → Op} (ho : s.op i = some o) (hf : (f o).id = o.id) : (s.modOp i f).op i = some (f o) := by
  refine find?_updateFirst ho ?_
  rw [hf]
  exact (List.find?_eq_some_iff_append.mp ho).1

theorem State.op_modOp_of_ne {i j : Nat} {f : Op → Op} (h : i ≠ j) (hf : ∀ x, (f x).id = x.id) : (s.modOp i f).op j = s.op j := by
  refine find?_updateFirst_of_disjoint fun x hx => ?_
  obtain rfl : x.id = i := by simpa using hx
  exact ⟨by simpa using h, by simpa [hf] using h⟩

theorem State.op_id {i : Nat} (ho : s.op i = some o) : o.id = i := by simpa using List.find?_some ho

end

/-! ### An operation that a fault has ended -/

/-- The operation's step has ended with a status: no unit of it is left (R119, R126). -/
def Op.Broken (status : Nat) (o : Op) : Prop := o.status = status ∧ ∀ w, o.step = some w → w.units = []

theorem Op.Broken.of_core {status : Nat} {o o' : Op} (h : o.Broken status) (hc : o'.core = o.core) : o'.Broken status := by
  obtain ⟨hstatus, hunits⟩ := h
  have hstep : o'.step.map StepWork.core = o.step.map StepWork.core := congrArg Op.step hc
  refine ⟨(congrArg Op.status hc).trans hstatus, fun w hw => ?_⟩
  rw [hw] at hstep
  obtain ⟨v, hv, hcore⟩ := Option.map_eq_some_iff.mp hstep.symm
  have hnil : w.units.map WorkUnit.core = v.units.map WorkUnit.core := (congrArg StepWork.units hcore).symm
  simpa [hunits v hv] using hnil

theorem State.broken_of_opCores {s t : State} {i status : Nat} (h : t.opCores = s.opCores)
    (hs : ∃ o, s.op i = some o ∧ o.Broken status) : ∃ o, t.op i = some o ∧ o.Broken status := by
  obtain ⟨o, ho, hb⟩ := hs
  obtain ⟨o', ho', hc⟩ := State.op_of_opCores h ho
  exact ⟨o', ho', hb.of_core hc⟩

/-! ### Directories, pages and their tags -/

section
variable (s : State)

@[simp] theorem State.opCores_ktbInvalidate (d : Nat) (pages : List Nat) : (s.ktbInvalidate d pages).opCores = s.opCores := rfl
@[simp] theorem State.opCores_modCluster (die phys : Nat) (f : Cluster → Cluster) :
    (s.modCluster die phys f).opCores = s.opCores := rfl
@[simp] theorem State.opCores_modSeq (d : Nat) (f : Seq → Seq) : (s.modSeq d f).opCores = s.opCores := rfl
@[simp] theorem State.opCores_modBlock (n : Nat) (f : Block → Block) : (s.modBlock n f).opCores = s.opCores := rfl
@[simp] theorem State.opCores_note (e : ErrRep) : (s.note e).opCores = s.opCores :=
  State.opCores_of_eng ((State.note_same ..).eng.eq rfl)
@[simp] theorem State.opCores_resealPage (d page : Nat) : (s.resealPage d page).opCores = s.opCores :=
  State.opCores_of_eng ((State.resealPage_same ..).eng.eq rfl)
@[simp] theorem State.opCores_resealL1 (d : Nat) : (s.resealL1 d).opCores = s.opCores :=
  State.opCores_of_eng ((State.resealL1_same ..).eng.eq rfl)
@[simp] theorem State.opCores_resealDescPage (q : Seq) : (s.resealDescPage q).opCores = s.opCores :=
  State.opCores_of_eng ((State.resealDescPage_same ..).eng.eq rfl)
@[simp] theorem State.opCores_freeOld (block desc generation paddock : Nat) (p : Place) :
    (s.freeOld block desc generation paddock p).opCores = s.opCores :=
  State.opCores_of_eng ((State.freeOld_same ..).eng.eq rfl)
@[simp] theorem State.opCores_refuseBlock (q : Seq) (layer block : Nat) : (s.refuseBlock q layer block).opCores = s.opCores :=
  State.opCores_of_eng ((State.refuseBlock_same ..).eng.eq rfl)
@[simp] theorem State.opCores_moveTable (q : Seq) (i bytes align : Nat) (hit : Bool) :
    (s.moveTable q i bytes align hit).opCores = s.opCores :=
  State.opCores_of_eng ((State.moveTable_same ..).eng.eq rfl)
@[simp] theorem State.opCores_moveMeta (q : Seq) (bytes align : Nat) (put : Nat → Seq → Seq) :
    (s.moveMeta q bytes align put).opCores = s.opCores :=
  State.opCores_of_eng ((State.moveMeta_same ..).eng.eq rfl)
@[simp] theorem State.opCores_stopFrame (frame : Nat) : (s.stopFrame frame).opCores = s.opCores :=
  State.opCores_of_eng ((State.stopFrame_same ..).eng.eq rfl)
@[simp] theorem State.opCores_recordFrame (frame : Nat) : (s.recordFrame frame).opCores = s.opCores :=
  State.opCores_of_eng ((State.recordFrame_same ..).eng.eq rfl)
@[simp] theorem State.opCores_poisonFrame (frame line n : Nat) : (s.poisonFrame frame line n).opCores = s.opCores :=
  State.opCores_of_eng ((State.poisonFrame_same ..).eng.eq rfl)
@[simp] theorem State.opCores_sendCommit (qpn length : Nat) (c : Commit) : (s.sendCommit qpn length c).opCores = s.opCores :=
  State.opCores_of_eng ((State.sendCommit_same ..).eng.eq rfl)
@[simp] theorem State.opCores_modStream (i : Nat) (f : Stream → Stream) : (s.modStream i f).opCores = s.opCores := rfl
@[simp] theorem State.opCores_ensureStream (partner paddock : Nat) : (s.ensureStream partner paddock).opCores = s.opCores :=
  State.opCores_of_eng ((State.ensureStream_same ..).eng.eq rfl)

@[simp] theorem State.opCores_reseal (d : Nat) : (s.reseal d).opCores = s.opCores := by
  rw [State.reseal]
  split
  · rfl
  · dsimp only
    split
    · rfl
    · split
      · rfl
      · rw [State.opCores_resealL1, foldl_keeps fun _ _ => State.opCores_resealPage .., State.opCores_ktbInvalidate]

@[simp] theorem State.opCores_resealNamers (n : Nat) : (s.resealNamers n).opCores = s.opCores :=
  foldl_keeps (fun _ _ => State.opCores_reseal ..) ..

end

/-! ### A pair's sending side -/

theorem State.opCores_pumpStreamFuel (i fuel : Nat) (s : State) : (State.pumpStreamFuel i fuel s).opCores = s.opCores := by
  induction fuel generalizing s with
  | zero => rfl
  | succ fuel ih =>
    rw [State.pumpStreamFuel]
    split
    · rfl
    · split
      · split
        · rfl
        · dsimp only
          split
          · rw [ih, State.opCores_modStream]
          · split
            · rfl
            · rw [ih, State.opCores_sendCommit]
              split
              · rfl
              · exact State.opCores_modOp fun _ => rfl
      · rfl

section
variable (s : State)

@[simp] theorem State.opCores_queueRecords (partner paddock op : Nat) (records : List Bytes) :
    (s.queueRecords partner paddock op records).opCores = s.opCores := by
  rw [State.queueRecords]
  split
  · rfl
  · dsimp only
    split
    · exact State.opCores_ensureStream ..
    · rw [State.pumpStream]
      split
      · rw [State.opCores_modStream, State.opCores_ensureStream]
      · rw [State.opCores_pumpStreamFuel, State.opCores_modStream, State.opCores_ensureStream]

@[simp] theorem State.opCores_restoreRange (q : Seq) (layer layers head block count : Nat) :
    (s.restoreRange q layer layers head block count).opCores = s.opCores := State.opCores_queueRecords ..

@[simp] theorem State.opCores_restoreReq (q : Seq) (layer head block : Nat) :
    (s.restoreReq q layer head block).opCores = s.opCores := by
  rw [State.restoreReq]
  split
  · rfl
  · rw [State.opCores_restoreRange, State.opCores_refuseBlock]

/-! ### Losses and retired frames -/

theorem State.opCores_allocT1 {s t : State} {slice paddock shift units : Nat} {p : Place}
    (h : s.allocT1 slice paddock shift units = some (p, t)) : t.opCores = s.opCores :=
  State.opCores_of_eng (((State.allocT1_same s slice paddock shift units).of _ h).eng.eq rfl)

@[simp] theorem State.opCores_losePages (q : Seq) (pages : List Nat) (address : Nat) :
    (s.losePages q pages address).opCores = s.opCores := by
  rw [State.losePages]
  rw [foldl_keeps fun _ _ => State.opCores_restoreReq .., State.opCores_note]
  split <;> simp

@[simp] theorem State.opCores_loseSeq (q : Seq) (address : Nat) : (s.loseSeq q address).opCores = s.opCores := by
  rw [State.loseSeq]
  split
  · rfl
  · simp [State.restoreAll]

@[simp] theorem State.opCores_relocateBlock (b : Block) : (s.relocateBlock b).opCores = s.opCores := by
  rw [State.relocateBlock]
  split
  · rfl
  · split
    · rfl
    · split
      · simp
      · split
        · rfl
        · next halloc =>
          simp [State.opCores_allocT1 halloc]

@[simp] theorem State.opCores_relocateTail (q : Seq) (e : Entry) (x : TailSlot) : (s.relocateTail q e x).opCores = s.opCores := by
  rw [State.relocateTail]
  split
  · rfl
  · split
    · simp
    · split
      · rfl
      · next halloc =>
        simp [State.opCores_allocT1 halloc]

@[simp] theorem State.opCores_relocateMeta (q : Seq) (frame : Nat) : (s.relocateMeta q frame).opCores = s.opCores := by
  rw [State.relocateMeta]
  split
  · rfl
  · extract_lets here base run badL1 s1 s2 s3 tables s4 s5 s6 s7 s8
    have h1 : s1.opCores = s.opCores := foldl_keeps (fun _ _ => State.opCores_losePages ..) ..
    have h2 : s2.opCores = s1.opCores := State.opCores_moveTable ..
    have h3 : s3.opCores = s2.opCores := foldl_keeps (fun t p => by
      split
      · rfl
      · split
        · exact State.opCores_losePages ..
        · exact State.opCores_moveMeta ..) ..
    have h4 : s4.opCores = s3.opCores := by
      dsimp only [s4]
      split
      · exact State.opCores_loseSeq ..
      · rfl
    have h5 : s5.opCores = s4.opCores := State.opCores_moveTable ..
    have h6 : s6.opCores = s5.opCores := State.opCores_moveTable ..
    have h7 : s7.opCores = s6.opCores := State.opCores_moveTable ..
    have h8 : s8.opCores = s7.opCores := by
      dsimp only [s8]
      split <;> rfl
    have hlast := h8.trans (h7.trans (h6.trans (h5.trans (h4.trans (h3.trans (h2.trans h1))))))
    split
    · exact (State.opCores_resealL1 ..).trans hlast
    · exact hlast

@[simp] theorem State.opCores_relocateFrame (frame : Nat) : (s.relocateFrame frame).opCores = s.opCores := by
  rw [State.relocateFrame]
  rw [foldl_keeps fun _ _ => State.opCores_relocateMeta ..]
  refine (foldl_keeps (fun t q => foldl_keeps (fun t e => ?_) ..) ..).trans ?_
  · split
    · split
      · exact State.opCores_relocateTail ..
      · rfl
    · rfl
  · rw [foldl_keeps fun _ _ => State.opCores_relocateBlock ..]

@[simp] theorem State.opCores_retireFrame (frame : Nat) : (s.retireFrame frame).opCores = s.opCores := by
  simp [State.retireFrame]

@[simp] theorem State.opCores_eccDomain (paddock unit frame : Nat) : (s.eccDomain paddock unit frame).opCores = s.opCores := by
  rw [State.eccDomain]
  split
  · rfl
  · simp

@[simp] theorem State.opCores_loseFrameOf (address : Nat) : (s.loseFrameOf address).opCores = s.opCores := by
  rw [State.loseFrameOf, State.opCores_retireFrame]
  split
  · exact State.opCores_eccDomain ..
  · rfl

@[simp] theorem State.opCores_markPageLost (d page : Nat) : (s.markPageLost d page).opCores = s.opCores := by
  rw [State.markPageLost]
  split
  · rfl
  · simp

@[simp] theorem State.opCores_markLost (d layer head block : Nat) : (s.markLost d layer head block).opCores = s.opCores := by
  rw [State.markLost]
  split
  · rfl
  · split
    · rfl
    · next e _ =>
      extract_lets place s1 s2 s3 s4
      have h1 : s1.opCores = s.opCores := by
        dsimp only [s1]
        split <;> rfl
      have h2 : s2.opCores = s1.opCores := by
        dsimp only [s2]
        split
        · exact State.opCores_reseal ..
        · exact State.opCores_resealNamers ..
      have h3 : s3.opCores = s2.opCores := State.opCores_note ..
      have h4 : s4.opCores = s3.opCores := by
        dsimp only [s4]
        split
        · rfl
        · exact State.opCores_retireFrame ..
      exact (State.opCores_restoreReq ..).trans (h4.trans (h3.trans (h2.trans h1)))

/-! ### Units and their clusters -/

@[simp] theorem State.opCores_settleDrains : s.settleDrains.opCores = s.opCores :=
  foldl_keeps (fun t k => by
    dsimp only
    split
    · split
      · rfl
      · split <;> rfl
    · rfl) ..

@[simp] theorem State.opCores_putUnit (op index : Nat) (cs : List (Nat × Nat)) : (s.putUnit op index cs).opCores = s.opCores := by
  refine State.opCores_modOp fun o => ?_
  have hunits (w : StepWork) :
      ({ w with units := updateFirst (·.index == index) (fun u => { u with clusters := cs }) w.units } : StepWork).core = w.core :=
    congrArg (fun us => ({ w with units := us } : StepWork)) (map_updateFirst fun _ _ => rfl)
  rw [Op.core, Op.core, Option.map_map]
  exact congrArg (fun f => ({ o with parts := 0, step := o.step.map f } : Op)) (funext hunits)

@[simp] theorem State.opCores_placeUnits (op : Nat) (is : List Nat) : (State.placeUnits op is s).1.opCores = s.opCores := by
  induction is generalizing s with
  | nil => rfl
  | cons i is ih =>
    rw [State.placeUnits]
    split
    · rfl
    · split
      · exact ih s
      · split
        · exact ih s
        · split
          · rfl
          · split
            · rfl
            · exact (ih _).trans (State.opCores_putUnit ..)

@[simp] theorem State.opCores_placeOps (is full : List Nat) (gated : List (Nat × Nat × Nat)) :
    (State.placeOps is full gated s).opCores = s.opCores := by
  induction is generalizing s full gated with
  | nil => rfl
  | cons i is ih =>
    rw [State.placeOps]
    split
    · exact ih ..
    · dsimp only
      split
      · exact ih ..
      · split <;> exact (ih ..).trans (State.opCores_placeUnits ..)

@[simp] theorem State.opCores_markIdle : s.markIdle.opCores = s.opCores := rfl

@[simp] theorem State.opCores_afterUnits : s.afterUnits.opCores = s.opCores := by
  simp [State.afterUnits, State.place]

end

/-! ### Steps that end -/

section
variable {s : State} {o : Op}

@[simp] theorem State.op_markIdle (i : Nat) : s.markIdle.op i = s.op i := rfl

/-- Dropping an append changes its own operation alone, and of that nothing but the effect and how far the commit has come. -/
theorem State.op_dropAppend (ho : s.op o.id = some o) :
    ∃ e c, (s.dropAppend o).op o.id = some { o with effect := e, commit := c } := by
  rw [State.dropAppend]
  split
  · exact ⟨o.effect, o.commit, ho⟩
  · split
    · exact ⟨_, _, State.op_modOp (by exact ho) rfl⟩
    · exact ⟨.none, o.commit, State.op_modOp ho rfl⟩

theorem State.op_dropAppend_of_ne {j : Nat} (h : o.id ≠ j) : (s.dropAppend o).op j = s.op j := by
  rw [State.dropAppend]
  split
  · rfl
  · split
    · exact State.op_modOp_of_ne h fun _ => rfl
    · exact State.op_modOp_of_ne h fun _ => rfl

/-- A step without a fault so far ends with the status that it is given (R119, R126). -/
theorem State.op_breakStep {i status : Nat} (ho : s.op i = some o) (hstatus : o.status = St.ok) :
    ∃ x, (s.breakStep i status).op i = some x ∧ x.Broken status := by
  obtain rfl := State.op_id ho
  have hdropped : (s.dropHeld (HeldWork.readOf o.id)).op o.id = some o := ho
  obtain ⟨e, c, hop⟩ := State.op_dropAppend hdropped
  rw [State.breakStep, ho]
  dsimp only
  rw [if_pos (by simp [hstatus])]
  refine ⟨_, State.op_modOp hop rfl, rfl, fun w hw => ?_⟩
  obtain ⟨v, -, rfl⟩ := Option.map_eq_some_iff.mp hw
  rfl

theorem State.breakStep_of_status {i status : Nat} (ho : s.op i = some o) (hstatus : o.status ≠ St.ok) :
    s.breakStep i status = s := by
  rw [State.breakStep, ho]
  dsimp only
  rw [if_neg (by simpa using hstatus)]

theorem State.op_breakStep_of_ne {i j status : Nat} (h : i ≠ j) : (s.breakStep i status).op j = s.op j := by
  rw [State.breakStep]
  split
  · rfl
  · next x hx =>
    obtain rfl := State.op_id hx
    split
    · refine (State.op_modOp_of_ne h ?_).trans (State.op_dropAppend_of_ne h)
      exact fun _ => rfl
    · rfl

theorem State.broken_breakStep {i j status : Nat} (hne : status ≠ St.ok) (hs : ∃ x, s.op j = some x ∧ x.Broken status) :
    ∃ x, (s.breakStep i status).op j = some x ∧ x.Broken status := by
  obtain ⟨x, hx, hb⟩ := hs
  by_cases hij : i = j
  · subst hij
    have hstatus : x.status ≠ St.ok := by rwa [hb.1]
    rw [State.breakStep_of_status hx hstatus]
    exact ⟨x, hx, hb⟩
  · rw [State.op_breakStep_of_ne hij]
    exact ⟨x, hx, hb⟩

theorem foldl_breakStep_broken {status : Nat} (hne : status ≠ St.ok) (hstatus : o.status = St.ok) {hit : List Op}
    (hs : (s.op o.id = some o ∧ o ∈ hit) ∨ ∃ x, s.op o.id = some x ∧ x.Broken status) :
    ∃ x, (hit.foldl (fun t o => t.breakStep o.id status) s).op o.id = some x ∧ x.Broken status := by
  induction hit generalizing s with
  | nil =>
    rcases hs with ⟨-, hmem⟩ | hs
    · cases hmem
    · exact hs
  | cons y ys ih =>
    refine ih ?_
    rcases hs with ⟨ho, hmem⟩ | hs
    · by_cases hy : y.id = o.id
      · have hbroken := State.op_breakStep (i := y.id) (status := status) (hy ▸ ho) hstatus
        exact .inr (hy ▸ hbroken)
      · refine .inl ⟨(State.op_breakStep_of_ne hy).trans ho, ?_⟩
        exact (List.mem_cons.mp hmem).resolve_left fun h => hy (congrArg Op.id h).symm
    · exact .inr (State.broken_breakStep hne hs)

/-- Every admitted step that the test selects ends with the status. -/
theorem State.op_breakSteps {p : Op → Bool} {status : Nat} (ho : s.op o.id = some o) (hstep : o.step.isSome = true)
    (hphase : o.phase = .admitted) (hstatus : o.status = St.ok) (hp : p o = true) (hne : status ≠ St.ok) :
    ∃ x, (s.breakSteps p status).op o.id = some x ∧ x.Broken status :=
  foldl_breakStep_broken hne hstatus
    (.inl ⟨ho, List.mem_filter.mpr ⟨List.mem_of_find?_eq_some ho, by simp [hstep, hphase, hp]⟩⟩)

end

end Sys2Proof.Machine
end

section
/-! O6. An Outrider that issues the next read of its unit, and the walk that fills a die's shared KTB. -/

namespace Sys2Proof.Machine

/-! ### Units -/

section
variable {s : State} {o : Op} {w : StepWork} {u : WorkUnit} {i j : Nat}

theorem State.unitOf_eq (ho : s.op i = some o) (hw : o.step = some w) : s.unitOf i j = w.units.find? (·.index == j) := by
  simp [State.unitOf, ho, hw]

theorem State.unitOf_modUnit {f : WorkUnit → WorkUnit} (ho : s.op i = some o) (hw : o.step = some w)
    (hu : w.units.find? (·.index == j) = some u) (hf : (f u).index = u.index) : (s.modUnit i j f).unitOf i j = some (f u) := by
  refine (State.unitOf_eq (State.op_modOp ho rfl) (by rw [hw]; rfl)).trans (find?_updateFirst hu ?_)
  rw [hf]
  exact (List.find?_eq_some_iff_append.mp hu).1

end

/-! ### The steps that read from a page -/

/-- A step that reads from a page without a fault so far ends with the status that the page gives it (R119). -/
theorem State.op_endReaders {s : State} {o : Op} {e : KtbEntry} {status : Nat} (ho : s.op o.id = some o)
    (hphase : o.phase = .admitted) (hstatus : o.status = St.ok) (hneeds : s.needsPage e.desc e.page o = true)
    (hne : status ≠ St.ok) : ∃ x, (s.endReaders e status).op o.id = some x ∧ x.Broken status := by
  have hstep : o.step.isSome = true := by
    cases h : o.step with
    | none => simp [State.needsPage, h] at hneeds
    | some w => rfl
  refine State.broken_of_opCores ?_ (State.op_breakSteps ho hstep hphase hstatus hneeds hne)
  rw [State.endReaders, State.opCores_afterUnits]
  split
  · exact State.opCores_markPageLost ..
  · rfl

theorem State.pageStatus_ne_ok {s : State} {e : KtbEntry} {status : Nat} (h : s.pageStatus e = some status) : status ≠ St.ok := by
  rw [State.pageStatus] at h
  split at h
  · cases h
  · split at h
    · cases h
      decide
    · split at h
      · cases h
      · cases h
        decide

/-- The step of a unit needs the page of the block that the unit issues next. -/
theorem State.needsPage_of_pageKey {s : State} {o : Op} {w : StepWork} {u : WorkUnit} {b : Nat} {e : KtbEntry}
    (hkey : s.pageKey o u.head b = some e) (hw : o.step = some w) (hu : u ∈ w.units) (hb : b ∈ u.toIssue) :
    s.needsPage e.desc e.page o = true := by
  rw [State.pageKey] at hkey
  split at hkey
  · cases hkey
  · next d hd =>
    obtain ⟨q, hq, rfl⟩ := Option.map_eq_some_iff.mp hkey
    simp only [State.needsPage, hd, hw, hq, beq_self_eq_true, Bool.true_and, Option.map_some, Option.getD_some, List.any_eq_true]
    exact ⟨u, hu, b, List.mem_append_left _ hb, beq_self_eq_true _⟩

/-! ### Issuing -/

/-- The cluster whose KTB a walk has touched. -/
def State.walked (s : State) (k : Cluster) (e : KtbEntry) : State :=
  s.modCluster k.die k.phys fun x => { x with ktb := touchLru 64 e x.ktb }

/-- The next read of a unit, issued. -/
def State.issued (s : State) (k : Cluster) (o : Op) (u : WorkUnit) (b : Nat) (rest : List Nat) : State :=
  (s.modUnit o.id u.index fun u => { u with toIssue := rest, outstanding := u.outstanding ++ [b] }).modCluster k.die k.phys
    fun y => { y with lastUnit := some (o.id, u.index) }

section
variable {s : State} {k : Cluster} {o : Op} {w : StepWork} {u : WorkUnit} {b : Nat} {rest : List Nat} {e : KtbEntry}

theorem State.walk_of_own (h : k.ktb.contains e = true) : s.walk k e = some (s.walked k e) := by
  simp only [State.walk, h, Bool.true_or, if_true]
  rfl

theorem State.walk_of_neither (h : k.ktb.contains e = false) (hs : s.eng.sharedKtb.contains (k.die, e) = false) :
    s.walk k e = none := by
  rw [State.walk, h, hs]
  rfl

theorem State.issueFor_eq (hissue : u.toIssue = b :: rest) (hkey : s.pageKey o u.head b = some e)
    (hroom : ∀ c ∈ u.clusters, s.blockArea c + ceilDiv (w.readBytes u.head b) 512 ≤ 5120) :
    s.issueFor k (o, w, u) = (s.walk k e).map fun t =>
      match t.pageStatus e with
      | some status => t.endReaders e status
      | none =>
        let t := t.issued k o u b rest
        let cs := t.readChannels o w u.head b
        if t.mustHold cs then t.hold (.read o.id u.run u.head b) cs else t := by
  have hfits : (u.clusters.any fun c => decide (5120 < s.blockArea c + ceilDiv (w.readBytes u.head b) 512)) = false := by
    simpa using hroom
  simp only [State.issueFor, hissue, hkey, hfits]
  rfl

/-- With one unit to fetch for, whose turn it is does not matter. -/
theorem rotate_singleton {α : Type} (x : α) (n : Nat) : [x].drop n ++ [x].take n = [x] := by
  cases n <;> simp

theorem exec_outriderReadIssue {die cluster : Nat} (hk : s.clusterOf die cluster = some k)
    (hled : s.ledUnits (die, cluster) = [(o, w, u)]) (hout : u.outstanding.length < 512) :
    exec (.outriderReadIssue die cluster) s =
      if k.k ≠ .k0 then .next s else s.finish ((s.issueFor k (o, w, u)).getD s) := by
  have hfew : ¬ 512 ≤ sumNat ([(o, w, u)].map fun x => x.2.2.outstanding.length) := by simpa [sumNat] using hout
  simp only [exec, execOutriderReadIssue, hk, hled, rotate_singleton, decide_eq_false hfew, Bool.false_or, decide_eq_true_eq]
  split
  · rfl
  · simp

end

theorem outriderIssuesReadsInBlockOrder : Claims.OutriderIssuesReadsInBlockOrder := by
  intro die cluster s k o w u b rest e hk hled ho hw hu hissue hout hkey hroom
  rw [exec_outriderReadIssue hk hled hout, State.issueFor_eq hissue hkey hroom]
  refine ⟨fun hasleep => if_pos hasleep, fun hawake hown hgood => ?_, fun hawake hown hphase hstatus status hbad => ?_,
    fun hown hshared => ?_⟩
  · rw [if_neg (not_not.mpr hawake), State.walk_of_own hown, Option.map_some, Option.getD_some]
    have hgood' : (s.walked k e).pageStatus e = none := hgood
    rw [hgood']
    dsimp only
    have hunit : ((s.walked k e).issued k o u b rest).unitOf o.id u.index =
        some { u with toIssue := rest, outstanding := u.outstanding ++ [b] } :=
      State.unitOf_modUnit (s := s.walked k e) ho hw hu rfl
    have hchannels : ((s.walked k e).issued k o u b rest).readChannels o w u.head b = s.readChannels o w u.head b := rfl
    have hheld (cs : List (Nat × Nat)) : ((s.walked k e).issued k o u b rest).mustHold cs = s.mustHold cs := rfl
    rw [hchannels, hheld]
    cases hhold : s.mustHold (s.readChannels o w u.head b) with
    | true =>
      exact answers_finish fun m => ⟨hunit, nofun, fun _ => ⟨_, List.mem_append_right _ (List.mem_singleton_self _), rfl, rfl⟩,
        rfl, rfl, rfl⟩
    | false => exact answers_finish fun m => ⟨hunit, fun _ => rfl, nofun, rfl, rfl, rfl⟩
  · rw [if_neg (not_not.mpr hawake), State.walk_of_own hown, Option.map_some, Option.getD_some]
    have hbad' : (s.walked k e).pageStatus e = some status := hbad
    have hneeds : (s.walked k e).needsPage e.desc e.page o = true :=
      State.needsPage_of_pageKey (s := s) hkey hw (List.mem_of_find?_eq_some hu) (by simp [hissue])
    rw [hbad']
    exact answers_finish fun m => State.op_endReaders (s := s.walked k e) ho hphase hstatus hneeds (State.pageStatus_ne_ok hbad)
  · rw [State.walk_of_neither hown hshared, Option.map_none, Option.getD_none, State.finish_self]
    exact ite_self _

/-! ### Walks -/

section
variable {s : State} {q : Seq} {y : DirPage} {die paddock seq page : Nat}

theorem exec_walkFillDone (hq : s.findSeq paddock seq = some q) (hy : q.pages.find? (·.index == page) = some y)
    (r : ReadOutcome) :
    exec (.walkFillDone die paddock seq page r) s =
      if s.mustHold (s.walkChannels q y) then .next (s.holdOnce (.walk die paddock seq page r) (s.walkChannels q y))
      else s.finish (s.walkFill die q y r) := by
  have hpage : s.walkPage paddock seq page = some (q, y) := by simp [State.walkPage, hq, hy]
  simp only [exec, execWalkFillDone, hpage]

theorem State.findSeq_paddock (hq : s.findSeq paddock seq = some q) : q.paddock = paddock := by
  have hkey := (List.find?_eq_some_iff_append.mp hq).1
  simp only [Bool.and_eq_true, beq_iff_eq] at hkey
  obtain ⟨⟨hpaddock, -⟩, -⟩ := hkey
  exact hpaddock

theorem State.mem_sharedKtb_fillKtb (e : KtbEntry) : (die, e) ∈ (s.fillKtb die e).eng.sharedKtb :=
  List.mem_append_right _ (List.mem_append_right _ (List.mem_singleton_self _))

theorem State.ops_store_foldl_fillKtb (f : Nat → KtbEntry) (pages : List Nat) :
    (pages.foldl (fun t p => t.fillKtb die (f p)) s).eng.ops = s.eng.ops ∧
      (pages.foldl (fun t p => t.fillKtb die (f p)) s).store = s.store :=
  have hops (t : State) (p : Nat) : (t.fillKtb die (f p)).eng.ops = t.eng.ops := rfl
  have hstore (t : State) (p : Nat) : (t.fillKtb die (f p)).store = t.store := rfl
  ⟨foldl_keeps (g := fun t : State => t.eng.ops) hops pages s, foldl_keeps hstore pages s⟩

/-- What is held once is held. -/
theorem State.exists_held_holdOnce (w : HeldWork) (xs : List (Nat × Nat)) : ∃ h ∈ (s.holdOnce w xs).store.held, h.work = w := by
  rw [State.holdOnce]
  split
  · next hany =>
    obtain ⟨h, hmem, hw⟩ := List.any_eq_true.mp hany
    exact ⟨h, hmem, by simpa using hw⟩
  · exact ⟨_, List.mem_append_right _ (List.mem_singleton_self _), rfl⟩

theorem State.seqs_holdOnce (w : HeldWork) (xs : List (Nat × Nat)) : (s.holdOnce w xs).store.seqs = s.store.seqs := by
  rw [State.holdOnce]
  split <;> rfl

/-- A walk whose L1 page and directory page verify fills the shared KTB with the page, in a sealed paddock after those beside it. -/
theorem State.walkFill_of_verified (hlost : y.lost = false) (hl1 : s.l1Ok q (y.index / 127) = true) (hok : s.walkOk q y = true) :
    ∃ beside : List Nat, s.walkFill die q y .good =
      (beside.foldl (fun t p => t.fillKtb die ⟨q.paddock, q.desc, q.generation, p⟩) s).fillKtb die
        ⟨q.paddock, q.desc, q.generation, y.index⟩ := by
  refine ⟨if q.sealed then
    (q.pages.filter fun x => x.index / 127 == y.index / 127 && x.index != y.index && !x.lost).map (·.index) else [], ?_⟩
  simp only [State.walkFill, hlost, hl1, hok, Bool.false_eq_true, if_false, Bool.not_true, Bool.and_true, decide_true, if_true,
    List.foldl_append, List.foldl_cons, List.foldl_nil]

end

theorem walkFillsTheSharedKtb : Claims.WalkFillsTheSharedKtb := by
  intro die paddock seq page s q y hq hy
  rw [exec_walkFillDone hq hy]
  obtain rfl : y.index = page := by simpa using List.find?_some hy
  obtain rfl := State.findSeq_paddock hq
  refine ⟨fun hhold => ?_, fun hfree hlost hl1 hok => ?_, fun hfree hlost => ?_⟩
  · rw [if_pos hhold]
    exact answers_next ⟨State.exists_held_holdOnce .., State.seqs_holdOnce .., (State.holdOnce_same ..).eng.eq rfl⟩
  · obtain ⟨beside, hfill⟩ := State.walkFill_of_verified (die := die) hlost hl1 hok
    rw [if_neg (by simp [hfree]), hfill]
    obtain ⟨hops, hstore⟩ := State.ops_store_foldl_fillKtb (s := s) (die := die)
      (fun p => ⟨q.paddock, q.desc, q.generation, p⟩) beside
    exact answers_finish fun m => ⟨State.mem_sharedKtb_fillKtb _, hops, hstore⟩
  · rw [if_neg (by simp [hfree])]
    have hfill : s.walkFill die q y .good = s.endReaders ⟨q.paddock, q.desc, q.generation, y.index⟩ St.lostBlocks := by
      simp only [State.walkFill, hlost, if_true]
    rw [hfill]
    exact answers_finish fun m o ho hphase hstatus hneeds => State.op_endReaders ho hphase hstatus hneeds (by decide)

/-- Settles O6: the issue and the walk are written out for the one unit and the one page of the statement; that a page's fault
ends every step that reads from it is an invariant of the fold over those steps, and what follows the fault keeps the ends. -/
theorem outridersReadTheirBlocks : Obligations.OutridersReadTheirBlocks := by
  unfold Obligations.OutridersReadTheirBlocks
  exact ⟨outriderIssuesReadsInBlockOrder, walkFillsTheSharedKtb⟩

end Sys2Proof.Machine
end

section
/-! O7. A block that has arrived and the leaves that it forms, and a unit's root. -/

namespace Sys2Proof.Machine

/-! ### Units but for their clusters -/

theorem State.unitOf_core (s : State) (i j : Nat) :
    (s.unitOf i j).map WorkUnit.core =
      ((s.op i).map Op.core).bind fun o => o.step.bind fun w => w.units.find? (·.index == j) := by
  rw [State.unitOf]
  cases s.op i with
  | none => rfl
  | some o =>
    cases hw : o.step with
    | none => simp [Op.core, hw]
    | some w =>
      simp only [Option.bind_some, Option.map_some, Op.core, hw, StepWork.core, List.find?_map]
      rfl

theorem State.unitOf_of_opCores {s t : State} {i j : Nat} {u : WorkUnit} (h : t.opCores = s.opCores) (hu : s.unitOf i j = some u) :
    ∃ x, t.unitOf i j = some x ∧ x.core = u.core := by
  have hcore : (t.unitOf i j).map WorkUnit.core = some u.core := by
    rw [State.unitOf_core, State.op_core_of_opCores h, ← State.unitOf_core, hu, Option.map_some]
  simpa using hcore

/-! ### Leaves -/

section
variable {w : StepWork} {run head block : Nat}

theorem StepWork.countRead_scoring : (w.countRead run head block).scoring = w.scoring := by
  rw [StepWork.countRead]
  split <;> rfl

theorem StepWork.countRead_units : (w.countRead run head block).units = w.units := by
  rw [StepWork.countRead]
  split <;> rfl

theorem StepWork.countRead_attn : (w.countRead run head block).attn = w.attn := by
  rw [StepWork.countRead]
  split <;> rfl

theorem StepWork.formLeaves_units : (w.formLeaves head block).units = w.units := by
  rw [StepWork.formLeaves]
  split <;> rfl

theorem StepWork.exists_leaf_formLeaves (h : 0 < w.attn.rowCount) :
    ∃ l ∈ (w.formLeaves head block).leaves, l.head = head ∧ l.block = block := by
  rw [StepWork.formLeaves]
  split
  · next hany =>
    obtain ⟨l, hl, hkey⟩ := List.any_eq_true.mp hany
    exact ⟨l, hl, by simpa using hkey⟩
  · exact ⟨_, List.mem_append_right _ (List.mem_map.mpr ⟨0, List.mem_range.mpr h, rfl⟩), rfl, rfl⟩

theorem StepWork.summaryRead_of_scoring_nil (h : w.scoring = []) : w.summaryRead head block = false := by
  simp [StepWork.summaryRead, h]

/-- A block of a step that scores nothing leaves the outstanding reads of its unit and forms its leaves. -/
theorem StepWork.arrive_of_scoring_nil {u : WorkUnit} (h : w.scoring = []) :
    w.arrive u block =
      ({ w.countRead u.run u.head block with
          units := updateFirst (·.index == u.index) (fun x => { x with outstanding := x.outstanding.filter (· != block) })
            w.units } : StepWork).formLeaves u.head block := by
  rw [StepWork.arrive]
  dsimp only
  rw [StepWork.countRead_scoring, StepWork.countRead_units, h]
  rfl

end

/-! ### A block read that is done -/

section
variable {s : State} {op head block : Nat} {o : Op} {w : StepWork} {u : WorkUnit}

/-- A read of a step that scores nothing, of an object that is not lost: it is no longer held, and the block forms leaves or
the step ends. -/
theorem exec_blockReadDone (ho : s.op op = some o) (hw : o.step = some w)
    (hread : w.units.find? (fun u => u.resident && u.head == head && u.outstanding.contains block) = some u)
    (hscoring : w.scoring = []) (hlost : s.readLost o head block = false)
    (hheld : s.heldBack (.read op u.run head block) = false) (r : ReadOutcome) :
    exec (.blockReadDone op head block r) s =
      if (decide (r = .good) && s.readOk o head block) = true then
        .next (((s.dropHeld (· == .read op u.run head block)).heatUp ((o.desc.map (·.1)).getD 0) o.req.layer head block).modWork op
          fun w => w.arrive u block)
      else
        (s.dropHeld (· == .read op u.run head block)).finish
          ((((s.dropHeld (· == .read op u.run head block)).breakStep op St.integrity).markLost ((o.desc.map (·.1)).getD 0)
            o.req.layer head block).afterUnits) := by
  have hlost' : (s.dropHeld (· == .read op u.run head block)).readLost o head block = false := hlost
  simp only [exec, execBlockReadDone, ho, hw, hread, hheld, StepWork.summaryRead_of_scoring_nil hscoring, hlost',
    Bool.false_eq_true, if_false]
  rfl

theorem State.op_modWork {f : StepWork → StepWork} (ho : s.op op = some o) (hw : o.step = some w) :
    (s.modWork op f).op op = some { o with step := some (f w) } := by
  refine (State.op_modOp ho rfl).trans ?_
  rw [hw, Option.map_some]

end

theorem blockReadFormsLeavesOrBreaksTheStep : Claims.BlockReadFormsLeavesOrBreaksTheStep := by
  intro op head block s o w u ho hw hread hunit hscoring hlost hheld
  rw [exec_blockReadDone ho hw hread hscoring hlost hheld, exec_blockReadDone ho hw hread hscoring hlost hheld]
  obtain rfl : u.head = head := by
    have hkey := (List.find?_eq_some_iff_append.mp hread).1
    simp only [Bool.and_eq_true, beq_iff_eq] at hkey
    exact hkey.1.2
  refine ⟨fun hgood => ?_, fun hstatus => ?_⟩
  · rw [if_pos (by simp [hgood])]
    have hop := State.op_modWork
      (s := (s.dropHeld (· == .read op u.run u.head block)).heatUp ((o.desc.map (·.1)).getD 0) o.req.layer u.head block)
      (f := fun w => w.arrive u block) ho hw
    rw [StepWork.arrive_of_scoring_nil hscoring] at hop
    refine answers_next ⟨?_, ⟨_, _, hop, rfl, fun hrows => StepWork.exists_leaf_formLeaves ?_⟩, rfl⟩
    · rw [State.unitOf_eq hop rfl, StepWork.formLeaves_units]
      exact find?_updateFirst hunit (beq_self_eq_true _)
    · exact (congrArg Attn.rowCount StepWork.countRead_attn).symm ▸ hrows
  · rw [if_neg (by simp)]
    have hbroken := State.op_breakStep (s := s.dropHeld (· == .read op u.run u.head block)) (status := St.integrity) ho hstatus
    refine answers_finish fun m => State.broken_of_opCores ?_ hbroken
    exact (State.opCores_afterUnits ..).trans (State.opCores_markLost ..)

/-! ### Roots -/

section
variable {s : State} {op unit : Nat} {o : Op} {w : StepWork} {u : WorkUnit}

/-- A step without shadow runs has nothing to compare. -/
theorem State.compareRuns_of_run_zero (ho : s.op op = some o) (hw : o.step = some w) (hruns : ∀ x ∈ w.units, x.run = 0) :
    s.compareRuns op u = s := by
  have hnone : w.runOf 1 u = none := by
    refine List.find?_eq_none.mpr fun x hx => ?_
    simp [hruns x hx]
  rw [State.compareRuns, ho, Option.bind_some, hw]
  dsimp only
  rw [hnone]
  cases w.runOf 0 u <;> rfl

theorem mem_updateFirst {α : Type} {p : α → Bool} {f : α → α} {xs : List α} {x : α} (h : x ∈ updateFirst p f xs) :
    x ∈ xs ∨ ∃ y ∈ xs, x = f y := by
  induction xs with
  | nil => cases h
  | cons y ys ih =>
    by_cases hy : p y = true
    · rw [updateFirst, if_pos hy] at h
      rcases List.mem_cons.mp h with rfl | h
      · exact .inr ⟨y, List.mem_cons_self, rfl⟩
      · exact .inl (List.mem_cons_of_mem _ h)
    · rw [updateFirst, if_neg hy] at h
      rcases List.mem_cons.mp h with rfl | h
      · exact .inl List.mem_cons_self
      · exact (ih h).imp (List.mem_cons_of_mem _) fun ⟨z, hz, hx⟩ => ⟨z, List.mem_cons_of_mem _ hz, hx⟩

/-- A unit that is ready delivers its root; without shadow runs nothing is compared. -/
theorem exec_subtreeRootDone (ho : s.op op = some o) (hw : o.step = some w) (hu : w.units.find? (·.index == unit) = some u)
    (hresident : u.resident = true) (hissue : u.toIssue = []) (hout : u.outstanding = []) (hscoring : w.scoring = [])
    (hawake : s.gangAsleep u = false) (hruns : ∀ x ∈ w.units, x.run = 0) :
    exec (.subtreeRootDone op unit false) s =
      s.finish (s.modUnit op unit fun x => { x with rooted := true, roots := w.unitRoots u }).afterUnits := by
  have hready : (w.units.find? fun u => u.index == unit && u.resident && u.toIssue.isEmpty && u.outstanding.isEmpty
      && !(w.scoring.any (·.1 == u.head)) && !s.gangAsleep u) = some u := by
    refine find?_of_stronger hu ?_ fun y hy => ?_
    · have hindex := (List.find?_eq_some_iff_append.mp hu).1
      simp [hindex, hresident, hissue, hout, hscoring, hawake]
    · simp only [Bool.and_eq_true] at hy
      exact hy.1.1.1.1.1
  have hop : (s.modUnit op unit fun x => { x with rooted := true, roots := w.unitRoots u }).op op = _ := State.op_modOp ho rfl
  have hcompare : ∀ x ∈ updateFirst (fun x : WorkUnit => x.index == unit)
      (fun x => { x with rooted := true, roots := w.unitRoots u }) w.units, x.run = 0 := by
    intro x hx
    rcases mem_updateFirst hx with hx | ⟨y, hy, rfl⟩
    · exact hruns x hx
    · exact hruns y hy
  simp only [exec, execSubtreeRootDone, ho, hw, hready]
  rw [State.rootsOf, Bool.not_false, if_pos rfl]
  dsimp only
  rw [State.compareRuns_of_run_zero hop (by rw [hw]; rfl) hcompare]

end

theorem subtreeRootIsTheReferenceRoot : Claims.SubtreeRootIsTheReferenceRoot := by
  intro op unit s o w u ho hw hu hresident hissue hout hscoring _ hawake hruns
  rw [exec_subtreeRootDone ho hw hu hresident hissue hout hscoring hawake hruns]
  have hunit := State.unitOf_modUnit (f := fun x => { x with rooted := true, roots := w.unitRoots u }) ho hw hu rfl
  obtain ⟨x, hx, hcore⟩ := State.unitOf_of_opCores (State.opCores_afterUnits _) hunit
  exact answers_finish fun m => ⟨x, hx, congrArg WorkUnit.rooted hcore, congrArg WorkUnit.roots hcore,
    (congrArg WorkUnit.head hcore :), (congrArg WorkUnit.first hcore :)⟩

/-- Settles O7: the arriving block and the delivered root are changes of the one operation, and whatever follows them (the loss of
the object, the placement of waiting units) keeps every operation but for its open commits and its units' clusters. -/
theorem unitsFormTheReferenceRoot : Obligations.UnitsFormTheReferenceRoot := by
  unfold Obligations.UnitsFormTheReferenceRoot
  exact ⟨blockReadFormsLeavesOrBreaksTheStep, subtreeRootIsTheReferenceRoot⟩

end Sys2Proof.Machine
end

section
/-! SUPPORT. What keeps the entries, lengths, closed blocks and waiting retries of the store, and what a close stores. -/

namespace Sys2Proof.Machine

/-! ### Entries, lengths, blocks and retries -/

/-- What a sequence holds, without the pages, seals and addresses of its metadata. -/
def Seq.bare (q : Seq) : Nat × List Entry × List Nat := (q.desc, q.entries, q.lens)

/-- The entries and lengths of the sequences, the closed blocks, the next block's number and the closes that wait. -/
def State.contents (s : State) : List (Nat × List Entry × List Nat) × List Block × Nat × List (BlockRef × Nat) :=
  (s.store.seqs.map Seq.bare, s.store.blocks, s.store.nextBlock, s.store.retries)

section
variable {s t : State} {d : Nat} {q : Seq}

theorem State.contents_of_store (h : t.store = s.store) : t.contents = s.contents := by
  rw [State.contents, h, State.contents]

theorem State.blocks_of_contents (h : t.contents = s.contents) : t.store.blocks = s.store.blocks :=
  congrArg (fun c => c.2.1) h

theorem State.nextBlock_of_contents (h : t.contents = s.contents) : t.store.nextBlock = s.store.nextBlock :=
  congrArg (fun c => c.2.2.1) h

theorem State.retries_of_contents (h : t.contents = s.contents) : t.store.retries = s.store.retries :=
  congrArg (fun c => c.2.2.2) h

theorem State.block_of_contents (h : t.contents = s.contents) (n : Nat) : t.block n = s.block n := by
  rw [State.block, State.blocks_of_contents h, State.block]

theorem State.seqAt_of_contents (h : t.contents = s.contents) (hq : s.seqAt d = some q) :
    ∃ x, t.seqAt d = some x ∧ x.entries = q.entries ∧ x.lens = q.lens := by
  have hfind (u : State) : (u.seqAt d).map Seq.bare = u.contents.1.find? (·.1 == d) := by
    rw [State.contents, List.find?_map]
    rfl
  have hbare : (t.seqAt d).map Seq.bare = some q.bare := by
    rw [hfind, h, ← hfind, hq, Option.map_some]
  obtain ⟨x, hx, hxq⟩ := Option.map_eq_some_iff.mp hbare
  exact ⟨x, hx, congrArg (fun c => c.2.1) hxq, congrArg (fun c => c.2.2) hxq⟩

theorem State.contents_modSeq {f : Seq → Seq} (h : ∀ x, (f x).bare = x.bare) : (s.modSeq d f).contents = s.contents :=
  congrArg (fun l => (l, s.store.blocks, s.store.nextBlock, s.store.retries)) (map_updateFirst fun x _ => h x)

theorem State.seqAt_modSeq {f : Seq → Seq} (hq : s.seqAt d = some q) (hf : (f q).desc = q.desc) :
    (s.modSeq d f).seqAt d = some (f q) := by
  refine find?_updateFirst hq ?_
  rw [hf]
  exact (List.find?_eq_some_iff_append.mp hq).1

end

section
variable (s : State)

theorem State.contents_note (e : ErrRep) : (s.note e).contents = s.contents :=
  State.contents_of_store ((State.note_same ..).store.eq rfl)

theorem State.contents_version (paddock : Nat) (sealed : Bool) : (s.version paddock sealed).2.contents = s.contents :=
  State.contents_of_store ((State.version_same ..).store.eq rfl)

theorem State.contents_registerPrefix (d k : Nat) : (s.registerPrefix d k).contents = s.contents :=
  State.contents_of_store ((State.registerPrefix_same ..).store.eq rfl)

theorem State.contents_metaWritten (address bytes : Nat) : (s.metaWritten address bytes).contents = s.contents := rfl

theorem State.contents_ktbInvalidate (d : Nat) (pages : List Nat) : (s.ktbInvalidate d pages).contents = s.contents := rfl

theorem State.contents_freePlace (paddock : Nat) (p : Place) : (s.freePlace paddock p).contents = s.contents := by
  obtain ⟨x, -, -, hs⟩ := s.store_freePlace paddock p
  rw [State.contents, hs, State.contents]

theorem State.contents_freeOld (block desc generation paddock : Nat) (p : Place) :
    (s.freeOld block desc generation paddock p).contents = s.contents := by
  rw [State.freeOld]
  dsimp only
  split
  · exact State.contents_freePlace ..
  · rfl

theorem State.contents_resealDescPage (q : Seq) : (s.resealDescPage q).contents = s.contents := by
  rw [State.resealDescPage]
  split
  · rfl
  · exact s.contents_version q.paddock true

theorem State.contents_resealPage (d page : Nat) : (s.resealPage d page).contents = s.contents := by
  rw [State.resealPage]
  split
  · rfl
  · next q _ =>
    dsimp only
    refine (State.contents_modSeq ?_).trans (s.contents_version q.paddock true)
    exact fun _ => rfl

theorem State.contents_resealL1 (d : Nat) : (s.resealL1 d).contents = s.contents := by
  rw [State.resealL1]
  split
  · rfl
  · next q _ =>
    dsimp only
    refine (State.contents_resealDescPage ..).trans ((State.contents_modSeq ?_).trans (s.contents_version q.paddock true))
    exact fun _ => rfl

theorem State.contents_reseal (d : Nat) : (s.reseal d).contents = s.contents := by
  rw [State.reseal]
  split
  · rfl
  · dsimp only
    split
    · rfl
    · split
      · rfl
      · rw [State.contents_resealL1, foldl_keeps fun _ _ => State.contents_resealPage .., State.contents_ktbInvalidate]

end

section
variable {s t : State}

theorem State.contents_allocT1 {slice paddock shift units : Nat} {p : Place} (h : s.allocT1 slice paddock shift units = some (p, t)) :
    t.contents = s.contents :=
  State.contents_of_store (((State.allocT1_same s slice paddock shift units).of _ h).store.eq rfl)

theorem State.contents_allocClosed {q : Seq} {units : Nat} {p : Place} (h : s.allocClosed q units = some (p, t)) :
    t.contents = s.contents :=
  State.contents_of_store (((State.allocClosed_same s q units).of _ h).store.eq rfl)

theorem State.contents_allocMeta {slice paddock bytes align a : Nat} (h : s.allocMeta slice paddock bytes align = some (a, t)) :
    t.contents = s.contents := by
  rw [State.allocMeta] at h
  split at h
  · cases h
  · obtain ⟨x, -, hx⟩ := Option.map_eq_some_iff.mp h
    cases hx
    rfl

theorem State.contents_backPage {d page : Nat} (h : s.backPage d page = some t) : t.contents = s.contents := by
  rw [State.backPage] at h
  split at h
  · cases h
  · split at h
    · cases h
      rfl
    · obtain ⟨⟨a, u⟩, halloc, rfl⟩ := Option.map_eq_some_iff.mp h
      refine (State.contents_modSeq ?_).trans ((State.contents_ktbInvalidate ..).trans (State.contents_allocMeta halloc))
      exact fun _ => rfl

end

/-! ### Entries of a directory -/

theorem Seq.entry_setEntry (q : Seq) (e : Entry) : (q.setEntry e).entry e.layer e.head e.block = some e := by
  have hself : (e.layer == e.layer && e.head == e.head && e.block == e.block) = true := by simp
  rw [Seq.entry, Seq.setEntry]
  dsimp only
  split
  · next hany =>
    obtain ⟨y, hy⟩ := Option.isSome_iff_exists.mp (List.find?_isSome.mpr (List.any_eq_true.mp hany))
    exact find?_updateFirst hy hself
  · next hnone =>
    rw [List.find?_append, List.find?_eq_none.mpr (by simpa using hnone), Option.none_or]
    exact List.find?_cons_of_pos hself

theorem Seq.entry_setEntry_of_ne {q : Seq} {e : Entry} {layer head block : Nat} (h : block ≠ e.block) :
    (q.setEntry e).entry layer head block = q.entry layer head block := by
  have hne : (e.block == block) = false := by simpa using h.symm
  rw [Seq.entry, Seq.setEntry, Seq.entry]
  dsimp only
  split
  · refine find?_updateFirst_of_disjoint fun y hy => ?_
    obtain ⟨-, hblock⟩ := Bool.and_eq_true_iff.mp hy
    obtain hblock : y.block = e.block := by simpa using hblock
    simp [hblock, hne]
  · rw [List.find?_append]
    simp [hne]

/-! ### What a close leaves -/

/-- The store holds a closed block under an entry of a sequence with some lengths, and some closes wait. -/
def State.Holds (s : State) (d layer head block : Nat) (lens : List Nat) (b : Block) (retries : List (BlockRef × Nat)) : Prop :=
  (∃ q e, s.seqAt d = some q ∧ q.entry layer head block = some e ∧ e.slot = .closed b.num ∧ q.lens = lens) ∧
    s.block b.num = some b ∧ s.store.retries = retries

section
variable {s t : State} {d layer head block : Nat} {lens : List Nat} {b : Block} {retries : List (BlockRef × Nat)}

theorem State.Holds.of_contents (h : s.Holds d layer head block lens b retries) (hc : t.contents = s.contents) :
    t.Holds d layer head block lens b retries := by
  obtain ⟨⟨q, e, hq, he, hslot, hlens⟩, hb, hr⟩ := h
  obtain ⟨x, hx, hentries, hxlens⟩ := State.seqAt_of_contents hc hq
  refine ⟨⟨x, e, hx, ?_, hslot, hxlens.trans hlens⟩, (State.block_of_contents hc _).trans hb, (State.retries_of_contents hc).trans hr⟩
  rw [Seq.entry, hentries]
  exact he

theorem State.Holds.setEntry {e : Entry} (h : s.Holds d layer head block lens b retries) (hne : block ≠ e.block) :
    (s.modSeq d fun x => x.setEntry e).Holds d layer head block lens b retries := by
  obtain ⟨⟨q, x, hq, hx, hslot, hlens⟩, hb, hr⟩ := h
  exact ⟨⟨q.setEntry e, x, State.seqAt_modSeq hq rfl, (Seq.entry_setEntry_of_ne hne).trans hx, hslot, hlens⟩, hb, hr⟩

end

section
variable {s t : State} {d layer head block : Nat} {q : Seq}

/-- A new tail slot is an entry of its sequence, and nothing else of the contents. -/
theorem State.newTail_ok (h : s.newTail d layer head block = .ok t) :
    ∃ (u : State) (e : Entry), u.contents = s.contents ∧ e.block = block ∧ t = u.modSeq d fun x => x.setEntry e := by
  rw [State.newTail] at h
  split at h
  · cases h
  · next q _ =>
    split at h
    · cases h
    · next u hu =>
      split at h
      · cases h
      · next p v hv =>
        cases h
        refine ⟨(v.version q.paddock q.sealed).2, _, ?_, ?_, rfl⟩
        · exact (v.contents_version ..).trans ((State.contents_allocT1 hv).trans (State.contents_backPage hu))
        · rfl

/-- The store with one more closed block. -/
def State.addBlock (s : State) (b : Block) : State :=
  { s with store := { s.store with blocks := s.store.blocks ++ [b], nextBlock := b.num + 1 } }

/-- A block that is written closed goes under the next number, held once, and its entry names it. -/
theorem State.writeClosed_ok {close : Bool} {recs : List Bytes} (hq : s.seqAt d = some q)
    (h : s.writeClosed close d layer head block recs = .ok t) :
    ∃ (u : State) (b : Block) (heat : Nat) (pin : Bool), u.contents = s.contents ∧
      t = (u.addBlock b).modSeq d (fun x => x.setEntry ⟨layer, head, block, .closed b.num, heat, false, pin⟩) ∧
      b.num = s.store.nextBlock ∧ b.stored = (storedForm q.shape.recShape (512 * 2 ^ q.granShift) recs).2 ∧ b.refs = 1 ∧
      b.lost = false ∧ b.paddock = q.paddock := by
  rw [State.writeClosed, hq] at h
  dsimp only at h
  split at h
  · cases h
  · next u hu =>
    split at h
    · cases h
    · next p v hv =>
      have hnote : u.contents = s.contents := by
        refine (State.contents_backPage hu).trans ?_
        split
        · exact State.contents_note ..
        · rfl
      have halloc : v.contents = u.contents := by
        split at hv
        · exact State.contents_allocClosed hv
        · exact State.contents_allocT1 hv
      have hversion := (v.contents_version q.paddock q.sealed).trans (halloc.trans hnote)
      cases h
      exact ⟨(v.version q.paddock q.sealed).2, _, _, _, hversion, rfl, State.nextBlock_of_contents hversion, rfl, rfl, rfl, rfl⟩

/-- A new closed block with its entry set is held. -/
theorem State.holds_addBlock {u : State} {b : Block} {heat : Nat} {pin : Bool} (hq : s.seqAt d = some q)
    (hnums : ∀ k ∈ s.store.blocks, k.num < s.store.nextBlock) (hu : u.contents = s.contents) (hb : b.num = s.store.nextBlock) :
    ((u.addBlock b).modSeq d fun x => x.setEntry ⟨layer, head, block, .closed b.num, heat, false, pin⟩).Holds d layer head block
      q.lens b s.store.retries := by
  obtain ⟨y, hy, -, hlens⟩ := State.seqAt_of_contents hu hq
  have hnew : u.store.blocks.find? (·.num == b.num) = none := by
    refine List.find?_eq_none.mpr fun k hk => ?_
    rw [State.blocks_of_contents hu] at hk
    have := hnums k hk
    simp only [beq_iff_eq]
    omega
  have hblock : (u.store.blocks ++ [b]).find? (·.num == b.num) = some b := by
    rw [List.find?_append, hnew, Option.none_or]
    exact List.find?_cons_of_pos (beq_self_eq_true _)
  have hseq : ((u.addBlock b).modSeq d fun x => x.setEntry ⟨layer, head, block, .closed b.num, heat, false, pin⟩).seqAt d =
      some (y.setEntry ⟨layer, head, block, .closed b.num, heat, false, pin⟩) :=
    State.seqAt_modSeq (s := u.addBlock b) hy rfl
  exact ⟨⟨_, _, hseq, Seq.entry_setEntry y _, rfl, hlens⟩, hblock, (State.retries_of_contents hu :)⟩

/-- A close that succeeds leaves the block of the tail's records under the next number, named by the tail's entry. -/
theorem State.closeTail_ok {e : Entry} {x : TailSlot} (hq : s.seqAt d = some q) (he : q.entry layer head block = some e)
    (hslot : e.slot = .tail x) (hfull : x.recs.length = 64) (hnums : ∀ k ∈ s.store.blocks, k.num < s.store.nextBlock)
    (h : s.closeTail d layer head block = .ok t) :
    ∃ b, t.Holds d layer head block q.lens b s.store.retries ∧ b.num = s.store.nextBlock ∧
      b.stored = (storedForm q.shape.recShape (512 * 2 ^ q.granShift) x.recs).2 ∧ b.refs = 1 ∧ b.lost = false ∧
      b.paddock = q.paddock := by
  obtain ⟨l, hd, bk, sl, heat, shared, pinned⟩ := e
  obtain rfl : sl = .tail x := hslot
  rw [State.closeTail, hq] at h
  simp only [he, hfull, lt_irrefl, if_false] at h
  split at h
  · cases h
  · next w hw =>
    obtain ⟨u, b, heat, pin, hu, rfl, hnum, hstored, hrefs, hlost, hpaddock⟩ := State.writeClosed_ok hq hw
    refine ⟨b, ?_, hnum, hstored, hrefs, hlost, hpaddock⟩
    have hheld := State.holds_addBlock (layer := layer) (head := head) (block := block) (heat := heat) (pin := pin) hq hnums hu hnum
    have hfreed (n : Nat) := hheld.of_contents (State.contents_freeOld _ n d q.generation q.paddock x.place)
    split at h
    · cases h
    · next v hv =>
      cases h
      refine State.Holds.of_contents ?_ ((State.contents_registerPrefix ..).trans (State.contents_reseal ..))
      split at hv
      · cases hv
        exact hfreed _
      · obtain ⟨y, e, hy, he, rfl⟩ := State.newTail_ok hv
        exact ((hfreed _).of_contents hy).setEntry (by omega)

end

end Sys2Proof.Machine
end

section
/-! O26. A full tail's close in its turn, its retry, and the deferred free of a relocated block's old place. -/

namespace Sys2Proof.Machine

/-! ### A turn of the scheduler -/

/-- What differs in the schedulers alone is the state with other schedulers. -/
theorem Same.exists_sch {s t : State} (h : Same { sch := true } s t) : ∃ c, t = { s with sch := c } := by
  refine ⟨t.sch, ?_⟩
  rw [State.mk.injEq]
  exact ⟨h.pending, h.out.eq rfl, h.rng.eq rfl, h.time.eq rfl, h.fused, h.farrier.eq rfl, h.power.eq rfl, h.boot.eq rfl,
    h.img.eq rfl, h.regs.eq rfl, h.host.eq rfl, h.log.eq rfl, h.ostlers.eq rfl, h.pads.eq rfl, h.sec.eq rfl, h.net.eq rfl,
    h.maps.eq rfl, h.store.eq rfl, h.eng.eq rfl, rfl, h.leases.eq rfl, h.pwr.eq rfl, h.shr.eq rfl, h.mem.eq rfl⟩

theorem State.takeTurn_eq_sch {s t : State} {slice cls paddock bytes : Nat} {w : Work} {ok : Bool}
    (h : s.takeTurn slice cls paddock w bytes = (t, ok)) : ∃ c, t = { s with sch := c } := by
  have hsame := s.takeTurn_same slice cls paddock w bytes
  rw [h] at hsame
  exact hsame.exists_sch

/-! ### Closing a full tail -/

/-- A block of a live sequence lies full and verified in a tail slot, and the next block's number is new. -/
structure State.FullTail (s : State) (b : BlockRef) (q : Seq) (x : TailSlot) : Prop where
  seq : s.findSeq b.paddock b.seq = some q
  at_ : s.seqAt q.desc = some q
  entry : ∃ e, q.entry b.layer b.head b.block = some e ∧ e.slot = .tail x
  full : x.recs.length = 64
  lost : x.lost = false
  live : q.state = .live
  verifies : s.tailOk q b.layer b.head b.block x = true
  nums : ∀ k ∈ s.store.blocks, k.num < s.store.nextBlock

section
variable {s t : State} {b : BlockRef} {q : Seq} {x : TailSlot}

theorem State.FullTail.with_sch (h : s.FullTail b q x) (c : Scheds) : State.FullTail { s with sch := c } b q x :=
  ⟨h.seq, h.at_, h.entry, h.full, h.lost, h.live, h.verifies, h.nums⟩

theorem State.FullTail.closeInTurn_of_none (h : s.FullTail b q x)
    (ht : s.takeTurn q.slice 1 b.paddock (closeWork b) q.shape.rawBlock = (t, false)) (good : Bool) :
    s.closeInTurn b good = t := by
  obtain ⟨⟨l, hd, bk, sl, heat, shared, pinned⟩, he, rfl⟩ := h.entry
  rw [State.closeInTurn, h.seq]
  simp [he, h.full, ht]

theorem State.FullTail.closeInTurn_of_turn (h : s.FullTail b q x)
    (ht : s.takeTurn q.slice 1 b.paddock (closeWork b) q.shape.rawBlock = (t, true)) (good : Bool) :
    s.closeInTurn b good = t.closeBlock b good := by
  obtain ⟨⟨l, hd, bk, sl, heat, shared, pinned⟩, he, rfl⟩ := h.entry
  rw [State.closeInTurn, h.seq]
  simp [he, h.full, ht]

/-- What a close that could be tried leaves: the closed block, or the retry that it waits for (R99, R160). -/
def State.closeOutcome (s : State) (b : BlockRef) : Except Refused State → State
  | .ok t => t
  | .error e => if e = metaFull then (s.retryClose b).note metaFullReport else s.retryClose b

/-- In its turn a verified full tail waits for its retry while its slot is marked, and else is closed if it can be. -/
theorem State.FullTail.closeBlock_eq (h : s.FullTail b q x) :
    s.closeBlock b true =
      if x.place.frames.any s.leasedFrames.contains then s.retryClose b
      else s.closeOutcome b (s.closeTail q.desc b.layer b.head b.block) := by
  obtain ⟨⟨l, hd, bk, sl, heat, shared, pinned⟩, he, rfl⟩ := h.entry
  rw [State.closeBlock, h.seq]
  simp only [he, h.full, h.lost, h.live, h.verifies, lt_irrefl, decide_false, Bool.or_false, ne_eq, not_true_eq_false,
    Bool.false_eq_true, if_false, Bool.not_true]
  rfl

theorem State.FullTail.closeBlock_of_ok (h : s.FullTail b q x) (hfree : ∀ f ∈ x.place.frames, f ∉ s.leasedFrames)
    (hok : s.closeTail q.desc b.layer b.head b.block = .ok t) : s.closeBlock b true = t := by
  rw [h.closeBlock_eq, if_neg (by simpa using hfree), hok]
  rfl

/-- A close that finds its slot marked or no room changes nothing but its retry: of the store, of memory and of the paddocks. -/
theorem State.FullTail.closeBlock_of_retry (h : s.FullTail b q x)
    (hwait : (∃ f ∈ x.place.frames, f ∈ s.leasedFrames) ∨ ∃ r, s.closeTail q.desc b.layer b.head b.block = .error r) :
    Same { out := true, regs := true, host := true, log := true } (s.retryClose b) (s.closeBlock b true) := by
  rw [h.closeBlock_eq]
  split
  · exact Same.refl _ _
  · next hmark =>
    obtain ⟨r, hr⟩ := hwait.resolve_left (by simpa using hmark)
    rw [hr, State.closeOutcome]
    split
    · exact State.note_same ..
    · exact Same.refl _ _

end

theorem exec_blockClose_good (b : BlockRef) (s : State) : exec (.blockClose b .good) s = s.finish (s.closeInTurn b true) := rfl

theorem exec_closeRetryTimer {s : State} {b : BlockRef} {at_ : Nat}
    (h : s.store.retries.find? (·.1 == b) = some (b, at_)) :
    exec (.closeRetryTimer b) s =
      s.finish (({ s.advanceTo at_ with
        store := { s.store with retries := s.store.retries.filter (·.1 != b) } } : State).closeInTurn b true) := by
  simp only [exec, execCloseRetryTimer, h]
  rfl

theorem closeStoresTheFullTail : Claims.CloseStoresTheFullTail := by
  intro b s q e x hseq hat he hslot hrecs hlost hlive hnums hok
  have hfull : s.FullTail b q x := ⟨hseq, hat, ⟨e, he, hslot⟩, hrecs, hlost, hlive, hok, hnums⟩
  rw [exec_blockClose_good]
  refine ⟨fun t1 hturn => ?_, fun t1 hturn hwait => ?_, fun t1 t0 hturn hfree hclose => ?_, fun at_ s1 t1 ok hretry hs1 hturn => ?_⟩
  · obtain ⟨c, rfl⟩ := State.takeTurn_eq_sch hturn
    rw [hfull.closeInTurn_of_none hturn]
    exact answers_finish fun m => ⟨rfl, rfl, rfl, rfl⟩
  · obtain ⟨c, rfl⟩ := State.takeTurn_eq_sch hturn
    have hsame := (hfull.with_sch c).closeBlock_of_retry hwait
    rw [hfull.closeInTurn_of_turn hturn]
    exact answers_finish fun m => ⟨hsame.store.eq rfl, hsame.mem.eq rfl, hsame.pads.eq rfl⟩
  · obtain ⟨c, rfl⟩ := State.takeTurn_eq_sch hturn
    obtain ⟨k, ⟨⟨q', e', hq', he', hslot', hlens⟩, hk, -⟩, hnum, hstored, hrefs, hklost, hpaddock⟩ :=
      State.closeTail_ok (hfull.with_sch c).at_ he hslot hrecs hnums hclose
    rw [hfull.closeInTurn_of_turn hturn, (hfull.with_sch c).closeBlock_of_ok hfree hclose]
    rw [hnum] at hslot' hk
    exact answers_finish fun m => ⟨q', e', k, hq', he', hslot', hk, hstored, hrefs, hklost, hpaddock, hlens⟩
  · have hfull1 : s1.FullTail b q x := by
      subst hs1
      exact ⟨hseq, hat, ⟨e, he, hslot⟩, hrecs, hlost, hlive, hok, hnums⟩
    have htime : s1.time = max s.time at_ := by rw [hs1]; rfl
    have hmem : s1.mem = s.mem := by rw [hs1]; rfl
    have hleased : s1.leasedFrames = s.leasedFrames := by rw [hs1]; rfl
    have hretries : s1.store.retries = s.store.retries.filter (·.1 != b) := by rw [hs1]
    have hseqs : s1.store.seqs = s.store.seqs := by rw [hs1]
    have hblocks : s1.store.blocks = s.store.blocks := by rw [hs1]
    have hnext : s1.store.nextBlock = s.store.nextBlock := by rw [hs1]
    rw [exec_closeRetryTimer hretry, ← hs1]
    clear hs1
    obtain ⟨c, rfl⟩ := State.takeTurn_eq_sch hturn
    refine ⟨fun hwait => ?_, fun r hgo hclose => ?_, fun t0 hgo hfree hclose => ?_⟩
    · subst hwait
      rw [hfull1.closeInTurn_of_none hturn]
      exact answers_finish fun m => ⟨htime, rfl, hmem, rfl⟩
    · subst hgo
      have hsame := (hfull1.with_sch c).closeBlock_of_retry (.inr ⟨r, hclose⟩)
      rw [hfull1.closeInTurn_of_turn hturn]
      refine answers_finish fun m => ⟨(hsame.time.eq rfl).trans htime, ?_, ?_, ?_⟩
      · show (b, (State.closeBlock { s1 with sch := c } b true).time + 1000000) ∈ _
        rw [hsame.time.eq rfl, hsame.store.eq rfl]
        exact List.mem_append_right _ (List.mem_singleton_self _)
      · exact (congrArg Store.seqs (hsame.store.eq rfl)).trans hseqs
      · exact (congrArg Store.blocks (hsame.store.eq rfl)).trans hblocks
    · subst hgo
      obtain ⟨k, ⟨⟨q', e', hq', he', hslot', -⟩, -, hwaiting⟩, hnum, -⟩ :=
        State.closeTail_ok (hfull1.with_sch c).at_ he hslot hrecs hfull1.nums hclose
      rw [hfull1.closeInTurn_of_turn hturn, (hfull1.with_sch c).closeBlock_of_ok (hleased ▸ hfree :) hclose]
      refine answers_finish fun m => ⟨fun y hy => ?_, q', e', hq', he', ?_⟩
      · have hy' : y ∈ s.store.retries.filter (·.1 != b) := by
          rw [← hretries, ← hwaiting]
          exact hy
        simpa using (List.mem_filter.mp hy').2
      · rw [hslot', hnum, ← hnext]

/-! ### Deferred frees -/

theorem exec_deferredFree {s : State} {block : Nat} {d : DeferredFree}
    (h : (s.store.deferred.find? fun x => x.block == block) = some d) :
    exec (.deferredFree block) s =
      if d.after.any fun i => (s.op i).isSome then .next s
      else .next (({ s with store := { s.store with deferred := s.store.deferred.eraseP (·.block == block) } } : State).freePlace
        d.paddock d.place) := by
  simp only [exec, execDeferredFree, h]

theorem deferredFreeWaitsForEarlierOperations : Claims.DeferredFreeWaitsForEarlierOperations := by
  intro block s d hd
  rw [exec_deferredFree hd]
  refine ⟨fun ⟨i, hi, hop⟩ => if_pos (List.any_eq_true.mpr ⟨i, hi, hop⟩), fun hnone => ?_⟩
  rw [if_neg (by simpa using hnone)]
  obtain ⟨x, -, hwaits, hstore⟩ := State.store_freePlace
    ({ s with store := { s.store with deferred := s.store.deferred.eraseP (·.block == block) } } : State) d.paddock d.place
  refine answers_next ⟨by rw [hstore], by rw [hstore], by rw [hstore], fun f hf hretired hplaces => ?_,
    (State.freePlace_same ..).mem.eq rfl⟩
  rw [hstore] at hplaces
  rw [hstore]
  exact hwaits f hf hretired hplaces

/-- Settles O26: a turn of the scheduler changes the schedulers alone, so a full tail stays one; each step of a close keeps the
entries, lengths, blocks and retries but for what it stores itself, and a freed place adds to the frames that wait alone. -/
theorem tailsCloseIntoBlocks : Obligations.TailsCloseIntoBlocks := by
  unfold Obligations.TailsCloseIntoBlocks
  exact ⟨closeStoresTheFullTail, deferredFreeWaitsForEarlierOperations⟩

end Sys2Proof.Machine
end

section
/-! O32. The failed test of a cluster (R320, R322) where two records name one physical cluster: the second record's test is noted
at the first, which is then under test and not retired. -/

namespace Sys2Proof.Machine

/-! ### A failed test -/

/-- The node when a cluster has failed its test: its result is noted, and it is retired. -/
def State.failedTest (s : State) (die phys : Nat) : State :=
  ((s.modCluster die phys fun x => { x with result := 2 }).stir).retireCluster die phys

theorem exec_lbistDone_of_fail {s : State} {die phys : Nat} {k : Cluster}
    (hk : (s.eng.clusters.find? fun x => x.die == die && x.phys == phys) = some k) (huse : k.use = .testing) :
    exec (.lbistDone die phys false) s =
      s.finish ((s.failedTest die phys).note ⟨1, 1, 0x5003, 0, clusterUnit die phys, 0, 0, []⟩) := by
  simp only [exec, execLbistDone, hk, huse]
  rfl

theorem State.note_eng (s : State) (e : ErrRep) : (s.note e).eng = s.eng := (State.note_same s e).eng.eq rfl

/-! ### Two records of one cluster -/

/-- A record of cluster 0 of die 0, under test to take logical ID 0. -/
def twinUnderTest : Cluster := { Cluster.fresh 0 0 with use := .testing, spareSince := some (0, 0) }

/-- Another record of the same cluster, a spare that is to take no ID. -/
def twinSpare : Cluster := Cluster.fresh 0 0

/-- A node after reset but for its clusters, which are these two records. -/
def twinState : State := { State.reset with eng := { State.reset.eng with clusters := [twinUnderTest, twinSpare] } }

/-- The failed cluster leaves logical ID 0, for which the spare is tested next: that test goes to the first record of the spare's
number, which is the one just retired. -/
theorem clusters_failedTest_twinState : (twinState.failedTest 0 0).eng.clusters =
    [{ twinUnderTest with result := 2 }, twinSpare] := by
  rfl

/-- Refutes O32: after a failed test the cluster need not be RETIRED where two records name it. In `twinState` cluster 0 of die 0
is under test and a second record of it is a spare. The test fails, the first record is retired, and the spare is to be tested for
the ID that is left; the change is made at the first record of that number, so the retired cluster is under test again. (The
statements of the fault, the swap and the wait ask that no two clusters have the same die and number; that of the test does
not.) -/
theorem not_clustersAreTestedAndRepaired : ¬ Obligations.ClustersAreTestedAndRepaired := by
  unfold Obligations.ClustersAreTestedAndRepaired
  rintro ⟨-, ⟨-, hjudges⟩, -⟩
  obtain ⟨-, -, hfails⟩ := hjudges 0 0 twinState twinUnderTest rfl
  have hanswer := hfails rfl
  rw [exec_lbistDone_of_fail (k := twinUnderTest) rfl rfl] at hanswer
  obtain ⟨m, ⟨y, hy, hretired, -⟩, -⟩ := answers_of_finish hanswer
  have hfind : ((twinState.failedTest 0 0).eng.clusters.find? fun x => x.die == 0 && x.phys == 0) = some y := by
    rw [← hy]
    exact congrArg (fun e : Engine => e.clusters.find? fun x => x.die == 0 && x.phys == 0) (State.note_eng ..).symm
  rw [clusters_failedTest_twinState] at hfind
  obtain rfl : { twinUnderTest with result := 2 } = y := Option.some.inj hfind
  cases hretired

end Sys2Proof.Machine
end

section
/-! SUPPORT. What the end of a slice's operations leaves to a stack that has stopped: the records of the stacks, the leases, the
slices in the fault status line, and every sequence that is lost. -/

namespace Sys2Proof.Machine

/-! ### The store but for its seals -/

/-- What a new seal leaves of the store: the slots and states of the sequences, and all but their descriptor pages, roots and the
notes on lines that the controller writes anew. -/
def State.bareStore (s : State) : List (Nat × SeqState) × Store :=
  (s.store.seqs.map fun q => (q.desc, q.state), { s.store with
    seqs := [], descPages := [], roots := [], leaseTouched := [], poisonLines := [], checkErrors := [] })

section
variable (s : State)

theorem State.bareStore_of_store {s t : State} (h : t.store = s.store) : t.bareStore = s.bareStore := by
  rw [State.bareStore, h, State.bareStore]

theorem State.bareStore_modSeq {d : Nat} {f : Seq → Seq} (h : ∀ q, ((f q).desc, (f q).state) = (q.desc, q.state)) :
    (s.modSeq d f).bareStore = s.bareStore :=
  congrArg (·, s.bareStore.2) (map_updateFirst fun q _ => h q)

theorem State.bareStore_version (paddock : Nat) (sealed : Bool) : (s.version paddock sealed).2.bareStore = s.bareStore :=
  State.bareStore_of_store ((State.version_same ..).store.eq rfl)

theorem State.bareStore_resealDescPage (q : Seq) : (s.resealDescPage q).bareStore = s.bareStore := by
  rw [State.resealDescPage]
  split
  · rfl
  · exact s.bareStore_version q.paddock true

theorem State.bareStore_resealPage (d page : Nat) : (s.resealPage d page).bareStore = s.bareStore := by
  rw [State.resealPage]
  split
  · rfl
  · next q _ =>
    refine (State.bareStore_modSeq _ ?_).trans (s.bareStore_version q.paddock true)
    exact fun _ => rfl

theorem State.bareStore_resealL1 (d : Nat) : (s.resealL1 d).bareStore = s.bareStore := by
  rw [State.resealL1]
  split
  · rfl
  · next q _ =>
    dsimp only
    refine (State.bareStore_resealDescPage ..).trans ((State.bareStore_modSeq _ ?_).trans (s.bareStore_version q.paddock true))
    exact fun _ => rfl

theorem State.bareStore_reseal (d : Nat) : (s.reseal d).bareStore = s.bareStore := by
  rw [State.reseal]
  split
  · rfl
  · dsimp only
    split
    · rfl
    · split
      · rfl
      · rw [State.bareStore_resealL1, foldl_keeps fun _ _ => State.bareStore_resealPage ..]
        rfl

theorem State.bareStore_resealNamers (n : Nat) : (s.resealNamers n).bareStore = s.bareStore :=
  foldl_keeps (fun _ _ => State.bareStore_reseal ..) ..

end

/-! ### What a stopped stack rests on -/

/-- The later state has the stacks, the leases and the stopped slices of the earlier one, and all its lost sequences. -/
structure Retains (s t : State) : Prop where
  hbms : t.store.hbms = s.store.hbms
  leases : t.leases.leases = s.leases.leases
  stopped : t.maps.fault.stoppedSlices = s.maps.fault.stoppedSlices
  lost : ∀ q ∈ s.store.seqs, q.state = .lost → ∃ y ∈ t.store.seqs, y.desc = q.desc ∧ y.state = .lost

section
variable {s t u : State} {m : Mask}

theorem Retains.of_seqs (hseqs : t.store.seqs = s.store.seqs) (hhbms : t.store.hbms = s.store.hbms)
    (hleases : t.leases.leases = s.leases.leases) (hstopped : t.maps.fault.stoppedSlices = s.maps.fault.stoppedSlices) :
    Retains s t :=
  ⟨hhbms, hleases, hstopped, fun q hq hl => ⟨q, hseqs ▸ hq, rfl, hl⟩⟩

theorem Retains.refl (s : State) : Retains s s := .of_seqs rfl rfl rfl rfl

theorem Retains.trans (h : Retains s t) (k : Retains t u) : Retains s u := by
  refine ⟨k.hbms.trans h.hbms, k.leases.trans h.leases, k.stopped.trans h.stopped, fun q hq hl => ?_⟩
  obtain ⟨y, hy, hdesc, hlost⟩ := h.lost q hq hl
  obtain ⟨z, hz, hdesc', hlost'⟩ := k.lost y hy hlost
  exact ⟨z, hz, hdesc'.trans hdesc, hlost'⟩

theorem Retains.foldl {β : Type} {f : State → β → State} (h : ∀ u x, Retains u (f u x)) (xs : List β) (s : State) :
    Retains s (xs.foldl f s) := by
  induction xs generalizing s with
  | nil => exact .refl s
  | cons x xs ih => exact (h s x).trans (ih _)

/-- What changes neither the store nor the leases retains all, if the stopped slices stay. -/
theorem Retains.of_same (h : Same m s t) (hstore : m.store = false) (hleases : m.leases = false)
    (hstopped : t.maps.fault.stoppedSlices = s.maps.fault.stoppedSlices) : Retains s t :=
  have hs := h.store.eq hstore
  .of_seqs (congrArg Store.seqs hs) (congrArg Store.hbms hs) (congrArg Leases.leases (h.leases.eq hleases)) hstopped

theorem Retains.of_frame (h : Same m s t) (hstore : m.store = false) (hleases : m.leases = false) (hmaps : m.maps = false) :
    Retains s t :=
  .of_same h hstore hleases (congrArg (·.fault.stoppedSlices) (h.maps.eq hmaps))

/-- So does what changes the seals of the store alone. -/
theorem Retains.of_bareStore (hb : t.bareStore = s.bareStore) (h : Same m s t) (hleases : m.leases = false)
    (hmaps : m.maps = false) : Retains s t := by
  refine ⟨congrArg (·.2.hbms) hb, congrArg Leases.leases (h.leases.eq hleases),
    congrArg (·.fault.stoppedSlices) (h.maps.eq hmaps), fun q hq hl => ?_⟩
  have hmem : (q.desc, SeqState.lost) ∈ t.bareStore.1 := by
    rw [hb]
    exact List.mem_map.mpr ⟨q, hq, by rw [hl]⟩
  obtain ⟨y, hy, hyq⟩ := List.mem_map.mp hmem
  exact ⟨y, hy, congrArg Prod.fst hyq, congrArg Prod.snd hyq⟩

theorem mem_updateFirst_or {α : Type} (p : α → Bool) (f : α → α) {xs : List α} {x : α} (h : x ∈ xs) :
    x ∈ updateFirst p f xs ∨ f x ∈ updateFirst p f xs := by
  induction xs with
  | nil => cases h
  | cons y ys ih =>
    rw [updateFirst]
    rcases List.mem_cons.mp h with rfl | h
    · split
      · exact .inr List.mem_cons_self
      · exact .inl List.mem_cons_self
    · split
      · exact .inl (List.mem_cons_of_mem _ h)
      · exact (ih h).imp (List.mem_cons_of_mem _) (List.mem_cons_of_mem _)

/-- A change of a sequence under which a lost one stays lost retains all. -/
theorem Retains.modSeq {d : Nat} {f : Seq → Seq} (h : ∀ q, (f q).desc = q.desc ∧ (q.state = .lost → (f q).state = .lost)) :
    Retains s (s.modSeq d f) := by
  refine ⟨rfl, rfl, rfl, fun q hq hl => ?_⟩
  obtain ⟨hdesc, hlost⟩ := h q
  rcases mem_updateFirst_or (·.desc == d) f hq with hmem | hmem
  · exact ⟨q, hmem, rfl, hl⟩
  · exact ⟨f q, hmem, hdesc, hlost hl⟩

end

/-! ### Frames, seals and records to the partner -/

section
variable (s : State)

theorem State.note_retains (e : ErrRep) : Retains s (s.note e) := .of_frame (State.note_same ..) rfl rfl rfl

theorem State.emptyFrame_retains (paddock frame : Nat) : Retains s (s.emptyFrame paddock frame) := by
  rw [State.emptyFrame]
  split
  · exact .refl s
  · dsimp only
    split <;> exact .of_seqs rfl rfl rfl rfl

theorem State.freePlace_retains (paddock : Nat) (p : Place) : Retains s (s.freePlace paddock p) :=
  .foldl (fun _ _ => State.emptyFrame_retains ..) ..

theorem State.freeOld_retains (block desc generation paddock : Nat) (p : Place) :
    Retains s (s.freeOld block desc generation paddock p) := by
  rw [State.freeOld]
  dsimp only
  split
  · exact State.freePlace_retains ..
  · exact .of_seqs rfl rfl rfl rfl

theorem State.abandonMoves_retains (p : Move → Bool) : Retains s (s.abandonMoves p) := by
  rw [State.abandonMoves]
  refine .trans ?_ (.foldl (fun _ _ => State.freePlace_retains ..) ..)
  split <;> exact .of_seqs rfl rfl rfl rfl

theorem State.resealDescPage_retains (q : Seq) : Retains s (s.resealDescPage q) :=
  .of_bareStore (State.bareStore_resealDescPage ..) (State.resealDescPage_same ..) rfl rfl

theorem State.resealL1_retains (d : Nat) : Retains s (s.resealL1 d) :=
  .of_bareStore (State.bareStore_resealL1 ..) (State.resealL1_same ..) rfl rfl

theorem State.reseal_retains (d : Nat) : Retains s (s.reseal d) :=
  .of_bareStore (State.bareStore_reseal ..) (State.reseal_same ..) rfl rfl

theorem State.resealNamers_retains (n : Nat) : Retains s (s.resealNamers n) :=
  .of_bareStore (State.bareStore_resealNamers ..) (State.resealNamers_same ..) rfl rfl

theorem State.refuseBlock_fault (q : Seq) (layer block : Nat) : (s.refuseBlock q layer block).maps.fault = s.maps.fault := by
  rw [State.refuseBlock]
  split
  · rfl
  · rw [State.ledgerInsert]
    split
    · rfl
    · dsimp only
      split <;> rfl

theorem State.ensureStream_fault (partner paddock : Nat) : (s.ensureStream partner paddock).maps.fault = s.maps.fault := by
  rw [State.ensureStream]
  split <;> rfl

theorem State.sendCommit_fault (qpn length : Nat) (c : Commit) : (s.sendCommit qpn length c).maps.fault = s.maps.fault :=
  congrArg Maps.fault ((State.sendCommit_same ..).maps.eq rfl)

theorem State.pumpStreamFuel_fault (i fuel : Nat) : (State.pumpStreamFuel i fuel s).maps.fault = s.maps.fault := by
  induction fuel generalizing s with
  | zero => rfl
  | succ fuel ih =>
    rw [State.pumpStreamFuel]
    split
    · rfl
    · split
      · split
        · rfl
        · dsimp only
          split
          · exact ih _
          · split
            · rfl
            · refine (ih _).trans ((State.sendCommit_fault ..).trans ?_)
              split <;> rfl
      · rfl

theorem State.queueRecords_fault (partner paddock op : Nat) (records : List Bytes) :
    (s.queueRecords partner paddock op records).maps.fault = s.maps.fault := by
  rw [State.queueRecords]
  split
  · rfl
  · dsimp only
    split
    · exact State.ensureStream_fault ..
    · rw [State.pumpStream]
      split
      · exact State.ensureStream_fault ..
      · exact (State.pumpStreamFuel_fault ..).trans (State.ensureStream_fault ..)

theorem State.restoreAll_retains (q : Seq) : Retains s (s.restoreAll q) :=
  .of_same (State.restoreAll_same ..) rfl rfl (congrArg FaultLine.stoppedSlices (State.queueRecords_fault ..))

theorem State.restoreReq_retains (q : Seq) (layer head block : Nat) : Retains s (s.restoreReq q layer head block) := by
  refine .of_same (State.restoreReq_same ..) rfl rfl (congrArg FaultLine.stoppedSlices ?_)
  rw [State.restoreReq]
  split
  · rfl
  · exact (State.queueRecords_fault ..).trans (State.refuseBlock_fault ..)

/-! ### Losses and retired frames -/

theorem State.losePages_retains (q : Seq) (pages : List Nat) (address : Nat) : Retains s (s.losePages q pages address) := by
  rw [State.losePages]
  have hmarked : Retains s ((s.ktbInvalidate q.desc pages).modSeq q.desc fun x =>
      { x with pages := x.pages.map fun y => if pages.contains y.index then { y with lost := true } else y }) :=
    .trans (t := s.ktbInvalidate q.desc pages) (.of_seqs rfl rfl rfl rfl) (by exact .modSeq fun _ => ⟨rfl, id⟩)
  refine .trans ?_ (.foldl (fun _ _ => State.restoreReq_retains ..) ..)
  refine .trans ?_ (State.note_retains ..)
  split
  · exact hmarked.trans (State.resealL1_retains ..)
  · exact hmarked

theorem State.loseSeq_retains (q : Seq) (address : Nat) : Retains s (s.loseSeq q address) := by
  rw [State.loseSeq]
  split
  · exact .refl s
  · refine .trans ?_ (State.restoreAll_retains ..)
    refine .trans ?_ (State.note_retains ..)
    refine .trans ?_ (State.resealDescPage_retains ..)
    exact .modSeq fun _ => ⟨rfl, fun _ => rfl⟩

theorem State.moveMeta_retains (q : Seq) (bytes align : Nat) {put : Nat → Seq → Seq}
    (h : ∀ a x, (put a x).desc = x.desc ∧ (put a x).state = x.state) : Retains s (s.moveMeta q bytes align put) := by
  rw [State.moveMeta]
  split
  · exact .refl s
  · next a t halloc =>
    rw [State.allocMeta] at halloc
    split at halloc
    · cases halloc
    · obtain ⟨x, -, hx⟩ := Option.map_eq_some_iff.mp halloc
      cases hx
      refine .trans (t := { s with rng := s.rng + 1 }.metaWritten (_ : Nat) bytes) (.of_seqs rfl rfl rfl rfl)
        (.modSeq fun y => ?_)
      exact ⟨(h _ y).1, fun hl => (h _ y).2.trans hl⟩

theorem State.moveTable_retains (q : Seq) (i bytes align : Nat) (hit : Bool) : Retains s (s.moveTable q i bytes align hit) := by
  rw [State.moveTable]
  split
  · exact State.moveMeta_retains _ _ _ _ fun _ _ => ⟨rfl, rfl⟩
  · exact .refl s

theorem State.relocateBlock_retains (b : Block) : Retains s (s.relocateBlock b) := by
  rw [State.relocateBlock]
  split
  · exact .refl s
  · split
    · exact .refl s
    · split
      · refine .trans ?_ (State.restoreReq_retains ..)
        refine .trans ?_ (State.note_retains ..)
        refine .trans ?_ (State.resealNamers_retains ..)
        exact .of_seqs rfl rfl rfl rfl
      · split
        · exact .refl s
        · next t halloc =>
          refine .trans ?_ (State.freeOld_retains ..)
          refine .trans ?_ (State.resealNamers_retains ..)
          exact (Retains.of_frame ((State.allocT1_same ..).of _ halloc) rfl rfl rfl).trans (.of_seqs rfl rfl rfl rfl)

theorem State.relocateTail_retains (q : Seq) (e : Entry) (x : TailSlot) : Retains s (s.relocateTail q e x) := by
  rw [State.relocateTail]
  split
  · exact .refl s
  · split
    · refine .trans ?_ (State.restoreReq_retains ..)
      refine .trans ?_ (State.note_retains ..)
      refine .trans ?_ (State.reseal_retains ..)
      exact .modSeq fun _ => ⟨rfl, id⟩
    · split
      · exact .refl s
      · next t halloc =>
        refine .trans ?_ (State.freeOld_retains ..)
        refine .trans ?_ (State.reseal_retains ..)
        exact (Retains.of_frame ((State.allocT1_same ..).of _ halloc) rfl rfl rfl).trans (.modSeq fun _ => ⟨rfl, id⟩)

theorem State.relocateMeta_retains (q : Seq) (frame : Nat) : Retains s (s.relocateMeta q frame) := by
  rw [State.relocateMeta]
  split
  · exact .refl s
  · extract_lets here base run badL1 s1 s2 s3 tables s4 s5 s6 s7 s8
    have h1 : Retains s s1 := .foldl (fun _ _ => State.losePages_retains ..) ..
    have h2 : Retains s1 s2 := State.moveTable_retains ..
    have h3 : Retains s2 s3 := .foldl (fun t p => by
      split
      · exact .refl t
      · split
        · exact State.losePages_retains ..
        · exact State.moveMeta_retains _ _ _ _ fun _ _ => ⟨rfl, rfl⟩) ..
    have h4 : Retains s3 s4 := by
      dsimp only [s4]
      split
      · exact State.loseSeq_retains ..
      · exact .refl s3
    have h7 : Retains s4 s7 := by
      refine .trans ?_ (State.moveTable_retains ..)
      refine .trans ?_ (State.moveTable_retains ..)
      exact State.moveTable_retains ..
    have h8 : Retains s7 s8 := by
      dsimp only [s8]
      split
      · exact .of_seqs rfl rfl rfl rfl
      · exact .refl s7
    have hlast := ((((h1.trans h2).trans h3).trans h4).trans h7).trans h8
    split
    · exact hlast.trans (State.resealL1_retains ..)
    · exact hlast

theorem State.relocateFrame_retains (frame : Nat) : Retains s (s.relocateFrame frame) := by
  rw [State.relocateFrame]
  refine .trans ?_ (.foldl (fun _ _ => State.relocateMeta_retains ..) ..)
  refine .trans (.foldl (fun _ _ => State.relocateBlock_retains ..) ..) (.foldl (fun t q => .foldl (fun t e => ?_) ..) ..)
  split
  · split
    · exact State.relocateTail_retains ..
    · exact .refl t
  · exact .refl t

theorem State.retireFrame_retains (frame : Nat) : Retains s (s.retireFrame frame) := by
  refine .trans (.trans ?_ (State.relocateFrame_retains ..)) (.of_frame (State.recordFrame_same ..) rfl rfl rfl)
  rw [State.stopFrame]
  split
  · exact .refl s
  · exact .of_seqs rfl rfl rfl rfl

theorem State.poisonFrame_retains (frame line n : Nat) : Retains s (s.poisonFrame frame line n) := by
  rw [State.poisonFrame]
  split
  · exact .of_seqs rfl rfl rfl rfl
  · exact .refl s

theorem State.eccDomain_retains (paddock unit frame : Nat) : Retains s (s.eccDomain paddock unit frame) := by
  rw [State.eccDomain]
  split
  · exact .refl s
  · refine .trans ?_ (State.retireFrame_retains ..)
    refine .trans ?_ (State.poisonFrame_retains ..)
    exact State.note_retains ..

theorem State.loseFrameOf_retains (address : Nat) : Retains s (s.loseFrameOf address) := by
  rw [State.loseFrameOf]
  refine .trans ?_ (State.retireFrame_retains ..)
  split
  · exact State.eccDomain_retains ..
  · exact .refl s

theorem State.markLost_retains (d layer head block : Nat) : Retains s (s.markLost d layer head block) := by
  rw [State.markLost]
  split
  · exact .refl s
  · split
    · exact .refl s
    · next e _ =>
      extract_lets place s1 s2 s3 s4
      have h1 : Retains s s1 := by
        dsimp only [s1]
        split
        · exact .modSeq fun _ => ⟨rfl, id⟩
        · exact .of_seqs rfl rfl rfl rfl
      have h2 : Retains s1 s2 := by
        dsimp only [s2]
        split
        · exact State.reseal_retains ..
        · exact State.resealNamers_retains ..
      have h3 : Retains s2 s3 := State.note_retains ..
      have h4 : Retains s3 s4 := by
        dsimp only [s4]
        split
        · exact .refl s3
        · exact State.retireFrame_retains ..
      exact (((h1.trans h2).trans h3).trans h4).trans (State.restoreReq_retains ..)

/-! ### Requests that are checked -/

theorem State.fetchChecks_retains (d : Nat) : Retains s (s.fetchChecks d) := by
  rw [State.fetchChecks]
  split
  · exact .refl s
  · dsimp only
    split
    · exact .trans (.foldl (fun _ _ => State.loseSeq_retains ..) ..) (State.loseFrameOf_retains ..)
    · split
      · exact .trans (State.loseSeq_retains ..) (State.loseFrameOf_retains ..)
      · split
        · exact .trans (State.loseSeq_retains ..) (State.loseFrameOf_retains ..)
        · exact .refl s

theorem State.useDescriptor_retains (q : Seq) : Retains s (s.useDescriptor q) := by
  refine .foldl (fun t die => ?_) ..
  extract_lets line t' mine
  have ht : Retains t t' := by
    dsimp only [t']
    split
    · exact .refl t
    · exact State.fetchChecks_retains ..
  exact ht.trans (.of_seqs rfl rfl rfl rfl)

theorem State.fetchDescriptor_retains (qp : Option Qp) (r : Req) : Retains s (s.fetchDescriptor qp r) := by
  rw [State.fetchDescriptor]
  extract_lets found
  split
  · exact .refl s
  · exact State.useDescriptor_retains ..

theorem State.fetchHeader_retains : Retains s s.fetchHeader := by
  rw [State.fetchHeader]
  split
  · exact .refl s
  · refine .trans ?_ (.of_frame (State.askFm_same ..) rfl rfl rfl)
    exact .of_seqs rfl rfl rfl rfl

theorem State.checkEffects_retains (r : Req) (e : CheckFail) : Retains s (s.checkEffects r e) := by
  unfold State.checkEffects
  extract_lets s1 s2 s3 s4
  have h1 : Retains s s1 := .foldl (fun _ _ => State.markLost_retains ..) ..
  have h2 : Retains s1 s2 := .foldl (fun t x => by
    split
    · exact .refl t
    · exact State.restoreReq_retains ..) ..
  have h3 : Retains s2 s3 := by
    dsimp only [s3]
    split
    · exact State.note_retains ..
    · exact .refl s2
  have h4 : Retains s3 s4 := by
    dsimp only [s4]
    split
    · exact .refl s3
    · refine .trans ?_ (State.note_retains ..)
      exact .of_seqs rfl rfl rfl rfl
  have hlast := ((h1.trans h2).trans h3).trans h4
  split
  · exact hlast.trans (State.fetchHeader_retains _)
  · exact hlast

theorem State.refuseReq_retains (r : Req) (e : CheckFail) : Retains s (s.refuseReq r e) :=
  (State.checkEffects_retains ..).trans (.of_frame (State.answerReq_same ..) rfl rfl rfl)

theorem State.loadSlot_retains (keep : List (Nat × Nat × Nat)) (die paddock set layer : Nat) :
    Retains s (s.loadSlot keep die paddock set layer) := by
  rw [State.loadSlot]
  split
  · exact .refl s
  · split
    · exact .refl s
    · exact .of_seqs rfl rfl rfl rfl

theorem State.holdForWeights_retains (o : Op) : Retains s (s.holdForWeights o) := by
  rw [State.holdForWeights]
  split
  · refine .trans (.of_seqs rfl rfl rfl rfl) (t := s.modOp o.id fun y => { y with phase := .weights }) ?_
    rw [State.loadLayer]
    split
    · exact .refl _
    · exact .foldl (fun _ _ => State.loadSlot_retains ..) ..
  · exact .refl s

theorem State.acceptReq_retains (r : Req) (p : Plan) : Retains s (s.acceptReq r p) := by
  unfold State.acceptReq
  extract_lets id o eng s1 s2
  have h2 : Retains s s2 := by
    dsimp only [s2]
    split <;> exact .of_seqs rfl rfl rfl rfl
  split
  · exact h2.trans (State.holdForWeights_retains ..)
  · exact h2.trans (.of_frame (State.queueOp_same ..) rfl rfl rfl)

theorem State.runReq_retains (r : Req) : Retains s (s.runReq r) := by
  rw [State.runReq]
  split
  · exact .refl s
  · dsimp only
    split
    · exact (State.fetchDescriptor_retains ..).trans (State.refuseReq_retains ..)
    · exact (State.fetchDescriptor_retains ..).trans (State.acceptReq_retains ..)

theorem State.runHeldFuel_retains (key : Nat × Nat) (fuel : Nat) : Retains s (State.runHeldFuel key fuel s) := by
  induction fuel generalizing s with
  | zero => exact .refl s
  | succ fuel ih =>
    rw [State.runHeldFuel]
    split
    · exact .refl s
    · split
      · exact .refl s
      · refine .trans ?_ (ih _)
        refine .trans ?_ (State.runReq_retains ..)
        exact .of_seqs rfl rfl rfl rfl

/-! ### Operations that end -/

theorem State.unref_retains (o : Op) : Retains s (s.unref o) := by
  rw [State.unref]
  split
  · exact .refl s
  · exact .modSeq fun q => by split <;> exact ⟨rfl, id⟩

theorem State.dropRemoved_retains : Retains s s.dropRemoved := by
  rw [State.dropRemoved]
  extract_lets used gone
  split
  · exact .refl s
  · exact .of_seqs rfl rfl rfl rfl

theorem State.endOp_retains (o : Op) (status detail hint : Nat) (body : Bytes) :
    Retains s (s.endOp o status detail hint body) := by
  unfold State.endOp
  extract_lets s1 eng sch s2 s3 s4 s5
  have h1 : Retains s s1 := by
    refine .trans (t := (s.returnCharge o).unref o) ?_ (.of_seqs rfl rfl rfl rfl)
    exact .trans (.of_frame (State.returnCharge_same ..) rfl rfl rfl) (State.unref_retains ..)
  have h3 : Retains s1 s3 := .of_seqs rfl rfl rfl rfl
  have h4 : Retains s3 s4 := by
    dsimp only [s4]
    split
    · exact .of_frame (State.consume_same ..) rfl rfl rfl
    · exact .of_frame (State.answerReq_same ..) rfl rfl rfl
  have hlast := ((h1.trans h3).trans h4).trans (State.dropRemoved_retains _)
  split
  · exact hlast.trans (State.runHeldFuel_retains ..)
  · exact hlast

theorem State.endSliceOps_retains (slice : Nat) : Retains s (s.endSliceOps slice) := by
  refine .foldl (fun t o => ?_) ..
  split
  · exact .refl t
  · rw [State.discardOp, State.failOp]
    refine .trans ?_ (State.endOp_retains ..)
    exact .of_seqs rfl rfl rfl rfl

end

end Sys2Proof.Machine
end

section
/-! O29. Tier-2 ports that are lost and return, stacks that stop and grow hot, and refreshes (R143, R157, R160, R161, R311). -/

namespace Sys2Proof.Machine

/-! ### Lists -/

/-- Some record has a key and a property if the first record of the key has the property. -/
theorem any_of_find? {α : Type} {p q : α → Bool} {xs : List α} {x : α} (h : xs.find? p = some x) (hq : q x = true) :
    (xs.any fun y => p y && q y) = true := by
  have hp : p x = true := List.find?_some h
  exact List.any_eq_true.mpr ⟨x, List.mem_of_find?_eq_some h, by rw [hp, hq, Bool.and_self]⟩

theorem getD_updateAt_of_ne {α : Type} {i n : Nat} (h : n ≠ i) (f : α → α) (xs : List α) (d : α) :
    (updateAt i f xs).getD n d = xs.getD n d := by
  induction xs generalizing i n with
  | nil => rw [updateAt]
  | cons x xs ih =>
    cases i with
    | zero =>
      obtain ⟨k, rfl⟩ := Nat.exists_eq_succ_of_ne_zero h
      rfl
    | succ i =>
      cases n with
      | zero => rfl
      | succ n => simpa [updateAt] using ih (i := i) (n := n) (by omega)

theorem getD_updateAt_const {α : Type} (i : Nat) (d : α) (xs : List α) : (updateAt i (fun _ => d) xs).getD i d = d := by
  induction xs generalizing i with
  | nil => rw [updateAt, List.getD_nil]
  | cons x xs ih =>
    cases i with
    | zero => rfl
    | succ i => simpa [updateAt] using ih i

/-! ### A Tier-2 port that is lost -/

section
variable (s : State) (port : Nat)

/-- Giving up moves takes them out of the list and changes of the store, besides, the frames that wait for their zero-fill. -/
theorem State.store_abandonMoves (p : Move → Bool) :
    ∃ d, (s.abandonMoves p).store = { s.store with moves := s.store.moves.filter fun m => !p m, dirty := d } := by
  have hfree (ms : List Move) (t : State) :
      ∃ d, (ms.foldl (fun t m => t.freePlace (t.store.movePad m) m.target) t).store = { t.store with dirty := d } := by
    induction ms generalizing t with
    | nil => exact ⟨t.store.dirty, rfl⟩
    | cons m ms ih =>
      obtain ⟨d, -, -, hd⟩ := t.store_freePlace (t.store.movePad m) m.target
      obtain ⟨d', hd'⟩ := ih (t.freePlace (t.store.movePad m) m.target)
      exact ⟨d', by rw [List.foldl_cons, hd', hd]⟩
  rw [State.abandonMoves]
  obtain ⟨d, hd⟩ := hfree (s.store.moves.filter p) _
  refine ⟨d, hd.trans ?_⟩
  split <;> rfl

/-- Setting LOST on blocks changes of the store the blocks and the seals over them. -/
theorem State.bareStore_loseBlocks (p : Block → Bool) :
    (s.loseBlocks p).bareStore = State.bareStore { s with store := { s.store with
      blocks := updateAll (fun b => p b && !b.lost) (fun b => { b with lost := true }) s.store.blocks } } := by
  rw [State.loseBlocks]
  refine foldl_keeps (fun t b => ?_) ..
  dsimp only
  split
  · exact State.bareStore_resealNamers ..
  · exact (State.bareStore_of_store ((State.restoreReq_same ..).store.eq rfl)).trans (State.bareStore_resealNamers ..)

/-- Setting LOST where it is set already changes nothing. -/
theorem updateAll_lost (p : Block → Bool) (bs : List Block) :
    updateAll (fun b => p b && !b.lost) (fun b => { b with lost := true }) bs =
      bs.map fun b => if p b then { b with lost := true } else b := by
  rw [updateAll]
  refine List.map_congr_left fun b _ => ?_
  cases hl : b.lost with
  | false => rw [Bool.not_false, Bool.and_true]
  | true =>
    rw [Bool.not_true, Bool.and_false, if_neg Bool.false_ne_true]
    split
    · exact congrArg (fun l => ({ b with lost := l } : Block)) hl
    · rfl

theorem State.blocks_loseBlocks (p : Block → Bool) :
    (s.loseBlocks p).store.blocks = s.store.blocks.map fun b => if p b then { b with lost := true } else b :=
  (congrArg (·.2.blocks) (s.bareStore_loseBlocks p)).trans (updateAll_lost ..)

/-- A move to or from a Tier-2 port. -/
def Move.onPort (port : Nat) (m : Move) : Bool := decide (m.source.tier = .tier2 port) || decide (m.target.tier = .tier2 port)

/-- A closed block on a Tier-2 port. -/
def Block.onPort (port : Nat) (b : Block) : Bool := decide (b.place.tier = .tier2 port)

/-- The node with a Tier-2 port out of service, before its moves and blocks are seen to. -/
def State.portDown : State :=
  { s with store := { s.store with ports := updateFirst (·.port == port) (fun x => { x with lost := true }) s.store.ports } }

theorem State.losePort_eq :
    s.losePort port = ((s.portDown port).abandonMoves (Move.onPort port)).loseBlocks (Block.onPort port) := rfl

/-- The store after the loss of a port, as far as its ports, moves and blocks go (R160). -/
theorem State.store_losePort :
    (s.losePort port).store.ports = updateFirst (·.port == port) (fun x => { x with lost := true }) s.store.ports ∧
      (s.losePort port).store.moves = s.store.moves.filter (fun m => !m.onPort port) ∧
      (s.losePort port).store.blocks = s.store.blocks.map fun b => if b.onPort port then { b with lost := true } else b := by
  rw [State.losePort_eq]
  obtain ⟨d, hd⟩ := (s.portDown port).store_abandonMoves (Move.onPort port)
  have hbare := ((s.portDown port).abandonMoves (Move.onPort port)).bareStore_loseBlocks (Block.onPort port)
  refine ⟨(congrArg (·.2.ports) hbare).trans (congrArg Store.ports hd),
    (congrArg (·.2.moves) hbare).trans (congrArg Store.moves hd), ?_⟩
  exact (State.blocks_loseBlocks ..).trans (congrArg (List.map _) (congrArg Store.blocks hd :))

/-- A block whose port has come back empty: neither bytes nor a place are left of it (R161). -/
def Block.emptied (b : Block) : Block :=
  { b with place := ⟨.absent, 0, 0, 0, b.place.shift⟩, summaryUnits := 0, coding := 0, stored := [], cipher := [], summary := [],
           hasSummary := false, lost := true }

/-- A port that has come back empty, with the frames that it now has (R161). -/
def State.returnPort (frames : Nat) : State :=
  { s.emptyPort port with store := { (s.emptyPort port).store with
    ports := updateFirst (·.port == port) (fun x => { x with lost := false, frames := frames, poisoned := [] }) s.store.ports } }

theorem State.blocks_returnPort (frames : Nat) :
    (s.returnPort port frames).store.blocks = s.store.blocks.map fun b => if b.onPort port then b.emptied else b := rfl

end

section
variable {s : State} {port : Nat} {x : Tier2Port}

theorem exec_tier2PortLost (hx : (s.store.ports.find? fun y => y.port == port) = some x) (hpresent : x.present = true)
    (hlost : x.lost = false) : exec (.tier2PortLost port) s = s.finish (s.losePort port) := by
  have hany := any_of_find? (q := fun y => y.present && !y.lost) hx (by rw [hpresent, hlost]; rfl)
  refine if_pos ?_
  simpa only [Bool.and_assoc] using hany

theorem exec_tier2PortReturn (hx : (s.store.ports.find? fun y => y.port == port) = some x) (hpresent : x.present = true)
    (hlost : x.lost = true) (frames : Nat) :
    exec (.tier2PortReturn port frames) s = (s.emptyPort port).finish (s.returnPort port frames) := by
  have hany := any_of_find? (q := fun y => y.present && y.lost) hx (by rw [hpresent, hlost]; rfl)
  refine if_pos ?_
  simpa only [Bool.and_assoc] using hany

/-- The report of a device's event record (R157). -/
def cxlReport (port : Nat) (record : Bytes) : ErrRep :=
  ⟨Config.cxlSeverity record % 3, 6, unnamedCode 2, 0, port + 1, Config.cxlFrame record, 0, sub record 0 16⟩

theorem exec_cxlEventRecord (hx : (s.store.ports.find? fun y => y.port == port) = some x) (hpresent : x.present = true)
    {record : Bytes} (hfatal : Config.cxlFatal record = false) :
    exec (.cxlEventRecord port record) s = s.finish (s.note (cxlReport port record)) := by
  have hany := any_of_find? (q := fun y => y.present) hx hpresent
  refine (if_pos hany).trans ?_
  rw [hfatal]
  rfl

/-- The first report that a node logs becomes its one record, of the report's unit and of this instant (R365, R366). -/
theorem State.note_first_unit {e : ErrRep} (hlog : s.log.records = []) (hruns : s.restarting 5 = false) :
    ∃ r, (s.note e).log.records = [r] ∧ r.time = s.time ∧ r.unitKind = e.unitKind ∧ r.unit = e.unit ∧ r.seq = s.log.nextSeq := by
  rw [State.note, hruns, if_neg Bool.false_ne_true, State.logReport, hlog, List.find?_nil]
  refine ⟨⟨s.time, s.log.nextSeq, min e.severity 3, e.unitKind, e.code, e.paddock, s.sealedPad e.paddock, e.unit, 1,
    e.address, e.object, if e.data.isEmpty then Config.errorData e.code s.log.nextSeq else e.data⟩, ?_, rfl, rfl, rfl, rfl⟩
  have hnotify (t : State) (n : Notice) : (t.notify n).log.records = t.log.records :=
    congrArg Log.records ((State.notify_same ..).log.eq rfl)
  simp only [State.addRecord, apply_ite State.log, apply_ite Log.records, hnotify, ite_self]
  rw [State.errSummary_records, Log.records_count, Log.records_retain]
  simp [hlog]

/-- Ports that are lost and return, and their devices' event records (R157, R160, R161). -/
theorem tierTwoPortsFailAndReturn : Claims.TierTwoPortsFailAndReturn := by
  refine ⟨fun port s x hx hpresent hlost => ?_, fun port frames s x hx hpresent hlost => ?_,
    fun port record s x hx hpresent hruns hlog hfatal => ?_⟩
  · rw [exec_tier2PortLost hx hpresent hlost]
    obtain ⟨hports, hmoves, hblocks⟩ := s.store_losePort port
    refine answers_finish fun m => ⟨?_, fun y hy => ?_, ?_⟩
    · exact (congrArg (List.find? _) hports).trans (find?_updateFirst hx (List.find?_some hx :))
    · have hkept := (List.mem_filter.mp (hmoves ▸ hy)).2
      simpa [Move.onPort] using hkept
    · exact hblocks.trans (by simp only [Block.onPort, decide_eq_true_eq])
  · rw [exec_tier2PortReturn hx hpresent hlost]
    refine answers_finish fun m => ⟨find?_updateFirst hx (List.find?_some hx :), ?_, fun b hb hother => ?_, fun b hb => ?_,
      fun b hb hthere => ?_, rfl⟩
    · refine (congrArg (List.map _) (s.blocks_returnPort port frames)).trans ?_
      rw [List.map_map]
      refine List.map_congr_left fun b _ => ?_
      dsimp only [Function.comp]
      split <;> rfl
    · exact List.mem_map.mpr ⟨b, hb, if_neg (by simpa [Block.onPort] using hother)⟩
    · obtain ⟨a, -, rfl⟩ := List.mem_map.mp hb
      split
      · exact nofun
      · next hother => simpa using hother
    · exact ⟨b.emptied, List.mem_map.mpr ⟨b, hb, if_pos (by simpa [Block.onPort] using hthere)⟩, rfl, rfl, rfl, rfl, rfl⟩
  · rw [exec_cxlEventRecord hx hpresent hfatal]
    exact answers_finish fun m => ⟨State.note_first_unit hlog hruns, State.note_store ..⟩

end

/-! ### A stack that stops -/

section
variable (s : State) (stack : Nat)

theorem State.refault_retains (t : State) : Retains s (s.refault t) := by
  rw [State.refault]
  split
  · exact .refl s
  · exact .of_seqs rfl rfl rfl rfl

theorem State.modFault_stoppedSlices (f : FaultLine → FaultLine) :
    (s.modFault f).maps.fault.stoppedSlices = (f s.maps.fault).stoppedSlices := by
  rw [State.modFault]
  dsimp only
  split
  · next h => rw [h]
  · rfl

/-- What a state retains of one whose fault status line was just written, it retains of the state before, but for that line. -/
theorem Retains.before_modFault {s t : State} {f : FaultLine → FaultLine} (h : Retains (s.modFault f) t) :
    Retains s { t with maps := s.maps } := by
  have hsame := s.modFault_same f
  refine ⟨h.hbms.trans (congrArg Store.hbms (hsame.store.eq rfl)), h.leases.trans (congrArg Leases.leases (hsame.leases.eq rfl)),
    rfl, fun q hq hl => h.lost q ?_ hl⟩
  rwa [hsame.store.eq rfl]

/-- The slices that a stack takes with it. -/
def State.slicesOn : List Nat := (s.img.slices.filter fun c => c.hbms.contains stack).map (·.id)

/-- A move that is given up with some slices: its block is one of theirs, or is gone. -/
def State.movesOff (slices : List Nat) (m : Move) : Bool :=
  match s.block m.block with
  | some b => slices.contains b.slice
  | none => true

/-- A sequence of a stopped slice is lost (R160). -/
def Seq.stopped (slices : List Nat) (q : Seq) : Seq :=
  if slices.contains q.slice then { q with state := if q.state.leaving then .lostReleasing else .lost } else q

/-- The node with a stack stopped, its leases gone and its sequences lost, before its moves, operations and report are seen to. -/
def State.stackDown : State :=
  { s with
    store := { s.store with
      hbms := updateFirst (·.index == stack) (fun x => { x with stopped := true }) s.store.hbms
      seqs := s.store.seqs.map (Seq.stopped (s.slicesOn stack))
      leaseTouched := s.touchedAfter (Seq.stopped (s.slicesOn stack)) }
    leases := { s.leases with leases := s.leases.leases.filter fun l => l.req.stack != stack } }

/-- Once its moves are given up, the stop of a stack puts its slices into the fault status line; what follows changes neither that
nor the stacks and leases, and what is lost stays lost. -/
theorem State.stopStack_retains : ∃ u, Retains (s.stackDown stack) u ∧
    Retains (u.modFault fun f => { f with stoppedSlices := (f.stoppedSlices ++ s.slicesOn stack).eraseDups })
      (s.stopStack stack) := by
  refine ⟨_, State.abandonMoves_retains _ (s.movesOff (s.slicesOn stack)), ?_⟩
  rw [State.stopStack]
  refine .trans ?_ (State.note_retains ..)
  refine .trans ?_ (.foldl (fun _ _ => State.restoreAll_retains ..) ..)
  refine .trans ?_ (.foldl (fun _ _ => State.endSliceOps_retains ..) ..)
  exact .refl _

theorem exec_stackStop {s : State} {stack : Nat} {x : Stack} (hx : (s.store.hbms.find? fun y => y.index == stack) = some x)
    (hstopped : x.stopped = false) : exec (.stackStop stack) s = .next ((s.stopStack stack).afterUnits.refault s) := by
  have hany := any_of_find? (q := fun y => !y.stopped) hx (by rw [hstopped]; rfl)
  exact if_pos hany

/-- What is left when a stack has stopped (R160, R311). -/
theorem State.stopStack_effect {x : Stack} (hx : (s.store.hbms.find? fun y => y.index == stack) = some x) {t : State}
    (ht : Retains (s.stopStack stack) t) :
    (t.store.hbms.find? fun y => y.index == stack) = some { x with stopped := true } ∧
      (∀ c ∈ s.img.slices, c.hbms.contains stack = true → c.id ∈ t.maps.fault.stoppedSlices ∧
        ∀ q ∈ s.store.seqs, q.slice = c.id → q.state = .live → ∃ y ∈ t.store.seqs, y.desc = q.desc ∧ y.state = .lost) ∧
      ∀ l ∈ t.leases.leases, l.req.stack ≠ stack := by
  obtain ⟨u, hmoves, hrest⟩ := s.stopStack_retains stack
  have hafter := hrest.trans ht
  have hdown := hmoves.trans hafter.before_modFault
  refine ⟨?_, fun c hc hon => ?_, fun l hl => ?_⟩
  · exact (congrArg (List.find? _) hdown.hbms).trans (find?_updateFirst hx (List.find?_some hx :))
  · have hslice : c.id ∈ s.slicesOn stack := List.mem_map.mpr ⟨c, List.mem_filter.mpr ⟨hc, hon⟩, rfl⟩
    refine ⟨?_, fun q hq hqc hlive => ?_⟩
    · rw [hafter.stopped, State.modFault_stoppedSlices]
      exact List.mem_eraseDups.mpr (List.mem_append_right _ hslice)
    · have hstopped : q.stopped (s.slicesOn stack) = { q with state := .lost } := by
        rw [Seq.stopped, if_pos (by simpa [hqc] using hslice), hlive]
        rfl
      exact hdown.lost { q with state := .lost } (List.mem_map.mpr ⟨q, hq, hstopped⟩) rfl
  · rw [hdown.leases] at hl
    simpa using (List.mem_filter.mp hl).2

end

/-! ### Heat and refreshes -/

/-- A lease's refresh rate after a report of its stack's temperature (R143, R171). -/
def Lease.heated (stack : Nat) (hot : Bool) (l : Lease) : Lease :=
  if l.req.stack == stack then { l with refreshRate := if hot then 2 else 1 } else l

theorem exec_stackTempReport (stack : Nat) (hot : Bool) (s : State) : exec (.stackTempReport stack hot) s = .next { s with
    store := { s.store with hbms := updateFirst (·.index == stack) (fun x => { x with hot := hot }) s.store.hbms }
    leases := { s.leases with leases := s.leases.leases.map (Lease.heated stack hot) } } := rfl

theorem Lease.refreshRate_heated {stack : Nat} {hot : Bool} {l : Lease} (h : (l.heated stack hot).req.stack = stack) :
    (l.heated stack hot).refreshRate = if hot then 2 else 1 := by
  rw [Lease.heated] at h ⊢
  split
  · rfl
  · next hother =>
    rw [if_neg hother] at h
    exact absurd (beq_iff_eq.mpr h) hother

/-- A stack after a refresh of a pseudo-channel (R143). -/
def Stack.refreshed (pc : Nat) (x : Stack) : Stack :=
  { x with refreshes := updateAt pc (· + 1) x.refreshes, postponed := updateAt pc (fun _ => 0) x.postponed }

theorem exec_refreshDue (stack pc : Nat) (s : State) : exec (.refreshDue stack pc) s =
    if s.leased stack pc || s.selfRefresh then .next s
    else .next { s with store := { s.store with
      hbms := updateFirst (·.index == stack) (Stack.refreshed pc) s.store.hbms } } := rfl

/-- Stacks that stop and grow hot, and refreshes (R143, R160, R311, R374). -/
theorem stacksStopHeatAndRefresh : Claims.StacksStopHeatAndRefresh := by
  refine ⟨fun stack s x hx hstopped => ?_, fun stack hot s x hx => ?_,
    fun stack pc s x hx => ⟨fun hheld => ?_, fun hfree hself hpc => ?_⟩⟩
  · rw [exec_stackStop hx hstopped]
    refine answers_next (s.stopStack_effect stack hx (.trans ?_ (State.refault_retains ..)))
    exact .of_frame (State.afterUnits_same ..) rfl rfl rfl
  · rw [exec_stackTempReport]
    refine answers_next ⟨find?_updateFirst hx (List.find?_some hx :), fun l hl hstack => ?_, List.length_map _, rfl, rfl⟩
    obtain ⟨l, -, rfl⟩ := List.mem_map.mp hl
    exact Lease.refreshRate_heated hstack
  · rw [exec_refreshDue, if_pos (by simpa using hheld)]
  · rw [exec_refreshDue, hfree, hself, if_neg (by decide)]
    exact answers_next ⟨x.refreshed pc, find?_updateFirst hx (List.find?_some hx :), getD_updateAt_self 0 hpc,
      fun n hn => getD_updateAt_of_ne hn .., getD_updateAt_const .., rfl, rfl⟩

/-- Settles O29: of the store a lost port changes its record, its moves and its blocks, besides seals and frames to be zeroed; and
whatever requests run when a stopped slice's operations end, they leave the stacks, the leases and the fault status line as they
are, and a lost sequence lost. -/
theorem portsAndStacksFailAndReturn : Obligations.PortsAndStacksFailAndReturn := by
  unfold Obligations.PortsAndStacksFailAndReturn
  exact ⟨tierTwoPortsFailAndReturn, stacksStopHeatAndRefresh⟩

end Sys2Proof.Machine
end

section
/-! SUPPORT. The exchange of a mailbox command (R357–R359): a command that is carried out runs on a state which differs in the
host interface alone, and its response stands in the buffer. -/

namespace Sys2Proof.Machine

/-! ### Fields of a message -/

theorem sub_append_of_le {as bs : Bytes} {off len : Nat} (h : off + len ≤ as.length) :
    sub (as ++ bs) off len = sub as off len := by
  rw [sub, List.drop_append_of_le_length (by omega), List.take_append_of_le_length (by simp; omega)]
  rfl

theorem sub_take_of_le {as : Bytes} {n off len : Nat} (h : off + len ≤ n) : sub (as.take n) off len = sub as off len := by
  rw [sub, List.drop_take, List.take_take, Nat.min_eq_left (by omega)]
  rfl

theorem length_replyHeader (m : Mail) (status detail length : Nat) : (replyHeader m status detail length).length = 32 := by
  have htag : (sub m.tag 0 8).length = 8 := by simp [sub]
  simp [replyHeader, htag, zeros]

/-! ### Mailboxes -/

@[simp] theorem length_updateAt {α : Type} (i : Nat) (f : α → α) (xs : List α) : (updateAt i f xs).length = xs.length := by
  induction xs generalizing i with
  | nil => rw [updateAt]
  | cons x xs ih =>
    cases i with
    | zero => rfl
    | succ i => simp [updateAt, ih]

/-- The host interface has its four mailboxes, and no doorbell waits. -/
structure Host_.Rests (h : Host_) : Prop where
  boxes : h.boxes.length = 4
  doorbells : h.doorbells = []

/-- The second host interface has as many mailboxes as the first, and the same doorbells wait. -/
structure Host_.Keeps (h k : Host_) : Prop where
  boxes : k.boxes.length = h.boxes.length
  doorbells : k.doorbells = h.doorbells

section
variable {h k l : Host_}

theorem Host_.Keeps.refl (h : Host_) : h.Keeps h := ⟨rfl, rfl⟩

theorem Host_.Keeps.trans (hk : h.Keeps k) (kl : k.Keeps l) : h.Keeps l :=
  ⟨kl.boxes.trans hk.boxes, kl.doorbells.trans hk.doorbells⟩

theorem Host_.Keeps.of_eq (e : k = h) : h.Keeps k := e ▸ .refl h

theorem Host_.Keeps.rests (hk : h.Keeps k) (r : h.Rests) : k.Rests :=
  ⟨hk.boxes.trans r.boxes, hk.doorbells.trans r.doorbells⟩

end

theorem State.modBox_keeps (s : State) (i : Nat) (f : Mailbox → Mailbox) : s.host.Keeps (s.modBox i f).host :=
  ⟨length_updateAt .., rfl⟩

theorem State.box_modBox {s : State} {i : Nat} (f : Mailbox → Mailbox) (h : i < s.host.boxes.length) :
    (s.modBox i f).box i = f (s.box i) := getD_updateAt_self _ h

theorem State.eventBit_host (s : State) (v : Nat) (enable old new : Bool) : (s.eventBit v enable old new).host = s.host :=
  (State.eventBit_same ..).host.eq rfl

/-! ### Responses -/

theorem State.writeReply_keeps (s : State) (b : Mail) (r : Reply) : r.state.host.Keeps (s.writeReply b r).host := by
  rw [State.writeReply, State.eventBit_host]
  exact State.modBox_keeps ..

/-- The response that is written stands in its mailbox (R357, R358). -/
theorem State.writeReply_answered (s : State) {b : Mail} {r : Reply} (hbox : b.box ≤ 2) (hrests : r.state.host.Rests) :
    (s.writeReply b r).answered b r.status r.body := by
  have hlt : b.box < r.state.host.boxes.length := by rw [hrests.boxes]; omega
  have hlen : (replyHeader b r.status r.detail r.body.length ++ r.body).length = 32 + r.body.length := by
    rw [List.length_append, length_replyHeader]
  rw [State.answered, State.box, State.writeReply, State.eventBit_host, ← State.box, State.box_modBox _ hlt]
  exact ⟨rfl, rfl, r.detail, List.take_left' hlen⟩

/-- A reply whose response can be delivered, `P` holding of every state in which it has been: one that differs from the reply's
own in what left the node, in the host interface and in FAULT_SEQ. -/
def Reply.Delivers (r : Reply) (b : Mail) (P : State → Prop) : Prop :=
  r.state.host.Rests ∧ ∀ t, Same { out := true, regs := true, host := true, maps := true } r.state t →
    t.answered b r.status r.body → P t

/-! ### The exchange -/

theorem State.serveWaiting_of_nil {s : State} (h : s.host.doorbells = []) : s.serveWaiting = s := by
  rw [State.serveWaiting, h, List.foldl_nil]

/-- One doorbell that waits is served (R357). -/
theorem State.serveWaiting_of_one {s : State} {i : Nat} (h : s.host.doorbells = [i]) (hserves : s.serves i = true) :
    s.serveWaiting = { s with host := { s.host with doorbells := [] } }.serveBox i := by
  rw [State.serveWaiting, h]
  simp [h, hserves]

theorem State.wake_of_awake {s : State} (h : s.awake = true) (source port : Nat) : s.wake source port = s := by
  have hn0 : s.pwr.state = .n0 := by simpa [State.awake] using h
  rw [State.wake, hn0]

/-- Any command but WARM_RESET is answered and nothing follows (R357, R392). -/
theorem State.serveBox_eq {s : State} {i : Nat} {b : Mail} (hb : Mail.parse i (s.box i).buffer = b) (hop : b.opcode ≠ 0x20) :
    s.serveBox i = { s with host := { s.host with major := b.major } }.writeReply b
      ({ s with host := { s.host with major := b.major } }.reply b) := by
  rw [State.serveBox, hb]
  simp [hop]

/-- A doorbell on an idle mailbox that is served at once (R357). -/
theorem State.ring_eq {s : State} {i : Nat} (hbox : i ≤ 2) (hidle : (s.box i).busy = false) (halone : s.host.doorbells = [])
    (hawake : s.awake = true) (hserves : s.serves i = true) :
    s.ring i = (s.modBox i fun x => { x with busy := true, done := false }).serveBox i := by
  have hbells : (s.modBox i fun x => { x with busy := true, done := false }).host.doorbells = [] := halone
  rw [State.ring, if_neg (by omega), hidle, if_neg Bool.false_ne_true]
  dsimp only
  rw [State.wake_of_awake (by exact hawake), hbells, State.serveWaiting_of_one rfl (by exact hserves), ← hbells]

section
variable {s : State} {m : Mbx} {op : Nat} {b : Mail}

theorem Rung.box_eq (h : Rung s m op b) : b.box = m.box := by rw [h.mail]; rfl

theorem Rung.opcode_eq (h : Rung s m op b) : b.opcode = op := by
  have hwhole := h.whole
  have hlen : 2 + 2 ≤ (m.bytes.take 4096).length := by rw [List.length_take]; omega
  rw [← h.opcode, h.mail]
  change le (m.bytes.take 4096 ++ _) 2 2 = le m.bytes 2 2
  rw [le, sub_append_of_le hlen, sub_take_of_le (by decide), le]

theorem Rung.stage_ge (h : Rung s m op b) : 6 ≤ s.boot.stage := by
  have hserves := h.serves
  rw [State.serves] at hserves
  split at hserves
  · next hrom => rcases Bool.or_eq_true_iff.mp hrom with h | h <;> simp at h <;> omega
  · simp at hserves
    omega

/-- The exchange of a command but WARM_RESET: the request is answered on a state that differs in its host interface (R357). -/
theorem Rung.exchange_eq (h : Rung s m op b) (hop : op ≠ 0x20) : ∃ H : Host_, H.Rests ∧
    s.exchange m op = s.finish ({ s with host := H }.writeReply b ({ s with host := H }.reply b)).serveWaiting := by
  have hlt : m.box < s.host.boxes.length := by rw [h.four]; have := h.box; omega
  have hgo : (!s.bar0Open || le m.bytes 2 2 != op || decide (s.boot.stage < 6)) = false := by
    simp [h.open_, h.opcode, h.stage_ge]
  have hfilled : (s.fillBox m.box m.bytes).box m.box =
      { s.box m.box with buffer := overlay (s.box m.box).buffer (m.bytes.take 4096) } := by
    rw [State.fillBox, State.box_modBox _ hlt]
    exact if_neg (by simp [h.idle])
  have hidle : ((s.fillBox m.box m.bytes).box m.box).busy = false := by rw [hfilled]; exact h.idle
  have hlt' : m.box < (s.fillBox m.box m.bytes).host.boxes.length := by
    rw [State.fillBox, (State.modBox_keeps ..).boxes]; exact hlt
  have hmail : Mail.parse m.box
      (((s.fillBox m.box m.bytes).modBox m.box fun x => { x with busy := true, done := false }).box m.box).buffer = b := by
    rw [State.box_modBox _ hlt', hfilled, h.mail]
  refine ⟨{ ((s.fillBox m.box m.bytes).modBox m.box fun x => { x with busy := true, done := false }).host with
    major := b.major }, ⟨?_, h.alone⟩, ?_⟩
  · exact ((State.modBox_keeps ..).trans (State.modBox_keeps ..)).boxes.trans h.four
  · rw [State.exchange, hgo, if_neg Bool.false_ne_true, State.ring_eq h.box hidle h.alone h.awake h.serves,
      State.serveBox_eq hmail (by rw [h.opcode_eq]; exact hop)]
    rfl

/-- A request that is in order is carried out (R354, R359, R361, R362), whatever stands in the host interface. -/
theorem Asked.reply_eq (h : Asked s m op b) (H : Host_) : { s with host := H }.reply b = runCommand b { s with host := H } := by
  have hversion : { s with host := H }.versionOk b = true := h.version
  have hostler : (cmdOstler op).any { s with host := H }.restarting = false := h.ostler
  have hlength := h.length
  rw [Mail.tooLong] at hlength
  rw [State.reply, hversion, h.rung.opcode_eq, h.stage, hostler, hlength]
  rfl

/-- A command but WARM_RESET that is carried out answers what its reply delivers (R357). -/
theorem Asked.answers {P : State → Prop} (h : Asked s m op b) (hop : op ≠ 0x20)
    (hrun : ∀ H : Host_, H.Rests → (runCommand b { s with host := H }).Delivers b P) : Answers (s.exchange m op) P := by
  obtain ⟨H, hH, heq⟩ := h.rung.exchange_eq hop
  obtain ⟨hrests, hP⟩ := hrun H hH
  have hbox : b.box ≤ 2 := by rw [h.rung.box_eq]; exact h.rung.box
  rw [heq, h.reply_eq, State.serveWaiting_of_nil ((State.writeReply_keeps ..).rests hrests).doorbells]
  refine answers_finish fun maps => hP _ ?_ (State.writeReply_answered _ hbox hrests)
  exact Same.update ((State.writeReply_same ..).mono rfl)

end

end Sys2Proof.Machine
end

section
/-! SUPPORT. What notifications, log records, changes of stage and probations leave of the mailboxes and of the boot state. -/

namespace Sys2Proof.Machine

/-! ### Mailboxes -/

theorem State.postNotice_keeps (s : State) : s.host.Keeps s.postNotice.host := by
  rw [State.postNotice]
  split
  · exact .refl _
  · split
    · exact .refl _
    · rw [State.eventBit_host]
      exact ⟨length_updateAt .., rfl⟩

theorem State.notify_keeps (s : State) (n : Notice) : s.host.Keeps (s.notify n).host := by
  rw [State.notify]
  refine .trans ?_ (State.postNotice_keeps _)
  split
  · exact .refl _
  · split <;> exact ⟨rfl, rfl⟩

theorem State.errSummary_host (s : State) (b : Nat) : (s.errSummary b).host = s.host := (State.errSummary_same ..).host.eq rfl

theorem State.sendVector_host (s : State) (v : Nat) : (s.sendVector v).host = s.host := (State.sendVector_same ..).host.eq rfl

theorem State.setStage_keeps (s : State) (st : Nat) : s.host.Keeps (s.setStage st).host := by
  rw [State.setStage]
  split
  · exact .refl _
  · refine .trans ?_ (State.notify_keeps ..)
    split
    · exact .of_eq (State.sendVector_host ..)
    · exact .refl _

theorem State.addRecord_keeps (s : State) (e : ErrRep) (detected : Nat) : s.host.Keeps (s.addRecord e detected).host := by
  rw [State.addRecord]
  dsimp only
  split
  · refine .trans ?_ (State.notify_keeps ..)
    rw [State.errSummary_host]
    exact ⟨rfl, rfl⟩
  · rw [State.errSummary_host]
    exact ⟨rfl, rfl⟩

theorem State.note_keeps (s : State) (e : ErrRep) : s.host.Keeps (s.note e).host := by
  rw [State.note]
  split
  · exact .of_eq ((State.queueReport_same ..).host.eq rfl)
  · rw [State.logReport]
    split
    · exact .refl _
    · exact State.addRecord_keeps ..

theorem State.failProbation_keeps (s : State) (reason : Nat) : s.host.Keeps (s.failProbation reason).host := by
  rw [State.failProbation]
  split
  · exact .refl _
  · refine .trans ?_ (State.addRecord_keeps ..)
    refine .trans ?_ (State.notify_keeps ..)
    exact ⟨rfl, rfl⟩

theorem State.setSlot_keeps (s : State) (i : Nat) (st : SlotState) (reason : Nat) :
    s.host.Keeps (s.setSlot i st reason).host := by
  rw [State.setSlot, State.writeRecord, State.markSlot]
  dsimp only
  refine .trans ?_ (State.notify_keeps ..)
  exact ⟨rfl, rfl⟩

/-! ### Boot state -/

theorem State.notify_boot (s : State) (n : Notice) : (s.notify n).boot = s.boot := (State.notify_same ..).boot.eq rfl

theorem State.note_boot (s : State) (e : ErrRep) : (s.note e).boot = s.boot := (State.note_same ..).boot.eq rfl

/-- A change of stage changes the stage and its instant (R340, R364). -/
theorem State.setStage_boot (s : State) (st : Nat) :
    ∃ at_, (s.setStage st).boot = { s.boot with stage := st, stageAt := at_ } := by
  rw [State.setStage]
  split
  · next heq =>
    rw [← eq_of_beq heq]
    exact ⟨_, rfl⟩
  · refine ⟨s.time, ?_⟩
    rw [State.notify_boot]
    split
    · exact (State.sendVector_same ..).boot.eq rfl
    · rfl

theorem State.setStage_boot_stage (s : State) (st : Nat) : (s.setStage st).boot.stage = st := by
  obtain ⟨at_, h⟩ := s.setStage_boot st
  rw [h]

theorem State.setStage_boot_fwCause (s : State) (st : Nat) : (s.setStage st).boot.fwCause = s.boot.fwCause := by
  obtain ⟨at_, h⟩ := s.setStage_boot st
  rw [h]

/-- A failed probation (R335) is over, its slot FAILED, and the slot control record is written. -/
theorem State.failProbation_boot {s : State} (h : s.boot.probationEnd ≠ none) (reason : Nat) :
    ∃ ctrl, (s.failProbation reason).boot = { s.boot with
      probationEnd := none, rimReason := reason, ctrl := ctrl
      slots := updateAt s.boot.inForce (fun x => { x with state := .failed, reason := reason }) s.boot.slots } := by
  rw [State.failProbation]
  split
  · next hnone => exact absurd hnone h
  · exact ⟨_, ((State.addRecord_same ..).boot.eq rfl).trans (State.notify_boot ..)⟩

theorem State.failProbation_boot_fwCause (s : State) (reason : Nat) :
    (s.failProbation reason).boot.fwCause = s.boot.fwCause := by
  by_cases h : s.boot.probationEnd = none
  · rw [State.failProbation, h]
  · obtain ⟨ctrl, hboot⟩ := State.failProbation_boot h reason
    rw [hboot]

/-- A slot takes a new state and REASON (R332, R333): else only the last REASON and the slot control record may change. -/
theorem State.setSlot_boot (s : State) (i : Nat) (st : SlotState) (reason : Nat) : ∃ rimReason ctrl,
    (s.setSlot i st reason).boot = { s.boot with
      slots := updateAt i (fun x => { x with state := st, reason := reason }) s.boot.slots
      rimReason := rimReason, ctrl := ctrl } := by
  rw [State.setSlot, State.writeRecord, State.markSlot]
  dsimp only
  rw [State.notify_boot]
  exact ⟨_, _, rfl⟩

theorem State.setSlot_boot_stage (s : State) (i : Nat) (st : SlotState) (reason : Nat) :
    (s.setSlot i st reason).boot.stage = s.boot.stage := by
  obtain ⟨_, _, h⟩ := s.setSlot_boot i st reason
  rw [h]

/-! ### Slots -/

section
variable {s : State} {i j : Nat}

theorem State.slot_congr {t : State} (h : t.boot = s.boot) (i : Nat) : t.slot i = s.slot i := by
  rw [State.slot, State.slot, h]

/-- A change of a slot. -/
def State.modSlot (s : State) (i : Nat) (f : ImageSlot → ImageSlot) : State :=
  { s with boot := { s.boot with slots := updateAt i f s.boot.slots } }

theorem State.slot_modSlot_self (f : ImageSlot → ImageSlot) (h : i < s.boot.slots.length) :
    (s.modSlot i f).slot i = f (s.slot i) := getD_updateAt_self _ h

theorem State.slot_modSlot_of_ne (f : ImageSlot → ImageSlot) (h : j ≠ i) : (s.modSlot i f).slot j = s.slot j :=
  getD_updateAt_of_ne h ..

theorem State.slot_setSlot (st : SlotState) (reason : Nat) :
    (s.setSlot i st reason).slot j = (s.modSlot i fun x => { x with state := st, reason := reason }).slot j := by
  obtain ⟨_, _, h⟩ := s.setSlot_boot i st reason
  rw [State.slot, h]
  rfl

theorem State.slot_setSlot_self (st : SlotState) (reason : Nat) (h : i < s.boot.slots.length) :
    (s.setSlot i st reason).slot i = { s.slot i with state := st, reason := reason } := by
  rw [State.slot_setSlot, State.slot_modSlot_self _ h]

theorem State.slot_setSlot_of_ne (st : SlotState) (reason : Nat) (h : j ≠ i) :
    (s.setSlot i st reason).slot j = s.slot j := by
  rw [State.slot_setSlot, State.slot_modSlot_of_ne _ h]

theorem State.length_slots_setSlot (st : SlotState) (reason : Nat) :
    (s.setSlot i st reason).boot.slots.length = s.boot.slots.length := by
  obtain ⟨_, _, h⟩ := s.setSlot_boot i st reason
  rw [h]
  exact length_updateAt ..

end

/-! ### Ostlers that start -/

/-- An ostler, where the node has it, runs. -/
def State.Runs (s : State) (i : Nat) : Prop := ∀ x, s.ostler i = some x → x.running = true

section
variable {s : State} {i j : Nat}

theorem State.runs_startOstler_self (s : State) (b : Bytes) (i : Nat) : (s.startOstler b i).Runs i := by
  intro x hx
  cases hi : s.ostler i with
  | none =>
    have hnone : ∀ o ∈ s.ostlers, ¬ (o.id == i) = true := List.find?_eq_none.mp hi
    have hsame : (s.startOstler b i).ostlers = s.ostlers := updateFirst_eq_self fun o ho hp => absurd hp (hnone o ho)
    rw [State.ostler, hsame, ← State.ostler, hi] at hx
    cases hx
  | some o =>
    have hid : (o.id == i) = true := (List.find?_some hi :)
    rw [State.ostler, State.startOstler, State.modOstler, find?_updateFirst hi hid] at hx
    obtain rfl := Option.some.inj hx
    rfl

theorem State.ostler_startOstler_of_ne (b : Bytes) (h : j ≠ i) : (s.startOstler b i).ostler j = s.ostler j := by
  refine find?_updateFirst_of_disjoint fun o ho => ?_
  have hid : o.id = i := eq_of_beq ho
  have hne : (o.id == j) = false := by rw [hid]; exact beq_false_of_ne (Ne.symm h)
  exact ⟨hne, hne⟩

theorem State.Runs.startOstler (h : s.Runs j) (b : Bytes) (i : Nat) : (s.startOstler b i).Runs j := by
  by_cases hji : j = i
  · exact hji ▸ s.runs_startOstler_self b j
  · rw [State.Runs, State.ostler_startOstler_of_ne b hji]
    exact h

theorem State.Runs.foldl_startOstler (b : Bytes) (js : List Nat) {s : State} (h : s.Runs i) :
    (js.foldl (fun t j => t.startOstler b j) s).Runs i := by
  induction js generalizing s with
  | nil => exact h
  | cons j js ih => exact ih (h.startOstler b j)

/-- Every ostler that is started runs, whichever are started after it (R352). -/
theorem State.runs_foldl_startOstler (b : Bytes) {js : List Nat} (h : i ∈ js) (s : State) :
    (js.foldl (fun t j => t.startOstler b j) s).Runs i := by
  induction js generalizing s with
  | nil => cases h
  | cons j js ih =>
    rcases List.mem_cons.mp h with rfl | hmem
    · exact .foldl_startOstler b js (s.runs_startOstler_self b i)
    · exact ih hmem _

end

end Sys2Proof.Machine
end

section
/-! O36. Bundles and images by mailbox: FW_LOAD, FW_START, RIM_WRITE, RIM_COMMIT and RIM_REJECT (R176, R333, R335, R336, R341,
R352). -/

namespace Sys2Proof.Machine

section
variable {s : State} {b : Mail} {n : Nat}

/-! ### FW_LOAD -/

theorem cmdFwLoad_eq (hlen : 8 ≤ b.body.length) (htotal : 1 ≤ le b.body 4 4) (hmax : le b.body 4 4 ≤ 33554432)
    (hfits : le b.body 0 4 + (b.body.length - 8) ≤ le b.body 4 4) :
    cmdFwLoad b s = okReply { s with boot := { s.boot with
      fwTotal := some (le b.body 4 4)
      fwPieces := (le b.body 0 4, b.body.drop 8) ::
        (if s.boot.fwTotal = some (le b.body 4 4) then s.boot.fwPieces else []) } } [] := by
  have hrange : (le b.body 4 4 == 0 || decide (33554432 < le b.body 4 4) ||
      decide (le b.body 4 4 < le b.body 0 4 + (b.body.drop 8).length)) = false := by
    simp
    omega
  rw [cmdFwLoad]
  dsimp only
  rw [if_neg (by omega), hrange, if_neg Bool.false_ne_true]
  simp only [beq_iff_eq]

/-! ### FW_START -/

theorem State.bundleCause_congr {t : State} (hfused : t.fused = s.fused) (himg : t.img = s.img)
    (hslots : t.boot.slots = s.boot.slots) (hforce : t.boot.inForce = s.boot.inForce) (x : Bytes) :
    t.bundleCause x = s.bundleCause x := by
  rw [State.bundleCause, State.bundleFits, State.slot, hfused, himg, hslots, hforce]
  rfl

theorem State.bundleCause_setStage (st : Nat) (x : Bytes) : (s.setStage st).bundleCause x = s.bundleCause x := by
  have hsame := s.setStage_same st
  obtain ⟨at_, hboot⟩ := s.setStage_boot st
  exact State.bundleCause_congr hsame.fused (hsame.img.eq rfl) (by rw [hboot]) (by rw [hboot]) x

theorem cmdFwStart_unstaged (htotal : s.boot.fwTotal = some n) (hstaged : stagedWhole s.boot.fwPieces n = false) :
    cmdFwStart b s = noReply s St.badParam 0x03 := by
  rw [cmdFwStart, htotal]
  simp [hstaged]

theorem cmdFwStart_passes (htotal : s.boot.fwTotal = some n) (hstaged : stagedWhole s.boot.fwPieces n = true)
    (hcause : s.bundleCause (stagedBytes s.boot.fwPieces n) = 0) :
    cmdFwStart b s = okReply ((s.setStage 7).passFirmware (stagedBytes s.boot.fwPieces n)) [] := by
  rw [cmdFwStart, htotal]
  simp [hstaged, State.bundleCause_setStage, hcause]

/-- FW_VERIFY has found a cause to refuse the bundle; the refusal is still to be logged (R340, R341). -/
def State.judged (s : State) (cause : Nat) : State :=
  { (s.setStage 7).overrun with boot := { (s.setStage 7).overrun.boot with
    fwCause := cause, rimReason := if cause = 0x09 then 0x09 else (s.setStage 7).boot.rimReason } }

/-- The refusal of a bundle is logged, a probation fails, and the node waits for another bundle (R341). -/
def State.refuseBundle (s : State) (cause : Nat) : State :=
  (((s.judged cause).note (unnamed 12 1 0 0 0)).failProbation
    (if cause = 0x09 then 0x09 else Config.probationReason 4 % 256)).setStage 6

theorem cmdFwStart_refused (htotal : s.boot.fwTotal = some n) (hstaged : stagedWhole s.boot.fwPieces n = true)
    (hcause : s.bundleCause (stagedBytes s.boot.fwPieces n) ≠ 0) : ∃ status detail, status ≠ St.ok ∧
    cmdFwStart b s = noReply (s.refuseBundle (s.bundleCause (stagedBytes s.boot.fwPieces n))) status detail := by
  refine ⟨1 + (Config.fwRefusal (s.bundleCause (stagedBytes s.boot.fwPieces n))).1 % 14,
    detailCodes.getD ((Config.fwRefusal (s.bundleCause (stagedBytes s.boot.fwPieces n))).2 % 23) 0,
    fun h => absurd h (by rw [St.ok]; omega), ?_⟩
  rw [cmdFwStart, htotal]
  simp only [hstaged, State.bundleCause_setStage, beq_iff_eq, if_neg hcause, Bool.not_true, Bool.false_eq_true, if_false]
  rfl

theorem State.refuseBundle_boot (s : State) (cause : Nat) :
    (s.refuseBundle cause).boot.stage = 6 ∧ (s.refuseBundle cause).boot.fwCause = cause := by
  refine ⟨State.setStage_boot_stage .., ?_⟩
  rw [State.refuseBundle, State.setStage_boot_fwCause, State.failProbation_boot_fwCause, State.note_boot]
  rfl

theorem State.refuseBundle_ostlers (s : State) (cause : Nat) : (s.refuseBundle cause).ostlers = s.ostlers := by
  have hjudged : (s.judged cause).ostlers = s.ostlers := (s.setStage_same 7).ostlers.eq rfl
  rw [State.refuseBundle, (State.setStage_same ..).ostlers.eq rfl, (State.failProbation_same ..).ostlers.eq rfl,
    State.note_ostlers, hjudged]

theorem State.refuseBundle_keeps (s : State) (cause : Nat) : s.host.Keeps (s.refuseBundle cause).host :=
  have hjudged : s.host.Keeps (s.judged cause).host := s.setStage_keeps 7
  hjudged.trans ((State.note_keeps ..).trans ((State.failProbation_keeps ..).trans (State.setStage_keeps ..)))

/-! ### A bundle that passes -/

theorem State.loadPrograms_boot (s : State) (x : Bytes) : (s.loadPrograms x).boot = s.boot :=
  (State.loadPrograms_same ..).boot.eq rfl

/-- O3 takes the programs whether or not a base die refuses one (R176). -/
theorem State.loadPrograms_programs (s : State) (x : Bytes) : (s.loadPrograms x).leases.programs = declaredAbis x := by
  have hsame : Same { out := true, regs := true, host := true, log := true }
      { s with leases := { s.leases with programs := declaredAbis x } } (s.loadPrograms x) :=
    .foldl (.refl ..) fun _ _ => State.note_same ..
  rw [hsame.leases.eq rfl]

theorem State.loadPrograms_keeps (s : State) (x : Bytes) : s.host.Keeps (s.loadPrograms x).host := by
  rw [State.loadPrograms]
  exact List.foldlRecOn (motive := fun (t : State) => s.host.Keeps t.host) _ _ (.refl _) fun _ ht _ _ =>
    ht.trans (State.note_keeps ..)

/-- The node whose ostlers have been started with a bundle that passes, its identity and secrets drawn (R274, R352). -/
def State.verified (s : State) (x : Bytes) : State :=
  let t := [5, 0, 2, 3, 4, 6, 7, 1].foldl (fun t i => t.startOstler x i) { s with rng := s.rng + 1 + 1 }
  { t with
    sec := { t.sec with
      deviceIdentity := Config.hkdfSha384 Config.deviceSecret [] (Config.sha384 x)
      wrapKey := Config.random 32 s.rng, connectSecret := Config.random 32 (s.rng + 1) }
    boot := { t.boot with bundle := some (le x 4 2, x), fwCause := 0, imageLock := true } }

theorem State.passFirmware_eq (s : State) (x : Bytes) :
    s.passFirmware x = (((s.verified x).loadPrograms x).setStage 8).enumerateCxl := rfl

theorem State.passFirmware_boot (s : State) (x : Bytes) : (s.passFirmware x).boot.stage = 8 ∧
    (s.passFirmware x).boot.imageLock = true ∧ (s.passFirmware x).boot.fwCause = 0 := by
  obtain ⟨at_, hboot⟩ := ((s.verified x).loadPrograms x).setStage_boot 8
  rw [State.passFirmware_eq, (State.enumerateCxl_same ..).boot.eq rfl, hboot, State.loadPrograms_boot]
  exact ⟨rfl, rfl, rfl⟩

theorem State.passFirmware_programs (s : State) (x : Bytes) : (s.passFirmware x).leases.programs = declaredAbis x := by
  rw [State.passFirmware_eq, (State.enumerateCxl_same ..).leases.eq rfl, (State.setStage_same ..).leases.eq rfl,
    State.loadPrograms_programs]

/-- FW_START starts all eight ostlers (R352). -/
theorem State.passFirmware_runs (s : State) (x : Bytes) {i : Nat} (hi : i ≤ 7) : (s.passFirmware x).Runs i := by
  have hmem : i ∈ [5, 0, 2, 3, 4, 6, 7, 1] := by simp; omega
  have hostlers : (s.passFirmware x).ostlers = (s.verified x).ostlers := by
    rw [State.passFirmware_eq, (State.enumerateCxl_same ..).ostlers.eq rfl, (State.setStage_same ..).ostlers.eq rfl,
      (State.loadPrograms_same ..).ostlers.eq rfl]
  rw [State.Runs, State.ostler, hostlers]
  exact State.runs_foldl_startOstler x hmem { s with rng := s.rng + 1 + 1 }

theorem State.passFirmware_keeps (s : State) (x : Bytes) : s.host.Keeps (s.passFirmware x).host := by
  have hverified : Same { rng := true, ostlers := true, sec := true, boot := true } s (s.verified x) := by
    refine Same.update (.foldl (Same.update (.refl ..)) fun _ _ => ?_)
    exact (State.startOstler_same ..).mono rfl
  rw [State.passFirmware_eq, (State.enumerateCxl_same ..).host.eq rfl]
  exact (Host_.Keeps.of_eq (hverified.host.eq rfl)).trans ((State.loadPrograms_keeps ..).trans (State.setStage_keeps ..))

end

/-! ### Images -/

section
variable {s : State} {b : Mail}

theorem State.slotWritable_iff (s : State) (i : Nat) :
    s.slotWritable i = true ↔ i ≤ 1 ∧ (s.slot i).state ≠ .active ∧ (s.slot i).state ≠ .probation := by
  simp [State.slotWritable, and_assoc]

/-- The slot that RIM_WRITE writes into: it holds no committed image any more (R333; log 81). -/
def State.emptied (s : State) (i : Nat) : State := if (s.slot i).state = .empty then s else s.setSlot i .empty 0

theorem cmdRimWrite_eq (hprobation : s.slotIn .probation = none) (hlen : 8 ≤ b.body.length)
    (hwritable : s.slotWritable (le b.body 0 1) = true) (hfits : le b.body 4 4 + (b.body.length - 8) ≤ 25165824) :
    cmdRimWrite b s = okReply ((s.emptied (le b.body 0 1)).modSlot (le b.body 0 1) fun x =>
      { x with bytes := Memory.writeBytes x.bytes (le b.body 4 4) (b.body.drop 8) }) [] := by
  rw [cmdRimWrite, hprobation, State.emptied]
  dsimp only
  rw [if_neg (by simp), if_neg (by omega), hwritable, if_neg (by simp; omega)]
  simp only [decide_eq_true_eq]
  rfl

section
variable {i : Nat}

theorem State.emptied_keeps (s : State) (i : Nat) : s.host.Keeps (s.emptied i).host := by
  rw [State.emptied]
  split
  · exact .refl _
  · exact State.setSlot_keeps ..

theorem State.emptied_boot_stage (s : State) (i : Nat) : (s.emptied i).boot.stage = s.boot.stage := by
  rw [State.emptied]
  split
  · rfl
  · exact State.setSlot_boot_stage ..

theorem State.length_slots_emptied (s : State) (i : Nat) : (s.emptied i).boot.slots.length = s.boot.slots.length := by
  rw [State.emptied]
  split
  · rfl
  · exact State.length_slots_setSlot ..

theorem State.slot_emptied_self (h : i < s.boot.slots.length) :
    ((s.emptied i).slot i).state = .empty ∧ ((s.emptied i).slot i).bytes = (s.slot i).bytes := by
  rw [State.emptied]
  split
  · next hempty => exact ⟨hempty, rfl⟩
  · rw [State.slot_setSlot_self _ _ h]
    exact ⟨rfl, rfl⟩

theorem State.slot_emptied_of_ne {j : Nat} (h : j ≠ i) : (s.emptied i).slot j = s.slot j := by
  rw [State.emptied]
  split
  · rfl
  · exact State.slot_setSlot_of_ne _ _ h

end

/-- A slot with the version and the security epoch of the image in it (R326). -/
def ImageSlot.described (x : ImageSlot) (image : List Host.Cell) : ImageSlot :=
  { x with version := imgNat image 12 4, epoch := imgNat image 16 1 % 128 }

/-- A committed image is judged: its slot is PENDING, or FAILED with the REASON (R333, R336). -/
def State.committed (s : State) (i reason : Nat) : State :=
  (s.modSlot i fun x => x.described (s.slot i).bytes).setSlot i (if reason == 0 then .pending else .failed) reason

theorem State.committed_boot_stage (s : State) (i reason : Nat) : (s.committed i reason).boot.stage = s.boot.stage :=
  State.setSlot_boot_stage ..

theorem State.committed_keeps (s : State) (i reason : Nat) : s.host.Keeps (s.committed i reason).host :=
  State.setSlot_keeps (s.modSlot i fun x => x.described (s.slot i).bytes) ..

theorem State.slot_committed_self {i reason : Nat} (h : i < s.boot.slots.length) :
    ((s.committed i reason).slot i).state = (if reason = 0 then .pending else .failed) ∧
      ((s.committed i reason).slot i).reason = reason := by
  have hlt : i < (s.modSlot i fun x => x.described (s.slot i).bytes).boot.slots.length := by
    rw [State.modSlot, length_updateAt]; exact h
  rw [State.committed, State.slot_setSlot_self _ _ hlt]
  simp only [beq_iff_eq, and_self]

theorem State.slot_committed_of_ne {i j reason : Nat} (h : j ≠ i) : (s.committed i reason).slot j = s.slot j := by
  rw [State.committed, State.slot_setSlot_of_ne _ _ h, State.slot_modSlot_of_ne _ h]

theorem cmdRimCommit_eq {i r : Nat} (hi : i = le b.body 0 1) (hr : r = s.imgReason (s.slot i).bytes (le b.body 4 4))
    (hprobation : s.slotIn .probation = none) (hlen : b.body.length = 8) (hwritable : s.slotWritable i = true)
    (hstage : s.boot.stage ≠ 14) : cmdRimCommit b s =
      okReply (s.committed i r) (toLe 1 ((s.committed i r).slot i).state.code ++ toLe 1 r) := by
  subst hi
  have hstays : (r == 0 && (s.committed (le b.body 0 1) r).boot.stage == 14) = false := by
    rw [State.committed_boot_stage, beq_false_of_ne hstage, Bool.and_false]
  have hcommit : cmdRimCommit b s =
      let t := if r == 0 && (s.committed (le b.body 0 1) r).boot.stage == 14 then (s.committed (le b.body 0 1) r).setStage 3
        else s.committed (le b.body 0 1) r
      okReply t (toLe 1 (t.slot (le b.body 0 1)).state.code ++ toLe 1 r) := by
    rw [cmdRimCommit, hprobation, hlen, hwritable, hr]
    rfl
  rw [hcommit, hstays]
  rfl

end

/-! ### The commands -/

section
variable {s : State} {m : Mbx} {b : Mail} {n : Nat}

theorem runCommand_fwLoad (h : b.opcode = 0x02) : runCommand b s = cmdFwLoad b s := by
  rw [runCommand, h]
  rfl

theorem runCommand_fwStart (h : b.opcode = 0x03) : runCommand b s = cmdFwStart b s := by
  rw [runCommand, h]
  rfl

theorem runCommand_rimWrite (h : b.opcode = 0x10) : runCommand b s = cmdRimWrite b s := by
  rw [runCommand, h]
  rfl

theorem runCommand_rimCommit (h : b.opcode = 0x11) : runCommand b s = cmdRimCommit b s := by
  rw [runCommand, h]
  rfl

theorem runCommand_rimReject (h : b.opcode = 0x12) : runCommand b s = cmdRimReject b s := by
  rw [runCommand, h]
  rfl

/-- A piece of a bundle is staged; another TOTAL starts the load afresh (R352). -/
theorem fwLoad_stages (h : Asked s m 0x02 b) (hlen : 8 ≤ b.body.length) (htotal : 1 ≤ le b.body 4 4)
    (hmax : le b.body 4 4 ≤ 33554432) (hfits : le b.body 0 4 + (b.body.length - 8) ≤ le b.body 4 4) :
    Answers (exec (.fwLoad m) s) fun t => t.answered b St.ok [] ∧ t.boot.fwTotal = some (le b.body 4 4) ∧
      t.boot.fwPieces = (le b.body 0 4, b.body.drop 8) ::
        (if s.boot.fwTotal = some (le b.body 4 4) then s.boot.fwPieces else []) ∧ t.boot.stage = s.boot.stage := by
  refine h.answers (by decide) fun H hH => ?_
  rw [runCommand_fwLoad h.rung.opcode_eq, cmdFwLoad_eq hlen htotal hmax hfits]
  refine ⟨hH, fun t hsame hanswered => ?_⟩
  beta_reduce
  rw [hsame.boot.eq rfl]
  exact ⟨hanswered, rfl, rfl, rfl⟩

/-- FW_START of a bundle that is not whole (R352). -/
theorem fwStart_unstaged (h : Asked s m 0x03 b) (htotal : s.boot.fwTotal = some n)
    (hstaged : stagedWhole s.boot.fwPieces n = false) :
    Answers (exec (.fwStart m) s) fun t => t.answered b St.badParam [] ∧ t.boot = s.boot := by
  refine h.answers (by decide) fun H hH => ?_
  rw [runCommand_fwStart h.rung.opcode_eq, cmdFwStart_unstaged (s := { s with host := H }) htotal hstaged]
  exact ⟨hH, fun t hsame hanswered => ⟨hanswered, hsame.boot.eq rfl⟩⟩

/-- FW_START of a bundle that passes (R176, R341, R352). -/
theorem fwStart_passes (h : Asked s m 0x03 b) (htotal : s.boot.fwTotal = some n)
    (hstaged : stagedWhole s.boot.fwPieces n = true) (hcause : s.bundleCause (stagedBytes s.boot.fwPieces n) = 0) :
    Answers (exec (.fwStart m) s) fun t => t.boot.stage = 8 ∧ t.boot.imageLock = true ∧ t.boot.fwCause = 0 ∧
      (∀ i x, i ≤ 7 → t.ostler i = some x → x.running = true) ∧
      t.leases.programs = declaredAbis (stagedBytes s.boot.fwPieces n) ∧ t.answered b St.ok [] := by
  refine h.answers (by decide) fun H hH => ?_
  rw [runCommand_fwStart h.rung.opcode_eq, cmdFwStart_passes (s := { s with host := H }) htotal hstaged hcause]
  refine ⟨(State.passFirmware_keeps ..).rests ((State.setStage_keeps ..).rests hH), fun t hsame hanswered => ?_⟩
  obtain ⟨hstage, hlock, hfw⟩ := State.passFirmware_boot ({ s with host := H }.setStage 7) (stagedBytes s.boot.fwPieces n)
  rw [hsame.boot.eq rfl, hsame.leases.eq rfl]
  refine ⟨hstage, hlock, hfw, fun i x hi hx => ?_, State.passFirmware_programs .., hanswered⟩
  rw [State.ostler, hsame.ostlers.eq rfl] at hx
  exact State.passFirmware_runs _ _ hi x hx

/-- FW_START of a bundle that fails a check (R341, R352). -/
theorem fwStart_refused (h : Asked s m 0x03 b) (htotal : s.boot.fwTotal = some n)
    (hstaged : stagedWhole s.boot.fwPieces n = true) (hcause : s.bundleCause (stagedBytes s.boot.fwPieces n) ≠ 0) :
    Answers (exec (.fwStart m) s) fun t => t.boot.stage = 6 ∧
      t.boot.fwCause = s.bundleCause (stagedBytes s.boot.fwPieces n) ∧
      t.ostlers = s.ostlers ∧ ∃ st, st ≠ St.ok ∧ t.answered b st [] := by
  refine h.answers (by decide) fun H hH => ?_
  obtain ⟨status, detail, hstatus, hreply⟩ := cmdFwStart_refused (s := { s with host := H }) (b := b) htotal hstaged hcause
  rw [runCommand_fwStart h.rung.opcode_eq, hreply]
  refine ⟨(State.refuseBundle_keeps ..).rests hH, fun t hsame hanswered => ?_⟩
  obtain ⟨hstage, hfw⟩ := State.refuseBundle_boot { s with host := H } (s.bundleCause (stagedBytes s.boot.fwPieces n))
  rw [hsame.boot.eq rfl, hsame.ostlers.eq rfl]
  exact ⟨hstage, hfw, State.refuseBundle_ostlers .., status, hstatus, hanswered⟩

/-- RIM_WRITE into a slot that is neither ACTIVE nor on PROBATION (R333, R336). -/
theorem rimWrite_writes (h : Asked s m 0x10 b) (hprobation : s.slotIn .probation = none) (hlen : 8 ≤ b.body.length)
    (hwritable : s.slotWritable (le b.body 0 1) = true) (hslots : s.boot.slots.length = 2)
    (hfits : le b.body 4 4 + (b.body.length - 8) ≤ 25165824) :
    Answers (exec (.rimWrite m) s) fun t =>
      t.answered b St.ok [] ∧ (t.slot (le b.body 0 1)).state = .empty ∧
      (t.slot (le b.body 0 1)).bytes = Memory.writeBytes (s.slot (le b.body 0 1)).bytes (le b.body 4 4) (b.body.drop 8) ∧
      t.slot (1 - le b.body 0 1) = s.slot (1 - le b.body 0 1) ∧ t.boot.stage = s.boot.stage := by
  obtain ⟨hi, -, -⟩ := (s.slotWritable_iff _).mp hwritable
  have hlt : le b.body 0 1 < s.boot.slots.length := by omega
  have hother : 1 - le b.body 0 1 ≠ le b.body 0 1 := by omega
  refine h.answers (by decide) fun H hH => ?_
  rw [runCommand_rimWrite h.rung.opcode_eq, cmdRimWrite_eq (s := { s with host := H }) hprobation hlen hwritable hfits]
  refine ⟨(State.emptied_keeps ..).rests hH, fun t hsame hanswered => ?_⟩
  have hlt' : le b.body 0 1 < (State.emptied { s with host := H } (le b.body 0 1)).boot.slots.length := by
    rw [State.length_slots_emptied]; exact hlt
  obtain ⟨hempty, hbytes⟩ := State.slot_emptied_self (s := { s with host := H }) hlt
  have hslot := State.slot_congr (hsame.boot.eq rfl)
  beta_reduce
  rw [hslot, hslot, hsame.boot.eq rfl]
  have hself := State.slot_modSlot_self (fun x : ImageSlot =>
    { x with bytes := Memory.writeBytes x.bytes (le b.body 4 4) (b.body.drop 8) }) hlt'
  refine ⟨hanswered, (congrArg ImageSlot.state hself).trans hempty, (congrArg ImageSlot.bytes hself).trans ?_,
    (State.slot_modSlot_of_ne _ hother).trans (State.slot_emptied_of_ne hother), State.emptied_boot_stage ..⟩
  exact congrArg (Memory.writeBytes · (le b.body 4 4) (b.body.drop 8)) hbytes

/-- RIM_COMMIT judges the image of a slot (R333, R336). -/
theorem rimCommit_judges {r : Nat} (h : Asked s m 0x11 b) (hprobation : s.slotIn .probation = none) (hlen : b.body.length = 8)
    (hwritable : s.slotWritable (le b.body 0 1) = true) (hslots : s.boot.slots.length = 2) (hstage : s.boot.stage ≠ 14)
    (hr : r = s.imgReason (s.slot (le b.body 0 1)).bytes (le b.body 4 4)) :
    Answers (exec (.rimCommit m) s) fun t =>
      t.answered b St.ok (toLe 1 (t.slot (le b.body 0 1)).state.code ++ toLe 1 r) ∧
      (t.slot (le b.body 0 1)).state = (if r = 0 then .pending else .failed) ∧ (t.slot (le b.body 0 1)).reason = r ∧
      t.slot (1 - le b.body 0 1) = s.slot (1 - le b.body 0 1) := by
  obtain ⟨hi, -, -⟩ := (s.slotWritable_iff _).mp hwritable
  have hlt : le b.body 0 1 < s.boot.slots.length := by omega
  have hother : 1 - le b.body 0 1 ≠ le b.body 0 1 := by omega
  refine h.answers (by decide) fun H hH => ?_
  rw [runCommand_rimCommit h.rung.opcode_eq, cmdRimCommit_eq (s := { s with host := H }) rfl hr hprobation hlen hwritable hstage]
  refine ⟨(State.committed_keeps ..).rests hH, fun t hsame hanswered => ?_⟩
  have hslot := State.slot_congr (hsame.boot.eq rfl)
  beta_reduce
  rw [hslot, hslot]
  obtain ⟨hstate, hreason⟩ := State.slot_committed_self (s := { s with host := H }) (reason := r) hlt
  exact ⟨hanswered, hstate, hreason, State.slot_committed_of_ne hother⟩

theorem refuseRim_delivers (hH : s.host.Rests) : s.refuseRim.Delivers b fun t =>
    t.answered b St.denied [] ∧ t.boot = { s.boot with rimReason := 0x0B } :=
  ⟨hH, fun _ hsame hanswered => ⟨hanswered, hsame.boot.eq rfl⟩⟩

/-- RIM_WRITE during a probation (R336). -/
theorem rimWrite_refused (h : Asked s m 0x10 b) (hprobation : ∃ i, s.slotIn .probation = some i) :
    Answers (exec (.rimWrite m) s) fun t =>
      t.answered b St.denied [] ∧ t.boot = { s.boot with rimReason := 0x0B } := by
  obtain ⟨i, hi⟩ := hprobation
  refine h.answers (by decide) fun H hH => ?_
  have hreply : cmdRimWrite b { s with host := H } = State.refuseRim { s with host := H } :=
    if_pos (Option.isSome_iff_exists.mpr ⟨i, hi⟩)
  rw [runCommand_rimWrite h.rung.opcode_eq, hreply]
  exact refuseRim_delivers hH

/-- RIM_COMMIT during a probation (R336). -/
theorem rimCommit_refused (h : Asked s m 0x11 b) (hprobation : ∃ i, s.slotIn .probation = some i) :
    Answers (exec (.rimCommit m) s) fun t =>
      t.answered b St.denied [] ∧ t.boot = { s.boot with rimReason := 0x0B } := by
  obtain ⟨i, hi⟩ := hprobation
  refine h.answers (by decide) fun H hH => ?_
  have hreply : cmdRimCommit b { s with host := H } = State.refuseRim { s with host := H } :=
    if_pos (Option.isSome_iff_exists.mpr ⟨i, hi⟩)
  rw [runCommand_rimCommit h.rung.opcode_eq, hreply]
  exact refuseRim_delivers hH

/-- RIM_REJECT ends a probation (R335). -/
theorem rimReject_ends (h : Asked s m 0x12 b) (hprobation : s.boot.probationEnd ≠ none)
    (hforce : s.boot.inForce < s.boot.slots.length) :
    Answers (exec (.rimReject m) s) fun t =>
      t.answered b St.ok [] ∧ (t.slot s.boot.inForce).state = .failed ∧ t.boot.probationEnd = none ∧
      t.boot.stage = s.boot.stage := by
  refine h.answers (by decide) fun H hH => ?_
  rw [runCommand_rimReject h.rung.opcode_eq, cmdRimReject]
  refine ⟨(State.failProbation_keeps ..).rests hH, fun t hsame hanswered => ?_⟩
  obtain ⟨ctrl, hboot⟩ := State.failProbation_boot (s := { s with host := H }) hprobation (Config.probationReason 3 % 256)
  rw [State.slot, (hsame.boot.eq rfl).trans hboot]
  refine ⟨hanswered, ?_, rfl, rfl⟩
  rw [getD_updateAt_self _ hforce]

end

/-- Settles O36: each command runs on a state that differs from the exchange's first in the host interface alone
(`Asked.answers`), and what it makes of that state is said by its equation: what FW_START does after its checks keeps the verdict
(the status of a refusal is free, log 48), and a RIM command changes the slot that it names and no other (log 81). -/
theorem firmwareAndImagesAreLoaded : Obligations.FirmwareAndImagesAreLoaded := by
  unfold Obligations.FirmwareAndImagesAreLoaded
  intro m s b
  refine ⟨fwLoad_stages, fun h _ n htotal => ⟨fwStart_unstaged h htotal, fwStart_passes h htotal, fwStart_refused h htotal⟩,
    rimWrite_writes, ?_, ⟨rimWrite_refused, rimCommit_refused⟩, rimReject_ends⟩
  intro h hprobation hlen hwritable hslots hstage r hr
  exact rimCommit_judges h hprobation hlen hwritable hslots hstage hr

end Sys2Proof.Machine
end

section
/-! SUPPORT. Connections: how a lookup sees an update, and what work on one connection leaves alone: sending, the places of
contexts (R212, R213), and the way into ERROR (R216). -/

namespace Sys2Proof.Machine

/-! ### Lookups -/

section
variable {α β : Type} {p r : α → Bool} {f : α → α} {g : α → β} {x : α} {xs : List α}

/-- An update that leaves the element which it selects as it is changes nothing. -/
theorem updateFirst_of_find (h : xs.find? p = some x) (hf : f x = x) : updateFirst p f xs = xs := by
  induction xs with
  | nil => rfl
  | cons y ys ih =>
    by_cases hy : p y = true
    · obtain rfl : y = x := by simpa [hy] using h
      simp [updateFirst, hy, hf]
    · simp [updateFirst, hy, ih (by simpa [hy] using h)]

/-- What is read off the elements of a kind stays, if the updated element keeps its kind and what is read off it. -/
theorem map_filter_updateFirst (h : xs.find? p = some x) (hr : r (f x) = r x) (hg : g (f x) = g x) :
    ((updateFirst p f xs).filter r).map g = (xs.filter r).map g := by
  induction xs with
  | nil => rfl
  | cons y ys ih =>
    by_cases hy : p y = true
    · obtain rfl : y = x := by simpa [hy] using h
      by_cases hx : r y = true <;> simp [updateFirst, hy, hr, hx, hg]
    · have hys := ih (by simpa [hy] using h)
      by_cases hx : r y = true <;> simp [updateFirst, hy, hx, hys]

end

section
variable {s t : State} {n m : Nat} {q : Qp} {f : Qp → Qp}

theorem State.qpn_of_qp (h : s.qp n = some q) : q.qpn = n := by simpa using List.find?_some h

theorem State.qp_of_qps (h : t.net.qps = s.net.qps) (n : Nat) : t.qp n = s.qp n := by rw [State.qp, h, ← State.qp]

theorem State.qp_modQp (h : s.qp n = some q) (hf : (f q).qpn = n) : (s.modQp n f).qp n = some (f q) :=
  find?_updateFirst h (by simpa using hf)

theorem State.qp_modQp_of_ne (hf : ∀ x, x.qpn = n → (f x).qpn = n) (h : m ≠ n) : (s.modQp n f).qp m = s.qp m := by
  refine find?_updateFirst_of_disjoint fun y hy => ?_
  have hn : y.qpn = n := by simpa using hy
  simp [hn, hf y hn, Ne.symm h]

theorem State.modQp_of_qp (h : s.qp n = some q) (hf : f q = q) : s.modQp n f = s := by
  rw [State.modQp, updateFirst_of_find h hf]

end

/-! ### Places of contexts (R212, R213, R215) -/

/-- The node with other contexts cached, under eviction and under fetch. -/
def State.withPlaces (s : State) (cached evicting : List Nat) (fetches : List (Nat × Nat)) : State :=
  { s with net := { s.net with cached := cached, evicting := evicting, fetches := fetches } }

section
variable (s : State) (n : Nat)

theorem State.makeRoom_eq : ∃ c e f, s.makeRoom = s.withPlaces c e f := by
  rw [State.makeRoom]
  split
  · split
    · exact ⟨_, _, _, rfl⟩
    · exact ⟨_, _, _, rfl⟩
  · exact ⟨_, _, _, rfl⟩

theorem State.touchContext_eq : ∃ c, s.touchContext n = s.withPlaces c s.net.evicting s.net.fetches := by
  rw [State.touchContext]
  split
  · exact ⟨_, rfl⟩
  · exact ⟨_, rfl⟩

theorem State.startFetch_eq (port : Nat) : ∃ c e f, s.startFetch port n = s.withPlaces c e f := by
  rw [State.startFetch]
  split
  · exact ⟨_, _, _, rfl⟩
  · obtain ⟨c, e, f, h⟩ := State.makeRoom_eq { s with net := { s.net with fetches := s.net.fetches ++ [(port, n)] } }
    exact ⟨c, e, f, h⟩

theorem State.atHand_eq {s t : State} {n : Nat} (h : s.atHand n = some t) : ∃ c e f, t = s.withPlaces c e f := by
  rw [State.atHand] at h
  split at h
  · obtain ⟨c, hc⟩ := s.touchContext_eq n
    exact ⟨c, _, _, (Option.some.inj h).symm.trans hc⟩
  · split at h
    · obtain ⟨c, e, f, hroom⟩ := State.makeRoom_eq
        { s with net := { s.net with evicting := s.net.evicting.filter (· != n), cached := s.net.cached ++ [n] } }
      exact ⟨c, e, f, (Option.some.inj h).symm.trans hroom⟩
    · cases h

end

/-! ### Work on one connection -/

/-- `t` comes from `s` by work on connection `n` alone, which `P` describes: of the network the connection and the places of
contexts may differ, and besides it the schedulers. -/
structure OnConn (P : Qp → Qp → Prop) (n : Nat) (s t : State) : Prop where
  same : Same { net := true, sch := true } s t
  net : t.net = { s.net with qps := t.net.qps, cached := t.net.cached, evicting := t.net.evicting, fetches := t.net.fetches }
  own : ∀ q, s.qp n = some q → ∃ x, t.qp n = some x ∧ P q x
  other : ∀ m, m ≠ n → t.qp m = s.qp m

section
variable {P : Qp → Qp → Prop} {n : Nat} {s t u : State} {q : Qp} {f : Qp → Qp}

theorem OnConn.of_qps (hP : ∀ x, P x x) (hsame : Same { net := true, sch := true } s t)
    (hnet : t.net = { s.net with cached := t.net.cached, evicting := t.net.evicting, fetches := t.net.fetches }) :
    OnConn P n s t := by
  have hqps : t.net.qps = s.net.qps := by rw [hnet]
  refine ⟨hsame, ?_, fun q hq => ⟨q, ?_, hP q⟩, fun m _ => State.qp_of_qps hqps m⟩
  · rw [hqps]; exact hnet
  · rwa [State.qp_of_qps hqps]

theorem OnConn.refl (hP : ∀ x, P x x) (s : State) : OnConn P n s s := .of_qps hP (Same.refl _ _) rfl

theorem OnConn.trans (hP : ∀ {x y z}, P x y → P y z → P x z) (h : OnConn P n s t) (k : OnConn P n t u) : OnConn P n s u := by
  refine ⟨h.same.trans k.same, ?_, fun q hq => ?_, fun m hm => (k.other m hm).trans (h.other m hm)⟩
  · rw [k.net, h.net]
  · obtain ⟨x, hx, hqx⟩ := h.own q hq
    obtain ⟨y, hy, hxy⟩ := k.own x hx
    exact ⟨y, hy, hP hqx hxy⟩

theorem OnConn.mono {Q : Qp → Qp → Prop} (h : OnConn P n s t) (hPQ : ∀ x y, P x y → Q x y) : OnConn Q n s t :=
  ⟨h.same, h.net, fun q hq => (h.own q hq).imp fun x hx => ⟨hx.1, hPQ q x hx.2⟩, h.other⟩

theorem OnConn.withPlaces (hP : ∀ x, P x x) (s : State) (c e : List Nat) (f : List (Nat × Nat)) :
    OnConn P n s (s.withPlaces c e f) := .of_qps hP (.update (.refl _ _)) rfl

theorem OnConn.egress (hP : ∀ x, P x x) (s : State) (link tc paddock : Nat) (f : OutFrame) :
    OnConn P n s (s.egress link tc paddock f) := .of_qps hP ((State.egress_same ..).mono rfl) rfl

theorem OnConn.modQp (hP : ∀ q, s.qp n = some q → P q (f q)) (hf : ∀ x, x.qpn = n → (f x).qpn = n) :
    OnConn P n s (s.modQp n f) :=
  ⟨(State.modQp_same ..).mono rfl, rfl, fun q hq => ⟨f q, State.qp_modQp hq (hf q (State.qpn_of_qp hq)), hP q hq⟩,
    fun _ hm => State.qp_modQp_of_ne hf hm⟩

theorem OnConn.time (h : OnConn P n s t) : t.time = s.time := h.same.time.eq rfl
theorem OnConn.img (h : OnConn P n s t) : t.img = s.img := h.same.img.eq rfl
theorem OnConn.inbox (h : OnConn P n s t) : t.net.inbox = s.net.inbox := by rw [h.net]

end

/-! ### What goes out (R188, R213, R219) -/

/-- Of a connection, only the control packets that wait and the count of sealed packets differ. -/
def Qp.SealedAs (q x : Qp) : Prop := ∃ c k, x = { q with tx := { q.tx with control := c, txCount := k } }

theorem Qp.SealedAs.refl (q : Qp) : q.SealedAs q := ⟨_, _, rfl⟩

theorem Qp.SealedAs.trans {q x y : Qp} (h : q.SealedAs x) (k : x.SealedAs y) : q.SealedAs y := by
  obtain ⟨c, k, rfl⟩ := h
  obtain ⟨c', k', rfl⟩ := k
  exact ⟨c', k', rfl⟩

theorem Qp.SealedAs.of_seal {q x : Qp} {header payload bytes : Bytes} (h : q.seal header payload = (bytes, x)) : q.SealedAs x := by
  rw [Qp.seal] at h
  split at h
  · exact (Prod.mk.inj h).2 ▸ ⟨_, _, rfl⟩
  · exact (Prod.mk.inj h).2 ▸ .refl q

theorem Qp.SealedAs.qpn {q x : Qp} (h : q.SealedAs x) : x.qpn = q.qpn := by
  obtain ⟨c, k, rfl⟩ := h
  rfl

/-- Storing a connection once a packet of it is sealed. -/
theorem OnConn.storeSealed {s : State} {n : Nat} {q x : Qp} (hq : s.qp n = some q) (hseal : q.SealedAs x) :
    OnConn Qp.SealedAs n s (s.modQp n fun _ => x) := by
  refine .modQp (fun y hy => ?_) fun _ _ => hseal.qpn.trans (State.qpn_of_qp hq)
  obtain rfl : y = q := Option.some.inj (hy.symm.trans hq)
  exact hseal

theorem State.control_onConn (s : State) (n type psn offset : Nat) : OnConn Qp.SealedAs n s (s.control n type psn offset) := by
  rw [State.control]
  cases hq : s.qp n with
  | none => exact .refl .refl s
  | some q =>
    dsimp only
    cases hhand : s.atHand n with
    | none =>
      have hwait : OnConn Qp.SealedAs n s
          (s.modQp n fun x => { x with tx := { x.tx with control := x.tx.control ++ [(type, psn, offset)] } }) :=
        .modQp (fun _ _ => ⟨_, _, rfl⟩) fun _ h => h
      obtain ⟨c, e, f, hfetch⟩ := (s.modQp n fun x =>
        { x with tx := { x.tx with control := x.tx.control ++ [(type, psn, offset)] } }).startFetch_eq n (q.homePort / 4)
      exact hwait.trans .trans (hfetch ▸ .withPlaces .refl ..)
    | some t =>
      obtain ⟨c, e, f, rfl⟩ := State.atHand_eq hhand
      have hplaces : OnConn Qp.SealedAs n s (s.withPlaces c e f) := .withPlaces .refl ..
      dsimp only
      generalize hseal : q.seal _ _ = sealed
      exact (hplaces.trans .trans (.storeSealed hq (.of_seal hseal))).trans .trans (.egress .refl ..)

theorem State.sendPkt_onConn (s : State) (n : Nat) (p : OutPkt) (first : Bool) :
    OnConn Qp.SealedAs n s (s.sendPkt n p first) := by
  rw [State.sendPkt]
  cases hq : s.qp n with
  | none => exact .refl .refl s
  | some q =>
    dsimp only
    generalize hseal : q.seal _ _ = sealed
    obtain ⟨c, hc⟩ := (s.modQp n fun _ => sealed.2).touchContext_eq n
    rw [hc]
    exact ((OnConn.storeSealed hq (.of_seal hseal)).trans .trans (.withPlaces .refl ..)).trans .trans (.egress .refl ..)

/-- Of a connection, what an ACK resets differs besides (R201). -/
def Qp.AckedAs (q x : Qp) : Prop := ∃ c k since due last, x = { q with
  tx := { q.tx with control := c, txCount := k }, rx := { q.rx with sinceAck := since, ackAt := due, lastAck := last } }

theorem Qp.AckedAs.refl (q : Qp) : q.AckedAs q := ⟨_, _, _, _, _, rfl⟩

theorem Qp.AckedAs.trans {q x y : Qp} (h : q.AckedAs x) (k : x.AckedAs y) : q.AckedAs y := by
  obtain ⟨c, k, a, b, d, rfl⟩ := h
  obtain ⟨c', k', a', b', d', rfl⟩ := k
  exact ⟨c', k', a', b', d', rfl⟩

theorem Qp.SealedAs.acked {q x : Qp} (h : q.SealedAs x) : q.AckedAs x := by
  obtain ⟨c, k, rfl⟩ := h
  exact ⟨c, k, _, _, _, rfl⟩

/-- A connection whose ACK goes out now (R201). -/
def Qp.acking (now : Nat) (q : Qp) : Qp := { q with rx := { q.rx with sinceAck := 0, ackAt := none, lastAck := some now } }

theorem State.sendAck_eq {s : State} {n : Nat} {q : Qp} (hq : s.qp n = some q) :
    s.sendAck n = (s.modQp n (Qp.acking s.time)).control n 1 ((s.modQp n (Qp.acking s.time)).ackPsn q) 0 := by
  rw [State.sendAck, hq]
  rfl

theorem State.sendAck_onConn (s : State) (n : Nat) : OnConn Qp.AckedAs n s (s.sendAck n) := by
  cases hq : s.qp n with
  | none => rw [State.sendAck, hq]; exact .refl .refl s
  | some q =>
    rw [State.sendAck_eq hq]
    have hack : OnConn Qp.AckedAs n s (s.modQp n (Qp.acking s.time)) :=
      .modQp (fun _ _ => ⟨_, _, _, _, _, rfl⟩) fun _ h => h
    exact hack.trans .trans ((State.control_onConn ..).mono fun _ _ => Qp.SealedAs.acked)

/-! ### What waits to be sent (R187, R197, R198, R204) -/

/-- Of a connection, its sending side and the end of its hold differ, and requests may have given up their slots; a DISCONNECT that
was sent stays sent. -/
def Qp.PumpedAs (q x : Qp) : Prop := ∃ tx used hold, x = { q with tx := tx, stateUntil := hold, rx := { q.rx with used := used } } ∧
  (∀ u ∈ used, u ∈ q.rx.used) ∧ (q.tx.sentDisconnect = true → tx.sentDisconnect = true)

theorem Qp.PumpedAs.of_tx {q : Qp} {tx : TxSide} (h : q.tx.sentDisconnect = true → tx.sentDisconnect = true) :
    q.PumpedAs { q with tx := tx } := ⟨tx, _, _, rfl, fun _ hu => hu, h⟩

theorem Qp.PumpedAs.refl (q : Qp) : q.PumpedAs q := .of_tx id

theorem Qp.PumpedAs.trans {q x y : Qp} (h : q.PumpedAs x) (k : x.PumpedAs y) : q.PumpedAs y := by
  obtain ⟨tx, used, hold, rfl, hused, hsent⟩ := h
  obtain ⟨tx', used', hold', rfl, hused', hsent'⟩ := k
  exact ⟨tx', used', hold', rfl, fun u hu => hused u (hused' u hu), fun h => hsent' (hsent h)⟩

theorem Qp.SealedAs.pumped {q x : Qp} (h : q.SealedAs x) : q.PumpedAs x := by
  obtain ⟨c, k, rfl⟩ := h
  exact .of_tx id

theorem Qp.PumpedAs.qpn {q x : Qp} (h : q.PumpedAs x) : x.qpn = q.qpn := by
  obtain ⟨tx, used, hold, rfl, -⟩ := h
  rfl

theorem Qp.cutNext_pumpedAs (q : Qp) : q.PumpedAs q.cutNext := by
  rw [Qp.cutNext]
  split
  · exact .refl q
  · exact .of_tx fun h => by rw [h, Bool.true_or]

/-- Every message of a connection that waits, cut into packets (R187). -/
def Qp.cutAll (q : Qp) : Qp := (List.range q.tx.queue.length).foldl (fun y _ => y.cutNext) q

theorem Qp.cutAll_of_queue_nil {q : Qp} (h : q.tx.queue = []) : q.cutAll = q := by rw [Qp.cutAll, h]; rfl

theorem Qp.cutAll_pumpedAs (q : Qp) : q.PumpedAs q.cutAll := by
  rw [Qp.cutAll]
  generalize List.range q.tx.queue.length = ks
  induction ks generalizing q with
  | nil => exact .refl q
  | cons k ks ih => exact q.cutNext_pumpedAs.trans (ih q.cutNext)

theorem State.releaseSlot_onConn (s : State) (n msn : Nat) : OnConn Qp.PumpedAs n s (s.releaseSlot n msn) :=
  .modQp (fun _ _ => ⟨_, _, _, rfl, fun _ hu => (List.mem_filter.mp hu).1, id⟩) fun _ h => h

theorem State.pumpFuel_onConn (n fuel : Nat) (s : State) : OnConn Qp.PumpedAs n s (State.pumpFuel n fuel s) := by
  induction fuel generalizing s with
  | zero => exact .refl .refl s
  | succ fuel ih =>
    rw [State.pumpFuel]
    cases hq : s.qp n with
    | none => exact .refl .refl s
    | some q =>
      dsimp only
      split
      · exact .refl .refl s
      · split
        · exact .refl .refl s
        · next p rest hready =>
          cases hhand : s.atHand n with
          | none =>
            obtain ⟨c, e, f, hfetch⟩ := s.startFetch_eq n (q.homePort / 4)
            exact hfetch ▸ .withPlaces .refl ..
          | some t =>
            obtain ⟨c, e, f, rfl⟩ := State.atHand_eq hhand
            refine .trans .trans ?_ (ih _)
            have hsent (g : Qp → Qp) (hg : ∀ x, x.PumpedAs (g x)) (p : OutPkt) :
                OnConn Qp.PumpedAs n s (((s.withPlaces c e f).modQp n g).sendPkt n p true) :=
              have hplaces : OnConn Qp.PumpedAs n s (s.withPlaces c e f) := .withPlaces .refl ..
              have hput : OnConn Qp.PumpedAs n (s.withPlaces c e f) ((s.withPlaces c e f).modQp n g) :=
                .modQp (fun x _ => hg x) fun x h => (hg x).qpn.trans h
              (hplaces.trans .trans hput).trans .trans ((State.sendPkt_onConn ..).mono fun _ _ => Qp.SealedAs.pumped)
            split
            · refine hsent _ (fun _ => ?_) _
              exact .of_tx id
            · refine .trans .trans (hsent _ (fun _ => ?_) _) (State.releaseSlot_onConn ..)
              exact .of_tx id

theorem State.pumpOnce_eq {s : State} {n : Nat} {q : Qp} (hq : s.qp n = some q) :
    s.pumpOnce n = State.pumpFuel n (q.tx.w + 1) (s.modQp n Qp.cutAll) := by
  rw [State.pumpOnce, hq]
  rfl

theorem OnConn.cutAll (s : State) (n : Nat) : OnConn Qp.PumpedAs n s (s.modQp n Qp.cutAll) :=
  .modQp (fun q _ => q.cutAll_pumpedAs) fun x h => x.cutAll_pumpedAs.qpn.trans h

theorem State.pumpOnce_onConn (s : State) (n : Nat) : OnConn Qp.PumpedAs n s (s.pumpOnce n) := by
  cases hq : s.qp n with
  | none => rw [State.pumpOnce, hq]; exact .refl .refl s
  | some q =>
    rw [State.pumpOnce_eq hq]
    exact (OnConn.cutAll s n).trans .trans (State.pumpFuel_onConn ..)

/-- The node's own DISCONNECT joins what waits, and QP_ERROR_HOLD runs from it (R197). -/
def Qp.disconnecting (hold : Nat) (q : Qp) : Qp :=
  { q with stateUntil := hold, tx := { q.tx with queue := q.tx.queue ++ [⟨0x61, [], false, 6, none⟩] } }

theorem State.sendDisconnect_eq {s : State} {n : Nat} {q : Qp} (hq : s.qp n = some q) : s.sendDisconnect n =
    if decide (q.state = .draining) && q.rx.drainFrom.isSome && !q.tx.sentDisconnect && q.rx.used.isEmpty then
      (s.modQp n (Qp.disconnecting (s.time + s.img.transport.errorHold))).pumpOnce n
    else s := by
  rw [State.sendDisconnect, hq]
  rfl

theorem State.sendDisconnect_onConn (s : State) (n : Nat) : OnConn Qp.PumpedAs n s (s.sendDisconnect n) := by
  cases hq : s.qp n with
  | none => rw [State.sendDisconnect, hq]; exact .refl .refl s
  | some q =>
    rw [State.sendDisconnect_eq hq]
    split
    · have hdue : OnConn Qp.PumpedAs n s (s.modQp n (Qp.disconnecting (s.time + s.img.transport.errorHold))) :=
        .modQp (fun _ _ => ⟨_, _, _, rfl, fun _ hu => hu, id⟩) fun _ h => h
      exact hdue.trans .trans (State.pumpOnce_onConn ..)
    · exact .refl .refl s

theorem State.pump_onConn (s : State) (n : Nat) : OnConn Qp.PumpedAs n s (s.pump n) :=
  (State.pumpOnce_onConn ..).trans .trans (State.sendDisconnect_onConn ..)

/-- A connection on which nothing waits: no message, no packet, and no DISCONNECT of its own is due (R197). -/
structure Qp.Idle (q : Qp) : Prop where
  queue : q.tx.queue = []
  ready : q.tx.ready = []
  state : q.state ≠ .draining ∨ q.tx.sentDisconnect = true

theorem State.pump_of_idle {s : State} {n : Nat} {q : Qp} (hq : s.qp n = some q) (h : q.Idle) : s.pump n = s := by
  have hcut : s.modQp n Qp.cutAll = s := State.modQp_of_qp hq (Qp.cutAll_of_queue_nil h.queue)
  have honce : s.pumpOnce n = s := by
    rw [State.pumpOnce_eq hq, hcut, State.pumpFuel, hq]
    simp only [h.ready, ite_self]
  have hdue : (decide (q.state = .draining) && q.rx.drainFrom.isSome && !q.tx.sentDisconnect && q.rx.used.isEmpty) = false := by
    rcases h.state with hd | hd <;> simp [hd]
  rw [State.pump, honce, State.sendDisconnect_eq hq, hdue, if_neg Bool.false_ne_true]

/-! ### Resending (R202) -/

/-- The packets that are sent again at an instant. -/
def resentAt (now : Nat) (ps : List OutPkt) : List OutPkt := ps.map fun p => { p with resent := true, sentAt := now }

theorem OnConn.foldl {P : Qp → Qp → Prop} {n : Nat} {β : Type} {f : State → β → State} (hrefl : ∀ x, P x x)
    (htrans : ∀ {x y z}, P x y → P y z → P x z) (h : ∀ u x, OnConn P n u (f u x)) (xs : List β) (s : State) :
    OnConn P n s (xs.foldl f s) := by
  induction xs generalizing s with
  | nil => exact .refl hrefl s
  | cons x xs ih => exact (h s x).trans htrans (ih (f s x))

theorem State.resendAll_eq {s : State} {n : Nat} {q : Qp} (hq : s.qp n = some q) : ∃ due, s.resendAll n =
    (resentAt s.time q.tx.unacked).foldl (fun t p => t.sendPkt n p false)
      (s.modQp n fun x => { x with tx := { x.tx with unacked := resentAt s.time q.tx.unacked, rtoAt := due } }) := by
  rw [State.resendAll, hq]
  exact ⟨_, rfl⟩

/-- Every unacknowledged packet goes out again, and the timeout runs anew (R202, R203). -/
theorem State.qp_resendAll {s : State} {n : Nat} {q : Qp} (hq : s.qp n = some q) : ∃ c k due, (s.resendAll n).qp n =
    some { q with tx := { q.tx with control := c, txCount := k, unacked := resentAt s.time q.tx.unacked, rtoAt := due } } := by
  obtain ⟨due, hdue⟩ := State.resendAll_eq hq
  have hsend := OnConn.foldl (n := n) Qp.SealedAs.refl Qp.SealedAs.trans (fun u p => u.sendPkt_onConn n p false)
    (resentAt s.time q.tx.unacked)
    (s.modQp n fun x => { x with tx := { x.tx with unacked := resentAt s.time q.tx.unacked, rtoAt := due } })
  obtain ⟨x, hx, c, k, rfl⟩ := hsend.own _ (State.qp_modQp hq (State.qpn_of_qp hq :))
  exact ⟨c, k, due, hdue ▸ hx⟩

/-! ### Into ERROR (R216, R217, R309) -/

/-- A connection in ERROR until the end of its hold (R217). -/
def Qp.errored (hold : Nat) (q : Qp) : Qp := { q with
  state := .error, stateUntil := hold
  tx := { q.tx with queue := [], ready := [], unacked := [], rtoAt := none, rnrUntil := none, asked := [] }
  rx := { q.rx with msgs := [], used := [], outstanding := [], finals := [], held := [], hole := none, ackAt := none, accepted := [] } }

section
variable {s : State} {n : Nat} {q : Qp}

theorem State.connError_net (hq : s.qp n = some q) (hw : q.works = true) : (s.connError n).net =
    { (s.modQp n (Qp.errored (s.time + s.img.transport.errorHold))).net with
      inbox := s.net.inbox.filter (·.qpn != n) } := by
  rw [State.connError, hq]
  cases hstate : q.state with
  | error => simp [Qp.works, hstate] at hw
  | quarantine => simp [Qp.works, hstate] at hw
  | ready =>
    simp only [hstate]
    split <;> rfl
  | draining =>
    simp only [hstate]
    split <;> rfl

theorem State.connError_maps (s : State) (n : Nat) : ∃ x, (s.connError n).maps = { s.maps with streams := x } := by
  rw [State.connError]
  split
  · exact ⟨_, rfl⟩
  · split
    · exact ⟨_, rfl⟩
    · exact ⟨_, rfl⟩
    · dsimp only
      split
      · exact ⟨_, rfl⟩
      · exact ⟨_, rfl⟩

theorem State.dropStaging_eq (s : State) (n : Nat) : ∃ e, s.dropStaging n = { s with maps := { s.maps with epochs := e } } := by
  rw [State.dropStaging]
  split
  · exact ⟨_, rfl⟩
  · split
    · exact ⟨_, rfl⟩
    · dsimp only
      split
      · exact ⟨_, rfl⟩
      · exact ⟨_, rfl⟩

theorem State.sendConnect_eq (s : State) (link : Nat) (target : Bytes) (dest : Nat) (body : Bytes) :
    ∃ c, s.sendConnect link target dest body = { s with sch := c } := (State.sendConnect_same ..).exists_sch

/-- The node with other attempts at connections, and what opening one takes. -/
def State.withAttempts (s : State) (attempts : List Attempt) (rng : Nat) (sch : Scheds) : State :=
  { s with rng := rng, sch := sch, net := { s.net with attempts := attempts } }

theorem State.startConnect_eq (s : State) (partner paddock : Nat) (key : Bytes) (stream : Option Nat) :
    ∃ a r c, s.startConnect partner paddock key stream = s.withAttempts a r c := by
  rw [State.startConnect]
  have hfree : s.freeQpn.2 = { s with rng := s.rng + 1 } := rfl
  split
  · next t h => 
    rw [h] at hfree
    exact ⟨_, _, _, hfree⟩
  · next t n h =>
    rw [h] at hfree
    subst hfree
    obtain ⟨c, hc⟩ := State.sendConnect_eq _ _ _ _ _
    exact ⟨_, _, _, hc⟩

theorem State.reconnect_eq (s : State) : ∃ a r c, s.reconnect = s.withAttempts a r c := by
  rw [State.reconnect]
  generalize s.maps.streams.filter _ = xs
  induction xs generalizing s with
  | nil => exact ⟨_, _, _, rfl⟩
  | cons x xs ih =>
    have hone : ∃ a r c, s.connectStream x.id = s.withAttempts a r c := by
      rw [State.connectStream]
      split
      · exact ⟨_, _, _, rfl⟩
      · split
        · exact ⟨_, _, _, rfl⟩
        · exact State.startConnect_eq ..
    obtain ⟨a, r, c, h⟩ := hone
    obtain ⟨a', r', c', h'⟩ := ih (s.connectStream x.id)
    exact ⟨a', r', c', by rw [List.foldl_cons, h', h]; rfl⟩

theorem State.failConn_net (hq : s.qp n = some q) (hw : q.works = true) : ∃ a, (s.failConn n).net =
    { (s.modQp n (Qp.errored (s.time + s.img.transport.errorHold))).net with
      inbox := s.net.inbox.filter (·.qpn != n), attempts := a } := by
  rw [State.failConn]
  obtain ⟨e, he⟩ := (s.connError n).dropStaging_eq n
  obtain ⟨a, r, c, h⟩ := ((s.connError n).dropStaging n).reconnect_eq
  refine ⟨a, ?_⟩
  rw [h, he, State.withAttempts, State.connError_net hq hw]

theorem State.failConn_windows (s : State) (n : Nat) : (s.failConn n).maps.windows = s.maps.windows := by
  rw [State.failConn]
  obtain ⟨x, hx⟩ := s.connError_maps n
  obtain ⟨e, he⟩ := (s.connError n).dropStaging_eq n
  obtain ⟨a, r, c, h⟩ := ((s.connError n).dropStaging n).reconnect_eq
  rw [h, he, State.withAttempts, hx]

theorem State.failConn_qps (hq : s.qp n = some q) (hw : q.works = true) : (s.failConn n).net.qps =
    (s.modQp n (Qp.errored (s.time + s.img.transport.errorHold))).net.qps := by
  obtain ⟨a, ha⟩ := State.failConn_net hq hw
  rw [ha]

theorem State.qp_failConn (hq : s.qp n = some q) (hw : q.works = true) :
    (s.failConn n).qp n = some (q.errored (s.time + s.img.transport.errorHold)) := by
  rw [State.qp_of_qps (State.failConn_qps hq hw)]
  exact State.qp_modQp hq (State.qpn_of_qp hq :)

end

end Sys2Proof.Machine
end

section
/-! O16. Connections drain, wait in ERROR and leave quarantine (R197, R217). -/

namespace Sys2Proof.Machine

/-! ### DISCONNECT -/

section
variable {s : State} {n : Nat} {q : Qp}

theorem Qp.cutNext_of_queue_cons {m : OutMsg} {rest : List OutMsg} (h : q.tx.queue = m :: rest) :
    q.cutNext.tx.queue = rest ∧ q.cutNext.tx.sentDisconnect = (q.tx.sentDisconnect || m.opcode == 0x61) := by
  rw [Qp.cutNext, h]
  exact ⟨rfl, rfl⟩

/-- Once a DISCONNECT that waits is cut into its packet, it is sent (R197). -/
theorem Qp.sentDisconnect_cutAll (h : ∃ m ∈ q.tx.queue, m.opcode = 0x61) : q.cutAll.tx.sentDisconnect = true := by
  suffices hcut : ∀ (ms : List OutMsg) (y : Qp), y.tx.queue = ms →
      y.tx.sentDisconnect = true ∨ (∃ m ∈ ms, m.opcode = 0x61) → (Qp.cutNext^[ms.length] y).tx.sentDisconnect = true by
    rw [Qp.cutAll, List.foldl_const, List.length_range]
    exact hcut _ q rfl (.inr h)
  intro ms
  induction ms with
  | nil => exact fun y _ hsent => hsent.resolve_right (by simp)
  | cons m ms ih =>
    intro y hy hsent
    obtain ⟨hqueue, hflag⟩ := Qp.cutNext_of_queue_cons hy
    refine ih y.cutNext hqueue ?_
    rcases hsent with hsent | ⟨x, hx, hop⟩
    · exact .inl (by rw [hflag, hsent, Bool.true_or])
    · rcases List.mem_cons.mp hx with rfl | hx
      · exact .inl (by rw [hflag, hop]; simp)
      · exact .inr ⟨x, hx, hop⟩

/-- A connection that drains and holds no request sends its DISCONNECT (R197). -/
theorem State.sendDisconnect_sends (hq : s.qp n = some q) (hstate : q.state = .draining) (hfrom : q.rx.drainFrom.isSome = true)
    (hused : q.rx.used = []) {x : Qp} (hx : (s.sendDisconnect n).qp n = some x) : x.tx.sentDisconnect = true := by
  cases hsent : q.tx.sentDisconnect with
  | true =>
    obtain ⟨y, hy, tx, used, hold, rfl, -, hkept⟩ := (State.sendDisconnect_onConn s n).own q hq
    obtain rfl := Option.some.inj (hx.symm.trans hy)
    exact hkept hsent
  | false =>
    have hdue : (decide (q.state = .draining) && q.rx.drainFrom.isSome && !q.tx.sentDisconnect && q.rx.used.isEmpty) = true := by
      simp [hstate, hfrom, hsent, hused]
    have hq' := State.qp_modQp (f := Qp.disconnecting (s.time + s.img.transport.errorHold)) hq (State.qpn_of_qp hq :)
    rw [State.sendDisconnect_eq hq, if_pos hdue, State.pumpOnce_eq hq'] at hx
    have hcut := State.qp_modQp (f := Qp.cutAll) hq' ((Qp.cutAll_pumpedAs _).qpn.trans (State.qpn_of_qp hq'))
    obtain ⟨y, hy, tx, used, hold, rfl, -, hkept⟩ := (State.pumpFuel_onConn ..).own _ hcut
    obtain rfl := Option.some.inj (hx.symm.trans hy)
    exact hkept (Qp.sentDisconnect_cutAll ⟨⟨0x61, [], false, 6, none⟩, List.mem_append_right _ (List.mem_singleton.mpr rfl), rfl⟩)

/-- A connection whose request is consumed (R198). -/
def Qp.consumed (msn : Nat) (q : Qp) : Qp := { q with rx := { q.rx with
  used := q.rx.used.filter (·.1 != msn)
  outstanding := q.rx.outstanding.filter (·.1 != msn)
  prios := q.rx.prios.filter (·.1 != msn) } }

/-- After a request is consumed the connection has done, at most, what a due DISCONNECT does (R197, R198). -/
theorem State.qp_consume {msn : Nat} (hq : s.qp n = some q) : ∃ x, (s.consume n msn).qp n = some x ∧
    (q.consumed msn).PumpedAs x ∧ (q.state = .draining → q.rx.drainFrom.isSome = true → (q.consumed msn).rx.used = [] →
      x.tx.sentDisconnect = true) := by
  have hq' : ({ s.modQp n (Qp.consumed msn) with net := { (s.modQp n (Qp.consumed msn)).net with
      inbox := s.net.inbox.filter fun m => !(m.qpn == n && m.msn == msn) } } : State).qp n = some (q.consumed msn) :=
    State.qp_modQp hq (State.qpn_of_qp hq :)
  obtain ⟨x, hx, hpump⟩ := (State.sendDisconnect_onConn _ n).own _ hq'
  exact ⟨x, hx, hpump, fun hstate hfrom hused => State.sendDisconnect_sends hq' hstate hfrom hused hx⟩

/-- A connection that a DISCONNECT drains (R197). -/
def Qp.draining (msn : Nat) (q : Qp) : Qp := { q with state := .draining, rx := { q.rx with drainFrom := some msn } }

/-- A pair stream whose connection drains looks for another one (R309). -/
def Stream.leaving (n hold : Nat) (x : Stream) : Stream :=
  if x.qpn == some n then { x with qpn := none, holdUntil := some hold } else x

/-- The node once a DISCONNECT arrived, before the message is consumed (R197). -/
def State.drainedBy (s : State) (m : Msg) : State :=
  { s.modQp m.qpn (Qp.draining m.msn) with
    maps := { s.maps with streams := s.maps.streams.map (Stream.leaving m.qpn (s.time + s.img.service.mirrorHold)) } }

theorem exec_disconnect {m : Msg} (hq : s.qp m.qpn = some q) (hw : q.works = true) :
    exec (.disconnect m) s = .next (((s.drainedBy m).consume m.qpn m.msn).dropStaging m.qpn).reconnect := by
  change execDisconnect m s = _
  rw [execDisconnect, hq]
  dsimp only
  rw [hw, Bool.not_true, if_neg Bool.false_ne_true]
  rfl

/-! ### QUARANTINE -/

theorem State.qp_connError (hq : s.qp n = some q) : ∃ x, (s.connError n).qp n = some x := by
  cases hw : q.works with
  | true => exact ⟨_, (State.qp_of_qps (congrArg Net.qps (State.connError_net hq hw) :) n).trans
      (State.qp_modQp hq (State.qpn_of_qp hq :))⟩
  | false =>
    refine ⟨q, ?_⟩
    rw [State.connError, hq]
    cases hstate : q.state <;> simp_all [Qp.works]

/-- A connection that leaves for QUARANTINE (R197). -/
theorem State.qp_quarantine (hq : s.qp n = some q) : n ∉ (s.quarantine n).net.cached ∧ ∃ x, (s.quarantine n).qp n = some x ∧
    x.state = .quarantine ∧ x.stateUntil = s.time + s.img.transport.quarantine := by
  have hsame := s.connError_same n
  obtain ⟨y, hy⟩ := State.qp_connError hq
  rw [State.quarantine]
  dsimp only
  obtain ⟨a, r, c, h⟩ := State.reconnect_eq _
  rw [h]
  refine ⟨by simp [State.withAttempts], _, State.qp_modQp hy (State.qpn_of_qp hy :), rfl, ?_⟩
  dsimp only
  rw [hsame.time.eq rfl, hsame.img.eq rfl]

theorem exec_disconnectAcked {p : Nat} (hq : s.qp n = some q) (hp : q.tx.disconnectPsn = some p) (hstate : q.state = .draining)
    (hacked : ∀ x ∈ q.tx.unacked ++ q.tx.ready, x.psn ≠ p) :
    exec (.disconnectAcked n) s = .next ((if q.rx.ackAt.isSome then s.sendAck n else s).quarantine n) := by
  have hnone : (q.tx.unacked ++ q.tx.ready).any (·.psn == p) = false := by
    rw [List.any_eq_false]
    exact fun x hx => by simpa using hacked x hx
  change execDisconnectAcked n s = _
  rw [execDisconnectAcked, hq]
  simp only [hp, hstate, hnone]
  rfl

theorem exec_qpErrorHoldExpiry (hq : s.qp n = some q)
    (hstate : q.state = .error ∨ (q.state = .draining ∧ q.tx.sentDisconnect = true)) :
    exec (.qpErrorHoldExpiry n) s = .next ((s.advanceTo q.stateUntil).quarantine n) := by
  change execQpErrorHoldExpiry n s = _
  rw [execQpErrorHoldExpiry, hq]
  rcases hstate with h | ⟨h, hsent⟩
  · simp only [h]
  · simp only [h, hsent, if_true]

theorem exec_qpnQuarantineExpiry (hq : s.qp n = some q) (hstate : q.state = .quarantine) :
    exec (.qpnQuarantineExpiry n) s = .next { s.advanceTo q.stateUntil with
      net := { s.net with qps := s.net.qps.filter (·.qpn != n) } } := by
  change execQpnQuarantineExpiry n s = _
  rw [execQpnQuarantineExpiry, hq]
  simp only [hstate]
  rfl

theorem find?_filter_of_imp {α : Type} {p r : α → Bool} {xs : List α} (h : ∀ x, p x = true → r x = true) :
    (xs.filter r).find? p = xs.find? p := by
  rw [List.find?_filter]
  congr 1
  funext x
  cases hp : p x <;> simp_all

end

/-- Settles O16: the drained connection sends its DISCONNECT as soon as it holds no request, and what leaves for QUARANTINE was
put into ERROR first, which leaves it in the table. -/
theorem connectionsDrainAndQuarantine : Obligations.ConnectionsDrainAndQuarantine := by
  unfold Obligations.ConnectionsDrainAndQuarantine
  refine ⟨fun m s q hq hw => ?_, fun n p s q hq hstate hp hacked => ?_, fun n s q hq hstate => ?_, fun n s q hq hstate => ?_⟩
  · have hexec := exec_disconnect hq hw
    have hsame := (execDisconnect_same m s).of _ hexec
    rw [hexec]
    refine answers_next ⟨?_, hsame.store.eq rfl, hsame.eng.eq rfl⟩
    have hdrained : (s.drainedBy m).qp m.qpn = some (q.draining m.msn) := State.qp_modQp hq (State.qpn_of_qp hq :)
    obtain ⟨x, hx, ⟨tx, used, hold, rfl, hused, -⟩, hsends⟩ := State.qp_consume (msn := m.msn) hdrained
    obtain ⟨e, he⟩ := ((s.drainedBy m).consume m.qpn m.msn).dropStaging_eq m.qpn
    obtain ⟨a, r, c, h⟩ := (((s.drainedBy m).consume m.qpn m.msn).dropStaging m.qpn).reconnect_eq
    rw [h, he]
    refine ⟨_, hx, rfl, rfl, fun u hu => ?_, fun hnone => hsends rfl rfl ?_⟩
    · simpa using (List.mem_filter.mp (hused u hu)).2
    · exact congrArg (List.filter (·.1 != m.msn)) hnone
  · rw [exec_disconnectAcked hq hp hstate hacked]
    refine answers_next ?_
    split
    · obtain ⟨x, hx, -⟩ := (State.sendAck_onConn s n).own q hq
      obtain ⟨-, y, hy, hquar, hend⟩ := State.qp_quarantine hx
      exact ⟨y, hy, hquar, by rw [hend, (State.sendAck_onConn s n).time, (State.sendAck_onConn s n).img]⟩
    · exact (State.qp_quarantine hq).2
  · have hexec := exec_qpErrorHoldExpiry hq hstate
    rw [hexec]
    have htime : ((s.advanceTo q.stateUntil).quarantine n).time = max s.time q.stateUntil :=
      (State.quarantine_same ..).time.eq rfl
    obtain ⟨hcached, x, hx, hquar, hend⟩ := State.qp_quarantine (s := s.advanceTo q.stateUntil) hq
    exact answers_next ⟨htime, hcached, x, hx, hquar, by rw [hend, htime]; rfl⟩
  · rw [exec_qpnQuarantineExpiry hq hstate]
    refine answers_next ⟨rfl, ?_, fun m hm => find?_filter_of_imp fun x hx => ?_, rfl⟩
    · exact List.find?_eq_none.mpr fun x hx => by simpa using (List.mem_filter.mp hx).2
    · simp_all

end Sys2Proof.Machine
end

section
/-! O14, O15. CONNECT at both ends (R190–R196, R226, R227). -/

namespace Sys2Proof.Machine

/-! ### A connection that joins the table (R190, R212) -/

theorem updateFirst_append_singleton {α : Type} {p : α → Bool} {f : α → α} {xs : List α} {x : α} (h : xs.find? p = none)
    (hx : p x = true) : updateFirst p f (xs ++ [x]) = xs ++ [f x] := by
  induction xs with
  | nil => simp [updateFirst, hx]
  | cons y ys ih =>
    have hall := List.find?_eq_none.mp h
    have hy : p y = false := by simpa using hall y (by simp)
    have hys := ih (List.find?_eq_none.mpr fun z hz => hall z (by simp [hz]))
    simp [updateFirst, hy, hys]

/-- The node with one connection more. -/
def State.withQp (s : State) (q : Qp) : State := { s with net := { s.net with qps := s.net.qps ++ [q] } }

section
variable {s : State} {n m : Nat} {q : Qp}

theorem State.qp_withQp (h : s.qp q.qpn = none) : (s.withQp q).qp q.qpn = some q := by
  refine (List.find?_append).trans ?_
  rw [← State.qp, h]
  simp

theorem State.qp_withQp_of_ne (h : m ≠ q.qpn) : (s.withQp q).qp m = s.qp m := by
  refine (List.find?_append).trans ?_
  rw [← State.qp]
  simp [Ne.symm h]

theorem State.cacheNew_eq (s : State) (n : Nat) : ∃ (w : Qp → Bytes) (c e : List Nat) (f : List (Nat × Nat)),
    s.cacheNew n = (s.modQp n fun x => { x with wrapped := w x }).withPlaces c e f := by
  rw [State.cacheNew]
  split
  · refine ⟨fun x => x.wrapped, s.net.cached ++ [n], s.net.evicting, s.net.fetches, ?_⟩
    rw [State.modQp, updateFirst_eq_self fun _ _ _ => rfl]
    rfl
  · obtain ⟨c, e, f, h⟩ := State.startFetch_eq (s.modQp n fun x => { x with wrapped := s.wrapContext x }) n
      (((s.qp n).map fun x => x.homePort / 4).getD 0)
    exact ⟨s.wrapContext, c, e, f, h⟩

/-- The context of a new connection finds a place, or lies wrapped in the store (R212). -/
theorem State.cacheNew_withQp (h : s.qp n = none) (hn : q.qpn = n) : ∃ w c e f,
    (s.withQp q).cacheNew n = (s.withQp { q with wrapped := w }).withPlaces c e f := by
  subst hn
  obtain ⟨w, c, e, f, hw⟩ := (s.withQp q).cacheNew_eq q.qpn
  refine ⟨w q, c, e, f, ?_⟩
  rw [hw, State.modQp, State.withQp, updateFirst_append_singleton h (beq_self_eq_true _)]
  rfl

/-- A QPN that is free is in range and no connection's (R190). -/
theorem State.freeQpn_spec {t : State} (h : s.freeQpn = (some n, t)) :
    t = { s with rng := s.rng + 1 } ∧ s.qp n = none ∧ 2 ≤ n ∧ n < 262144 := by
  rw [State.freeQpn] at h
  obtain ⟨hn, ht⟩ := Prod.mk.inj h
  obtain ⟨k, -, hk⟩ := List.mem_map.mp (List.mem_of_find?_eq_some hn)
  have hunused := List.find?_some hn
  refine ⟨ht.symm, List.find?_eq_none.mpr fun x hx hxn => ?_, by omega, by omega⟩
  simp only [List.contains_eq_mem, List.mem_append, List.mem_map, Bool.not_eq_true', decide_eq_false_iff_not, not_or] at hunused
  exact hunused.1 ⟨x, hx, by simpa using hxn⟩

end

/-! ### PROOF (R192, R193, R195, R196) -/

/-- A connection that a PROOF opens, with what the PROOF and its ACCEPT negotiate (R193). -/
structure State.Negotiated (s : State) (c : Connect) (n : Nat) (q : Qp) : Prop where
  qpn : q.qpn = n
  state : q.state = .ready
  service : q.service = conService c.body
  paddock : q.paddock = conPaddock c.body
  peerQpn : q.peerQpn = conInitQpn c.body
  peerTkey : q.peerTkey = conTkey c.body
  version : q.version = highestVersion (conVersions c.body)
  enc : q.enc = bit (conFlags c.body) 0
  initiator : q.initiator = false
  expect : q.rx.expect = conPsn c.body
  nextMsn : q.rx.nextMsn = 0
  window : q.window = if conService c.body == 2 then (s.conWindow c.body).map fun w => (w.index, w.gen) else none

theorem State.conAllocate_eq (s : State) (c : Connect) (key nonceI : Bytes) (n : Nat) : ∃ q r, s.Negotiated c n q ∧
    (s.conAllocate c key nonceI n).1 = (({ s with rng := r } : State).withQp q).cacheNew n :=
  ⟨_, _, ⟨rfl, rfl, rfl, rfl, rfl, rfl, rfl, rfl, rfl, rfl, rfl, rfl⟩, rfl⟩

/-- A CONNECT packet of a phase that this node answers: it is awake and its O2 runs (R353, R378). -/
structure State.Hears (s : State) (c : Connect) (phase : Nat) : Prop where
  qp : c.qp ≤ 1
  phase : conPhase c.body = phase
  awake : s.awake = true
  runs : s.restarting 2 = false

theorem State.Hears.guards {s : State} {c : Connect} {phase : Nat} (h : s.Hears c phase) :
    (!s.awake) = false ∧ (decide (c.qp > 1) || conPhase c.body != phase || !s.conServes) = false := by
  have hqp := h.qp
  simp [h.awake, h.phase, State.conServes, h.runs, hqp]

/-- The node remembers an ACCEPT (R196). -/
def State.remember (s : State) (r : RecentAccept) : State :=
  { s with net := { s.net with recent := (s.net.recent.filter fun x => s.time ≤ x.at_ + 1000000000) ++ [r] } }

section
variable {s t0 : State} {c : Connect} {k : Bytes × Bytes} {n : Nat}

theorem exec_proof_repeated {r : RecentAccept} (h : s.Hears c 3) (hr : s.recentAccept c = some r) : exec (.proof c) s =
    .next (if r.sent then s.sendConnect s.someLink r.src r.initQpn r.accept else s) := by
  change execProof c s = _
  obtain ⟨hg, hg'⟩ := h.guards
  simp only [execProof, hg, hg', hr, Bool.false_eq_true, if_false]
  split <;> rfl

theorem exec_proof_refused {st : Nat} (h : s.Hears c 3) (hr : s.recentAccept c = none) (hj : s.conJudge c = .error st) :
    exec (.proof c) s = .next (s.conRefuse c st) := by
  change execProof c s = _
  obtain ⟨hg, hg'⟩ := h.guards
  simp only [execProof, hg, hg', hr, hj, Bool.false_eq_true, if_false]

/-- A PROOF that passes, where no other connection holds the window that it names, opens its connection and is answered (R195). -/
theorem exec_proof_accepted {q : Qp} (h : s.Hears c 3) (hr : s.recentAccept c = none) (hj : s.conJudge c = .ok k)
    (hf : s.freeQpn = (some n, t0)) (hq : (t0.conAllocate c k.1 k.2 n).1.qp n = some q) (hw : q.window = none) :
    ∃ r link src dest body, exec (.proof c) s =
      .next (((t0.conAllocate c k.1 k.2 n).1.remember r).sendConnect link src dest body) := by
  have hexec : exec (.proof c) s = execProof c s := rfl
  obtain ⟨hg, hg'⟩ := h.guards
  rw [hexec]
  simp only [execProof, hg, hg', hr, hj, hf, hq, hw, Option.bind_some, Option.bind_none, Option.isNone_none, Bool.false_eq_true,
    if_false]
  exact ⟨_, _, _, _, _, rfl⟩

/-- A PROOF that passes, while another connection holds its window, puts that one into ERROR, and its ACCEPT waits (R227). -/
theorem exec_proof_held {q : Qp} {w : Nat × Nat} {o : Nat} (h : s.Hears c 3) (hr : s.recentAccept c = none)
    (hj : s.conJudge c = .ok k) (hf : s.freeQpn = (some n, t0)) (hq : (t0.conAllocate c k.1 k.2 n).1.qp n = some q)
    (hw : q.window = some w) (ho : (t0.conAllocate c k.1 k.2 n).1.windowHolder w n = some o) :
    ∃ r, r.respQpn = n ∧ r.sent = false ∧ exec (.proof c) s =
      .next ((((t0.conAllocate c k.1 k.2 n).1.remember r).failConn o).modWindow w.1 fun x => { x with takeover := some n }) := by
  have hexec : exec (.proof c) s = execProof c s := rfl
  obtain ⟨hg, hg'⟩ := h.guards
  rw [hexec]
  have hkept (rs : List RecentAccept) : ({ (t0.conAllocate c k.1 k.2 n).1 with
      net := { (t0.conAllocate c k.1 k.2 n).1.net with recent := rs } } : State).qp n = some q := hq
  simp only [execProof, hg, hg', hr, hj, hf, hq, hkept, hw, ho, Option.bind_some, Option.isNone_some, Bool.false_eq_true, if_false]
  exact ⟨_, rfl, rfl, rfl⟩

/-- What a PROOF that passes adds to the node: one connection, in the table alone (R190, R193). -/
theorem State.conAllocate_withQp (hf : s.freeQpn = (some n, t0)) : ∃ q cached evicting fetches rng, s.Negotiated c n q ∧
    (t0.conAllocate c k.1 k.2 n).1 =
      (State.withQp { s with rng := rng } q).withPlaces cached evicting fetches := by
  obtain ⟨rfl, hnone, -⟩ := State.freeQpn_spec hf
  obtain ⟨q, r, hq, heq⟩ := State.conAllocate_eq { s with rng := s.rng + 1 } c k.1 k.2 n
  obtain rfl := hq.qpn
  obtain ⟨w, cs, e, f, hcache⟩ := State.cacheNew_withQp (s := { s with rng := r }) (q := q) hnone rfl
  exact ⟨{ q with wrapped := w }, cs, e, f, r, ⟨rfl, hq.state, hq.service, hq.paddock, hq.peerQpn, hq.peerTkey, hq.version,
    hq.enc, hq.initiator, hq.expect, hq.nextMsn, hq.window⟩, heq.trans hcache⟩

end

/-- A PROOF opens one connection or none (R192, R193, R195, R196). -/
theorem proofOpensOneConnection : Claims.ProofOpensOneConnection := by
  intro c s hqp hphase hawake hruns
  have h : s.Hears c 3 := ⟨hqp, hphase, hawake, hruns⟩
  refine ⟨fun r hr => ?_, fun hr => ⟨fun st hj => exec_proof_refused h hr hj, fun k t0 n hj hf hservice => ?_⟩⟩
  · rw [exec_proof_repeated h hr]
    refine answers_next ?_
    split
    · obtain ⟨_, hsent⟩ := s.sendConnect_eq s.someLink r.src r.initQpn r.accept
      exact hsent ▸ ⟨rfl, rfl, rfl⟩
    · exact ⟨rfl, rfl, rfl⟩
  · obtain ⟨-, hnone, hlow, hhigh⟩ := State.freeQpn_spec hf
    obtain ⟨q, cs, e, f, r, hq, heq⟩ := State.conAllocate_withQp (c := c) (k := k) hf
    obtain rfl := hq.qpn
    have hwindow : q.window = none := by
      rw [hq.window, if_neg]
      simp only [beq_iff_eq]
      omega
    have hmine : (State.withQp { s with rng := r } q).qp q.qpn = some q := State.qp_withQp (s := { s with rng := r }) hnone
    obtain ⟨x, link, src, dest, body, hexec⟩ := exec_proof_accepted h hr hj hf (q := q) (heq ▸ hmine) hwindow
    obtain ⟨_, hsent⟩ := State.sendConnect_eq ((t0.conAllocate c k.1 k.2 q.qpn).1.remember x) link src dest body
    rw [hexec, hsent, heq]
    exact answers_next ⟨hnone, hlow, hhigh, ⟨q, hmine, hq.state, hq.service, hq.paddock, hq.peerQpn, hq.peerTkey, hq.version,
      hq.enc, hq.initiator, hq.expect, hq.nextMsn⟩, fun m hm => State.qp_withQp_of_ne (s := { s with rng := r }) hm, rfl, rfl, rfl⟩

/-! ### HELLO and REFUSE (R192, R196) -/

section
variable {s : State} {c : Connect}

/-- A CHALLENGE is remembered for the time in which a PROOF may carry its nonce (R192; log 51). -/
def State.challenge (s : State) (c : Connect) : State := { s with net := { s.net with
  issued := (s.net.issued.filter fun x => s.time ≤ x.at_ + 1200000000) ++
    [⟨c.src, conNonce c.body, s.conNonceN c.src c.body, connectFields c.body, s.time⟩] } }

theorem exec_hello_challenged (h : s.Hears c 1) (he : s.conEarly c.body = none) :
    ∃ sch, exec (.hello c) s = .next { s.challenge c with sch := sch } := by
  have hexec : exec (.hello c) s = execHello c s := rfl
  obtain ⟨hg, hg'⟩ := h.guards
  rw [hexec]
  simp only [execHello, hg, hg', he, Bool.false_eq_true, if_false]
  obtain ⟨sch, hsent⟩ := (s.challenge c).sendConnect_eq s.someLink c.src (conInitQpn c.body)
    (conBody 2 c.body 0 7 0 0 0 0 (s.conNode c.body) 0 (s.conNonceN c.src c.body) [])
  exact ⟨sch, congrArg Host.Outcome.next hsent⟩

theorem exec_hello_refused {st : Nat} (h : s.Hears c 1) (he : s.conEarly c.body = some st) :
    exec (.hello c) s = .next (s.conRefuse c st) := by
  change execHello c s = _
  obtain ⟨hg, hg'⟩ := h.guards
  simp only [execHello, hg, hg', he, Bool.false_eq_true, if_false]

theorem State.conEarly_version {b : Bytes} (h : conVersions b = 0) : s.conEarly b = some St.version := by
  rw [State.conEarly, h]
  rfl

theorem State.conEarly_teardown {b : Bytes} (hversions : conVersions b ≠ 0) (hservice : conService b ≠ 1)
    (hpaddock : conPaddock b ≠ 0) (hteardown : (s.pad (conPaddock b)).state = .teardown) :
    s.conEarly b = some St.busyTeardown := by
  simp [State.conEarly, hversions, hservice, hpaddock, hteardown]

theorem State.stageFail_headerRead (s : State) (cause : Nat) :
    (s.stageFail cause).maps.epochs.headerRead = s.maps.epochs.headerRead := by
  rw [State.stageFail]
  split <;> rfl

/-- What differs in the maps alone is the state with other maps. -/
theorem Same.eq_maps {t u : State} (h : Same { maps := true } t u) : u = { t with maps := u.maps } := by
  rw [State.mk.injEq]
  exact ⟨h.pending, h.out.eq rfl, h.rng.eq rfl, h.time.eq rfl, h.fused, h.farrier.eq rfl, h.power.eq rfl, h.boot.eq rfl,
    h.img.eq rfl, h.regs.eq rfl, h.host.eq rfl, h.log.eq rfl, h.ostlers.eq rfl, h.pads.eq rfl, h.sec.eq rfl, h.net.eq rfl, rfl,
    h.store.eq rfl, h.eng.eq rfl, h.sch.eq rfl, h.leases.eq rfl, h.pwr.eq rfl, h.shr.eq rfl, h.mem.eq rfl⟩

/-- A failed attempt that is no pair stream's is gone, and with it the reading of the publication area (R196, R243). -/
theorem State.attemptFailed_eq {a : Attempt} (h : a.stream = none) : ∃ m, m.epochs.headerRead = false ∧ s.attemptFailed a =
    { s with maps := m, net := { s.net with attempts := s.net.attempts.filter (·.initQpn != a.initQpn) } } := by
  rw [State.attemptFailed, h]
  dsimp only
  split
  · exact ⟨_, State.stageFail_headerRead .., (State.stageFail_same ..).eq_maps⟩
  · exact ⟨_, rfl, rfl⟩

theorem exec_refuse {a : Attempt} (ha : (s.net.attempts.find? fun x => x.initQpn == conInitQpn c.body) = some a)
    (hphase : conPhase c.body = 5) : exec (.refuse c) s = .next (s.attemptFailed a) := by
  change execRefuse c s = _
  rw [execRefuse, ha]
  simp [hphase]

end

/-- HELLO is answered without a connection, and REFUSE ends an attempt (R192, R196). -/
theorem helloAllocatesNoConnection : Claims.HelloAllocatesNoConnection := by
  refine ⟨fun c s hqp hphase hawake hruns => ?_, fun c s a ha hphase hstream => ?_⟩
  · have h : s.Hears c 1 := ⟨hqp, hphase, hawake, hruns⟩
    refine ⟨fun he => ?_, fun hversions => exec_hello_refused h (State.conEarly_version hversions),
      fun hversions hservice hpaddock hdown =>
        exec_hello_refused h (State.conEarly_teardown hversions hservice hpaddock hdown)⟩
    obtain ⟨sch, hexec⟩ := exec_hello_challenged h he
    rw [hexec]
    exact answers_next ⟨rfl, ⟨_, List.mem_append_right _ (List.mem_singleton.mpr rfl), rfl, rfl, rfl, rfl, rfl⟩, rfl, rfl, rfl⟩
  · rw [exec_refuse ha hphase]
    obtain ⟨m, hm, heq⟩ := s.attemptFailed_eq hstream
    rw [heq]
    exact answers_next ⟨fun x hx => by simpa using (List.mem_filter.mp hx).2, rfl, hm, rfl⟩

/-- Settles O14: CHALLENGE and REFUSE leave the table of connections as it is, and a PROOF that passes adds one record to it,
under a QPN that was free. -/
theorem connectionsOpenByProof : Obligations.ConnectionsOpenByProof := by
  unfold Obligations.ConnectionsOpenByProof
  exact ⟨helloAllocatesNoConnection, proofOpensOneConnection⟩

/-! ### A window that is taken over (R226, R227) -/

section
variable {s : State} {n : Nat}

theorem State.window_index {w : Window} (h : s.window n = some w) : w.index = n := by simpa using List.find?_some h

theorem State.window_of_conWindow {b : Bytes} {w : Window} (h : s.conWindow b = some w) : s.window w.index = some w := by
  obtain ⟨e, -, he⟩ := Option.bind_eq_some_iff.mp h
  obtain ⟨hw, -⟩ := Option.filter_eq_some_iff.mp he
  rwa [State.window_index hw]

theorem State.window_modWindow {n : Nat} {w : Window} {f : Window → Window} (h : s.window n = some w) (hf : (f w).index = n) :
    (s.modWindow n f).window n = some (f w) := find?_updateFirst h (by simpa using hf)

/-- The holder of a window still holds it when another connection joins the table. -/
theorem State.windowHolder_withQp {w : Nat × Nat} {q old : Qp} {cs e : List Nat} {f : List (Nat × Nat)}
    (hnew : s.qp q.qpn = none) (hold : s.net.qps.find? (fun x => x.window == some w && x.works) = some old) :
    ((s.withQp q).withPlaces cs e f).windowHolder w q.qpn = some old.qpn := by
  have hne : old.qpn ≠ q.qpn := by simpa using List.find?_eq_none.mp hnew old (List.mem_of_find?_eq_some hold)
  have hprops := List.find?_some hold
  have hfind : s.net.qps.find? (fun x => x.window == some w && x.qpn != q.qpn && x.works) = some old :=
    find?_of_stronger hold (by simp_all) (by simp_all)
  change ((s.net.qps ++ [q]).find? _).map _ = _
  rw [List.find?_append, hfind]
  rfl

/-- An ACCEPT that goes out now (R227). -/
def RecentAccept.answered (now : Nat) (r : RecentAccept) : RecentAccept := { r with sent := true, at_ := now }

/-- The node when a window's old connection has placed its last write, and the ACCEPT of the new one goes out (R227). -/
def State.handedOver (s : State) (window qpn : Nat) : State :=
  { s.modWindow window fun x => { x with takeover := none } with
    net := { s.net with
      recent := updateFirst (fun x => x.respQpn == qpn && !x.sent) (RecentAccept.answered s.time) s.net.recent } }

theorem exec_windowTakeoverAccept {w : Window} {qpn : Nat} {r : RecentAccept} (hw : s.window n = some w)
    (htaken : w.takeover = some qpn) (hr : (s.net.recent.find? fun x => x.respQpn == qpn && !x.sent) = some r) :
    ∃ link, exec (.windowTakeoverAccept n) s = .next ((s.handedOver n qpn).sendConnect link r.src r.initQpn r.accept) := by
  have hexec : exec (.windowTakeoverAccept n) s = execWindowTakeoverAccept n s := rfl
  have hrecent : ((s.modWindow n fun x => { x with takeover := none }).net.recent.find? fun x => x.respQpn == qpn && !x.sent) =
      some r := hr
  rw [hexec]
  simp only [execWindowTakeoverAccept, hw, htaken, Option.bind_some, hrecent]
  exact ⟨_, rfl⟩

theorem updateFirst_mem_of_find {α : Type} {p : α → Bool} {f : α → α} {xs : List α} {x : α} (h : xs.find? p = some x) :
    f x ∈ updateFirst p f xs := by
  induction xs with
  | nil => cases h
  | cons y ys ih =>
    by_cases hy : p y = true
    · obtain rfl : y = x := by simpa [hy] using h
      simp [updateFirst, hy]
    · simp [updateFirst, hy, ih (by simpa [hy] using h)]

end

/-- A window changes hands only after the old connection (R196, R226, R227). -/
theorem windowTakeoverWaitsForTheOldConnection : Claims.WindowTakeoverWaitsForTheOldConnection := by
  refine ⟨fun c s k t0 n w old hqp hphase hawake hruns hr hj hf hservice hwindow hold hfind => ?_,
    fun n s w qpn r hw htaken hr => ?_⟩
  · have h : s.Hears c 3 := ⟨hqp, hphase, hawake, hruns⟩
    obtain ⟨-, hnone, -⟩ := State.freeQpn_spec hf
    obtain ⟨q, cs, e, f, rng, hq, heq⟩ := State.conAllocate_withQp (c := c) (k := k) hf
    obtain rfl := hq.qpn
    have hmine : (State.withQp { s with rng := rng } q).qp q.qpn = some q := State.qp_withQp (s := { s with rng := rng }) hnone
    have hnames : q.window = some (w.index, w.gen) := by
      rw [hq.window, hservice, hwindow]
      rfl
    have hholder := State.windowHolder_withQp (s := { s with rng := rng }) (cs := cs) (e := e) (f := f) hnone hfind
    obtain ⟨r, hresp, hunsent, hexec⟩ := exec_proof_held h hr hj hf (q := q) (heq ▸ hmine) hnames (heq ▸ hholder)
    have hworks : old.works = true := by
      have hprops := List.find?_some hfind
      simp_all
    have hne : old.qpn ≠ q.qpn := fun hsame => by rw [hsame, hnone] at hold; cases hold
    have hstill : ((t0.conAllocate c k.1 k.2 q.qpn).1.remember r).qp old.qpn = some old := by
      rw [heq]
      exact (State.qp_withQp_of_ne (s := { s with rng := rng }) hne).trans hold
    rw [hexec]
    have hthere : (((t0.conAllocate c k.1 k.2 q.qpn).1.remember r).failConn old.qpn).window w.index = some w := by
      rw [State.window, State.failConn_windows, heq]
      exact State.window_of_conWindow hwindow
    obtain ⟨a, ha⟩ := State.failConn_net hstill hworks
    have hrecent : r ∈ (((t0.conAllocate c k.1 k.2 q.qpn).1.remember r).failConn old.qpn).net.recent := by
      rw [ha]
      exact List.mem_append_right _ (List.mem_singleton.mpr rfl)
    exact answers_next ⟨⟨_, State.qp_failConn hstill hworks, rfl⟩, ⟨_, State.window_modWindow hthere rfl, rfl⟩, r, hrecent, hresp,
      hunsent⟩
  · obtain ⟨link, hexec⟩ := exec_windowTakeoverAccept hw htaken hr
    obtain ⟨_, hsent⟩ := (s.handedOver n qpn).sendConnect_eq link r.src r.initQpn r.accept
    rw [hexec, hsent]
    exact answers_next ⟨State.window_modWindow hw (State.window_index hw :), updateFirst_mem_of_find hr, rfl, rfl⟩

/-! ### This node as initiator (R192, R195, R196) -/

theorem State.sendMsg_onConn (s : State) (n opcode tc : Nat) (body : Bytes) (final : Bool) (answers : Option Nat) :
    OnConn Qp.PumpedAs n s (s.sendMsg n opcode tc body final answers) := by
  have hqueue : OnConn Qp.PumpedAs n s
      (s.modQp n fun x => { x with tx := { x.tx with queue := x.tx.queue ++ [⟨opcode, body, final, tc, answers⟩] } }) :=
    .modQp (fun _ _ => .of_tx id) fun _ h => h
  have hsent := hqueue.trans .trans (State.pump_onConn ..)
  rw [State.sendMsg]
  cases hq : s.qp n with
  | none => exact .refl .refl s
  | some q =>
    cases hstate : q.state with
    | error => simpa only [hstate] using OnConn.refl .refl s
    | quarantine => simpa only [hstate] using OnConn.refl .refl s
    | ready =>
      simp only [hstate]
      split
      · exact .refl .refl s
      · exact hsent
    | draining =>
      simp only [hstate]
      split
      · exact .refl .refl s
      · exact hsent

theorem State.rlaRead_onConn (s : State) (n addr lines tag : Nat) : OnConn Qp.PumpedAs n s (s.rlaRead n addr lines tag) := by
  have hask : OnConn Qp.PumpedAs n s (s.modQp n fun x => { x with tx := { x.tx with asked := x.tx.asked ++ [(0x40, tag)] } }) :=
    .modQp (fun _ _ => .of_tx id) fun _ h => h
  rw [State.rlaRead]
  cases s.qp n with
  | none => exact .refl .refl s
  | some q => exact hask.trans .trans (State.sendMsg_onConn ..)

section
variable {s : State} {c : Connect} {a : Attempt} {n : Nat}

theorem State.find_modAttempt {f : Attempt → Attempt} (h : (s.net.attempts.find? fun x => x.initQpn == n) = some a)
    (hf : (f a).initQpn = n) : ((s.modAttempt n f).net.attempts.find? fun x => x.initQpn == n) = some (f a) :=
  find?_updateFirst h (by simpa using hf)

theorem exec_challenge (ha : (s.net.attempts.find? fun x => x.initQpn == conInitQpn c.body && x.phase == 1) = some a)
    (hphase : conPhase c.body = 2) : ∃ sch, exec (.challenge c) s = .next { s.modAttempt a.initQpn fun _ =>
      { a with phase := 3, nonceN := conNonce c.body, resends := 0, sentAt := s.time } with sch := sch } := by
  have hexec : exec (.challenge c) s = execChallenge c s := rfl
  rw [hexec, execChallenge, ha]
  simp only [hphase, bne_self_eq_false, Bool.false_eq_true, if_false]
  obtain ⟨sch, hsent⟩ := State.sendConnect_eq (s.modAttempt a.initQpn fun _ =>
    { a with phase := 3, nonceN := conNonce c.body, resends := 0, sentAt := s.time }) _ _ _ _
  exact ⟨sch, congrArg Host.Outcome.next hsent⟩

theorem exec_accept_discarded (ha : (s.net.attempts.find? fun x => x.initQpn == conInitQpn c.body && x.phase == 3) = some a)
    (hproof : conProof c.body ≠ nodeProof a.key a.nonceI a.nonceN a.hello c.body) : exec (.accept c) s = .next s := by
  have hexec : exec (.accept c) s = execAccept c s := rfl
  rw [hexec, execAccept, ha]
  simp [hproof]

/-- The connection that an ACCEPT opens for an attempt of this node (R193, R195). -/
structure Attempt.Opens (a : Attempt) (c : Connect) (q : Qp) : Prop where
  qpn : q.qpn = a.initQpn
  state : q.state = .ready
  initiator : q.initiator = true
  peerQpn : q.peerQpn = conRespQpn c.body
  paddock : q.paddock = a.paddock
  srcNode : q.srcNode = a.partner
  peerTkey : q.peerTkey = conTkey c.body
  expect : q.rx.expect = conPsn c.body

theorem Attempt.Opens.of_pumpedAs {q x : Qp} (h : a.Opens c q) (hx : q.PumpedAs x) : a.Opens c x := by
  obtain ⟨tx, used, hold, rfl, -⟩ := hx
  exact ⟨h.qpn, h.state, h.initiator, h.peerQpn, h.paddock, h.srcNode, h.peerTkey, h.expect⟩

/-- The node without an attempt of a QPN, after a draw. -/
def State.dropAttempt (s : State) (n rng : Nat) : State :=
  { s with rng := rng, net := { s.net with attempts := s.net.attempts.filter (·.initQpn != n) } }

theorem exec_accept_verified (ha : (s.net.attempts.find? fun x => x.initQpn == conInitQpn c.body && x.phase == 3) = some a)
    (hphase : conPhase c.body = 4) (hnone : s.qp a.initQpn = none)
    (hproof : conProof c.body = nodeProof a.key a.nonceI a.nonceN a.hello c.body) : ∃ q cs e f rng, a.Opens c q ∧
    exec (.accept c) s = .next ((((s.dropAttempt a.initQpn rng).withQp q).withPlaces cs e f).connected a) := by
  have hopens : ∃ q rng, a.Opens c q ∧ exec (.accept c) s =
      .next ((((s.dropAttempt a.initQpn rng).withQp q).cacheNew a.initQpn).connected a) := by
    have hexec : exec (.accept c) s = execAccept c s := rfl
    rw [hexec, execAccept, ha]
    simp only [hphase, ← hproof, bne_self_eq_false, Bool.or_self, Bool.false_eq_true, if_false]
    exact ⟨_, _, ⟨rfl, rfl, rfl, rfl, rfl, rfl, rfl, rfl⟩, rfl⟩
  obtain ⟨q, rng, hq, hexec⟩ := hopens
  obtain ⟨w, cs, e, f, hcache⟩ := State.cacheNew_withQp (s := s.dropAttempt a.initQpn rng) hnone hq.qpn
  exact ⟨{ q with wrapped := w }, cs, e, f, rng, ⟨hq.qpn, hq.state, hq.initiator, hq.peerQpn, hq.paddock, hq.srcNode, hq.peerTkey,
    hq.expect⟩, by rw [hexec, hcache]⟩

/-- What follows once a connection is READY asks over it, and touches no attempt (R243, R303). -/
theorem State.connected_spec {q : Qp} (hq : s.qp a.initQpn = some q) :
    (∃ x, (s.connected a).qp a.initQpn = some x ∧ q.PumpedAs x) ∧ (s.connected a).net.attempts = s.net.attempts := by
  have hread {t u : State} {addr lines tag : Nat} (ht : t.net = u.net) :
      (∀ y, u.qp a.initQpn = some y → ∃ x, (t.rlaRead a.initQpn addr lines tag).qp a.initQpn = some x ∧ y.PumpedAs x) ∧
        (t.rlaRead a.initQpn addr lines tag).net.attempts = u.net.attempts := by
    have hon := t.rlaRead_onConn a.initQpn addr lines tag
    refine ⟨fun y hy => hon.own y ?_, ?_⟩
    · rwa [State.qp_of_qps (congrArg Net.qps ht)]
    · rw [hon.net, ← ht]
  rw [State.connected]
  cases a.stream with
  | some i =>
    have h := hread (t := s.modStream i fun x => { x with qpn := some a.initQpn, windowLength := 0, holdUntil := none }) (u := s)
      (addr := 128) (lines := 1) (tag := 3) rfl
    exact ⟨h.1 q hq, h.2⟩
  | none =>
    dsimp only
    have hfirst : ∃ t, (if s.maps.epochs.staging.isSome then s.rlaRead a.initQpn 0 1 2 else s) = t ∧
        (∃ x, t.qp a.initQpn = some x ∧ q.PumpedAs x) ∧ t.net.attempts = s.net.attempts := by
      split
      · have h := hread (t := s) (u := s) (addr := 0) (lines := 1) (tag := 2) rfl
        exact ⟨_, rfl, h.1 q hq, h.2⟩
      · exact ⟨s, rfl, ⟨q, hq, .refl q⟩, rfl⟩
    obtain ⟨t, ht, ⟨x, hx, hqx⟩, hattempts⟩ := hfirst
    rw [ht]
    split
    · have h := hread (t := t) (u := t) (addr := 0) (lines := 1) (tag := 1) rfl
      obtain ⟨y, hy, hxy⟩ := h.1 x hx
      exact ⟨⟨y, hy, hqx.trans hxy⟩, h.2.trans hattempts⟩
    · exact ⟨⟨x, hx, hqx⟩, hattempts⟩

theorem exec_connectResendTimeout_again (ha : (s.net.attempts.find? fun x => x.initQpn == n) = some a) (hmore : a.resends < 8) :
    ∃ sch, exec (.connectResendTimeout n) s = .next { (s.advanceTo (a.sentAt + 1000000)).modAttempt n fun x =>
      { x with resends := x.resends + 1, sentAt := max s.time (a.sentAt + 1000000) } with sch := sch } := by
  have hexec : exec (.connectResendTimeout n) s = execConnectResendTimeout n s := rfl
  rw [hexec, execConnectResendTimeout, ha]
  simp only [Nat.not_le.mpr hmore, if_false]
  obtain ⟨sch, hsent⟩ := State.sendConnect_eq ((s.advanceTo (a.sentAt + 1000000)).modAttempt n fun x =>
      { x with resends := x.resends + 1, sentAt := max s.time (a.sentAt + 1000000) }) _ _ _ _
  exact ⟨sch, congrArg Host.Outcome.next hsent⟩

theorem exec_connectResendTimeout_fails (ha : (s.net.attempts.find? fun x => x.initQpn == n) = some a) (hspent : 8 ≤ a.resends) :
    exec (.connectResendTimeout n) s = .next ((s.advanceTo (a.sentAt + 1000000)).attemptFailed a) := by
  change execConnectResendTimeout n s = _
  rw [execConnectResendTimeout, ha]
  simp only [hspent, if_true]

end

/-- This node proves, verifies, and gives up after 8 resends (R192, R195, R196). -/
theorem initiatorProvesAndVerifies : Claims.InitiatorProvesAndVerifies := by
  refine ⟨fun c s a ha hown hphase => ?_, fun c s a ha hphase hnone => ⟨exec_accept_discarded ha, fun hproof => ?_⟩,
    fun n s a ha => ⟨fun hmore => ?_, fun hspent hstream => ?_⟩⟩
  · obtain ⟨sch, hexec⟩ := exec_challenge ha hphase
    rw [hexec]
    exact answers_next ⟨State.find_modAttempt hown rfl, rfl, rfl⟩
  · obtain ⟨q, cs, e, f, rng, hq, hexec⟩ := exec_accept_verified ha hphase hnone hproof
    have hstore := ((execAccept_same c s).of _ hexec).store.eq rfl
    have hput : (((s.dropAttempt a.initQpn rng).withQp q).withPlaces cs e f).qp a.initQpn = some q := by
      rw [← hq.qpn]
      exact State.qp_withQp (s := s.dropAttempt a.initQpn rng) (hq.qpn ▸ hnone :)
    obtain ⟨⟨x, hx, hpump⟩, hattempts⟩ := State.connected_spec hput
    have ho := hq.of_pumpedAs hpump
    rw [hexec]
    refine answers_next ⟨⟨x, hx, ho.state, ho.initiator, ho.peerQpn, ho.paddock, ho.srcNode, ho.peerTkey, ho.expect⟩,
      fun y hy => ?_, hstore⟩
    rw [hattempts] at hy
    simpa using (List.mem_filter.mp hy).2
  · obtain ⟨sch, hexec⟩ := exec_connectResendTimeout_again ha hmore
    have hn : a.initQpn = n := by simpa using List.find?_some ha
    rw [hexec]
    exact answers_next ⟨rfl, State.find_modAttempt (s := s.advanceTo (a.sentAt + 1000000)) ha hn, rfl⟩
  · have hn : a.initQpn = n := by simpa using List.find?_some ha
    rw [exec_connectResendTimeout_fails ha hspent]
    obtain ⟨m, -, heq⟩ := (s.advanceTo (a.sentAt + 1000000)).attemptFailed_eq hstream
    rw [heq]
    exact answers_next ⟨fun x hx => by simpa [hn] using (List.mem_filter.mp hx).2, rfl, rfl⟩

/-- Settles O15: the holder of a window is put into ERROR by the PROOF itself, which changes no window but for the takeover that it
notes; and of an attempt's connection, what is asked over it at once changes the sending side alone. -/
theorem initiatorAndTakeover : Obligations.InitiatorAndTakeover := by
  unfold Obligations.InitiatorAndTakeover
  exact ⟨windowTakeoverWaitsForTheOldConnection, initiatorProvesAndVerifies⟩

end Sys2Proof.Machine
end

section
/-! SUPPORT. A frame that reaches its connection at once (R182, R190, R213, R221), and what a packet of a connection that works does
with it (R187, R199–R201, R206). -/

namespace Sys2Proof.Machine

/-! ### The way of a frame -/

/-- Authentication changes of a connection the counts of the packets received alone (R221). -/
theorem Qp.open_eq {q x : Qp} {f : Frame} {payload : Bytes} (h : q.open_ f = some (payload, x)) :
    ∃ high seen, x = { q with rx := { q.rx with txHigh := high, txSeen := seen } } := by
  rw [Qp.open_] at h
  dsimp only at h
  generalize q.packetKey _ = k at h
  split at h
  · cases h
  · split at h
    · exact ⟨_, _, (Prod.mk.inj (Option.some.inj h)).2.symm⟩
    · split at h
      · cases h
      · exact ⟨_, _, (Prod.mk.inj (Option.some.inj h)).2.symm⟩

/-- The node once a frame has reached its connection and the connection has counted it: it stirred, perhaps, and the context was
used (R212, R221, R373). -/
def State.opened (s : State) (q : Qp) (pwr : Power) (cached : List Nat) : State :=
  { s with pwr := pwr
           net := { s.net with qps := updateFirst (·.qpn == q.qpn) (fun _ => q) s.net.qps, cached := cached } }

section
variable {s : State} {f : Frame} {q : Qp} {payload : Bytes}

theorem AtHand.qpn (h : AtHand s f q payload) : q.qpn = (hdr f).dest := by
  obtain ⟨q0, hq0, hopen⟩ := h.qp
  obtain ⟨_, _, rfl⟩ := Qp.open_eq hopen
  exact (State.qpn_of_qp hq0 :)

theorem AtHand.qp_opened (h : AtHand s f q payload) (pwr : Power) (cached : List Nat) :
    (s.opened q pwr cached).qp q.qpn = some q := by
  obtain ⟨q0, hq0, -⟩ := h.qp
  rw [← h.qpn] at hq0
  exact (State.qp_modQp (f := fun _ => q) hq0 rfl :)

/-- What the connections of a kind hold is read off the same when a frame has reached its connection. -/
theorem AtHand.map_qps (h : AtHand s f q payload) {α : Type} {r : Qp → Bool} {g : Qp → α}
    (hr : ∀ (x : Qp) (high : Nat) (seen : List Nat), r { x with rx := { x.rx with txHigh := high, txSeen := seen } } = r x)
    (hg : ∀ (x : Qp) (high : Nat) (seen : List Nat), g { x with rx := { x.rx with txHigh := high, txSeen := seen } } = g x)
    (pwr : Power) (cached : List Nat) :
    ((s.opened q pwr cached).net.qps.filter r).map g = (s.net.qps.filter r).map g := by
  obtain ⟨q0, hq0, hopen⟩ := h.qp
  rw [← h.qpn] at hq0
  obtain ⟨high, seen, rfl⟩ := Qp.open_eq hopen
  exact map_filter_updateFirst (f := fun _ => _) hq0 (hr ..) (hg ..)

theorem AtHand.stagingFree_opened (h : AtHand s f q payload) (pwr : Power) (cached : List Nat) :
    (s.opened q pwr cached).stagingFree q = s.stagingFree q := by
  have hcfg : (s.opened q pwr cached).sliceCfg q.homeSlice = s.sliceCfg q.homeSlice := rfl
  rw [State.stagingFree, State.stagingFree, hcfg]
  cases s.sliceCfg q.homeSlice with
  | none => rfl
  | some c =>
    dsimp only
    rw [h.map_qps (fun _ _ _ => rfl) (fun _ _ _ => rfl), h.map_qps (fun _ _ _ => rfl) (fun _ _ _ => rfl)]

theorem AtHand.receiveFrame_takePacket (h : AtHand s f q payload) : ∃ pwr cached, pwr.state = s.pwr.state ∧
    s.receiveFrame f = State.takePacket { s with pwr := pwr, net := { s.net with cached := cached } } (hdr f).dest f := by
  obtain ⟨l, hlink⟩ := h.link
  obtain ⟨q0, hq0, hopen⟩ := h.qp
  obtain ⟨_, _, rfl⟩ := Qp.open_eq hopen
  have hstate : q0.state = .ready := h.state
  have hruns : (s.net.blocked.any fun x => x.1 == f.link / 4 && x.2.pcp == f.pcp) = false := by
    rw [List.any_eq_false]
    exact fun x hx => by simp [h.runs x hx]
  have hwake : (if (hdr f).type == 0 then s.wake 1 (f.link / 4) else s) = s := by rw [State.wake_of_awake h.awake, ite_self]
  have hgoes : (decide ((hdr f).dest < 2) || decide (q0.state = .quarantine)) = false := by
    have hrange := h.range
    simp [hstate]
    omega
  have hhand (p : Power) : ({ s with pwr := p } : State).atHand (hdr f).dest =
      some (({ s with pwr := p } : State).touchContext (hdr f).dest) := by
    rw [State.atHand, if_pos (by exact h.cached)]
  obtain ⟨p, hp, hstir⟩ : ∃ p : Power, p.state = s.pwr.state ∧ (if (hdr f).type == 0 && q0.service != 1 then
      { s with pwr := { s.pwr with idleSince := s.time } } else s) = { s with pwr := p } := by
    split
    · exact ⟨{ s.pwr with idleSince := s.time }, rfl, rfl⟩
    · exact ⟨s.pwr, rfl, rfl⟩
  obtain ⟨c, hc⟩ := State.touchContext_eq { s with pwr := p } (hdr f).dest
  refine ⟨p, c, hp, ?_⟩
  rw [State.receiveFrame]
  simp only [hlink, h.framed, hruns, hwake, hq0, hgoes, hstir, hhand, hc, Bool.not_true, Bool.false_eq_true, if_false]
  rfl

/-- A frame at hand does what its type says, on a node that differs in the connection's counts and the places of contexts alone. -/
theorem AtHand.receiveFrame_eq (h : AtHand s f q payload) : ∃ pwr cached, pwr.state = s.pwr.state ∧
    ((hdr f).type = 0 → s.receiveFrame f = (s.opened q pwr cached).takeData q f payload) ∧
    ((hdr f).type = 1 → s.receiveFrame f = ((s.opened q pwr cached).tally q.paddock 4 f.wire).takeAck q (hdr f)) ∧
    ((hdr f).type = 2 → s.receiveFrame f = ((s.opened q pwr cached).tally q.paddock 4 f.wire).takeNak q (hdr f)) ∧
    ((hdr f).type = 3 → s.receiveFrame f = ((s.opened q pwr cached).tally q.paddock 4 f.wire).takeRnr q (hdr f)) ∧
    ((hdr f).type = 4 → s.receiveFrame f = ((s.opened q pwr cached).tally q.paddock 4 f.wire).takeCnp q) := by
  obtain ⟨p, c, hp, hway⟩ := h.receiveFrame_takePacket
  obtain ⟨q0, hq0, hopen⟩ := h.qp
  have hq0' : State.qp { s with pwr := p, net := { s.net with cached := c } } (hdr f).dest = some q0 := hq0
  obtain ⟨c', hc'⟩ := State.touchContext_eq
    (State.modQp { s with pwr := p, net := { s.net with cached := c } } (hdr f).dest fun _ => q) (hdr f).dest
  have hopened : (State.modQp { s with pwr := p, net := { s.net with cached := c } } (hdr f).dest fun _ => q).touchContext
      (hdr f).dest = s.opened q p c' := by
    rw [hc', ← h.qpn]
    rfl
  refine ⟨p, c', hp, ?_⟩
  rw [hway, State.takePacket]
  simp only [hq0', hopen, hopened, h.state]
  refine ⟨fun ht => ?_, fun ht => ?_, fun ht => ?_, fun ht => ?_, fun ht => ?_⟩ <;> simp only [ht]

theorem AtHand.isData (h : AtHand s f q payload) (ht : (hdr f).type = 0) : s.isData f q.spray = true := by
  obtain ⟨q0, hq0, hopen⟩ := h.qp
  obtain ⟨_, _, rfl⟩ := Qp.open_eq hopen
  simp [State.isData, ht, hq0]

end

/-! ### A DATA packet -/

section
variable {s : State} {n : Nat} {q : Qp} {f : Frame} {payload : Bytes}

theorem State.takeData_eq (hq : s.qp q.qpn = some q) (hawake : s.awake = true) (hrefusing : q.rx.refusing = none)
    (hce : f.ce = false) :
    s.takeData q f payload = if q.spray then s.takeSprayed q f payload else s.takeOrdered q f payload := by
  have hsame : s.modQp q.qpn (fun x => { x with rx := { x.rx with refusing := none } }) = s :=
    State.modQp_of_qp hq (by rw [← hrefusing])
  rw [State.takeData]
  simp only [hce, hrefusing, hawake, hsame, hq, Bool.false_and, Bool.not_true, Bool.false_eq_true, if_false]

/-- A DATA packet at hand, without a congestion mark on a connection that refuses none (R199, R205). -/
theorem AtHand.receiveData (h : AtHand s f q payload) (ht : (hdr f).type = 0) (hrefusing : q.rx.refusing = none)
    (hce : f.ce = false) : ∃ pwr cached, s.receiveFrame f =
      if q.spray then (s.opened q pwr cached).takeSprayed q f payload else (s.opened q pwr cached).takeOrdered q f payload := by
  obtain ⟨p, c, hp, hdata, -⟩ := h.receiveFrame_eq
  have hawake : (s.opened q p c).awake = true := by
    have hn0 := h.awake
    rw [State.awake] at hn0 ⊢
    rwa [show (s.opened q p c).pwr.state = s.pwr.state from hp]
  exact ⟨p, c, (hdata ht).trans (State.takeData_eq (h.qp_opened p c) hawake hrefusing hce)⟩

/-- The message that a packet opens, with the packet in it (R187). -/
def PktHead.opening (h : PktHead) (mtu : Nat) (payload : Bytes) : InMsg := InMsg.take
  ⟨h.msn, h.opcode, h.msgLen, (h.psn + 2 ^ 24 - h.offset / mtu % 2 ^ 24) % 2 ^ 24, [], false, 0⟩ h mtu payload

/-- A connection with one message more under way, which holds a slot and staging bytes (R198). -/
def Qp.opening (m : InMsg) (prios : Qp → List (Nat × Nat)) (q : Qp) : Qp := { q with rx := { q.rx with
  msgs := q.rx.msgs ++ [m], used := q.rx.used ++ [(m.msn, m.len)], prios := prios q } }

theorem State.acceptInto_opens (hd : q.drained (hdr f).opcode = false) : ∃ prios, s.acceptInto q none f payload =
    ((s.modQp q.qpn (Qp.opening ((hdr f).opening q.mtu payload) prios)).tally q.paddock 4 f.wire,
      (hdr f).opening q.mtu payload) := by
  rw [State.acceptInto]
  simp only [hd, Option.isNone_none, Option.isSome_none, Option.getD_none, Bool.not_false, Bool.and_true, Bool.true_or,
    Bool.false_eq_true, if_true, if_false]
  exact ⟨_, rfl⟩

theorem State.qp_noteAccept (hq : s.qp n = some q) : ∃ due, (s.noteAccept n).qp n =
    some { q with rx := { q.rx with sinceAck := q.rx.sinceAck + 1, ackAt := due } } :=
  ⟨_, State.qp_modQp hq (State.qpn_of_qp hq :)⟩

theorem State.afterAccept_onConn (s : State) (n : Nat) (h : PktHead) : OnConn Qp.AckedAs n s (s.afterAccept n h) := by
  rw [State.afterAccept]
  cases s.qp n with
  | none => exact .refl .refl s
  | some q =>
    dsimp only
    split
    · exact .refl .refl s
    · split
      · exact State.sendAck_onConn ..
      · exact .refl .refl s

theorem State.dupAck_onConn (s : State) (q : Qp) : OnConn Qp.AckedAs q.qpn s (s.dupAck q) := by
  rw [State.dupAck]
  split
  · split
    · exact .refl .refl s
    · exact State.sendAck_onConn ..
  · exact State.sendAck_onConn ..

/-- A packet's PSN does not precede itself (R200). -/
theorem precedes_self (p : Nat) : precedes p p = false := by
  have h : (p + 2 ^ 24 - p % 2 ^ 24) % 2 ^ 24 = 0 := by omega
  simp only [precedes, h]
  decide

theorem ite_some_eq_none {α : Type} {c : Prop} [Decidable c] {a : α} {o : Option α} :
    (if c then some a else o) = none ↔ ¬ c ∧ o = none := by
  split <;> simp [*]

/-- What a well-formed packet's length, offset and marks say of each other (R187). -/
theorem Qp.pktFault_none {h : PktHead} (hok : q.pktFault h payload = none) : payload.length ≤ q.mtu ∧
    h.last = (h.offset + payload.length == h.msgLen) ∧ h.first = (h.offset == 0) := by
  simp only [Qp.pktFault, ite_some_eq_none] at hok
  obtain ⟨-, -, -, -, -, hplace, hmarks, -⟩ := hok
  simp only [Bool.or_eq_true, decide_eq_true_eq, not_or] at hplace
  simp only [Bool.or_eq_true, bne_iff_ne, not_or, not_not] at hmarks
  exact ⟨Nat.not_lt.mp hplace.1.2, hmarks.1.1, hmarks.2⟩

end

end Sys2Proof.Machine
end

section
/-! O17. A connection that is not sprayed takes packets in order: what is whole is delivered, a packet below E is acknowledged
again, and one above E draws a NAK (R200, R201, R206). -/

namespace Sys2Proof.Machine

/-! ### Delivery -/

/-- A connection whose message is with its service; a request is outstanding from then on (R206, R197). -/
def Qp.delivered (m : InMsg) (q : Qp) : Qp := { q with rx := { q.rx with
  msgs := q.rx.msgs.filter (·.msn != m.msn)
  outstanding := if m.opcode != 0x61 then q.rx.outstanding ++ [(m.msn, m.opcode)] else q.rx.outstanding
  drainFrom := if m.opcode == 0x61 then some m.msn else q.rx.drainFrom } }

section
variable {s : State} {n : Nat} {q : Qp} {m : InMsg} {h : PktHead} {payload : Bytes}

/-- A message that holds its slot reaches its service, unless the connection drains. -/
theorem State.deliver_of_used (hq : s.qp n = some q) (hused : q.rx.used.any (·.1 == m.msn) = true)
    (hd : q.drained m.opcode = false) : s.deliver n m =
      { s.modQp n (Qp.delivered m) with net := { (s.modQp n (Qp.delivered m)).net with
        inbox := s.net.inbox ++ [⟨n, m.msn, m.lastPsn, m.opcode, m.body (q.packets m)⟩] } } := by
  have hafter : (!q.spray && m.opcode != 0x61 && q.rx.drainFrom.isSome) = false := by
    rw [Qp.drained] at hd
    cases ho : m.opcode != 0x61 <;> simp_all
  rw [State.deliver, hq]
  simp only [hafter, hused, Bool.not_false, Bool.true_and, Bool.false_eq_true, if_false, if_true]
  rfl

theorem State.deliverOrHold_of_runs (hq : s.qp n = some q) (hheld : q.rx.held = []) (hm : m.waits = false) :
    s.deliverOrHold n m = s.deliver n m := by
  rw [State.deliverOrHold, hq, hm, Option.map_some, hheld]
  simp

/-! ### A message of one packet (R187) -/

theorem Qp.packets_opening (hmtu : h.msgLen ≤ q.mtu) : q.packets (h.opening q.mtu payload) = 1 := by
  have hceil : ceilDiv h.msgLen q.mtu ≤ 1 := by
    rw [ceilDiv]
    obtain hzero | hpos := Nat.eq_zero_or_pos q.mtu
    · simp [hzero]
    · exact Nat.le_of_lt_succ ((Nat.div_lt_iff_lt_mul hpos).mpr (by omega))
  exact Nat.max_eq_left hceil

theorem PktHead.body_opening (mtu : Nat) (ho : h.offset = 0) : (h.opening mtu payload).body 1 = payload := by
  simp [PktHead.opening, InMsg.take, InMsg.body, ho, List.range_succ]

/-- Such a message is its packet's payload. -/
theorem Qp.body_opening (hok : q.pktFault h payload = none) (hf : h.first = true) (hl : h.last = true) :
    (h.opening q.mtu payload).body (q.packets (h.opening q.mtu payload)) = payload := by
  obtain ⟨hmtu, hlast, hfirst⟩ := Qp.pktFault_none hok
  have ho : h.offset = 0 := by simpa [hf] using hfirst
  have hlen : h.offset + payload.length = h.msgLen := by simpa [hl] using hlast
  rw [Qp.packets_opening (by omega), PktHead.body_opening _ ho]

end

/-! ### In order (R200, R201) -/

/-- A connection past the packet which it expected, the last of its message (R200). -/
def Qp.past (h : PktHead) (q : Qp) : Qp := { q with rx := { q.rx with
  expect := (h.psn + 1) % 2 ^ 24, nakSent := false, nextMsn := (h.msn + 1) % 2 ^ 24 } }

/-- The node once the one packet of a message is accepted and counted, its Tally included. -/
def State.accepting (s : State) (q : Qp) (prios : Qp → List (Nat × Nat)) (f : Frame) (m : InMsg) : State :=
  (((s.modQp q.qpn (Qp.opening m prios)).tally q.paddock 4 f.wire).noteAccept q.qpn).modQp q.qpn (Qp.past (hdr f))

section
variable {s : State} {q : Qp} {f : Frame} {payload : Bytes}

theorem State.takeOrdered_accepts (hpsn : (hdr f).psn = q.rx.expect) (hok : q.pktFault (hdr f) payload = none)
    (hf : (hdr f).first = true) (hl : (hdr f).last = true) (hmsn : (hdr f).msn = q.rx.nextMsn) (hmsgs : q.rx.msgs = [])
    (hd : q.drained (hdr f).opcode = false) (hopen : s.canOpen q (hdr f) = true) :
    ∃ prios, s.takeOrdered q f payload = ((s.accepting q prios f ((hdr f).opening q.mtu payload)).deliverOrHold q.qpn
      ((hdr f).opening q.mtu payload)).afterAccept q.qpn (hdr f) := by
  obtain ⟨prios, hinto⟩ := State.acceptInto_opens (s := s) (payload := payload) hd
  refine ⟨prios, ?_⟩
  have hnot : precedes (hdr f).psn q.rx.expect = false := hpsn ▸ precedes_self _
  rw [State.takeOrdered]
  simp only [hnot, Bool.false_eq_true, if_false, hok, hmsgs, List.head?_nil, hf, hd, hopen]
  simp only [hpsn, hmsn, bne_self_eq_false, beq_self_eq_true, Bool.and_self, Bool.not_true, Bool.and_false, Bool.false_eq_true,
    if_false, hinto, hl, if_true]
  rw [State.accepting, ← hpsn, ← hmsn]
  rfl

theorem State.qp_accepting (hq : s.qp q.qpn = some q) (prios : Qp → List (Nat × Nat)) (m : InMsg) :
    ∃ due since, (s.accepting q prios f m).qp q.qpn = some ((({ q.opening m prios with rx := { (q.opening m prios).rx with
      sinceAck := since, ackAt := due } } : Qp)).past (hdr f)) := by
  obtain ⟨due, hdue⟩ := State.qp_noteAccept (s := (s.modQp q.qpn (Qp.opening m prios)).tally q.paddock 4 f.wire)
    (State.qp_modQp (f := Qp.opening m prios) hq rfl)
  exact ⟨due, _, State.qp_modQp hdue rfl⟩

/-- A message of one packet in order, once it is accepted: it is delivered, and its connection goes on behind it. -/
theorem State.accepting_delivered (hq : s.qp q.qpn = some q) (hheld : q.rx.held = []) (prios : Qp → List (Nat × Nat)) {m : InMsg}
    (hm : m.waits = false) (hd : q.drained m.opcode = false) :
    ((s.accepting q prios f m).deliverOrHold q.qpn m).net.inbox = s.net.inbox ++
      [⟨q.qpn, m.msn, m.lastPsn, m.opcode, m.body (q.packets m)⟩] ∧
    ((s.accepting q prios f m).deliverOrHold q.qpn m).pads = (s.tally q.paddock 4 f.wire).pads ∧
    ∃ x, ((s.accepting q prios f m).deliverOrHold q.qpn m).qp q.qpn = some x ∧ x.state = q.state ∧
      x.rx.expect = ((hdr f).psn + 1) % 2 ^ 24 ∧ x.rx.nextMsn = ((hdr f).msn + 1) % 2 ^ 24 ∧
      x.rx.used = q.rx.used ++ [(m.msn, m.len)] := by
  obtain ⟨due, since, hx⟩ := State.qp_accepting (f := f) hq prios m
  have hused : ((({ q.opening m prios with rx := { (q.opening m prios).rx with
      sinceAck := since, ackAt := due } } : Qp)).past (hdr f)).rx.used.any (·.1 == m.msn) = true := by
    simp [Qp.past, Qp.opening]
  rw [State.deliverOrHold_of_runs hx hheld hm, State.deliver_of_used hx hused hd]
  exact ⟨rfl, rfl, _, State.qp_modQp hx rfl, rfl, rfl, rfl, rfl⟩

end

/-! ### Out of turn (R200) -/

section
variable {s : State} {n : Nat} {q : Qp} {f : Frame} {payload : Bytes}

theorem State.takeOrdered_duplicate (h : precedes (hdr f).psn q.rx.expect = true) :
    s.takeOrdered q f payload = s.dupAck q := by
  rw [State.takeOrdered]
  simp only [h, if_true]

/-- A connection whose NAK for E went out (R200). -/
def Qp.nakked (q : Qp) : Qp := { q with rx := { q.rx with nakSent := true } }

/-- Of a connection, a NAK for E may have gone out. -/
def Qp.NakkedAs (q x : Qp) : Prop := ∃ c k, x = { q.nakked with tx := { q.tx with control := c, txCount := k } }

theorem State.takeOrdered_gap (hq : s.qp q.qpn = some q) (hnot : precedes (hdr f).psn q.rx.expect = false)
    (hne : (hdr f).psn ≠ q.rx.expect) : (s.takeOrdered q f payload).net.inbox = s.net.inbox ∧
      Same { net := true, sch := true } s (s.takeOrdered q f payload) ∧
      ∃ x, (s.takeOrdered q f payload).qp q.qpn = some x ∧ q.NakkedAs x := by
  rw [State.takeOrdered]
  simp only [hnot, Bool.false_eq_true, if_false, bne_iff_ne.mpr hne, if_true]
  split
  · next hsent =>
    exact ⟨rfl, .refl _ s, q, hq, _, _, by rw [Qp.nakked, ← hsent]⟩
  · have hctl := (s.modQp q.qpn Qp.nakked).control_onConn q.qpn 2 q.rx.expect 0
    obtain ⟨x, hx, hnak⟩ := hctl.own q.nakked (State.qp_modQp hq rfl)
    exact ⟨hctl.inbox, ((State.modQp_same ..).mono rfl).trans hctl.same, x, hx, hnak⟩

end

/-- Settles O17: a packet in order opens, fills and closes its message in one acceptance; out of turn, only what an ACK or a NAK resets
of its connection changes. -/
theorem packetsAreAcceptedInOrder : Obligations.PacketsAreAcceptedInOrder := by
  unfold Obligations.PacketsAreAcceptedInOrder
  intro s f q payload h ht hspray hrefusing hce
  obtain ⟨p, c, hframe⟩ := h.receiveData ht hrefusing hce
  rw [hspray, if_neg Bool.false_ne_true] at hframe
  have hexec : exec (.dataPacket f) s = .next ((s.opened q p c).takeOrdered q f payload) := by
    rw [← hframe]
    exact if_pos (hspray ▸ h.isData ht)
  have hstore (t : State) (ht : (s.opened q p c).takeOrdered q f payload = t) : t.store = s.store ∧ t.mem = s.mem := by
    have hsame := (execDataPacket_same f s).of _ (hexec.trans (congrArg _ ht))
    exact ⟨hsame.store.eq rfl, hsame.mem.eq rfl⟩
  have hq := h.qp_opened p c
  rw [hexec]
  refine ⟨fun hpsn hok hf hl hfinal hmsn hmsgs hheld hd hslots hlen => answers_next ?_, fun hdup => answers_next ?_,
    fun hnot hne => answers_next ?_⟩
  case refine_1 =>
    have hopen : (s.opened q p c).canOpen q (hdr f) = true := by
      simp [State.canOpen, h.stagingFree_opened, hspray, hslots, hlen]
    obtain ⟨prios, htake⟩ := State.takeOrdered_accepts hpsn hok hf hl hmsn hmsgs hd hopen
    have hwaits : ((hdr f).opening q.mtu payload).waits = false := by
      rcases hfinal with hfinal | hfinal <;> simp [InMsg.waits, PktHead.opening, InMsg.take, hfinal]
    obtain ⟨hinbox, hpads, x, hx, hready, hexpect, hnext, hused⟩ := State.accepting_delivered (f := f) hq hheld prios hwaits hd
    have hafter := ((s.opened q p c).accepting q prios f ((hdr f).opening q.mtu payload) |>.deliverOrHold q.qpn
      ((hdr f).opening q.mtu payload)).afterAccept_onConn q.qpn (hdr f)
    obtain ⟨y, hy, _, _, _, _, _, rfl⟩ := hafter.own x hx
    rw [htake]
    refine ⟨?_, ⟨_, hy, hready.trans h.state, hexpect, hnext, hused⟩, ?_, hstore _ htake⟩
    · rw [hafter.inbox, hinbox, Qp.body_opening hok hf hl]
      simp [PktHead.opening, InMsg.take, hl]
      rfl
    · have hpad : (((s.opened q p c).accepting q prios f ((hdr f).opening q.mtu payload)).deliverOrHold q.qpn
          ((hdr f).opening q.mtu payload) |>.afterAccept q.qpn (hdr f)).pads = (s.tally q.paddock 4 f.wire).pads :=
        (hafter.same.pads.eq rfl).trans hpads
      rw [State.pad, hpad]
      exact congrArg Pad.counters (State.pad_modPad (State.pad_id s _))
  case refine_2 =>
    have htake := State.takeOrdered_duplicate (s := s.opened q p c) (payload := payload) hdup
    have hack := (s.opened q p c).dupAck_onConn q
    obtain ⟨x, hx, _, _, _, _, _, rfl⟩ := hack.own q hq
    rw [htake]
    exact ⟨hack.inbox, (hstore _ htake).1, hack.same.pads.eq rfl, _, hx, h.state, rfl, rfl⟩
  case refine_3 =>
    obtain ⟨hinbox, hsame, x, hx, _, _, rfl⟩ := State.takeOrdered_gap (payload := payload) hq hnot hne
    exact ⟨hinbox, (hstore _ rfl).1, hsame.pads.eq rfl, _, hx, rfl, rfl, rfl⟩

end Sys2Proof.Machine
end

section
/-! O18. A sprayed connection takes packets beyond E, and waits for the hole before them (R209–R211); the acknowledgement delay
ends in an ACK (R201). -/

namespace Sys2Proof.Machine

/-! ### What the delivery of whole messages leaves alone (R209, R211) -/

/-- Of a sprayed connection: what stays as messages are delivered. -/
structure Qp.ServedAs (q x : Qp) : Prop where
  spray : x.spray = q.spray
  expect : x.rx.expect = q.rx.expect
  accepted : x.rx.accepted = q.rx.accepted
  hole : x.rx.hole = q.rx.hole
  used : x.rx.used = q.rx.used

theorem Qp.ServedAs.refl (q : Qp) : q.ServedAs q := ⟨rfl, rfl, rfl, rfl, rfl⟩

theorem Qp.ServedAs.trans {q x y : Qp} (h : q.ServedAs x) (k : x.ServedAs y) : q.ServedAs y :=
  ⟨k.spray.trans h.spray, k.expect.trans h.expect, k.accepted.trans h.accepted, k.hole.trans h.hole, k.used.trans h.used⟩

theorem Qp.AckedAs.served {q x : Qp} (h : q.AckedAs x) : q.ServedAs x := by
  obtain ⟨_, _, _, _, _, rfl⟩ := h
  exact ⟨rfl, rfl, rfl, rfl, rfl⟩

/-- `t` comes from `s` as messages of the sprayed connection `n` are delivered. -/
structure Serves (n : Nat) (s t : State) : Prop where
  own : ∀ q, s.qp n = some q → q.spray = true → ∃ x, t.qp n = some x ∧ q.ServedAs x

section
variable {n : Nat} {s t u : State} {f : Qp → Qp}

theorem Serves.refl (n : Nat) (s : State) : Serves n s s := ⟨fun q hq _ => ⟨q, hq, .refl q⟩⟩

theorem Serves.trans (h : Serves n s t) (k : Serves n t u) : Serves n s u := by
  refine ⟨fun q hq hspray => ?_⟩
  obtain ⟨x, hx, hqx⟩ := h.own q hq hspray
  obtain ⟨y, hy, hxy⟩ := k.own x hx (hqx.spray.trans hspray)
  exact ⟨y, hy, hqx.trans hxy⟩

theorem Serves.modQp (hf : ∀ q : Qp, q.spray = true → q.ServedAs (f q)) (hqpn : ∀ q, (f q).qpn = q.qpn) :
    Serves n s (s.modQp n f) :=
  ⟨fun q hq hspray => ⟨f q, State.qp_modQp hq ((hqpn q).trans (State.qpn_of_qp hq)), hf q hspray⟩⟩

theorem OnConn.serves (h : OnConn Qp.AckedAs n s t) : Serves n s t :=
  ⟨fun q hq _ => (h.own q hq).imp fun _ hx => ⟨hx.1, hx.2.served⟩⟩

theorem State.deliver_serves (s : State) (n : Nat) (m : InMsg) : Serves n s (s.deliver n m) := by
  refine ⟨fun q hq hspray => ?_⟩
  have hafter : (!q.spray && m.opcode != 0x61 && q.rx.drainFrom.isSome) = false := by simp [hspray]
  rw [State.deliver, hq]
  simp only [hafter, Bool.false_eq_true, if_false]
  split
  · exact ⟨_, State.qp_modQp hq (State.qpn_of_qp hq :), rfl, rfl, rfl, rfl, rfl⟩
  · exact ⟨_, State.qp_modQp hq (State.qpn_of_qp hq :), rfl, rfl, rfl, rfl, rfl⟩

theorem State.deliverHeldFuel_serves (n fuel : Nat) (s : State) : Serves n s (s.deliverHeldFuel fuel n) := by
  induction fuel generalizing s with
  | zero => exact .refl n s
  | succ fuel ih =>
    rw [State.deliverHeldFuel]
    split
    · exact .refl n s
    · refine .trans (.trans (.modQp (fun _ _ => ?_) fun _ => ?_) (State.deliver_serves ..)) (ih _)
      · exact ⟨rfl, rfl, rfl, rfl, rfl⟩
      · rfl

theorem State.releaseHeld_serves (s : State) (n : Nat) : Serves n s (s.releaseHeld n) := by
  rw [State.releaseHeld]
  split
  · exact .refl n s
  · exact (State.deliverHeldFuel_serves ..).trans (State.sendAck_onConn ..).serves

theorem State.deliverOrHold_serves (s : State) (n : Nat) (m : InMsg) : Serves n s (s.deliverOrHold n m) := by
  rw [State.deliverOrHold]
  dsimp only
  split
  · refine .trans (.modQp (fun _ _ => ?_) fun _ => ?_) (State.releaseHeld_serves ..)
    · exact ⟨rfl, rfl, rfl, rfl, rfl⟩
    · rfl
  · exact State.deliver_serves ..

theorem State.deliverReady_serves (s : State) (n : Nat) : Serves n s (s.deliverReady n) := by
  rw [State.deliverReady]
  cases s.qp n with
  | none => exact .refl n s
  | some q =>
    dsimp only
    refine .trans ?_ (State.releaseHeld_serves ..)
    generalize q.rx.msgs.filter _ = ms
    induction ms generalizing s with
    | nil => exact .refl n s
    | cons m ms ih => exact (s.deliverOrHold_serves n m).trans (ih _)

end

/-! ### A packet beyond E (R209, R210) -/

theorem advanceSpans_eq (k : Nat) (r : RxSide) : ∃ next first spans, advanceSpans k r =
    { r with nextMsn := next, nextFirst := first, spans := spans } := by
  induction k generalizing r with
  | zero => exact ⟨_, _, _, rfl⟩
  | succ k ih =>
    rw [advanceSpans]
    split
    · exact ⟨_, _, _, rfl⟩
    · next x _ =>
      obtain ⟨a, b, c, h⟩ := ih { r with
        nextMsn := (r.nextMsn + 1) % 2 ^ 24, nextFirst := (x.first + x.packets) % 2 ^ 24
        spans := r.spans.filter (·.msn != x.msn) }
      exact ⟨a, b, c, h⟩

theorem advanceE_of_not_mem {e fuel : Nat} {acc : List Nat} (h : e ∉ acc) : advanceE (fuel + 1) e acc = (e, acc) := by
  simp [advanceE, h]

/-- A connection that took a message's first PSNs into account (R187). -/
def Qp.spanned (h : PktHead) (q : Qp) (x : Qp) : Qp :=
  { x with rx := advanceSpans (x.rx.spans.length + 1) { x.rx with spans := x.rx.spans ++ [q.spanOf h] } }

/-- A connection that holds a PSN beyond E, with its hole timer running to an instant (R209, R210). -/
def Qp.beyond (e : Nat) (accepted : List Nat) (timer : Nat) (x : Qp) : Qp := { x with rx := { x.rx with
  expect := e, accepted := accepted
  hole := if accepted.isEmpty then none
    else match x.rx.hole with | some t => some t | none => if x.rx.nakSent then none else some timer } }

/-- The node once a packet that leaves E is accepted into the message that it opens, and has its place among the PSNs. -/
def State.accepted (s : State) (q : Qp) (f : Frame) (m : InMsg) (prios : Qp → List (Nat × Nat)) (accepted : List Nat)
    (timer : Nat) : State :=
  (((s.modQp q.qpn (Qp.opening m prios)).tally q.paddock 4 f.wire).modQp q.qpn (Qp.spanned (hdr f) q)).modQp q.qpn
    (Qp.beyond q.rx.expect accepted timer)

section
variable {s : State} {q : Qp} {f : Frame} {payload : Bytes}

theorem State.takeSprayed_opens (hnot : precedes (hdr f).psn q.rx.expect = false) (hne : (hdr f).psn ≠ q.rx.expect)
    (hnear : psnDistance q.rx.expect (hdr f).psn < 8192) (hnew : (hdr f).psn ∉ q.rx.accepted)
    (hgap : q.rx.expect ∉ q.rx.accepted) (hok : q.pktFault (hdr f) payload = none)
    (hmsgs : ∀ m ∈ q.rx.msgs, m.msn ≠ (hdr f).msn) (hspan : q.spanFits (q.spanOf (hdr f)) = true)
    (hd : q.drained (hdr f).opcode = false) (hopen : s.canOpen q (hdr f) = true) : ∃ m prios, m.msn = (hdr f).msn ∧
      m.len = (hdr f).msgLen ∧ s.takeSprayed q f payload = (((s.accepted q f m prios (q.rx.accepted ++ [(hdr f).psn])
        (s.time + s.img.transport.sprayTimeout)).noteAccept q.qpn).deliverReady q.qpn).afterAccept q.qpn (hdr f) := by
  obtain ⟨prios, hinto⟩ := State.acceptInto_opens (s := s) (payload := payload) hd
  have hcur : q.rx.msgs.find? (·.msn == (hdr f).msn) = none := by
    rw [List.find?_eq_none]
    exact fun m hm => by simpa using hmsgs m hm
  have hfar : ¬ 8192 ≤ psnDistance q.rx.expect (hdr f).psn := Nat.not_le.mpr hnear
  have hnewer : q.rx.accepted.contains (hdr f).psn = false := by simpa using hnew
  have hadvance : advanceE (q.rx.accepted.length + 1) q.rx.expect (q.rx.accepted ++ [(hdr f).psn]) =
      (q.rx.expect, q.rx.accepted ++ [(hdr f).psn]) :=
    advanceE_of_not_mem (by simp [hgap, Ne.symm hne])
  refine ⟨(hdr f).opening q.mtu payload, prios, rfl, rfl, ?_⟩
  rw [State.takeSprayed]
  simp only [hnot, hnewer, hfar, hok, hcur, hspan, hd, hopen, hinto, hadvance, Bool.or_self, Bool.false_eq_true, Bool.not_true,
    Bool.and_false, Option.isSome_none, beq_self_eq_true, bne_self_eq_false, if_false, if_true]
  rfl

/-- What the packet leaves of its connection: E stays, the PSN is accepted, and the hole timer runs. -/
theorem State.qp_takeSprayed {m : InMsg} {prios : Qp → List (Nat × Nat)} {accepted : List Nat} {timer : Nat}
    (hq : s.qp q.qpn = some q) (hspray : q.spray = true) (hnak : q.rx.nakSent = false) (hhole : q.rx.hole = none)
    (hne : accepted ≠ []) : ∃ x, ((((s.accepted q f m prios accepted timer).noteAccept q.qpn).deliverReady q.qpn).afterAccept
      q.qpn (hdr f)).qp q.qpn = some x ∧ x.rx.expect = q.rx.expect ∧ x.rx.accepted = accepted ∧ x.rx.hole = some timer ∧
      x.rx.used = q.rx.used ++ [(m.msn, m.len)] := by
  have hopened : ((s.modQp q.qpn (Qp.opening m prios)).tally q.paddock 4 f.wire).qp q.qpn = some (q.opening m prios) :=
    State.qp_modQp hq rfl
  obtain ⟨next, first, spans, hspanned⟩ := advanceSpans_eq ((q.opening m prios).rx.spans.length + 1)
    { (q.opening m prios).rx with spans := (q.opening m prios).rx.spans ++ [q.spanOf (hdr f)] }
  have hbeyond := State.qp_modQp (f := Qp.beyond q.rx.expect accepted timer)
    (State.qp_modQp (f := Qp.spanned (hdr f) q) hopened rfl) rfl
  obtain ⟨due, hnoted⟩ := State.qp_noteAccept hbeyond
  obtain ⟨x, hx, hserved⟩ :=
    ((State.deliverReady_serves ..).trans (State.afterAccept_onConn _ q.qpn (hdr f)).serves).own _ hnoted hspray
  refine ⟨x, hx, hserved.expect, hserved.accepted, ?_, ?_⟩
  · rw [hserved.hole]
    simp only [Qp.beyond, Qp.spanned, hspanned]
    simp [Qp.opening, hne, hnak, hhole]
  · rw [hserved.used]
    simp only [Qp.beyond, Qp.spanned, hspanned]
    rfl

end

/-! ### The hole timer and the acknowledgement delay (R201, R210) -/

section
variable {s : State} {n at_ : Nat} {q : Qp}

/-- A connection whose hole timer ended: its NAK for E went out, now or before (R210). -/
def Qp.holeEnded (q : Qp) : Qp := { q with rx := { q.rx with hole := none, nakSent := true } }

theorem exec_holeTimerExpiry (hq : s.qp n = some q) (hw : q.works = true) (hhole : q.rx.hole = some at_) :
    exec (.holeTimerExpiry n) s = .next (if q.rx.nakSent then (s.advanceTo at_).modQp n Qp.holeEnded
      else ((s.advanceTo at_).modQp n Qp.holeEnded).control n 2 q.rx.expect 0) := by
  change execHoleTimerExpiry n s = _
  rw [execHoleTimerExpiry, hq]
  simp only [hhole, hw, Bool.not_true, Bool.or_false]
  split <;> rfl

theorem exec_ackDelayExpiry (hq : s.qp n = some q) (hw : q.works = true) (hat : q.rx.ackAt = some at_) :
    exec (.ackDelayExpiry n) s = .next ((s.advanceTo at_).sendAck n) := by
  change execAckDelayExpiry n s = _
  rw [execAckDelayExpiry, hq]
  simp only [hat, hw, if_true]

theorem holeTimerExpiry_naks (hq : s.qp n = some q) (hw : q.works = true) (hhole : q.rx.hole = some at_) :
    Answers (exec (.holeTimerExpiry n) s) fun t =>
      t.time = max s.time at_ ∧ t.net.inbox = s.net.inbox ∧
      (∃ x, t.qp n = some x ∧ x.rx.hole = none ∧ x.rx.nakSent = true ∧ x.rx.expect = q.rx.expect ∧
        x.rx.accepted = q.rx.accepted) ∧
      (q.rx.nakSent = true → t.sch = s.sch) := by
  have hended : ((s.advanceTo at_).modQp n Qp.holeEnded).qp n = some q.holeEnded :=
    State.qp_modQp hq (State.qpn_of_qp hq :)
  rw [exec_holeTimerExpiry hq hw hhole]
  refine answers_next ?_
  cases hsent : q.rx.nakSent with
  | true => exact ⟨rfl, rfl, ⟨_, hended, rfl, rfl, rfl, rfl⟩, fun _ => rfl⟩
  | false =>
    have hctl := ((s.advanceTo at_).modQp n Qp.holeEnded).control_onConn n 2 q.rx.expect 0
    obtain ⟨x, hx, _, _, rfl⟩ := hctl.own _ hended
    exact ⟨hctl.time, hctl.inbox, ⟨_, hx, rfl, rfl, rfl, rfl⟩, fun h => nomatch h⟩

end

theorem ackDelayExpiry_acks : Claims.AcknowledgementDelayEndsInAnAck := by
  intro s n at_ q hq hw hat
  have hacking : ((s.advanceTo at_).modQp n (Qp.acking (s.advanceTo at_).time)).qp n = some (q.acking (s.advanceTo at_).time) :=
    State.qp_modQp hq (State.qpn_of_qp hq :)
  have hexec := exec_ackDelayExpiry hq hw hat
  rw [State.sendAck_eq (s := s.advanceTo at_) hq] at hexec
  have hctl := ((s.advanceTo at_).modQp n (Qp.acking (s.advanceTo at_).time)).control_onConn n 1
    (((s.advanceTo at_).modQp n (Qp.acking (s.advanceTo at_).time)).ackPsn q) 0
  obtain ⟨x, hx, _, _, rfl⟩ := hctl.own _ hacking
  rw [hexec]
  exact answers_next ⟨hctl.time, ⟨_, hx, rfl, rfl, congrArg some hctl.time.symm, rfl, rfl⟩, hctl.inbox,
    hctl.same.store.eq rfl⟩

theorem sprayedPacket_beyond (s : State) (f : Frame) (q : Qp) (payload : Bytes) (h : AtHand s f q payload) (ht : (hdr f).type = 0)
    (hspray : q.spray = true) (hrefusing : q.rx.refusing = none) (hce : f.ce = false)
    (hnot : precedes (hdr f).psn q.rx.expect = false) (hne : (hdr f).psn ≠ q.rx.expect)
    (hnear : psnDistance q.rx.expect (hdr f).psn < 8192) (hnew : (hdr f).psn ∉ q.rx.accepted)
    (hgap : q.rx.expect ∉ q.rx.accepted) (hok : q.pktFault (hdr f) payload = none)
    (hmsgs : ∀ m ∈ q.rx.msgs, m.msn ≠ (hdr f).msn) (hspan : q.spanFits (q.spanOf (hdr f)) = true)
    (hd : q.drained (hdr f).opcode = false) (hslots : q.rx.used.length < q.rx.slots) (hmaps : q.rx.msgs.length < 64)
    (hlen : (hdr f).msgLen ≤ s.stagingFree q)
    (hsum : sumNat ((s.net.qps.filter (·.spray)).map fun x => x.rx.msgs.length) < 4096) (hnak : q.rx.nakSent = false)
    (hhole : q.rx.hole = none) :
    Answers (exec (.sprayedDataPacket f) s) fun t =>
      t.store = s.store ∧ t.mem = s.mem ∧ ∃ x, t.qp q.qpn = some x ∧ x.rx.expect = q.rx.expect ∧
        x.rx.accepted = q.rx.accepted ++ [(hdr f).psn] ∧ x.rx.hole = some (s.time + s.img.transport.sprayTimeout) ∧
        x.rx.used = q.rx.used ++ [((hdr f).msn, (hdr f).msgLen)] := by
  obtain ⟨p, c, hframe⟩ := h.receiveData ht hrefusing hce
  rw [hspray, if_pos rfl] at hframe
  have hopen : (s.opened q p c).canOpen q (hdr f) = true := by
    have hsum' := h.map_qps (r := (·.spray)) (g := fun x => x.rx.msgs.length) (fun _ _ _ => rfl) (fun _ _ _ => rfl) p c
    simp [State.canOpen, h.stagingFree_opened, hspray, hslots, hlen, hmaps, hsum', hsum]
  obtain ⟨m, prios, hmsn, hmlen, htake⟩ := State.takeSprayed_opens hnot hne hnear hnew hgap hok hmsgs hspan hd hopen
  have hexec : exec (.sprayedDataPacket f) s = .next ((s.opened q p c).takeSprayed q f payload) := by
    rw [← hframe]
    exact if_pos (hspray ▸ h.isData ht)
  have hsame := (execSprayedDataPacket_same f s).of _ hexec
  rw [hexec]
  refine answers_next ⟨hsame.store.eq rfl, hsame.mem.eq rfl, ?_⟩
  rw [← hmsn, ← hmlen, htake]
  exact State.qp_takeSprayed (h.qp_opened p c) hspray hnak hhole (by simp)

/-- Settles O18: the delivery of messages that are whole leaves E, the accepted PSNs, the hole timer and the slots as the acceptance
put them. -/
theorem sprayAndAcknowledgement : Obligations.SprayAndAcknowledgement := by
  unfold Obligations.SprayAndAcknowledgement
  exact ⟨⟨sprayedPacket_beyond, fun _ _ _ _ => holeTimerExpiry_naks⟩, ackDelayExpiry_acks⟩

end Sys2Proof.Machine
end

section
/-! O19. What an ACK, a NAK, an RNR_NAK and a CNP do with the sender's packets and window (R199, R202, R204). -/

namespace Sys2Proof.Machine

/-! ### The window (R204) -/

theorem growWindow_of_lt {c w : Nat} (fuel : Nat) (h : c < w) : growWindow fuel c w = (c, w) := by
  cases fuel with
  | zero => rfl
  | succ fuel => rw [growWindow, if_neg (Nat.not_le.mpr h)]

/-- Credit that reaches the window opens it by one and is spent. -/
theorem growWindow_of_eq {w : Nat} (h : 0 < w) : growWindow w w w = (0, min (w + 1) 1024) := by
  obtain ⟨k, rfl⟩ := Nat.exists_eq_add_one.mpr h
  rw [growWindow, if_pos (Nat.le_refl _), Nat.sub_self]
  exact growWindow_of_lt k (by omega)

/-! ### What is acknowledged (R202) -/

/-- A connection with the packets acknowledged that an ACK covers, and credit earned for them (R202, R204). -/
def Qp.acked (rest : List OutPkt) (srtt credit w : Nat) (due : Option Nat) (q : Qp) : Qp := { q with tx := { q.tx with
  unacked := rest, srtt := srtt, credit := credit, w := w, retries := 0, rtoAt := due } }

/-- A connection that goes back: one retry more, and a window of 4 after a timeout (R202, R204). -/
def Qp.retrying (shrink : Bool) (q : Qp) : Qp := { q with tx := { q.tx with
  retries := q.tx.retries + 1, w := if shrink then 4 else q.tx.w, credit := if shrink then 0 else q.tx.credit } }

section
variable {s : State} {n p : Nat} {q : Qp}

theorem State.ackBelow_of_append {done rest : List OutPkt} (hq : s.qp n = some q) (hun : q.tx.unacked = done ++ rest)
    (hne : done ≠ []) (hdone : ∀ x ∈ done, precedes x.psn p = true) (hrest : ∀ x ∈ rest, precedes x.psn p = false) :
    ∃ srtt due, (rest = [] → due = none) ∧ (s.ackBelow n p).1 = s.modQp n (Qp.acked rest srtt
      (growWindow (q.tx.credit + done.length) (q.tx.credit + done.length) q.tx.w).1
      (growWindow (q.tx.credit + done.length) (q.tx.credit + done.length) q.tx.w).2 due) := by
  have hnone : rest.takeWhile (fun x => precedes x.psn p) = [] := by
    cases rest with
    | nil => rfl
    | cons y ys => rw [List.takeWhile_cons, hrest y (List.mem_cons_self ..), if_neg Bool.false_ne_true]
  have htake : q.tx.unacked.takeWhile (fun x => precedes x.psn p) = done := by
    rw [hun, List.takeWhile_append_of_pos hdone, hnone, List.append_nil]
  have hdrop : q.tx.unacked.drop done.length = rest := by rw [hun, List.drop_left]
  have hsome : done.isEmpty = false := by simpa using hne
  rw [State.ackBelow, hq]
  simp only [htake, hsome, hdrop, Bool.false_eq_true, if_false]
  exact ⟨_, _, fun h => by simp [h], rfl⟩

theorem State.ackBelow_of_none (hq : s.qp n = some q) (h : ∀ x ∈ q.tx.unacked, precedes x.psn p = false) :
    (s.ackBelow n p).1 = s := by
  have hnone : q.tx.unacked.takeWhile (fun x => precedes x.psn p) = [] := by
    cases hun : q.tx.unacked with
    | nil => rfl
    | cons y ys => rw [List.takeWhile_cons, h y (hun ▸ List.mem_cons_self ..), if_neg Bool.false_ne_true]
  rw [State.ackBelow, hq]
  simp only [hnone, List.isEmpty_nil, if_true]

/-! ### Going back (R202) -/

theorem State.qp_goBack {shrink : Bool} (hq : s.qp n = some q) (hretries : q.tx.retries < s.img.transport.retryMax) :
    ∃ c k due, (s.goBack n shrink).qp n = some { q.retrying shrink with tx := { (q.retrying shrink).tx with
      control := c, txCount := k, unacked := resentAt s.time q.tx.unacked, rtoAt := due } } := by
  have hgo : s.goBack n shrink = (s.modQp n (Qp.retrying shrink)).resendAll n := by
    rw [State.goBack, hq]
    simp only [Nat.not_lt.mpr (Nat.succ_le_of_lt hretries), if_false]
    rfl
  rw [hgo]
  exact State.qp_resendAll (State.qp_modQp (f := Qp.retrying shrink) hq (State.qpn_of_qp hq :))

theorem State.goBack_of_retryMax {shrink : Bool} (hq : s.qp n = some q) (hretries : s.img.transport.retryMax ≤ q.tx.retries) :
    s.goBack n shrink = s.failConn n := by
  rw [State.goBack, hq]
  simp only [Nat.lt_succ_of_le hretries, if_true]

end

/-! ### The control packets (R188, R189) -/

section
variable {s : State} {q : Qp} {h : PktHead}

theorem State.takeAck_acks {done rest : List OutPkt} (hq : s.qp q.qpn = some q) (hidle : q.Idle) (hun : q.tx.unacked = done ++ rest)
    (hne : done ≠ []) (hspan : q.inSpan ((h.psn + 1) % 2 ^ 24) = true)
    (hdone : ∀ x ∈ done, precedes x.psn ((h.psn + 1) % 2 ^ 24) = true)
    (hrest : ∀ x ∈ rest, precedes x.psn ((h.psn + 1) % 2 ^ 24) = false) :
    ∃ x, (s.takeAck q h).qp q.qpn = some x ∧ x.tx.unacked = rest ∧ x.tx.retries = 0 ∧ (rest = [] → x.tx.rtoAt = none) ∧
      (q.tx.credit + done.length < q.tx.w → x.tx.w = q.tx.w ∧ x.tx.credit = q.tx.credit + done.length) ∧
      (q.tx.credit + done.length = q.tx.w → x.tx.w = min (q.tx.w + 1) 1024 ∧ x.tx.credit = 0) := by
  obtain ⟨srtt, due, hdue, hack⟩ := State.ackBelow_of_append hq hun hne hdone hrest
  have hx := State.qp_modQp (f := Qp.acked rest srtt (growWindow (q.tx.credit + done.length) (q.tx.credit + done.length) q.tx.w).1
    (growWindow (q.tx.credit + done.length) (q.tx.credit + done.length) q.tx.w).2 due) hq rfl
  have htake := State.pump_of_idle hx ⟨hidle.queue, hidle.ready, hidle.state⟩
  rw [← hack] at hx htake
  have htaken : s.takeAck q h = (s.ackBelow q.qpn ((h.psn + 1) % 2 ^ 24)).1 := by
    rw [State.takeAck]
    simp only [hspan, Bool.not_true, Bool.false_eq_true, if_false, htake]
  rw [htaken]
  refine ⟨_, hx, rfl, rfl, hdue, fun hlt => ?_, fun heq => ?_⟩
  · simp only [Qp.acked, growWindow_of_lt _ hlt, and_self]
  · have hpos : 0 < q.tx.w := heq ▸ Nat.lt_of_lt_of_le (List.length_pos_iff.mpr hne) (Nat.le_add_left ..)
    simp only [Qp.acked, heq, growWindow_of_eq hpos, and_self]

theorem State.takeNak_fails (hq : s.qp q.qpn = some q) (hw : q.works = true) (hsyndrome : h.offset % 256 ≠ 0) :
    (s.takeNak q h).qp q.qpn = some (q.errored (s.time + s.img.transport.errorHold)) := by
  rw [State.takeNak, if_pos (bne_iff_ne.mpr hsyndrome)]
  exact State.qp_failConn hq hw

theorem State.takeNak_goesBack (hq : s.qp q.qpn = some q) (hidle : q.Idle) (hsyndrome : h.offset % 256 = 0)
    (hspan : q.inSpan h.psn = true) (hun : q.tx.unacked ≠ []) (hall : ∀ x ∈ q.tx.unacked, precedes x.psn h.psn = false)
    (hretries : q.tx.retries < s.img.transport.retryMax) : ∃ x, (s.takeNak q h).qp q.qpn = some x ∧
      x.tx.retries = q.tx.retries + 1 ∧ x.tx.unacked = resentAt s.time q.tx.unacked ∧ x.tx.w = q.tx.w := by
  obtain ⟨c, k, due, hx⟩ := State.qp_goBack (shrink := false) hq hretries
  have hsome : q.tx.unacked.isEmpty = false := by simpa using hun
  have htaken : s.takeNak q h = s.goBack q.qpn false := by
    rw [State.takeNak]
    simp only [hsyndrome, hspan, State.ackBelow_of_none hq hall, hq, hsome, bne_self_eq_false, Bool.not_true, Bool.false_eq_true,
      if_false]
    exact State.pump_of_idle hx ⟨hidle.queue, hidle.ready, hidle.state⟩
  rw [htaken]
  exact ⟨_, hx, rfl, rfl, rfl⟩

theorem State.takeRnr_waits (hq : s.qp q.qpn = some q) (hspan : q.inSpan h.psn = true) (hcount : q.tx.rnrCount = 0)
    (hmax : 1 ≤ s.img.transport.rnrRetryMax) (hall : ∀ x ∈ q.tx.unacked, precedes x.psn h.psn = false) :
    ∃ x, (s.takeRnr q h).qp q.qpn = some x ∧ x.tx.rnrUntil = some (s.time + max 1 (h.offset % 65536) * 1000) ∧
      x.tx.rnrCount = 1 ∧ x.tx.retries = q.tx.retries ∧ x.tx.unacked = q.tx.unacked ∧ x.tx.rtoAt = none := by
  have hgoes : (s.img.transport.rnrRetryMax != 15 && decide (s.img.transport.rnrRetryMax < 1)) = false := by
    simp [Nat.not_lt.mpr hmax]
  rw [State.takeRnr]
  simp only [hspan, State.ackBelow_of_none hq hall, hcount, hgoes, bne_self_eq_false, Bool.false_and, Bool.not_true,
    Bool.false_eq_true, if_false]
  exact ⟨_, State.qp_modQp hq rfl, rfl, rfl, rfl, rfl, rfl⟩

theorem State.takeCnp_cuts (hq : s.qp q.qpn = some q) : ∃ x, (s.takeCnp q).qp q.qpn = some x ∧ x.tx.unacked = q.tx.unacked ∧
    (s.time < q.tx.holdUntil → x.tx.w = q.tx.w) ∧ (q.tx.holdUntil ≤ s.time → x.tx.w = max 4 (q.tx.w - q.tx.w / 4) ∧
      x.tx.credit = 0 ∧ x.tx.holdUntil = s.time + max q.tx.srtt 8000) := by
  rw [State.takeCnp]
  split
  · next hhold => exact ⟨q, hq, rfl, fun _ => rfl, fun hdue => absurd hhold (Nat.not_lt.mpr hdue)⟩
  · next hdue => exact ⟨_, State.qp_modQp hq rfl, rfl, fun hhold => absurd hhold hdue, fun _ => ⟨rfl, rfl, rfl⟩⟩

end

/-- Settles O19: with nothing waiting to be sent, a control packet does what it acknowledges or resends, and no more. -/
theorem acknowledgementsSteerTheSender : Obligations.AcknowledgementsSteerTheSender := by
  unfold Obligations.AcknowledgementsSteerTheSender
  intro s f q payload h hqueue hready
  obtain ⟨p, c, -, -, hack, hnak, hrnr, hcnp⟩ := h.receiveFrame_eq
  have hq : ((s.opened q p c).tally q.paddock 4 f.wire).qp q.qpn = some q := h.qp_opened p c
  have hidle : q.Idle := ⟨hqueue, hready, .inl (by rw [h.state]; decide)⟩
  have hworks : q.works = true := by rw [Qp.works, h.state]
  refine ⟨fun done rest ht hun hne hspan hdone hrest => ?_, fun ht hsyndrome => ?_,
    fun ht hsyndrome hspan hun hall hretries => ?_, fun ht hspan hcount hmax hall => ?_, fun ht => ?_⟩
  · have hnext : exec (.ackReceive f) s = .next _ := (if_pos (beq_iff_eq.mpr ht)).trans (congrArg _ (hack ht))
    rw [hnext]
    exact answers_next (State.takeAck_acks hq hidle hun hne hspan hdone hrest)
  · have hnext : exec (.nakReceive f) s = .next _ := (if_pos (beq_iff_eq.mpr ht)).trans (congrArg _ (hnak ht))
    have hsame := (execNakReceive_same f s).of _ hnext
    rw [hnext]
    exact answers_next ⟨⟨_, State.takeNak_fails hq hworks hsyndrome, rfl⟩, hsame.store.eq rfl⟩
  · have hnext : exec (.nakReceive f) s = .next _ := (if_pos (beq_iff_eq.mpr ht)).trans (congrArg _ (hnak ht))
    rw [hnext]
    exact answers_next (State.takeNak_goesBack hq hidle hsyndrome hspan hun hall hretries)
  · have hnext : exec (.rnrNakReceive f) s = .next _ := (if_pos (beq_iff_eq.mpr ht)).trans (congrArg _ (hrnr ht))
    rw [hnext]
    exact answers_next (State.takeRnr_waits hq hspan hcount hmax hall)
  · have hnext : exec (.cnpReceive f) s = .next _ := (if_pos (beq_iff_eq.mpr ht)).trans (congrArg _ (hcnp ht))
    rw [hnext]
    exact answers_next (State.takeCnp_cuts hq)

end Sys2Proof.Machine
end

section
/-! O20. Timeouts resend or give up (R202, R203), and contexts are fetched and written back (R212, R213, R215). -/

namespace Sys2Proof.Machine

/-! ### Timeouts -/

section
variable {s : State} {n at_ : Nat} {q : Qp}

theorem exec_rtoExpiry (hq : s.qp n = some q) (hw : q.works = true) (hat : q.tx.rtoAt = some at_) :
    exec (.rtoExpiry n) s = .next (((s.advanceTo at_).goBack n true).pump n) := by
  change execRtoExpiry n s = _
  rw [execRtoExpiry, hq]
  simp only [hat, hw, if_true]

/-- A connection whose receiver is asked again (R199). -/
def Qp.rnrEnded (q : Qp) : Qp := { q with tx := { q.tx with rnrUntil := none } }

theorem exec_rnrDelayExpiry (hq : s.qp n = some q) (hw : q.works = true) (hat : q.tx.rnrUntil = some at_) :
    exec (.rnrDelayExpiry n) s = .next ((((s.advanceTo at_).modQp n Qp.rnrEnded).resendAll n).pump n) := by
  change execRnrDelayExpiry n s = _
  rw [execRnrDelayExpiry, hq]
  simp only [hat, hw, if_true]
  rfl

theorem rtoExpiry_resends (hq : s.qp n = some q) (hw : q.works = true) (hidle : q.Idle) (hat : q.tx.rtoAt = some at_)
    (hretries : q.tx.retries < s.img.transport.retryMax) : Answers (exec (.rtoExpiry n) s) fun t =>
      t.time = max s.time at_ ∧ ∃ x, t.qp n = some x ∧ x.tx.w = 4 ∧ x.tx.credit = 0 ∧ x.tx.retries = q.tx.retries + 1 ∧
        x.tx.unacked = resentAt t.time q.tx.unacked := by
  obtain ⟨c, k, due, hx⟩ := State.qp_goBack (s := s.advanceTo at_) (shrink := true) hq hretries
  have htime : ((s.advanceTo at_).goBack n true).time = (s.advanceTo at_).time := (State.goBack_same ..).time.eq rfl
  rw [exec_rtoExpiry hq hw hat, State.pump_of_idle hx ⟨hidle.queue, hidle.ready, hidle.state⟩]
  exact answers_next ⟨htime, _, hx, rfl, rfl, rfl, by rw [htime]⟩

theorem Qp.errored_idle (hold : Nat) (q : Qp) : (q.errored hold).Idle := ⟨rfl, rfl, .inl (fun h => nomatch h)⟩

theorem rtoExpiry_givesUp (hq : s.qp n = some q) (hw : q.works = true) (hat : q.tx.rtoAt = some at_)
    (hretries : s.img.transport.retryMax ≤ q.tx.retries) : Answers (exec (.rtoExpiry n) s) fun t =>
      ∃ x, t.qp n = some x ∧ x.state = .error ∧ x.tx.unacked = [] := by
  have hx := State.qp_failConn (s := s.advanceTo at_) hq hw
  rw [exec_rtoExpiry hq hw hat, State.goBack_of_retryMax (s := s.advanceTo at_) hq hretries,
    State.pump_of_idle hx (Qp.errored_idle ..)]
  exact answers_next ⟨_, hx, rfl, rfl⟩

theorem rnrDelayExpiry_resends (hq : s.qp n = some q) (hw : q.works = true) (hidle : q.Idle) (hat : q.tx.rnrUntil = some at_) :
    Answers (exec (.rnrDelayExpiry n) s) fun t =>
      t.time = max s.time at_ ∧ ∃ x, t.qp n = some x ∧ x.tx.rnrUntil = none ∧ x.tx.retries = q.tx.retries ∧
        x.tx.unacked = resentAt t.time q.tx.unacked := by
  obtain ⟨c, k, due, hx⟩ := State.qp_resendAll
    (State.qp_modQp (s := s.advanceTo at_) (f := Qp.rnrEnded) hq (State.qpn_of_qp hq :))
  have htime : (((s.advanceTo at_).modQp n Qp.rnrEnded).resendAll n).time = (s.advanceTo at_).time :=
    (State.resendAll_same ..).time.eq rfl
  rw [exec_rnrDelayExpiry hq hw hat, State.pump_of_idle hx ⟨hidle.queue, hidle.ready, hidle.state⟩]
  exact answers_next ⟨htime, _, hx, rfl, rfl, by rw [htime]; rfl⟩

end

theorem timeoutsResendOrGiveUp : Claims.TimeoutsResendOrGiveUp := by
  intro s n at_ q hq hw hqueue hready _ hstate
  have hidle : q.Idle := ⟨hqueue, hready, hstate.imp_left fun h => by rw [h]; decide⟩
  exact ⟨rtoExpiry_resends hq hw hidle, rtoExpiry_givesUp hq hw, rnrDelayExpiry_resends hq hw hidle⟩

/-! ### Contexts (R212, R213, R215) -/

section
variable {s t : State} {n port : Nat} {q : Qp} {good : Bool}

/-- Neither control packets nor packets wait on any connection. -/
def State.Quiet (s : State) : Prop := ∀ x ∈ s.net.qps, x.tx.control = [] ∧ x.tx.ready = []

theorem State.nothingWaits.quiet (h : s.nothingWaits) : s.Quiet := fun x hx => ⟨(h.2.2 x hx).1, (h.2.2 x hx).2.1⟩

theorem State.Quiet.modQp {f : Qp → Qp} (h : s.Quiet)
    (hf : ∀ x : Qp, x.tx.control = [] ∧ x.tx.ready = [] → (f x).tx.control = [] ∧ (f x).tx.ready = []) :
    (s.modQp n f).Quiet := by
  intro x hx
  obtain hx | ⟨y, hy, rfl⟩ := mem_updateFirst hx
  · exact h x hx
  · exact hf y (h y hy)

/-- No fetch starts while nothing waits for one. -/
theorem State.moreFetches_of_quiet (h : s.Quiet) (hmiss : s.net.miss = []) : s.moreFetches = s := by
  have hnone : s.net.qps.filter (fun q => !(q.tx.control.isEmpty && q.tx.ready.isEmpty) && !s.net.cached.contains q.qpn) = [] := by
    rw [List.filter_eq_nil_iff]
    intro x hx
    obtain ⟨hcontrol, hready⟩ := h x hx
    simp [hcontrol, hready]
  rw [State.moreFetches, hmiss]
  exact congrArg (List.foldl _ s) hnone

theorem State.flushControl_of_nil (hq : s.qp n = some q) (h : q.tx.control = []) : s.flushControl n = s := by
  have hsame : s.modQp n (fun x => { x with tx := { x.tx with control := [] } }) = s := State.modQp_of_qp hq (by rw [← h])
  rw [State.flushControl, hq]
  simp only [h, hsame, List.foldl_nil]

/-- A context whose secrets lie in the cache (R212). -/
def Qp.unwrapped (q : Qp) : Qp := { q with wrapped := [] }

/-- The node with a context in its cache and the fetch of it ended, while no packet waits for one. -/
def State.fetched (s : State) (n : Nat) : State :=
  let t := s.modQp n Qp.unwrapped
  { t with net := { t.net with
    cached := t.net.cached.filter (· != n) ++ [n]
    fetches := t.net.fetches.filter (·.2 != n)
    miss := t.net.miss.filter fun x => (hdr x.2).dest != n } }

theorem State.Quiet.failConn (h : s.Quiet) (hq : s.qp n = some q) (hw : q.works = true) : (s.failConn n).Quiet := by
  rw [State.Quiet, State.failConn_qps hq hw]
  exact h.modQp fun x hx => ⟨hx.1, rfl⟩

/-- With nothing on its way the node goes on at once. -/
theorem State.moreFetches_pump_flushControl (hq : s.qp n = some q) (hcontrol : q.tx.control = []) (hidle : q.Idle) (h : s.Quiet)
    (hmiss : s.net.miss = []) : ((s.flushControl n).pump n).moreFetches = s := by
  rw [State.flushControl_of_nil hq hcontrol, State.pump_of_idle hq hidle, State.moreFetches_of_quiet h hmiss]

/-- While nothing waits, the end of a fetch puts the context into the cache and, if it failed, its connection into ERROR. -/
theorem exec_contextFetchDone (hfetch : s.net.fetches = [(port, n)]) (hawake : s.awake = true) (hwaits : s.nothingWaits)
    (hq : s.qp n = some q) (hstate : q.state = .ready) (hfits : s.contextFits n = true) :
    exec (.contextFetchDone n good) s = .next (if good then s.fetched n else (s.fetched n).failConn n) := by
  have hquiet : (s.fetched n).Quiet := State.Quiet.modQp hwaits.quiet fun _ hx => hx
  obtain ⟨hmiss, -, hall⟩ := hwaits
  obtain ⟨hcontrol, hready, hqueue⟩ := hall q (List.mem_of_find?_eq_some hq)
  have hq' : (s.fetched n).qp n = some q.unwrapped := State.qp_modQp hq (State.qpn_of_qp hq :)
  have hw : q.unwrapped.works = true := by rw [Qp.works, Qp.unwrapped, hstate]
  have hmiss' : (s.fetched n).net.miss = [] := by simp [State.fetched, State.modQp, hmiss]
  have hrest : (((if good then s.fetched n else (s.fetched n).failConn n).flushControl n).pump n).moreFetches =
      if good then s.fetched n else (s.fetched n).failConn n := by
    cases good with
    | true =>
      have hidle : q.unwrapped.Idle := ⟨hqueue, hready, .inl (by simp [Qp.unwrapped, hstate])⟩
      exact State.moreFetches_pump_flushControl hq' hcontrol hidle hquiet hmiss'
    | false =>
      have hmissed : ((s.fetched n).failConn n).net.miss = [] := by
        obtain ⟨a, ha⟩ := State.failConn_net hq' hw
        rw [ha]
        exact hmiss'
      exact State.moreFetches_pump_flushControl (State.qp_failConn hq' hw) hcontrol (Qp.errored_idle ..)
        (hquiet.failConn hq' hw) hmissed
  have hgoes : (!(s.net.fetches.any (·.2 == n)) || !s.awake) = false := by simp [hfetch, hawake]
  have hheld : s.net.miss.filter (fun x => (hdr x.2).dest == n) = [] := by rw [hmiss]; rfl
  change execContextFetchDone n good s = _
  rw [execContextFetchDone]
  simp only [hgoes, hfits, hheld, Bool.not_true, Bool.false_eq_true, if_false, List.map_nil, List.eraseDups_nil, List.foldl_nil]
  exact congrArg Host.Outcome.next hrest

end

theorem contextFetch_ends (s : State) (n port : Nat) (q : Qp) (good : Bool) (hfetch : s.net.fetches = [(port, n)])
    (hawake : s.awake = true) (hwaits : s.nothingWaits) (hq : s.qp n = some q) (hstate : q.state = .ready) :
    (s.contextFits n = false → exec (.contextFetchDone n good) s = .next s.makeRoom) ∧
    (s.contextFits n = true → Answers (exec (.contextFetchDone n good) s) fun t =>
      n ∈ t.net.cached ∧ t.net.fetches = [] ∧ (∀ m ∈ s.net.cached, m ∈ t.net.cached) ∧
      (good = true → t.qp n = some { q with wrapped := [] } ∧ ∀ m, m ≠ n → t.qp m = s.qp m) ∧
      (good = false → ∃ x, t.qp n = some x ∧ x.state = .error) ∧ t.store = s.store) := by
  refine ⟨fun hfits => ?_, fun hfits => ?_⟩
  · have hgoes : (!(s.net.fetches.any (·.2 == n)) || !s.awake) = false := by simp [hfetch, hawake]
    change execContextFetchDone n good s = _
    rw [execContextFetchDone]
    simp only [hgoes, hfits, Bool.not_false, Bool.false_eq_true, if_false, if_true]
  · have hexec := exec_contextFetchDone (good := good) hfetch hawake hwaits hq hstate hfits
    have hstore := ((execContextFetchDone_same n good s).of _ hexec).store.eq rfl
    have hq' : (s.fetched n).qp n = some q.unwrapped := State.qp_modQp hq (State.qpn_of_qp hq :)
    have hin : n ∈ (s.fetched n).net.cached := by simp [State.fetched]
    have hnone : (s.fetched n).net.fetches = [] := by simp [State.fetched, State.modQp, hfetch]
    have hkept (m : Nat) (hm : m ∈ s.net.cached) : m ∈ (s.fetched n).net.cached := by
      by_cases h : m = n <;> simp [State.fetched, State.modQp, hm, h]
    rw [hexec]
    cases good with
    | true =>
      have hothers (m : Nat) (hm : m ≠ n) : (s.fetched n).qp m = s.qp m := State.qp_modQp_of_ne (s := s) (fun _ hx => hx) hm
      exact answers_next ⟨hin, hnone, hkept, fun _ => ⟨hq', hothers⟩, fun h => (nomatch h), hstore⟩
    | false =>
      have hw : q.unwrapped.works = true := by rw [Qp.works, Qp.unwrapped, hstate]
      obtain ⟨a, ha⟩ := State.failConn_net hq' hw
      refine answers_next ⟨?_, ?_, ?_, fun h => (nomatch h), fun _ => ⟨_, State.qp_failConn hq' hw, rfl⟩, hstore⟩
      all_goals simp only [Bool.false_eq_true, if_false, ha]
      · exact hin
      · exact hnone
      · exact hkept

/-- A context in the store, its secrets wrapped (R215). -/
def State.writtenBack (s : State) (n : Nat) : State :=
  let t := s.modQp n fun q => { q with wrapped := s.wrapContext q }
  { t with net := { t.net with evicting := t.net.evicting.filter (· != n) } }

theorem contextWriteBack_ends (s : State) (n : Nat) (q : Qp) (hhead : s.net.evicting.head? = some n) (hwaits : s.nothingWaits)
    (hq : s.qp n = some q) : Answers (exec (.contextWriteBackDone n) s) fun t =>
      n ∉ t.net.evicting ∧ (∀ m ∈ s.net.evicting, m ≠ n → m ∈ t.net.evicting) ∧
      t.qp n = some { q with wrapped := s.wrapContext q } ∧ (∀ m, m ≠ n → t.qp m = s.qp m) ∧
      t.net.cached = s.net.cached ∧ t.store = s.store := by
  have hexec : exec (.contextWriteBackDone n) s = .next (s.writtenBack n) := by
    change execContextWriteBackDone n s = _
    rw [execContextWriteBackDone, hhead, if_neg (by simp)]
    exact congrArg Host.Outcome.next (State.moreFetches_of_quiet (s := s.writtenBack n)
      (State.Quiet.modQp hwaits.quiet fun _ hx => hx) hwaits.1)
  rw [hexec]
  refine answers_next ⟨?_, fun m hm hne => ?_, State.qp_modQp hq (State.qpn_of_qp hq :), fun m hm => ?_, rfl, rfl⟩
  · simp [State.writtenBack]
  · simp [State.writtenBack, State.modQp, hm, hne]
  · exact State.qp_modQp_of_ne (fun _ hx => hx) hm

/-- Settles O20: a resent packet changes of its connection what is sealed and what waits; and while nothing waits for a context, the
end of a fetch or a write-back starts nothing else. -/
theorem timeoutsAndContexts : Obligations.TimeoutsAndContexts := by
  unfold Obligations.TimeoutsAndContexts
  exact ⟨timeoutsResendOrGiveUp, contextFetch_ends, contextWriteBack_ends⟩

end Sys2Proof.Machine
end

section
/-! O24. A partner pauses a priority (R248), a link goes down (R208), trains, and finds its neighbour (R342, R343, R348). -/

namespace Sys2Proof.Machine

/-! ### PFC (R248) -/

/-- A scheduler that its partner paused or resumed at a priority. -/
def Sched.told (prio : Nat) (pause : Bool) (d : Sched) : Sched := { d with
  paused := if pause then d.paused.filter (· != prio) ++ [prio] else d.paused.filter (· != prio) }

theorem Sched.mem_paused_told {d : Sched} {prio c : Nat} {pause : Bool} :
    c ∈ (d.told prio pause).paused ↔ if c = prio then pause = true else c ∈ d.paused := by
  cases pause <;> by_cases h : c = prio <;> simp [Sched.told, h]

/-- Starvation clocks that stop or run leave what waits in its queue (R262). -/
theorem State.items_reclock (s : State) (d : Sched) : (s.reclock d).queues.map (·.items) = d.queues.map (·.items) := by
  rw [State.reclock, List.map_map]
  refine List.map_congr_left fun q _ => ?_
  rw [Function.comp_apply]
  split
  · rfl
  · split
    · rw [Queue.start]
      split <;> rfl
    · rw [Queue.stop]
      split <;> rfl

section
variable {s : State} {link prio : Nat} {pause : Bool} {d : Sched} {l : Link}

theorem exec_pfcFrameReceive (hd : s.sched (16 + link) = some d) (hl : s.link link = some l) (hup : l.up = true) :
    exec (.pfcFrameReceive link prio pause) s = .next (s.putSched (s.reclock (d.told prio pause))) := by
  change execPfcFrameReceive link prio pause s = _
  rw [execPfcFrameReceive, hd, hl]
  dsimp only
  rw [hup, Bool.not_true, if_neg Bool.false_ne_true]
  rfl

theorem pfcFrame_pauses (hd : s.sched (16 + link) = some d) (hl : s.link link = some l) (hup : l.up = true) :
    Answers (exec (.pfcFrameReceive link prio pause) s) fun t =>
      (∃ d', t.sched (16 + link) = some d' ∧ (prio ∈ d'.paused ↔ pause = true) ∧
        (∀ c, c ≠ prio → (c ∈ d'.paused ↔ c ∈ d.paused)) ∧ d'.rings = d.rings ∧
        d'.queues.map (·.items) = d.queues.map (·.items)) ∧ t.net = s.net ∧ t.store = s.store := by
  have hid : d.id = 16 + link := by simpa using List.find?_some hd
  have hput : (s.putSched (s.reclock (d.told prio pause))).sched (16 + link) = some (s.reclock (d.told prio pause)) := by
    rw [← hid] at hd ⊢
    exact find?_updateFirst (f := fun _ => s.reclock (d.told prio pause)) hd (beq_self_eq_true d.id)
  rw [exec_pfcFrameReceive hd hl hup]
  refine answers_next ⟨⟨_, hput, ?_, fun c hc => ?_, rfl, State.items_reclock ..⟩, rfl, rfl⟩
  · exact Sched.mem_paused_told.trans (by rw [if_pos rfl])
  · exact Sched.mem_paused_told.trans (by rw [if_neg hc])

end

/-! ### A link goes down (R208) -/

/-- A link that is down: its neighbour and its pauses are forgotten. -/
def Link.down (l : Link) : Link := { l with up := false, neighbour := false, chassis := [], peerPort := [], xoffSent := [] }

/-- An element that an update does not select stays. -/
theorem mem_updateFirst_of_not {α : Type} {p : α → Bool} {f : α → α} {xs : List α} {x : α} (h : x ∈ xs)
    (hp : p x = false) : x ∈ updateFirst p f xs := by
  induction xs with
  | nil => cases h
  | cons y ys ih =>
    rw [updateFirst]
    rcases List.mem_cons.mp h with rfl | h
    · rw [hp, if_neg Bool.false_ne_true]
      exact List.mem_cons_self ..
    · split
      · exact List.mem_cons_of_mem _ h
      · exact List.mem_cons_of_mem _ (ih h)

section
variable {s : State} {link : Nat}

theorem State.dropLink_links (s : State) (link : Nat) :
    (s.dropLink link).net.links = updateFirst (·.id == link) Link.down s.net.links := by
  rw [State.dropLink, State.moveHomes]
  split <;> rfl

/-- A connection whose home moves from one link to another. -/
def Qp.rehomed (link home : Nat) (q : Qp) : Qp := if q.homePort == link then { q with homePort := home } else q

theorem Qp.rehomed_qpn (link home : Nat) (q : Qp) : (q.rehomed link home).qpn = q.qpn := by
  rw [Qp.rehomed]
  split <;> rfl

theorem Qp.rehomed_of_ne {home : Nat} {q : Qp} (h : q.homePort ≠ link) : q.rehomed link home = q := by
  rw [Qp.rehomed, if_neg (by simpa using h)]

theorem Qp.rehomed_homePort {home : Nat} (h : home ≠ link) (q : Qp) : (q.rehomed link home).homePort ≠ link := by
  rw [Qp.rehomed]
  split
  · exact h
  · next hne => simpa using hne

/-- Connections move to another link that is up; where there is none they stay. -/
theorem State.moveHomes_cases (s : State) (link : Nat) :
    (s.moveHomes link = s ∧ ∀ y ∈ s.net.links, y.up = true → y.enabled = true → y.id = link) ∨
    ∃ home, home ≠ link ∧ s.moveHomes link = { s with net := { s.net with qps := s.net.qps.map (Qp.rehomed link home) } } := by
  rw [State.moveHomes]
  split
  · next hnone =>
    refine .inl ⟨rfl, fun y hy hup hon => ?_⟩
    rw [List.head?_eq_none_iff, List.filter_eq_nil_iff] at hnone
    have hmem : y.id ∈ s.homeLinks := List.mem_map.mpr ⟨y, List.mem_filter.mpr ⟨hy, by rw [hup, hon]; rfl⟩, rfl⟩
    simpa using hnone y.id hmem
  · next home hsome => exact .inr ⟨home, by simpa using (List.mem_filter.mp (List.mem_of_head? hsome)).2, rfl⟩

theorem State.homePort_dropLink (h : ∃ y ∈ s.net.links, y.id ≠ link ∧ y.up = true ∧ y.enabled = true) {m : Qp}
    (hm : m ∈ (s.dropLink link).net.qps) : m.homePort ≠ link := by
  obtain ⟨y, hy, hne, hup, hon⟩ := h
  rw [State.dropLink] at hm
  rcases State.moveHomes_cases ((s.modLink link Link.down).modSched (16 + link) fun d => { d with paused := [] }) link with
    ⟨-, hnone⟩ | ⟨home, hhome, hmove⟩
  · exact absurd (hnone y (mem_updateFirst_of_not hy (by simpa using hne)) hup hon) hne
  · obtain ⟨q, -, rfl⟩ := List.mem_map.mp (congrArg (fun t : State => t.net.qps) hmove ▸ hm :)
    exact Qp.rehomed_homePort hhome q

theorem State.qp_dropLink {q : Qp} {n : Nat} (hq : s.qp n = some q) (hne : q.homePort ≠ link) :
    (s.dropLink link).qp n = some q := by
  rw [State.dropLink]
  rcases State.moveHomes_cases ((s.modLink link Link.down).modSched (16 + link) fun d => { d with paused := [] }) link with
    ⟨hmove, -⟩ | ⟨home, -, hmove⟩
  · exact (congrArg (State.qp · n) hmove).trans hq
  · have hsame : (fun x : Qp => x.qpn == n) ∘ Qp.rehomed link home = fun x => x.qpn == n :=
      funext fun x => congrArg (· == n) (Qp.rehomed_qpn ..)
    refine (congrArg (State.qp · n) hmove).trans ?_
    rw [State.qp]
    refine List.find?_map.trans ?_
    rw [hsame]
    exact (congrArg (Option.map _) hq).trans (congrArg some (Qp.rehomed_of_ne hne))

end

theorem linkDown_movesHomes (link : Nat) (s : State) (l : Link) (hl : s.link link = some l) (hup : l.up = true) :
    Answers (exec (.linkDown link) s) fun t =>
    (∃ y, t.link link = some y ∧ y.up = false ∧ y.neighbour = false) ∧
    (∀ m, (∃ y ∈ s.net.links, y.id ≠ link ∧ y.up = true ∧ y.enabled = true) → m ∈ t.net.qps → m.homePort ≠ link) ∧
    (∀ q, s.qp q.qpn = some q → q.homePort ≠ link → t.qp q.qpn = some q) ∧ t.store = s.store ∧ t.pads = s.pads := by
  have hexec : exec (.linkDown link) s = .next (s.dropLink link) := by
    change execLinkDown link s = _
    rw [execLinkDown, hl]
    exact if_pos hup
  have hsame := (execLinkDown_same link s).of _ hexec
  have hdown : (s.dropLink link).link link = some l.down := by
    rw [State.link, State.dropLink_links]
    exact find?_updateFirst hl (List.find?_some hl :)
  rw [hexec]
  exact answers_next ⟨⟨_, hdown, rfl, rfl⟩, fun m h hm => State.homePort_dropLink h hm,
    fun q hq hne => State.qp_dropLink hq hne, hsame.store.eq rfl, hsame.pads.eq rfl⟩

/-! ### Training and discovery (R342, R343, R348) -/

section
variable {s : State} {link : Nat} {l : Link}

theorem State.discover_stage (s : State) : s.discover.boot.stage = 9 := by
  rw [State.discover, (State.announce_same _).boot.eq rfl, State.setStage_boot_stage]

/-- A link that is trained (R342). -/
def Link.trained (rate : Nat) (l : Link) : Link := { l with up := true, rate := rate }

/-- The stage LINK ends, or the node is as it was but for what it sends. -/
theorem exec_linkUp (hl : s.link link = some l) (hdown : l.up = false) (htrains : l.trains = true) (hlow : 8 ≤ s.boot.stage)
    (hhigh : s.boot.stage ≤ 13) : ∃ c all, exec (.linkUp link) s = .next
      (if s.boot.stage == 8 && (all || decide (s.boot.stageAt + 1500000000 ≤ s.time)) then
        State.discover { s.modLink link (Link.trained (s.linkRate link)) with sch := c }
      else { s.modLink link (Link.trained (s.linkRate link)) with sch := c }) := by
  obtain ⟨c, hc⟩ := ((s.modLink link (Link.trained (s.linkRate link))).sendLldp_same link).exists_sch
  have hgoes : (l.up || !l.trains || decide (s.boot.stage < 8) || decide (13 < s.boot.stage)) = false := by
    simp [hdown, htrains, hlow, hhigh]
  refine ⟨c, (s.modLink link (Link.trained (s.linkRate link))).net.links.all fun x => x.up || !x.trains, ?_⟩
  change execLinkUp link s = _
  rw [execLinkUp, hl]
  simp only [hgoes, Bool.false_eq_true, if_false]
  rw [show s.modLink link (fun x => { x with up := true, rate := s.linkRate link }) =
    s.modLink link (Link.trained (s.linkRate link)) from rfl, hc]
  rfl

theorem linkUp_trains (hl : s.link link = some l) (hdown : l.up = false) (htrains : l.trains = true) (hlow : 8 ≤ s.boot.stage)
    (hhigh : s.boot.stage ≤ 13) : Answers (exec (.linkUp link) s) fun t =>
      (∃ y, t.link link = some y ∧ y.up = true ∧ y.rate = s.linkRate link) ∧
      (s.boot.stage = 8 → s.boot.stageAt + 1500000000 ≤ s.time → t.boot.stage = 9) ∧
      (9 ≤ s.boot.stage → t.boot.stage = s.boot.stage) ∧ t.store = s.store := by
  obtain ⟨c, all, hexec⟩ := exec_linkUp hl hdown htrains hlow hhigh
  have htrained : ({ s.modLink link (Link.trained (s.linkRate link)) with sch := c } : State).link link =
      some (l.trained (s.linkRate link)) := find?_updateFirst hl (List.find?_some hl :)
  have hstore := ((execLinkUp_same link s).of _ hexec).store.eq rfl
  rw [hexec]
  refine answers_next ⟨⟨l.trained (s.linkRate link), ?_, rfl, rfl⟩, fun hstage hlate => ?_, fun hstage => ?_, hstore⟩
  · split
    · rw [State.link, (State.discover_same _).net.eq rfl]
      exact htrained
    · exact htrained
  · rw [if_pos (by simp [hstage, hlate])]
    exact State.discover_stage _
  · rw [if_neg (by simp; omega)]
    rfl

theorem linkStageTimeout_discovers (hstage : s.boot.stage = 8) : Answers (exec .linkStageTimeout s) fun t =>
    t.time = max s.time (s.boot.stageAt + 1500000000) ∧
    ((∃ l ∈ s.net.links, l.up = true) → t.boot.stage = 9) ∧ ((∀ l ∈ s.net.links, l.up = false) → t.boot.stage = 8) ∧
    t.net.qps = s.net.qps ∧ t.store = s.store := by
  obtain ⟨u, hu, hexec⟩ : ∃ u : State, (u.boot.stage = 8 ∧ u.time = max s.time (s.boot.stageAt + 1500000000) ∧
      u.net = s.net ∧ u.store = s.store) ∧ exec .linkStageTimeout s = s.finish (if u.net.links.any (·.up) then u.discover else u) := by
    have hnote := State.note_same { s.advanceTo (s.boot.stageAt + 1500000000) with
      boot := { s.boot with lastFail := max s.boot.lastFail s.boot.stage } } (unnamed 7 0 0 0 0)
    refine ⟨_, ⟨?_, hnote.time.eq rfl, hnote.net.eq rfl, hnote.store.eq rfl⟩, ?_⟩
    · rw [hnote.boot.eq rfl]
      exact hstage
    · change execLinkStageTimeout s = _
      rw [execLinkStageTimeout, if_neg (by simp [hstage])]
      rfl
  obtain ⟨hu8, htime, hnet, hstore⟩ := hu
  rw [hexec, hnet]
  refine answers_finish fun m => ?_
  cases hany : s.net.links.any (·.up) with
  | true =>
    rw [if_pos rfl]
    have hdisc := u.discover_same
    refine ⟨(hdisc.time.eq rfl).trans htime, fun _ => u.discover_stage, fun hnone => ?_, ?_, (hdisc.store.eq rfl).trans hstore⟩
    · obtain ⟨l, hl, hup⟩ := List.any_eq_true.mp hany
      exact absurd hup (by rw [hnone l hl]; decide)
    · exact congrArg Net.qps ((hdisc.net.eq rfl).trans hnet)
  | false =>
    rw [if_neg Bool.false_ne_true]
    refine ⟨htime, fun ⟨l, hl, hup⟩ => ?_, fun _ => hu8, congrArg Net.qps hnet, hstore⟩
    exact absurd hup (by simpa using List.any_eq_false.mp hany l hl)

theorem lldpdu_namesNeighbour (link : Nat) (chassis port : Bytes) (s : State) (l : Link) (hl : s.link link = some l)
    (hup : l.up = true) (hre : l.reenable = false) : Answers (exec (.lldpduReceive link chassis port) s) fun t =>
      t.link link = some { l with neighbour := true, chassis := chassis, peerPort := port } ∧ t.net.qps = s.net.qps ∧
      t.boot = s.boot := by
  have hexec : exec (.lldpduReceive link chassis port) s =
      .next (s.modLink link fun x => { x with neighbour := true, chassis := chassis, peerPort := port }) := by
    change execLldpduReceive link chassis port s = _
    rw [execLldpduReceive, hl]
    simp only [hup, hre, Bool.not_true, Bool.false_and, Bool.false_eq_true, if_false]
  rw [hexec]
  exact answers_next ⟨find?_updateFirst hl (List.find?_some hl :), rfl, rfl⟩

/-- The node joins: its first beacon waits for its slot (R343). -/
def State.joining (s : State) : State := { s with boot := { s.boot with
  join := { Join.fresh with nextAt := some (s.time + s.beaconSlot * 20000000) } } }

theorem exec_discoveryEnd (hstage : s.boot.stage = 9) : exec .discoveryEnd s =
    .next ((if s.net.links.all (fun l => !l.up || l.neighbour) then s
      else s.advanceTo (s.boot.stageAt + 3000000000)).setStage 10).joining := by
  change execDiscoveryEnd s = _
  rw [execDiscoveryEnd, if_neg (by simp [hstage])]
  rfl

theorem discoveryEnd_joins (hstage : s.boot.stage = 9) : Answers (exec .discoveryEnd s) fun t =>
    t.boot.stage = 10 ∧ t.boot.join = { Join.fresh with nextAt := some (t.time + s.beaconSlot * 20000000) } ∧
    ((∀ l ∈ s.net.links, l.up = true → l.neighbour = true) → t.time = s.time) ∧
    ((∃ l ∈ s.net.links, l.up = true ∧ l.neighbour = false) → t.time = max s.time (s.boot.stageAt + 3000000000)) := by
  rw [exec_discoveryEnd hstage]
  generalize hu : (if s.net.links.all (fun l => !l.up || l.neighbour) then s else s.advanceTo (s.boot.stageAt + 3000000000)) = u
  have hserial : u.beaconSlot = s.beaconSlot := by rw [← hu]; split <;> rfl
  have hset := u.setStage_same 10
  have hslot : (u.setStage 10).beaconSlot = s.beaconSlot := by
    rw [← hserial, State.beaconSlot, hset.fused, ← State.beaconSlot]
  have htime : (u.setStage 10).time = u.time := hset.time.eq rfl
  refine answers_next ⟨State.setStage_boot_stage .., ?_, fun hall => ?_, fun hsome => ?_⟩
  · rw [← hslot]
    rfl
  · have hyes : s.net.links.all (fun l => !l.up || l.neighbour) = true :=
      List.all_eq_true.mpr fun l hl => by cases hlu : l.up <;> simp [hall l hl, hlu]
    rw [hyes, if_pos rfl] at hu
    exact htime.trans (by rw [hu])
  · have hno : s.net.links.all (fun l => !l.up || l.neighbour) = false := by
      obtain ⟨l, hl, hup, hnone⟩ := hsome
      exact List.all_eq_false.mpr ⟨l, hl, by simp [hup, hnone]⟩
    rw [hno, if_neg Bool.false_ne_true] at hu
    exact htime.trans (by rw [← hu]; rfl)

end

/-- Settles O24: a clock that stops or runs leaves its queue, a home moves only to a link that is up, and LLDP changes the
schedulers alone. -/
theorem linksPauseTrainAndDiscover : Obligations.LinksPauseTrainAndDiscover := by
  unfold Obligations.LinksPauseTrainAndDiscover
  exact ⟨⟨fun _ _ _ _ _ _ => pfcFrame_pauses, linkDown_movesHomes⟩, fun _ _ _ => linkUp_trains,
    fun _ => linkStageTimeout_discovers, lldpdu_namesNeighbour, fun _ => discoveryEnd_joins⟩

end Sys2Proof.Machine
end

section
/-! O25. PTP corrects the timebase (R185), and the reference clocks are monitored (R388, R421). -/

namespace Sys2Proof.Machine

/-! ### PTP (R185) -/

/-- The node whose timebase a PTP message has corrected. -/
def State.ptpCorrected (s : State) (offset : Int) (locked : Bool) : State := { s with
  time := ((s.time : Int) - offset).toNat % 2 ^ 64
  net := { s.net with ptpLocked := locked, ptpOffset := offset } }

theorem ptpMessage_corrects : Claims.PtpCorrectsTheTimebase := by
  intro offset locked s
  refine ⟨fun hhold => ?_, fun hhold ⟨l, hl, hport, hup⟩ hlow hhigh => ?_⟩
  · change execPtpMessage offset locked s = _
    rw [execPtpMessage]
    split
    · rfl
    · exact if_pos hhold
  · obtain ⟨x, hx⟩ := Option.isSome_iff_exists.mp
      (List.find?_isSome (p := fun l => l.id / 4 == s.img.transport.ptpPort && l.up).mpr ⟨l, hl, by simp [hport, hup]⟩)
    obtain ⟨c, hc⟩ := ((s.ptpCorrected offset locked).egressOther_same x.id 7 .delayReq [] 64).exists_sch
    have hexec : exec (.ptpMessage offset locked) s = .next { s.ptpCorrected offset locked with sch := c } := by
      rw [← hc]
      change execPtpMessage offset locked s = _
      rw [execPtpMessage, hx]
      exact if_neg (by simp [hhold])
    rw [hexec]
    refine answers_next ⟨?_, rfl, rfl, rfl, rfl, rfl⟩
    have htime : ({ s.ptpCorrected offset locked with sch := c } : State).time = ((s.time : Int) - offset).toNat % 2 ^ 64 := rfl
    omega

/-! ### Elements that are updated one after another -/

section
variable {α : Type} {key : α → Nat} {f : α → α} {xs : List α}

theorem updateAt_eq_set (i : Nat) (a : α) (xs : List α) : updateAt i (fun _ => a) xs = xs.set i a := by
  induction xs generalizing i with
  | nil => rw [updateAt, List.set_nil]
  | cons x xs ih =>
    cases i with
    | zero => rfl
    | succ i => rw [updateAt, ih, List.set_cons_succ]

/-- Where no two elements have one key, an update of the first with a key updates every one with it. -/
theorem updateFirst_eq_map {k : Nat} (h : (xs.map key).Nodup) :
    updateFirst (key · == k) f xs = xs.map fun x => if key x == k then f x else x := by
  induction xs with
  | nil => rfl
  | cons x xs ih =>
    obtain ⟨hnot, hrest⟩ := List.nodup_cons.mp (List.map_cons ▸ h)
    rw [updateFirst, List.map_cons]
    split
    · next hx =>
      have hothers : xs.map (fun y => if key y == k then f y else y) = xs.map id := by
        refine List.map_congr_left fun y hy => if_neg fun hyk => hnot ?_
        rw [eq_of_beq hx, ← eq_of_beq hyk]
        exact List.mem_map_of_mem hy
      rw [hothers, List.map_id]
    · rw [ih hrest]

/-- After updates of the elements with the keys of a list, an element has such a key and is updated, or it was there before. -/
theorem mem_foldl_updateFirst (hkey : ∀ x, key (f x) = key x) {D : α → Prop} (hD : ∀ x, D (f x)) {ks : List Nat}
    (h : (xs.map key).Nodup) {x : α} (hx : x ∈ ks.foldl (fun ys k => updateFirst (key · == k) f ys) xs) :
    D x ∨ (key x ∉ ks ∧ x ∈ xs) := by
  induction ks generalizing xs with
  | nil => exact .inr ⟨List.not_mem_nil, hx⟩
  | cons k ks ih =>
    have hnodup : ((updateFirst (key · == k) f xs).map key).Nodup := by rwa [map_updateFirst fun y _ => hkey y]
    refine (ih hnodup hx).elim .inl fun ⟨hks, hthere⟩ => ?_
    rw [updateFirst_eq_map h] at hthere
    obtain ⟨y, hy, rfl⟩ := List.mem_map.mp hthere
    by_cases hyk : (key y == k) = true
    · rw [if_pos hyk]
      exact .inl (hD y)
    · rw [if_neg hyk] at hks ⊢
      exact .inr ⟨by simpa [hks] using hyk, hy⟩

end

/-! ### A reference is lost (R388) -/

section
variable {s : State} {r : Nat}

/-- The power state with a reference missing, which is recorded. -/
def Power.missing (r : Nat) (p : Power) : Power := { p with refOk := p.refOk.set r false, refLost := p.refLost.set r true }

/-- Besides, the loss may raise the event of its monitor (R399). -/
theorem State.loseRef_missing (s : State) (r : Nat) :
    Same { out := true, regs := true } { s with pwr := s.pwr.missing r } (s.loseRef r) := by
  rw [Power.missing, ← updateAt_eq_set, ← updateAt_eq_set]
  exact (State.eventBit_same ..)

theorem State.pwr_loseRef (s : State) (r : Nat) : (s.loseRef r).pwr = s.pwr.missing r := (s.loseRef_missing r).pwr.eq rfl

/-! The ports of the PCIe reference -/

/-- The power state after the work that a lost port gives the node: it stirred, perhaps (R373). -/
theorem State.pwr_losePort (s : State) (p : Nat) : ∃ i, (s.losePort p).pwr = { s.pwr with idleSince := i } := by
  rw [State.losePort_eq, (State.loseBlocks_same ..).pwr.eq rfl, State.abandonMoves]
  have hfree (ms : List Move) (t : State) :
      (ms.foldl (fun t m => t.freePlace (t.store.movePad m) m.target) t).pwr = t.pwr :=
    foldl_keeps (g := State.pwr) (fun t m => (State.freePlace_same ..).pwr.eq rfl) ms t
  dsimp only
  rw [hfree]
  split
  · exact ⟨s.pwr.idleSince, rfl⟩
  · exact ⟨s.time, rfl⟩

theorem State.foldl_losePort (ps : List Nat) (s : State) :
    (∃ i, (ps.foldl State.losePort s).pwr = { s.pwr with idleSince := i }) ∧
    (ps.foldl State.losePort s).boot = s.boot ∧ (ps.foldl State.losePort s).store.ports =
      ps.foldl (fun xs p => updateFirst (·.port == p) (fun x => { x with lost := true }) xs) s.store.ports := by
  refine ⟨?_, foldl_keeps (g := State.boot) (fun t p => (State.losePort_same t p).boot.eq rfl) ps s,
    (List.foldl_hom (fun t : State => t.store.ports) fun t p => ((t.store_losePort p).1).symm).symm⟩
  induction ps generalizing s with
  | nil => exact ⟨_, rfl⟩
  | cons p ps ih =>
    obtain ⟨i, hi⟩ := s.pwr_losePort p
    obtain ⟨j, hj⟩ := ih (s.losePort p)
    exact ⟨j, by rw [List.foldl_cons, hj, hi]⟩

/-! The ports of the Ethernet references -/

theorem State.links_dropPorts (s : State) (ports : List Nat) : (s.dropPorts ports).net.links =
    ((s.net.links.filter fun l => l.up && ports.contains (l.id / 4)).map (·.id)).foldl
      (fun xs k => updateFirst (·.id == k) Link.down xs) s.net.links :=
  (List.foldl_hom (fun t : State => t.net.links) fun t k => (t.dropLink_links k).symm).symm

theorem State.down_of_dropPorts {ports : List Nat} (h : (s.net.links.map (·.id)).Nodup) {l : Link}
    (hl : l ∈ (s.dropPorts ports).net.links) (hport : l.id / 4 ∈ ports) : l.up = false := by
  rw [State.links_dropPorts] at hl
  rcases mem_foldl_updateFirst (key := Link.id) (f := Link.down) (D := fun x => x.up = false) (fun _ => rfl) (fun _ => rfl) h hl with
    hdown | ⟨hnot, hthere⟩
  · exact hdown
  · by_contra hup
    exact hnot (List.mem_map.mpr ⟨l, List.mem_filter.mpr ⟨hthere, by simpa [hport] using hup⟩, rfl⟩)

/-- What the loss of an Ethernet reference leaves of the node, its ports' links down. -/
def State.refPortsDown (s : State) (r : Nat) (ports : List Nat) : State := (s.loseRef r).dropPorts ports

theorem State.refPortsDown_pwr (s : State) (ports : List Nat) : (s.refPortsDown r ports).pwr = s.pwr.missing r :=
  ((State.dropPorts_same ..).pwr.eq rfl).trans (s.pwr_loseRef r)

theorem State.refPortsDown_boot (s : State) (ports : List Nat) : (s.refPortsDown r ports).boot = s.boot :=
  ((State.dropPorts_same ..).boot.eq rfl).trans ((s.loseRef_missing r).boot.eq rfl)

theorem State.refPortsDown_links {ports : List Nat} (h : (s.net.links.map (·.id)).Nodup) {l : Link}
    (hl : l ∈ (s.refPortsDown r ports).net.links) (hport : l.id / 4 ∈ ports) : l.up = false := by
  have hnet : (s.loseRef r).net = s.net := (s.loseRef_missing r).net.eq rfl
  exact State.down_of_dropPorts (by rwa [hnet]) hl hport

/-! The three references that are not Fatal -/

/-- What the loss of a reference other than the system's shows (R388). -/
def State.ShowsLoss (s t : State) (r : Nat) : Prop :=
  t.pwr.refOk = s.pwr.refOk.set r false ∧ t.pwr.refLost = s.pwr.refLost.set r true ∧
  (r = 0 → t.pwr.f0Up = false ∧ ∀ x ∈ t.store.ports, x.present = true → x.lost = true) ∧
  (r = 1 → t.pwr.holdover = true ∧ t.net.ptpLocked = false) ∧
  (∀ l ∈ t.net.links, (r = 1 ∧ l.id < 16) ∨ (r = 2 ∧ 16 ≤ l.id ∧ l.id < 32) → l.up = false) ∧ t.boot = s.boot

/-- The node without its PCIe reference, before its Tier-2 ports are seen to. -/
def State.pcieOff (s : State) : State := { s.loseRef 0 with pwr := { (s.loseRef 0).pwr with f0Up := false } }

theorem State.pcieOff_pwr (s : State) : s.pcieOff.pwr = { s.pwr.missing 0 with f0Up := false } := by
  rw [State.pcieOff, s.pwr_loseRef]

/-- The Tier-2 ports in service. -/
def State.livePorts (s : State) : List Nat := (s.store.ports.filter fun x => x.present && !x.lost).map (·.port)

theorem pcieReference_lost (hports : (s.store.ports.map (·.port)).Nodup) (hok : s.pwr.refOk.getD 0 false = true) :
    Answers (exec (.refclkLoss 0) s) fun t => s.ShowsLoss t 0 := by
  have hsame := s.loseRef_missing 0
  have hstore : s.pcieOff.store = s.store := hsame.store.eq rfl
  have hexec : exec (.refclkLoss 0) s = s.finish ((s.loseRef 0).livePorts.foldl State.losePort s.pcieOff) :=
    if_neg (by rw [hok]; decide)
  obtain ⟨⟨i, hpwr⟩, hboot, hlost⟩ := State.foldl_losePort (s.loseRef 0).livePorts s.pcieOff
  rw [s.pcieOff_pwr] at hpwr
  rw [hexec]
  refine answers_finish fun m => ⟨congrArg Power.refOk hpwr, congrArg Power.refLost hpwr,
    fun _ => ⟨congrArg Power.f0Up hpwr, fun x hx hpresent => ?_⟩, fun h => (nomatch h), fun l _ h => ?_, ?_⟩
  · have hmem := (congrArg (x ∈ ·) hlost).mp hx
    rcases mem_foldl_updateFirst (key := Tier2Port.port) (f := fun y => { y with lost := true }) (D := fun y => y.lost = true)
      (fun _ => rfl) (fun _ => rfl) (by rwa [hstore]) hmem with hdone | ⟨hnot, hthere⟩
    · exact hdone
    · by_contra hup
      exact hnot (List.mem_map.mpr ⟨x, List.mem_filter.mpr ⟨hthere, by simpa [hpresent] using hup⟩, rfl⟩)
  · omega
  · exact hboot.trans (hsame.boot.eq rfl)

/-- The node without its Ethernet reference A, which holds over. -/
def State.heldOver (s : State) : State :=
  let u := s.refPortsDown 1 [0, 1, 2, 3]
  { u with pwr := { u.pwr with holdover := true }, net := { u.net with ptpLocked := false } }

theorem State.heldOver_pwr (s : State) : s.heldOver.pwr = { s.pwr.missing 1 with holdover := true } := by
  rw [State.heldOver, s.refPortsDown_pwr]

theorem ethernetReferenceA_lost (hlinks : (s.net.links.map (·.id)).Nodup) (hok : s.pwr.refOk.getD 1 false = true) :
    Answers (exec (.refclkLoss 1) s) fun t => s.ShowsLoss t 1 := by
  have hexec : exec (.refclkLoss 1) s = s.finish (s.heldOver.note (unnamed 9 1 0 0 0)) := if_neg (by rw [hok]; decide)
  have hnote := s.heldOver.note_same (unnamed 9 1 0 0 0)
  have hpwr := (hnote.pwr.eq rfl).trans s.heldOver_pwr
  have hnet := hnote.net.eq rfl
  rw [hexec]
  refine answers_finish fun m => ⟨congrArg Power.refOk hpwr, congrArg Power.refLost hpwr, fun h => (nomatch h),
    fun _ => ⟨congrArg Power.holdover hpwr, congrArg Net.ptpLocked hnet⟩, fun l hl hid => ?_, ?_⟩
  · have hmem : l ∈ (s.refPortsDown 1 [0, 1, 2, 3]).net.links := (congrArg (l ∈ Net.links ·) hnet).mp hl
    refine State.refPortsDown_links hlinks hmem ?_
    have hquarter : l.id / 4 < 4 := by omega
    interval_cases l.id / 4 <;> decide
  · exact (hnote.boot.eq rfl).trans (s.refPortsDown_boot _)

theorem ethernetReferenceB_lost (hlinks : (s.net.links.map (·.id)).Nodup) (hok : s.pwr.refOk.getD 2 false = true) :
    Answers (exec (.refclkLoss 2) s) fun t => s.ShowsLoss t 2 := by
  have hexec : exec (.refclkLoss 2) s = .next (s.refPortsDown 2 [4, 5, 6, 7]) := if_neg (by rw [hok]; decide)
  have hpwr := s.refPortsDown_pwr (r := 2) [4, 5, 6, 7]
  rw [hexec]
  refine answers_next ⟨congrArg Power.refOk hpwr, congrArg Power.refLost hpwr, fun h => (nomatch h), fun h => (nomatch h),
    fun l hl hid => State.refPortsDown_links hlinks hl ?_, s.refPortsDown_boot _⟩
  have hquarter : 4 ≤ l.id / 4 ∧ l.id / 4 < 8 := by omega
  obtain ⟨hlow, hhigh⟩ := hquarter
  interval_cases l.id / 4 <;> decide

/-! The system reference -/

theorem Log.retained_count (l : Log) (severity : Nat) : (l.count severity).retained = l.retained := by
  match severity with
  | 0 | 1 | 2 | _ + 3 => rfl

theorem Log.getLast?_retained_retain {l : Log} {x : LogRec} (h : 2 ≤ x.severity) : (l.retain x).retained.getLast? = some x := by
  rw [Log.retain, if_neg (Nat.not_lt.mpr h)]
  split
  · exact List.getLast?_concat ..
  · exact List.getLast?_concat ..

theorem State.log_errSummary (s : State) (b : Nat) :
    (s.errSummary b).log = { s.log with summary := Nat.lor s.log.summary (2 ^ b) } := by
  rw [State.errSummary]
  exact (State.eventBit_same ..).log.eq rfl

/-- A record of a severity from Uncorrected on is the newest that is retained (R367). -/
theorem State.retained_addRecord {e : ErrRep} (h : 2 ≤ e.severity) (detected : Nat) :
    ∃ x, (s.addRecord e detected).log.retained.getLast? = some x ∧ x.severity = min e.severity 3 ∧ x.time = detected := by
  rw [State.addRecord]
  dsimp only
  have hsev : min e.severity 3 ≥ 2 := by omega
  rw [if_pos hsev, (State.notify_same ..).log.eq rfl, State.log_errSummary]
  dsimp only
  rw [Log.retained_count]
  exact ⟨_, Log.getLast?_retained_retain hsev, rfl, rfl⟩

theorem State.retained_fatalEvent {e : ErrRep} (h : 2 ≤ e.severity) (detected : Nat) :
    ∃ x, (s.fatalEvent e detected).log.retained.getLast? = some x ∧ x.severity = min e.severity 3 ∧ x.time = detected :=
  State.retained_addRecord h detected

theorem systemReference_lost (hok : s.pwr.refOk.getD 3 false = true) (hruns : s.restarting 5 = false) :
    Answers (exec (.refclkLoss 3) s) fun t => t.boot.stage = 2 ∧ t.regs.resetCause = 4 ∧
      ∃ x, t.log.retained.getLast? = some x ∧ x.severity = 3 ∧ x.time = s.time := by
  have hsame := s.loseRef_missing 3
  have hruns' : (s.loseRef 3).restarting 5 = false := by
    rw [State.restarting, hsame.ostlers.eq rfl]
    exact hruns
  have htime : (s.loseRef 3).time = s.time := hsame.time.eq rfl
  have hexec : exec (.refclkLoss 3) s = s.finish ((s.loseRef 3).report (unnamed 10 3 0 0 0)) := if_neg (by rw [hok]; decide)
  obtain ⟨x, hx, hsev, hxtime⟩ := State.retained_fatalEvent (s := (s.loseRef 3).failProbation (Config.probationReason 0 % 256))
    (e := unnamed 10 3 0 0 0) (by decide) (s.loseRef 3).time
  rw [hexec, State.report, hruns', if_neg Bool.false_ne_true, State.handleError, if_neg (by decide)]
  exact answers_finish fun m => ⟨rfl, rfl, x, hx, hsev, hxtime.trans htime⟩

/-! ### A reference returns, and the pulse (R388, R421) -/

/-- The power state with a reference present again. -/
def Power.restored (r : Nat) (p : Power) : Power :=
  match r with
  | 0 => { p with refOk := p.refOk.set 0 true, f0Up := true }
  | 1 => { p with refOk := p.refOk.set 1 true, holdover := false }
  | r + 2 => { p with refOk := p.refOk.set (r + 2) true }

theorem exec_refclkRestore (hok : s.pwr.refOk.getD r true = false) (hpower : s.power.pwrok = true) :
    exec (.refclkRestore r) s = .next { s with pwr := s.pwr.restored r } := by
  change execRefclkRestore r s = _
  rw [execRefclkRestore, if_neg (by rw [hok, hpower]; decide), updateAt_eq_set]
  match r with
  | 0 => rfl
  | 1 => rfl
  | r + 2 => rfl

theorem reference_restored (hok : s.pwr.refOk.getD r true = false) (hpower : s.power.pwrok = true) :
    Answers (exec (.refclkRestore r) s) fun t =>
      t.pwr.refOk = s.pwr.refOk.set r true ∧ t.pwr.refLost = s.pwr.refLost ∧ (r = 0 → t.pwr.f0Up = true) ∧
      (r = 1 → t.pwr.holdover = false) ∧ t.net = s.net ∧ t.store = s.store := by
  rw [exec_refclkRestore hok hpower]
  match r with
  | 0 => exact answers_next ⟨rfl, rfl, fun _ => rfl, fun h => (nomatch h), rfl, rfl⟩
  | 1 => exact answers_next ⟨rfl, rfl, fun h => (nomatch h), fun _ => rfl, rfl, rfl⟩
  | r + 2 => exact answers_next ⟨rfl, rfl, fun h => absurd h (by omega), fun h => absurd h (by omega), rfl, rfl⟩

/-- The second boundary at an instant or next after it. -/
theorem ceilDiv_second (n : Nat) : n ≤ ceilDiv n 1000000000 * 1000000000 ∧ ceilDiv n 1000000000 * 1000000000 < n + 1000000000 := by
  rw [ceilDiv]
  omega

theorem ppsPulse_pulses (hpower : s.power.pwrok = true) : Answers (exec .ppsPulse s) fun t =>
    t.out = s.out ++ [.pps] ∧ t.time % 1000000000 = 0 ∧ s.time ≤ t.time ∧ t.time < s.time + 1000000000 := by
  have hexec : exec .ppsPulse s = .next ((s.advanceTo (ceilDiv s.time 1000000000 * 1000000000)).emit .pps) :=
    if_neg (by simp [hpower])
  obtain ⟨hlow, hhigh⟩ := ceilDiv_second s.time
  have htime : ((s.advanceTo (ceilDiv s.time 1000000000 * 1000000000)).emit .pps).time = ceilDiv s.time 1000000000 * 1000000000 :=
    Nat.max_eq_right hlow
  rw [hexec]
  refine answers_next ⟨rfl, ?_⟩
  rw [htime]
  exact ⟨Nat.mul_mod_left .., hlow, hhigh⟩

end

/-- Settles O25: links and ports have distinct names, so that taking each one down that hangs on a reference takes down all of
them. -/
theorem clocksAreCorrectedAndMonitored : Obligations.ClocksAreCorrectedAndMonitored := by
  unfold Obligations.ClocksAreCorrectedAndMonitored
  refine ⟨ptpMessage_corrects, fun s _ _ hports hlinks => ⟨fun r hr hok => ?_, systemReference_lost,
    fun r _ => reference_restored, ppsPulse_pulses⟩⟩
  match r with
  | 0 => exact pcieReference_lost hports hok
  | 1 => exact ethernetReferenceA_lost hlinks hok
  | 2 => exact ethernetReferenceB_lost hlinks hok
  | r + 3 => omega

end Sys2Proof.Machine
end

section
/-! SUPPORT. Work on a connection in READY: a request is consumed without a DISCONNECT, a NAK puts it into ERROR, and delivery
leaves the FINALs that wait alone (R198, R206, R207, R216). -/

namespace Sys2Proof.Machine

section
variable {s : State} {n : Nat} {q : Qp}

theorem Qp.works_of_ready (h : q.state = .ready) : q.works = true := by rw [Qp.works, h]

/-- The node once a request of connection `n` is consumed, but for a DISCONNECT that it may free (R197, R198). -/
def State.freed (s : State) (n msn : Nat) : State :=
  { s.modQp n (Qp.consumed msn) with net := { (s.modQp n (Qp.consumed msn)).net with
      inbox := s.net.inbox.filter fun m => !(m.qpn == n && m.msn == msn) } }

theorem State.qp_freed (hq : s.qp n = some q) (msn : Nat) : (s.freed n msn).qp n = some (q.consumed msn) :=
  State.qp_modQp hq (State.qpn_of_qp hq :)

/-- A connection in READY sends no DISCONNECT of its own (R197). -/
theorem State.consume_of_ready (hq : s.qp n = some q) (hstate : q.state = .ready) (msn : Nat) : s.consume n msn = s.freed n msn := by
  change (s.freed n msn).sendDisconnect n = _
  have hready : (q.consumed msn).state = .ready := hstate
  have hnot : decide ((q.consumed msn).state = .draining) = false := by rw [hready]; rfl
  rw [State.sendDisconnect_eq (State.qp_freed hq msn), hnot, Bool.false_and, Bool.false_and, Bool.false_and,
    if_neg Bool.false_ne_true]

/-- A NAK for a broken rule puts a working connection into ERROR (R216). -/
theorem State.qp_nakFail (hq : s.qp n = some q) (hw : q.works = true) (psn syndrome : Nat) :
    ∃ x, (s.nakFail n psn syndrome).qp n = some x ∧ x.state = .error := by
  obtain ⟨x, hx, c, k, rfl⟩ := (State.control_onConn s n 2 psn syndrome).own q hq
  exact ⟨_, State.qp_failConn (s := s.control n 2 psn syndrome) hx hw, rfl⟩

end

end Sys2Proof.Machine
end

section
/-! O9. LREAD answers the lines (R222, R223, R228), and a response serves the request that asked for it (R191, R243, R244). -/

namespace Sys2Proof.Machine

/-! ### Lines -/

/-- Bytes that are read piece by piece. -/
theorem Memory.flatten_readBytes (m : List Host.Cell) (a n k : Nat) :
    ((List.range k).map fun i => Memory.readBytes m (a + i * n) n).flatten = Memory.readBytes m a (k * n) := by
  induction k with
  | zero => simp [Memory.readBytes]
  | succ k ih =>
    simp only [Memory.readBytes] at ih ⊢
    rw [List.range_succ, List.map_append, List.flatten_append, ih, Nat.succ_mul, List.range_add, List.map_append]
    simp [Nat.add_assoc]

/-- The header of a message whose address, count of lines and length are in order (R222, R223). -/
theorem RlaHead.malformed_eq_false {h : RlaHead} (haddr : h.addr % 128 = 0) (hpos : 1 ≤ h.lines) (hmax : h.lines ≤ 4096)
    {len want : Nat} (hlen : len = want) : h.malformed len want = false := by
  have hzero : h.lines ≠ 0 := by omega
  simp [RlaHead.malformed, haddr, hzero, hmax, hlen]

theorem mem_controllerLines {base addr lines l : Nat} :
    l ∈ controllerLines base addr (lines * 128) ↔ ∃ i < lines * 2, (base + addr) / 64 + i = l := by
  have htwice : lines * 128 / 64 = lines * 2 := by omega
  simp [controllerLines, htwice]

/-- A line below the control line of a plain window is memory (R231). -/
theorem State.windowLine_of_plain {s : State} {w : Window} {i : Nat} (huse : w.use = .plain) (hbelow : (i + 1) * 128 ≠ w.length) :
    s.windowLine w i = Memory.readBytes s.mem (w.base + i * 128) 128 := by
  have hne : ((i + 1) * 128 == w.length) = false := beq_eq_false_iff_ne.mpr hbelow
  rw [State.windowLine, hne, if_neg Bool.false_ne_true, huse]

theorem State.windowLines_of_plain {s : State} {w : Window} {h : RlaHead} (huse : w.use = .plain) (haddr : h.addr % 128 = 0)
    (hbelow : h.addr + h.lines * 128 < w.length) :
    (h.range.map (s.windowLine w)).flatten = Memory.readBytes s.mem (w.base + h.addr) (h.lines * 128) := by
  rw [RlaHead.range, List.map_map, ← Memory.flatten_readBytes]
  congr 1
  refine List.map_congr_left fun i hi => ?_
  have hi := List.mem_range.mp hi
  have hstart : w.base + (h.addr / 128 + i) * 128 = w.base + h.addr + i * 128 := by omega
  rw [Function.comp_apply, State.windowLine_of_plain huse (by omega), hstart]

/-! ### LREAD -/

/-- The LREAD response to a message: a status and data. -/
def State.readAnswer (s : State) (m : Msg) (status : Nat) (data : Bytes) : State :=
  s.answer m.qpn m.msn 0xC0 (rlaBody (RlaHead.parse m.body).addr (RlaHead.parse m.body).lines status (RlaHead.parse m.body).tag data)

theorem exec_lread {s : State} {m : Msg} {q : Qp} {w : Window} (hreq : RlaRequest s m 0x40 q w)
    (hform : (RlaHead.parse m.body).malformed m.body.length 16 = false) : exec (.lread m) s =
      if w.length < (RlaHead.parse m.body).addr + (RlaHead.parse m.body).lines * 128 then .next (s.readAnswer m St.badParam [])
      else if !w.read then .next (s.readAnswer m St.denied [])
      else if (controllerLines w.base (RlaHead.parse m.body).addr ((RlaHead.parse m.body).lines * 128)).any
          s.store.poisonLines.contains then .next (s.readAnswer m St.integrity [])
      else .next (s.readAnswer m St.ok ((RlaHead.parse m.body).range.map (s.windowLine w)).flatten) := by
  change execLread m s = _
  rw [execLread, hreq.conn]
  dsimp only
  rw [Qp.works_of_ready hreq.ready, hreq.admits, hform, hreq.window]
  rfl

theorem lreadAnswersTheLines : Claims.LreadAnswersTheLines := by
  intro s m q w h hreq hh haddr hpos hmax hlen huse
  subst hh
  have hexec := exec_lread hreq (RlaHead.malformed_eq_false haddr hpos hmax hlen)
  refine ⟨fun hout => ?_, fun hin hread => ?_, fun hin hread hclean => ?_, fun hin hread hpoison => ?_⟩
  · rw [hexec, if_pos hout]
    rfl
  · rw [hexec, if_neg (by omega), hread]
    rfl
  · have hnone : (controllerLines w.base (RlaHead.parse m.body).addr ((RlaHead.parse m.body).lines * 128)).any
        s.store.poisonLines.contains = false := by
      rw [List.any_eq_false]
      intro l hl
      obtain ⟨i, hi, rfl⟩ := mem_controllerLines.mp hl
      simpa using hclean i hi
    rw [hexec, if_neg (by omega), hread, hnone, State.windowLines_of_plain huse haddr hin]
    rfl
  · have hsome : (controllerLines w.base (RlaHead.parse m.body).addr ((RlaHead.parse m.body).lines * 128)).any
        s.store.poisonLines.contains = true := by
      obtain ⟨i, hi, hmem⟩ := hpoison
      exact List.any_eq_true.mpr ⟨_, mem_controllerLines.mpr ⟨i, hi, rfl⟩, by simpa using hmem⟩
    rw [hexec, if_neg (by omega), hread, hsome]
    rfl

/-! ### LREAD responses -/

/-- A connection on which a request of this node is answered (R191). -/
def Qp.heard (tag : Nat) (q : Qp) : Qp := { q with tx := { q.tx with asked := q.tx.asked.filter (· != (0x40, tag)) } }

/-- The node once a response has come: its request is answered and the message consumed (R191, R198). -/
def State.heard (s : State) (m : Msg) (tag : Nat) : State := (s.modQp m.qpn (Qp.heard tag)).consume m.qpn m.msn

theorem State.heard_same (s : State) (m : Msg) (tag : Nat) : Same { net := true, sch := true } s (s.heard m tag) :=
  ((State.modQp_same ..).mono rfl).trans (State.consume_same ..)

section
variable {s : State} {m : Msg} {q : Qp}

theorem exec_lreadResponse_unasked (hq : s.qp m.qpn = some q) (hw : q.works = true) (hinit : q.initiator = true)
    (hasked : (0x40, (RlaHead.parse m.body).tag) ∉ q.tx.asked) :
    exec (.lreadResponse m) s = .next (s.nakFail m.qpn m.psn 0x01) := by
  have hnot : q.tx.asked.contains (0x40, (RlaHead.parse m.body).tag) = false := by simpa using hasked
  change execLreadResponse m s = _
  rw [execLreadResponse, hq]
  dsimp only
  rw [hw, hinit, hnot]
  rfl

/-- A response that is consumed: by its tag it is the publication header, the publication area or a partner's status line. -/
theorem exec_lreadResponse (hq : s.qp m.qpn = some q) (hw : q.works = true) (hinit : q.initiator = true)
    (hasked : (0x40, (RlaHead.parse m.body).tag) ∈ q.tx.asked)
    (hlen : be m.body 10 1 = St.ok → (m.body.drop 16).length = (RlaHead.parse m.body).lines * 128) :
    ((RlaHead.parse m.body).tag = 1 → exec (.lreadResponse m) s =
      s.finish ((s.heard m (RlaHead.parse m.body).tag).headerCame (be m.body 10 1) (m.body.drop 16))) ∧
    ((RlaHead.parse m.body).tag = 2 → be m.body 10 1 ≠ St.ok → exec (.lreadResponse m) s =
      .next ((s.heard m (RlaHead.parse m.body).tag).stageFail 4)) := by
  have hyes : q.tx.asked.contains (0x40, (RlaHead.parse m.body).tag) = true := by simpa using hasked
  have hwhole : (be m.body 10 1 == St.ok && (m.body.drop 16).length != (RlaHead.parse m.body).lines * 128) = false := by
    by_cases hok : be m.body 10 1 = St.ok
    · rw [hlen hok]; simp
    · simp [hok]
  have hexec : exec (.lreadResponse m) s = execLreadResponse m s := rfl
  rw [hexec, execLreadResponse, hq]
  dsimp only
  rw [hw, hinit, hyes, hwhole]
  refine ⟨fun htag => ?_, fun htag hbad => ?_⟩
  · rw [htag]
    rfl
  · rw [htag, beq_eq_false_iff_ne.mpr hbad]
    rfl

theorem State.stageFail_epochs (s : State) (cause : Nat) : ∃ roles, (s.stageFail cause).maps.epochs =
    { s.maps.epochs with roles := roles, staged := 0, stageResult := cause, staging := none } := by
  rw [State.stageFail]
  split
  · exact ⟨_, rfl⟩
  · exact ⟨_, rfl⟩

/-- A publication header that names no staged epoch is only taken note of (R244). -/
theorem State.headerCame_of_ne {data : Bytes} (hne : be data 4 4 ≠ s.maps.epochs.staged) (status : Nat) :
    s.headerCame status data = s.modEpochs fun e => { e with headerRead := false } := by
  have hnot : (be data 4 4 == s.maps.epochs.staged) = false := beq_eq_false_iff_ne.mpr hne
  rw [State.headerCame, if_neg]
  exact fun h => Bool.false_ne_true (hnot ▸ (Bool.and_eq_true_iff.mp h).2)

/-- Bringing FAULT_SEQ up to date changes the fault status line alone (R317). -/
theorem State.refault_eq_fault (t s : State) : ∃ f, t.refault s = { t with maps := { t.maps with fault := f } } := by
  rw [State.refault]
  split
  · exact ⟨t.maps.fault, rfl⟩
  · exact ⟨_, rfl⟩

theorem answers_finish_fault {s t : State} {P : State → Prop} (h : ∀ f, P { t with maps := { t.maps with fault := f } }) :
    Answers (s.finish t) P := by
  obtain ⟨f, hf⟩ := t.refault_eq_fault s
  exact answers_next (hf ▸ h f)

end

theorem lreadResponseServesItsRequest : Claims.LreadResponseServesItsRequest := by
  intro s m q h hq hready hinit hh
  subst hh
  have hw := Qp.works_of_ready hready
  refine ⟨fun hasked => ?_, fun hasked htag hbad => ?_, fun hasked htag hok hlen hne => ?_⟩
  · rw [exec_lreadResponse_unasked hq hw hinit hasked]
    have hsame := State.nakFail_same s m.qpn m.psn 0x01
    exact answers_next ⟨State.qp_nakFail hq hw _ _, hsame.mem.eq rfl, hsame.store.eq rfl⟩
  · rw [(exec_lreadResponse hq hw hinit hasked fun hok => absurd hok hbad).2 htag hbad]
    have hsame := s.heard_same m (RlaHead.parse m.body).tag
    obtain ⟨roles, he⟩ := (s.heard m (RlaHead.parse m.body).tag).stageFail_epochs 4
    have hstore := ((State.stageFail_same (s.heard m (RlaHead.parse m.body).tag) 4).store.eq rfl).trans (hsame.store.eq rfl)
    rw [hsame.maps.eq rfl] at he
    refine answers_next ?_
    rw [he]
    exact ⟨rfl, rfl, rfl, rfl, hstore⟩
  · have hsame := s.heard_same m (RlaHead.parse m.body).tag
    have hmaps := hsame.maps.eq rfl
    have hqp : (s.heard m (RlaHead.parse m.body).tag).qp m.qpn =
        some ((q.heard (RlaHead.parse m.body).tag).consumed m.msn) := by
      have hheard : (s.modQp m.qpn (Qp.heard (RlaHead.parse m.body).tag)).qp m.qpn = some (q.heard (RlaHead.parse m.body).tag) :=
        State.qp_modQp hq (State.qpn_of_qp hq :)
      rw [State.heard, State.consume_of_ready hheard hready]
      exact State.qp_freed hheard _
    rw [(exec_lreadResponse hq hw hinit hasked fun _ => by rw [List.length_drop]; omega).1 htag,
      State.headerCame_of_ne (by rw [hmaps]; exact hne)]
    refine answers_finish_fault fun f => ⟨?_, ?_, hsame.store.eq rfl, _, hqp, ?_⟩
    · exact congrArg (fun x => { x.epochs with headerRead := false }) hmaps
    · exact (congrArg Maps.ledger hmaps :)
    · simp [Qp.consumed, Qp.heard]

/-- Settles O9: the checks of an LREAD are a cascade that each clause takes at its own place, and below the control line a plain
window's lines are the bytes of memory in a row; a response is consumed before its tag is looked at. -/
theorem linesAreRead : Obligations.LinesAreRead := by
  unfold Obligations.LinesAreRead
  exact ⟨lreadAnswersTheLines, lreadResponseServesItsRequest⟩

end Sys2Proof.Machine
end

section
/-! O10. LWRITE stores its lines only (R223, R228, R230), and an LWRITE_FINAL takes effect after every earlier write (R207). -/

namespace Sys2Proof.Machine

/-! ### Lines that are placed -/

section
variable {s : State} {w : Window} {addr : Nat} {data : Bytes}

theorem State.read_placeLines_of_lt (hwf : Memory.wf s.mem = true) {i : Nat} (hi : i < data.length) :
    Memory.read (s.placeLines w addr data).mem (w.base + addr + i) = data.getD i 0 := by
  have hin : w.base + addr ≤ w.base + addr + i ∧ w.base + addr + i < w.base + addr + data.length := by omega
  change Memory.read (Memory.writeBytes s.mem (w.base + addr) data) _ = _
  rw [Memory.read_writeBytes hwf, if_pos hin, Nat.add_sub_cancel_left]

theorem State.read_placeLines_of_outside (hwf : Memory.wf s.mem = true) {a : Nat}
    (ha : a < w.base + addr ∨ w.base + addr + data.length ≤ a) : Memory.read (s.placeLines w addr data).mem a = Memory.read s.mem a := by
  change Memory.read (Memory.writeBytes s.mem (w.base + addr) data) _ = _
  rw [Memory.read_writeBytes hwf, if_neg (by omega)]

end

theorem getD_drop {α : Type} (xs : List α) (n i : Nat) (d : α) : (xs.drop n).getD i d = xs.getD (n + i) d := by
  simp [List.getD]

/-! ### The checks of a write (R228, R231) -/

section
variable {s : State} {w : Window} {h : RlaHead} {len : Nat} {final : Bool}

/-- A write below the control line of a plain window is admitted where the sender may write (R228, R230). -/
theorem State.writeRefused_eq_none (hform : h.malformed len (16 + h.lines * 128) = false) (hfinal : final = true → h.lines = 1)
    (haddr : h.addr % 128 = 0) (huse : w.use = .plain) (hin : h.addr + h.lines * 128 < w.length) (hwrite : w.write = true)
    (hown : ∀ i < h.lines, s.regionDenies w (h.addr / 128 + i) = false) : s.writeRefused w h len final = none := by
  have hone : (final && h.lines != 1) = false := by cases final <;> simp_all
  have hright : (decide (w.length < h.addr + h.lines * 128) || !w.write) = false := by
    rw [hwrite, decide_eq_false (by omega)]
    rfl
  have hregion : h.range.any (s.regionDenies w) = false := by
    rw [List.any_eq_false]
    intro l hl
    obtain ⟨i, hi, rfl⟩ := List.mem_map.mp hl
    simpa using hown i (List.mem_range.mp hi)
  have hopen : h.range.all (fun i => w.lineOpen i final) = true := by
    rw [List.all_eq_true]
    intro l hl
    obtain ⟨i, hi, rfl⟩ := List.mem_map.mp hl
    have hi := List.mem_range.mp hi
    have hbelow : ((h.addr / 128 + i + 1) * 128 == w.length) = false := beq_eq_false_iff_ne.mpr (by omega)
    rw [Window.lineOpen, hbelow, if_neg Bool.false_ne_true, huse]
  rw [State.writeRefused, hform, hone, hright, hregion, hopen]
  rfl

/-- A write outside the window, without the right to write, or on a line of another owner's region is refused (R228, R230). -/
theorem State.writeRefused_eq_some (hform : h.malformed len (16 + h.lines * 128) = false)
    (hbad : w.length < h.addr + h.lines * 128 ∨ w.write = false ∨ ∃ i < h.lines, s.regionDenies w (h.addr / 128 + i) = true) :
    s.writeRefused w h len false = some 0x03 := by
  rw [State.writeRefused, hform]
  simp only [Bool.false_and, Bool.or_false, Bool.false_eq_true, if_false]
  split
  · rfl
  · next hright =>
    split
    · rfl
    · next hregion =>
      rcases hbad with hout | hwrite | ⟨i, hi, hdeny⟩
      · simp [hout] at hright
      · simp [hwrite] at hright
      · exact absurd (List.any_eq_true.mpr ⟨_, List.mem_map.mpr ⟨i, List.mem_range.mpr hi, rfl⟩, hdeny⟩) hregion

end

/-! ### LWRITE -/

section
variable {s : State} {m : Msg} {q : Qp} {w : Window}

theorem exec_lwrite_placed (hreq : RlaRequest s m 0x41 q w)
    (hok : s.writeRefused w (RlaHead.parse m.body) m.body.length false = none) : exec (.lwrite m) s =
      .next (((s.placeLines w (RlaHead.parse m.body).addr (m.body.drop 16)).consume m.qpn m.msn).releaseHeld m.qpn) := by
  change execLwrite m s = _
  rw [execLwrite, hreq.conn]
  dsimp only
  rw [Qp.works_of_ready hreq.ready, hreq.admits, hreq.window]
  dsimp only
  rw [hok]
  rfl

theorem exec_lwrite_refused {syndrome : Nat} (hreq : RlaRequest s m 0x41 q w)
    (hno : s.writeRefused w (RlaHead.parse m.body) m.body.length false = some syndrome) : exec (.lwrite m) s =
      .next (s.nakFail m.qpn m.psn syndrome) := by
  change execLwrite m s = _
  rw [execLwrite, hreq.conn]
  dsimp only
  rw [Qp.works_of_ready hreq.ready, hreq.admits, hreq.window]
  dsimp only
  rw [hno]
  rfl

end

theorem lwriteStoresItsLinesOnly : Claims.LwriteStoresItsLinesOnly := by
  intro s m q w h hwf hreq hh haddr hpos hmax hlen huse
  subst hh
  have hform := RlaHead.malformed_eq_false haddr hpos hmax hlen
  refine ⟨fun hin hwrite hown => ?_, fun hbad => ?_⟩
  · rw [exec_lwrite_placed hreq (State.writeRefused_eq_none hform (nomatch ·) haddr huse hin hwrite hown)]
    have hplaced := State.placeLines_same s w (RlaHead.parse m.body).addr (m.body.drop 16)
    have hafter := (State.consume_same (s.placeLines w (RlaHead.parse m.body).addr (m.body.drop 16)) m.qpn m.msn).trans
      (State.releaseHeld_same _ m.qpn)
    have hdata : (m.body.drop 16).length = (RlaHead.parse m.body).lines * 128 := by rw [List.length_drop]; omega
    refine answers_next ⟨fun i hi => ?_, fun a ha => ?_, ?_, ?_, ?_, ?_⟩
    · rw [hafter.mem.eq rfl, State.read_placeLines_of_lt hwf (by omega), getD_drop]
    · rw [hafter.mem.eq rfl, State.read_placeLines_of_outside hwf (by omega)]
    · exact (congrArg Store.seqs (hafter.store.eq rfl) :)
    · exact (hafter.maps.eq rfl).trans (hplaced.maps.eq rfl)
    · exact (hafter.pads.eq rfl).trans (hplaced.pads.eq rfl)
    · exact (hafter.eng.eq rfl).trans (hplaced.eng.eq rfl)
  · rw [exec_lwrite_refused hreq (State.writeRefused_eq_some hform hbad)]
    have hsame := State.nakFail_same s m.qpn m.psn 0x03
    exact answers_next ⟨hsame.mem.eq rfl, hsame.store.eq rfl, State.qp_nakFail hreq.conn (Qp.works_of_ready hreq.ready) _ _⟩

/-! ### LWRITE_FINAL -/

theorem mem_placeFinal_self (f : FinalWrite) (fs : List FinalWrite) : f ∈ placeFinal f fs := by
  induction fs with
  | nil => exact List.mem_singleton.mpr rfl
  | cons g gs ih =>
    rw [placeFinal]
    split
    · exact List.mem_cons_self
    · exact List.mem_cons_of_mem g ih

/-- A connection on which a FINAL write waits besides others (R207). -/
def Qp.withFinal (f : FinalWrite) (q : Qp) : Qp := { q with rx := { q.rx with finals := placeFinal f q.rx.finals } }

/-- The node once an LWRITE_FINAL has left its inbox to wait (R207). -/
def State.finalWaits (s : State) (m : Msg) (settled : Bool) : State :=
  { s with net := { s.net with inbox := s.net.inbox.filter fun x => !(x.qpn == m.qpn && x.msn == m.msn) } }.modQp m.qpn
    (Qp.withFinal ⟨m.psn, m.msn, m.body, settled⟩)

theorem exec_lwriteFinal {s : State} {m : Msg} {q : Qp} {w : Window} (hreq : RlaRequest s m 0x42 q w)
    (hok : s.writeRefused w (RlaHead.parse m.body) m.body.length true = none) : exec (.lwriteFinal m) s =
      .next (s.finalWaits m (!w.needsWork (RlaHead.parse m.body) (m.body.drop 16))) := by
  change execLwriteFinal m s = _
  rw [execLwriteFinal, hreq.conn]
  dsimp only
  rw [Qp.works_of_ready hreq.ready, hreq.admits, hreq.window]
  dsimp only
  rw [hok]
  rfl

theorem finalWriteWaits : Claims.FinalWriteWaits := by
  intro s m q w h hreq hh haddr hlines hlen huse hin hwrite hown
  subst hh
  have hform : (RlaHead.parse m.body).malformed m.body.length (16 + (RlaHead.parse m.body).lines * 128) = false :=
    RlaHead.malformed_eq_false haddr (by omega) (by omega) (by omega)
  have hok : s.writeRefused w (RlaHead.parse m.body) m.body.length true = none :=
    State.writeRefused_eq_none hform (fun _ => hlines) haddr huse (by omega) hwrite fun i hi => by
      obtain rfl : i = 0 := by omega
      exact hown
  have hplain : w.needsWork (RlaHead.parse m.body) (m.body.drop 16) = false := by
    have hbelow : ((RlaHead.parse m.body).addr + 128 == w.length) = false := beq_eq_false_iff_ne.mpr (by omega)
    simp [Window.needsWork, hbelow, huse]
  rw [exec_lwriteFinal hreq hok, hplain]
  exact answers_next ⟨rfl, rfl, rfl, _, State.qp_modQp hreq.conn (State.qpn_of_qp hreq.conn :), mem_placeFinal_self ..⟩

/-! ### The oldest waiting FINAL takes effect -/

section
variable {s : State} {n psn : Nat} {q : Qp} {w : Window} {f : FinalWrite} {rest : List FinalWrite}

/-- The oldest waiting FINAL is ready once its turn has come and nothing earlier of its connection waits (R207). -/
theorem State.readyFinal_eq_some (hq : s.qp n = some q) (hw : q.works = true) (hbound : s.boundWindow q = some w)
    (hfinals : q.rx.finals = f :: rest) (hpsn : f.psn = psn) (hturn : psn = q.rx.expect)
    (hplaced : ∀ m ∈ s.net.inbox, m.qpn = n → m.opcode = 0x41 ∨ m.opcode = 0x42 → precedes m.msn f.msn = false) :
    s.readyFinal n psn = some (q, w, f) := by
  have hnone : (s.net.inbox.any fun m => m.qpn == n && (m.opcode == 0x41 || m.opcode == 0x42) && precedes m.msn f.msn) = false := by
    rw [List.any_eq_false]
    intro m hm hall
    simp only [Bool.and_eq_true, Bool.or_eq_true, beq_iff_eq] at hall
    obtain ⟨⟨hmine, hop⟩, hbefore⟩ := hall
    exact Bool.false_ne_true ((hplaced m hm hmine hop).symm.trans hbefore)
  rw [State.readyFinal, hq, Option.bind_some, hfinals, List.head?_cons, Option.bind_some, hnone, hw, hbound]
  simp [hpsn, hturn]

/-- It is not while a packet before it is missing, or an earlier LWRITE is not placed (R207). -/
theorem State.readyFinal_eq_none (hq : s.qp n = some q) (hfinals : q.rx.finals = f :: rest)
    (hearly : (psn ≠ q.rx.expect ∧ precedes psn q.rx.expect = false) ∨
      ∃ m ∈ s.net.inbox, m.qpn = n ∧ m.opcode = 0x41 ∧ precedes m.msn f.msn = true) : s.readyFinal n psn = none := by
  rw [State.readyFinal, hq, Option.bind_some, hfinals, List.head?_cons, Option.bind_some]
  refine if_neg fun hall => ?_
  simp only [Bool.and_eq_true, Bool.or_eq_true, beq_iff_eq, Bool.not_eq_true'] at hall
  obtain ⟨⟨-, hturn⟩, hnone⟩ := hall
  rcases hearly with ⟨hne, hnot⟩ | ⟨m, hm, hmine, hop, hbefore⟩
  · exact hturn.elim hne fun h => Bool.false_ne_true (hnot.symm.trans h)
  · refine List.any_eq_false.mp hnone m hm ?_
    simp [hmine, hop, hbefore]

/-- A connection whose oldest FINAL has taken effect (R207). -/
def Qp.pastFinal (e : Nat) (q : Qp) : Qp := { q with rx := { q.rx with finals := q.rx.finals.drop 1, expect := e } }

theorem exec_finalTakesEffect (hready : s.readyFinal n psn = some (q, w, f)) (hsettled : f.settled = true)
    (hline : (RlaHead.parse f.body).addr + 128 ≠ w.length) (hturn : f.psn = q.rx.expect) :
    exec (.finalTakesEffect n psn) s = .next ((((((s.placeLines w (RlaHead.parse f.body).addr (f.body.drop 16)).modQp n
      (Qp.pastFinal ((f.psn + 1) % 2 ^ 24))).consume n f.msn).deliverHeld n).sendAck n)) := by
  have hbelow : ((RlaHead.parse f.body).addr + 128 != w.length) = true := bne_iff_ne.mpr hline
  change execFinalTakesEffect n psn s = _
  rw [execFinalTakesEffect, hready]
  dsimp only
  rw [hsettled, hbelow, hturn, beq_self_eq_true]
  rfl

/-- What waits for its effect and E stay as messages are delivered (R206, R207). -/
theorem State.qp_deliver (hq : s.qp n = some q) (m : InMsg) : ∃ x, (s.deliver n m).qp n = some x ∧ x.rx.finals = q.rx.finals ∧
    x.rx.expect = q.rx.expect := by
  rw [State.deliver, hq]
  dsimp only
  split
  · exact ⟨_, State.qp_modQp hq (State.qpn_of_qp hq :), rfl, rfl⟩
  · exact ⟨_, State.qp_modQp hq (State.qpn_of_qp hq :), rfl, rfl⟩

theorem State.qp_deliverHeldFuel (fuel : Nat) (hq : s.qp n = some q) : ∃ x, (s.deliverHeldFuel fuel n).qp n = some x ∧
    x.rx.finals = q.rx.finals ∧ x.rx.expect = q.rx.expect := by
  induction fuel generalizing s q with
  | zero => exact ⟨q, hq, rfl, rfl⟩
  | succ fuel ih =>
    rw [State.deliverHeldFuel]
    split
    · exact ⟨q, hq, rfl, rfl⟩
    · next m _ =>
      obtain ⟨x, hx, hfinals, hexpect⟩ := State.qp_deliver (s := s.modQp n fun x =>
        { x with rx := { x.rx with held := x.rx.held.filter (·.msn != m.msn) } })
        (State.qp_modQp hq (State.qpn_of_qp hq :)) m
      obtain ⟨y, hy, hfinals', hexpect'⟩ := ih hx
      exact ⟨y, hy, hfinals'.trans hfinals, hexpect'.trans hexpect⟩

/-- The connection after the effect: the FINAL is gone and E is past it (R207). -/
theorem State.qp_afterEffect (hq : s.qp n = some q) (hstate : q.state = .ready) (e msn : Nat) :
    ∃ x, ((((s.modQp n (Qp.pastFinal e)).consume n msn).deliverHeld n).sendAck n).qp n = some x ∧
      x.rx.finals = q.rx.finals.drop 1 ∧ x.rx.expect = e := by
  have hpast : (s.modQp n (Qp.pastFinal e)).qp n = some (q.pastFinal e) := State.qp_modQp hq (State.qpn_of_qp hq :)
  rw [State.consume_of_ready hpast hstate]
  obtain ⟨x, hx, hfinals, hexpect⟩ := State.qp_deliverHeldFuel _ (State.qp_freed hpast msn)
  obtain ⟨y, hy, c, k, since, due, last, rfl⟩ := (State.sendAck_onConn _ n).own x hx
  exact ⟨_, hy, hfinals, hexpect⟩

end

theorem finalTakesEffectAfterEarlierWrites : Claims.FinalTakesEffectAfterEarlierWrites := by
  intro s n psn q w f rest hwf hq hstate hbound hfinals hpsn hsettled hlen hline
  refine ⟨fun hearly => ?_, fun hturn hplaced => ?_⟩
  · change execFinalTakesEffect n psn s = _
    rw [execFinalTakesEffect, State.readyFinal_eq_none hq hfinals hearly]
  · have hready := State.readyFinal_eq_some hq (Qp.works_of_ready hstate) hbound hfinals hpsn hturn hplaced
    rw [exec_finalTakesEffect hready hsettled hline (hpsn.trans hturn)]
    have hlines := State.placeLines_same s w (RlaHead.parse f.body).addr (f.body.drop 16)
    obtain ⟨x, hx, hrest, hexpect⟩ := State.qp_afterEffect (s := s.placeLines w (RlaHead.parse f.body).addr (f.body.drop 16))
      hq hstate ((f.psn + 1) % 2 ^ 24) f.msn
    have hafter := (((State.modQp_same (s.placeLines w (RlaHead.parse f.body).addr (f.body.drop 16)) n
      (Qp.pastFinal ((f.psn + 1) % 2 ^ 24))).mono (b := { net := true, sch := true }) rfl).trans
      (State.consume_same _ n f.msn)).trans (((State.deliverHeld_same _ n).mono rfl).trans (State.sendAck_same _ n))
    have hdata : (f.body.drop 16).length = 128 := by rw [List.length_drop]; omega
    refine answers_next ⟨fun i hi => ?_, fun a ha => ?_, ⟨x, hx, ?_, ?_⟩, ?_⟩
    · rw [hafter.mem.eq rfl, State.read_placeLines_of_lt hwf (by omega), getD_drop]
    · rw [hafter.mem.eq rfl, State.read_placeLines_of_outside hwf (by omega)]
    · rw [hrest, hfinals, List.drop_succ_cons, List.drop_zero]
    · rw [hexpect, hpsn]
    · exact (hafter.maps.eq rfl).trans (hlines.maps.eq rfl)

/-- Settles O10: an admitted write places its data at the base of its window and its own address, and what follows the placing (the
message consumed, others delivered, an ACK) touches the network alone; what is not in its turn is not ready. -/
theorem linesAreWrittenInOrder : Obligations.LinesAreWrittenInOrder := by
  unfold Obligations.LinesAreWrittenInOrder
  exact ⟨lwriteStoresItsLinesOnly, finalWriteWaits, finalTakesEffectAfterEarlierWrites⟩

end Sys2Proof.Machine
end

section
/-! O11. HANDOVER moves a region once (R229, R232), and FORCE_OWNER waits for the old owner (R231, R233). -/

namespace Sys2Proof.Machine

/-! ### Control records -/

theorem length_sub (bs : Bytes) (off len : Nat) : (sub bs off len).length = len := by
  simp [sub]

theorem sub_append_of_length {as bs : Bytes} {off : Nat} (h : as.length = off) (len : Nat) :
    sub (as ++ bs) off len = sub bs 0 len := by
  rw [sub, List.drop_left' h, sub, List.drop_zero]

/-- A control line reads back RESULT in byte 20 (R231). -/
theorem be_result (line : Bytes) (result : Nat) :
    be (sub line 0 20 ++ toBe 1 result ++ sub line 21 107) 20 1 = beNat (toBe 1 result) := by
  rw [be, List.append_assoc, sub_append_of_length (length_sub ..)]
  exact congrArg beNat (sub_zero_append (as := toBe 1 result) rfl)

section
variable {s : State} {n psn type : Nat} {q : Qp} {w : Window} {f : FinalWrite}

theorem ControlReady.controlRecord_eq (h : ControlReady s n psn type q w f) :
    s.controlRecord n psn type = some (q, w, f.body.drop 16) := by
  rw [State.controlRecord, h.ready, Option.bind_some]
  simp [h.o2, h.fresh, h.line, h.type]

/-- A record that is worked on leaves RESULT in its window's control line (R231). -/
theorem State.window_controlDone (hw : s.window w.index = some w) (n : Nat) (line : Bytes) (result : Nat) :
    ∃ x, (s.controlDone n w line result).window w.index = some x ∧ be x.control 20 1 = beNat (toBe 1 result) :=
  ⟨_, State.window_modWindow hw (f := fun x => { x with control := sub line 0 20 ++ toBe 1 result ++ sub line 21 107 }) rfl,
    be_result line result⟩

/-! ### Regions -/

theorem State.index_of_region {r : Region} {i : Nat} (hr : s.region i = some r) : r.index = i ∧ r.active = true := by
  simpa using List.find?_some hr

/-- A region with a new owner and its next generation (R229). -/
def Region.given (node paddock : Nat) (r : Region) : Region :=
  { r with ownerNode := node, ownerPaddock := paddock, gen := (r.gen + 1) % 2 ^ 32 }

theorem State.region_giveRegion {r : Region} {i : Nat} (hr : s.region i = some r) (node paddock : Nat) :
    (s.giveRegion r.index node paddock).region r.index = some (r.given node paddock) := by
  obtain ⟨hi, hactive⟩ := State.index_of_region hr
  have hr' : (s.maps.regions.find? fun x => x.index == r.index && x.active) = some r := by rw [hi]; exact hr
  refine find?_updateFirst hr' ?_
  simp [hactive]

/-! ### HANDOVER and FORCE_OWNER -/

/-- The node once a region has gone to the owner that a control record names, RESULT 0 (R232). -/
def State.given (s : State) (n : Nat) (w : Window) (f : FinalWrite) (r : Region) : State :=
  (s.giveRegion r.index (be (f.body.drop 16) 16 2) (be (f.body.drop 16) 18 2 % 4096)).controlDone n w (f.body.drop 16) 0

/-- Whether a window's sender owns a region, which the window holds (R232). -/
def Window.owns (w : Window) (r : Region) : Bool :=
  r.ownerNode == w.srcNode && r.ownerPaddock == w.srcPaddock && w.base ≤ r.base && r.base < w.base + w.length

theorem exec_handover {r : Region} (h : ControlReady s n psn 1 q w f) (hr : s.region (be (f.body.drop 16) 8 2) = some r) :
    exec (.handover n psn) s =
      if !w.owns r then .next (s.controlDone n w (f.body.drop 16) 1)
      else if r.gen != be (f.body.drop 16) 12 4 then .next (s.controlDone n w (f.body.drop 16) 2)
      else .next (s.given n w f r) := by
  change execHandover n psn s = _
  rw [execHandover, h.controlRecord_eq]
  dsimp only
  rw [hr]
  rfl

theorem exec_forceOwner {r : Region} (h : ControlReady s n psn 2 q w f) (hr : s.region (be (f.body.drop 16) 8 2) = some r) :
    exec (.forceOwner n psn) s =
      if decide (w.use ≠ .fabricManager) then .next (s.controlDone n w (f.body.drop 16) 3)
      else if r.gen != be (f.body.drop 16) 12 4 then .next (s.controlDone n w (f.body.drop 16) 2)
      else if s.ownerAlive r then .next s
      else .next (s.given n w f r) := by
  change execForceOwner n psn s = _
  rw [execForceOwner, h.controlRecord_eq]
  dsimp only
  rw [hr]
  rfl

theorem State.region_given {r : Region} {i : Nat} (hr : s.region i = some r) (n : Nat) (w : Window) (f : FinalWrite) :
    (s.given n w f r).region r.index = some (r.given (be (f.body.drop 16) 16 2) (be (f.body.drop 16) 18 2 % 4096)) :=
  State.region_giveRegion hr _ _

theorem State.window_given (hw : s.window w.index = some w) (n : Nat) (f : FinalWrite) (r : Region) :
    ∃ x, (s.given n w f r).window w.index = some x ∧ be x.control 20 1 = 0 :=
  State.window_controlDone (s := s.giveRegion r.index _ _) hw n _ 0

end

theorem handoverMovesARegionOnce : Claims.HandoverMovesARegionOnce := by
  intro s n psn q w f r h hr
  have hresult := State.window_controlDone h.window n (f.body.drop 16)
  cases howns : w.owns r with
  | false =>
    rw [exec_handover h hr, howns]
    refine answers_next ⟨rfl, rfl, fun _ => ⟨rfl, hresult 1⟩, fun hnode hpaddock hlow hhigh => ?_⟩
    simp [Window.owns, hnode, hpaddock, hlow, hhigh] at howns
  | true =>
    have hsender : r.ownerNode = w.srcNode ∧ r.ownerPaddock = w.srcPaddock := by
      simp only [Window.owns, Bool.and_eq_true, beq_iff_eq] at howns
      obtain ⟨⟨hsender, -⟩, -⟩ := howns
      exact hsender
    have hnot : ¬ (r.ownerNode ≠ w.srcNode ∨ r.ownerPaddock ≠ w.srcPaddock) := by simp [hsender]
    by_cases hgen : r.gen = be (f.body.drop 16) 12 4
    · rw [exec_handover h hr, howns, hgen, bne_self_eq_false]
      exact answers_next ⟨rfl, rfl, fun hother => absurd hother hnot, fun _ _ _ _ =>
        ⟨fun hstale => absurd rfl hstale, fun _ => ⟨hgen ▸ State.region_given hr n w f, State.window_given h.window n f r⟩⟩⟩
    · rw [exec_handover h hr, howns, bne_iff_ne.mpr hgen]
      exact answers_next ⟨rfl, rfl, fun hother => absurd hother hnot, fun _ _ _ _ =>
        ⟨fun _ => ⟨rfl, hresult 2⟩, fun hsame => absurd hsame hgen⟩⟩

theorem forceOwnerWaitsForTheOldOwner : Claims.ForceOwnerWaitsForTheOldOwner := by
  intro s n psn q w f r h hr
  refine ⟨fun huse => ?_, fun huse hgen halive => ?_, fun huse hgen hgone => ?_⟩
  · rw [exec_forceOwner h hr, decide_eq_true huse]
    exact answers_next ⟨rfl, State.window_controlDone h.window n _ 3⟩
  · rw [exec_forceOwner h hr, hgen, bne_self_eq_false, halive, huse]
    rfl
  · rw [exec_forceOwner h hr, hgen, bne_self_eq_false, hgone, huse]
    exact answers_next ⟨hgen ▸ State.region_given hr n w f, rfl, rfl⟩

/-- Settles O11: both records end in one cascade of RESULTs, and only its last step gives the region away. -/
theorem regionsMoveOnce : Obligations.RegionsMoveOnce := by
  unfold Obligations.RegionsMoveOnce
  exact ⟨handoverMovesARegionOnce, forceOwnerWaitsForTheOldOwner⟩

end Sys2Proof.Machine
end

section
/-! SUPPORT. What keeps the epochs: of all that follows a publish or the end of a drain, only the role changes themselves change
the epoch state. -/

namespace Sys2Proof.Machine

/-- The epoch state of the node. -/
def State.epochs (s : State) : Epochs := s.maps.epochs

theorem State.epochs_of_same {k : Mask} {s t : State} (h : Same k s t) (hk : k.maps = false) : t.epochs = s.epochs :=
  congrArg Maps.epochs (h.maps.eq hk)

/-! ### The Ledger and the pair streams -/

section
variable (s : State)

@[simp] theorem State.epochs_modSeq (d : Nat) (f : Seq → Seq) : (s.modSeq d f).epochs = s.epochs := rfl
@[simp] theorem State.epochs_modBlock (n : Nat) (f : Block → Block) : (s.modBlock n f).epochs = s.epochs := rfl
@[simp] theorem State.epochs_modStream (i : Nat) (f : Stream → Stream) : (s.modStream i f).epochs = s.epochs := rfl
@[simp] theorem State.epochs_ledgerRemove (p : LedgerEntry → Bool) : (s.ledgerRemove p).epochs = s.epochs := rfl

@[simp] theorem State.epochs_ledgerInsert (key mask result : Nat) (members : List Nat) (own : Bool) (partition : Nat) :
    (s.ledgerInsert key mask result members own partition).epochs = s.epochs := by
  rw [State.ledgerInsert]
  split
  · rfl
  · dsimp only
    split <;> rfl

@[simp] theorem State.epochs_refuseBlock (q : Seq) (layer block : Nat) :
    (s.refuseBlock q layer block).epochs = s.epochs := by
  rw [State.refuseBlock]
  split
  · rfl
  · exact State.epochs_ledgerInsert ..

@[simp] theorem State.epochs_ensureStream (partner paddock : Nat) : (s.ensureStream partner paddock).epochs = s.epochs := by
  rw [State.ensureStream]
  split <;> rfl

end

theorem State.epochs_pumpStreamFuel (i fuel : Nat) (s : State) : (State.pumpStreamFuel i fuel s).epochs = s.epochs := by
  induction fuel generalizing s with
  | zero => rfl
  | succ fuel ih =>
    rw [State.pumpStreamFuel]
    split
    · rfl
    · split
      · split
        · rfl
        · dsimp only
          split
          · exact ih _
          · split
            · rfl
            · refine (ih _).trans ((State.epochs_of_same (State.sendCommit_same ..) rfl).trans ?_)
              split <;> rfl
      · rfl

section
variable (s : State)

@[simp] theorem State.epochs_queueRecords (partner paddock op : Nat) (records : List Bytes) :
    (s.queueRecords partner paddock op records).epochs = s.epochs := by
  rw [State.queueRecords]
  split
  · rfl
  · dsimp only
    split
    · exact State.epochs_ensureStream ..
    · rw [State.pumpStream]
      split
      · exact State.epochs_ensureStream ..
      · exact (State.epochs_pumpStreamFuel ..).trans (State.epochs_ensureStream ..)

@[simp] theorem State.epochs_queueCommit (partner paddock op : Nat) (records : List Bytes) :
    (s.queueCommit partner paddock op records).epochs = s.epochs := by
  rw [State.queueCommit]
  split
  · exact State.epochs_queueRecords ..
  · exact (State.epochs_of_same (State.connectStream_same ..) rfl).trans (State.epochs_queueRecords ..)

@[simp] theorem State.epochs_restoreReq (q : Seq) (layer head block : Nat) :
    (s.restoreReq q layer head block).epochs = s.epochs := by
  rw [State.restoreReq]
  split
  · rfl
  · exact (State.epochs_queueRecords ..).trans (State.epochs_refuseBlock ..)

@[simp] theorem State.epochs_modFault (f : FaultLine → FaultLine) : (s.modFault f).epochs = s.epochs := by
  rw [State.modFault]
  split <;> rfl

@[simp] theorem State.epochs_settleLost : s.settleLost.epochs = s.epochs := by
  rw [State.settleLost]
  split
  · rfl
  · exact State.epochs_modFault ..

@[simp] theorem State.epochs_regain (paddock seq : Nat) : (s.regain paddock seq).epochs = s.epochs :=
  State.epochs_settleLost _

/-! ### Losses and retired frames -/

@[simp] theorem State.epochs_note (e : ErrRep) : (s.note e).epochs = s.epochs :=
  State.epochs_of_same (State.note_same ..) rfl
@[simp] theorem State.epochs_reseal (d : Nat) : (s.reseal d).epochs = s.epochs :=
  State.epochs_of_same (State.reseal_same ..) rfl
@[simp] theorem State.epochs_resealL1 (d : Nat) : (s.resealL1 d).epochs = s.epochs :=
  State.epochs_of_same (State.resealL1_same ..) rfl
@[simp] theorem State.epochs_resealDescPage (q : Seq) : (s.resealDescPage q).epochs = s.epochs :=
  State.epochs_of_same (State.resealDescPage_same ..) rfl
@[simp] theorem State.epochs_resealNamers (n : Nat) : (s.resealNamers n).epochs = s.epochs :=
  State.epochs_of_same (State.resealNamers_same ..) rfl
@[simp] theorem State.epochs_freeOld (block desc generation paddock : Nat) (p : Place) :
    (s.freeOld block desc generation paddock p).epochs = s.epochs :=
  State.epochs_of_same (State.freeOld_same ..) rfl
@[simp] theorem State.epochs_moveMeta (q : Seq) (bytes align : Nat) (put : Nat → Seq → Seq) :
    (s.moveMeta q bytes align put).epochs = s.epochs :=
  State.epochs_of_same (State.moveMeta_same ..) rfl
@[simp] theorem State.epochs_moveTable (q : Seq) (i bytes align : Nat) (hit : Bool) :
    (s.moveTable q i bytes align hit).epochs = s.epochs :=
  State.epochs_of_same (State.moveTable_same ..) rfl

theorem State.epochs_allocT1 {s t : State} {slice paddock shift units : Nat} {p : Place}
    (h : s.allocT1 slice paddock shift units = some (p, t)) : t.epochs = s.epochs :=
  State.epochs_of_same ((State.allocT1_same s slice paddock shift units).of _ h) rfl

@[simp] theorem State.epochs_losePages (q : Seq) (pages : List Nat) (address : Nat) :
    (s.losePages q pages address).epochs = s.epochs := by
  rw [State.losePages]
  refine (foldl_keeps (fun _ _ => State.epochs_restoreReq ..) ..).trans ?_
  rw [State.epochs_note]
  split
  · exact State.epochs_resealL1 ..
  · rfl

@[simp] theorem State.epochs_loseSeq (q : Seq) (address : Nat) : (s.loseSeq q address).epochs = s.epochs := by
  rw [State.loseSeq]
  split
  · rfl
  · refine (State.epochs_queueRecords ..).trans ?_
    rw [State.epochs_note, State.epochs_resealDescPage, State.epochs_modSeq]

@[simp] theorem State.epochs_relocateBlock (b : Block) : (s.relocateBlock b).epochs = s.epochs := by
  rw [State.relocateBlock]
  split
  · rfl
  · split
    · rfl
    · split
      · simp
      · split
        · rfl
        · next halloc => simp [State.epochs_allocT1 halloc]

@[simp] theorem State.epochs_relocateTail (q : Seq) (e : Entry) (x : TailSlot) :
    (s.relocateTail q e x).epochs = s.epochs := by
  rw [State.relocateTail]
  split
  · rfl
  · split
    · simp
    · split
      · rfl
      · next halloc => simp [State.epochs_allocT1 halloc]

@[simp] theorem State.epochs_relocateMeta (q : Seq) (frame : Nat) : (s.relocateMeta q frame).epochs = s.epochs := by
  rw [State.relocateMeta]
  split
  · rfl
  · extract_lets here base run badL1 s1 s2 s3 tables s4 s5 s6 s7 s8
    have h1 : s1.epochs = s.epochs :=
      foldl_keeps (fun _ _ => State.epochs_losePages ..) ..
    have h2 : s2.epochs = s1.epochs := State.epochs_moveTable ..
    have h3 : s3.epochs = s2.epochs := foldl_keeps (fun t p => by
      split
      · rfl
      · split
        · exact State.epochs_losePages ..
        · exact State.epochs_moveMeta ..) ..
    have h4 : s4.epochs = s3.epochs := by
      dsimp only [s4]
      split
      · exact State.epochs_loseSeq ..
      · rfl
    have h7 : s7.epochs = s4.epochs :=
      (State.epochs_moveTable ..).trans ((State.epochs_moveTable ..).trans (State.epochs_moveTable ..))
    have h8 : s8.epochs = s7.epochs := by
      dsimp only [s8]
      split <;> rfl
    have hlast := h8.trans (h7.trans (h4.trans (h3.trans (h2.trans h1))))
    split
    · exact (State.epochs_resealL1 ..).trans hlast
    · exact hlast

@[simp] theorem State.epochs_relocateFrame (frame : Nat) : (s.relocateFrame frame).epochs = s.epochs := by
  rw [State.relocateFrame]
  refine (foldl_keeps (fun _ _ => State.epochs_relocateMeta ..) ..).trans ?_
  refine (foldl_keeps (fun t q =>
    foldl_keeps (fun t e => ?_) ..) ..).trans ?_
  · split
    · split
      · exact State.epochs_relocateTail ..
      · rfl
    · rfl
  · exact foldl_keeps (fun _ _ => State.epochs_relocateBlock ..) ..

@[simp] theorem State.epochs_retireFrame (frame : Nat) : (s.retireFrame frame).epochs = s.epochs :=
  (State.epochs_of_same (State.recordFrame_same ..) rfl).trans
    ((State.epochs_relocateFrame ..).trans (State.epochs_of_same (State.stopFrame_same ..) rfl))

@[simp] theorem State.epochs_markLost (d layer head block : Nat) : (s.markLost d layer head block).epochs = s.epochs := by
  rw [State.markLost]
  split
  · rfl
  · split
    · rfl
    · next e _ =>
      extract_lets place s1 s2 s3 s4
      have h1 : s1.epochs = s.epochs := by
        dsimp only [s1]
        split <;> rfl
      have h2 : s2.epochs = s1.epochs := by
        dsimp only [s2]
        split
        · exact State.epochs_reseal ..
        · exact State.epochs_resealNamers ..
      have h3 : s3.epochs = s2.epochs := State.epochs_note ..
      have h4 : s4.epochs = s3.epochs := by
        dsimp only [s4]
        split
        · rfl
        · exact State.epochs_retireFrame ..
      exact (State.epochs_restoreReq ..).trans (h4.trans (h3.trans (h2.trans h1)))

@[simp] theorem State.epochs_verify (d : Nat) (at_ : List (Nat × Nat × Nat)) : (s.verify d at_).epochs = s.epochs :=
  foldl_keeps (fun t x => by
    split
    · rfl
    · split
      · rfl
      · split
        · rfl
        · exact State.epochs_markLost ..) ..

/-! ### What a new map brings about (R302, R309, R313, R314) -/

@[simp] theorem State.epochs_startResync (partner : Nat) (q : Seq) : (s.startResync partner q).epochs = s.epochs := by
  rw [State.startResync]
  split
  · rfl
  · dsimp only
    split
    · exact (State.epochs_ensureStream ..).trans (State.epochs_verify ..)
    · rw [State.epochs_queueCommit, State.epochs_modStream, State.epochs_ensureStream, State.epochs_verify]

@[simp] theorem State.epochs_dropStopped (w : Window) : (s.dropStopped w).epochs = s.epochs :=
  show (s.freeParts w.index).epochs = s.epochs from State.epochs_of_same (State.freeParts_same ..) rfl

theorem State.epochs_adoptRole (old : Option Nat) (d : Nat) : (s.adoptRole old d).epochs = s.epochs := by
  rw [State.adoptRole]
  split
  · rfl
  · split
    · rfl
    · rfl
    · next partner _ =>
      extract_lets was dropped s1 gone s2
      have h1 : s1.epochs = s.epochs := by
        dsimp only [s1]
        split
        · exact foldl_keeps (fun _ _ => State.epochs_dropStopped ..) ..
        · rfl
      split
      · exact h1
      · split
        · exact (State.epochs_startResync ..).trans ((State.epochs_regain ..).trans h1)
        · exact h1

theorem State.epochs_installWindow {i srcNode srcPaddock localPaddock rights length : Nat} {landing : Bool} {key : Bytes}
    {use : WindowUse} {s t : State}
    (h : s.installWindow srcNode srcPaddock localPaddock rights landing length key use = some (i, t)) :
    t.epochs = s.epochs := by
  rw [State.installWindow] at h
  split at h
  · cases h
  · split at h
    · cases h
    · next u hfree =>
      obtain ⟨p, hplace, hp⟩ := Option.map_eq_some_iff.mp h
      cases hp
      have hu : u = s.freeWindow.2 := by rw [hfree]
      have hopen := State.epochs_of_same ((State.windowPlace_same u localPaddock length landing).of _ hplace) rfl
      rw [State.openWindow, State.epochs_ledgerInsert]
      refine hopen.trans ?_
      rw [hu]
      exact State.epochs_of_same (State.freeWindow_same s) rfl

theorem State.epochs_pairWindows : s.pairWindows.epochs = s.epochs :=
  foldl_keeps (fun t x => by
    extract_lets sealed p r
    have hopened : ∀ u, r = some u → u.2.epochs = t.epochs := fun u hu => by
      dsimp only [r] at hu
      split at hu
      · exact State.epochs_installWindow hu
      · exact State.epochs_installWindow hu
    split
    · rfl
    · clear_value r
      cases r with
      | none => rfl
      | some u => exact hopened u rfl) ..

@[simp] theorem State.epochs_dropPrefixes (d k : Nat) : (s.dropPrefixes d k).epochs = s.epochs := by
  rw [State.dropPrefixes]
  split <;> rfl

@[simp] theorem State.epochs_startRelease (d : Nat) : (s.startRelease d).epochs = s.epochs := by
  rw [State.startRelease]
  split
  · rfl
  · rw [State.epochs_modSeq, State.epochs_ledgerRemove, State.epochs_regain, State.epochs_dropPrefixes]

@[simp] theorem State.epochs_release (d : Nat) : (s.release d).epochs = s.epochs := by
  have hstart := s.epochs_startRelease d
  rw [State.release]
  split
  · exact hstart
  · split
    · exact (State.epochs_of_same (State.finishRelease_same ..) rfl).trans hstart
    · exact hstart

theorem State.epochs_releaseUnmapped : s.releaseUnmapped.epochs = s.epochs :=
  foldl_keeps (fun t q => by
    split
    · rfl
    · exact State.epochs_release ..) ..

end

end Sys2Proof.Machine
end

section
/-! O12. Epochs are staged and published (R243, R244), drained and cleared (R245). -/

namespace Sys2Proof.Machine

/-! ### Roles -/

theorem Epochs.lt_of_slotOf {e : Epochs} {r : SlotRole} {k : Nat} (h : e.slotOf r = some k) : k < e.roles.length :=
  (List.findIdx?_eq_some_iff_getElem.mp h).1

theorem Epochs.length_setRole (e : Epochs) (k : Nat) (r : SlotRole) : (e.setRole k r).roles.length = e.roles.length :=
  length_updateAt ..

theorem Epochs.getD_setRole {e : Epochs} {k : Nat} (h : k < e.roles.length) (r : SlotRole) :
    (e.setRole k r).roles.getD k .idle = r :=
  getD_updateAt_self _ h

/-! ### EPOCH_STAGE and EPOCH_PUBLISH -/

section
variable {s : State} {n psn : Nat} {q : Qp} {w : Window} {f : FinalWrite}

/-- The node once EPOCH_STAGE has discarded what was staged: the publication area of the epoch is being read (R243). -/
def State.startStaging (s : State) (epoch : Nat) : State :=
  (match s.maps.epochs.slotOf .staging with | none => s | some k => s.dropSlot k).modEpochs fun e =>
    { e with staged := 0, heldPublish := none, staging := some (epoch, 128, []) }

theorem State.epochs_startStaging (s : State) (epoch : Nat) : (s.startStaging epoch).epochs =
    { s.epochs with staged := 0, heldPublish := none, staging := some (epoch, 128, []) } := by
  rw [State.startStaging]
  split <;> rfl

theorem State.store_startStaging (s : State) (epoch : Nat) : (s.startStaging epoch).store = s.store := by
  rw [State.startStaging]
  split <;> rfl

theorem exec_epochStage (h : ControlReady s n psn 3 q w f) (huse : w.use = .fabricManager) :
    exec (.epochStage n psn) s =
      if s.maps.epochs.staging.isSome then .next s
      else .next (((s.startStaging (be (f.body.drop 16) 4 4)).controlDone n w (f.body.drop 16) 0).askFm 0 1 2) := by
  change execEpochStage n psn s = _
  rw [execEpochStage, h.controlRecord_eq]
  dsimp only
  rw [if_neg (by simp [huse])]
  rfl

theorem epochStage_stages (h : ControlReady s n psn 3 q w f) (huse : w.use = .fabricManager) :
    (s.maps.epochs.staging ≠ none → exec (.epochStage n psn) s = .next s) ∧
    (s.maps.epochs.staging = none → Answers (exec (.epochStage n psn) s) fun t =>
      t.maps.epochs.staged = 0 ∧ t.maps.epochs.staging = some (be (f.body.drop 16) 4 4, 128, []) ∧
      t.maps.epochs.current = s.maps.epochs.current ∧ t.store = s.store) := by
  rw [exec_epochStage h huse]
  refine ⟨fun hbusy => if_pos (Option.isSome_iff_ne_none.mpr hbusy), fun hidle => ?_⟩
  rw [hidle]
  have hask := ((s.startStaging (be (f.body.drop 16) 4 4)).controlDone n w (f.body.drop 16) 0).askFm_same 0 1 2
  have hepochs := (State.epochs_of_same hask rfl).trans (s.epochs_startStaging (be (f.body.drop 16) 4 4))
  refine answers_next ⟨congrArg Epochs.staged hepochs, congrArg Epochs.staging hepochs, (congrArg Epochs.current hepochs :), ?_⟩
  exact (hask.store.eq rfl :).trans (s.store_startStaging (be (f.body.drop 16) 4 4))

/-- The epochs once the staged epoch of a slot is published (R244). -/
def Epochs.published (e : Epochs) (k time drain : Nat) : Epochs :=
  let e := match e.slotOf .current with | none => e | some c => e.setRole c .previous
  let e := e.setRole k .current
  { e with previous := e.current, current := e.staged, staged := 0, heldPublish := none, drainEnd := some (time + drain),
           firstPublish := match e.firstPublish with | none => some time | some x => some x }

theorem Epochs.published_spec {e : Epochs} {k : Nat} (hk : k < e.roles.length) (time drain : Nat) :
    (e.published k time drain).current = e.staged ∧ (e.published k time drain).previous = e.current ∧
    (e.published k time drain).staged = 0 ∧ (e.published k time drain).roles.getD k .idle = .current ∧
    (e.published k time drain).drainEnd = some (time + drain) ∧ (e.published k time drain).heldPublish = none := by
  rw [Epochs.published]
  cases e.slotOf .current with
  | none => exact ⟨rfl, rfl, rfl, Epochs.getD_setRole hk _, rfl, rfl⟩
  | some c => exact ⟨rfl, rfl, rfl, Epochs.getD_setRole (by rw [Epochs.length_setRole]; exact hk) _, rfl, rfl⟩

theorem State.epochs_publish {k : Nat} (hk : s.maps.epochs.slotOf .staging = some k) :
    s.publish.epochs = s.epochs.published k s.time s.img.service.drainTime := by
  rw [State.publish]
  split
  · next hnone => rw [hk] at hnone; cases hnone
  next j hj =>
  obtain rfl : k = j := Option.some.inj (hk.symm.trans hj)
  extract_lets old t1 t2 t3
  have h2 : t2.epochs = t1.epochs := foldl_keeps (fun u d => u.epochs_adoptRole old d) ..
  have h3 : t3.epochs = t2.epochs :=
    (State.epochs_of_same (State.takeIds_same ..) rfl).trans ((State.epochs_pairWindows _).trans (State.epochs_settleLost _))
  split
  · exact (State.epochs_of_same (State.setStage_same ..) rfl).trans (h3.trans h2)
  · exact h3.trans h2

theorem exec_epochPublish (h : ControlReady s n psn 4 q w f) (huse : w.use = .fabricManager)
    (hstaged : be (f.body.drop 16) 4 4 = s.maps.epochs.staged) (hzero : s.maps.epochs.staged ≠ 0) :
    exec (.epochPublish n psn) s = s.finish (if s.publishOrHold.maps.epochs.heldPublish.isSome then s.publishOrHold
      else s.publishOrHold.controlDone n w (f.body.drop 16) 0) := by
  change execEpochPublish n psn s = _
  rw [execEpochPublish, h.controlRecord_eq]
  simp [huse, hstaged, hzero]

theorem epochPublish_publishes {k : Nat} (h : ControlReady s n psn 4 q w f) (huse : w.use = .fabricManager)
    (hstaged : be (f.body.drop 16) 4 4 = s.maps.epochs.staged) (hzero : s.maps.epochs.staged ≠ 0)
    (hk : s.maps.epochs.slotOf .staging = some k) :
    Answers (exec (.epochPublish n psn) s) fun t =>
      (s.maps.epochs.slotOf .previous = none →
        t.maps.epochs.current = s.maps.epochs.staged ∧ t.maps.epochs.previous = s.maps.epochs.current ∧
        t.maps.epochs.staged = 0 ∧ t.maps.epochs.roles.getD k .idle = .current ∧
        t.maps.epochs.drainEnd = some (s.time + s.img.service.drainTime)) ∧
      (s.maps.epochs.slotOf .previous ≠ none →
        t.maps.epochs = { s.maps.epochs with heldPublish := some s.maps.epochs.staged }) := by
  rw [exec_epochPublish h huse hstaged hzero]
  cases hprev : s.maps.epochs.slotOf .previous with
  | some p =>
    have hheld : s.publishOrHold = s.modEpochs fun e => { e with heldPublish := some e.staged } := by
      rw [State.publishOrHold, hprev]
      rfl
    rw [hheld]
    exact answers_finish_fault fun _ => ⟨(nomatch ·), fun _ => rfl⟩
  | none =>
    have hnow : s.publishOrHold = s.publish := by
      rw [State.publishOrHold, hprev]
      rfl
    obtain ⟨hcurrent, hprevious, hst, hrole, hdrain, hheld⟩ :=
      Epochs.published_spec (Epochs.lt_of_slotOf hk) s.time s.img.service.drainTime
    have hepochs : s.publish.maps.epochs = s.maps.epochs.published k s.time s.img.service.drainTime := State.epochs_publish hk
    rw [hnow, hepochs, hheld]
    refine answers_finish_fault fun _ => ⟨fun _ => ?_, fun hne => absurd rfl hne⟩
    change s.publish.maps.epochs.current = _ ∧ s.publish.maps.epochs.previous = _ ∧ s.publish.maps.epochs.staged = _ ∧
      s.publish.maps.epochs.roles.getD k .idle = _ ∧ s.publish.maps.epochs.drainEnd = _
    rw [hepochs]
    exact ⟨hcurrent, hprevious, hst, hrole, hdrain⟩

/-! ### DRAIN_END and CLEARING_DONE -/

theorem drainEnd_clearsThePreviousSlot {ends k : Nat} (hend : s.maps.epochs.drainEnd = some ends)
    (hclear : s.maps.epochs.slotOf .clearing = none) (hprev : s.maps.epochs.slotOf .previous = some k)
    (hheld : s.maps.epochs.heldPublish = none) :
    Answers (exec .drainEnd s) fun t =>
      t.time = max s.time ends ∧ t.maps.epochs = { s.maps.epochs.setRole k .clearing with
        drainEnd := none, drainWaits := false, previous := 0 } := by
  have hdrained : ((s.advanceTo ends).modEpochs fun e => { e.setRole k .clearing with
      drainEnd := none, drainWaits := false, previous := 0 }).releaseUnmapped.maps.epochs =
      { s.maps.epochs.setRole k .clearing with drainEnd := none, drainWaits := false, previous := 0 } :=
    State.epochs_releaseUnmapped _
  have hexec : exec .drainEnd s = s.finish ((s.advanceTo ends).modEpochs fun e => { e.setRole k .clearing with
      drainEnd := none, drainWaits := false, previous := 0 }).releaseUnmapped := by
    have hprev' : (s.advanceTo ends).maps.epochs.slotOf .previous = some k := hprev
    have hheld' : (s.maps.epochs.setRole k .clearing).heldPublish = none := hheld
    change execDrainEnd s = _
    rw [execDrainEnd, hend]
    dsimp only
    rw [hclear, State.endDrain, hprev']
    dsimp only
    rw [hdrained]
    dsimp only
    rw [hheld']
    rfl
  rw [hexec]
  refine answers_finish_fault fun _ => ⟨?_, hdrained⟩
  exact (State.releaseUnmapped_same _).time.eq rfl

theorem clearingDone_emptiesTheSlot {k : Nat} (hclear : s.maps.epochs.slotOf .clearing = some k)
    (hwaits : s.maps.epochs.drainWaits = false) :
    Answers (exec .clearingDone s) fun t =>
      t.maps.epochs = s.maps.epochs.setRole k .idle ∧ (∀ e ∈ t.maps.ledger, k ∉ e.members) ∧
      (∀ e ∈ s.maps.ledger, k ∉ e.members → (keyKind e.key = 0 → e.members ≠ []) → e ∈ t.maps.ledger) ∧
      t.store = s.store ∧ t.mem = s.mem := by
  have hexec : exec .clearingDone s = .next ((s.dropSlot k).modEpochs fun e => e.setRole k .idle) := by
    change execClearingDone s = _
    rw [execClearingDone, hclear]
    dsimp only
    rw [hwaits]
    rfl
  rw [hexec]
  refine answers_next ⟨rfl, fun e he => ?_, fun e he hout hkept => ?_, rfl, rfl⟩
  · obtain ⟨x, -, rfl⟩ := List.mem_map.mp (List.mem_filter.mp he).1
    simp
  · have hself : e.members.filter (· != k) = e.members := by
      rw [List.filter_eq_self]
      exact fun x hx => bne_iff_ne.mpr fun h => hout (h ▸ hx)
    refine List.mem_filter.mpr ⟨List.mem_map.mpr ⟨e, he, by rw [hself]⟩, ?_⟩
    simpa [imp_iff_not_or] using hkept

end

/-- Settles O12: a publish changes the roles first, and nothing of what the new map brings about changes the epochs again; so
does the end of a drain, whose releases leave them as they are. -/
theorem epochsPublishAndDrain : Obligations.EpochsPublishAndDrain := by
  unfold Obligations.EpochsPublishAndDrain
  exact ⟨⟨fun _ _ _ _ _ _ h huse => epochStage_stages h huse,
      fun _ _ _ _ _ _ _ h huse hstaged hzero hk _ => epochPublish_publishes h huse hstaged hzero hk⟩,
    ⟨fun _ _ _ => drainEnd_clearsThePreviousSlot, fun _ _ => clearingDone_emptiesTheSlot⟩⟩

end Sys2Proof.Machine
end

section
/-! O33. Windows and paddocks are freed last (R226, R299), and occupancy is charged every tick (R296). -/

namespace Sys2Proof.Machine

/-! ### Paddock records -/

section
variable {s t : State} {p o : Nat} {f : Pad → Pad}

theorem State.pad_of_pads (h : t.pads = s.pads) (p : Nat) : t.pad p = s.pad p := by rw [State.pad, h, State.pad]

theorem State.pad_putPad_of_ne {x : Pad} (h : o ≠ x.id) : (s.putPad x).pad o = s.pad o := by
  have hx : (x.id == o) = false := beq_eq_false_iff_ne.mpr h.symm
  rw [State.pad, State.putPad]
  dsimp only
  split
  · rw [find?_updateFirst_of_disjoint fun y hy => ?_, State.pad]
    have hid : y.id = x.id := by simpa using hy
    exact ⟨hid ▸ hx, hx⟩
  · rw [List.find?_append, List.find?_singleton, hx, State.pad]
    simp

theorem State.pad_modPad_of_ne (hf : (f (s.pad p)).id = p) (h : o ≠ p) : (s.modPad p f).pad o = s.pad o :=
  State.pad_putPad_of_ne (by rw [hf]; exact h)

theorem State.pad_of_mem (hnodup : (s.pads.map (·.id)).Nodup) {x : Pad} (hx : x ∈ s.pads) : s.pad x.id = x := by
  rw [State.pad]
  cases hfind : s.pads.find? (·.id == x.id) with
  | none => exact absurd (List.find?_eq_none.mp hfind x hx) (by simp)
  | some y =>
    have hid : y.id = x.id := by simpa using List.find?_some hfind
    exact List.inj_on_of_nodup_map hnodup (List.mem_of_find?_eq_some hfind) hx hid

/-- What changes the record of one paddock at a time, for some paddocks in turn. -/
theorem State.pad_foldl {f : State → Nat → State} {g : Nat → Pad → Pad} (hself : ∀ u p, (f u p).pad p = g p (u.pad p))
    (hother : ∀ u p o, o ≠ p → (f u p).pad o = u.pad o) {ps : List Nat} (hnodup : ps.Nodup) (s : State) (o : Nat) :
    (ps.foldl f s).pad o = if o ∈ ps then g o (s.pad o) else s.pad o := by
  induction ps generalizing s with
  | nil => simp
  | cons p ps ih =>
    obtain ⟨hp, hps⟩ := List.nodup_cons.mp hnodup
    rw [List.foldl_cons, ih hps]
    by_cases h : o = p
    · subst h
      rw [if_neg hp, if_pos List.mem_cons_self, hself]
    · rw [hother _ _ _ h]
      simp [h]

end

/-! ### Occupancy (R296) -/

section
variable {s : State}

/-- A paddock's record with an amount added to a counter (R296). -/
def Pad.charged (counter amount : Nat) (x : Pad) : Pad :=
  { x with counters := updateAt counter (fun c => (c + amount) % 2 ^ 64) x.counters }

theorem State.pad_tally (s : State) (p counter amount : Nat) : (s.tally p counter amount).pad p = (s.pad p).charged counter amount :=
  State.pad_modPad (f := Pad.charged counter amount) (s.pad_id p)

theorem State.pad_tally_of_ne (s : State) {p o : Nat} (h : o ≠ p) (counter amount : Nat) : (s.tally p counter amount).pad o = s.pad o :=
  State.pad_modPad_of_ne (f := Pad.charged counter amount) (s.pad_id p) h

/-- A paddock's record once a tick has charged its use of both tiers in whole KiB (R296). -/
def State.occupied (s : State) (p : Nat) (x : Pad) : Pad := (x.charged 2 (s.t1Use p / 1024)).charged 3 (s.t2Use p / 1024)

/-- The node with the use of one paddock charged (R296). -/
def State.chargeUse (s u : State) (p : Nat) : State := (u.tally p 2 (s.t1Use p / 1024)).tally p 3 (s.t2Use p / 1024)

theorem State.pad_chargeUse (s u : State) (p : Nat) : (s.chargeUse u p).pad p = s.occupied p (u.pad p) := by
  rw [State.chargeUse, State.pad_tally, State.pad_tally, State.occupied]

theorem State.pad_chargeUse_of_ne (s u : State) (p o : Nat) (h : o ≠ p) : (s.chargeUse u p).pad o = u.pad o := by
  rw [State.chargeUse, State.pad_tally_of_ne _ h, State.pad_tally_of_ne _ h]

/-- The paddocks that are not FREE. -/
def State.usedPads (s : State) : List Nat := (s.pads.filter fun p => decide (p.state ≠ .free)).map (·.id)

theorem State.nodup_usedPads (h : (s.pads.map (·.id)).Nodup) : s.usedPads.Nodup := h.sublist (List.filter_sublist.map _)

theorem State.mem_usedPads (h : (s.pads.map (·.id)).Nodup) {x : Pad} (hx : x ∈ s.pads) : x.id ∈ s.usedPads ↔ x.state ≠ .free := by
  refine ⟨fun hmem => ?_, fun hstate => List.mem_map.mpr ⟨x, List.mem_filter.mpr ⟨hx, decide_eq_true hstate⟩, rfl⟩⟩
  obtain ⟨y, hy, hid⟩ := List.mem_map.mp hmem
  obtain ⟨hy, hstate⟩ := List.mem_filter.mp hy
  obtain rfl := List.inj_on_of_nodup_map h hy hx hid
  exact of_decide_eq_true hstate

theorem occupancyIsChargedEveryTick : Claims.OccupancyIsChargedEveryTick := by
  intro s hnodup
  have hexec : exec .tallyOccupancyTick s = .next (s.usedPads.foldl s.chargeUse s) := rfl
  have hpad := State.pad_foldl s.pad_chargeUse s.pad_chargeUse_of_ne (State.nodup_usedPads hnodup) s
  have hsame := execTallyOccupancyTick_same s
  rw [hexec]
  refine answers_next ⟨fun x hx hstate hlen => ?_, fun x hx hfree => ?_, ?_, ?_⟩
  · rw [hpad, if_pos ((State.mem_usedPads hnodup hx).mpr hstate), State.pad_of_mem hnodup hx]
    dsimp only [State.occupied, Pad.charged]
    refine ⟨?_, ?_, fun i h2 h3 => ?_⟩
    · rw [getD_updateAt_of_ne (by decide), getD_updateAt_self _ (by omega)]
    · rw [getD_updateAt_self _ (by rw [length_updateAt]; omega), getD_updateAt_of_ne (by decide)]
    · rw [getD_updateAt_of_ne h3, getD_updateAt_of_ne h2]
  · rw [hpad, if_neg fun hmem => (State.mem_usedPads hnodup hx).mp hmem hfree, State.pad_of_mem hnodup hx]
  · exact foldl_keeps (f := s.chargeUse) (g := State.store) (fun _ _ => rfl) ..
  · exact foldl_keeps (f := s.chargeUse) (g := State.mem) (fun _ _ => rfl) ..

end

/-! ### A closing window (R226) -/

section
variable {s : State} {n : Nat} {w : Window}

/-- Connections of a window. -/
def State.windowConns (s : State) (w : Window) : List Nat := (s.net.qps.filter fun q => q.window == some (w.index, w.gen)).map (·.qpn)

theorem State.mem_windowConns {i : Nat} : i ∈ s.windowConns w ↔ ∃ q ∈ s.net.qps, q.qpn = i ∧ q.window = some (w.index, w.gen) := by
  simp only [State.windowConns, List.mem_map, List.mem_filter, beq_iff_eq]
  exact exists_congr fun q => by rw [and_assoc, and_comm (a := q.window = _)]

theorem exec_windowFree (hw : s.window n = some w) (hclosing : w.state = .closing) : exec (.windowFree n) s =
    if s.net.inbox.any fun m => (s.windowConns w).contains m.qpn then .next s
    else .next ((s.modWindow n fun x => { x with state := .free, key := [], takeover := none, parts := [] }).dropRegions w) := by
  change execWindowFree n s = _
  rw [execWindowFree, hw]
  dsimp only
  rw [hclosing]
  rfl

theorem closingWindow_isFreedLast (hw : s.window n = some w) (hclosing : w.state = .closing) :
    ((∃ m ∈ s.net.inbox, ∃ q ∈ s.net.qps, q.qpn = m.qpn ∧ q.window = some (w.index, w.gen)) → exec (.windowFree n) s = .next s) ∧
    ((∀ m ∈ s.net.inbox, ∀ q ∈ s.net.qps, q.qpn = m.qpn → q.window ≠ some (w.index, w.gen)) →
      Answers (exec (.windowFree n) s) fun t =>
        t.window n = some { w with state := .free, key := [], takeover := none, parts := [] } ∧ t.store = s.store ∧
        t.net = s.net) := by
  rw [exec_windowFree hw hclosing]
  refine ⟨fun ⟨m, hm, hq⟩ => if_pos ?_, fun hnone => ?_⟩
  · exact List.any_eq_true.mpr ⟨m, hm, List.contains_iff_mem.mpr (State.mem_windowConns.mpr hq)⟩
  · rw [if_neg fun hany => ?_]
    · exact answers_next ⟨State.window_modWindow hw (State.window_index hw :), rfl, rfl⟩
    · obtain ⟨m, hm, hmine⟩ := List.any_eq_true.mp hany
      obtain ⟨q, hq, hqpn, hwindow⟩ := State.mem_windowConns.mp (List.contains_iff_mem.mp hmine)
      exact hnone m hm q hq hqpn hwindow

end

/-! ### A paddock's windows and stored bytes (R299 steps 4 and 5) -/

section
variable {s : State} {p : Nat}

/-- A window of the paddock that is torn down is free and keeps no key (R299). -/
def Window.vacated (p : Nat) (w : Window) : Window :=
  if w.localPaddock == p then { w with state := .free, key := [], takeover := none } else w

theorem State.windows_clearWindows (s : State) (p : Nat) : (s.clearWindows p).maps.windows = s.maps.windows.map (Window.vacated p) :=
  congrArg (List.map (Window.vacated p)) (foldl_keeps (f := State.dropRegions) (g := fun t : State => t.maps.windows) (fun _ _ => rfl) ..)

theorem State.vacated_clearWindows {w : Window} (hw : w ∈ (s.clearWindows p).maps.windows) (hp : w.localPaddock = p) :
    w.state = .free ∧ w.key = [] := by
  rw [State.windows_clearWindows] at hw
  obtain ⟨x, -, rfl⟩ := List.mem_map.mp hw
  by_cases h : x.localPaddock = p
  · rw [Window.vacated, if_pos (beq_iff_eq.mpr h)]
    exact ⟨rfl, rfl⟩
  · rw [Window.vacated, if_neg (by simpa using h)] at hp
    exact absurd hp h

theorem State.read_clearWindows (hwf : Memory.wf s.mem = true) {w : Window} (hw : w ∈ s.maps.windows) (hp : w.localPaddock = p)
    (hstate : w.state ≠ .free) {k : Nat} (hk : k < w.length) : Memory.read (s.clearWindows p).mem (w.base + k) = 0 := by
  have hmine : ∀ t : State, t.mem = s.mem → Memory.read (t.mem.filter fun c => !((s.maps.windows.filter fun w =>
      w.localPaddock == p && decide (w.state ≠ .free)).any fun w => w.base ≤ c.1 && c.1 < w.base + w.length)) (w.base + k) = 0 := by
    intro t ht
    rw [ht, Memory.read_filter hwf fun a => !((s.maps.windows.filter fun w =>
      w.localPaddock == p && decide (w.state ≠ .free)).any fun w => w.base ≤ a && a < w.base + w.length)]
    refine if_neg ?_
    rw [Bool.not_eq_true, Bool.not_eq_false', List.any_eq_true]
    refine ⟨w, List.mem_filter.mpr ⟨hw, by simp [hp, hstate]⟩, by simp [hk]⟩
  exact hmine _ (foldl_keeps (f := State.dropRegions) (g := State.mem) (fun _ _ => rfl) ..)

theorem State.windows_purgePad (s : State) (p : Nat) : (s.purgePad p).maps.windows = s.maps.windows := by
  have hrest (t : State) : ((t.untag p).freshSched p).maps.windows = t.maps.windows :=
    (congrArg Maps.windows ((State.freshSched_same (t.untag p) p).maps.eq rfl) :)
  refine (hrest _).trans ?_
  exact foldl_keeps (f := fun t (x : Nat × Nat) => t.metaWritten x.1 x.2) (g := fun t : State => t.maps.windows)
    (fun _ _ => rfl) ..

theorem State.purged_purgePad (s : State) (p : Nat) : (∀ q ∈ (s.purgePad p).store.seqs, q.paddock ≠ p) ∧
    (∀ b ∈ (s.purgePad p).store.blocks, b.paddock ≠ p) ∧ (∀ w ∈ (s.purgePad p).store.weights, w.paddock ≠ p) :=
  ⟨fun _ hq => bne_iff_ne.mp (List.mem_filter.mp hq).2, fun _ hb => bne_iff_ne.mp (List.mem_filter.mp hb).2,
    fun _ hw => bne_iff_ne.mp (List.mem_filter.mp hw).2⟩

/-! ### TEARDOWN_COMPLETE -/

/-- Connections of a paddock that still work. -/
def State.padConns (s : State) (p : Nat) : List Nat := (s.net.qps.filter fun q => q.paddock == p && q.works).map (·.qpn)

/-- The node once a paddock's connections are in ERROR. -/
def State.padDisconnected (s : State) (p : Nat) : State := (s.padConns p).foldl (fun u q => u.failConn q) s

theorem State.padDisconnected_same (s : State) (p : Nat) :
    Same { rng := true, net := true, maps := true, eng := true, sch := true, pwr := true } s (s.padDisconnected p) :=
  Same.foldl (Same.refl ..) fun u q => State.failConn_same u q

/-- The node once a paddock's connections are in ERROR, and its windows and stored bytes are gone (R299 step 4). -/
def State.padEmptied (s : State) (p : Nat) : State := (((s.padDisconnected p).clearWindows p).purgePad p).stir

/-- A paddock's record at the end of its teardown: FREE with a final Tally record (R299 step 5, R300). -/
def Pad.tornDown (r : TallyRec) (x : Pad) : Pad :=
  { x with
    state := .free, final := some r, counters := List.replicate 10 0, config := PadConfig.none_
    audit := false, writeCounter := 0, queued := none, sealedTeardown := false, zeroing := false }

/-- A paddock's record when a create takes effect (R277, R299). -/
def Pad.broughtUp (c : PadConfig) (ktp : Bytes) (x : Pad) : Pad :=
  { x with
    state := if c.requireSeal then .awaitSeal else .open_
    generation := (x.generation + 1) % 2 ^ 32, config := c, ktp := if c.requireSeal then [] else ktp, kmem := []
    writeCounter := 0, audit := false, counters := List.replicate 10 0, queued := none, sealedTeardown := false, zeroing := false }

/-- The final Tally record of a paddock (R299). -/
def State.finalRec (s : State) (p : Nat) : TallyRec := ⟨s.time, (s.pad p).generation, (s.pad p).counters⟩

/-- The node with a paddock FREE at the end of its teardown (R299 step 5, R300, R364). -/
def State.padFreed (s : State) (p : Nat) : State :=
  ((s.padEmptied p).modPad p (Pad.tornDown
    ⟨(s.padEmptied p).time, (s.pad p).generation, ((s.padEmptied p).pad p).counters⟩)).functionDone 0 0 p (s.pad p).generation 0

/-- The node with a queued create of a paddock in effect after its teardown (R299, R364). -/
def State.padReborn (s : State) (p : Nat) (c : PadConfig) (ktp : Bytes) : State :=
  ((s.padFreed p).modPad p (Pad.broughtUp c ktp)).functionDone 0 0 p
    (((s.padFreed p).modPad p (Pad.broughtUp c ktp)).pad p).generation 1

theorem State.padEmptied_same (s : State) (p : Nat) :
    Same { rng := true, net := true, maps := true, eng := true, sch := true, pwr := true, store := true, mem := true } s
      (s.padEmptied p) := by
  rw [State.padEmptied]
  refine ((s.padDisconnected_same p).mono rfl).trans (((State.clearWindows_same _ p).mono rfl).trans ?_)
  exact ((State.purgePad_same _ p).mono rfl).trans ((State.stir_same ..).mono rfl)

theorem State.pad_padEmptied (s : State) (p o : Nat) : (s.padEmptied p).pad o = s.pad o := State.pad_of_pads ((s.padEmptied_same p).pads.eq rfl) o

theorem State.pad_padFreed (s : State) (p : Nat) : (s.padFreed p).pad p = (s.pad p).tornDown (s.finalRec p) := by
  rw [State.padFreed, State.pad_of_pads ((State.functionDone_same ..).pads.eq rfl), State.pad_modPad (State.pad_id _ p),
    State.pad_padEmptied, (s.padEmptied_same p).time.eq rfl, State.finalRec]

theorem State.pad_padFreed_of_ne (s : State) {p o : Nat} (h : o ≠ p) : (s.padFreed p).pad o = s.pad o := by
  rw [State.padFreed, State.pad_of_pads ((State.functionDone_same ..).pads.eq rfl),
    State.pad_modPad_of_ne (State.pad_id _ p) h, State.pad_padEmptied]

theorem State.pad_padReborn (s : State) (p : Nat) (c : PadConfig) (ktp : Bytes) :
    (s.padReborn p c ktp).pad p = ((s.pad p).tornDown (s.finalRec p)).broughtUp c ktp := by
  rw [State.padReborn, State.pad_of_pads ((State.functionDone_same ..).pads.eq rfl), State.pad_modPad (State.pad_id _ p),
    State.pad_padFreed]

theorem State.pad_padReborn_of_ne (s : State) {p o : Nat} (h : o ≠ p) (c : PadConfig) (ktp : Bytes) :
    (s.padReborn p c ktp).pad o = s.pad o := by
  rw [State.padReborn, State.pad_of_pads ((State.functionDone_same ..).pads.eq rfl),
    State.pad_modPad_of_ne (State.pad_id _ p) h, State.pad_padFreed_of_ne s h]

theorem State.padFreed_same (s : State) (p : Nat) :
    Same { out := true, regs := true, host := true, pads := true } (s.padEmptied p) (s.padFreed p) :=
  ((State.modPad_same ..).mono rfl).trans ((State.functionDone_same ..).mono rfl)

theorem State.padReborn_same (s : State) (p : Nat) (c : PadConfig) (ktp : Bytes) :
    Same { out := true, regs := true, host := true, pads := true } (s.padEmptied p) (s.padReborn p c ktp) :=
  (s.padFreed_same p).trans (((State.modPad_same ..).mono rfl).trans ((State.functionDone_same ..).mono rfl))

/-- The node at the end of a teardown. -/
def State.teardownEnd (s : State) (p : Nat) : State :=
  match (s.pad p).queued with
  | none => s.padFreed p
  | some (c, ktp) => s.padReborn p c ktp

theorem exec_teardownComplete (hstate : (s.pad p).state = .teardown) : exec (.teardownComplete p) s =
    if s.eng.ops.any (fun o => o.req.paddock == p) then .next s
    else if !(s.pad p).zeroing then .next s.zeroTeardowns
    else if s.zeroPending p then .next s
    else s.finish (s.teardownEnd p) := by
  change execTeardownComplete p s = _
  rw [execTeardownComplete]
  dsimp only
  rw [hstate, State.teardownEnd]
  cases (s.pad p).queued with
  | none => rfl
  | some x => rfl

/-! ### What a teardown leaves -/

theorem State.purged_padEmptied (s : State) (p : Nat) : (∀ q ∈ (s.padEmptied p).store.seqs, q.paddock ≠ p) ∧
    (∀ b ∈ (s.padEmptied p).store.blocks, b.paddock ≠ p) ∧ (∀ w ∈ (s.padEmptied p).store.weights, w.paddock ≠ p) :=
  State.purged_purgePad ((s.padDisconnected p).clearWindows p) p

theorem State.windows_padEmptied (s : State) (p : Nat) :
    (s.padEmptied p).maps.windows = ((s.padDisconnected p).clearWindows p).maps.windows :=
  State.windows_purgePad ((s.padDisconnected p).clearWindows p) p

theorem State.windows_padDisconnected (s : State) (p : Nat) : (s.padDisconnected p).maps.windows = s.maps.windows :=
  foldl_keeps (f := fun u q => State.failConn u q) (g := fun t : State => t.maps.windows) State.failConn_windows ..

theorem State.read_padEmptied (hwf : Memory.wf s.mem = true) {w : Window} (hw : w ∈ s.maps.windows) (hp : w.localPaddock = p)
    (hstate : w.state ≠ .free) {k : Nat} (hk : k < w.length) : Memory.read (s.padEmptied p).mem (w.base + k) = 0 := by
  have hmem : (s.padEmptied p).mem = ((s.padDisconnected p).clearWindows p).mem :=
    (State.purgePad_same ((s.padDisconnected p).clearWindows p) p).mem.eq rfl
  rw [hmem]
  refine State.read_clearWindows ?_ ?_ hp hstate hk
  · rw [(s.padDisconnected_same p).mem.eq rfl]
    exact hwf
  · rw [State.windows_padDisconnected]
    exact hw

theorem State.teardownEnd_same (s : State) (p : Nat) :
    Same { out := true, regs := true, host := true, pads := true } (s.padEmptied p) (s.teardownEnd p) := by
  rw [State.teardownEnd]
  split
  · exact s.padFreed_same p
  · exact s.padReborn_same p ..

theorem State.pad_teardownEnd_of_ne (s : State) {p o : Nat} (h : o ≠ p) : (s.teardownEnd p).pad o = s.pad o := by
  rw [State.teardownEnd]
  split
  · exact s.pad_padFreed_of_ne h
  · exact s.pad_padReborn_of_ne h ..

theorem State.final_teardownEnd (s : State) (p : Nat) :
    ((s.teardownEnd p).pad p).final = some (s.finalRec p) ∧ ((s.teardownEnd p).pad p).counters = List.replicate 10 0 := by
  rw [State.teardownEnd]
  split
  · rw [State.pad_padFreed]
    exact ⟨rfl, rfl⟩
  · rw [State.pad_padReborn]
    exact ⟨rfl, rfl⟩

theorem State.pad_teardownEnd_of_none (h : (s.pad p).queued = none) :
    ((s.teardownEnd p).pad p).state = .free ∧ ((s.teardownEnd p).pad p).generation = (s.pad p).generation := by
  rw [State.teardownEnd, h]
  dsimp only
  rw [State.pad_padFreed]
  exact ⟨rfl, rfl⟩

theorem State.pad_teardownEnd_of_some {c : PadConfig} {ktp : Bytes} (h : (s.pad p).queued = some (c, ktp)) :
    ((s.teardownEnd p).pad p).generation = ((s.pad p).generation + 1) % 2 ^ 32 ∧ ((s.teardownEnd p).pad p).config = c ∧
      ((s.teardownEnd p).pad p).state = if c.requireSeal then .awaitSeal else .open_ := by
  rw [State.teardownEnd, h]
  dsimp only
  rw [State.pad_padReborn]
  exact ⟨rfl, rfl, rfl⟩

theorem teardown_freesThePaddock (hwf : Memory.wf s.mem = true) : Answers (s.finish (s.teardownEnd p)) fun t =>
    (∀ q ∈ t.store.seqs, q.paddock ≠ p) ∧ (∀ b ∈ t.store.blocks, b.paddock ≠ p) ∧ (∀ w ∈ t.store.weights, w.paddock ≠ p) ∧
    (∀ w ∈ t.maps.windows, w.localPaddock = p → w.state = .free ∧ w.key = []) ∧
    (∀ w ∈ s.maps.windows, w.localPaddock = p → w.state ≠ .free → ∀ k < w.length, Memory.read t.mem (w.base + k) = 0) ∧
    (t.pad p).final = some ⟨s.time, (s.pad p).generation, (s.pad p).counters⟩ ∧
    (t.pad p).counters = List.replicate 10 0 ∧
    ((s.pad p).queued = none → (t.pad p).state = .free ∧ (t.pad p).generation = (s.pad p).generation) ∧
    (∀ c k, (s.pad p).queued = some (c, k) → (t.pad p).generation = ((s.pad p).generation + 1) % 2 ^ 32 ∧
      (t.pad p).config = c ∧ (t.pad p).state = if c.requireSeal then .awaitSeal else .open_) ∧
    (∀ o, o ≠ p → t.pad o = s.pad o) := by
  have hsame := s.teardownEnd_same p
  have hmaps := hsame.maps.eq rfl
  obtain ⟨hseqs, hblocks, hweights⟩ := s.purged_padEmptied p
  obtain ⟨hfinal, hcounters⟩ := s.final_teardownEnd p
  refine answers_finish_fault fun f => ⟨?_, ?_, ?_, fun w hw hp => ?_, fun w hw hp hstate k hk => ?_, hfinal, hcounters,
    State.pad_teardownEnd_of_none, fun c k => State.pad_teardownEnd_of_some, fun o => s.pad_teardownEnd_of_ne⟩
  · exact hsame.store.eq rfl ▸ hseqs
  · exact hsame.store.eq rfl ▸ hblocks
  · exact hsame.store.eq rfl ▸ hweights
  · have hw' : w ∈ (s.teardownEnd p).maps.windows := hw
    rw [hmaps, State.windows_padEmptied] at hw'
    exact State.vacated_clearWindows hw' hp
  · change Memory.read (s.teardownEnd p).mem _ = 0
    rw [hsame.mem.eq rfl]
    exact State.read_padEmptied hwf hw hp hstate hk

theorem windowsAndPaddocksAreFreedLast : Claims.WindowsAndPaddocksAreFreedLast := by
  refine ⟨fun n s w => closingWindow_isFreedLast, fun p s hstate _ hwf => ?_⟩
  rw [exec_teardownComplete hstate]
  have hbusy : (s.eng.ops.any fun o => o.req.paddock == p) = true ↔ ∃ o ∈ s.eng.ops, o.req.paddock = p := by simp
  have hidle : (∀ o ∈ s.eng.ops, o.req.paddock ≠ p) → (s.eng.ops.any fun o => o.req.paddock == p) = false := by simp
  refine ⟨fun hops => if_pos (hbusy.mpr hops), fun hops hzero => ?_, fun hops hzero hpending => ?_, fun hops hzero hpending => ?_⟩
  · rw [hidle hops, hzero]
    rfl
  · rw [hidle hops, hzero, hpending]
    rfl
  · rw [hidle hops, hzero, hpending]
    exact teardown_freesThePaddock hwf

end

/-- Settles O33: the closing window waits for the inbox, the teardown for the operations and the zero-fill; its end changes one
paddock's record, and what it removes, it removes by the paddock's number. -/
theorem windowsAndPaddocksAreFreed : Obligations.WindowsAndPaddocksAreFreed := by
  unfold Obligations.WindowsAndPaddocksAreFreed
  exact ⟨windowsAndPaddocksAreFreedLast, occupancyIsChargedEveryTick⟩

end Sys2Proof.Machine
end

section
/-! O40. WINDOW_REMOVE gives up what the window held of the store (R226, R427). -/

namespace Sys2Proof.Machine

/-! ### The parts of a window that is closed (R427) -/

theorem State.parts_freePlace (s : State) (paddock : Nat) (p : Place) : (s.freePlace paddock p).store.parts = s.store.parts := by
  obtain ⟨d, -, -, hstore⟩ := s.store_freePlace paddock p
  rw [hstore]

theorem State.parts_freeParts (s : State) (n : Nat) : (s.freeParts n).store.parts = s.store.parts.filter (·.1 != n) :=
  foldl_keeps (f := fun (t : State) (x : Nat × Place × Nat) => t.freePlace x.2.2 x.2.1) (g := fun t : State => t.store.parts)
    (fun _ _ => State.parts_freePlace ..) ..

theorem State.parts_closeWindow {s : State} {n : Nat} {w : Window} (hw : s.window n = some w) :
    (s.closeWindow n).store.parts = s.store.parts.filter (·.1 != n) := by
  rw [State.closeWindow, hw]
  refine (foldl_keeps (f := fun (t : State) (q : Nat) => t.failConn q) (g := fun t : State => t.store.parts) (fun t q => ?_) ..).trans ?_
  · exact congrArg Store.parts ((State.failConn_same ..).store.eq rfl)
  · rw [← State.window_index hw]
    exact State.parts_freeParts s w.index

/-! ### WINDOW_REMOVE -/

section
variable {m : Mbx} {s : State} {b : Mail}

theorem runCommand_windowRemove (h : b.opcode = 0x41) : runCommand b s = cmdWindowRemove b s := by
  rw [runCommand, h]
  rfl

/-- An active window, not window 0, is closed (R226). -/
theorem cmdWindowRemove_closes {w : Window} (hlen : b.body.length = 2) (hw : s.window (le b.body 0 2) = some w)
    (hactive : w.state = .active) (hzero : w.index ≠ 0) : cmdWindowRemove b s = okReply (s.closeWindow (le b.body 0 2)) [] := by
  have hindex := State.window_index hw
  have hany : (s.maps.windows.any fun x => x.index == le b.body 0 2 && decide (x.state = .active)) = true :=
    List.any_eq_true.mpr ⟨w, List.mem_of_find?_eq_some hw, by simp [hindex, hactive]⟩
  have hne : (le b.body 0 2 == 0) = false := beq_eq_false_iff_ne.mpr (hindex ▸ hzero)
  rw [cmdWindowRemove, hlen, hne, hany]
  rfl

/-- WINDOW_REMOVE takes the parts that the window held out of the store (R226, R427). -/
theorem windowRemove_dropsItsParts {w : Window} (h : Asked s m 0x41 b) (hlen : b.body.length = 2)
    (hw : s.window (le b.body 0 2) = some w) (hactive : w.state = .active) (hzero : w.index ≠ 0) :
    Answers (exec (.windowRemove m) s) fun t => t.store.parts = s.store.parts.filter (·.1 != le b.body 0 2) := by
  refine h.answers (by decide) fun H hH => ?_
  have hw' : { s with host := H }.window (le b.body 0 2) = some w := hw
  rw [runCommand_windowRemove h.rung.opcode_eq, cmdWindowRemove_closes hlen hw' hactive hzero]
  refine ⟨?_, fun t hsame _ => ?_⟩
  · have hhost : ({ s with host := H }.closeWindow (le b.body 0 2)).host = H := (State.closeWindow_same ..).host.eq rfl
    exact hhost.symm ▸ hH
  · have hparts : t.store.parts = ({ s with host := H }.closeWindow (le b.body 0 2)).store.parts :=
      congrArg Store.parts (hsame.store.eq rfl)
    exact hparts.trans (State.parts_closeWindow hw')

end

/-! ### A pair window that holds a part -/

/-- A pair window, number 3 of node 7, that holds the record of a CONTINUED commit out of reach (R302, R427). -/
def pairWindow3 : Window where
  index := 3
  srcNode := 7
  srcPaddock := 0
  localPaddock := 0
  read := true
  write := true
  notice := false
  state := .active
  gen := 1
  base := 4194304
  length := 2097152
  key := []
  use := .pair
  control := []
  appliedSeq := 0
  refusedSeq := 0
  refusedPaddock := 0
  refuseReason := 0
  refusedSequence := 0
  parts := [zeros 128]
  takeover := none

/-- A node in SERVING after reset but for that window and the unit of Tier 1 that holds its part. -/
def pairHoldsPart : State :=
  { State.reset with
    power := { PowerUp.fresh with powerGood := true, phase := 5, pwrok := true }
    boot := { State.reset.boot with stage := 12, nodeId := 5, nodeValid := true }
    pwr := { State.reset.pwr with f0Up := true, refOk := List.replicate 4 true }
    maps := { State.reset.maps with windows := [pairWindow3] }
    store := { State.reset.store with parts := [(3, ⟨.tier1, 100, 0, 1, 0⟩, 0)] } }

/-- WINDOW_REMOVE of window 3 in mailbox 0 (R358, R362). -/
def removeWindow3 : Mbx := ⟨0, [1, 2] ++ toLe 2 0x41 ++ toLe 4 2 ++ zeros 24 ++ toLe 2 3⟩

/-- The request as the mailbox holds it. -/
def removeMail : Mail :=
  Mail.parse 0 (overlay (pairHoldsPart.box 0).buffer (removeWindow3.bytes.take 4096))

theorem removeMail_body : removeMail.body = [3, 0] := by decide +kernel

theorem removeMail_rung : Rung pairHoldsPart removeWindow3 0x41 removeMail where
  open_ := by decide +kernel
  awake := by decide +kernel
  opcode := by decide +kernel
  whole := by decide +kernel
  box := by decide
  four := rfl
  serves := by decide +kernel
  idle := rfl
  alone := rfl
  mail := rfl

theorem removeMail_asked : Asked pairHoldsPart removeWindow3 0x41 removeMail where
  rung := removeMail_rung
  version := by decide +kernel
  stage := rfl
  ostler := by decide +kernel
  length := by decide +kernel

/-- Refutes O40: WINDOW_REMOVE of a pair window that holds parts of a CONTINUED commit (R427) gives them up. In `pairHoldsPart`
window 3 has one part in the store; after WINDOW_REMOVE there is none, while the statement wants the store as it was. (Its hypotheses
allow every active window but window 0; without parts the store does stay.) -/
theorem not_hostSetsWindowsRegionsAndWeights : ¬ Obligations.HostSetsWindowsRegionsAndWeights := by
  unfold Obligations.HostSetsWindowsRegionsAndWeights
  rintro ⟨hwindows, -, -⟩
  have hlen : removeMail.body.length = 2 := by rw [removeMail_body]; rfl
  have hthree : le removeMail.body 0 2 = 3 := by rw [removeMail_body]; rfl
  have hwindow : pairHoldsPart.window (le removeMail.body 0 2) = some pairWindow3 := by rw [hthree]; rfl
  obtain ⟨-, hremove⟩ := hwindows removeWindow3 pairHoldsPart removeMail
  obtain ⟨t, ht, -, -, -, -, hstore, -⟩ := hremove removeMail_asked hlen pairWindow3 hwindow rfl (by decide)
  obtain ⟨u, hu, hparts⟩ := windowRemove_dropsItsParts removeMail_asked hlen hwindow rfl (by decide)
  obtain rfl : t = u := Host.Outcome.next.inj (ht.symm.trans hu)
  rw [hthree, hstore] at hparts
  cases hparts

end Sys2Proof.Machine
end

section
/-! O58. The longest mask wins a Ledger search, then the lower entry index (R235). -/

namespace Sys2Proof.Machine

/-! ### Mask lengths -/

theorem bit_div_two_pow (n k i : Nat) : bit (n / 2 ^ k) i = bit n (i + k) := by
  rw [bit, bit, Nat.div_div_eq_div_mul, ← Nat.pow_add, Nat.add_comm]

theorem popcount_eq_length_filter (w n : Nat) : popcount w n = ((List.range w).filter (bit n)).length := by
  induction w generalizing n with
  | zero => rfl
  | succ w ih =>
    have hshift : bit n ∘ Nat.succ = bit (n / 2) := funext fun i => (bit_div_two_pow n 1 i).symm
    rw [popcount, ih, List.range_succ_eq_map, List.filter_cons, List.filter_map, hshift]
    rcases Nat.mod_two_eq_zero_or_one n with h | h <;> simp [bit, h, Nat.add_comm]

theorem maskLength_eq_length_filter (m : Nat) : maskLength m = ((List.range 124).filter fun i => bit m (i + 4)).length := by
  rw [maskLength, popcount_eq_length_filter]
  exact congrArg (fun p => ((List.range 124).filter p).length) (funext (bit_div_two_pow m 4))

/-! ### The order of matching entries -/

section
variable {a b c : LedgerEntry}

theorem LedgerEntry.beats_iff : a.beats b = true ↔
    maskLength b.mask < maskLength a.mask ∨ (maskLength b.mask = maskLength a.mask ∧ a.row < b.row) := by
  simp [LedgerEntry.beats, eq_comm (a := maskLength b.mask)]

theorem LedgerEntry.beats_trans (h : a.beats b = true) (k : b.beats c = true) : a.beats c = true := by
  rw [LedgerEntry.beats_iff] at *
  omega

/-- Of two entries in different rows one beats the other. -/
theorem LedgerEntry.beats_of_not_beats (h : b.beats a = false) (hrow : a.row ≠ b.row) : a.beats b = true := by
  rw [← Bool.not_eq_true, LedgerEntry.beats_iff] at h
  rw [LedgerEntry.beats_iff]
  omega

end

/-! ### The best entry -/

theorem bestEntry_eq_none {es : List LedgerEntry} : bestEntry es = none ↔ es = [] := by
  cases es with
  | nil => simp [bestEntry]
  | cons a es =>
    rw [bestEntry]
    split
    · simp
    · split <;> simp

/-- The best of some entries in distinct rows is one of them and beats every other one. -/
theorem bestEntry_beats {es : List LedgerEntry} (hrows : (es.map (·.row)).Nodup) {e : LedgerEntry} (he : bestEntry es = some e) :
    e ∈ es ∧ ∀ x ∈ es, x ≠ e → e.beats x = true := by
  induction es generalizing e with
  | nil => cases he
  | cons a es ih =>
    obtain ⟨ha, hes⟩ := List.nodup_cons.mp hrows
    have hrow : ∀ x ∈ es, a.row ≠ x.row := fun x hx h => ha (List.mem_map.mpr ⟨x, hx, h.symm⟩)
    rw [bestEntry] at he
    cases hf : bestEntry es with
    | none =>
      obtain rfl := bestEntry_eq_none.mp hf
      obtain rfl : a = e := by simpa [hf] using he
      simp
    | some f =>
      obtain ⟨hmem, hbest⟩ := ih hes hf
      rw [hf] at he
      dsimp only at he
      cases hfa : f.beats a with
      | true =>
        obtain rfl : f = e := by simpa [hfa] using he
        refine ⟨List.mem_cons_of_mem a hmem, fun x hx hne => ?_⟩
        rcases List.mem_cons.mp hx with rfl | hx
        · exact hfa
        · exact hbest x hx hne
      | false =>
        obtain rfl : a = e := by simpa [hfa] using he
        have haf : a.beats f = true := LedgerEntry.beats_of_not_beats hfa (hrow f hmem)
        refine ⟨List.mem_cons_self, fun x hx hne => ?_⟩
        obtain hx := (List.mem_cons.mp hx).resolve_left hne
        by_cases hxf : x = f
        · exact hxf ▸ haf
        · exact LedgerEntry.beats_trans haf (hbest x hx hxf)

/-- Settles O58: of the matching entries the best is found by one walk, in which a row's entry is kept until one beats it; in
distinct rows two entries never tie, so the one that is left beats all others. -/
theorem longestMaskWins : Obligations.LongestMaskWins := by
  unfold Obligations.LongestMaskWins
  refine ⟨fun es key slot hrows => ⟨?_, fun e he => ?_⟩, maskLength_eq_length_filter⟩
  · rw [ledgerSearch, bestEntry_eq_none, List.filter_eq_nil_iff]
    simp
  · have hsome := bestEntry_beats (hrows.sublist (List.filter_sublist.map _)) he
    obtain ⟨hmem, hhits⟩ := List.mem_filter.mp hsome.1
    refine ⟨hmem, hhits, fun x hx hxhits hne => LedgerEntry.beats_iff.mp (hsome.2 x ?_ hne)⟩
    exact List.mem_filter.mpr ⟨hx, hxhits⟩

end Sys2Proof.Machine
end

section
/-! SUPPORT. Schedulers, their queues, rings and bridles (R246, R250, R252, R256): what a lookup returns after an update. -/

namespace Sys2Proof.Machine

section
variable {s : State} {d e : Sched} {i c p : Nat}

/-! ### Schedulers by number -/

theorem State.sched_id (h : s.sched i = some d) : d.id = i := by simpa using List.find?_some h

theorem State.sched_putSched (h : s.sched i = some d) (hid : e.id = i) : (s.putSched e).sched i = some e := by
  subst hid
  exact find?_updateFirst (f := fun _ => e) h (beq_self_eq_true e.id)

/-! ### Queues by class and paddock -/

theorem Sched.queue_mem {q : Queue} (h : d.queue c p = some q) : q ∈ d.queues := List.mem_of_find?_eq_some h

theorem Sched.queue_key {q : Queue} (h : d.queue c p = some q) : q.cls = c ∧ q.paddock = p := by
  simpa using List.find?_some h

theorem Sched.queue_modQueue_self {q : Queue} {f : Queue → Queue} (h : d.queue c p = some q)
    (hcls : (f q).cls = q.cls) (hpaddock : (f q).paddock = q.paddock) : (d.modQueue c p f).queue c p = some (f q) := by
  obtain ⟨hc, hp⟩ := Sched.queue_key h
  exact find?_updateFirst h (by simp [hcls, hpaddock, hc, hp])

theorem Sched.queue_modQueue_of_ne {c' p' : Nat} {f : Queue → Queue} (h : (c', p') ≠ (c, p))
    (hcls : ∀ x, (f x).cls = x.cls) (hpaddock : ∀ x, (f x).paddock = x.paddock) :
    (d.modQueue c' p' f).queue c p = d.queue c p := by
  refine find?_updateFirst_of_disjoint fun y hy => ?_
  obtain ⟨hyc, hyp⟩ : y.cls = c' ∧ y.paddock = p' := by simpa using hy
  have hkey : ¬(y.cls = c ∧ y.paddock = p) := by rw [hyc, hyp]; simpa using h
  simpa [hcls, hpaddock] using hkey

/-! ### Rings by class -/

theorem Sched.ring_modRing_self {f : Ring → Ring} (hring : d.rings.any (·.cls == c) = true) (hcls : ∀ r, (f r).cls = r.cls) :
    (d.modRing c f).ring c = f (d.ring c) := by
  obtain ⟨r, hr⟩ := Option.isSome_iff_exists.mp (List.find?_isSome.trans List.any_eq_true.symm |>.mpr hring)
  have hupdated : (d.modRing c f).rings.find? (·.cls == c) = some (f r) :=
    find?_updateFirst hr (by rw [hcls]; simpa using List.find?_some hr)
  rw [Sched.ring, hupdated, Sched.ring, hr]
  rfl

theorem Sched.ring_modRing_of_ne {c' : Nat} {f : Ring → Ring} (h : c' ≠ c) (hcls : ∀ r, (f r).cls = r.cls) :
    (d.modRing c' f).ring c = d.ring c := by
  have hkept : (d.modRing c' f).rings.find? (·.cls == c) = d.rings.find? (·.cls == c) := by
    refine find?_updateFirst_of_disjoint fun y hy => ?_
    obtain rfl : y.cls = c' := by simpa using hy
    simpa [hcls] using h
  rw [Sched.ring, hkept, Sched.ring]

/-- A class with a paddock in its ring has a ring. -/
theorem Sched.any_rings_of_mem (h : p ∈ (d.ring c).order) : d.rings.any (·.cls == c) = true := by
  rw [Sched.ring] at h
  cases hr : d.rings.find? (·.cls == c) with
  | none =>
    rw [hr] at h
    cases h
  | some r => exact List.any_eq_true.mpr ⟨r, List.mem_of_find?_eq_some hr, by simpa using List.find?_some hr⟩

/-! ### Bridles by scheduler, class and paddock -/

/-- A bridle is found by the key of its scheduler. -/
theorem State.bridle_congr {t : State} (hbridles : t.sch.bridles = s.sch.bridles) (hkey : d.bridleKey = e.bridleKey) :
    t.bridle d c p = s.bridle e c p := by
  rw [State.bridle, hbridles, hkey, State.bridle]

end

end Sys2Proof.Machine
end

section
/-! O41. Host software sets schedulers (R260, R265) and power (R381, R382), each within the image's limits (R331), and clears
NOTIFY (R364). -/

namespace Sys2Proof.Machine

/-! ### Refusals of a command -/

section
variable {s : State} {m : Mbx} {op : Nat} {b : Mail}

/-- A command that refuses changes nothing but its mailbox, where STATUS and DETAIL stand (R357, R358). -/
theorem Asked.answers_refused {status detail : Nat} (h : Asked s m op b) (hop : op ≠ 0x20)
    (hrun : ∀ H : Host_, runCommand b { s with host := H } = noReply { s with host := H } status detail) :
    Answers (s.exchange m op) fun t => Same { out := true, regs := true, host := true, maps := true } s t ∧
      (t.box m.box).buffer.take 32 = replyHeader b status detail 0 ∧ t.answered b status [] := by
  obtain ⟨H, hH, heq⟩ := h.rung.exchange_eq hop
  have hbox : b.box ≤ 2 := by rw [h.rung.box_eq]; exact h.rung.box
  have hlt : b.box < H.boxes.length := by rw [hH.boxes]; omega
  rw [heq, h.reply_eq, hrun, State.serveWaiting_of_nil ((State.writeReply_keeps ..).rests hH).doorbells]
  refine answers_finish fun maps => ⟨?_, ?_, State.writeReply_answered (r := noReply _ status detail) _ hbox hH⟩
  · have hhost : Same { out := true, regs := true, host := true, maps := true } s { s with host := H } := Same.update (.refl _ s)
    exact Same.update (hhost.trans ((State.writeReply_same _ b (noReply { s with host := H } status detail)).mono rfl))
  · have hbuffer : (({ s with host := H }.writeReply b (noReply { s with host := H } status detail)).box m.box).buffer =
        overlay (H.boxes.getD b.box Mailbox.fresh).buffer (replyHeader b status detail 0 ++ []) := by
      rw [← h.rung.box_eq, State.box, State.writeReply, State.eventBit_host, ← State.box, State.box_modBox _ hlt]
      rfl
    refine (congrArg (List.take 32) hbuffer).trans ?_
    rw [overlay, List.append_nil, List.take_left' (length_replyHeader ..)]

end

/-! ### SCHED_SET (R265) -/

/-- A scheduler with the QUANTUM of a queue set; a queue that is not there yet is made. -/
def Sched.withQuantum (d : Sched) (now cls paddock quantum : Nat) : Sched :=
  match d.queue cls paddock with
  | some _ => d.modQueue cls paddock fun q => { q with quantum := quantum }
  | none => { d with queues := d.queues ++ [⟨cls, paddock, [], 0, quantum, false, none, now, 0, false, false⟩] }

/-- The node with the bridle of a queue set, its BURST as credit; RATE 0 removes it (R256, R265). -/
def State.setBridle (s : State) (d : Sched) (cls paddock rate burst : Nat) : State :=
  let others := s.sch.bridles.filter fun x => !(x.1 == d.bridleKey && x.2.1 == cls && x.2.2.1 == paddock)
  let t : State := { s with sch := { s.sch with bridles := others } }
  if rate == 0 then t else t.putBridle d cls paddock ⟨rate, burst, ((burst * 1024000 : Nat) : Int), s.time⟩

section
variable {s : State} {d : Sched} {cls paddock : Nat}

theorem Sched.withQuantum_rings (now quantum : Nat) : (d.withQuantum now cls paddock quantum).rings = d.rings := by
  rw [Sched.withQuantum]
  split <;> rfl

theorem Sched.withQuantum_gcl (now quantum : Nat) : (d.withQuantum now cls paddock quantum).gcl = d.gcl := by
  rw [Sched.withQuantum]
  split <;> rfl

theorem Sched.withQuantum_id (now quantum : Nat) : (d.withQuantum now cls paddock quantum).id = d.id := by
  rw [Sched.withQuantum]
  split <;> rfl

/-- Only the QUANTUM of a queue that is there changes. -/
theorem Sched.queue_withQuantum (now quantum : Nat) : ∃ q, (d.withQuantum now cls paddock quantum).queue cls paddock = some q ∧
    q.quantum = quantum ∧ ∀ x, d.queue cls paddock = some x → q.deficit = x.deficit ∧ q.items = x.items := by
  rw [Sched.withQuantum]
  cases hx : d.queue cls paddock with
  | some x =>
    refine ⟨{ x with quantum := quantum }, Sched.queue_modQueue_self hx rfl rfl, rfl, ?_⟩
    rintro _ ⟨⟩
    exact ⟨rfl, rfl⟩
  | none =>
    refine ⟨⟨cls, paddock, [], 0, quantum, false, none, now, 0, false, false⟩, ?_, rfl, nofun⟩
    rw [Sched.queue] at hx ⊢
    rw [List.find?_append, hx]
    simp

theorem State.sch_scheds_setBridle (rate burst : Nat) : (s.setBridle d cls paddock rate burst).sch.scheds = s.sch.scheds := by
  rw [State.setBridle]
  dsimp only
  split <;> rfl

theorem State.setBridle_same (rate burst : Nat) : Same { sch := true } s (s.setBridle d cls paddock rate burst) := by
  rw [State.setBridle]
  dsimp only
  split
  · exact Same.update (.refl _ _)
  · exact (Same.update (.refl _ s)).trans (State.putBridle_same ..)

theorem State.bridle_setBridle_zero (burst : Nat) : (s.setBridle d cls paddock 0 burst).bridle d cls paddock = none := by
  rw [State.bridle, Option.map_eq_none_iff, List.find?_eq_none]
  intro x hx
  obtain ⟨-, hkey⟩ := List.mem_filter.mp hx
  simpa [imp_iff_not_or, or_assoc] using hkey

theorem State.bridle_setBridle {rate : Nat} (h : rate ≠ 0) (burst : Nat) :
    (s.setBridle d cls paddock rate burst).bridle d cls paddock = some ⟨rate, burst, ((burst * 1024000 : Nat) : Int), s.time⟩ := by
  rw [State.setBridle, if_neg (by simpa using h), State.bridle, State.putBridle]
  dsimp only
  rw [List.find?_append, List.find?_eq_none.mpr fun x hx => ?_]
  · simp
  · obtain ⟨-, hkey⟩ := List.mem_filter.mp hx
    simpa [imp_iff_not_or, or_assoc] using hkey

end

section
variable {s : State} {m : Mbx} {b : Mail} {d : Sched}

/-- What SCHED_SET asks of a body before the image's limits: its length, a scheduler and a class of it, a QUANTUM, and a RATE
and a BURST in the ranges of R265. -/
structure SchedBody (s : State) (b : Mail) (d : Sched) : Prop where
  length : b.body.length = 16
  sched : (schedulerId (le b.body 0 2)).bind s.sched = some d
  cls : le b.body 2 1 ≤ (if d.id < 16 then 2 else 7)
  quantum : le b.body 4 2 ≠ 0
  rate : le b.body 8 4 ≤ 16777215
  burst : le b.body 8 4 ≠ 0 → 1 ≤ le b.body 12 4 ∧ le b.body 12 4 ≤ 65536

/-- The host interface has no part in it. -/
theorem SchedBody.withHost (h : SchedBody s b d) (H : Host_) : SchedBody { s with host := H } b d :=
  ⟨h.length, h.sched, h.cls, h.quantum, h.rate, h.burst⟩

theorem runCommand_schedSet (h : b.opcode = 0x60) : runCommand b s = cmdSchedSet b s := by
  rw [runCommand, h]
  rfl

/-- Past the ranges of R265 the image's limits decide (R331, R264). -/
theorem cmdSchedSet_eq (h : SchedBody s b d) : cmdSchedSet b s =
    if (le b.body 8 4 = 0 ∧ s.lastBridle d (le b.body 2 1) b.paddock = true) ∨ s.img.sched.limits.quantum < le b.body 4 2 ∨
        s.img.sched.limits.rate < le b.body 8 4 ∨ (le b.body 8 4 ≠ 0 ∧ s.img.sched.limits.burst < le b.body 12 4) then
      noReply s St.badParam 0x22
    else okReply ((s.putSched (d.withQuantum s.time (le b.body 2 1) b.paddock (le b.body 4 2))).setBridle
      (d.withQuantum s.time (le b.body 2 1) b.paddock (le b.body 4 2)) (le b.body 2 1) b.paddock (le b.body 8 4)
      (le b.body 12 4)) [] := by
  have hcls := h.cls
  have hranges : ((decide (d.id < 16) && decide (2 < le b.body 2 1)) || decide (7 < le b.body 2 1) || le b.body 4 2 == 0 ||
      decide (16777215 < le b.body 8 4) ||
      (le b.body 8 4 != 0 && (le b.body 12 4 == 0 || decide (65536 < le b.body 12 4)))) = false := by
    have hrate := h.rate
    have hburst := h.burst
    have hquantum := h.quantum
    split at hcls <;> simp <;> omega
  rw [cmdSchedSet, h.length, h.sched]
  dsimp only
  rw [hranges]
  refine (if_neg (by decide)).trans ((if_neg Bool.false_ne_true).trans (if_congr ?_ rfl rfl))
  simp [or_assoc]

/-- SCHED_SET beyond a limit of the image (R331), or for the last bridle of a tenant of a sealed-policy slice (R264). -/
theorem schedSet_refused (h : Asked s m 0x60 b) (hbody : SchedBody s b d)
    (hlimit : s.img.sched.limits.quantum < le b.body 4 2 ∨ s.img.sched.limits.rate < le b.body 8 4 ∨
      (le b.body 8 4 = 0 ∧ s.lastBridle d (le b.body 2 1) b.paddock = true)) :
    Answers (exec (.schedSet m) s) fun t =>
      (t.box m.box).buffer.take 32 = replyHeader b St.badParam 0x22 0 ∧ t.sch = s.sch := by
  have hrun : ∀ H : Host_, runCommand b { s with host := H } = noReply { s with host := H } St.badParam 0x22 := fun H => by
    rw [runCommand_schedSet h.rung.opcode_eq, cmdSchedSet_eq (hbody.withHost H)]
    refine if_pos ?_
    rcases hlimit with hquantum | hrate | hlast
    · exact .inr (.inl hquantum)
    · exact .inr (.inr (.inl hrate))
    · exact .inl hlast
  obtain ⟨t, ht, hsame, hheader, -⟩ := h.answers_refused (by decide) hrun
  exact ⟨t, ht, hheader, hsame.sch.eq rfl⟩

/-- SCHED_SET within the limits (R256, R265). -/
theorem schedSet_sets (h : Asked s m 0x60 b) (hbody : SchedBody s b d) (hquantum : le b.body 4 2 ≤ s.img.sched.limits.quantum)
    (hrate : le b.body 8 4 ≤ s.img.sched.limits.rate)
    (hlast : le b.body 8 4 = 0 → s.lastBridle d (le b.body 2 1) b.paddock = false)
    (hburst : le b.body 8 4 ≠ 0 → le b.body 12 4 ≤ s.img.sched.limits.burst) :
    Answers (exec (.schedSet m) s) fun t =>
      t.answered b St.ok [] ∧
      (∃ d' q, t.sched d.id = some d' ∧ d'.queue (le b.body 2 1) b.paddock = some q ∧ q.quantum = le b.body 4 2 ∧
        (∀ x, d.queue (le b.body 2 1) b.paddock = some x → q.deficit = x.deficit ∧ q.items = x.items) ∧
        d'.rings = d.rings ∧ d'.gcl = d.gcl) ∧
      (le b.body 8 4 = 0 → t.bridle d (le b.body 2 1) b.paddock = none) ∧
      (le b.body 8 4 ≠ 0 → t.bridle d (le b.body 2 1) b.paddock =
        some ⟨le b.body 8 4, le b.body 12 4, ((le b.body 12 4 * 1024000 : Nat) : Int), s.time⟩) ∧ t.store = s.store := by
  refine h.answers (by decide) fun H hH => ?_
  rw [runCommand_schedSet h.rung.opcode_eq, cmdSchedSet_eq (hbody.withHost H), if_neg ?_]
  · let e := d.withQuantum s.time (le b.body 2 1) b.paddock (le b.body 4 2)
    have hid : e.id = d.id := Sched.withQuantum_id ..
    have hkey : e.bridleKey = d.bridleKey := by rw [Sched.bridleKey, hid, Sched.bridleKey]
    obtain ⟨i, -, hd⟩ := Option.bind_eq_some_iff.mp hbody.sched
    have hput : (({ s with host := H } : State).putSched e).sched d.id = some e :=
      State.sched_putSched (by rw [State.sched_id hd]; exact hd) hid
    refine ⟨?_, fun t hsame hanswered => ?_⟩
    · rw [okReply, (State.setBridle_same ..).host.eq rfl]
      exact hH
    · have hsch := hsame.sch.eq rfl
      have hbridle := State.bridle_congr (c := le b.body 2 1) (p := b.paddock) (congrArg Scheds.bridles hsch) hkey.symm
      obtain ⟨q, hq, hset, hkept⟩ :=
        Sched.queue_withQuantum (d := d) (cls := le b.body 2 1) (paddock := b.paddock) s.time (le b.body 4 2)
      refine ⟨hanswered, ⟨e, q, ?_, hq, hset, hkept, Sched.withQuantum_rings .., Sched.withQuantum_gcl ..⟩, fun hzero => ?_,
        fun hne => ?_, (hsame.store.eq rfl).trans ((State.setBridle_same ..).store.eq rfl)⟩
      · rw [State.sched, hsch, okReply, State.sch_scheds_setBridle]
        exact hput
      · rw [hbridle, hzero]
        exact State.bridle_setBridle_zero (le b.body 12 4)
      · rw [hbridle]
        exact State.bridle_setBridle hne ..
  · rintro (⟨hzero, hlast'⟩ | hq | hr | ⟨hne, hb⟩)
    · exact absurd ((hlast hzero).symm.trans hlast') (by decide)
    · exact absurd hq (by exact Nat.not_lt.mpr hquantum)
    · exact absurd hr (by exact Nat.not_lt.mpr hrate)
    · exact absurd hb (by exact Nat.not_lt.mpr (hburst hne))
end

/-! ### GCL_SET (R260) -/

section
variable {s : State} {m : Mbx} {b : Mail} {d : Sched} {gs : List Gate}

/-- What GCL_SET asks of the form of a body: a scheduler, 1 to 256 entries and the length that they make. -/
structure GclBody (s : State) (b : Mail) (d : Sched) (gs : List Gate) : Prop where
  sched : (schedulerId (le b.body 0 2)).bind s.sched = some d
  entries : gs = gclEntries b.body (le b.body 2 2)
  length : b.body.length = 16 + 8 * le b.body 2 2
  least : 1 ≤ le b.body 2 2
  most : le b.body 2 2 ≤ 256

/-- The host interface has no part in it. -/
theorem GclBody.withHost (h : GclBody s b d gs) (H : Host_) : GclBody { s with host := H } b d gs :=
  ⟨h.sched, h.entries, h.length, h.least, h.most⟩

theorem State.gclFrom_iff (s : State) (d : Sched) (cycle first : Nat) : s.gclFrom d cycle first = true ↔
    s.time + 2 * d.cycle ≤ d.base + first * d.cycle ∧ first * d.cycle % max 1 cycle = 0 := by
  rw [State.gclFrom, Bool.and_eq_true, decide_eq_true_eq, beq_iff_eq]

theorem runCommand_gclSet (h : b.opcode = 0x61) : runCommand b s = cmdGclSet b s := by
  rw [runCommand, h]
  rfl

/-- A list in form is announced when it is consistent, begins late enough and keeps to the image (R258, R260, R264, R331). -/
theorem cmdGclSet_eq (h : GclBody s b d gs) : cmdGclSet b s =
    if s.gclOk d.id (le b.body 4 4) gs = false ∨ s.gclFrom d (le b.body 4 4) (le b.body 8 8) = false then noReply s St.badParam 0x01
    else if s.img.sealedGates d.id gs = false ∨
        within s.img.sched.limits.cycleMin (le b.body 4 4) s.img.sched.limits.cycleMax = false then noReply s St.badParam 0x22
    else okReply (s.putSched { d with newGcl := some (le b.body 8 8, le b.body 4 4, gs) }) [] := by
  have hleast : ¬le b.body 2 2 = 0 := by have := h.least; omega
  have hmost : ¬256 < le b.body 2 2 := by have := h.most; omega
  rw [cmdGclSet, h.length, h.sched, ← h.entries]
  simp [hleast, hmost]

/-- GCL_SET of a list that may apply (R260). -/
theorem gclSet_announces (h : Asked s m 0x61 b) (hbody : GclBody s b d gs) (hok : s.gclOk d.id (le b.body 4 4) gs = true)
    (hfrom : s.gclFrom d (le b.body 4 4) (le b.body 8 8) = true) (hsealed : s.img.sealedGates d.id gs = true)
    (hmin : s.img.sched.limits.cycleMin ≤ le b.body 4 4) (hmax : le b.body 4 4 ≤ s.img.sched.limits.cycleMax) :
    Answers (exec (.gclSet m) s) fun t => t.answered b St.ok [] ∧
      t.sched d.id = some { d with newGcl := some (le b.body 8 8, le b.body 4 4, gs) } := by
  have hwithin : within s.img.sched.limits.cycleMin (le b.body 4 4) s.img.sched.limits.cycleMax = true := by
    simp [within, hmin, hmax]
  refine h.answers (by decide) fun H hH => ?_
  rw [runCommand_gclSet h.rung.opcode_eq, cmdGclSet_eq (hbody.withHost H), if_neg, if_neg]
  · refine ⟨hH, fun t hsame hanswered => ⟨hanswered, ?_⟩⟩
    obtain ⟨i, -, hd⟩ := Option.bind_eq_some_iff.mp hbody.sched
    rw [State.sched, hsame.sch.eq rfl]
    exact State.sched_putSched (s := { s with host := H }) (by rw [State.sched_id hd]; exact hd) rfl
  · rintro (hno | hno)
    · exact absurd (hno.symm.trans hsealed) (by decide)
    · exact absurd (hno.symm.trans hwithin) (by decide)
  · rintro (hno | hno)
    · exact absurd (hno.symm.trans hok) (by decide)
    · exact absurd (hno.symm.trans hfrom) (by decide)

/-- GCL_SET of a list that may not apply (R260, R264, R331). -/
theorem gclSet_refused (h : Asked s m 0x61 b) (hbody : GclBody s b d gs)
    (hno : s.gclOk d.id (le b.body 4 4) gs = false ∨ s.gclFrom d (le b.body 4 4) (le b.body 8 8) = false ∨
      s.img.sealedGates d.id gs = false ∨ s.img.sched.limits.cycleMax < le b.body 4 4) :
    Answers (exec (.gclSet m) s) fun t => t.answered b St.badParam [] ∧ t.sch = s.sch := by
  have hrun : ∃ detail, ∀ H : Host_, runCommand b { s with host := H } = noReply { s with host := H } St.badParam detail := by
    have heq := fun H : Host_ => (runCommand_gclSet h.rung.opcode_eq).trans (cmdGclSet_eq (hbody.withHost H))
    by_cases hlist : s.gclOk d.id (le b.body 4 4) gs = false ∨ s.gclFrom d (le b.body 4 4) (le b.body 8 8) = false
    · exact ⟨0x01, fun H => (heq H).trans (if_pos hlist)⟩
    · obtain ⟨hok, hfrom⟩ := not_or.mp hlist
      have hlimit := (hno.resolve_left hok).resolve_left hfrom
      refine ⟨0x22, fun H => (heq H).trans ((if_neg hlist).trans (if_pos (hlimit.imp_right fun hmax => ?_)))⟩
      simp [within, hmax]
  obtain ⟨detail, hrun⟩ := hrun
  obtain ⟨t, ht, hsame, -, hanswered⟩ := h.answers_refused (by decide) hrun
  exact ⟨t, ht, hanswered, hsame.sch.eq rfl⟩

end

/-! ### POWER_SET (R381, R382) -/

section
variable {s : State} {m : Mbx} {b : Mail}

/-- Whether a group is held down: its die is throttled or held at the lowest point (R382, R383). -/
def State.heldDown (s : State) (g : Nat) : Bool := s.pwr.throttle.getD (g / 8) false || s.pwr.forced.getD (g / 8) false

/-- The point of a group once POWER_SET has named some groups and a point (R382). -/
def State.pointAfter (s : State) (mask point g : Nat) : Nat :=
  if !bit mask g || s.pinnedGroup g then s.pwr.points.getD g 0
  else if s.heldDown g then max (s.pwr.points.getD g 0) point
  else point

theorem State.pointAfter_of_unnamed {mask point g : Nat} (h : bit mask g = false ∨ s.pinnedGroup g = true) :
    s.pointAfter mask point g = s.pwr.points.getD g 0 := if_pos (by simpa using h)

theorem State.pointAfter_of_named {mask point g : Nat} (hmask : bit mask g = true) (hpinned : s.pinnedGroup g = false) :
    s.pointAfter mask point g = if s.heldDown g then max (s.pwr.points.getD g 0) point else point :=
  if_neg (by simp [hmask, hpinned])

theorem runCommand_powerSet (h : b.opcode = 0xA0) : runCommand b s = cmdPowerSet b s := by
  rw [runCommand, h]
  rfl

/-- A body of the right length with a point of the image (R331, R381, R382). -/
theorem cmdPowerSet_eq (hlen : b.body.length = 8) (hpoint : le b.body 4 1 < s.img.power.points.length) : cmdPowerSet b s =
    if ¬((if s.fused.a768 then 600 else 500) ≤ le b.body 0 2 ∧ le b.body 0 2 ≤ s.fused.tdp) then noReply s St.badParam 0x01
    else if ¬(s.img.power.limits.1 ≤ le b.body 0 2 ∧ le b.body 0 2 ≤ s.img.power.limits.2) then noReply s St.badParam 0x22
    else okReply { s with pwr := { s.pwr with
      limit := le b.body 0 2
      points := (List.range 16).map (s.pointAfter (le b.body 2 2) (le b.body 4 1))
      ceilings := (List.range 16).map fun g => if bit (le b.body 2 2) g then le b.body 4 1 else s.pwr.ceilings.getD g 0 } } [] := by
  have hpoint' : ¬s.img.power.points.length ≤ le b.body 4 1 := by omega
  rw [cmdPowerSet, hlen]
  refine (if_neg (by decide)).trans (if_congr ?_ rfl (if_congr ?_ rfl rfl))
  · rw [Fused.tdp]
    cases s.fused.a768 <;> simp [imp_iff_not_or]
  · simp [within, hpoint', imp_iff_not_or]

/-- POWER_SET within the part's and the image's limits (R331, R381, R382). -/
theorem powerSet_sets (h : Asked s m 0xA0 b) (hlen : b.body.length = 8) (hpoint : le b.body 4 1 < s.img.power.points.length)
    (hpart : (if s.fused.a768 then 600 else 500) ≤ le b.body 0 2 ∧ le b.body 0 2 ≤ s.fused.tdp)
    (himage : s.img.power.limits.1 ≤ le b.body 0 2 ∧ le b.body 0 2 ≤ s.img.power.limits.2) :
    Answers (exec (.powerSet m) s) fun t => t.answered b St.ok [] ∧ t.pwr.limit = le b.body 0 2 ∧
      (∀ g < 16, t.pwr.points.getD g 0 = s.pointAfter (le b.body 2 2) (le b.body 4 1) g) ∧ t.pwr.state = s.pwr.state := by
  refine h.answers (by decide) fun H hH => ?_
  rw [runCommand_powerSet h.rung.opcode_eq, cmdPowerSet_eq (s := { s with host := H }) hlen hpoint, if_neg (not_not.mpr hpart),
    if_neg (not_not.mpr himage)]
  refine ⟨hH, fun t hsame hanswered => ?_⟩
  beta_reduce
  rw [hsame.pwr.eq rfl]
  refine ⟨hanswered, rfl, fun g hg => ?_, rfl⟩
  simp [okReply, hg]
  rfl

/-- POWER_SET of a limit out of the part's range or above the image's (R331, R382). -/
theorem powerSet_refused (h : Asked s m 0xA0 b) (hlen : b.body.length = 8) (hpoint : le b.body 4 1 < s.img.power.points.length)
    (hno : le b.body 0 2 < (if s.fused.a768 then 600 else 500) ∨ s.fused.tdp < le b.body 0 2 ∨
      s.img.power.limits.2 < le b.body 0 2) :
    Answers (exec (.powerSet m) s) fun t => t.answered b St.badParam [] ∧ t.pwr = s.pwr := by
  have hrun : ∃ detail, ∀ H : Host_, runCommand b { s with host := H } = noReply { s with host := H } St.badParam detail := by
    have heq := fun H : Host_ => (runCommand_powerSet h.rung.opcode_eq).trans (cmdPowerSet_eq (s := { s with host := H }) hlen hpoint)
    by_cases hpart : (if s.fused.a768 then 600 else 500) ≤ le b.body 0 2 ∧ le b.body 0 2 ≤ s.fused.tdp
    · have himage : ¬(s.img.power.limits.1 ≤ le b.body 0 2 ∧ le b.body 0 2 ≤ s.img.power.limits.2) := by omega
      exact ⟨0x22, fun H => (heq H).trans ((if_neg (not_not.mpr hpart)).trans (if_pos himage))⟩
    · exact ⟨0x01, fun H => (heq H).trans (if_pos hpart)⟩
  obtain ⟨detail, hrun⟩ := hrun
  obtain ⟨t, ht, hsame, -, hanswered⟩ := h.answers_refused (by decide) hrun
  exact ⟨t, ht, hanswered, hsame.pwr.eq rfl⟩

end

/-- SCHED_SET, GCL_SET and POWER_SET. -/
theorem hostSetsSchedulersAndPower : Claims.HostSetsSchedulersAndPower := by
  intro m s b
  refine ⟨fun h hlen d hd hcls hquantum hrate hburst => ?_, fun h d gs hd hgs hlen hleast hmost => ?_, fun h hlen hpoint => ?_⟩
  · have hbody : SchedBody s b d := ⟨hlen, hd, hcls, hquantum, hrate, hburst⟩
    exact ⟨schedSet_refused h hbody, schedSet_sets h hbody⟩
  · have hbody : GclBody s b d gs := ⟨hd, hgs, hlen, hleast, hmost⟩
    exact ⟨s.gclFrom_iff d, gclSet_announces h hbody, gclSet_refused h hbody⟩
  · refine ⟨fun hpart himage => ?_, powerSet_refused h hlen hpoint⟩
    obtain ⟨t, ht, hanswered, hlimit, hpoints, hstate⟩ := powerSet_sets h hlen hpoint hpart himage
    refine ⟨t, ht, hanswered, hlimit, fun g hg => ?_, hstate⟩
    rw [hpoints g hg]
    refine ⟨State.pointAfter_of_unnamed, fun hmask hpinned => ?_⟩
    rw [State.pointAfter_of_named hmask hpinned]
    refine ⟨fun hthrottle hforced => ?_, fun hheld => ?_⟩
    · exact if_neg (by rw [State.heldDown, hthrottle, hforced]; decide)
    · exact if_pos (Bool.or_eq_true_iff.mpr hheld)

/-! ### NOTIFY_CLEAR (R364) -/

section
variable {s : State}

/-- The message of a notification in MBX3 (R358, R364). -/
def Notice.message (n : Notice) (dropped : Nat) : Bytes :=
  toLe 1 1 ++ toLe 1 2 ++ toLe 2 n.opcode ++ toLe 4 (toLe 4 dropped ++ n.body).length ++ zeros 8
    ++ toLe 2 n.paddock ++ toLe 2 2 ++ zeros 12 ++ (toLe 4 dropped ++ n.body)

theorem exec_notifyClear (h : s.bar0Open = true) :
    exec .notifyClear s = .next (s.modBox 3 fun b => { b with notify := false }).postNotice := by
  change execNotifyClear s = _
  rw [execNotifyClear, if_pos h]

theorem State.postNotice_of_nil (h : s.host.notices = []) : s.postNotice = s := by
  rw [State.postNotice, h]
  split <;> rfl

/-- The oldest notification is posted while NOTIFY is clear and O7 runs (R364). -/
theorem State.postNotice_of_cons {n : Notice} {rest : List Notice} (hboxes : 3 < s.host.boxes.length)
    (hclear : (s.box 3).notify = false) (hruns : s.restarting 7 = false) (hn : s.host.notices = n :: rest) :
    s.postNotice.host.notices = rest ∧ s.postNotice.store = s.store ∧
    s.postNotice.box 3 = { s.box 3 with buffer := n.message s.host.dropped, notify := true } := by
  let u : State := { s with host := { s.host with notices := rest } }
  have hpost : s.postNotice = (u.modBox 3 fun b => { b with buffer := n.message s.host.dropped, notify := true }).eventBit 3
      ((u.modBox 3 fun b => { b with buffer := n.message s.host.dropped, notify := true }).box 3).irqEn false true := by
    rw [State.postNotice, hclear, hruns, hn]
    rfl
  refine ⟨?_, ?_, ?_⟩
  · rw [hpost, State.eventBit_host]
    rfl
  · rw [hpost, (State.eventBit_same ..).store.eq rfl]
    rfl
  · rw [hpost, State.box, State.eventBit_host]
    exact State.box_modBox (s := u) _ hboxes

theorem Notice.message_fields (n : Notice) (dropped : Nat) :
    ((n.message dropped).drop 2).take 2 = toLe 2 n.opcode ∧ ((n.message dropped).drop 18).take 2 = toLe 2 2 ∧
    (n.message dropped).drop 32 = toLe 4 dropped ++ n.body := by
  refine ⟨?_, ?_, ?_⟩ <;> simp [Notice.message, toLe, zeros]

end

/-- NOTIFY_CLEAR with and without a notification that waits. -/
theorem clearingNotifyPostsTheNext : Claims.ClearingNotifyPostsTheNext := by
  intro s hopen hboxes hruns
  have hlt : 3 < s.host.boxes.length := by omega
  have hbox := State.box_modBox (fun b => { b with notify := false }) hlt
  rw [exec_notifyClear hopen]
  refine ⟨fun hnone => ?_, fun n rest hn => ?_⟩
  · rw [State.postNotice_of_nil (by exact hnone)]
    exact answers_next ⟨by rw [hbox], by rw [hbox], rfl⟩
  · have hboxes' : 3 < (s.modBox 3 fun b => { b with notify := false }).host.boxes.length := by
      rw [(State.modBox_keeps ..).boxes]
      exact hlt
    obtain ⟨hnotices, hstore, hposted⟩ := State.postNotice_of_cons hboxes' (by rw [hbox]) hruns hn
    obtain ⟨hopcode, hflags, hbody⟩ := n.message_fields s.host.dropped
    refine answers_next ?_
    rw [hposted]
    exact ⟨rfl, hnotices, hopcode, hflags, hbody, hstore⟩

/-- Settles O41: a command that refuses changes its mailbox alone (`Asked.answers_refused`); one that is carried out runs on a state
that differs in the host interface (`Asked.answers`), and its equation (`cmdSchedSet_eq`, `cmdGclSet_eq`, `cmdPowerSet_eq`) says what
it makes of it: the boundary of a new CYCLE is log 99, the groups that are held down log 83. -/
theorem hostSetsSchedulersPowerAndNotices : Obligations.HostSetsSchedulersPowerAndNotices := by
  unfold Obligations.HostSetsSchedulersPowerAndNotices
  exact ⟨hostSetsSchedulersAndPower, clearingNotifyPostsTheNext⟩

end Sys2Proof.Machine
end

section
/-! SUPPORT. What gates, starvation clocks and rings leave of a scheduler: all but its queues' visits and clocks and the places in
its rings (R252, R258, R262). -/

namespace Sys2Proof.Machine

/-! ### Schedulers with other queues and rings -/

/-- The second scheduler is the first with other queues, and with other places in the same rings. -/
structure Sched.Refilled (d e : Sched) : Prop where
  eq : e = { d with queues := e.queues, rings := e.rings }
  classes : e.rings.map (·.cls) = d.rings.map (·.cls)

section
variable {d e x : Sched}

theorem Sched.Refilled.refl (d : Sched) : d.Refilled d := ⟨rfl, rfl⟩

theorem Sched.Refilled.trans (hde : d.Refilled e) (hex : e.Refilled x) : d.Refilled x :=
  ⟨by rw [hex.eq, hde.eq], hex.classes.trans hde.classes⟩

theorem Sched.Refilled.id_eq (h : d.Refilled e) : e.id = d.id := by rw [h.eq]

theorem Sched.Refilled.bridleKey (h : d.Refilled e) : e.bridleKey = d.bridleKey := by
  rw [Sched.bridleKey, h.id_eq, Sched.bridleKey]

/-- A class has a ring afterwards when it had one. -/
theorem Sched.Refilled.any_rings (h : d.Refilled e) (c : Nat) : e.rings.any (·.cls == c) = d.rings.any (·.cls == c) := by
  have hany := fun rs : List Ring => (List.any_map (f := Ring.cls) (l := rs) (p := (· == c))).symm
  exact (hany e.rings).trans ((congrArg (List.any · (· == c)) h.classes).trans (hany d.rings).symm)

theorem Sched.refilled_queues (d : Sched) (qs : List Queue) : d.Refilled { d with queues := qs } := ⟨rfl, rfl⟩

theorem Sched.refilled_modQueue (d : Sched) (c p : Nat) (f : Queue → Queue) : d.Refilled (d.modQueue c p f) := ⟨rfl, rfl⟩

theorem Sched.refilled_modRing (d : Sched) (c : Nat) {f : Ring → Ring} (h : ∀ r, (f r).cls = r.cls) :
    d.Refilled (d.modRing c f) := ⟨rfl, map_updateFirst fun r _ => h r⟩

end

/-! ### Gates see neither queues nor rings (R258, R259) -/

section
variable {d : Sched} (qs : List Queue) (rs : List Ring)

theorem Sched.nextCycle_holding (late : Nat) : ({ d with queues := qs, rings := rs } : Sched).nextCycle late =
    { d.nextCycle late with queues := qs, rings := rs } := by
  simp only [Sched.nextCycle, Sched.adopt]
  cases d.newGcl with
  | none => rfl
  | some x =>
    obtain ⟨from_, cycle, gs⟩ := x
    dsimp only
    split_ifs <;> rfl

theorem Sched.coming_holding (n : Nat) : Sched.coming n { d with queues := qs, rings := rs } = Sched.coming n d := by
  induction n generalizing d with
  | zero => rfl
  | succ n ih =>
    rw [Sched.coming, Sched.coming, Sched.nextCycle_holding, ih]
    rfl

theorem State.gateLeft_holding (s : State) (c p : Nat) :
    s.gateLeft { d with queues := qs, rings := rs } c p = s.gateLeft d c p := by
  rw [State.gateLeft, State.gateLeft, Sched.coming_holding]
  rfl

end

theorem Sched.Refilled.gateLeft {d e : Sched} (h : d.Refilled e) (s : State) (c p : Nat) : s.gateLeft e c p = s.gateLeft d c p := by
  rw [h.eq, State.gateLeft_holding]

theorem Sched.Refilled.gateFits {d e : Sched} (h : d.Refilled e) (s : State) {q x : Queue} (hcls : q.cls = x.cls)
    (hpaddock : q.paddock = x.paddock) (f : OutFrame) : s.gateFits e q (.frame f) = s.gateFits d x (.frame f) := by
  rw [State.gateFits, State.gateFits, State.timeFits, State.timeFits, h.gateLeft, hcls, hpaddock, State.elementTime,
    State.elementTime, h.id_eq]

/-! ### Queues but for their visits and clocks -/

/-- A queue but for its visit and its starvation clock. -/
def Queue.bare (q : Queue) : Queue := { q with visited := false, since := 0, counted := 0, counting := false }

/-- Schedulers whose queues are the same but for visits and clocks find the same queue. -/
theorem Sched.bare_queue_congr {d e : Sched} (h : e.queues.map Queue.bare = d.queues.map Queue.bare) (c p : Nat) :
    (e.queue c p).map Queue.bare = (d.queue c p).map Queue.bare := by
  have hfind := fun qs : List Queue =>
    List.find?_map (f := Queue.bare) (p := fun q : Queue => q.cls == c && q.paddock == p) (l := qs)
  exact (hfind e.queues).symm.trans ((congrArg (List.find? _) h).trans (hfind d.queues))

/-- Two queues that are the same but for visits and clocks. -/
theorem Queue.fields_of_bare {q x : Queue} (h : q.bare = x.bare) : q.cls = x.cls ∧ q.paddock = x.paddock ∧ q.items = x.items ∧
    q.deficit = x.deficit ∧ q.wheelAt = x.wheelAt := by
  simp only [Queue.bare, Queue.mk.injEq] at h
  tauto

/-! ### Starvation clocks (R262) -/

theorem Queue.bare_start (q : Queue) (now : Nat) : (q.start now).bare = q.bare := by
  rw [Queue.start]
  split <;> rfl

theorem Queue.bare_stop (q : Queue) (now : Nat) : (q.stop now).bare = q.bare := by
  rw [Queue.stop]
  split <;> rfl

section
variable {s : State} {d : Sched}

theorem State.refilled_reclock (s : State) (d : Sched) : d.Refilled (s.reclock d) := ⟨rfl, rfl⟩

theorem State.bare_reclock (s : State) (d : Sched) : (s.reclock d).queues.map Queue.bare = d.queues.map Queue.bare := by
  rw [State.reclock, List.map_map]
  refine List.map_congr_left fun q _ => ?_
  rw [Function.comp_apply]
  split
  · rfl
  · split
    · exact q.bare_start s.time
    · exact q.bare_stop s.time

/-! ### Rings (R252) -/

theorem Ring.join_cls (r : Ring) (p : Nat) : (r.join p).cls = r.cls := by
  rw [Ring.join]
  split <;> rfl

theorem Ring.leave_cls (r : Ring) (p : Nat) : (r.leave p).cls = r.cls := by
  rw [Ring.leave]
  split <;> rfl

theorem Ring.mem_join {r : Ring} {p x : Nat} : x ∈ (r.join p).order ↔ x = p ∨ x ∈ r.order := by
  rw [Ring.join]
  split
  · next h =>
    have hp : p ∈ r.order := by simpa using h
    exact ⟨.inr, fun hx => hx.elim (· ▸ hp) id⟩
  · simp only [List.mem_append, List.mem_cons]
    rw [or_left_comm, ← List.mem_append, List.take_append_drop]

/-- A paddock that leaves is gone, and no other. -/
theorem Ring.leave_order (r : Ring) (p : Nat) : (r.leave p).order = r.order.filter (· != p) := by
  rw [Ring.leave]
  cases h : r.order.findIdx? (· == p) with
  | none =>
    have hnone := List.findIdx?_eq_none_iff.mp h
    exact (List.filter_eq_self.mpr fun x hx => by simpa using hnone x hx).symm
  | some i => rfl

/-! ### Gates and rings (R252, R258, R266) -/

/-- A queue with work whose gate has opened joins its ring, and one whose gate has closed leaves it. -/
def State.regateQueue (s : State) (e : Sched) (q : Queue) : Sched :=
  let isOpen := (s.gateLeft e q.cls q.paddock).isSome
  let inside := (e.ring q.cls).order.contains q.paddock
  if isOpen && !inside then e.modRing q.cls fun r => r.join q.paddock
  else if !isOpen && inside then
    (e.modQueue q.cls q.paddock fun x => { x with visited := false }).modRing q.cls fun r => r.leave q.paddock
  else e

/-- A queue put into a list of queues in ascending paddock order. -/
def Queue.insert (l : List Queue) (q : Queue) : List Queue :=
  l.takeWhile (fun x => x.paddock ≤ q.paddock) ++ q :: l.dropWhile fun x => x.paddock ≤ q.paddock

/-- The queues with work that are off the wheel, in ascending paddock order. -/
def Sched.gated (d : Sched) : List Queue :=
  (d.queues.filter fun q => !q.items.isEmpty && q.wheelAt.isNone).foldl Queue.insert []

theorem State.regate_eq_foldl (s : State) (d : Sched) : s.regate d = d.gated.foldl s.regateQueue d := rfl

theorem Queue.mem_insert {l : List Queue} {q x : Queue} : x ∈ Queue.insert l q ↔ x = q ∨ x ∈ l := by
  rw [Queue.insert, List.mem_append, List.mem_cons, or_left_comm, ← List.mem_append, List.takeWhile_append_dropWhile]

theorem Queue.mem_foldl_insert {qs l : List Queue} {x : Queue} : x ∈ qs.foldl Queue.insert l ↔ x ∈ qs ∨ x ∈ l := by
  induction qs generalizing l with
  | nil => simp
  | cons q qs ih => rw [List.foldl_cons, ih, Queue.mem_insert, List.mem_cons, or_assoc, or_left_comm]

theorem Sched.mem_gated {q : Queue} (hq : q ∈ d.queues) (hitems : q.items ≠ []) (hwheel : q.wheelAt = none) : q ∈ d.gated :=
  Queue.mem_foldl_insert.mpr (.inl (List.mem_filter.mpr ⟨hq, by simp [hitems, hwheel]⟩))

section
variable {e : Sched} {q : Queue} {c p : Nat}

theorem State.refilled_regateQueue (s : State) (e : Sched) (q : Queue) : e.Refilled (s.regateQueue e q) := by
  rw [State.regateQueue]
  split
  · exact Sched.refilled_modRing _ _ fun r => r.join_cls _
  · split
    · exact (Sched.refilled_modQueue ..).trans (Sched.refilled_modRing _ _ fun r => r.leave_cls _)
    · exact .refl _

theorem State.bare_regateQueue (s : State) (e : Sched) (q : Queue) :
    (s.regateQueue e q).queues.map Queue.bare = e.queues.map Queue.bare := by
  rw [State.regateQueue]
  split
  · rfl
  · split
    · exact map_updateFirst fun _ _ => rfl
    · rfl

/-- A paddock whose gate is open keeps its place. -/
theorem State.mem_ring_regateQueue (hopen : (s.gateLeft e c p).isSome = true) (h : p ∈ (e.ring c).order) :
    p ∈ ((s.regateQueue e q).ring c).order := by
  have hring := Sched.any_rings_of_mem h
  rw [State.regateQueue]
  split
  · by_cases hc : q.cls = c
    · rw [hc, Sched.ring_modRing_self hring fun r => r.join_cls q.paddock]
      exact Ring.mem_join.mpr (.inr h)
    · rwa [Sched.ring_modRing_of_ne hc fun r => r.join_cls q.paddock]
  · split
    · next hclosed =>
      change p ∈ ((e.modRing q.cls fun r => r.leave q.paddock).ring c).order
      by_cases hc : q.cls = c
      · have hp : p ≠ q.paddock := by
          rintro rfl
          simp [hc, hopen] at hclosed
        rw [hc, Sched.ring_modRing_self hring fun r => r.leave_cls q.paddock, Ring.leave_order, List.mem_filter]
        exact ⟨h, by simpa using hp⟩
      · rw [Sched.ring_modRing_of_ne hc fun r => r.leave_cls q.paddock]
        exact h
    · exact h

/-- A queue whose gate is open has a place. -/
theorem State.mem_ring_regateQueue_self (hopen : (s.gateLeft e q.cls q.paddock).isSome = true)
    (hring : e.rings.any (·.cls == q.cls) = true) : q.paddock ∈ ((s.regateQueue e q).ring q.cls).order := by
  by_cases hin : q.paddock ∈ (e.ring q.cls).order
  · exact State.mem_ring_regateQueue hopen hin
  · have houtside : (e.ring q.cls).order.contains q.paddock = false := by simpa using hin
    rw [State.regateQueue, if_pos (by rw [hopen, houtside]; rfl), Sched.ring_modRing_self hring fun r => r.join_cls q.paddock]
    exact Ring.mem_join.mpr (.inl rfl)

end

theorem State.refilled_foldl_regateQueue (s : State) (qs : List Queue) (d : Sched) : d.Refilled (qs.foldl s.regateQueue d) :=
  List.foldlRecOn qs s.regateQueue (Sched.Refilled.refl d) fun e he q _ => he.trans (s.refilled_regateQueue e q)

theorem State.refilled_regate (s : State) (d : Sched) : d.Refilled (s.regate d) := s.refilled_foldl_regateQueue d.gated d

theorem State.bare_regate (s : State) (d : Sched) : (s.regate d).queues.map Queue.bare = d.queues.map Queue.bare :=
  foldl_keeps (f := s.regateQueue) (g := fun e : Sched => e.queues.map Queue.bare) s.bare_regateQueue d.gated d

section
variable {c p : Nat}

theorem State.mem_ring_foldl_regateQueue (hopen : (s.gateLeft d c p).isSome = true) (h : p ∈ (d.ring c).order) (qs : List Queue) :
    p ∈ ((qs.foldl s.regateQueue d).ring c).order := by
  refine (List.foldlRecOn (motive := fun e => d.Refilled e ∧ p ∈ (e.ring c).order) qs s.regateQueue ⟨.refl d, h⟩
    fun e he q _ => ?_).2
  exact ⟨he.1.trans (s.refilled_regateQueue e q), State.mem_ring_regateQueue (by rw [he.1.gateLeft]; exact hopen) he.2⟩

theorem State.mem_ring_regate (hopen : (s.gateLeft d c p).isSome = true) (h : p ∈ (d.ring c).order) :
    p ∈ ((s.regate d).ring c).order := State.mem_ring_foldl_regateQueue hopen h d.gated

/-- A queue with work, off the wheel, whose gate is open has a place in its ring (R252, R258). -/
theorem State.mem_ring_regate_of_open {q : Queue} (hq : q ∈ d.queues) (hitems : q.items ≠ []) (hwheel : q.wheelAt = none)
    (hopen : (s.gateLeft d q.cls q.paddock).isSome = true) (hring : d.rings.any (·.cls == q.cls) = true) :
    q.paddock ∈ ((s.regate d).ring q.cls).order := by
  obtain ⟨before, after, hgated⟩ := List.append_of_mem (Sched.mem_gated hq hitems hwheel)
  have hrefilled := s.refilled_foldl_regateQueue before d
  have hself := State.mem_ring_regateQueue_self (s := s) (e := before.foldl s.regateQueue d) (q := q)
    (by rw [hrefilled.gateLeft]; exact hopen) (by rw [hrefilled.any_rings]; exact hring)
  rw [State.regate_eq_foldl, hgated, List.foldl_append, List.foldl_cons]
  refine State.mem_ring_foldl_regateQueue ?_ hself after
  rw [(hrefilled.trans (s.refilled_regateQueue _ q)).gateLeft]
  exact hopen

end

end

end Sys2Proof.Machine
end

section
/-! O5. A decision of egress for its one active queue, promoted or not (R248, R250, R252, R259, R262, R263, R372). -/

namespace Sys2Proof.Machine

/-! ### Starved queues (R262, R263, R266) -/

theorem mem_of_maxBy {α : Type} {key : α → Nat} {xs : List α} {x : α} (h : maxBy key xs = some x) : x ∈ xs := by
  induction xs generalizing x with
  | nil => cases h
  | cons a xs ih =>
    rw [maxBy] at h
    cases hy : maxBy key xs with
    | none => simp_all
    | some y =>
      have hmem := ih hy
      rw [hy] at h
      dsimp only at h
      split at h <;> simp_all

/-- A queue promoted with one added QUANTUM (R263). -/
def Queue.promote (q : Queue) : Queue := { q with promoted := true, deficit := q.deficit + (q.quantum : Int) }

/-- The promotion of a share's first starved queue (R262, R263). -/
def State.promoteShare (s : State) (e : Sched) (key : Nat) : Sched :=
  if e.queues.any fun q => q.promoted && s.shareKey e q.paddock == key then e
  else
    match s.nextStarved e key with
    | none => e
    | some q =>
      if s.bucketAt e key < ((q.quantum * e.unitBytes : Nat) : Int) then e else e.modQueue q.cls q.paddock Queue.promote

section
variable {s : State} {d e : Sched} {q : Queue} {key : Nat}

theorem State.firstStarved_some {cs : List Nat} {P : Queue → Bool} (h : s.firstStarved d cs P = some q) :
    (∃ c p, d.queue c p = some q) ∧ P q = true := by
  obtain ⟨ys, hys, hq⟩ := List.mem_flatten.mp (mem_of_maxBy h)
  obtain ⟨c, -, rfl⟩ := List.mem_map.mp hys
  obtain ⟨p, -, hp⟩ := List.mem_filterMap.mp hq
  obtain ⟨x, hx, hsel⟩ := Option.bind_eq_some_iff.mp hp
  split at hsel
  · next hP =>
    obtain rfl := Option.some.inj hsel
    exact ⟨⟨c, p, hx⟩, hP⟩
  · cases hsel

theorem State.nextStarved_some (h : s.nextStarved d key = some q) :
    (∃ c p, d.queue c p = some q) ∧ s.shareKey d q.paddock = key := by
  obtain ⟨hq, hP⟩ := State.firstStarved_some h
  simp only [Bool.and_eq_true, beq_iff_eq] at hP
  exact ⟨hq, hP.1.2⟩

theorem State.promote_eq_foldl (s : State) (d : Sched) : s.promote d =
    (((d.queues.map fun (q : Queue) => s.shareKey d q.paddock)).eraseDups).foldl s.promoteShare d := rfl

/-- A share's promotion changes nothing, or promotes a queue of the share. -/
theorem State.promoteShare_cases (s : State) (e : Sched) (key : Nat) : s.promoteShare e key = e ∨
    ∃ q, (∃ c p, e.queue c p = some q) ∧ s.shareKey e q.paddock = key ∧
      s.promoteShare e key = e.modQueue q.cls q.paddock Queue.promote := by
  rw [State.promoteShare]
  split
  · exact .inl rfl
  · cases hq : s.nextStarved e key with
    | none => exact .inl rfl
    | some q =>
      obtain ⟨hmem, hshare⟩ := State.nextStarved_some hq
      dsimp only
      split
      · exact .inl rfl
      · exact .inr ⟨q, hmem, hshare, rfl⟩

end

/-! ### One active queue (R248, R250, R252) -/

/-- A queue of a class and paddock is empty, with a deficit of 0, and the class's ring too. -/
def Sched.Emptied (d : Sched) (c p : Nat) : Prop :=
  ∃ x, d.queue c p = some x ∧ x.items = [] ∧ x.deficit = 0 ∧ (d.ring c).order = []

/-- A decision that releases the one item of a queue, which leaves its ring. -/
def Served.Releases (r : Sched × Served) (d : Sched) (c p : Nat) (i : Item) (cost : Nat) : Prop :=
  ∃ d' q, r = (d', .item q i cost) ∧ q.cls = c ∧ q.paddock = p ∧ d'.id = d.id ∧ d'.Emptied c p

section
variable {s : State} {d : Sched} {x : Queue} {f : OutFrame} {cost c p : Nat}

/-- A queue left empty leaves its ring with a deficit of 0 (R252). -/
theorem Sched.settle_emptied (hx : d.queue c p = some x) (hitems : x.items = []) (hring : (d.ring c).order = [p]) :
    (d.settle c p).Emptied c p ∧ (d.settle c p).id = d.id := by
  have hsettle : d.settle c p = (d.modQueue c p fun x => { x with visited := false, deficit := 0, promoted := false }).modRing c
      fun r => r.leave p := by
    rw [Sched.settle, hx]
    dsimp only
    rw [hitems]
  have hany : d.rings.any (·.cls == c) = true := Sched.any_rings_of_mem (p := p) (by simp [hring])
  refine ⟨⟨{ x with visited := false, deficit := 0, promoted := false }, ?_, hitems, rfl, ?_⟩, by rw [hsettle]; rfl⟩
  · rw [hsettle]
    exact Sched.queue_modQueue_self (f := fun x => { x with visited := false, deficit := 0, promoted := false }) hx rfl rfl
  · rw [hsettle, Sched.ring_modRing_self (by exact hany) fun r => r.leave_cls p, Ring.leave_order]
    change (d.ring c).order.filter (· != p) = []
    simp [hring]

/-- The one item of a queue is taken, and the queue leaves its ring. -/
theorem Sched.takeHead_settle_emptied {i : Item} (now : Nat) (hx : d.queue c p = some x) (hitems : x.items = [(i, cost)])
    (hring : (d.ring c).order = [p]) :
    ((d.takeHead now c p cost).settle c p).Emptied c p ∧ ((d.takeHead now c p cost).settle c p).id = d.id := by
  have htaken : (d.takeHead now c p cost).queue c p = some { x with
      items := x.items.drop 1, deficit := x.deficit - (cost : Int), since := now, counted := 0, counting := true } :=
    Sched.queue_modQueue_self (f := fun q : Queue => { q with
      items := q.items.drop 1, deficit := q.deficit - (cost : Int), since := now, counted := 0, counting := true }) hx rfl rfl
  exact Sched.settle_emptied htaken (by simp [hitems]) hring

/-- A head that one QUANTUM covers lets no round be folded (R251). -/
theorem Sched.fold_of_fits {i : Item} {waiting : List Nat} (hx : x ∈ d.queues) (hcls : x.cls = c) (hitems : x.items = [(i, cost)])
    (hin : x.paddock ∈ (d.ring c).order) (hwaiting : x.paddock ∉ waiting)
    (hcost : (cost : Int) ≤ x.deficit + (x.quantum : Int)) : d.fold c waiting = d := by
  have hvisits : x.visits ≤ 1 := by
    rw [Queue.visits, hitems]
    dsimp only
    split
    · omega
    · have hle : ((cost : Int) - x.deficit).toNat ≤ max 1 x.quantum := by omega
      have hdiv : ceilDiv ((cost : Int) - x.deficit).toNat (max 1 x.quantum) ≤ 1 := by
        rw [ceilDiv]
        refine Nat.le_of_lt_succ (Nat.div_lt_of_lt_mul ?_)
        omega
      omega
  have hmin : minNat ((d.queues.filter fun q => q.cls == c && (d.ring c).order.contains q.paddock &&
      !waiting.contains q.paddock).map Queue.visits) ≤ 1 := by
    refine (minNat_le (List.mem_map_of_mem (List.mem_filter.mpr ⟨hx, ?_⟩))).trans hvisits
    simp [hcls, hin, hwaiting]
  rw [Sched.fold]
  exact if_pos (Bool.or_eq_true_iff.mpr (.inr (decide_eq_true hmin)))

end

section
variable {s : State} {d : Sched} {x : Queue} {f : OutFrame} {cost : Nat}

/-- A round begins where the visits of the last one are used up (R250). -/
def Sched.beginRound (d : Sched) (c n : Nat) : Sched := if (d.ring c).round ≤ n then d.modRing c Ring.newRound else d

theorem Sched.refilled_beginRound (d : Sched) (c n : Nat) : d.Refilled (d.beginRound c n) := by
  rw [Sched.beginRound]
  split
  · exact Sched.refilled_modRing _ _ fun _ => rfl
  · exact .refl _

theorem Sched.beginRound_queues (d : Sched) (c n : Nat) : (d.beginRound c n).queues = d.queues := by
  rw [Sched.beginRound]
  split <;> rfl

theorem Sched.beginRound_order {c p : Nat} (n : Nat) (h : (d.ring c).order = [p]) : ((d.beginRound c n).ring c).order = [p] := by
  have hany : d.rings.any (·.cls == c) = true := Sched.any_rings_of_mem (p := p) (by simp [h])
  rw [Sched.beginRound]
  split
  · rw [Sched.ring_modRing_self (f := Ring.newRound) hany fun _ => rfl]
    exact h
  · exact h

/-- A queue in a visit: when the visit begins, QUANTUM is added to its deficit (R250). -/
def Queue.inVisit (q : Queue) : Queue :=
  if q.visited then q else { q with deficit := q.deficit + (q.quantum : Int), visited := true }

theorem Queue.inVisit_of_unvisited (h : x.visited = false) :
    x.inVisit = { x with deficit := x.deficit + (x.quantum : Int), visited := true } := if_neg (by simp [h])

/-- A visit of the one queue of a class, at egress, whose head fits (R250, R259). -/
theorem State.serveClass_lone (hegress : 16 ≤ d.id) (hqueues : d.queues = [x]) (hring : (d.ring x.cls).order = [x.paddock])
    (hvisited : x.visited = false) (hitems : x.items = [(.frame f, cost)]) (hcost : (cost : Int) ≤ x.deficit + (x.quantum : Int))
    (hbridle : s.bridle d x.cls x.paddock = none) (hfits : s.gateFits d x (.frame f) = true) (fuel : Nat) :
    Served.Releases (s.serveClass x.cls (fuel + 1) [] d) d x.cls x.paddock (.frame f) cost := by
  obtain ⟨e, hbegin⟩ : ∃ e, d.beginRound x.cls 0 = e := ⟨_, rfl⟩
  have hround : d.Refilled e := hbegin ▸ d.refilled_beginRound x.cls 0
  have hequeues : e.queues = [x] := hbegin ▸ (d.beginRound_queues x.cls 0).trans hqueues
  have hering : (e.ring x.cls).order = [x.paddock] := hbegin ▸ Sched.beginRound_order 0 hring
  have hex : e.queue x.cls x.paddock = some x := by rw [Sched.queue, hequeues]; simp
  have hfold : e.fold x.cls [] = e :=
    Sched.fold_of_fits (by simp [hequeues]) rfl hitems (by simp [hering]) (by simp) hcost
  obtain ⟨y, hy⟩ : ∃ y, x.inVisit = y := ⟨_, rfl⟩
  have hyeq := hy.symm.trans (Queue.inVisit_of_unvisited hvisited)
  obtain ⟨v, hv⟩ : ∃ v, (e.modQueue x.cls x.paddock fun _ => y) = v := ⟨_, rfl⟩
  have hvisit : d.Refilled v := hv ▸ hround.trans (e.refilled_modQueue x.cls x.paddock fun _ => y)
  have hvy : v.queue x.cls x.paddock = some y := by
    rw [← hv]
    exact Sched.queue_modQueue_self hex (by rw [hyeq]) (by rw [hyeq])
  have hvbridle : s.bridle v x.cls x.paddock = none := by
    rw [State.bridle_congr rfl hvisit.bridleKey]
    exact hbridle
  have hvfits : s.gateFits v y (.frame f) = true := by
    rw [hvisit.gateFits s (q := y) (x := x) (by rw [hyeq]) (by rw [hyeq])]
    exact hfits
  have hroom : s.roomFor v x.paddock cost = true := by
    rw [State.roomFor, hvisit.id_eq, if_pos hegress]
  have hyitems : y.items = [(.frame f, cost)] := by rw [hyeq]; exact hitems
  have hyfits : (cost : Int) ≤ y.deficit := by rw [hyeq]; exact hcost
  have hserved : s.serveClass x.cls (fuel + 1) [] d =
      ((v.takeHead s.time x.cls x.paddock cost).settle x.cls x.paddock, .item y (.frame f) cost) := by
    have hfirst : (d.ring x.cls).order.findIdx? (fun p => !([] : List Nat).contains p) = some 0 := by rw [hring]; rfl
    have hhead : (e.ring x.cls).order.getD 0 0 = x.paddock := by rw [hering]; rfl
    rw [Sched.beginRound] at hbegin
    rw [Queue.inVisit] at hy
    rw [State.serveClass, hfirst]
    dsimp only
    rw [hbegin, hfold, hhead, hex]
    dsimp only
    rw [hy, hv, hyitems]
    dsimp only
    rw [if_pos hyfits, hvbridle, hvfits, hroom]
    rfl
  obtain ⟨hemptied, hid⟩ := Sched.takeHead_settle_emptied s.time hvy hyitems (by rw [← hv]; exact hering)
  exact ⟨_, y, hserved, by rw [hyeq], by rw [hyeq], hid.trans hvisit.id_eq, hemptied⟩

end

/-! ### A decision for the one active queue (R248, R262) -/

section
variable {s : State} {d : Sched} {x : Queue} {f : OutFrame} {cost : Nat}

/-- With no promoted queue no visit of one is over. -/
theorem Sched.endSpent_of_unpromoted (h : ∀ q ∈ d.queues, q.promoted = false) (now : Nat) : d.endSpent now = d := by
  have hsame : ∀ q ∈ d.queues, (if q.promoted && (match q.items with | [] => true | i :: _ => decide (q.deficit < (i.2 : Int)))
      then { q with promoted := false, since := now, counted := 0 } else q) = q := fun q hq => if_neg (by simp [h q hq])
  exact congrArg (fun qs => { d with queues := qs }) ((List.map_congr_left hsame).trans (List.map_id _))

/-- The classes that are served, where one ring alone holds queues and its class is not paused. -/
theorem State.classOrder_of_lone {c : Nat} (hegress : 16 ≤ d.id) (hc : c < 8) (hring : (d.ring c).order ≠ [])
    (hothers : ∀ k, k ≠ c → (d.ring k).order = []) (hpaused : s.classPaused d c = false) : s.classOrder d = [c] := by
  have hselects : ∀ k, (!(d.ring k).order.isEmpty && !s.classPaused d k) = (k == c) := fun k => by
    by_cases hk : k = c
    · simp [hk, hring, hpaused]
    · simp [hk, hothers k hk]
  have hmem : c ∈ [7, 6, 5, 4, 3, 2, 1, 0] := by
    simp only [List.mem_cons, List.not_mem_nil]
    omega
  rw [State.classOrder, if_neg (by omega)]
  simp only [hselects]
  rw [List.filter_beq, List.count_eq_one_of_mem (by decide) hmem]
  rfl

/-- Promotion leaves the one queue, or promotes it. -/
theorem State.promote_lone (hqueues : d.queues = [x]) : s.promote d = d ∨ s.promote d = { d with queues := [x.promote] } := by
  have hkeys : (d.queues.map fun (q : Queue) => s.shareKey d q.paddock).eraseDups = [s.shareKey d x.paddock] := by
    rw [hqueues]
    rfl
  rw [State.promote_eq_foldl, hkeys, List.foldl_cons, List.foldl_nil]
  refine (s.promoteShare_cases d _).imp_right fun ⟨q, ⟨c, p, hq⟩, _, heq⟩ => ?_
  have hmem := Sched.queue_mem hq
  rw [hqueues, List.mem_singleton] at hmem
  subst hmem
  rw [heq, Sched.modQueue, hqueues]
  simp [updateFirst]

/-- Without a promoted queue the classes are served. -/
theorem State.servePromoted_of_none (h : ∀ q ∈ d.queues, q.promoted = false) : s.servePromoted d = none := by
  have hnone : s.promotedQueue d = none := by
    rw [Option.eq_none_iff_forall_ne_some]
    intro q hq
    obtain ⟨⟨c, p, hmem⟩, hP⟩ := State.firstStarved_some hq
    exact absurd ((h q (Sched.queue_mem hmem)).symm.trans hP) (by decide)
  rw [State.servePromoted, hnone]

/-- The visit of the one queue while it is promoted (R262). -/
theorem State.servePromoted_lone (hegress : 16 ≤ d.id) (hqueues : d.queues = [x]) (hring : (d.ring x.cls).order = [x.paddock])
    (hclasses : s.classOrder d = [x.cls]) (hpromoted : x.promoted = true) (hitems : x.items = [(.frame f, cost)])
    (hcost : (cost : Int) ≤ x.deficit) (hbridle : s.bridle d x.cls x.paddock = none) (hfits : s.gateFits d x (.frame f) = true) :
    ∃ r, s.servePromoted d = some r ∧ Served.Releases r d x.cls x.paddock (.frame f) cost := by
  have hx : d.queue x.cls x.paddock = some x := by rw [Sched.queue, hqueues]; simp
  have hfirst : s.promotedQueue d = some x := by
    rw [State.promotedQueue, State.firstStarved, hclasses]
    simp [hring, hx, hpromoted, maxBy]
  have hroom : s.roomFor d x.paddock cost = true := by rw [State.roomFor, if_pos hegress]
  let taken : Queue → Queue := fun q => { q with
    items := q.items.drop 1, deficit := q.deficit - (cost : Int), since := s.time, counted := 0, counting := true }
  let charged := s.chargeBucket (d.takeHead s.time x.cls x.paddock cost)
    (s.shareKey (d.takeHead s.time x.cls x.paddock cost) x.paddock) f.wire
  let ended := charged.modQueue x.cls x.paddock fun y => { y with promoted := false }
  have htaken : charged.queue x.cls x.paddock = some (taken x) := Sched.queue_modQueue_self (f := taken) hx rfl rfl
  have hended : ended.queue x.cls x.paddock = some { taken x with promoted := false } :=
    Sched.queue_modQueue_self (f := fun y => { y with promoted := false }) htaken rfl rfl
  have hempty : (taken x).items = [] := by
    change x.items.drop 1 = []
    rw [hitems]
    rfl
  obtain ⟨hemptied, hid⟩ := Sched.settle_emptied (d := ended) hended hempty hring
  refine ⟨(ended.settle x.cls x.paddock, .item x (.frame f) cost), ?_, _, x, rfl, rfl, rfl, hid, hemptied⟩
  rw [State.servePromoted, hfirst]
  dsimp only
  rw [hitems]
  dsimp only
  rw [hfits, hbridle, hroom]
  exact if_pos (by simp [hcost])

/-- A decision of egress on its one active queue, whose head fits (R248, R250, R252, R259). -/
theorem State.serve_onlyQueue (hegress : 16 ≤ d.id) (honly : d.onlyQueue x) (hc : x.cls < 8)
    (hitems : x.items = [(.frame f, cost)]) (hcost : (cost : Int) ≤ x.deficit + (x.quantum : Int)) (hbridle : s.bridle d x.cls x.paddock = none)
    (hfits : s.gateFits d x (.frame f) = true) (hpaused : s.classPaused d x.cls = false) :
    Served.Releases (s.serve d) d x.cls x.paddock (.frame f) cost := by
  obtain ⟨hqueues, hpromoted, hvisited, -, hring, hothers⟩ := honly
  have hnone : ∀ q ∈ d.queues, q.promoted = false := by simpa [hqueues] using hpromoted
  have hclasses := State.classOrder_of_lone (s := s) hegress hc (by simp [hring]) hothers hpaused
  rw [State.serve, Sched.endSpent_of_unpromoted hnone]
  rcases State.promote_lone (s := s) hqueues with heq | heq
  · have hserved := State.serveClass_lone (s := s) hegress hqueues hring hvisited hitems hcost hbridle hfits 29
    rw [heq, State.servePromoted_of_none hnone, hclasses]
    dsimp only
    rw [State.serveClasses, hring]
    obtain ⟨d', q, hr, hrest⟩ := hserved
    exact ⟨d', q, by rw [show visitBound [x.paddock].length = 29 + 1 from rfl, hr], hrest⟩
  · have hrefilled := d.refilled_queues [x.promote]
    obtain ⟨r, hr, hreleases⟩ := State.servePromoted_lone (s := s) (d := { d with queues := [x.promote] })
      (x := x.promote) (f := f) (cost := cost) hegress rfl hring hclasses rfl hitems hcost ((State.bridle_congr rfl hrefilled.bridleKey).trans hbridle)
      ((hrefilled.gateFits s rfl rfl f).trans hfits)
    rw [heq, hr]
    exact hreleases

/-- Gates change nothing where the one queue is in its ring and its gate open. -/
theorem State.regate_onlyQueue (honly : d.onlyQueue x) (hitems : x.items ≠ [])
    (hopen : (s.gateLeft d x.cls x.paddock).isSome = true) : s.regate d = d := by
  obtain ⟨hqueues, -, -, hwheel, hring, -⟩ := honly
  have hgated : d.gated = [x] := by
    rw [Sched.gated, hqueues]
    simp [hitems, hwheel, Queue.insert]
  have hin : (d.ring x.cls).order.contains x.paddock = true := by simp [hring]
  rw [State.regate_eq_foldl, hgated, List.foldl_cons, List.foldl_nil, State.regateQueue, hopen, hin]
  rfl

theorem State.gateLeft_of_fits (h : s.gateFits d x (.frame f) = true) : (s.gateLeft d x.cls x.paddock).isSome = true := by
  rw [State.gateFits, State.timeFits] at h
  cases hleft : s.gateLeft d x.cls x.paddock with
  | none => simp [hleft] at h
  | some t => rfl

end

/-! ### EGRESS_SERVE (R248, R250, R259, R372) -/

section
variable {s : State} {link : Nat} {l : Link} {d : Sched} {q : Queue} {f : OutFrame} {cost : Nat}

theorem exec_egressServe_idle (hl : s.net.links.find? (·.id == link) = some l) (hd : s.sched (16 + link) = some d)
    (hidle : l.up = false ∨ s.linkIdle link = true) : exec (.egressServe link) s = .next s := by
  change execEgressServe link s = _
  rw [execEgressServe, hd, hl]
  exact if_pos (by simpa using hidle)

/-- The node once a frame has left on a link: its first transmission is counted (R296). -/
def State.sent (s : State) (link : Nat) (q : Queue) (f : OutFrame) : State :=
  (if f.first then s.tally q.paddock 5 f.wire else s).emit (f.output link)

theorem exec_egressServe_sends {d' : Sched} (hl : s.net.links.find? (·.id == link) = some l) (hd : s.sched (16 + link) = some d)
    (hup : l.up = true) (hawake : s.linkIdle link = false) (hserve : s.serve (s.regate d) = (d', .item q (.frame f) cost)) :
    exec (.egressServe link) s = .next (((s.putSched d').chargeBridle d' q f.wire).sent link q f) := by
  change execEgressServe link s = _
  rw [execEgressServe, hd, hl]
  dsimp only
  rw [hup, hawake, if_neg (by decide), hserve]
  rfl

theorem State.chargeBridle_of_none (h : s.bridle d q.cls q.paddock = none) (bytes : Nat) : s.chargeBridle d q bytes = s := by
  rw [State.chargeBridle, h]

end

/-- EGRESS_SERVE on one active queue. -/
theorem egressSendsTheHeadFrame : Claims.EgressSendsTheHeadFrame := by
  intro link s l d x f cost hl hd honly hfits hitems hc hcost hbridle hpaused
  refine ⟨exec_egressServe_idle hl hd, fun hup hawake => ?_⟩
  have hid := State.sched_id hd
  have hregate := State.regate_onlyQueue (s := s) honly (by simp [hitems]) (State.gateLeft_of_fits hfits)
  obtain ⟨d', q, hserve, hcls, hpaddock, hid', hemptied⟩ :=
    State.serve_onlyQueue (s := s) (by omega) honly hc hitems hcost hbridle hfits hpaused
  have hkey : d'.bridleKey = d.bridleKey := by rw [Sched.bridleKey, hid', Sched.bridleKey]
  have hcharge : (s.putSched d').chargeBridle d' q f.wire = s.putSched d' := by
    refine State.chargeBridle_of_none ?_ _
    rw [State.bridle_congr (s := s) (t := s.putSched d') rfl hkey, hcls, hpaddock]
    exact hbridle
  have hput : (s.putSched d').sched (16 + link) = some d' := State.sched_putSched hd (hid'.trans hid)
  rw [exec_egressServe_sends hl hd hup hawake (by rw [hregate]; exact hserve), hcharge, State.sent, hpaddock]
  obtain ⟨x', hx', hempty, hdeficit, horder⟩ := hemptied
  have hkind : f.kind = .packet → f.output link = .frame link f.bytes := fun h => by rw [OutFrame.output, h]
  cases hfirst : f.first with
  | true =>
    refine answers_next ⟨rfl, hkind, ⟨d', x', hput, hx', hempty, hdeficit, horder⟩, fun _ => ?_, nofun, rfl, rfl, rfl⟩
    exact (s.putSched d').pad_tally x.paddock 5 f.wire
  | false => exact answers_next ⟨rfl, hkind, ⟨d', x', hput, hx', hempty, hdeficit, horder⟩, nofun, fun _ => rfl, rfl, rfl, rfl⟩

end Sys2Proof.Machine
end

section
/-! O5. The timing wheel (R252, R257), promotion (R262, R263), gates and catch-up (R258, R260, R261). -/

namespace Sys2Proof.Machine

/-! ### The timing wheel (R252, R257) -/

theorem mem_of_minBy {α : Type} {key : α → Nat} {xs : List α} {x : α} (h : minBy key xs = some x) : x ∈ xs := by
  induction xs generalizing x with
  | nil => cases h
  | cons a xs ih =>
    rw [minBy] at h
    cases hy : minBy key xs with
    | none => simp_all
    | some y =>
      have hmem := ih hy
      rw [hy] at h
      dsimp only at h
      split at h <;> simp_all

theorem mem_or_image_of_mem_updateFirst {α : Type} {p : α → Bool} {f : α → α} {xs : List α} {x : α}
    (h : x ∈ updateFirst p f xs) : x ∈ xs ∨ ∃ y, p y = true ∧ x = f y := by
  induction xs with
  | nil => cases h
  | cons y ys ih =>
    rw [updateFirst] at h
    split at h
    · next hp => exact (List.mem_cons.mp h).elim (fun h => .inr ⟨y, hp, h⟩) fun h => .inl (by simp [h])
    · exact (List.mem_cons.mp h).elim (fun h => .inl (by simp [h])) fun h => (ih h).imp_left (List.mem_cons_of_mem y)

theorem minBy_id_eq_some {xs : List Nat} {a : Nat} (ha : a ∈ xs) (hle : ∀ x ∈ xs, a ≤ x) : minBy id xs = some a := by
  induction xs with
  | nil => cases ha
  | cons x xs ih =>
    rw [minBy]
    have hax : a ≤ x := hle x (by simp)
    by_cases hin : a ∈ xs
    · rw [ih hin fun y hy => hle y (by simp [hy])]
      dsimp only [id]
      split
      · rfl
      · congr 1
        omega
    · obtain rfl : a = x := (List.mem_cons.mp ha).resolve_right hin
      cases hmin : minBy id xs with
      | none => rfl
      | some y =>
        have hay : a ≤ y := hle y (List.mem_cons_of_mem _ (mem_of_minBy hmin))
        exact if_neg (Nat.not_lt.mpr hay)

/-- Whether a queue's slot of the wheel has begun (R257). -/
def Queue.dueBy (now : Nat) (q : Queue) : Bool := match q.wheelAt with | none => false | some w => w ≤ now

section
variable {s : State} {d e : Sched} {q x : Queue} {i at_ : Nat}

theorem exec_wheelSlotStart (hd : s.sched i = some d) (hmin : minBy id (d.queues.filterMap (·.wheelAt)) = some at_) :
    exec (.wheelSlotStart i) s = .next ((s.advanceTo at_).putSched ((s.advanceTo at_).reclock
      ((d.queues.filter (Queue.dueBy (s.advanceTo at_).time)).foldl (s.advanceTo at_).fromWheel d))) := by
  change execWheelSlotStart i s = _
  rw [execWheelSlotStart, hd]
  dsimp only
  rw [hmin]
  rfl

/-- A queue that comes from the wheel is changed, and gates may be looked at again. -/
theorem State.fromWheel_cases (s : State) (e : Sched) (q : Queue) : ∃ g : Queue → Queue,
    (∀ y, (g y).cls = y.cls) ∧ (∀ y, (g y).paddock = y.paddock) ∧
    (s.fromWheel e q = e.modQueue q.cls q.paddock g ∨ s.fromWheel e q = s.regate (e.modQueue q.cls q.paddock g)) := by
  rw [State.fromWheel]
  split
  · exact ⟨fun y => { y with wheelAt := none, deficit := 0 }, fun _ => rfl, fun _ => rfl, .inl rfl⟩
  · split
    · next n _ =>
      exact ⟨fun y => { y with wheelAt := some (wheelSlot s.time (s.time + n + 1)) }, fun _ => rfl, fun _ => rfl, .inl rfl⟩
    · exact ⟨fun y => { y with wheelAt := none }, fun _ => rfl, fun _ => rfl, .inr rfl⟩

theorem State.refilled_fromWheel (s : State) (e : Sched) (q : Queue) : e.Refilled (s.fromWheel e q) := by
  obtain ⟨g, -, -, hg | hg⟩ := s.fromWheel_cases e q <;> rw [hg]
  · exact e.refilled_modQueue ..
  · exact (e.refilled_modQueue ..).trans (s.refilled_regate _)

/-- Another queue that comes from the wheel leaves a queue but for its visit and clock. -/
theorem State.bare_queue_fromWheel {c p : Nat} (h : (q.cls, q.paddock) ≠ (c, p)) :
    ((s.fromWheel e q).queue c p).map Queue.bare = (e.queue c p).map Queue.bare := by
  obtain ⟨g, hcls, hpaddock, hg | hg⟩ := s.fromWheel_cases e q <;> rw [hg]
  · rw [Sched.queue_modQueue_of_ne h hcls hpaddock]
  · rw [Sched.bare_queue_congr (s.bare_regate _), Sched.queue_modQueue_of_ne h hcls hpaddock]

/-- A queue whose gate is open keeps its place. -/
theorem State.mem_ring_fromWheel {c p : Nat} (hopen : (s.gateLeft e c p).isSome = true) (h : p ∈ (e.ring c).order) :
    p ∈ ((s.fromWheel e q).ring c).order := by
  obtain ⟨g, -, -, hg | hg⟩ := s.fromWheel_cases e q <;> rw [hg]
  · exact h
  · exact State.mem_ring_regate (by rw [(e.refilled_modQueue ..).gateLeft]; exact hopen) h

/-- A queue with the credit for its head leaves the wheel (R257). -/
theorem State.fromWheel_of_credit {j : Item} {cost : Nat} {rest : List (Item × Nat)} (hitems : q.items = (j, cost) :: rest)
    (hcredit : ∀ b, s.bridle e q.cls q.paddock = some b → (b.at_ s.time).wait (itemBytes cost j) = 0) :
    s.fromWheel e q = s.regate (e.modQueue q.cls q.paddock fun y => { y with wheelAt := none }) := by
  rw [State.fromWheel, hitems]
  dsimp only
  cases hb : s.bridle e q.cls q.paddock with
  | none => rfl
  | some b =>
    rw [Option.map_some, hcredit b hb]

/-- A queue of the wheel with the credit for its head and an open gate takes a place in its ring, its deficit unchanged. -/
theorem State.fromWheel_enters {j : Item} {cost : Nat} {rest : List (Item × Nat)} (hq : e.queue q.cls q.paddock = some x)
    (hx : x.bare = q.bare) (hitems : q.items = (j, cost) :: rest)
    (hcredit : ∀ b, s.bridle e q.cls q.paddock = some b → (b.at_ s.time).wait (itemBytes cost j) = 0)
    (hopen : (s.gateLeft e q.cls q.paddock).isSome = true) (hring : e.rings.any (·.cls == q.cls) = true) :
    ((s.fromWheel e q).queue q.cls q.paddock).map Queue.bare = some { q with wheelAt := none }.bare ∧
    q.paddock ∈ ((s.fromWheel e q).ring q.cls).order := by
  obtain ⟨hcls, hpaddock, hxitems, -, -⟩ := Queue.fields_of_bare hx
  have hoff : (e.modQueue q.cls q.paddock fun y => { y with wheelAt := none }).queue q.cls q.paddock =
      some { x with wheelAt := none } := Sched.queue_modQueue_self hq rfl rfl
  have hopen' : (s.gateLeft (e.modQueue q.cls q.paddock fun y => { y with wheelAt := none }) x.cls x.paddock).isSome = true := by
    rw [(e.refilled_modQueue ..).gateLeft, hcls, hpaddock]
    exact hopen
  rw [State.fromWheel_of_credit hitems hcredit]
  refine ⟨?_, ?_⟩
  · rw [Sched.bare_queue_congr (s.bare_regate _), hoff]
    exact congrArg (fun y : Queue => some { y with wheelAt := none }) hx
  · have hplace := State.mem_ring_regate_of_open (s := s) (Sched.queue_mem hoff) (by simp [hxitems, hitems]) rfl hopen'
      (by rw [hcls]; exact hring)
    dsimp only at hplace
    rwa [hcls, hpaddock] at hplace

/-- Of the queues that come from the wheel one after the other, none has the class and paddock of one that is not among them. -/
theorem State.foldl_fromWheel_other {ys : List Queue} (h : ∀ y ∈ ys, (y.cls, y.paddock) ≠ (q.cls, q.paddock)) (e : Sched) :
    e.Refilled (ys.foldl s.fromWheel e) ∧
    ((ys.foldl s.fromWheel e).queue q.cls q.paddock).map Queue.bare = (e.queue q.cls q.paddock).map Queue.bare ∧
    ((s.gateLeft e q.cls q.paddock).isSome = true → q.paddock ∈ (e.ring q.cls).order →
      q.paddock ∈ ((ys.foldl s.fromWheel e).ring q.cls).order) := by
  induction ys generalizing e with
  | nil => exact ⟨.refl e, rfl, fun _ => id⟩
  | cons y ys ih =>
    obtain ⟨hrefilled, hbare, hplace⟩ := ih (fun z hz => h z (by simp [hz])) (s.fromWheel e y)
    refine ⟨(s.refilled_fromWheel e y).trans hrefilled, hbare.trans (State.bare_queue_fromWheel (h y (by simp))), ?_⟩
    exact fun hopen hin => hplace (by rw [(s.refilled_fromWheel e y).gateLeft]; exact hopen) (State.mem_ring_fromWheel hopen hin)

end

section
variable {s : State} {d : Sched} {q : Queue} {at_ cost : Nat} {j : Item} {rest : List (Item × Nat)}

/-- Once the due queues have come from the wheel, one of them with the credit and an open gate has its place (R252, R257). -/
theorem State.foldl_fromWheel_enters {ys : List Queue} (hys : (ys.map fun x => (x.cls, x.paddock)).Nodup) (hq : q ∈ ys)
    (hdq : d.queue q.cls q.paddock = some q) (hitems : q.items = (j, cost) :: rest)
    (hcredit : ∀ b, s.bridle d q.cls q.paddock = some b → (b.at_ s.time).wait (itemBytes cost j) = 0)
    (hopen : (s.gateLeft d q.cls q.paddock).isSome = true) (hring : d.rings.any (·.cls == q.cls) = true) :
    d.Refilled (ys.foldl s.fromWheel d) ∧
    ((ys.foldl s.fromWheel d).queue q.cls q.paddock).map Queue.bare = some { q with wheelAt := none }.bare ∧
    q.paddock ∈ ((ys.foldl s.fromWheel d).ring q.cls).order := by
  obtain ⟨before, after, rfl⟩ := List.append_of_mem hq
  rw [List.map_append, List.map_cons, List.nodup_middle, List.nodup_cons, ← List.map_append] at hys
  have hother : ∀ y ∈ before ++ after, (y.cls, y.paddock) ≠ (q.cls, q.paddock) := fun y hy hkey =>
    hys.1 (List.mem_map.mpr ⟨y, hy, hkey⟩)
  obtain ⟨hbefore, hbare, -⟩ := State.foldl_fromWheel_other (s := s) (fun y hy => hother y (List.mem_append_left after hy)) d
  set e := before.foldl s.fromWheel d
  obtain ⟨x, hx, hxbare⟩ := Option.map_eq_some_iff.mp (hbare.trans (congrArg (Option.map Queue.bare) hdq))
  have hopen' : (s.gateLeft e q.cls q.paddock).isSome = true := by rw [hbefore.gateLeft]; exact hopen
  obtain ⟨hself, hplace⟩ := State.fromWheel_enters (s := s) hx hxbare hitems
    (fun b hb => hcredit b (by rwa [State.bridle_congr rfl hbefore.bridleKey] at hb)) hopen' (by rw [hbefore.any_rings]; exact hring)
  obtain ⟨hafter, hkept, hstays⟩ := State.foldl_fromWheel_other (s := s) (fun y hy => hother y (List.mem_append_right before hy))
    (s.fromWheel e q)
  rw [List.foldl_append, List.foldl_cons]
  exact ⟨hbefore.trans ((s.refilled_fromWheel e q).trans hafter), hkept.trans hself,
    hstays (by rw [(s.refilled_fromWheel e q).gateLeft]; exact hopen') hplace⟩

/-- A queue is found by its class and paddock where no two have the same. -/
theorem Sched.queue_of_mem (h : (d.queues.map fun x => (x.cls, x.paddock)).Nodup) (hq : q ∈ d.queues) :
    d.queue q.cls q.paddock = some q := by
  cases hx : d.queue q.cls q.paddock with
  | none => exact absurd (List.find?_eq_none.mp hx q hq) (by simp)
  | some x =>
    obtain ⟨hcls, hpaddock⟩ := Sched.queue_key hx
    exact congrArg some (List.inj_on_of_nodup_map h (Sched.queue_mem hx) hq (by rw [hcls, hpaddock]))

/-- The earliest slot of the wheel begins, and a queue of it re-enters its ring (R252, R257). -/
theorem wheelSlot_reenters {i : Nat} (hd : s.sched i = some d) (hnodup : (d.queues.map fun x => (x.cls, x.paddock)).Nodup)
    (hq : q ∈ d.queues) (hwheel : q.wheelAt = some at_) (hfirst : ∀ x ∈ d.queues, ∀ u, x.wheelAt = some u → at_ ≤ u)
    (hitems : q.items = (j, cost) :: rest) (hring : d.rings.any (·.cls == q.cls) = true)
    (hopen : ((s.advanceTo at_).gateLeft d q.cls q.paddock).isSome = true)
    (hcredit : ∀ b, s.bridle d q.cls q.paddock = some b → (b.at_ (max s.time at_)).wait (itemBytes cost j) = 0) :
    Answers (exec (.wheelSlotStart i) s) fun t =>
      t.time = max s.time at_ ∧ ∃ d' q', t.sched i = some d' ∧ d'.queue q.cls q.paddock = some q' ∧ q'.wheelAt = none ∧
        q'.deficit = q.deficit ∧ q'.items = q.items ∧ q.paddock ∈ (d'.ring q.cls).order := by
  have hmin : minBy id (d.queues.filterMap (·.wheelAt)) = some at_ := by
    refine minBy_id_eq_some (List.mem_filterMap.mpr ⟨q, hq, hwheel⟩) fun u hu => ?_
    obtain ⟨x, hx, hxu⟩ := List.mem_filterMap.mp hu
    exact hfirst x hx u hxu
  have hdue : q ∈ d.queues.filter (Queue.dueBy (s.advanceTo at_).time) :=
    List.mem_filter.mpr ⟨hq, by simp [Queue.dueBy, hwheel, State.advanceTo]⟩
  obtain ⟨hrefilled, hbare, hplace⟩ := State.foldl_fromWheel_enters (s := s.advanceTo at_)
    (hnodup.sublist (List.filter_sublist.map _)) hdue (Sched.queue_of_mem hnodup hq) hitems hcredit hopen hring
  rw [exec_wheelSlotStart hd hmin]
  set e := (d.queues.filter (Queue.dueBy (s.advanceTo at_).time)).foldl (s.advanceTo at_).fromWheel d
  have hid : ((s.advanceTo at_).reclock e).id = i := hrefilled.id_eq.trans (State.sched_id hd)
  obtain ⟨y, hy, hybare⟩ := Option.map_eq_some_iff.mp ((Sched.bare_queue_congr ((s.advanceTo at_).bare_reclock e) ..).trans hbare)
  obtain ⟨-, -, hyitems, hydeficit, hywheel⟩ := Queue.fields_of_bare hybare
  exact answers_next ⟨rfl, _, y, State.sched_putSched (s := s.advanceTo at_) hd hid, hy, hywheel, hydeficit, hyitems, hplace⟩

end

/-! ### Promotion (R262, R263) -/

section
variable {s : State} {d e : Sched} {q : Queue} {i cls paddock key : Nat}

/-- The second scheduler is the first with queues of other shares than one promoted. -/
structure State.PromotedElsewhere (s : State) (d e : Sched) (key : Nat) : Prop where
  eq : e = { d with queues := e.queues }
  queue : ∀ c p, s.shareKey d p = key → e.queue c p = d.queue c p
  share : ∀ x ∈ e.queues, s.shareKey d x.paddock = key → x ∈ d.queues

theorem State.PromotedElsewhere.refl (s : State) (d : Sched) (key : Nat) : s.PromotedElsewhere d d key :=
  ⟨rfl, fun _ _ _ => rfl, fun _ hx _ => hx⟩

theorem State.PromotedElsewhere.shareKey_eq (h : s.PromotedElsewhere d e key) (p : Nat) : s.shareKey e p = s.shareKey d p := by
  rw [h.eq]
  rfl

theorem State.PromotedElsewhere.rings (h : s.PromotedElsewhere d e key) : e.rings = d.rings := by rw [h.eq]

theorem State.PromotedElsewhere.id_eq (h : s.PromotedElsewhere d e key) : e.id = d.id := by rw [h.eq]

theorem State.PromotedElsewhere.promoteShare {k : Nat} (h : s.PromotedElsewhere d e key) (hk : k ≠ key) :
    s.PromotedElsewhere d (s.promoteShare e k) key := by
  rcases s.promoteShare_cases e k with heq | ⟨q, -, hshare, heq⟩
  · rwa [heq]
  rw [h.shareKey_eq] at hshare
  rw [heq]
  refine ⟨?_, fun c p hp => ?_, fun x hx hxkey => ?_⟩
  · conv_lhs => rw [h.eq]
    rfl
  · have hne : (q.cls, q.paddock) ≠ (c, p) := by
      rintro ⟨⟩
      exact hk (hshare.symm.trans hp)
    rw [Sched.queue_modQueue_of_ne (f := Queue.promote) hne (fun _ => rfl) fun _ => rfl, h.queue c p hp]
  · rcases mem_or_image_of_mem_updateFirst hx with hx | ⟨y, hkey, rfl⟩
    · exact h.share x hx hxkey
    · obtain ⟨-, hyp⟩ : y.cls = q.cls ∧ y.paddock = q.paddock := by simpa using hkey
      refine absurd (hshare.symm.trans ?_) hk
      rw [← hyp]
      exact hxkey

theorem State.promotedElsewhere_foldl {ks : List Nat} (h : key ∉ ks) (d : Sched) :
    s.PromotedElsewhere d (ks.foldl s.promoteShare d) key :=
  List.foldlRecOn (motive := fun e => s.PromotedElsewhere d e key) ks s.promoteShare (.refl s d key)
    fun _ he _ hk => he.promoteShare (ne_of_mem_of_not_mem hk h)

/-- Whether a queue of a share starves and is not promoted (R262). -/
def State.starves (s : State) (d : Sched) (key : Nat) (q : Queue) : Bool :=
  !q.promoted && s.shareKey d q.paddock == key && d.starve ≤ q.clock s.time

/-- The starved queue of a share does not depend on the others' promotions. -/
theorem State.PromotedElsewhere.nextStarved (h : s.PromotedElsewhere d e key) : s.nextStarved e key = s.nextStarved d key := by
  have hpick : ∀ c p, ((e.queue c p).bind fun q => if s.starves d key q then some q else none) =
      (d.queue c p).bind fun q => if s.starves d key q then some q else none := fun c p => by
    by_cases hp : s.shareKey d p = key
    · rw [h.queue c p hp]
    · have hnone : ∀ x : Sched, ((x.queue c p).bind fun q => if s.starves d key q then some q else none) = none := fun x => by
        rw [Option.bind_eq_none_iff]
        intro q hq
        rw [State.starves, (Sched.queue_key hq).2]
        simp [hp]
      rw [hnone, hnone]
  obtain ⟨qs, rfl⟩ : ∃ qs, e = { d with queues := qs } := ⟨_, h.eq⟩
  exact congrArg (maxBy _) (congrArg List.flatten (List.map_congr_left fun c _ => List.filterMap_congr fun p _ => hpick c p))

theorem State.PromotedElsewhere.unitBytes (h : s.PromotedElsewhere d e key) : e.unitBytes = d.unitBytes := by
  rw [h.eq]
  rfl

theorem State.PromotedElsewhere.bucketAt (h : s.PromotedElsewhere d e key) : s.bucketAt e key = s.bucketAt d key := by
  rw [h.eq]
  rfl

/-- With no promotion of the share under way, its first starved queue is promoted when the bucket holds its QUANTUM (R263). -/
theorem State.PromotedElsewhere.promoteShare_self (h : s.PromotedElsewhere d e key) (hq : s.nextStarved d key = some q)
    (hnone : ∀ x ∈ d.queues, x.promoted = true → s.shareKey d x.paddock ≠ key) : s.promoteShare e key =
      if s.bucketAt d key < ((q.quantum * d.unitBytes : Nat) : Int) then e else e.modQueue q.cls q.paddock Queue.promote := by
  have hany : (e.queues.any fun q => q.promoted && s.shareKey e q.paddock == key) = false := by
    rw [List.any_eq_false]
    intro x hx hxkey
    obtain ⟨hxp, hxkey⟩ : x.promoted = true ∧ s.shareKey d x.paddock = key := by simpa [h.shareKey_eq] using hxkey
    exact hnone x (h.share x hx hxkey) hxp hxkey
  rw [State.promoteShare, hany, if_neg Bool.false_ne_true, h.nextStarved, hq]
  dsimp only
  rw [h.bucketAt, h.unitBytes]

/-- Each of some numbers is kept once. -/
theorem nodup_eraseDups (xs : List Nat) : xs.eraseDups.Nodup := by
  match xs with
  | [] => simp
  | x :: xs =>
    rw [List.eraseDups_cons, List.nodup_cons, List.mem_eraseDups]
    exact ⟨by simp, nodup_eraseDups _⟩
termination_by xs.length
decreasing_by exact Nat.lt_succ_of_le (List.length_filter_le ..)

/-- One decision on promotions, as a queue that is the first starved one of its share sees it (R262, R263). -/
theorem State.promote_firstStarved (hd : d.queue q.cls q.paddock = some q)
    (hkey : s.shareKey d q.paddock = key) (hq : s.nextStarved d key = some q) (hnone : ∀ x ∈ d.queues, x.promoted = true → s.shareKey d x.paddock ≠ key) :
    (s.promote d).id = d.id ∧ (s.promote d).rings = d.rings ∧ (s.promote d).queue q.cls q.paddock =
      some (if s.bucketAt d key < ((q.quantum * d.unitBytes : Nat) : Int) then q else q.promote) := by
  have hin : key ∈ (d.queues.map fun (q : Queue) => s.shareKey d q.paddock).eraseDups :=
    List.mem_eraseDups.mpr (List.mem_map.mpr ⟨q, Sched.queue_mem hd, hkey⟩)
  have hnodup := nodup_eraseDups (d.queues.map fun (q : Queue) => s.shareKey d q.paddock)
  obtain ⟨before, after, hkeys⟩ := List.append_of_mem hin
  rw [hkeys, List.nodup_middle, List.nodup_cons, List.mem_append, not_or] at hnodup
  obtain ⟨⟨hbefore, hafter⟩, -⟩ := hnodup
  have h1 := State.promotedElsewhere_foldl (s := s) hbefore d
  rw [State.promote_eq_foldl, hkeys, List.foldl_append, List.foldl_cons]
  set e := before.foldl s.promoteShare d
  have hself := h1.promoteShare_self hq hnone
  have h2 := State.promotedElsewhere_foldl (s := s) hafter (s.promoteShare e key)
  have heq : (s.promoteShare e key).id = e.id ∧ (s.promoteShare e key).rings = e.rings := by
    rw [hself]
    split <;> exact ⟨rfl, rfl⟩
  have hkey' : s.shareKey (s.promoteShare e key) q.paddock = key := by
    rw [State.shareKey, State.ownShare, heq.1, h1.id_eq]
    exact hkey
  have heq1 : e.queue q.cls q.paddock = some q := (h1.queue _ _ hkey).trans hd
  refine ⟨h2.id_eq.trans (heq.1.trans h1.id_eq), h2.rings.trans (heq.2.trans h1.rings), ?_⟩
  rw [h2.queue _ _ hkey', hself]
  split
  · exact heq1
  · exact Sched.queue_modQueue_self (f := Queue.promote) heq1 rfl rfl

theorem exec_starveTimeExpiry (hd : s.sched i = some d) (hq : d.queue cls paddock = some q) (hin : paddock ∈ (d.ring cls).order)
    (hstarves : d.canStarve cls = true) (hpromoted : q.promoted = false) (hcounting : q.counting = true) :
    exec (.starveTimeExpiry i cls paddock) s = .next ((s.advanceTo (q.since + (d.starve - q.counted))).putSched
      ((s.advanceTo (q.since + (d.starve - q.counted))).promote d)) := by
  change execStarveTimeExpiry i cls paddock s = _
  rw [execStarveTimeExpiry, hd]
  dsimp only
  rw [hq]
  dsimp only
  exact if_neg (by simp [hin, hstarves, hpromoted, hcounting])

/-- A starvation time ends (R262, R263). -/
theorem starveTime_promotes {s1 : State} (hd : s.sched i = some d) (hq : d.queue cls paddock = some q)
    (hin : paddock ∈ (d.ring cls).order) (hstarves : d.canStarve cls = true) (hpromoted : q.promoted = false)
    (hcounting : q.counting = true) (hs1 : s1 = s.advanceTo (q.since + (d.starve - q.counted)))
    (hnext : s1.nextStarved d (s.shareKey d paddock) = some q)
    (hnone : ∀ x ∈ d.queues, x.promoted = true → s.shareKey d x.paddock ≠ s.shareKey d paddock) :
    Answers (exec (.starveTimeExpiry i cls paddock) s) fun t =>
      t.time = s1.time ∧ ∃ d' q', t.sched i = some d' ∧ d'.queue cls paddock = some q' ∧ q'.items = q.items ∧
        d'.rings = d.rings ∧
        (((q.quantum * d.unitBytes : Nat) : Int) ≤ s1.bucketAt d (s.shareKey d paddock) →
          q'.promoted = true ∧ q'.deficit = q.deficit + (q.quantum : Int)) ∧
        (s1.bucketAt d (s.shareKey d paddock) < ((q.quantum * d.unitBytes : Nat) : Int) →
          q'.promoted = false ∧ q'.deficit = q.deficit) := by
  rw [exec_starveTimeExpiry hd hq hin hstarves hpromoted hcounting, ← hs1]
  have hd1 : s1.sched i = some d := by rw [hs1]; exact hd
  have hshare : ∀ p, s1.shareKey d p = s.shareKey d p := fun p => by rw [hs1]; rfl
  obtain ⟨rfl, rfl⟩ := Sched.queue_key hq
  obtain ⟨hid, hrings, hqueue⟩ := State.promote_firstStarved hq (hshare _) hnext
    (by simpa only [hshare] using hnone)
  refine answers_next ⟨rfl, _, _, State.sched_putSched hd1 (hid.trans (State.sched_id hd)), hqueue, ?_, hrings,
    fun hle => ?_, fun hlt => ?_⟩
  · split <;> rfl
  · rw [if_neg (not_lt.mpr hle)]
    exact ⟨rfl, rfl⟩
  · rw [if_pos hlt]
    exact ⟨hpromoted, rfl⟩

end

/-! ### Gates (R258, R260, R261) -/

section
variable {s : State} {d : Sched} {i late l : Nat}

/-- The placement of work units leaves the schedulers. -/
theorem State.sched_place (s : State) (i : Nat) : s.place.sched i = s.sched i := by
  rw [State.sched, s.place_same.sch.eq rfl, State.sched]

theorem gateEntry_applies (hd : s.sched i = some d) (hmore : d.entry + 1 < d.gcl.length) :
    Answers (exec (.gateEntryBoundary i) s) fun t =>
      t.time = max s.time (d.entryStart (d.entry + 1)) ∧
      ∃ d', t.sched i = some d' ∧ d'.entry = d.entry + 1 ∧ d'.gcl = d.gcl ∧ d'.cycleStart = d.cycleStart := by
  let u := s.advanceTo (d.entryStart (d.entry + 1))
  let e : Sched := { d with entry := d.entry + 1 }
  have hexec : exec (.gateEntryBoundary i) s = .next (u.putSched (u.reclock (u.regate e))).place := by
    change execGateEntryBoundary i s = _
    rw [execGateEntryBoundary, hd]
    exact if_neg (by omega)
  have hid : d.id = i := State.sched_id hd
  have hrefilled : e.Refilled (u.reclock (u.regate e)) := (u.refilled_regate e).trans (u.refilled_reclock _)
  have hput : (u.putSched (u.reclock (u.regate e))).sched i = some (u.reclock (u.regate e)) :=
    State.sched_putSched (s := u) hd (hrefilled.id_eq.trans hid)
  rw [hexec]
  refine answers_next ⟨(State.place_same _).time.eq rfl, _, (State.sched_place ..).trans hput, ?_⟩
  rw [hrefilled.eq]
  exact ⟨rfl, rfl, rfl⟩

/-- The next cycle under the list that stands (R258, R261). -/
theorem Sched.nextCycle_of_none (h : d.newGcl = none) (late : Nat) : d.nextCycle late = { d with
    cycleStart := d.cycleStart + d.length + late
    entry := 0
    phaseErr := d.phaseErr - (d.cycle - d.length) + late
    length := d.cycle - min (d.phaseErr - (d.cycle - d.length) + late) (d.cycle / 8) } := by
  simp only [Sched.nextCycle, Sched.adopt, h]

theorem gclCycle_catchesUp (hd : s.sched i = some d) (hlist : d.newGcl = none) (hawake : s.awake = true → l = late)
    (hasleep : s.awake = false → l = 0) (hmax : d.phaseErr - (d.cycle - d.length) + l ≤ d.catchupMax) :
    Answers (exec (.gclCycleStart i late) s) fun t =>
      t.time = max s.time (d.cycleStart + d.length + l) ∧
      ∃ d', t.sched i = some d' ∧ d'.entry = 0 ∧ d'.cycleStart = d.cycleStart + d.length + l ∧
        d'.phaseErr = d.phaseErr - (d.cycle - d.length) + l ∧
        d'.length = d.cycle - min d'.phaseErr (d.cycle / 8) ∧ d'.gcl = d.gcl := by
  have hl : (if s.awake then late else 0) = l := by
    cases h : s.awake with
    | true => exact (hawake h).symm
    | false => exact (hasleep h).symm
  have hnext := Sched.nextCycle_of_none hlist l
  let u := s.advanceTo (d.nextCycle l).cycleStart
  have hexec : exec (.gclCycleStart i late) s = .next (u.putSched (u.reclock (u.regate (d.nextCycle l)))).place := by
    change execGclCycleStart i late s = _
    rw [execGclCycleStart, hd]
    dsimp only
    rw [hl]
    exact if_neg (by rw [hnext]; exact Nat.not_lt.mpr hmax)
  have hrefilled : (d.nextCycle l).Refilled (u.reclock (u.regate (d.nextCycle l))) :=
    (u.refilled_regate _).trans (u.refilled_reclock _)
  have hid : (d.nextCycle l).id = i := by rw [hnext]; exact State.sched_id (d := d) hd
  have hput : (u.putSched (u.reclock (u.regate (d.nextCycle l)))).sched i = some (u.reclock (u.regate (d.nextCycle l))) :=
    State.sched_putSched (s := u) hd (hrefilled.id_eq.trans hid)
  have htime : u.time = max s.time (d.cycleStart + d.length + l) := by
    change max s.time (d.nextCycle l).cycleStart = _
    rw [hnext]
  rw [hexec]
  refine answers_next ⟨((State.place_same _).time.eq rfl).trans htime, _, (State.sched_place ..).trans hput, ?_⟩
  rw [hrefilled.eq, hnext]
  exact ⟨rfl, rfl, rfl, rfl, rfl⟩

end

/-- Settles O5. Egress: the one active queue is promoted or not, and either way its head is released and it leaves its ring
(`State.serve_onlyQueue`). The wheel: the due queues come back one after the other, each but the one in question leaves that one's
place (`State.foldl_fromWheel_enters`). Promotion: the shares are looked at in turn, and a share's first starved queue does not
depend on the others' promotions (`State.promote_firstStarved`). Gates: what follows an entry or a cycle refills queues and rings and
nothing else (`Sched.Refilled`). -/
theorem schedulersServeTheirQueues : Obligations.SchedulersServeTheirQueues := by
  unfold Obligations.SchedulersServeTheirQueues
  refine ⟨egressSendsTheHeadFrame, ⟨?_, ?_⟩, ⟨?_, ?_⟩⟩
  · intro i s d q j cost at_ rest hd hnodup hq hwheel hfirst hitems hring hopen hcredit
    exact wheelSlot_reenters hd hnodup hq hwheel hfirst hitems hring hopen hcredit
  · intro i cls paddock s s1 d q hd hq hin hstarves hpromoted hcounting hs1 hnext hnone
    exact starveTime_promotes hd hq hin hstarves hpromoted hcounting hs1 hnext hnone
  · intro i s d hd hmore
    exact gateEntry_applies hd hmore
  · intro i late l s d hd hlist hawake hasleep hmax
    exact gclCycle_catchesUp hd hlist hawake hasleep hmax

end Sys2Proof.Machine
end

section
/-! SUPPORT. What a mailbox command leaves once its response has been delivered: the maps but for FAULT_SEQ and the mailbox's latch
too (R357–R359). -/

namespace Sys2Proof.Machine

section
variable {s : State} {m : Mbx} {op : Nat} {b : Mail}

/-- The node once the response `r` to `b` has been delivered. -/
structure Reply.Delivered (r : Reply) (b : Mail) (t : State) : Prop where
  same : Same { out := true, regs := true, host := true, maps := true } r.state t
  maps : ∃ f, t.maps = { r.state.maps with fault := f }
  latch : (t.box b.box).latch = (r.state.box b.box).latch
  answered : t.answered b r.status r.body

theorem Reply.Delivered.windows {r : Reply} {t : State} (h : r.Delivered b t) : t.maps.windows = r.state.maps.windows := by
  obtain ⟨f, hf⟩ := h.maps
  rw [hf]

theorem State.writeReply_maps (s : State) (b : Mail) (r : Reply) : (s.writeReply b r).maps = r.state.maps := by
  rw [State.writeReply, (State.eventBit_same ..).maps.eq rfl]
  rfl

theorem State.writeReply_latch (s : State) {r : Reply} (hlt : b.box < r.state.host.boxes.length) :
    ((s.writeReply b r).box b.box).latch = (r.state.box b.box).latch := by
  rw [State.box, State.writeReply, State.eventBit_host, ← State.box, State.box_modBox _ hlt]

/-- The command in the mailbox is carried out on a state that differs in its host interface, the mailbox's latch as it was. -/
theorem Rung.exchange_serves (h : Rung s m op b) : ∃ H : Host_, H.Rests ∧
    (H.boxes.getD m.box Mailbox.fresh).latch = (s.box m.box).latch ∧
    Mail.parse m.box ({ s with host := H }.box m.box).buffer = b ∧
    s.exchange m op = s.finish ({ s with host := H }.serveBox m.box).serveWaiting := by
  have hlt : m.box < s.host.boxes.length := by rw [h.four]; have := h.box; omega
  have hgo : (!s.bar0Open || le m.bytes 2 2 != op || decide (s.boot.stage < 6)) = false := by
    simp [h.open_, h.opcode, h.stage_ge]
  have hfilled : (s.fillBox m.box m.bytes).box m.box =
      { s.box m.box with buffer := overlay (s.box m.box).buffer (m.bytes.take 4096) } := by
    rw [State.fillBox, State.box_modBox _ hlt]
    exact if_neg (by simp [h.idle])
  have hidle : ((s.fillBox m.box m.bytes).box m.box).busy = false := by rw [hfilled]; exact h.idle
  have hlt' : m.box < (s.fillBox m.box m.bytes).host.boxes.length := by
    rw [State.fillBox, (State.modBox_keeps ..).boxes]; exact hlt
  have hbox := State.box_modBox (fun x : Mailbox => { x with busy := true, done := false }) hlt'
  refine ⟨((s.fillBox m.box m.bytes).modBox m.box fun x => { x with busy := true, done := false }).host,
    ⟨((State.modBox_keeps ..).trans (State.modBox_keeps ..)).boxes.trans h.four, h.alone⟩, ?_, ?_, ?_⟩
  · rw [← State.box, hbox, hfilled]
  · refine (congrArg (fun x : Mailbox => Mail.parse m.box x.buffer) hbox).trans ?_
    rw [hfilled, h.mail]
  · rw [State.exchange, hgo, if_neg Bool.false_ne_true, State.ring_eq h.box hidle h.alone h.awake h.serves]
    rfl

/-- A command but WARM_RESET that is carried out answers what holds once its response has been delivered (R357). -/
theorem Asked.answers_delivered {P : State → Prop} (h : Asked s m op b) (hop : op ≠ 0x20)
    (hrun : ∀ H : Host_, H.Rests → (H.boxes.getD b.box Mailbox.fresh).latch = (s.box m.box).latch →
      (runCommand b { s with host := H }).state.host.Rests ∧
      ∀ t, (runCommand b { s with host := H }).Delivered b t → P t) : Answers (s.exchange m op) P := by
  obtain ⟨H, hH, hlatch, hmail, heq⟩ := h.rung.exchange_serves
  have hbox : b.box ≤ 2 := by rw [h.rung.box_eq]; exact h.rung.box
  obtain ⟨hrests, hP⟩ := hrun { H with major := b.major } ⟨hH.boxes, hH.doorbells⟩ (by rw [h.rung.box_eq]; exact hlatch)
  have hreply : { s with host := { H with major := b.major } }.reply b =
    runCommand b { s with host := { H with major := b.major } } := h.reply_eq _
  have hlt : b.box < (runCommand b { s with host := { H with major := b.major } }).state.host.boxes.length := by
    rw [hrests.boxes]; omega
  rw [heq, State.serveBox_eq hmail (by rw [h.rung.opcode_eq]; exact hop)]
  dsimp only
  rw [hreply, State.serveWaiting_of_nil ((State.writeReply_keeps ..).rests hrests).doorbells]
  refine answers_next (hP _ ?_)
  obtain ⟨f, hf⟩ := State.refault_eq_fault
    (State.writeReply { s with host := { H with major := b.major } } b
      (runCommand b { s with host := { H with major := b.major } })) s
  rw [hf]
  refine ⟨Same.update ((State.writeReply_same ..).mono rfl), ⟨f, ?_⟩, State.writeReply_latch _ hlt,
    State.writeReply_answered _ hbox hrests⟩
  change ({ (State.writeReply ..).maps with fault := f } : Maps) = _
  rw [State.writeReply_maps]

end

end Sys2Proof.Machine
end

section
/-! O35. The reading mailbox commands (R285, R297, R317, R362, R367). -/

namespace Sys2Proof.Machine

section
variable {s : State} {m : Mbx} {b : Mail}

/-- A command whose reply leaves all but the host interface as it was only reads. -/
theorem Reply.Delivered.readOnly {r : Reply} {t : State} {H : Host_} (h : r.Delivered b t)
    (hr : r.state = { s with host := H }) : s.readOnly t := by
  have hsame := hr ▸ h.same
  have hwindows := hr ▸ h.windows
  exact ⟨hsame.boot.eq rfl, hsame.pads.eq rfl, hsame.store.eq rfl, hwindows, hsame.net.eq rfl, hsame.log.eq rfl, hsame.pwr.eq rfl,
    hsame.eng.eq rfl, hsame.mem.eq rfl⟩

/-- A command that reads answers a body and leaves the rest of the node as it was. -/
theorem Asked.answers_reads {op : Nat} {body : Bytes} {P : State → Prop} (h : Asked s m op b) (hop : op ≠ 0x20)
    (hrun : ∀ H : Host_, runCommand b { s with host := H } = okReply { s with host := H } body)
    (hP : ∀ t, s.readOnly t → t.answered b St.ok body → P t) : Answers (s.exchange m op) P := by
  refine h.answers_delivered hop fun H hH _ => ?_
  rw [hrun]
  exact ⟨hH, fun t ht => hP t (ht.readOnly rfl) ht.answered⟩

/-! ### NODE_INFO, RIM_STATUS, PADDOCK_QUERY, HEALTH_READ -/

theorem runCommand_nodeInfo (h : b.opcode = 0x01) : runCommand b s = cmdNodeInfo b s := by
  rw [runCommand, h]
  rfl

theorem runCommand_rimStatus (h : b.opcode = 0x13) : runCommand b s = cmdRimStatus b s := by
  rw [runCommand, h]
  rfl

theorem runCommand_paddockQuery (h : b.opcode = 0x32) : runCommand b s = cmdPaddockQuery b s := by
  rw [runCommand, h]
  rfl

theorem runCommand_healthRead (h : b.opcode = 0x90) : runCommand b s = cmdHealthRead b s := by
  rw [runCommand, h]
  rfl

/-- What RIM_STATUS reports of a slot. -/
def ImageSlot.status (x : ImageSlot) : Bytes :=
  toLe 1 x.state.code ++ toLe 1 x.reason ++ toLe 4 x.version ++ toLe 1 x.epoch ++ zeros 1

theorem ImageSlot.length_status (x : ImageSlot) : x.status.length = 8 := by simp [ImageSlot.status, zeros]

theorem ImageSlot.take_status (x : ImageSlot) : x.status.take 2 = toLe 1 x.state.code ++ toLe 1 x.reason := rfl

/-- The answer of RIM_STATUS: eight bytes for each slot, then the rollback floor. -/
def State.rimStatus (s : State) : Bytes := (s.slot 0).status ++ (s.slot 1).status ++ toLe 1 s.boot.floor

theorem State.rimStatus_fields (s : State) : s.rimStatus.length = 17 ∧
    s.rimStatus.take 2 = toLe 1 (s.slot 0).state.code ++ toLe 1 (s.slot 0).reason ∧
    (s.rimStatus.drop 8).take 2 = toLe 1 (s.slot 1).state.code ++ toLe 1 (s.slot 1).reason ∧
    s.rimStatus.drop 16 = toLe 1 s.boot.floor := by
  have h0 := (s.slot 0).length_status
  have h1 := (s.slot 1).length_status
  have hdrop : s.rimStatus.drop 8 = (s.slot 1).status ++ toLe 1 s.boot.floor := by
    rw [State.rimStatus, List.append_assoc, List.drop_left' h0]
  refine ⟨by rw [State.rimStatus]; simp [h0, h1], ?_, ?_, ?_⟩
  · rw [State.rimStatus, List.append_assoc, List.take_append_of_le_length (by omega), ImageSlot.take_status]
  · rw [hdrop, List.take_append_of_le_length (by omega), ImageSlot.take_status]
  · have hsum : s.rimStatus.drop 16 = (s.rimStatus.drop 8).drop 8 := by rw [List.drop_drop]
    rw [hsum, hdrop, List.drop_left' h1]

/-- The host interface has no part in a paddock's configuration record (R285). -/
theorem State.padRecord_withHost (s : State) (H : Host_) (p : Nat) : { s with host := H }.padRecord p = s.padRecord p := by
  have hallowance : { s with host := H }.t2Allowance p = s.t2Allowance p := rfl
  rw [State.padRecord, State.padRecord, hallowance]
  rfl

theorem nodeInfo_reads (h : Asked s m 0x01 b) : Answers (exec (.nodeInfo m) s) fun t => s.readOnly t ∧ t.answered b St.ok
    (toLe 2 (if s.fused.a768 then 0x0A40 else 0x0A41) ++ toLe 1 s.fused.revision ++ toLe 1 s.boot.stage
      ++ sub s.fused.serial 0 16 ++ toLe 2 ((s.boot.bundle.map (·.1)).getD 0) ++ toLe 4 s.img.version
      ++ toLe 2 s.boot.nodeId ++ zeros 4) :=
  h.answers_reads (by decide) (fun _ => runCommand_nodeInfo h.rung.opcode_eq) fun _ hread hanswered => ⟨hread, hanswered⟩

theorem rimStatus_reads (h : Asked s m 0x13 b) : Answers (exec (.rimStatus m) s) fun t => s.readOnly t ∧
    t.answered b St.ok s.rimStatus :=
  h.answers_reads (by decide) (fun _ => runCommand_rimStatus h.rung.opcode_eq) fun _ hread hanswered => ⟨hread, hanswered⟩

theorem paddockQuery_reads (h : Asked s m 0x32 b) : Answers (exec (.paddockQuery m) s) fun t => s.readOnly t ∧
    t.answered b St.ok (s.padRecord b.paddock) := by
  refine h.answers_reads (by decide) (fun H => ?_) fun _ hread hanswered => ⟨hread, hanswered⟩
  rw [runCommand_paddockQuery h.rung.opcode_eq, cmdPaddockQuery, State.padRecord_withHost]

theorem healthRead_reads (h : Asked s m 0x90 b) : Answers (exec (.healthRead m) s) fun t => s.readOnly t ∧
    ∃ rest, t.answered b St.ok (s.faultLine ++ rest) ∧ rest.length = 8 := by
  refine h.answers_reads (body := s.faultLine ++
    (tempBytes (s.pwr.temps.getD 0 0) ++ tempBytes (s.pwr.temps.getD 1 0) ++ toLe 4 s.pwr.average)) (by decide) (fun H => ?_)
    fun t hread hanswered => ⟨hread, _, hanswered, ?_⟩
  · rw [runCommand_healthRead h.rung.opcode_eq, cmdHealthRead, ← List.append_assoc, ← List.append_assoc]
    rfl
  · simp [tempBytes]

/-! ### TALLY_SNAPSHOT and TALLY_FETCH (R297) -/

theorem runCommand_tallySnapshot (h : b.opcode = 0x70) : runCommand b s = cmdTallySnapshot b s := by
  rw [runCommand, h]
  rfl

theorem runCommand_tallyFetch (h : b.opcode = 0x71) : runCommand b s = cmdTallyFetch b s := by
  rw [runCommand, h]
  rfl

/-- The records that TALLY_SNAPSHOT latches. -/
def State.snapshots (s : State) (body : Bytes) : List TallyRec :=
  (List.range (le body 0 1)).map fun i => s.snapshot (le body (2 + 2 * i) 2 % 4096)

theorem cmdTallySnapshot_eq (hleast : 1 ≤ le b.body 0 1) (hmost : le b.body 0 1 ≤ 64) (hlen : b.body.length = 2 + 2 * le b.body 0 1) :
    cmdTallySnapshot b s = okReply (s.modBox b.box fun x => { x with latch := s.snapshots b.body }) (toLe 8 s.time) := by
  have hform : (b.body.length != 2 + 2 * le b.body 0 1) = false := by simp [hlen]
  have hcount : (le b.body 0 1 == 0 || decide (64 < le b.body 0 1)) = false := by simp; omega
  rw [cmdTallySnapshot]
  dsimp only
  rw [hform, hcount, State.snapshots, ← Function.comp_def s.snapshot, ← List.map_map]
  rfl

theorem cmdTallyFetch_eq (hlen : b.body.length = 2) (hleast : 1 ≤ le b.body 1 1) (hmost : le b.body 1 1 ≤ 40)
    (hfits : le b.body 0 1 + le b.body 1 1 ≤ (s.box b.box).latch.length) : cmdTallyFetch b s =
      okReply s ((((s.box b.box).latch.drop (le b.body 0 1)).take (le b.body 1 1)).map TallyRec.bytes).flatten := by
  have hcount : (le b.body 1 1 == 0 || decide (40 < le b.body 1 1) ||
      decide ((s.box b.box).latch.length < le b.body 0 1 + le b.body 1 1)) = false := by simp; omega
  rw [cmdTallyFetch, hlen, hcount]
  rfl

theorem tallySnapshot_latches (h : Asked s m 0x70 b) (hleast : 1 ≤ le b.body 0 1) (hmost : le b.body 0 1 ≤ 64)
    (hlen : b.body.length = 2 + 2 * le b.body 0 1) : Answers (exec (.tallySnapshot m) s) fun t => s.readOnly t ∧
      t.answered b St.ok (toLe 8 s.time) ∧
      (t.box m.box).latch = (List.range (le b.body 0 1)).map fun i => s.snapshot (le b.body (2 + 2 * i) 2 % 4096) := by
  refine h.answers_delivered (by decide) fun H hH _ => ?_
  have hlt : b.box < H.boxes.length := by rw [hH.boxes, h.rung.box_eq]; have := h.rung.box; omega
  rw [runCommand_tallySnapshot h.rung.opcode_eq, cmdTallySnapshot_eq hleast hmost hlen]
  refine ⟨(State.modBox_keeps ..).rests hH, fun t ht => ⟨ht.readOnly rfl, ht.answered, ?_⟩⟩
  rw [← h.rung.box_eq, ht.latch]
  exact congrArg Mailbox.latch (State.box_modBox (s := { s with host := H }) _ hlt)

theorem tallyFetch_reads (h : Asked s m 0x71 b) (hlen : b.body.length = 2) (hleast : 1 ≤ le b.body 1 1)
    (hmost : le b.body 1 1 ≤ 40) (hfits : le b.body 0 1 + le b.body 1 1 ≤ (s.box m.box).latch.length) :
    Answers (exec (.tallyFetch m) s) fun t => s.readOnly t ∧ (t.box m.box).latch = (s.box m.box).latch ∧ t.answered b St.ok
      ((((s.box m.box).latch.drop (le b.body 0 1)).take (le b.body 1 1)).map TallyRec.bytes).flatten := by
  refine h.answers_delivered (by decide) fun H hH hlatch => ?_
  have hbox : ({ s with host := H }.box b.box).latch = (s.box m.box).latch := hlatch
  rw [runCommand_tallyFetch h.rung.opcode_eq, cmdTallyFetch_eq hlen hleast hmost (by rw [hbox]; exact hfits)]
  refine ⟨hH, fun t ht => ⟨ht.readOnly rfl, ?_, ?_⟩⟩
  · rw [← h.rung.box_eq, ht.latch, h.rung.box_eq, ← hbox, h.rung.box_eq]
    rfl
  · rw [← hbox]
    exact ht.answered

/-! ### LOG_READ (R367) -/

theorem runCommand_logRead (h : b.opcode = 0x80) : runCommand b s = cmdLogRead b s := by
  rw [runCommand, h]
  rfl

theorem cmdLogRead_eq (hlen : b.body.length = 5) (hleast : 1 ≤ le b.body 4 1) (hmost : le b.body 4 1 ≤ 63) :
    ∃ next lost, cmdLogRead b s = okReply s ((toLe 4 next ++ toLe 4 lost) ++
      (((s.log.records.filter fun r => max 1 (le b.body 0 4) ≤ r.seq).take (le b.body 4 1)).map LogRec.bytes).flatten) := by
  have hcount : (le b.body 4 1 == 0 || decide (63 < le b.body 4 1)) = false := by simp; omega
  have hfrom : (if le b.body 0 4 == 0 then 1 else le b.body 0 4) = max 1 (le b.body 0 4) := by
    rcases Nat.eq_zero_or_pos (le b.body 0 4) with h | h
    · simp [h]
    · rw [if_neg (by simp; omega)]
      omega
  rw [cmdLogRead, hlen, hfrom]
  dsimp only
  rw [hcount]
  exact ⟨_, _, rfl⟩

theorem logRead_reads (h : Asked s m 0x80 b) (hlen : b.body.length = 5) (hleast : 1 ≤ le b.body 4 1) (hmost : le b.body 4 1 ≤ 63) :
    Answers (exec (.logRead m) s) fun t => s.readOnly t ∧ ∃ head, head.length = 8 ∧ t.answered b St.ok
      (head ++ (((s.log.records.filter fun r => max 1 (le b.body 0 4) ≤ r.seq).take (le b.body 4 1)).map LogRec.bytes).flatten) := by
  refine h.answers_delivered (by decide) fun H hH _ => ?_
  obtain ⟨next, lost, heq⟩ := cmdLogRead_eq (s := { s with host := H }) hlen hleast hmost
  rw [runCommand_logRead h.rung.opcode_eq, heq]
  exact ⟨hH, fun t ht => ⟨ht.readOnly rfl, toLe 4 next ++ toLe 4 lost, by simp, ht.answered⟩⟩

end

/-- Settles O35: each reading command replies on the state it was given (`Asked.answers_reads`), and the delivery of its response
changes the mailbox and FAULT_SEQ alone; TALLY_SNAPSHOT changes its mailbox's latch besides. -/
theorem readingCommandsAnswer : Obligations.ReadingCommandsAnswer := by
  unfold Obligations.ReadingCommandsAnswer
  refine fun m s b => ⟨nodeInfo_reads, fun h => ?_, paddockQuery_reads, healthRead_reads, tallySnapshot_latches, tallyFetch_reads,
    logRead_reads⟩
  obtain ⟨t, ht, hread, hanswered⟩ := rimStatus_reads h
  exact ⟨t, ht, hread, s.rimStatus, hanswered, s.rimStatus_fields⟩

end Sys2Proof.Machine
end

section
/-! O45. Lowest-level debug (R289, R403, R404): requests, their end, and withdrawals. -/

namespace Sys2Proof.Machine

section
variable {s : State} {v : Nat}

/-! ### PERMITTED and REASON -/

theorem State.sec_setDebug (s : State) (permitted : Bool) (reason : Nat) : ∃ changed, (s.setDebug permitted reason).sec =
    { s.sec with permitted := permitted, dbgReason := reason, dbgChanged := changed } := by
  rw [State.setDebug]
  split
  · next hsame =>
    obtain ⟨hpermitted, hreason⟩ := Bool.and_eq_true_iff.mp hsame
    rw [← eq_of_beq hpermitted, ← eq_of_beq hreason]
    exact ⟨s.sec.dbgChanged, rfl⟩
  · exact ⟨true, (State.eventBit_same ..).sec.eq rfl⟩

theorem State.pads_setDebug (s : State) (permitted : Bool) (reason : Nat) : (s.setDebug permitted reason).pads = s.pads :=
  (State.setDebug_same ..).pads.eq rfl

/-- A request is refused, and its REASON says why (R403). -/
def State.RefusesDebug (s t : State) (reason : Nat) : Prop :=
  t.sec.permitted = false ∧ t.sec.dbgBusy = false ∧ t.sec.dbgReason = reason ∧ t.pads = s.pads

theorem State.refusesDebug_setDebug (hidle : s.sec.dbgBusy = false) (reason : Nat) :
    s.RefusesDebug (s.setDebug false reason) reason := by
  obtain ⟨changed, hsec⟩ := s.sec_setDebug false reason
  rw [State.RefusesDebug, hsec, State.pads_setDebug]
  exact ⟨rfl, hidle, rfl, rfl⟩

/-! ### DBG_CTL -/

theorem exec_dbgCtlRequest (hopen : s.bar0Open = true) (hrequest : bit v 0 = true) :
    exec (.dbgCtlRequest v) s = .next (s.dbgCtl v) := if_pos (by rw [hopen, hrequest]; rfl)

theorem exec_dbgCtlWithdraw (hopen : s.bar0Open = true) (hwithdraw : bit v 1 = true) :
    exec (.dbgCtlWithdraw v) s = .next (s.dbgCtl v) := if_pos (by rw [hopen, hwithdraw]; rfl)

theorem State.dbgCtl_of_both (hrequest : bit v 0 = true) (hwithdraw : bit v 1 = true) : s.dbgCtl v = s := by
  simp [State.dbgCtl, hrequest, hwithdraw]

theorem State.dbgCtl_of_request (hrequest : bit v 0 = true) (hwithdraw : bit v 1 = false) : s.dbgCtl v = s.requestDebug := by
  simp [State.dbgCtl, hrequest, hwithdraw]

theorem State.dbgCtl_of_withdraw (hrequest : bit v 0 = false) (hwithdraw : bit v 1 = true) : s.dbgCtl v = s.withdrawDebug := by
  simp [State.dbgCtl, hrequest, hwithdraw]

theorem State.requestDebug_of_busy (hbusy : s.sec.dbgBusy = true) : s.requestDebug = s.setDebug s.sec.permitted 5 := by
  rw [State.requestDebug, hbusy]
  rfl

/-- With no request under way and nothing permitted, the policy is asked first, then the sealed paddocks, then the sealed
teardowns (R403). -/
theorem State.requestDebug_of_idle (hidle : s.sec.dbgBusy = false) (hno : s.sec.permitted = false) : s.requestDebug =
    if s.debugAllowed = false then s.setDebug false 1
    else if ∃ p ∈ s.pads, p.state = .sealed then s.setDebug false 2
    else if ∃ p ∈ s.pads, p.sealedTeardown = true then s.setDebug false 3
    else { s with sec := { s.sec with dbgBusy := true } } := by
  rw [State.requestDebug, hidle, hno]
  simp

theorem request_isRefused (hopen : s.bar0Open = true) (hrequest : bit v 0 = true) (hwithdraw : bit v 1 = false)
    (hidle : s.sec.dbgBusy = false) {reason : Nat} (hrefused : s.requestDebug = s.setDebug false reason) :
    Answers (exec (.dbgCtlRequest v) s) fun t => s.RefusesDebug t reason := by
  rw [exec_dbgCtlRequest hopen hrequest, State.dbgCtl_of_request hrequest hwithdraw, hrefused]
  exact answers_next (State.refusesDebug_setDebug hidle reason)

theorem request_isJudged (hopen : s.bar0Open = true) (hrequest : bit v 0 = true) (hwithdraw : bit v 1 = false)
    (hidle : s.sec.dbgBusy = false) (hno : s.sec.permitted = false) :
    (s.debugAllowed = false → Answers (exec (.dbgCtlRequest v) s) fun t => s.RefusesDebug t 1) ∧
    (s.debugAllowed = true → (∃ p ∈ s.pads, p.state = .sealed) →
      Answers (exec (.dbgCtlRequest v) s) fun t => s.RefusesDebug t 2) ∧
    (s.debugAllowed = true → (∀ p ∈ s.pads, p.state ≠ .sealed) → (∃ p ∈ s.pads, p.sealedTeardown = true) →
      Answers (exec (.dbgCtlRequest v) s) fun t => s.RefusesDebug t 3) ∧
    (s.debugAllowed = true → (∀ p ∈ s.pads, p.state ≠ .sealed ∧ p.sealedTeardown = false) →
      exec (.dbgCtlRequest v) s = .next { s with sec := { s.sec with dbgBusy := true } }) := by
  have hjudged := State.requestDebug_of_idle hidle hno
  have hpolicy : s.debugAllowed = true → ¬s.debugAllowed = false := fun h => by simp [h]
  have hunsealed : (∀ p ∈ s.pads, p.state ≠ .sealed) → ¬∃ p ∈ s.pads, p.state = .sealed := fun h ⟨p, hp, hs⟩ => h p hp hs
  refine ⟨fun hdenied => ?_, fun hallowed hsealed => ?_, fun hallowed hopenPads hteardown => ?_, fun hallowed hclear => ?_⟩
  · exact request_isRefused hopen hrequest hwithdraw hidle (hjudged.trans (if_pos hdenied))
  · exact request_isRefused hopen hrequest hwithdraw hidle (hjudged.trans ((if_neg (hpolicy hallowed)).trans (if_pos hsealed)))
  · exact request_isRefused hopen hrequest hwithdraw hidle (hjudged.trans ((if_neg (hpolicy hallowed)).trans
      ((if_neg (hunsealed hopenPads)).trans (if_pos hteardown))))
  · have hdone : ¬∃ p ∈ s.pads, p.sealedTeardown = true := fun ⟨p, hp, hs⟩ => by simp [(hclear p hp).2] at hs
    rw [exec_dbgCtlRequest hopen hrequest, State.dbgCtl_of_request hrequest hwithdraw, hjudged, if_neg (hpolicy hallowed),
      if_neg (hunsealed fun p hp => (hclear p hp).1), if_neg hdone]

/-! ### The end of a request -/

/-- The node with a request at its end, every key slot and store entry zeroised (R289). -/
def State.debugWiped (s : State) : State :=
  { s with
    sec := { s.sec with dbgBusy := false, withdrawPending := false }
    pads := s.pads.map fun p => { p with ktp := [], kmem := [] } }

/-- The node with the permission given after it (R404). -/
def State.debugGranted (s : State) : State :=
  { s.debugWiped with sec := { s.debugWiped.sec with sticky := true } }.setDebug true s.sec.dbgReason

theorem exec_debugRequestDone (hbusy : s.sec.dbgBusy = true) (z : Bool) : exec (.debugRequestDone z) s =
    .next (if z = false then s.debugWiped.setDebug false 4
      else if s.sec.withdrawPending = true then s.debugWiped else s.debugGranted) := by
  change execDebugRequestDone z s = _
  rw [execDebugRequestDone, hbusy]
  cases z with
  | false => rfl
  | true => cases h : s.sec.withdrawPending <;> rfl

/-- No paddock has a key, and none is gone. -/
def State.KeysWiped (s t : State) : Prop := (∀ p ∈ t.pads, p.ktp = [] ∧ p.kmem = []) ∧ t.pads.length = s.pads.length

theorem State.keysWiped_of_pads {t : State} (h : t.pads = s.debugWiped.pads) : s.KeysWiped t := by
  rw [State.KeysWiped, h]
  exact ⟨List.forall_mem_map.mpr fun _ _ => ⟨rfl, rfl⟩, List.length_map ..⟩

theorem debugRequest_ends (hbusy : s.sec.dbgBusy = true) (z : Bool) : Answers (exec (.debugRequestDone z) s) fun t =>
    t.sec.dbgBusy = false ∧ (∀ p ∈ t.pads, p.ktp = [] ∧ p.kmem = []) ∧ t.pads.length = s.pads.length ∧
    (z = false → t.sec.permitted = false ∧ t.sec.dbgReason = 4 ∧ t.sec.sticky = s.sec.sticky) ∧
    (z = true → s.sec.withdrawPending = false → t.sec.permitted = true ∧ t.sec.sticky = true) ∧
    (z = true → s.sec.withdrawPending = true → t.sec.permitted = s.sec.permitted ∧ t.sec.sticky = s.sec.sticky) := by
  rw [exec_debugRequestDone hbusy]
  refine answers_next ?_
  cases z with
  | false =>
    obtain ⟨changed, hsec⟩ := s.debugWiped.sec_setDebug false 4
    obtain ⟨hkeys, hlen⟩ := State.keysWiped_of_pads (s := s) (s.debugWiped.pads_setDebug false 4)
    rw [if_pos rfl, hsec]
    exact ⟨rfl, hkeys, hlen, fun _ => ⟨rfl, rfl, rfl⟩, nofun, nofun⟩
  | true =>
    rw [if_neg (by decide)]
    cases hpending : s.sec.withdrawPending with
    | true =>
      obtain ⟨hkeys, hlen⟩ := State.keysWiped_of_pads (s := s) rfl
      exact ⟨rfl, hkeys, hlen, nofun, nofun, fun _ _ => ⟨rfl, rfl⟩⟩
    | false =>
      obtain ⟨changed, hsec⟩ :=
        State.sec_setDebug { s.debugWiped with sec := { s.debugWiped.sec with sticky := true } } true s.sec.dbgReason
      obtain ⟨hkeys, hlen⟩ := State.keysWiped_of_pads (s := s) (t := s.debugGranted) (State.pads_setDebug ..)
      rw [if_neg (by decide), State.debugGranted, hsec]
      exact ⟨rfl, hkeys, hlen, nofun, fun _ _ => ⟨rfl, rfl⟩, nofun⟩

/-! ### Requests and withdrawals while one is checked -/

theorem request_meetsAnother (hopen : s.bar0Open = true) (hbusy : s.sec.dbgBusy = true) (hrequest : bit v 0 = true)
    (hwithdraw : bit v 1 = false) : Answers (exec (.dbgCtlRequest v) s) fun t =>
      t.sec.dbgReason = 5 ∧ t.sec.dbgBusy = true ∧ t.sec.permitted = s.sec.permitted := by
  rw [exec_dbgCtlRequest hopen hrequest, State.dbgCtl_of_request hrequest hwithdraw, State.requestDebug_of_busy hbusy]
  obtain ⟨changed, hsec⟩ := s.sec_setDebug s.sec.permitted 5
  refine answers_next ?_
  rw [hsec]
  exact ⟨rfl, hbusy, rfl⟩

theorem withdrawal_waits (hopen : s.bar0Open = true) (hbusy : s.sec.dbgBusy = true) (hrequest : bit v 0 = false)
    (hwithdraw : bit v 1 = true) :
    exec (.dbgCtlWithdraw v) s = .next { s with sec := { s.sec with withdrawPending := true } } := by
  rw [exec_dbgCtlWithdraw hopen hwithdraw, State.dbgCtl_of_withdraw hrequest hwithdraw, State.withdrawDebug, if_pos hbusy]

theorem withdrawal_ends (hopen : s.bar0Open = true) (hidle : s.sec.dbgBusy = false) (hrequest : bit v 0 = false)
    (hwithdraw : bit v 1 = true) : Answers (exec (.dbgCtlWithdraw v) s) fun t =>
      t.sec.permitted = false ∧ t.sec.sticky = s.sec.sticky ∧ t.shr.tracing = false ∧ t.pads = s.pads := by
  rw [exec_dbgCtlWithdraw hopen hwithdraw, State.dbgCtl_of_withdraw hrequest hwithdraw, State.withdrawDebug,
    if_neg (by simp [hidle])]
  obtain ⟨changed, hsec⟩ := s.sec_setDebug false s.sec.dbgReason
  refine answers_next ?_
  dsimp only
  rw [hsec, State.pads_setDebug]
  exact ⟨rfl, rfl, rfl, rfl⟩

end

/-- Settles O45: a request is asked one condition after the other (`State.requestDebug_of_idle`), its end zeroises every key first
(`State.debugWiped`), and a withdrawal while one is checked is kept for that end. -/
theorem debugIsRequestedAndWithdrawn : Obligations.DebugIsRequestedAndWithdrawn := by
  unfold Obligations.DebugIsRequestedAndWithdrawn
  refine fun v s hopen => ⟨fun hrequest hwithdraw => ?_, request_isJudged hopen, fun hbusy =>
    ⟨request_meetsAnother hopen hbusy, withdrawal_waits hopen hbusy, debugRequest_ends hbusy⟩, withdrawal_ends hopen⟩
  rw [exec_dbgCtlRequest hopen hrequest, exec_dbgCtlWithdraw hopen hwithdraw, State.dbgCtl_of_both hrequest hwithdraw]
  exact ⟨rfl, rfl⟩

end Sys2Proof.Machine
end

section
/-! O23. TDISP requests (R286), and the configuration writes and IDE failures that move the TDI (R287, R340, R376). -/

namespace Sys2Proof.Machine

section
variable {s : State}

/-! ### TDISP -/

/-- Where O0 serves, a request moves the TDI and is answered over DOE (R286, R287). -/
theorem exec_tdispMessage (r : Tdisp) (hserves : s.restarting 0 = false) : ∃ body, exec (.tdispMessage r) s =
    .next (State.emit { s with rng := s.rng + 1, sec := { s.sec with
      tdi := s.sec.tdi.after r, bar0Shut := s.sec.bar0Shut && decide (s.sec.tdi.after r ≠ .locked) } } (.spdm 0 0 body)) := by
  change ∃ body, execTdispMessage r s = _
  rw [execTdispMessage, State.spdmServes, hserves]
  exact ⟨_, rfl⟩

theorem Tdi.after_of_still {r : Tdisp} (d : Tdi) (hlock : r ≠ .lockInterface) (hstart : r ≠ .startInterface)
    (hstop : r ≠ .stopInterface) : d.after r = d := by
  cases r with
  | lockInterface => exact absurd rfl hlock
  | startInterface => exact absurd rfl hstart
  | stopInterface => exact absurd rfl hstop
  | getVersion | getCapabilities | getReport | getState => rfl

/-- Only stopping leaves ERROR (R287). -/
theorem Tdi.error_after {r : Tdisp} (hstop : r ≠ .stopInterface) : Tdi.error.after r = .error := by
  cases r with
  | stopInterface => exact absurd rfl hstop
  | lockInterface | startInterface | getVersion | getCapabilities | getReport | getState => rfl

theorem tdispMovesTheTdi : Claims.TdispMovesTheTdi := by
  intro r s hserves
  obtain ⟨body, heq⟩ := exec_tdispMessage r hserves
  rw [heq]
  refine answers_next ⟨?_, ?_, ?_, Tdi.after_of_still _, ?_, ?_, rfl, rfl, rfl, rfl⟩
  · rintro rfl hunlocked
    exact congrArg (Tdi.after · .lockInterface) hunlocked
  · rintro rfl hlocked
    exact congrArg (Tdi.after · .startInterface) hlocked
  · rintro rfl
    rfl
  · intro hstop herror
    exact (congrArg (Tdi.after · r) herror).trans (Tdi.error_after hstop)
  · exact Bool.and_eq_true_iff.trans (and_congr_right fun _ => decide_eq_true_iff)

/-! ### Configuration writes and IDE failures -/

theorem State.tdiError_of_unlocked (h : s.sec.tdi = .unlocked) : s.tdiError = s := by
  rw [State.tdiError, h]

theorem State.tdiError_of_locked (h : s.sec.tdi ≠ .unlocked) :
    s.tdiError = { s with sec := { s.sec with tdi := .error, bar0Shut := true } } := by
  rw [State.tdiError]
  split
  · next hunlocked => exact absurd hunlocked h
  · rfl

/-- Until ROM ends a configuration request is answered with Retry Status (R340). -/
theorem exec_configurationWrite_retry (hup : s.bar0Up = true) (hrom : s.boot.stage = 2) (w : CfgWrite) :
    exec (.configurationWrite w) s = .next (s.emit .configRetry) := if_pos (by simp [hup, hrom])

theorem exec_configurationWrite (h : s.bar0Up = false ∨ s.boot.stage ≠ 2) (w : CfgWrite) :
    exec (.configurationWrite w) s = match w with
      | .setD0 => .next (s.wake 7 0)
      | .lockedRegister => .next s.tdiError
      | .other => .next s := by
  have hgo : (s.bar0Up && s.boot.stage == 2) ≠ true := by
    rcases h with h | h <;> simp [h]
  cases w <;> exact if_neg hgo

/-- What puts the TDI into ERROR: a write of a locked register, once ROM has ended, and an IDE failure (R287). -/
theorem exec_eq_tdiError {c : Instr}
    (h : (c = Instr.configurationWrite .lockedRegister ∧ (s.bar0Up = false ∨ s.boot.stage ≠ 2)) ∨ c = Instr.ideFailure) :
    exec c s = .next s.tdiError := by
  obtain ⟨rfl, hended⟩ | rfl := h
  · exact exec_configurationWrite hended _
  · rfl

theorem State.wake_of_n2 (h : s.pwr.state = .n2) (source port : Nat) : s.wake source port = s.beginExit source port := by
  rw [State.wake, h]

theorem pcieWritesMoveTheTdi : Claims.PcieWritesMoveTheTdi := by
  refine fun s => ⟨exec_configurationWrite_retry, fun c hc => ⟨fun hunlocked => ?_, fun hlocked => ?_⟩,
    fun hended => exec_configurationWrite (.inr hended) _, fun hended hn2 => ?_, fun hended hn0 => ?_⟩
  · rw [exec_eq_tdiError hc, State.tdiError_of_unlocked hunlocked]
  · rw [exec_eq_tdiError hc, State.tdiError_of_locked hlocked]
  · rw [exec_configurationWrite (.inr hended), State.wake_of_n2 hn2]
    exact answers_next ⟨rfl, rfl, rfl, rfl, rfl⟩
  · rw [exec_configurationWrite (.inr hended), State.wake_of_awake (by rw [State.awake, hn0]; rfl)]

end

/-- Settles O23: a TDISP request moves the TDI as `Tdi.after` says, whatever else it is answered; every event that puts the TDI into
ERROR is one operation (`State.tdiError`). -/
theorem theTdiMovesByItsRequests : Obligations.TheTdiMovesByItsRequests := by
  unfold Obligations.TheTdiMovesByItsRequests
  exact ⟨tdispMovesTheTdi, pcieWritesMoveTheTdi⟩

end Sys2Proof.Machine
end

section
/-! SUPPORT. What checks, refusals and ends of operations leave of the paddocks, the mailboxes, the windows and the numbering of the
operations. -/

namespace Sys2Proof.Machine

/-- What stands of the functions that commands shut down (R368). -/
def Host_.switches (h : Host_) : List Function_ × List Nat := (h.functions, h.slicesOff)

theorem State.postNotice_switches (s : State) : s.postNotice.host.switches = s.host.switches := by
  rw [State.postNotice]
  split
  · rfl
  · split
    · rfl
    · rw [State.eventBit_host]
      rfl

theorem State.notify_switches (s : State) (n : Notice) : (s.notify n).host.switches = s.host.switches := by
  rw [State.notify]
  refine (State.postNotice_switches _).trans ?_
  split
  · rfl
  · split <;> rfl

theorem State.addRecord_switches (s : State) (e : ErrRep) (detected : Nat) :
    (s.addRecord e detected).host.switches = s.host.switches := by
  rw [State.addRecord]
  dsimp only
  split
  · rw [State.notify_switches, State.errSummary_host]
  · rw [State.errSummary_host]

theorem State.note_switches (s : State) (e : ErrRep) : (s.note e).host.switches = s.host.switches := by
  rw [State.note]
  split
  · rw [State.queueReport]
    split
    · rfl
    · rw [State.errSummary_host]
  · rw [State.logReport]
    split
    · rfl
    · exact State.addRecord_switches ..

/-- The later state has the earlier one's paddocks but for Tally and the write counters, its mailboxes and functions and its
windows, and numbers operations from no lower number. -/
structure KeepsPads (s t : State) : Prop where
  pad : ∀ p, ∃ w c, t.pad p = { s.pad p with writeCounter := w, counters := c }
  host : s.host.Keeps t.host
  switches : t.host.switches = s.host.switches
  windows : t.maps.windows = s.maps.windows
  nextOp : s.eng.nextOp ≤ t.eng.nextOp

section
variable {s t u : State} {m : Mask}

theorem KeepsPads.of_eq (hpads : t.pads = s.pads) (hhost : t.host = s.host) (hwindows : t.maps.windows = s.maps.windows)
    (hnext : t.eng.nextOp = s.eng.nextOp) : KeepsPads s t :=
  ⟨fun p => ⟨(s.pad p).writeCounter, (s.pad p).counters, State.pad_of_pads hpads p⟩, .of_eq hhost,
    congrArg Host_.switches hhost, hwindows, hnext.ge⟩

theorem KeepsPads.refl (s : State) : KeepsPads s s := .of_eq rfl rfl rfl rfl

theorem KeepsPads.trans (h : KeepsPads s t) (k : KeepsPads t u) : KeepsPads s u := by
  refine ⟨fun p => ?_, h.host.trans k.host, k.switches.trans h.switches, k.windows.trans h.windows, h.nextOp.trans k.nextOp⟩
  obtain ⟨w, c, hp⟩ := h.pad p
  obtain ⟨w', c', hp'⟩ := k.pad p
  exact ⟨w', c', by rw [hp', hp]⟩

theorem KeepsPads.foldl {β : Type} {f : State → β → State} (h : ∀ u x, KeepsPads u (f u x)) (xs : List β) (s : State) :
    KeepsPads s (xs.foldl f s) := by
  induction xs generalizing s with
  | nil => exact .refl s
  | cons x xs ih => exact (h s x).trans (ih _)

/-- What changes neither the paddocks nor the host interface keeps them, if the windows and the numbering stay. -/
theorem KeepsPads.of_same (h : Same m s t) (hpads : m.pads = false) (hhost : m.host = false)
    (hwindows : t.maps.windows = s.maps.windows) (hnext : t.eng.nextOp = s.eng.nextOp) : KeepsPads s t :=
  .of_eq (h.pads.eq hpads) (h.host.eq hhost) hwindows hnext

theorem KeepsPads.of_frame (h : Same m s t) (hpads : m.pads = false) (hhost : m.host = false) (hmaps : m.maps = false)
    (heng : m.eng = false) : KeepsPads s t :=
  .of_same h hpads hhost (congrArg Maps.windows (h.maps.eq hmaps)) (congrArg Engine.nextOp (h.eng.eq heng))

end

/-! ### Seals and reports -/

section
variable (s : State)

theorem State.note_keepsPads (e : ErrRep) : KeepsPads s (s.note e) :=
  have h := State.note_same s e
  ⟨fun p => ⟨_, _, State.pad_of_pads (h.pads.eq rfl) p⟩, State.note_keeps .., State.note_switches ..,
    congrArg Maps.windows (h.maps.eq rfl),
    (congrArg Engine.nextOp (h.eng.eq rfl)).ge⟩

theorem KeepsPads.modPad {s : State} {p : Nat} {f : Pad → Pad}
    (hf : ∀ x, ∃ w c, f x = { x with writeCounter := w, counters := c }) : KeepsPads s (s.modPad p f) := by
  refine ⟨fun o => ?_, .refl _, rfl, rfl, Nat.le_refl _⟩
  have hid : (f (s.pad p)).id = p := by
    obtain ⟨w, c, h⟩ := hf (s.pad p)
    rw [h, State.pad_id]
  by_cases ho : o = p
  · subst ho
    rw [State.pad_modPad hid]
    exact hf _
  · exact ⟨(s.pad o).writeCounter, (s.pad o).counters, State.pad_modPad_of_ne hid ho⟩

theorem State.tally_keepsPads (p counter amount : Nat) : KeepsPads s (s.tally p counter amount) :=
  .modPad fun x => ⟨x.writeCounter, _, rfl⟩

/-- A version that is drawn counts the paddock's write counter up and changes nothing else (R115). -/
theorem State.version_keepsPads (paddock : Nat) (sealed : Bool) : KeepsPads s (s.version paddock sealed).2 := by
  rw [State.version]
  split
  · exact .modPad fun x => ⟨_, x.counters, rfl⟩
  · exact .refl s

theorem State.resealDescPage_keepsPads (q : Seq) : KeepsPads s (s.resealDescPage q) := by
  rw [State.resealDescPage]
  split
  · exact .refl s
  · exact (s.version_keepsPads q.paddock true).trans (.of_eq rfl rfl rfl rfl)

theorem State.resealPage_keepsPads (d page : Nat) : KeepsPads s (s.resealPage d page) := by
  rw [State.resealPage]
  split
  · exact .refl s
  · next q _ => exact (s.version_keepsPads q.paddock true).trans (.of_eq rfl rfl rfl rfl)

theorem State.resealL1_keepsPads (d : Nat) : KeepsPads s (s.resealL1 d) := by
  rw [State.resealL1]
  split
  · exact .refl s
  · next q _ =>
    refine .trans ?_ (State.resealDescPage_keepsPads ..)
    exact (s.version_keepsPads q.paddock true).trans (.of_eq rfl rfl rfl rfl)

theorem State.reseal_keepsPads (d : Nat) : KeepsPads s (s.reseal d) := by
  rw [State.reseal]
  split
  · exact .refl s
  · dsimp only
    split
    · exact .of_eq rfl rfl rfl rfl
    · split
      · exact .of_eq rfl rfl rfl rfl
      · refine .trans ?_ (State.resealL1_keepsPads ..)
        refine .trans ?_ (.foldl (fun _ _ => State.resealPage_keepsPads ..) ..)
        exact .of_eq rfl rfl rfl rfl

theorem State.resealNamers_keepsPads (n : Nat) : KeepsPads s (s.resealNamers n) :=
  .foldl (fun _ _ => State.reseal_keepsPads ..) ..

/-! ### Records to the partner -/

theorem State.refuseBlock_keepsPads (q : Seq) (layer block : Nat) : KeepsPads s (s.refuseBlock q layer block) := by
  refine .of_same (State.refuseBlock_same ..) rfl rfl ?_ (congrArg Engine.nextOp ((State.refuseBlock_same ..).eng.eq rfl))
  rw [State.refuseBlock]
  split
  · rfl
  · rw [State.ledgerInsert]
    split
    · rfl
    · dsimp only
      split <;> rfl

theorem State.ensureStream_keepsPads (partner paddock : Nat) : KeepsPads s (s.ensureStream partner paddock) := by
  rw [State.ensureStream]
  split <;> exact .of_eq rfl rfl rfl rfl

theorem State.pumpStreamFuel_keepsPads (i fuel : Nat) : KeepsPads s (State.pumpStreamFuel i fuel s) := by
  induction fuel generalizing s with
  | zero => exact .refl s
  | succ fuel ih =>
    rw [State.pumpStreamFuel]
    split
    · exact .refl s
    · split
      · split
        · exact .refl s
        · dsimp only
          split
          · refine .trans ?_ (ih _)
            exact .of_eq rfl rfl rfl rfl
          · split
            · exact .refl s
            · refine .trans ?_ (ih _)
              refine .trans ?_ (.of_frame (State.sendCommit_same ..) rfl rfl rfl rfl)
              split <;> exact .of_eq rfl rfl rfl rfl
      · exact .refl s

theorem State.queueRecords_keepsPads (partner paddock op : Nat) (records : List Bytes) :
    KeepsPads s (s.queueRecords partner paddock op records) := by
  rw [State.queueRecords]
  split
  · exact .refl s
  · have hstream := s.ensureStream_keepsPads partner paddock
    dsimp only
    split
    · exact hstream
    · rw [State.pumpStream]
      split
      · exact hstream.trans (.of_eq rfl rfl rfl rfl)
      · refine .trans (hstream.trans ?_) (State.pumpStreamFuel_keepsPads ..)
        exact .of_eq rfl rfl rfl rfl

theorem State.restoreReq_keepsPads (q : Seq) (layer head block : Nat) : KeepsPads s (s.restoreReq q layer head block) := by
  rw [State.restoreReq]
  split
  · exact .refl s
  · exact (State.refuseBlock_keepsPads ..).trans (State.queueRecords_keepsPads ..)

/-! ### Losses and retired frames -/

theorem State.freeOld_keepsPads (block desc generation paddock : Nat) (p : Place) :
    KeepsPads s (s.freeOld block desc generation paddock p) := .of_frame (State.freeOld_same ..) rfl rfl rfl rfl

theorem State.losePages_keepsPads (q : Seq) (pages : List Nat) (address : Nat) : KeepsPads s (s.losePages q pages address) := by
  rw [State.losePages]
  refine .trans ?_ (.foldl (fun _ _ => State.restoreReq_keepsPads ..) ..)
  refine .trans ?_ (State.note_keepsPads ..)
  split
  · refine .trans ?_ (State.resealL1_keepsPads ..)
    exact .of_eq rfl rfl rfl rfl
  · exact .of_eq rfl rfl rfl rfl

theorem State.loseSeq_keepsPads (q : Seq) (address : Nat) : KeepsPads s (s.loseSeq q address) := by
  rw [State.loseSeq]
  split
  · exact .refl s
  · refine .trans ?_ (State.queueRecords_keepsPads ..)
    refine .trans ?_ (State.note_keepsPads ..)
    refine .trans ?_ (State.resealDescPage_keepsPads ..)
    exact .of_eq rfl rfl rfl rfl

theorem State.moveTable_keepsPads (q : Seq) (i bytes align : Nat) (hit : Bool) : KeepsPads s (s.moveTable q i bytes align hit) :=
  .of_frame (State.moveTable_same ..) rfl rfl rfl rfl

theorem State.allocT1_keepsPads {slice paddock shift units : Nat} {p : Place} {t : State}
    (h : s.allocT1 slice paddock shift units = some (p, t)) : KeepsPads s t :=
  .of_frame ((State.allocT1_same ..).of _ h) rfl rfl rfl rfl

theorem State.relocateBlock_keepsPads (b : Block) : KeepsPads s (s.relocateBlock b) := by
  rw [State.relocateBlock]
  split
  · exact .refl s
  · split
    · exact .refl s
    · split
      · refine .trans ?_ (State.restoreReq_keepsPads ..)
        refine .trans ?_ (State.note_keepsPads ..)
        refine .trans ?_ (State.resealNamers_keepsPads ..)
        exact .of_eq rfl rfl rfl rfl
      · split
        · exact .refl s
        · next halloc =>
          refine .trans ?_ (State.freeOld_keepsPads ..)
          refine .trans ?_ (State.resealNamers_keepsPads ..)
          exact (s.allocT1_keepsPads halloc).trans (.of_eq rfl rfl rfl rfl)

theorem State.relocateTail_keepsPads (q : Seq) (e : Entry) (x : TailSlot) : KeepsPads s (s.relocateTail q e x) := by
  rw [State.relocateTail]
  split
  · exact .refl s
  · split
    · refine .trans ?_ (State.restoreReq_keepsPads ..)
      refine .trans ?_ (State.note_keepsPads ..)
      refine .trans ?_ (State.reseal_keepsPads ..)
      exact .of_eq rfl rfl rfl rfl
    · split
      · exact .refl s
      · next halloc =>
        refine .trans ?_ (State.freeOld_keepsPads ..)
        refine .trans ?_ (State.reseal_keepsPads ..)
        exact (s.allocT1_keepsPads halloc).trans (.of_eq rfl rfl rfl rfl)

theorem State.relocateMeta_keepsPads (q : Seq) (frame : Nat) : KeepsPads s (s.relocateMeta q frame) := by
  rw [State.relocateMeta]
  split
  · exact .refl s
  · extract_lets here base run badL1 s1 s2 s3 tables s4 s5 s6 s7 s8
    have h1 : KeepsPads s s1 := .foldl (fun _ _ => State.losePages_keepsPads ..) ..
    have h2 : KeepsPads s1 s2 := State.moveTable_keepsPads ..
    have h3 : KeepsPads s2 s3 := .foldl (fun t p => by
      split
      · exact .refl t
      · split
        · exact State.losePages_keepsPads ..
        · exact .of_frame (State.moveMeta_same ..) rfl rfl rfl rfl) ..
    have h4 : KeepsPads s3 s4 := by
      dsimp only [s4]
      split
      · exact State.loseSeq_keepsPads ..
      · exact .refl s3
    have h7 : KeepsPads s4 s7 :=
      ((State.moveTable_keepsPads ..).trans (State.moveTable_keepsPads ..)).trans (State.moveTable_keepsPads ..)
    have h8 : KeepsPads s7 s8 := by
      dsimp only [s8]
      split
      · exact .of_eq rfl rfl rfl rfl
      · exact .refl s7
    have hlast := ((((h1.trans h2).trans h3).trans h4).trans h7).trans h8
    split
    · exact hlast.trans (State.resealL1_keepsPads ..)
    · exact hlast

theorem State.relocateFrame_keepsPads (frame : Nat) : KeepsPads s (s.relocateFrame frame) := by
  rw [State.relocateFrame]
  refine .trans ?_ (.foldl (fun _ _ => State.relocateMeta_keepsPads ..) ..)
  refine .trans (.foldl (fun _ _ => State.relocateBlock_keepsPads ..) ..) (.foldl (fun t q => .foldl (fun t e => ?_) ..) ..)
  split
  · split
    · exact State.relocateTail_keepsPads ..
    · exact .refl t
  · exact .refl t

theorem State.retireFrame_keepsPads (frame : Nat) : KeepsPads s (s.retireFrame frame) := by
  refine .trans (.trans ?_ (State.relocateFrame_keepsPads ..)) (.of_frame (State.recordFrame_same ..) rfl rfl rfl rfl)
  exact .of_frame (State.stopFrame_same ..) rfl rfl rfl rfl

theorem State.eccDomain_keepsPads (paddock unit frame : Nat) : KeepsPads s (s.eccDomain paddock unit frame) := by
  rw [State.eccDomain]
  split
  · exact .refl s
  · refine .trans ?_ (State.retireFrame_keepsPads ..)
    exact (State.note_keepsPads ..).trans (.of_frame (State.poisonFrame_same ..) rfl rfl rfl rfl)

theorem State.loseFrameOf_keepsPads (address : Nat) : KeepsPads s (s.loseFrameOf address) := by
  rw [State.loseFrameOf]
  refine .trans ?_ (State.retireFrame_keepsPads ..)
  split
  · exact State.eccDomain_keepsPads ..
  · exact .refl s

theorem State.markLost_keepsPads (d layer head block : Nat) : KeepsPads s (s.markLost d layer head block) := by
  rw [State.markLost]
  split
  · exact .refl s
  · split
    · exact .refl s
    · extract_lets place s1 s2 s3 s4
      have h1 : KeepsPads s s1 := by
        dsimp only [s1]
        split <;> exact .of_eq rfl rfl rfl rfl
      have h2 : KeepsPads s1 s2 := by
        dsimp only [s2]
        split
        · exact State.reseal_keepsPads ..
        · exact State.resealNamers_keepsPads ..
      have h3 : KeepsPads s2 s3 := State.note_keepsPads ..
      have h4 : KeepsPads s3 s4 := by
        dsimp only [s4]
        split
        · exact .refl s3
        · exact State.retireFrame_keepsPads ..
      exact (((h1.trans h2).trans h3).trans h4).trans (State.restoreReq_keepsPads ..)

/-! ### Requests that are checked -/

theorem State.fetchChecks_keepsPads (d : Nat) : KeepsPads s (s.fetchChecks d) := by
  rw [State.fetchChecks]
  split
  · exact .refl s
  · dsimp only
    split
    · exact .trans (.foldl (fun _ _ => State.loseSeq_keepsPads ..) ..) (State.loseFrameOf_keepsPads ..)
    · split
      · exact .trans (State.loseSeq_keepsPads ..) (State.loseFrameOf_keepsPads ..)
      · split
        · exact .trans (State.loseSeq_keepsPads ..) (State.loseFrameOf_keepsPads ..)
        · exact .refl s

theorem State.fetchDescriptor_keepsPads (qp : Option Qp) (r : Req) : KeepsPads s (s.fetchDescriptor qp r) := by
  rw [State.fetchDescriptor]
  extract_lets found
  split
  · exact .refl s
  · refine .foldl (fun t die => ?_) ..
    extract_lets line t' mine
    have ht : KeepsPads t t' := by
      dsimp only [t']
      split
      · exact .refl t
      · exact State.fetchChecks_keepsPads ..
    exact ht.trans (.of_eq rfl rfl rfl rfl)

theorem State.fetchHeader_keepsPads : KeepsPads s s.fetchHeader := by
  rw [State.fetchHeader]
  split
  · exact .refl s
  · refine .trans ?_ (.of_frame (State.askFm_same ..) rfl rfl rfl rfl)
    exact .of_eq rfl rfl rfl rfl

theorem State.checkEffects_keepsPads (r : Req) (e : CheckFail) : KeepsPads s (s.checkEffects r e) := by
  unfold State.checkEffects
  extract_lets s1 s2 s3 s4
  have h1 : KeepsPads s s1 := .foldl (fun _ _ => State.markLost_keepsPads ..) ..
  have h2 : KeepsPads s1 s2 := .foldl (fun t x => by
    split
    · exact .refl t
    · exact State.restoreReq_keepsPads ..) ..
  have h3 : KeepsPads s2 s3 := by
    dsimp only [s3]
    split
    · exact State.note_keepsPads ..
    · exact .refl s2
  have h4 : KeepsPads s3 s4 := by
    dsimp only [s4]
    split
    · exact .refl s3
    · refine .trans ?_ (State.note_keepsPads ..)
      exact .of_eq rfl rfl rfl rfl
  have hlast := ((h1.trans h2).trans h3).trans h4
  split
  · exact hlast.trans (State.fetchHeader_keepsPads _)
  · exact hlast

theorem State.refuseReq_keepsPads (r : Req) (e : CheckFail) : KeepsPads s (s.refuseReq r e) :=
  (State.checkEffects_keepsPads ..).trans (.of_frame (State.answerReq_same ..) rfl rfl rfl rfl)

theorem State.queueOp_keepsPads (o : Op) : KeepsPads s (s.queueOp o) :=
  .trans (t := s.modOp o.id fun x => { x with phase := .queued }) (.of_eq rfl rfl rfl rfl)
    (.of_frame (State.enqueue_same ..) rfl rfl rfl rfl)

theorem State.holdForWeights_keepsPads (o : Op) : KeepsPads s (s.holdForWeights o) := by
  rw [State.holdForWeights]
  split
  · exact .trans (t := s.modOp o.id fun y => { y with phase := .weights }) (.of_eq rfl rfl rfl rfl)
      (.of_frame (State.loadLayer_same ..) rfl rfl rfl rfl)
  · exact .refl s

theorem State.acceptReq_keepsPads (r : Req) (p : Plan) : KeepsPads s (s.acceptReq r p) := by
  unfold State.acceptReq
  extract_lets id o eng s1 s2
  have h1 : KeepsPads s s1 := ⟨(KeepsPads.refl s).pad, .refl _, rfl, rfl, Nat.le_succ _⟩
  have h2 : KeepsPads s1 s2 := by
    dsimp only [s2]
    split <;> exact .of_eq rfl rfl rfl rfl
  split
  · exact (h1.trans h2).trans (State.holdForWeights_keepsPads ..)
  · exact (h1.trans h2).trans (State.queueOp_keepsPads ..)

theorem State.runReq_keepsPads (r : Req) : KeepsPads s (s.runReq r) := by
  rw [State.runReq]
  split
  · exact .refl s
  · dsimp only
    split
    · exact (State.fetchDescriptor_keepsPads ..).trans (State.refuseReq_keepsPads ..)
    · exact (State.fetchDescriptor_keepsPads ..).trans (State.acceptReq_keepsPads ..)

theorem State.runHeldFuel_keepsPads (key : Nat × Nat) (fuel : Nat) : KeepsPads s (State.runHeldFuel key fuel s) := by
  induction fuel generalizing s with
  | zero => exact .refl s
  | succ fuel ih =>
    rw [State.runHeldFuel]
    split
    · exact .refl s
    · split
      · exact .refl s
      · refine .trans ?_ (ih _)
        refine .trans ?_ (State.runReq_keepsPads ..)
        exact .of_eq rfl rfl rfl rfl

/-! ### Operations that end -/

theorem State.endOp_keepsPads (o : Op) (status detail hint : Nat) (body : Bytes) :
    KeepsPads s (s.endOp o status detail hint body) := by
  unfold State.endOp
  extract_lets s1 eng sch s2 s3 s4 s5
  have h1 : KeepsPads s s1 := by
    refine .trans (t := s.returnCharge o) (.of_frame (State.returnCharge_same ..) rfl rfl rfl rfl) ?_
    exact .trans (.of_frame (State.unref_same ..) rfl rfl rfl rfl) (.of_frame (State.dropHeld_same ..) rfl rfl rfl rfl)
  have h3 : KeepsPads s1 s3 := .of_eq rfl rfl rfl rfl
  have h4 : KeepsPads s3 s4 := by
    dsimp only [s4]
    split
    · exact .of_frame (State.consume_same ..) rfl rfl rfl rfl
    · exact .of_frame (State.answerReq_same ..) rfl rfl rfl rfl
  have hlast := ((h1.trans h3).trans h4).trans (.of_frame (State.dropRemoved_same ..) rfl rfl rfl rfl)
  split
  · exact hlast.trans (State.runHeldFuel_keepsPads ..)
  · exact hlast

end

end Sys2Proof.Machine
end

section
/-! SUPPORT. What the start of a teardown does to the paddocks, the windows and the keys (R299). -/

namespace Sys2Proof.Machine

/-! ### Windows that are closed (R226) -/

theorem updateFirst_updateFirst {α : Type} {p : α → Bool} {f g : α → α} (hf : ∀ x, p (f x) = p x) (xs : List α) :
    updateFirst p g (updateFirst p f xs) = updateFirst p (g ∘ f) xs := by
  induction xs with
  | nil => rfl
  | cons x xs ih =>
    by_cases hx : p x = true
    · simp [updateFirst, hx, hf]
    · simp [updateFirst, hx, ih]

/-- A window that is set to closing and has given up its parts (R226, R427). -/
def Window.shut (w : Window) : Window := { w with state := .closing, parts := [] }

section
variable (s : State)

theorem State.freeParts_windows (n : Nat) : (s.freeParts n).maps.windows = s.maps.windows :=
  congrArg Maps.windows ((State.freeParts_same ..).maps.eq rfl)

theorem State.windows_closeWindow (n : Nat) :
    (s.closeWindow n).maps.windows = updateFirst (·.index == n) Window.shut s.maps.windows := by
  rw [State.closeWindow]
  cases hw : s.window n with
  | none => exact (updateFirst_eq_self fun w hmem hindex => absurd hindex (List.find?_eq_none.mp hw w hmem)).symm
  | some w =>
    refine (foldl_keeps (f := fun (t : State) (q : Nat) => t.failConn q) (g := fun t : State => t.maps.windows)
      (fun _ _ => State.failConn_windows ..) ..).trans ?_
    have hparts : (s.dropParts w).maps.windows = updateFirst (·.index == n) (fun x => { x with parts := [] }) s.maps.windows := by
      rw [← State.window_index hw]
      exact congrArg _ (s.freeParts_windows w.index)
    exact (congrArg (updateFirst _ _) hparts).trans
      (updateFirst_updateFirst (f := fun x : Window => { x with parts := [] }) (fun _ => rfl) s.maps.windows)

/-- The node once the teardown of a paddock has begun and its windows are closing (R299 step 1). -/
def State.teardownBegun (s : State) (p : Nat) : State :=
  let t := s.modPad p fun x => { x with state := .teardown, sealedTeardown := decide ((s.pad p).state = .sealed) }
  (t.ownWindows p).foldl (fun t i => t.closeWindow i) t

section
variable (p : Nat)

/-- What the closing of windows may change, and the paddocks. -/
def Mask.teardown : Mask :=
  { rng := true, pads := true, net := true, maps := true, store := true, eng := true, sch := true, leases := true, pwr := true }

theorem State.teardownBegun_same : Same .teardown s (s.teardownBegun p) :=
  .foldl (.then (State.modPad_same ..) rfl (.refl _ s)) fun _ _ => .then (State.closeWindow_same ..) rfl (.refl _ _)

theorem State.teardownBegun_pad : (s.teardownBegun p).pad p =
    { s.pad p with state := .teardown, sealedTeardown := decide ((s.pad p).state = .sealed) } := by
  have hpads : (s.teardownBegun p).pads =
      (s.modPad p fun x => { x with state := .teardown, sealedTeardown := decide ((s.pad p).state = .sealed) }).pads :=
    foldl_keeps (f := fun (t : State) (i : Nat) => t.closeWindow i) (g := fun t : State => t.pads)
      (fun _ _ => (State.closeWindow_same ..).pads.eq rfl) ..
  rw [State.pad_of_pads hpads]
  exact State.pad_modPad (f := fun x => { x with state := .teardown, sealedTeardown := decide ((s.pad p).state = .sealed) })
    (State.pad_id ..)

/-- Where no two windows have one number, none of the paddock's stays active (R225, R299). -/
theorem State.teardownBegun_windows (hnodup : (s.maps.windows.map (·.index)).Nodup) {w : Window}
    (hw : w ∈ (s.teardownBegun p).maps.windows) (hp : w.localPaddock = p) : w.state ≠ .active := by
  have hfold : (s.teardownBegun p).maps.windows =
      (s.ownWindows p).foldl (fun ws i => updateFirst (·.index == i) Window.shut ws) s.maps.windows := by
    have hstep : ∀ (is : List Nat) (t : State), (is.foldl (fun t i => t.closeWindow i) t).maps.windows =
        is.foldl (fun ws i => updateFirst (·.index == i) Window.shut ws) t.maps.windows := by
      intro is
      induction is with
      | nil => exact fun _ => rfl
      | cons i is ih => exact fun t => by rw [List.foldl_cons, ih, State.windows_closeWindow, List.foldl_cons]
    exact hstep ..
  rw [hfold] at hw
  rcases mem_foldl_updateFirst (key := Window.index) (f := Window.shut) (D := fun w => w.state = .closing) (fun _ => rfl)
    (fun _ => rfl) hnodup hw with hclosing | ⟨hnot, hmem⟩
  · rw [hclosing]
    decide
  · intro hactive
    refine hnot (List.mem_map.mpr ⟨w, List.mem_filter.mpr ⟨hmem, ?_⟩, rfl⟩)
    simp [hp, hactive]

end

/-! ### Operations that are not admitted end (R299 step 2) -/

theorem State.flushQueued_keepsPads (p : Nat) : KeepsPads s (s.flushQueued p) := by
  rw [State.flushQueued]
  refine .trans ?_ (.foldl (fun t o => ?_) ..)
  · exact .of_eq rfl rfl rfl rfl
  · split
    · exact .refl t
    · exact State.endOp_keepsPads ..

/-- After its first steps a teardown goes on as every one without operations does. -/
theorem State.startTeardown_eq (p : Nat) : ∃ u, s.startTeardown p = u.zeroTeardowns ∧ KeepsPads (s.teardownBegun p) u := by
  refine ⟨_, rfl, .trans ?_ (.of_frame (State.abandonMoves_same ..) rfl rfl rfl rfl)⟩
  exact .trans ((s.teardownBegun p).flushQueued_keepsPads p) (.of_eq rfl rfl rfl rfl)

end

/-! ### Keys that are zeroised (R299 step 3) -/

/-- A paddock whose keys are zeroised and whose frames are being zeroed (R299 steps 3 and 4). -/
def Pad.zeroised (x : Pad) : Pad := { x with ktp := [], kmem := [], zeroing := true }

/-- A window whose key is zeroised. -/
def Window.zeroised (w : Window) : Window := { w with key := [] }

/-- The later state has the earlier one's paddocks and windows, but for the keys that a teardown without operations took. -/
structure Zeroised (s t : State) : Prop where
  ops : t.eng.ops = s.eng.ops
  host : t.host = s.host
  pad : ∀ p, t.pad p = s.pad p ∨ (t.pad p = (s.pad p).zeroised ∧ ∀ o ∈ s.eng.ops, o.req.paddock ≠ p)
  windows : ∀ w ∈ t.maps.windows, ∃ v ∈ s.maps.windows, w = v ∨ w = v.zeroised

section
variable {s t u : State}

theorem Zeroised.refl (s : State) : Zeroised s s := ⟨rfl, rfl, fun _ => .inl rfl, fun w hw => ⟨w, hw, .inl rfl⟩⟩

theorem Zeroised.trans (h : Zeroised s t) (k : Zeroised t u) : Zeroised s u := by
  refine ⟨k.ops.trans h.ops, k.host.trans h.host, fun p => ?_, fun w hw => ?_⟩
  · have hk := k.pad p
    rw [h.ops] at hk
    rcases hk with hk | ⟨hk, hops⟩
    · rw [hk]
      exact h.pad p
    · refine .inr ⟨?_, hops⟩
      rw [hk]
      rcases h.pad p with hp | ⟨hp, -⟩
      · rw [hp]
      · rw [hp]
        rfl
  · obtain ⟨v, hv, hwv⟩ := k.windows w hw
    obtain ⟨x, hx, hvx⟩ := h.windows v hv
    refine ⟨x, hx, ?_⟩
    rcases hwv with rfl | rfl
    · exact hvx
    · rcases hvx with rfl | rfl <;> exact .inr rfl

theorem Zeroised.foldl {β : Type} {f : State → β → State} (h : ∀ u x, Zeroised u (f u x)) (xs : List β) (s : State) :
    Zeroised s (xs.foldl f s) := by
  induction xs generalizing s with
  | nil => exact .refl s
  | cons x xs ih => exact (h s x).trans (ih _)

/-- Keys that are gone stay gone. -/
theorem Zeroised.keys (h : Zeroised s t) {p : Nat} (hktp : (s.pad p).ktp = []) (hkmem : (s.pad p).kmem = []) :
    (t.pad p).ktp = [] ∧ (t.pad p).kmem = [] := by
  rcases h.pad p with hp | ⟨hp, -⟩ <;> rw [hp]
  · exact ⟨hktp, hkmem⟩
  · exact ⟨rfl, rfl⟩

theorem Zeroised.windowKeys (h : Zeroised s t) {p : Nat} (hkeys : ∀ w ∈ s.maps.windows, w.localPaddock = p → w.key = []) :
    ∀ w ∈ t.maps.windows, w.localPaddock = p → w.key = [] := by
  intro w hw hp
  obtain ⟨v, hv, rfl | rfl⟩ := h.windows w hw
  · exact hkeys _ hv hp
  · rfl

end

section
variable (s : State) (p : Nat)

theorem State.zeroise_ops : (s.zeroise p).eng.ops = s.eng.ops := rfl

theorem State.zeroise_windows : (s.zeroise p).maps.windows =
    s.maps.windows.map fun w => if w.localPaddock == p then { w with key := [] } else w := rfl

theorem State.zeroise_pads : (s.zeroise p).pads = (s.modPad p fun x => { x with ktp := [], kmem := [] }).pads := rfl

end

section
variable {s : State} {x : Pad}

/-- A torn-down paddock without operations is zeroised, once. -/
theorem State.zeroTeardown_eq (hstate : x.state = .teardown) (hzero : x.zeroing = false)
    (hops : ∀ o ∈ s.eng.ops, o.req.paddock ≠ x.id) : ∃ store leases, s.zeroTeardown x =
      { (s.zeroise x.id).modPad x.id (fun y => { y with zeroing := true }) with store := store, leases := leases } := by
  have hidle : (s.eng.ops.any fun o => o.req.paddock == x.id) = false := by simpa using hops
  rw [State.zeroTeardown, hstate, hzero, hidle]
  dsimp only
  rw [if_neg (by decide)]
  split
  · exact ⟨_, _, rfl⟩
  · exact ⟨_, _, rfl⟩

theorem State.zeroTeardown_takes (hstate : x.state = .teardown) (hzero : x.zeroing = false)
    (hops : ∀ o ∈ s.eng.ops, o.req.paddock ≠ x.id) :
    (s.zeroTeardown x).eng.ops = s.eng.ops ∧ (s.zeroTeardown x).host = s.host ∧
    (s.zeroTeardown x).pads = ((s.zeroise x.id).modPad x.id fun y => { y with zeroing := true }).pads ∧
    (s.zeroTeardown x).maps.windows = (s.zeroise x.id).maps.windows := by
  obtain ⟨store, leases, h⟩ := State.zeroTeardown_eq hstate hzero hops
  rw [h]
  exact ⟨s.zeroise_ops x.id, (s.zeroise_same x.id).host.eq rfl, rfl, rfl⟩

theorem State.zeroTeardown_skips (h : ¬ (x.state = .teardown ∧ x.zeroing = false ∧ ∀ o ∈ s.eng.ops, o.req.paddock ≠ x.id)) :
    s.zeroTeardown x = s := by
  rw [State.zeroTeardown]
  refine if_pos ?_
  by_contra hgo
  refine h ?_
  simpa [and_assoc] using hgo

theorem State.zeroTeardown_pad (hstate : x.state = .teardown) (hzero : x.zeroing = false)
    (hops : ∀ o ∈ s.eng.ops, o.req.paddock ≠ x.id) : (s.zeroTeardown x).pad x.id = (s.pad x.id).zeroised ∧
    ∀ o, o ≠ x.id → (s.zeroTeardown x).pad o = s.pad o := by
  obtain ⟨-, -, hpads, -⟩ := State.zeroTeardown_takes hstate hzero hops
  have hkeys : (s.zeroise x.id).pad x.id = { s.pad x.id with ktp := [], kmem := [] } := by
    rw [State.pad_of_pads (s.zeroise_pads x.id)]
    exact State.pad_modPad (f := fun x => { x with ktp := [], kmem := [] }) (State.pad_id ..)
  refine ⟨?_, fun o ho => ?_⟩
  · rw [State.pad_of_pads hpads, State.pad_modPad (f := fun y => { y with zeroing := true }) (State.pad_id ..), hkeys]
    rfl
  · rw [State.pad_of_pads hpads, State.pad_modPad_of_ne (f := fun y => { y with zeroing := true }) (State.pad_id ..) ho,
      State.pad_of_pads (s.zeroise_pads x.id)]
    exact State.pad_modPad_of_ne (f := fun x => { x with ktp := [], kmem := [] }) (State.pad_id ..) ho

theorem State.zeroTeardown_zeroised (s : State) (x : Pad) : Zeroised s (s.zeroTeardown x) := by
  by_cases h : x.state = .teardown ∧ x.zeroing = false ∧ ∀ o ∈ s.eng.ops, o.req.paddock ≠ x.id
  · obtain ⟨hstate, hzero, hops⟩ := h
    obtain ⟨heng, hhost, -, hwindows⟩ := State.zeroTeardown_takes hstate hzero hops
    obtain ⟨hself, hother⟩ := State.zeroTeardown_pad hstate hzero hops
    refine ⟨heng, hhost, fun p => ?_, fun w hw => ?_⟩
    · by_cases hp : p = x.id
      · subst hp
        exact .inr ⟨hself, hops⟩
      · exact .inl (hother p hp)
    · rw [hwindows, State.zeroise_windows] at hw
      obtain ⟨v, hv, rfl⟩ := List.mem_map.mp hw
      refine ⟨v, hv, ?_⟩
      split
      · exact .inr rfl
      · exact .inl rfl
  · rw [State.zeroTeardown_skips h]
    exact .refl s

theorem State.zeroTeardowns_zeroised (s : State) : Zeroised s s.zeroTeardowns :=
  .foldl (fun _ _ => State.zeroTeardown_zeroised ..) ..

/-- Once a torn-down paddock has no operation left, its keys and its windows' are gone (R299 step 3). -/
theorem State.zeroTeardowns_takes {p : Nat} (hstate : (s.pad p).state = .teardown) (hzero : (s.pad p).zeroing = false)
    (hops : ∀ o ∈ s.eng.ops, o.req.paddock ≠ p) : ((s.zeroTeardowns).pad p).ktp = [] ∧ ((s.zeroTeardowns).pad p).kmem = [] ∧
    ∀ w ∈ s.zeroTeardowns.maps.windows, w.localPaddock = p → w.key = [] := by
  have hmem : s.pad p ∈ s.pads := by
    refine State.mem_pads_of_pad.resolve_right fun hfresh => ?_
    rw [hfresh, Pad.fresh] at hstate
    dsimp only at hstate
    split at hstate <;> cases hstate
  obtain ⟨before, after, hpads⟩ := List.append_of_mem hmem
  have hbefore : Zeroised s (before.foldl (fun t x => t.zeroTeardown x) s) := .foldl (fun _ _ => State.zeroTeardown_zeroised ..) ..
  have hid : (s.pad p).id = p := State.pad_id ..
  have hnone : ∀ o ∈ (before.foldl (fun t x => t.zeroTeardown x) s).eng.ops, o.req.paddock ≠ (s.pad p).id := by
    rwa [hbefore.ops, hid]
  obtain ⟨hself, -⟩ := State.zeroTeardown_pad hstate hzero hnone
  obtain ⟨-, -, -, hwindows⟩ := State.zeroTeardown_takes hstate hzero hnone
  rw [hid] at hself hwindows
  have hafter : Zeroised ((before.foldl (fun t x => t.zeroTeardown x) s).zeroTeardown (s.pad p)) s.zeroTeardowns := by
    rw [State.zeroTeardowns, hpads, List.foldl_append, List.foldl_cons]
    exact .foldl (fun _ _ => State.zeroTeardown_zeroised ..) ..
  have hkeys := hafter.keys (by rw [hself]; rfl) (by rw [hself]; rfl)
  refine ⟨hkeys.1, hkeys.2, hafter.windowKeys fun w hw hp => ?_⟩
  rw [hwindows, State.zeroise_windows] at hw
  obtain ⟨v, -, rfl⟩ := List.mem_map.mp hw
  split at hp <;> simp_all

end

/-! ### The teardown of a paddock in use -/

/-- What the start of a teardown leaves (R299). -/
structure TornDown (s t : State) (p : Nat) : Prop where
  state : (t.pad p).state = .teardown
  sealed : (t.pad p).sealedTeardown = decide ((s.pad p).state = .sealed)
  generation : (t.pad p).generation = (s.pad p).generation
  kept : (∃ o ∈ t.eng.ops, o.req.paddock = p) → (t.pad p).ktp = (s.pad p).ktp ∧ (t.pad p).kmem = (s.pad p).kmem
  gone : (∀ o ∈ t.eng.ops, o.req.paddock ≠ p) → (s.pad p).zeroing = false → (t.pad p).ktp = [] ∧ (t.pad p).kmem = [] ∧
    ∀ w ∈ t.maps.windows, w.localPaddock = p → w.key = []
  windows : (s.maps.windows.map (·.index)).Nodup → ∀ w ∈ t.maps.windows, w.localPaddock = p → w.state ≠ .active
  host : s.host.Keeps t.host

theorem State.startTeardown_tornDown (s : State) (p : Nat) : TornDown s (s.startTeardown p) p := by
  obtain ⟨u, hu, hkeeps⟩ := s.startTeardown_eq p
  have hzeroised := State.zeroTeardowns_zeroised u
  obtain ⟨w, c, hpad⟩ := hkeeps.pad p
  rw [State.teardownBegun_pad] at hpad
  have hself : ∃ k m z, u.zeroTeardowns.pad p = { u.pad p with ktp := k, kmem := m, zeroing := z } := by
    rcases hzeroised.pad p with h | ⟨h, -⟩
    · exact ⟨_, _, _, h⟩
    · exact ⟨_, _, _, h⟩
  obtain ⟨k, m, z, hself⟩ := hself
  rw [hpad] at hself
  rw [hu]
  refine ⟨by rw [hself], by rw [hself], by rw [hself], fun ⟨o, ho, hop⟩ => ?_, fun hops hzero => ?_, fun hnodup v hv hp => ?_, ?_⟩
  · rcases hzeroised.pad p with h | ⟨-, hnone⟩
    · rw [h, hpad]
      exact ⟨rfl, rfl⟩
    · exact absurd hop (hnone o (hzeroised.ops ▸ ho))
  · exact State.zeroTeardowns_takes (by rw [hpad]) (by rw [hpad]; exact hzero) (hzeroised.ops ▸ hops)
  · obtain ⟨x, hx, hvx⟩ := hzeroised.windows v hv
    rw [hkeeps.windows] at hx
    rcases hvx with rfl | rfl
    · exact s.teardownBegun_windows p hnodup hx hp
    · exact s.teardownBegun_windows (w := x) p hnodup hx hp
  · rw [hzeroised.host]
    exact .trans (.of_eq ((s.teardownBegun_same p).host.eq rfl)) hkeeps.host

end Sys2Proof.Machine
end

section
/-! O39. Host software creates and tears down paddocks, switches the audit and resets the node (R298–R300, R318, R392). -/

namespace Sys2Proof.Machine

section
variable {s t : State} {m : Mbx} {b : Mail} {p : Nat}

theorem runCommand_paddockCreate (h : b.opcode = 0x30) : runCommand b s = cmdPaddockCreate b s := by
  rw [runCommand, h]
  rfl

theorem runCommand_paddockTeardown (h : b.opcode = 0x31) : runCommand b s = cmdPaddockTeardown b s := by
  rw [runCommand, h]
  rfl

theorem runCommand_auditMode (h : b.opcode = 0x33) : runCommand b s = cmdAuditMode b s := by
  rw [runCommand, h]
  rfl

theorem runCommand_warmReset (h : b.opcode = 0x20) : runCommand b s = okReply s [] := by
  rw [runCommand, h]
  rfl

/-- A command that refuses keeps the paddocks. -/
theorem Asked.answers_refused_pads {op status detail : Nat} (h : Asked s m op b) (hop : op ≠ 0x20)
    (hrun : ∀ H : Host_, runCommand b { s with host := H } = noReply { s with host := H } status detail) :
    Answers (s.exchange m op) fun t => t.answered b status [] ∧ t.pads = s.pads := by
  obtain ⟨t, ht, hsame, -, hanswered⟩ := h.answers_refused hop hrun
  exact ⟨t, ht, hanswered, hsame.pads.eq rfl⟩

/-- A command that changes one paddock and answers OK. -/
theorem Asked.answers_modPad {op : Nat} {body : Bytes} {f : Pad → Pad} (h : Asked s m op b) (hop : op ≠ 0x20)
    (hid : (f (s.pad p)).id = p)
    (hrun : ∀ H : Host_, runCommand b { s with host := H } = okReply (({ s with host := H } : State).modPad p f) body) :
    Answers (s.exchange m op) fun t => t.answered b St.ok body ∧ t.pad p = f (s.pad p) ∧ (∀ o, o ≠ p → t.pad o = s.pad o) ∧
      t.store = s.store := by
  refine h.answers_delivered hop fun H hH _ => ?_
  rw [hrun]
  refine ⟨hH, fun t ht => ⟨ht.answered, ?_, fun o ho => ?_, ht.same.store.eq rfl⟩⟩
  · rw [State.pad_of_pads (ht.same.pads.eq rfl)]
    exact State.pad_modPad (s := { s with host := H }) hid
  · rw [State.pad_of_pads (ht.same.pads.eq rfl)]
    exact State.pad_modPad_of_ne (s := { s with host := H }) hid ho

/-! ### PADDOCK_CREATE (R298, R300) -/

theorem cmdPaddockCreate_inUse (hp : 1 ≤ b.paddock) (hstate : (s.pad b.paddock).state = .open_ ∨
    (s.pad b.paddock).state = .awaitSeal ∨ (s.pad b.paddock).state = .sealed) :
    cmdPaddockCreate b s = noReply s St.badParam 0x24 := by
  have hzero : (b.paddock == 0) = false := beq_eq_false_iff_ne.mpr (by omega)
  rw [cmdPaddockCreate]
  rw [hzero]
  rcases hstate with h | h | h <;> rw [h] <;> rfl

section
variable (hp : 1 ≤ b.paddock) (hlen : b.body.length = 112) (hfit : s.slicesFit b.paddock (createConfig b.body) = true)
include hp hlen hfit

theorem cmdPaddockCreate_free (hstate : (s.pad b.paddock).state = .free) : cmdPaddockCreate b s =
    okReply (s.modPad b.paddock (Pad.broughtUp (createConfig b.body) (sub b.body 80 32)))
      (toLe 4 (nextGen (s.pad b.paddock).generation)) := by
  have hzero : (b.paddock == 0) = false := beq_eq_false_iff_ne.mpr (by omega)
  rw [cmdPaddockCreate]
  rw [hzero, hstate, hlen, hfit]
  rfl

theorem cmdPaddockCreate_teardown (hstate : (s.pad b.paddock).state = .teardown) : cmdPaddockCreate b s =
    if (s.pad b.paddock).queued.isSome then noReply s St.busyTeardown 0
    else okReply (s.modPad b.paddock fun y => { y with queued := some (createConfig b.body, sub b.body 80 32) })
      (toLe 4 (nextGen (s.pad b.paddock).generation)) := by
  have hzero : (b.paddock == 0) = false := beq_eq_false_iff_ne.mpr (by omega)
  rw [cmdPaddockCreate]
  rw [hzero, hstate, hlen, hfit]
  rfl

end

theorem paddockCreate_follows (h : Asked s m 0x30 b) (hp : 1 ≤ b.paddock) :
    ((s.pad b.paddock).state = .free → b.body.length = 112 → s.slicesFit b.paddock (createConfig b.body) = true →
      Answers (exec (.paddockCreate m) s) fun t =>
        t.answered b St.ok (toLe 4 (nextGen (s.pad b.paddock).generation)) ∧
        (t.pad b.paddock).generation = nextGen (s.pad b.paddock).generation ∧
        (t.pad b.paddock).config = createConfig b.body ∧ (t.pad b.paddock).counters = List.replicate 10 0 ∧
        (t.pad b.paddock).state = (if (createConfig b.body).requireSeal then .awaitSeal else .open_) ∧
        (∀ o, o ≠ b.paddock → t.pad o = s.pad o) ∧ t.store = s.store) ∧
    ((s.pad b.paddock).state = .open_ ∨ (s.pad b.paddock).state = .awaitSeal ∨ (s.pad b.paddock).state = .sealed →
      Answers (exec (.paddockCreate m) s) fun t => t.answered b St.badParam [] ∧ t.pads = s.pads) ∧
    ((s.pad b.paddock).state = .teardown → b.body.length = 112 → s.slicesFit b.paddock (createConfig b.body) = true →
      ((s.pad b.paddock).queued = none → Answers (exec (.paddockCreate m) s) fun t =>
        t.answered b St.ok (toLe 4 (nextGen (s.pad b.paddock).generation)) ∧
        t.pad b.paddock = { s.pad b.paddock with queued := some (createConfig b.body, sub b.body 80 32) }) ∧
      ((s.pad b.paddock).queued ≠ none → Answers (exec (.paddockCreate m) s) fun t =>
        t.answered b St.busyTeardown [] ∧ t.pads = s.pads)) := by
  have hop := h.rung.opcode_eq
  refine ⟨fun hstate hlen hfit => ?_, fun hstate => ?_, fun hstate hlen hfit => ⟨fun hqueued => ?_, fun hqueued => ?_⟩⟩
  · obtain ⟨t, ht, hanswered, hpad, hother, hstore⟩ := h.answers_modPad (p := b.paddock)
      (f := Pad.broughtUp (createConfig b.body) (sub b.body 80 32)) (body := toLe 4 (nextGen (s.pad b.paddock).generation))
      (by decide) (State.pad_id ..) fun H =>
        (runCommand_paddockCreate hop).trans (cmdPaddockCreate_free (s := { s with host := H }) hp hlen hfit hstate)
    exact ⟨t, ht, hanswered, congrArg Pad.generation hpad, congrArg Pad.config hpad, congrArg Pad.counters hpad,
      congrArg Pad.state hpad, hother, hstore⟩
  · exact h.answers_refused_pads (by decide) fun H =>
      (runCommand_paddockCreate hop).trans (cmdPaddockCreate_inUse (s := { s with host := H }) hp hstate)
  · obtain ⟨t, ht, hanswered, hpad, -⟩ := h.answers_modPad (p := b.paddock)
      (f := fun y => { y with queued := some (createConfig b.body, sub b.body 80 32) })
      (body := toLe 4 (nextGen (s.pad b.paddock).generation)) (by decide) (State.pad_id ..) fun H => by
        rw [runCommand_paddockCreate hop, cmdPaddockCreate_teardown (s := { s with host := H }) hp hlen hfit hstate]
        exact if_neg fun hsome => Option.isSome_iff_ne_none.mp hsome hqueued
    exact ⟨t, ht, hanswered, hpad⟩
  · refine h.answers_refused_pads (detail := 0) (by decide) fun H => ?_
    rw [runCommand_paddockCreate hop, cmdPaddockCreate_teardown (s := { s with host := H }) hp hlen hfit hstate]
    exact if_pos (Option.isSome_iff_ne_none.mpr hqueued)

/-! ### PADDOCK_TEARDOWN (R299, R300) -/

theorem cmdPaddockTeardown_eq (hp : 1 ≤ b.paddock) :
    cmdPaddockTeardown b s = okReply (s.requestTeardown b.paddock) (toLe 4 (s.pad b.paddock).generation) := by
  have hzero : (b.paddock == 0) = false := beq_eq_false_iff_ne.mpr (by omega)
  rw [cmdPaddockTeardown, hzero]
  rfl

theorem State.requestTeardown_free (h : (s.pad p).state = .free) : s.requestTeardown p = s := by
  rw [State.requestTeardown, h]

theorem State.requestTeardown_again (h : (s.pad p).state = .teardown) :
    s.requestTeardown p = s.modPad p fun x => { x with queued := none } := by
  rw [State.requestTeardown, h]

theorem State.requestTeardown_starts (hfree : (s.pad p).state ≠ .free) (hteardown : (s.pad p).state ≠ .teardown) :
    s.requestTeardown p = s.startTeardown p := by
  rw [State.requestTeardown]
  cases h : (s.pad p).state with
  | free => exact absurd h hfree
  | teardown => exact absurd h hteardown
  | open_ | awaitSeal | sealed => rfl

theorem paddockTeardown_follows (h : Asked s m 0x31 b) (hp : 1 ≤ b.paddock) :
    ((s.pad b.paddock).state = .free → Answers (exec (.paddockTeardown m) s) fun t =>
      t.answered b St.ok (toLe 4 (s.pad b.paddock).generation) ∧ t.pads = s.pads ∧ t.store = s.store) ∧
    ((s.pad b.paddock).state = .open_ → Answers (exec (.paddockTeardown m) s) fun t =>
      (t.pad b.paddock).state = .teardown ∧
      ((∃ o ∈ t.eng.ops, o.req.paddock = b.paddock) → (t.pad b.paddock).ktp = (s.pad b.paddock).ktp ∧
        (t.pad b.paddock).kmem = (s.pad b.paddock).kmem) ∧
      ((∀ o ∈ t.eng.ops, o.req.paddock ≠ b.paddock) → (s.pad b.paddock).zeroing = false →
        (t.pad b.paddock).ktp = [] ∧ (t.pad b.paddock).kmem = []) ∧
      (t.pad b.paddock).generation = (s.pad b.paddock).generation ∧ (t.box m.box).done = true) ∧
    ((s.pad b.paddock).state = .teardown → Answers (exec (.paddockTeardown m) s) fun t =>
      t.answered b St.ok (toLe 4 (s.pad b.paddock).generation) ∧ t.pad b.paddock = { s.pad b.paddock with queued := none }) := by
  have hop := h.rung.opcode_eq
  have hrun (H : Host_) : runCommand b { s with host := H } =
      okReply (({ s with host := H } : State).requestTeardown b.paddock) (toLe 4 (s.pad b.paddock).generation) :=
    (runCommand_paddockTeardown hop).trans (cmdPaddockTeardown_eq hp)
  refine ⟨fun hstate => ?_, fun hstate => ?_, fun hstate => ?_⟩
  · refine h.answers_delivered (by decide) fun H hH _ => ?_
    rw [hrun, State.requestTeardown_free (s := { s with host := H }) hstate]
    exact ⟨hH, fun t ht => ⟨ht.answered, ht.same.pads.eq rfl, ht.same.store.eq rfl⟩⟩
  · refine h.answers_delivered (by decide) fun H hH _ => ?_
    have hdown := State.startTeardown_tornDown { s with host := H } b.paddock
    rw [hrun, State.requestTeardown_starts (s := { s with host := H }) (fun hfree => by cases hstate.symm.trans hfree)
      (fun hdown => by cases hstate.symm.trans hdown)]
    refine ⟨hdown.host.rests hH, fun t ht => ?_⟩
    have hpad : t.pad b.paddock = _ := State.pad_of_pads (ht.same.pads.eq rfl) b.paddock
    have heng : t.eng = _ := ht.same.eng.eq rfl
    rw [hpad, heng]
    exact ⟨hdown.state, hdown.kept, fun hops hzero => ⟨(hdown.gone hops hzero).1, (hdown.gone hops hzero).2.1⟩, hdown.generation,
      h.rung.box_eq ▸ ht.answered.2.1⟩
  · obtain ⟨t, ht, hanswered, hpad, -⟩ := h.answers_modPad (p := b.paddock) (f := fun x => { x with queued := none })
      (by decide) (State.pad_id ..) fun H => by rw [hrun, State.requestTeardown_again (s := { s with host := H }) hstate]
    exact ⟨t, ht, hanswered, hpad⟩

/-! ### AUDIT_MODE (R318) -/

theorem cmdAuditMode_eq (hp : 1 ≤ b.paddock) (hlen : b.body.length = 1) (hmode : le b.body 0 1 ≤ 1)
    (hstate : (s.pad b.paddock).state = .open_) :
    cmdAuditMode b s = okReply (s.modPad b.paddock fun x => { x with audit := le b.body 0 1 == 1 }) [] := by
  have hbad : (b.paddock == 0 || decide (1 < le b.body 0 1)) = false := by simp; omega
  rw [cmdAuditMode, hlen, hbad, hstate]
  rfl

theorem auditMode_switches (h : Asked s m 0x33 b) (hp : 1 ≤ b.paddock) (hlen : b.body.length = 1) (hmode : le b.body 0 1 ≤ 1)
    (hstate : (s.pad b.paddock).state = .open_) : Answers (exec (.auditMode m) s) fun t => t.answered b St.ok [] ∧
      t.pad b.paddock = { s.pad b.paddock with audit := le b.body 0 1 == 1 } ∧ t.store = s.store := by
  obtain ⟨t, ht, hanswered, hpad, -, hstore⟩ := h.answers_modPad (p := b.paddock) (f := fun x => { x with audit := le b.body 0 1 == 1 })
    (by decide) (State.pad_id ..) fun H => (runCommand_auditMode h.rung.opcode_eq).trans
      (cmdAuditMode_eq (s := { s with host := H }) hp hlen hmode hstate)
  exact ⟨t, ht, hanswered, hpad, hstore⟩

/-! ### WARM_RESET (R392) -/

theorem State.eventBit_warmCount (s : State) (v : Nat) (enable old new : Bool) :
    (s.eventBit v enable old new).regs.warmCount = s.regs.warmCount := by
  rw [State.eventBit]
  split
  · rw [State.sendVector]
    split <;> rfl
  · rfl

/-- After the answer to WARM_RESET the node is reset (R392). -/
theorem Asked.serveBox_warmReset {H : Host_} (h : Asked s m 0x20 b)
    (hmail : Mail.parse m.box (({ s with host := H } : State).box m.box).buffer = b) :
    ({ s with host := H } : State).serveBox m.box =
      (({ s with host := { H with major := b.major } } : State).writeReply b
        (okReply { s with host := { H with major := b.major } } [])).warmReset 2 := by
  have hreply : ({ s with host := { H with major := b.major } } : State).reply b =
      okReply { s with host := { H with major := b.major } } [] :=
    (h.reply_eq _).trans (runCommand_warmReset h.rung.opcode_eq)
  rw [State.serveBox, hmail]
  dsimp only
  rw [hreply, h.rung.opcode_eq]
  rfl

theorem warmReset_resets (h : Asked s m 0x20 b) : Answers (exec (.warmReset m) s) fun t =>
    t.boot.stage = 2 ∧ t.regs.resetCause = 2 ∧ t.regs.warmCount = min (s.regs.warmCount + 1) 65535 ∧
    t.boot.slots = s.boot.slots ∧ t.log.retained = s.log.retained ∧ t.store.seqs = [] ∧ t.net.qps = [] ∧ t.mem = [] ∧
    (∀ p ∈ t.pads, p.id ≠ 0 → p.state = .free) ∧ t.sec.sticky = s.sec.sticky := by
  obtain ⟨H, hH, -, hmail, heq⟩ := h.rung.exchange_serves
  change Answers (s.exchange m 0x20) _
  have hsame := State.writeReply_same { s with host := { H with major := b.major } } b
    (okReply { s with host := { H with major := b.major } } [])
  have hslots := congrArg Boot.slots (hsame.boot.eq rfl)
  have hretained := congrArg Log.retained (hsame.log.eq rfl)
  have hsticky := congrArg Security.sticky (hsame.sec.eq rfl)
  rw [heq, h.serveBox_warmReset hmail, State.serveWaiting_of_nil rfl]
  refine answers_finish fun maps => ⟨rfl, rfl, ?_, hslots, hretained, rfl, rfl, rfl, fun p hp hid => ?_, hsticky⟩
  · exact congrArg (fun n => min (n + 1) 65535) (State.eventBit_warmCount ..)
  · obtain ⟨x, -, rfl⟩ := List.mem_map.mp hp
    have hx : x.id ≠ 0 := hid
    exact if_neg (by simpa using hx)

end

/-- Settles O39: a command that changes one paddock leaves the others; the steps of a teardown keep the paddocks but for Tally and
the write counters until the keys are zeroised (R299). -/
theorem hostCreatesAndTearsDown : Obligations.HostCreatesAndTearsDown := by
  unfold Obligations.HostCreatesAndTearsDown
  intro m s b
  exact ⟨paddockCreate_follows, paddockTeardown_follows, auditMode_switches, warmReset_resets⟩

end Sys2Proof.Machine
end

section
/-! SUPPORT. What failures of connections and messages leave of the connections, and what pair windows leave of the store. -/

namespace Sys2Proof.Machine

/-! ### Connections that do not come back -/

/-- Every connection of the earlier state is one of the later, and one that does not work does not work again. -/
structure ConnsStay (s t : State) : Prop where
  stays : ∀ n q, s.qp n = some q → ∃ y, t.qp n = some y ∧ (q.works = false → y.works = false)

section
variable {s t u : State} {n : Nat}

theorem ConnsStay.refl (s : State) : ConnsStay s s := ⟨fun _ q hq => ⟨q, hq, id⟩⟩

theorem ConnsStay.trans (h : ConnsStay s t) (k : ConnsStay t u) : ConnsStay s u := by
  refine ⟨fun n q hq => ?_⟩
  obtain ⟨y, hy, hqy⟩ := h.stays n q hq
  obtain ⟨z, hz, hyz⟩ := k.stays n y hy
  exact ⟨z, hz, hyz ∘ hqy⟩

theorem ConnsStay.foldl {β : Type} {f : State → β → State} (h : ∀ u x, ConnsStay u (f u x)) (xs : List β) (s : State) :
    ConnsStay s (xs.foldl f s) := by
  induction xs generalizing s with
  | nil => exact .refl s
  | cons x xs ih => exact (h s x).trans (ih _)

theorem ConnsStay.of_qps (h : t.net.qps = s.net.qps) : ConnsStay s t :=
  ⟨fun n q hq => ⟨q, (State.qp_of_qps h n).trans hq, id⟩⟩

theorem ConnsStay.of_onConn {P : Qp → Qp → Prop} (hP : ∀ x y, P x y → y.state = x.state) (h : OnConn P n s t) : ConnsStay s t := by
  refine ⟨fun m q hq => ?_⟩
  by_cases hm : m = n
  · subst hm
    obtain ⟨y, hy, hqy⟩ := h.own q hq
    exact ⟨y, hy, fun hw => by rwa [Qp.works, hP q y hqy]⟩
  · exact ⟨q, (h.other m hm).trans hq, id⟩

theorem Qp.PumpedAs.state {q x : Qp} (h : q.PumpedAs x) : x.state = q.state := by
  obtain ⟨tx, used, hold, rfl, -⟩ := h
  rfl

theorem ConnsStay.of_pumped (h : OnConn Qp.PumpedAs n s t) : ConnsStay s t := .of_onConn (fun _ _ => Qp.PumpedAs.state) h

theorem ConnsStay.modQp {f : Qp → Qp} (hid : ∀ x, (f x).qpn = x.qpn) (hstate : ∀ x, (f x).state = x.state) :
    ConnsStay s (s.modQp n f) :=
  .of_onConn (P := fun x y => y.state = x.state) (fun _ _ => id) (.modQp (fun q _ => hstate q) fun x hx => (hid x).trans hx)

end

/-! ### Answers (R191, R198) -/

/-- A connection whose request is being answered: it is outstanding no more (R198). -/
def Qp.replying (msn : Nat) (q : Qp) : Qp := { q with rx := { q.rx with
  outstanding := q.rx.outstanding.filter (·.1 != msn), prios := q.rx.prios.filter (·.1 != msn) } }

/-- The node before it sends the answer to a request: the message has left the inbox. -/
def State.replying (s : State) (n msn : Nat) : State :=
  { s.modQp n (Qp.replying msn) with net := { (s.modQp n (Qp.replying msn)).net with
      inbox := s.net.inbox.filter fun m => !(m.qpn == n && m.msn == msn) } }

section
variable (s : State) (n : Nat)

/-- An answer is sent on a connection that works, and on any other the request is consumed. -/
theorem State.answer_cases (msn opcode : Nat) (body : Bytes) :
    (∃ tc, s.answer n msn opcode body = (s.replying n msn).sendMsg n opcode tc body false (some msn)) ∨
    s.answer n msn opcode body = (s.replying n msn).consume n msn := by
  have hcases (live : Bool) (t u : State) : (if live then t else u) = t ∨ (if live then t else u) = u := by cases live <;> simp
  rw [State.answer]
  exact (hcases _ _ _).imp_left fun h => ⟨_, h⟩

theorem State.consume_connsStay (msn : Nat) : ConnsStay s (s.consume n msn) := by
  rw [State.consume]
  refine .trans ?_ (.of_pumped (State.sendDisconnect_onConn ..))
  refine .trans (t := s.modQp n (Qp.consumed msn)) (.modQp (fun _ => rfl) fun _ => rfl) (.of_qps rfl)

theorem State.sendMsg_connsStay (opcode tc : Nat) (body : Bytes) (final : Bool) (answers : Option Nat) :
    ConnsStay s (s.sendMsg n opcode tc body final answers) := .of_pumped (State.sendMsg_onConn ..)

theorem State.answer_connsStay (msn opcode : Nat) (body : Bytes) : ConnsStay s (s.answer n msn opcode body) := by
  have hreplying : ConnsStay s (s.replying n msn) :=
    .trans (t := s.modQp n (Qp.replying msn)) (.modQp (fun _ => rfl) fun _ => rfl) (.of_qps rfl)
  rcases s.answer_cases n msn opcode body with ⟨tc, h⟩ | h
  · rw [h]
    exact hreplying.trans (State.sendMsg_connsStay ..)
  · rw [h]
    exact hreplying.trans (State.consume_connsStay ..)

theorem State.tunnelSay_connsStay (body : Bytes) : ConnsStay s (s.tunnelSay n body) := by
  rw [State.tunnelSay]
  split
  · exact State.answer_connsStay ..
  · exact State.sendMsg_connsStay ..

theorem State.spdmSay_connsStay (path sess : Nat) (body : Bytes) : ConnsStay s (s.spdmSay path n sess body) := by
  rw [State.spdmSay]
  split
  · split
    · exact State.tunnelSay_connsStay ..
    · exact .trans (t := { s with rng := s.rng + 1 }) (.of_qps rfl) (State.tunnelSay_connsStay ..)
  · exact .of_qps rfl

/-- A connection that does not work enters no ERROR (R216). -/
theorem State.connError_of_stopped (h : ∀ q, s.qp n = some q → q.works = false) : s.connError n = s := by
  rw [State.connError]
  cases hq : s.qp n with
  | none => rfl
  | some q =>
    have hw := h q hq
    rw [Qp.works] at hw
    cases hstate : q.state <;> simp_all

theorem State.qps_dropStaging : (s.dropStaging n).net.qps = s.net.qps := by
  obtain ⟨e, he⟩ := s.dropStaging_eq n
  rw [he]

theorem State.qps_reconnect : s.reconnect.net.qps = s.net.qps := by
  obtain ⟨a, r, c, h⟩ := s.reconnect_eq
  rw [h, State.withAttempts]

/-- A connection that fails does not work, and every other is as it was (R216). -/
theorem State.failConn_stops {q : Qp} (hq : s.qp n = some q) : ∃ y, (s.failConn n).qp n = some y ∧ y.works = false := by
  by_cases hw : q.works = true
  · exact ⟨_, State.qp_failConn hq hw, rfl⟩
  · have hstopped : s.connError n = s := s.connError_of_stopped n fun x hx => by
      obtain rfl := Option.some.inj (hx.symm.trans hq)
      simpa using hw
    refine ⟨q, ?_, by simpa using hw⟩
    rw [State.failConn, hstopped, State.qp_of_qps (State.qps_reconnect _), State.qp_of_qps (State.qps_dropStaging ..), hq]

theorem State.failConn_connsStay : ConnsStay s (s.failConn n) := by
  cases hq : s.qp n with
  | none =>
    have hstopped : s.connError n = s := s.connError_of_stopped n fun x hx => by cases hx.symm.trans hq
    rw [State.failConn, hstopped]
    exact .of_qps ((State.qps_reconnect _).trans (State.qps_dropStaging ..))
  | some q =>
    by_cases hw : q.works = true
    · refine ⟨fun m x hx => ?_⟩
      by_cases hm : m = n
      · subst hm
        obtain ⟨y, hy, hstop⟩ := s.failConn_stops m hx
        exact ⟨y, hy, fun _ => hstop⟩
      · refine ⟨x, ?_, id⟩
        rw [State.qp_of_qps (State.failConn_qps hq hw), State.qp_modQp_of_ne (f := Qp.errored _) (fun _ h => h) hm, hx]
    · have hstopped : s.connError n = s := s.connError_of_stopped n fun x hx => by
        obtain rfl := Option.some.inj (hx.symm.trans hq)
        simpa using hw
      rw [State.failConn, hstopped]
      exact .of_qps ((State.qps_reconnect _).trans (State.qps_dropStaging ..))

/-- Of connections that fail together none works (R273). -/
theorem State.failConns_stop {ns : List Nat} (hn : n ∈ ns) {q : Qp} (hq : s.qp n = some q) :
    ∃ y, (ns.foldl (fun u k => u.failConn k) s).qp n = some y ∧ y.works = false := by
  obtain ⟨before, after, rfl⟩ := List.append_of_mem hn
  rw [List.foldl_append, List.foldl_cons]
  obtain ⟨x, hx, -⟩ := ConnsStay.foldl (fun u k => u.failConn_connsStay k) before s |>.stays n q hq
  obtain ⟨y, hy, hstop⟩ := (before.foldl (fun u k => u.failConn k) s).failConn_stops n hx
  obtain ⟨z, hz, hyz⟩ := ConnsStay.foldl (fun u k => u.failConn_connsStay k) after _ |>.stays n y hy
  exact ⟨z, hz, hyz hstop⟩

end

/-! ### Pair windows (R302) -/

/-- The sequences and the closed blocks that the store holds. -/
def State.holdings (s : State) : List Seq × List Block := (s.store.seqs, s.store.blocks)

section
variable {s t : State}

theorem State.holdings_of_store (h : t.store = s.store) : t.holdings = s.holdings := by rw [State.holdings, h, State.holdings]

theorem State.holdings_allocMeta {slice paddock bytes align a : Nat} (h : s.allocMeta slice paddock bytes align = some (a, t)) :
    t.holdings = s.holdings := by
  rw [State.allocMeta] at h
  split at h
  · cases h
  · obtain ⟨x, -, hx⟩ := Option.map_eq_some_iff.mp h
    cases hx
    rfl

theorem State.holdings_windowPlace {paddock length a : Nat} {landing : Bool} (h : s.windowPlace paddock length landing = some (a, t)) :
    t.holdings = s.holdings := by
  rw [State.windowPlace] at h
  split at h
  · obtain ⟨x, -, hx⟩ := Option.map_eq_some_iff.mp h
    cases hx
    rfl
  · split at h
    · cases h
    · exact State.holdings_allocMeta h

theorem State.holdings_installWindow {i srcNode srcPaddock localPaddock rights length : Nat} {landing : Bool} {key : Bytes}
    {use : WindowUse} (h : s.installWindow srcNode srcPaddock localPaddock rights landing length key use = some (i, t)) :
    t.holdings = s.holdings := by
  rw [State.installWindow] at h
  split at h
  · cases h
  · split at h
    · cases h
    · next u hfree =>
      obtain ⟨p, hplace, hp⟩ := Option.map_eq_some_iff.mp h
      cases hp
      have hu : u = s.freeWindow.2 := by rw [hfree]
      rw [State.openWindow, State.holdings_of_store ((State.ledgerInsert_same ..).store.eq rfl)]
      refine (State.holdings_windowPlace hplace).trans ?_
      rw [hu]
      rfl

theorem State.holdings_pairWindows (s : State) : s.pairWindows.holdings = s.holdings :=
  foldl_keeps (g := State.holdings) (fun t x => by
    extract_lets sealed p r
    have hopened : ∀ u, r = some u → u.2.holdings = t.holdings := fun u hu => by
      dsimp only [r] at hu
      split at hu
      · exact State.holdings_installWindow hu
      · exact State.holdings_installWindow hu
    split
    · rfl
    · clear_value r
      cases r with
      | none => rfl
      | some u => exact hopened u rfl) ..

end

end Sys2Proof.Machine
end

section
/-! O21. A tenant seals its paddock, keys its windows and tears it down (R273, R275–R278, R299, R300). -/

namespace Sys2Proof.Machine

section
variable {s : State} {v : VendorReq} {x : Session} {p : Nat}

/-! ### SEAL (R273, R276, R277) -/

theorem exec_seal_refused {status : Nat} (hx : s.vendorSession v 2 = some x) (hstatus : s.sealStatus x (vendorPaddock v) = status)
    (hrefused : status ≠ St.ok) : exec (.seal v) s = .next (s.vendorSay x 2 status []) := by
  change execSeal v s = _
  have hne : (status != St.ok) = true := by simpa using hrefused
  rw [execSeal, hx]
  dsimp only
  rw [hstatus, hne]
  rfl

/-- The state of a paddock that may be sealed (R273). -/
theorem State.sealStatus_of_state (h : (s.pad p).state = .awaitSeal ∨ (s.pad p).state = .open_) : s.sealStatus x p =
    if x.path != 2 then St.denied
    else if s.padHolds p then St.badParam
    else if !s.tenantOf x p || s.sec.permitted || s.sec.dbgBusy then St.denied
    else if !(s.pad p).kmem.isEmpty then St.quota
    else St.ok := by
  rw [State.sealStatus]
  rcases h with h | h <;> rw [h] <;> simp

/-- The cache connections of a paddock that work (R273). -/
def State.cacheConns (s : State) (p : Nat) : List Nat :=
  (s.net.qps.filter fun q => q.paddock == p && q.service == 0 && q.works).map (·.qpn)

/-- A paddock that is sealed with its keys (R273, R276). -/
def Pad.sealedWith (ktp kmem : Bytes) (y : Pad) : Pad :=
  { y with state := .sealed, ktp := ktp, kmem := [kmem, kmem], writeCounter := 1 }

/-- The node with a paddock sealed: its cache connections are in ERROR and missing pair windows are there (R273, R302). -/
def State.sealedWith (s : State) (p : Nat) (ktp kmem : Bytes) : State :=
  (((s.cacheConns p).foldl (fun u q => u.failConn q) s).modPad p (Pad.sealedWith ktp kmem)).pairWindows

theorem exec_seal_ok (hx : s.vendorSession v 2 = some x) (hstatus : s.sealStatus x (vendorPaddock v) = St.ok) :
    ∃ a b body, exec (.seal v) s = .next ((({ s with rng := s.rng + 2 } : State).sealedWith (vendorPaddock v)
      (sub a 0 32) (sub b 0 32)).vendorSay x 2 St.ok body) := by
  change ∃ a b body, execSeal v s = _
  rw [execSeal, hx]
  dsimp only
  rw [hstatus]
  exact ⟨_, _, _, rfl⟩

/-- What sealing does to the connections, the paddocks and the store. -/
theorem State.sealedWith_same (s : State) (p : Nat) (ktp kmem : Bytes) : Same .teardown s (s.sealedWith p ktp kmem) := by
  refine .then (State.pairWindows_same ..) rfl (.then (State.modPad_same ..) rfl (.foldl (.refl _ s) fun u n => ?_))
  exact .then (State.failConn_same ..) rfl (.refl _ u)

theorem State.pads_failConns (s : State) (ns : List Nat) : (ns.foldl (fun u q => u.failConn q) s).pads = s.pads :=
  foldl_keeps (g := State.pads) (fun _ _ => (State.failConn_same ..).pads.eq rfl) ns s

theorem State.pads_sealedWith (s : State) (p : Nat) (ktp kmem : Bytes) :
    (s.sealedWith p ktp kmem).pad p = (s.pad p).sealedWith ktp kmem ∧
    ∀ o, o ≠ p → (s.sealedWith p ktp kmem).pad o = s.pad o := by
  have hpads := (State.pairWindows_same (((s.cacheConns p).foldl (fun u q => u.failConn q) s).modPad p
    (Pad.sealedWith ktp kmem))).pads.eq rfl
  refine ⟨?_, fun o ho => ?_⟩
  · rw [State.sealedWith, State.pad_of_pads hpads, State.pad_modPad (f := Pad.sealedWith ktp kmem) (State.pad_id ..),
      State.pad_of_pads (s.pads_failConns _)]
  · rw [State.sealedWith, State.pad_of_pads hpads, State.pad_modPad_of_ne (f := Pad.sealedWith ktp kmem) (State.pad_id ..) ho,
      State.pad_of_pads (s.pads_failConns _)]

theorem State.holdings_sealedWith (s : State) (p : Nat) (ktp kmem : Bytes) : (s.sealedWith p ktp kmem).holdings = s.holdings := by
  refine (State.holdings_pairWindows _).trans ?_
  exact foldl_keeps (g := State.holdings) (fun _ _ => State.holdings_of_store ((State.failConn_same ..).store.eq rfl)) _ s

theorem State.sealedWith_stops {q : Qp} (hq : s.qp q.qpn = some q) (hp : q.paddock = p) (hservice : q.service = 0)
    (ktp kmem : Bytes) : ∃ y, (s.sealedWith p ktp kmem).qp q.qpn = some y ∧ y.works = false := by
  have hqps : (s.sealedWith p ktp kmem).net.qps = ((s.cacheConns p).foldl (fun u q => u.failConn q) s).net.qps :=
    congrArg Net.qps ((State.pairWindows_same ..).net.eq rfl)
  rw [State.qp_of_qps hqps]
  by_cases hw : q.works = true
  · refine s.failConns_stop _ (List.mem_map.mpr ⟨q, List.mem_filter.mpr ⟨List.mem_of_find?_eq_some hq, ?_⟩, rfl⟩) hq
    simp [hp, hservice, hw]
  · obtain ⟨y, hy, hstop⟩ := (ConnsStay.foldl (fun u k => u.failConn_connsStay k) (s.cacheConns p) s).stays _ q hq
    exact ⟨y, hy, hstop (by simpa using hw)⟩

theorem seal_follows (hp : p = vendorPaddock v) (hx : s.vendorSession v 2 = some x)
    (hstate : (s.pad p).state = .awaitSeal ∨ (s.pad p).state = .open_) :
    (x.path ≠ 2 → exec (.seal v) s = .next (s.vendorSay x 2 St.denied [])) ∧
    (x.path = 2 → s.padHolds p = true → exec (.seal v) s = .next (s.vendorSay x 2 St.badParam [])) ∧
    (x.path = 2 → s.padHolds p = false → s.tenantOf x p = false ∨ s.sec.permitted = true →
      exec (.seal v) s = .next (s.vendorSay x 2 St.denied [])) ∧
    (x.path = 2 → s.padHolds p = false → s.tenantOf x p = true → s.sec.permitted = false → s.sec.dbgBusy = false →
      (s.pad p).kmem = [] → Answers (exec (.seal v) s) fun t =>
        (t.pad p).state = .sealed ∧ (t.pad p).writeCounter = 1 ∧ (∃ k, (t.pad p).kmem = [k, k] ∧ k.length = 32) ∧
        (t.pad p).ktp.length = 32 ∧ (t.pad p).generation = (s.pad p).generation ∧
        (∀ q, s.qp q.qpn = some q → q.paddock = p → q.service = 0 → ∃ y, t.qp q.qpn = some y ∧ y.works = false) ∧
        (∀ o, o ≠ p → t.pad o = s.pad o) ∧ t.store.seqs = s.store.seqs ∧ t.store.blocks = s.store.blocks ∧ t.mem = s.mem) := by
  subst hp
  have hstatus := State.sealStatus_of_state (x := x) hstate
  refine ⟨fun hpath => ?_, fun hpath hholds => ?_, fun hpath hholds hnot => ?_, fun hpath hholds htenant hpermitted hbusy hkmem => ?_⟩
  · refine exec_seal_refused hx (hstatus.trans (if_pos ?_)) (by decide)
    simpa using hpath
  · refine exec_seal_refused hx (hstatus.trans ?_) (by decide)
    simp [hpath, hholds]
  · refine exec_seal_refused hx (hstatus.trans ?_) (by decide)
    rcases hnot with hnot | hnot <;> simp [hpath, hholds, hnot]
  · have hok : s.sealStatus x (vendorPaddock v) = St.ok := by
      rw [hstatus]
      simp [hpath, hholds, htenant, hpermitted, hbusy, hkmem]
    obtain ⟨a, b, body, hexec⟩ := exec_seal_ok hx hok
    generalize hktp : sub a 0 32 = ktp at hexec
    generalize hkmem' : sub b 0 32 = kmem at hexec
    obtain ⟨hself, hother⟩ := State.pads_sealedWith { s with rng := s.rng + 2 } (vendorPaddock v) ktp kmem
    have hsay := State.vendorSay_same (({ s with rng := s.rng + 2 } : State).sealedWith (vendorPaddock v) ktp kmem) x 2 St.ok body
    have hpad := State.pad_of_pads (hsay.pads.eq rfl)
    have hstored := (State.holdings_of_store (hsay.store.eq rfl)).trans (State.holdings_sealedWith ..)
    obtain ⟨hseqs, hblocks⟩ := Prod.mk.inj hstored
    rw [hexec]
    refine answers_next ⟨?_, ?_, ⟨kmem, ?_, hkmem' ▸ length_sub ..⟩, ?_, ?_, fun q hq hpaddock hservice => ?_, fun o ho => ?_,
      hseqs, hblocks, ?_⟩
    · rw [hpad, hself]; rfl
    · rw [hpad, hself]; rfl
    · rw [hpad, hself]; rfl
    · rw [hpad, hself]; exact hktp ▸ length_sub ..
    · rw [hpad, hself]; rfl
    · obtain ⟨y, hy, hstop⟩ := State.sealedWith_stops (s := { s with rng := s.rng + 2 }) hq hpaddock hservice ktp kmem
      obtain ⟨z, hz, hyz⟩ := (State.spdmSay_connsStay ..).stays _ y hy
      exact ⟨z, hz, hyz hstop⟩
    · rw [hpad, hother o ho]; rfl
    · exact (hsay.mem.eq rfl).trans ((State.sealedWith_same ..).mem.eq rfl)

/-! ### WINDOW_KEY (R277, R278) -/

/-- The windows of a paddock for a peer with their key, and the streams to it. -/
def State.keyedFor (s : State) (p peer : Nat) (key : Bytes) : State :=
  { s with maps := { s.maps with
      windows := s.maps.windows.map fun w => if w.localPaddock == p && w.srcNode == peer then { w with key := key } else w
      streams := s.maps.streams.map fun y => if y.paddock == p && y.partner == peer then { y with key := key } else y } }

theorem exec_windowKey_ok (hx : s.vendorSession v 3 = some x) (hpath : x.path = 2) (hstate : (s.pad (vendorPaddock v)).state = .sealed)
    (htenant : s.tenantOf x (vendorPaddock v) = true) : ∃ streams : List Stream, exec (.windowKey v) s =
      .next ((streams.foldl (fun u y => u.connectStream y.id)
        (s.keyedFor (vendorPaddock v) (be v.payload 3 2) (sub v.payload 5 32))).vendorSay x 3 St.ok []) := by
  change ∃ streams : List Stream, execWindowKey v s = _
  rw [execWindowKey, hx]
  dsimp only
  rw [hstate, hpath, htenant]
  exact ⟨_, rfl⟩

theorem windowKey_keys (hp : p = vendorPaddock v) (hx : s.vendorSession v 3 = some x) (hpath : x.path = 2)
    (hstate : (s.pad p).state = .sealed) (htenant : s.tenantOf x p = true) : Answers (exec (.windowKey v) s) fun t =>
      t.maps.windows = s.maps.windows.map (fun w =>
        if w.localPaddock = p ∧ w.srcNode = be v.payload 3 2 then { w with key := sub v.payload 5 32 } else w) ∧
      t.pads = s.pads ∧ t.store = s.store ∧ t.mem = s.mem := by
  subst hp
  obtain ⟨streams, hexec⟩ := exec_windowKey_ok hx hpath hstate htenant
  have hconnect : Same { rng := true, net := true, sch := true } (s.keyedFor (vendorPaddock v) (be v.payload 3 2) (sub v.payload 5 32))
      (streams.foldl (fun u y => u.connectStream y.id) (s.keyedFor (vendorPaddock v) (be v.payload 3 2) (sub v.payload 5 32))) :=
    .foldl (.refl _ _) fun u y => State.connectStream_same u y.id
  have hsame := (hconnect.mono rfl).trans (State.vendorSay_same _ x 3 St.ok [])
  rw [hexec]
  refine answers_next ⟨?_, hsame.pads.eq rfl, hsame.store.eq rfl, hsame.mem.eq rfl⟩
  rw [hsame.maps.eq rfl]
  exact List.map_congr_left fun w _ => by simp

theorem windowKey_teardown (hx : s.vendorSession v 3 = some x) (hstate : (s.pad (vendorPaddock v)).state = .teardown) :
    exec (.windowKey v) s = .next (s.vendorSay x 3 St.busyTeardown []) := by
  change execWindowKey v s = _
  rw [execWindowKey, hx]
  dsimp only
  rw [hstate]
  rfl

/-! ### TEARDOWN (R277, R299) -/

theorem exec_teardown_ok (hx : s.vendorSession v 4 = some x) (hpath : x.path = 2) (hstate : (s.pad (vendorPaddock v)).state = .sealed)
    (htenant : s.tenantOf x (vendorPaddock v) = true) : ∃ body, exec (.teardown v) s =
      s.finish ((s.startTeardown (vendorPaddock v)).vendorSay x 4 St.ok body) := by
  change ∃ body, execTeardown v s = _
  rw [execTeardown, hx]
  dsimp only
  rw [hstate, hpath, htenant, State.requestTeardown_starts (by rw [hstate]; decide) (by rw [hstate]; decide)]
  exact ⟨_, rfl⟩

theorem teardown_starts (hp : p = vendorPaddock v) (hx : s.vendorSession v 4 = some x) (hpath : x.path = 2)
    (hstate : (s.pad p).state = .sealed) (hnodup : (s.maps.windows.map (·.index)).Nodup) (htenant : s.tenantOf x p = true)
    (hzero : (s.pad p).zeroing = false) : Answers (exec (.teardown v) s) fun t =>
      (t.pad p).state = .teardown ∧ (t.pad p).sealedTeardown = true ∧
      (∀ w ∈ t.maps.windows, w.localPaddock = p → w.state ≠ .active) ∧
      ((∀ o ∈ t.eng.ops, o.req.paddock ≠ p) → (t.pad p).kmem = [] ∧ (t.pad p).ktp = [] ∧
        ∀ w ∈ t.maps.windows, w.localPaddock = p → w.key = []) ∧
      ((∃ o ∈ t.eng.ops, o.req.paddock = p) → (t.pad p).kmem = (s.pad p).kmem ∧ (t.pad p).ktp = (s.pad p).ktp) := by
  subst hp
  obtain ⟨body, hexec⟩ := exec_teardown_ok hx hpath hstate htenant
  have hdown := s.startTeardown_tornDown (vendorPaddock v)
  have hsay := State.vendorSay_same (s.startTeardown (vendorPaddock v)) x 4 St.ok body
  have hpad : ∀ f, ({ (s.startTeardown (vendorPaddock v)).vendorSay x 4 St.ok body with maps :=
      { ((s.startTeardown (vendorPaddock v)).vendorSay x 4 St.ok body).maps with fault := f } } : State).pad (vendorPaddock v) =
      (s.startTeardown (vendorPaddock v)).pad (vendorPaddock v) := fun f => State.pad_of_pads (hsay.pads.eq rfl) _
  rw [hexec]
  refine answers_finish_fault fun f => ?_
  rw [hpad]
  dsimp only
  rw [hsay.maps.eq rfl, hsay.eng.eq rfl]
  refine ⟨hdown.state, by rw [hdown.sealed, hstate]; rfl, hdown.windows hnodup, fun hops => ?_, fun hops => (hdown.kept hops).symm⟩
  obtain ⟨hktp, hkmem, hkeys⟩ := hdown.gone hops hzero
  exact ⟨hkmem, hktp, hkeys⟩

end

/-- Settles O21: SEAL fails the cache connections one by one, and none works again; the teardown is that of host software. -/
theorem tenantsSealAndTearDown : Obligations.TenantsSealAndTearDown := by
  unfold Obligations.TenantsSealAndTearDown
  intro v s x p hp _
  exact ⟨seal_follows hp, windowKey_keys hp, fun hx hstate => windowKey_teardown hx (hp ▸ hstate), teardown_starts hp⟩

end Sys2Proof.Machine
end

section
/-! O22. SPDM sessions open, read what they may and answer over their path (R191, R198, R280–R284, R297). -/

namespace Sys2Proof.Machine

section
variable {s : State} {v : VendorReq} {x : Session}

/-! ### Messages of O0 by their path (R280) -/

theorem State.spdmSay_off_gwt (s : State) {path : Nat} (hpath : path ≠ 2) (qpn sess : Nat) (body : Bytes) :
    s.spdmSay path qpn sess body = s.emit (.spdm path sess body) := by
  rw [State.spdmSay]
  exact if_neg (by simpa using hpath)

theorem State.spdmSay_gwt (s : State) (qpn sess : Nat) (body : Bytes) : s.spdmSay 2 qpn sess body =
    match s.sec.sessions.find? (·.id == sess) with
    | none => s.tunnelSay qpn body
    | some x => ({ s with rng := s.rng + 1 }).tunnelSay qpn (Config.securedMessage x.keys s.rng body) := rfl

/-- Without a tunnel message that waits, the node sends one of its own. -/
theorem State.tunnelSay_of_none {qpn : Nat} (h : ∀ m ∈ s.net.inbox, m.qpn = qpn → m.opcode ≠ 0x70) (body : Bytes) :
    s.tunnelSay qpn body = s.sendMsg qpn 0x70 6 body false none := by
  have hnone : s.net.inbox.find? (fun m => m.qpn == qpn && m.opcode == 0x70) = none := by
    rw [List.find?_eq_none]
    intro m hm hwaits
    obtain ⟨hqpn, hop⟩ := Bool.and_eq_true_iff.mp hwaits
    exact h m hm (eq_of_beq hqpn) (eq_of_beq hop)
  rw [State.tunnelSay, hnone]

theorem spdmSay_followsThePath (s : State) (path qpn sess : Nat) (body : Bytes) :
    (path ≠ 2 → s.spdmSay path qpn sess body = s.emit (.spdm path sess body)) ∧
    (path = 2 → (∀ m ∈ s.net.inbox, m.qpn = qpn → m.opcode ≠ 0x70) → (∀ y ∈ s.sec.sessions, y.id ≠ sess) →
      s.spdmSay path qpn sess body = s.sendMsg qpn 0x70 6 body false none) ∧
    (∀ y, path = 2 → s.sec.sessions.find? (·.id == sess) = some y → (∀ m ∈ s.net.inbox, m.qpn = qpn → m.opcode ≠ 0x70) →
      s.spdmSay path qpn sess body =
        ({ s with rng := s.rng + 1 }).sendMsg qpn 0x70 6 (Config.securedMessage y.keys s.rng body) false none) := by
  refine ⟨fun hpath => s.spdmSay_off_gwt hpath qpn sess body, fun hpath hinbox hnone => ?_, fun y hpath hy hinbox => ?_⟩
  · have hfind : s.sec.sessions.find? (·.id == sess) = none := by
      rw [List.find?_eq_none]
      exact fun y hy => by simpa using hnone y hy
    rw [hpath, State.spdmSay_gwt, hfind]
    exact State.tunnelSay_of_none hinbox body
  · rw [hpath, State.spdmSay_gwt, hy]
    exact State.tunnelSay_of_none (s := { s with rng := s.rng + 1 }) hinbox _

/-- What a message of O0 does on its path. -/
theorem State.spdmSay_out (s : State) (path qpn sess : Nat) (body : Bytes) :
    (path ≠ 2 → (s.spdmSay path qpn sess body).out = s.out ++ [.spdm path sess body] ∧ (s.spdmSay path qpn sess body).net = s.net) ∧
    (path = 2 → (s.spdmSay path qpn sess body).out = s.out) := by
  refine ⟨fun hpath => ?_, fun hpath => ?_⟩
  · rw [s.spdmSay_off_gwt hpath]
    exact ⟨rfl, rfl⟩
  · rw [hpath, State.spdmSay_gwt]
    split
    · exact (State.tunnelSay_same ..).out.eq rfl
    · exact (State.tunnelSay_same ..).out.eq rfl

/-! ### Commands of a session (R282–R284, R297) -/

theorem selectPaddock_selects (hx : s.vendorSession v 1 = some x) (hsession : s.session x.id = some x)
    (htenant : s.tenantOf x (vendorPaddock v) = true) : Answers (exec (.selectPaddock v) s) fun t =>
      t.session x.id = some { x with selected := vendorPaddock v } ∧
      (x.path ≠ 2 → t.out = s.out ++ [.spdm x.path x.id (toBe 1 1 ++ toBe 1 St.ok)] ∧ t.net = s.net) ∧
      (x.path = 2 → t.out = s.out) ∧ t.pads = s.pads ∧ t.store = s.store := by
  obtain ⟨t, hexec, hsec⟩ : ∃ t : State, exec (.selectPaddock v) s = .next (t.vendorSay x 1 St.ok []) ∧
      t = { s with sec := { s.sec with
        sessions := updateFirst (·.id == x.id) (fun y => { y with selected := vendorPaddock v }) s.sec.sessions } } := by
    change ∃ t : State, execSelectPaddock v s = _ ∧ _
    rw [execSelectPaddock, hx]
    dsimp only
    rw [htenant]
    exact ⟨_, rfl, rfl⟩
  have hsame := State.vendorSay_same t x 1 St.ok []
  obtain ⟨hoff, hon⟩ := State.spdmSay_out t x.path x.qpn x.id (toBe 1 1 ++ toBe 1 St.ok)
  rw [hexec]
  subst hsec
  refine answers_next ⟨?_, hoff, hon, hsame.pads.eq rfl, hsame.store.eq rfl⟩
  rw [State.session, hsame.sec.eq rfl]
  exact find?_updateFirst hsession (by simp)

theorem tallyRead_reads (hx : s.vendorSession v 5 = some x) (htenant : s.tenantOf x (vendorPaddock v) = true) :
    Answers (exec (.tallyRead v) s) fun t =>
      (x.path ≠ 2 → t.out = s.out ++ [.spdm x.path x.id (toBe 1 5 ++ toBe 1 St.ok ++ (s.snapshot (vendorPaddock v)).bytes)] ∧
        t.net = s.net) ∧ (x.path = 2 → t.out = s.out) ∧ t.pads = s.pads ∧ t.sec = s.sec ∧ t.store = s.store ∧
      ((s.pad (vendorPaddock v)).state ≠ .free → s.snapshot (vendorPaddock v) =
        ⟨s.time, (s.pad (vendorPaddock v)).generation, (s.pad (vendorPaddock v)).counters⟩) := by
  have hexec : exec (.tallyRead v) s = .next (s.vendorSay x 5 St.ok (s.snapshot (vendorPaddock v)).bytes) := by
    change execTallyRead v s = _
    rw [execTallyRead, hx]
    dsimp only
    rw [htenant]
    rfl
  have hsame := State.vendorSay_same s x 5 St.ok (s.snapshot (vendorPaddock v)).bytes
  obtain ⟨hoff, hon⟩ := State.spdmSay_out s x.path x.qpn x.id (toBe 1 5 ++ toBe 1 St.ok ++ (s.snapshot (vendorPaddock v)).bytes)
  rw [hexec]
  refine answers_next ⟨hoff, hon, hsame.pads.eq rfl, hsame.sec.eq rfl, hsame.store.eq rfl, fun hstate => ?_⟩
  rw [State.snapshot]
  split
  · contradiction
  · rfl

/-- A command of a session that is not the tenant's is DENIED (R283). -/
theorem vendorCommands_denied (htenant : s.tenantOf x (vendorPaddock v) = false) :
    (s.vendorSession v 1 = some x → exec (.selectPaddock v) s = .next (s.vendorSay x 1 St.denied [])) ∧
    (s.vendorSession v 5 = some x → exec (.tallyRead v) s = .next (s.vendorSay x 5 St.denied [])) := by
  refine ⟨fun hx => ?_, fun hx => ?_⟩
  · change execSelectPaddock v s = _
    rw [execSelectPaddock, hx]
    dsimp only
    rw [htenant]
    rfl
  · change execTallyRead v s = _
    rw [execTallyRead, hx]
    dsimp only
    rw [htenant]
    rfl

theorem State.spdmServes_of (hruns : s.restarting 0 = false) : s.spdmServes = true := by rw [State.spdmServes, hruns]; rfl

theorem getMeasurements_measures (index : Nat) (nonce : Bytes) (hsession : s.session x.id = some x) (hruns : s.restarting 0 = false) :
    Answers (exec (.getMeasurements x.id index nonce) s) fun t =>
      ∃ blocks, t = s.spdmSay x.path x.qpn x.id
        (blocks ++ nonce ++ Config.ecdsaSign s.sec.deviceIdentity (blocks ++ nonce)) ∧
      (index ≠ 255 → blocks = dmtfBlock index (s.measurement x index)) ∧
      t.sec = s.sec ∧ t.pads = s.pads ∧ t.store = s.store := by
  let list := if index == 255 then [1, 2, 3, 4, 5, 6] else [index]
  let blocks := (list.map fun i => dmtfBlock i (s.measurement x i)).flatten
  have hexec : exec (.getMeasurements x.id index nonce) s = .next (s.spdmSay x.path x.qpn x.id
      (blocks ++ nonce ++ Config.ecdsaSign s.sec.deviceIdentity (blocks ++ nonce))) := by
    change execGetMeasurements x.id index nonce s = _
    rw [execGetMeasurements, hsession]
    dsimp only
    rw [State.spdmServes_of hruns]
    rfl
  have hsame := State.spdmSay_same s x.path x.qpn x.id (blocks ++ nonce ++ Config.ecdsaSign s.sec.deviceIdentity (blocks ++ nonce))
  rw [hexec]
  refine answers_next ⟨blocks, rfl, fun hindex => ?_, hsame.sec.eq rfl, hsame.pads.eq rfl, hsame.store.eq rfl⟩
  have hlist : list = [index] := if_neg (by simpa using hindex)
  simp [blocks, hlist]

end

theorem sessionsReadWhatTheyMay : Claims.SessionsReadWhatTheyMay := by
  intro s v x p hp
  subst hp
  exact ⟨selectPaddock_selects, tallyRead_reads, vendorCommands_denied, fun index nonce => getMeasurements_measures index nonce,
    spdmSay_followsThePath s⟩

/-! ### The slot of a request that is answered (R187, R198) -/

theorem chunksFuel_ne_nil {α : Type} (n : Nat) {fuel : Nat} {xs : List α} (hfuel : fuel ≠ 0) (hxs : xs ≠ []) :
    chunksFuel n fuel xs ≠ [] := by
  cases fuel with
  | zero => exact absurd rfl hfuel
  | succ k =>
    cases xs with
    | nil => exact absurd rfl hxs
    | cons x xs => exact List.cons_ne_nil _ _

/-- The LAST packet of an answer frees the slot of its request. -/
theorem cutMessage_frees (mtu psn msn : Nat) (m : OutMsg) : ∃ p ∈ cutMessage mtu psn msn m, p.frees = m.answers := by
  have hne : (if m.body.isEmpty then [[]] else chunks mtu m.body) ≠ [] := by
    split
    · exact List.cons_ne_nil _ _
    · next hbody =>
      have hbody : m.body ≠ [] := by simpa using hbody
      exact chunksFuel_ne_nil _ (by simpa using hbody) hbody
  rw [cutMessage]
  dsimp only
  generalize (if m.body.isEmpty then [[]] else chunks mtu m.body) = pieces at hne ⊢
  have hpos : 0 < pieces.length := List.length_pos_iff.mpr hne
  have hlast : pieces.length - 1 + 1 = pieces.length := by omega
  refine ⟨_, List.mem_map.mpr ⟨(pieces.length - 1, pieces[pieces.length - 1]), ?_, rfl⟩, ?_⟩
  · rw [List.mem_iff_getElem]
    exact ⟨pieces.length - 1, by simpa using hpos, by simp⟩
  · simp [hlast]

/-- A packet that waits on the connection frees the slot of a request. -/
def Qp.willFree (q : Qp) (msn : Nat) : Prop := ∃ p ∈ q.tx.ready, p.frees = some msn

section
variable {q : Qp} {msn : Nat}

theorem Qp.willFree.cutNext (h : q.willFree msn) : q.cutNext.willFree msn := by
  obtain ⟨p, hp, hfrees⟩ := h
  rw [Qp.cutNext]
  split
  · exact ⟨p, hp, hfrees⟩
  · exact ⟨p, List.mem_append_left _ hp, hfrees⟩

theorem Qp.willFree_cutNext_of_queue_cons {m : OutMsg} {rest : List OutMsg} (hqueue : q.tx.queue = m :: rest)
    (hm : m.answers = some msn) : q.cutNext.willFree msn := by
  obtain ⟨p, hp, hfrees⟩ := cutMessage_frees q.mtu q.tx.nextPsn q.tx.nextMsn m
  rw [Qp.cutNext, hqueue]
  exact ⟨p, List.mem_append_right _ hp, hfrees.trans hm⟩

/-- Once every message is cut, the last packet of an answer waits. -/
theorem Qp.willFree_cutAll (h : ∃ m ∈ q.tx.queue, m.answers = some msn) : q.cutAll.willFree msn := by
  suffices hcut : ∀ (ms : List OutMsg) (y : Qp), y.tx.queue = ms →
      y.willFree msn ∨ (∃ m ∈ ms, m.answers = some msn) → (Qp.cutNext^[ms.length] y).willFree msn by
    rw [Qp.cutAll, List.foldl_const, List.length_range]
    exact hcut _ q rfl (.inr h)
  intro ms
  induction ms with
  | nil => exact fun y _ hfree => hfree.resolve_right (by simp)
  | cons m ms ih =>
    intro y hy hfree
    refine ih y.cutNext (Qp.cutNext_of_queue_cons hy).1 ?_
    rcases hfree with hfree | ⟨x, hx, hanswers⟩
    · exact .inl hfree.cutNext
    · rcases List.mem_cons.mp hx with rfl | hx
      · exact .inl (Qp.willFree_cutNext_of_queue_cons hy hanswers)
      · exact .inr ⟨x, hx, hanswers⟩

/-- The slot of a request is free, or a packet that waits frees it (R198). -/
def Qp.frees (q : Qp) (msn : Nat) : Prop := (∀ u ∈ q.rx.used, u.1 ≠ msn) ∨ q.willFree msn

/-- So it is after the first packet that waits is sent, if that packet's request gives up its slot then. -/
theorem Qp.frees.sent {y : Qp} {p : OutPkt} {rest : List OutPkt} (h : q.frees msn) (hready : q.tx.ready = p :: rest)
    (hrest : y.tx.ready = rest) (hused : ∀ u ∈ y.rx.used, u ∈ q.rx.used)
    (hp : p.frees = some msn → ∀ u ∈ y.rx.used, u.1 ≠ msn) : y.frees msn := by
  rcases h with h | ⟨x, hx, hfrees⟩
  · exact .inl fun u hu => h u (hused u hu)
  · rw [hready] at hx
    rcases List.mem_cons.mp hx with rfl | hx
    · exact .inl (hp hfrees)
    · exact .inr ⟨x, hrest ▸ hx, hfrees⟩

end

section
variable {s : State} {n msn : Nat}

/-- A packet that is sent changes neither what waits on its connection nor the slots (R187, R198). -/
theorem State.qp_sendPkt_of_places {q : Qp} {rest : List OutPkt} {g : Qp → Qp} (hq : s.qp n = some q) (c e : List Nat)
    (f : List (Nat × Nat)) (hid : ∀ x, (g x).qpn = x.qpn) (hready : ∀ x, (g x).tx.ready = rest) (hrx : ∀ x, (g x).rx = x.rx)
    (p : OutPkt) : ∃ y, (((s.withPlaces c e f).modQp n g).sendPkt n p true).qp n = some y ∧ y.tx.ready = rest ∧ y.rx = q.rx := by
  have hg : ((s.withPlaces c e f).modQp n g).qp n = some (g q) := State.qp_modQp hq ((hid q).trans (State.qpn_of_qp hq))
  obtain ⟨y, hy, control, count, rfl⟩ := (State.sendPkt_onConn ((s.withPlaces c e f).modQp n g) n p true).own _ hg
  exact ⟨_, hy, hready q, hrx q⟩

/-- While packets are sent, the slot is free or its packet waits: sending that packet frees the slot. -/
theorem State.pumpFuel_frees (fuel : Nat) {q : Qp} (hq : s.qp n = some q) (hfree : q.frees msn) :
    ∃ x, (State.pumpFuel n fuel s).qp n = some x ∧ x.frees msn := by
  induction fuel generalizing s q with
  | zero => exact ⟨q, hq, hfree⟩
  | succ fuel ih =>
    rw [State.pumpFuel, hq]
    dsimp only
    split
    · exact ⟨q, hq, hfree⟩
    · split
      · exact ⟨q, hq, hfree⟩
      · next p rest hready =>
        cases hhand : s.atHand n with
        | none =>
          obtain ⟨c, e, f, hfetch⟩ := s.startFetch_eq n (q.homePort / 4)
          dsimp only
          exact ⟨q, by rw [hfetch]; exact hq, hfree⟩
        | some t =>
          obtain ⟨c, e, f, rfl⟩ := State.atHand_eq hhand
          dsimp only
          have hkeep (t : State) (hp : p.frees = none) (ht : ∃ y, t.qp n = some y ∧ y.tx.ready = rest ∧ y.rx = q.rx) :
              ∃ x, (State.pumpFuel n fuel t).qp n = some x ∧ x.frees msn := by
            obtain ⟨y, hy, hrest, hrx⟩ := ht
            exact ih hy (hfree.sent hready hrest (fun u hu => hrx ▸ hu) fun h => by cases hp.symm.trans h)
          have hfreed (t : State) (k : Nat) (hp : p.frees = some k)
              (ht : ∃ y, t.qp n = some y ∧ y.tx.ready = rest ∧ y.rx = q.rx) :
              ∃ x, (State.pumpFuel n fuel (t.releaseSlot n k)).qp n = some x ∧ x.frees msn := by
            obtain ⟨y, hy, hrest, hrx⟩ := ht
            refine ih (State.qp_modQp hy (State.qpn_of_qp hy :)) (hfree.sent hready hrest (fun u hu => ?_) fun h u hu => ?_)
            · exact hrx ▸ (List.mem_filter.mp hu).1
            · obtain rfl := Option.some.inj (hp.symm.trans h)
              simpa using (List.mem_filter.mp hu).2
          split
          · next hp =>
            refine hkeep _ hp (State.qp_sendPkt_of_places hq c e f ?_ ?_ ?_ _) <;> exact fun _ => rfl
          · next hp =>
            refine hfreed _ _ hp (State.qp_sendPkt_of_places hq c e f ?_ ?_ ?_ _) <;> exact fun _ => rfl

/-- A sent message that answers a request frees its slot, or its last packet waits to do so (R198). -/
theorem State.sendMsg_frees {q : Qp} (hq : s.qp n = some q) (hstate : q.state = .ready) (opcode tc : Nat) (body : Bytes) :
    ∃ x, (s.sendMsg n opcode tc body false (some msn)).qp n = some x ∧ x.frees msn := by
  let asked := fun x : Qp => { x with tx := { x.tx with queue := x.tx.queue ++ [(⟨opcode, body, false, tc, some msn⟩ : OutMsg)] } }
  have heq : s.sendMsg n opcode tc body false (some msn) = (s.modQp n asked).pump n := by
    rw [State.sendMsg, hq]
    dsimp only
    rw [hstate]
    simp [asked]
  have hasked : (s.modQp n asked).qp n = some (asked q) := State.qp_modQp hq (State.qpn_of_qp hq :)
  have hcut := State.qp_modQp (f := Qp.cutAll) hasked ((Qp.cutAll_pumpedAs _).qpn.trans (State.qpn_of_qp hasked))
  have hwill : (asked q).cutAll.willFree msn :=
    Qp.willFree_cutAll ⟨_, List.mem_append_right _ (List.mem_singleton.mpr rfl), rfl⟩
  obtain ⟨x, hx, hfrees⟩ := State.pumpFuel_frees ((asked q).tx.w + 1) hcut (.inr hwill)
  rw [← State.pumpOnce_eq hasked] at hx
  have hready : x.state = .ready := by
    obtain ⟨y, hy, hpumped⟩ := (State.pumpOnce_onConn ..).own _ hasked
    obtain rfl := Option.some.inj (hx.symm.trans hy)
    exact hpumped.state.trans hstate
  refine ⟨x, ?_, hfrees⟩
  rw [heq, State.pump, State.sendDisconnect_eq hx, hready]
  exact hx

end

/-! ### SPDM_TUNNEL (R191, R280) -/

section
variable {s : State} {m : Msg} {q : Qp}

/-- The answer to a request on a connection in READY. -/
theorem State.answer_of_ready {n : Nat} (hq : s.qp n = some q) (hstate : q.state = .ready) (msn opcode : Nat) (body : Bytes) :
    ∃ tc, s.answer n msn opcode body = (s.replying n msn).sendMsg n opcode tc body false (some msn) := by
  have hlive : (decide (q.state = .ready) || decide (q.state = .draining)) = true := by rw [hstate]; rfl
  rw [State.answer, hq]
  exact ⟨_, if_pos hlive⟩

theorem spdmTunnel_answers (hq : s.qp m.qpn = some q) (hstate : q.state = .ready) (hadmits : q.admits 0x70 = true)
    (hruns : s.restarting 0 = false) (hlen : m.body.length ≤ 4096) : Answers (exec (.spdmTunnel m) s) fun t =>
      (∃ x, t.qp m.qpn = some x ∧ x.state = .ready ∧ (∀ u ∈ x.rx.outstanding, u.1 ≠ m.msn) ∧
        ((∀ u ∈ x.rx.used, u.1 ≠ m.msn) ∨ ∃ p ∈ x.tx.ready, p.frees = some m.msn)) ∧
      (∀ y ∈ t.net.inbox, y.qpn = m.qpn → y.msn ≠ m.msn) ∧ t.store = s.store ∧ t.pads = s.pads ∧ t.sec = s.sec := by
  obtain ⟨body, hexec⟩ : ∃ body, exec (.spdmTunnel m) s =
      .next (({ s with rng := s.rng + 1 } : State).answer m.qpn m.msn 0x70 body) := by
    change ∃ body, execSpdmTunnel m s = _
    rw [execSpdmTunnel, hq]
    dsimp only
    rw [Qp.works_of_ready hstate, State.spdmServes_of hruns, hadmits, if_neg (by decide), if_neg (by decide), if_neg (by omega)]
    exact ⟨_, rfl⟩
  obtain ⟨tc, hanswer⟩ := State.answer_of_ready (s := { s with rng := s.rng + 1 }) hq hstate m.msn 0x70 body
  have hreplying : (({ s with rng := s.rng + 1 } : State).replying m.qpn m.msn).qp m.qpn = some (q.replying m.msn) :=
    State.qp_modQp (s := { s with rng := s.rng + 1 }) hq (State.qpn_of_qp hq :)
  obtain ⟨x, hx, hfrees⟩ := State.sendMsg_frees (msn := m.msn) hreplying hstate 0x70 tc body
  have hconn := State.sendMsg_onConn (({ s with rng := s.rng + 1 } : State).replying m.qpn m.msn) m.qpn 0x70 tc body false
    (some m.msn)
  obtain ⟨y, hy, hpumped⟩ := hconn.own _ hreplying
  obtain rfl := Option.some.inj (hx.symm.trans hy)
  rw [hexec, hanswer]
  refine answers_next ⟨⟨x, hx, hpumped.state.trans hstate, fun u hu => ?_, hfrees⟩, fun y hy hqpn => ?_, hconn.same.store.eq rfl,
    hconn.same.pads.eq rfl, hconn.same.sec.eq rfl⟩
  · obtain ⟨tx, used, hold, rfl, -⟩ := hpumped
    simpa using (List.mem_filter.mp hu).2
  · rw [hconn.inbox] at hy
    have hkept := (List.mem_filter.mp hy).2
    simpa [hqpn] using hkept

theorem spdmTunnel_tooLong (hq : s.qp m.qpn = some q) (hstate : q.state = .ready) (hadmits : q.admits 0x70 = true)
    (hruns : s.restarting 0 = false) (hlen : 4096 < m.body.length) : Answers (exec (.spdmTunnel m) s) fun t =>
      (∃ x, t.qp m.qpn = some x ∧ x.state = .error) ∧ t.store = s.store ∧ t.sec = s.sec := by
  have hexec : exec (.spdmTunnel m) s = .next (s.nakFail m.qpn m.psn 0x02) := by
    change execSpdmTunnel m s = _
    rw [execSpdmTunnel, hq]
    dsimp only
    rw [Qp.works_of_ready hstate, State.spdmServes_of hruns, hadmits, if_neg (by decide), if_neg (by decide), if_pos hlen]
  have hsame := State.nakFail_same s m.qpn m.psn 0x02
  rw [hexec]
  exact answers_next ⟨State.qp_nakFail hq (Qp.works_of_ready hstate) .., hsame.store.eq rfl, hsame.sec.eq rfl⟩

end

/-! ### KEY_EXCHANGE (R280–R282) -/

section
variable {s : State} {k : KeyExchange}

/-- The session that a KEY_EXCHANGE opens. -/
def State.newSession (s : State) (k : KeyExchange) : Session where
  id := s.sec.nextSession
  path := k.path
  qpn := k.qpn
  leafHash := if k.mutualAuth && k.path == 2 then Config.sha384 k.leafSpki else []
  ems := Config.exportSecret s.rng k.exchange
  keys := Config.sessionKeys s.rng k.exchange
  selected := 0

/-- The security state with one session more. -/
def Security.opened (c : Security) (x : Session) : Security :=
  { c with sessions := c.sessions ++ [x], nextSession := c.nextSession + 1 }

/-- Whether a KEY_EXCHANGE finds its path: on GWT a management connection that works. -/
def State.exchangeServed (s : State) (k : KeyExchange) : Prop :=
  k.path ≤ 2 ∧ s.restarting 0 = false ∧ (k.path = 2 → ∃ q, s.qp k.qpn = some q ∧ q.service = 1 ∧ q.works = true)

theorem State.exchangeServed_go (h : s.exchangeServed k) : (!s.spdmServes || decide (2 < k.path) ||
    (k.path == 2 && !(match s.qp k.qpn with | some q => q.service == 1 && q.works | none => false))) = false := by
  obtain ⟨hpath, hruns, hconn⟩ := h
  have hshort : decide (2 < k.path) = false := by simpa using hpath
  rw [State.spdmServes_of hruns, hshort]
  by_cases hgwt : k.path = 2
  · obtain ⟨q, hq, hservice, hworks⟩ := hconn hgwt
    simp [hq, hservice, hworks]
  · simp [hgwt]

theorem exec_keyExchange_full (h : s.exchangeServed k)
    (hfull : sessionLimit k.path ≤ (s.sec.sessions.filter (·.path == k.path)).length) :
    exec (.keyExchange k) s =
      .next (({ s with rng := s.rng + 1 } : State).spdmSay k.path k.qpn 0 (Config.spdmAnswer k.path 0 s.rng k.exchange)) := by
  have hgo := State.exchangeServed_go h
  change execKeyExchange k s = _
  rw [execKeyExchange]
  exact (if_neg fun hstop => Bool.false_ne_true (hgo.symm.trans hstop)).trans (if_pos hfull)

theorem exec_keyExchange_opens (h : s.exchangeServed k) (hroom : (s.sec.sessions.filter (·.path == k.path)).length < sessionLimit k.path) :
    ∃ (t : State) (body : Bytes), exec (.keyExchange k) s = .next (t.spdmSay k.path k.qpn 0 body) ∧
      t.sec = s.sec.opened (s.newSession k) ∧ t.pads = s.pads ∧ t.store = s.store := by
  have hgo := State.exchangeServed_go h
  have hnot : ¬ sessionLimit k.path ≤ (s.sec.sessions.filter (·.path == k.path)).length := by omega
  change ∃ (t : State) (body : Bytes), execKeyExchange k s = _ ∧ _
  rw [execKeyExchange]
  refine ⟨_, _, (if_neg fun hstop => Bool.false_ne_true (hgo.symm.trans hstop)).trans (if_neg hnot), ?_⟩
  dsimp only
  split <;> exact ⟨rfl, rfl, rfl⟩

theorem keyExchange_follows (h : s.exchangeServed k) :
    ((s.sec.sessions.filter (·.path == k.path)).length < sessionLimit k.path → Answers (exec (.keyExchange k) s) fun t =>
      (∃ x, t.sec.sessions = s.sec.sessions ++ [x] ∧ x.id = s.sec.nextSession ∧ x.path = k.path ∧ x.selected = 0 ∧
        (k.path = 2 → k.mutualAuth = true → x.leafHash = Config.sha384 k.leafSpki) ∧
        (k.path ≠ 2 ∨ k.mutualAuth = false → x.leafHash = [])) ∧ t.pads = s.pads ∧ t.store = s.store) ∧
    (sessionLimit k.path ≤ (s.sec.sessions.filter (·.path == k.path)).length → Answers (exec (.keyExchange k) s) fun t =>
      t.sec = s.sec ∧ (k.path ≠ 2 → t.net = s.net) ∧ t.store = s.store) := by
  refine ⟨fun hroom => ?_, fun hfull => ?_⟩
  · obtain ⟨t, body, hexec, hsec, hpads, hstore⟩ := exec_keyExchange_opens h hroom
    have hsame := State.spdmSay_same t k.path k.qpn 0 body
    rw [hexec]
    refine answers_next ⟨⟨s.newSession k, ?_, rfl, rfl, rfl, fun hpath hauth => ?_, fun hnot => ?_⟩, (hsame.pads.eq rfl).trans hpads,
      (hsame.store.eq rfl).trans hstore⟩
    · rw [hsame.sec.eq rfl, hsec]
      rfl
    · simp [State.newSession, hpath, hauth]
    · rcases hnot with hnot | hnot <;> simp [State.newSession, hnot]
  · have hsame := State.spdmSay_same ({ s with rng := s.rng + 1 } : State) k.path k.qpn 0
      (Config.spdmAnswer k.path 0 s.rng k.exchange)
    rw [exec_keyExchange_full h hfull]
    exact answers_next ⟨hsame.sec.eq rfl, fun hpath => ((State.spdmSay_out ..).1 hpath).2, hsame.store.eq rfl⟩

end

theorem tunnelAndKeyExchange : Claims.TunnelAndKeyExchange :=
  ⟨fun _ _ _ hq hstate hadmits hruns => ⟨spdmTunnel_answers hq hstate hadmits hruns, spdmTunnel_tooLong hq hstate hadmits hruns⟩,
    fun _ _ hpath hruns hconn => keyExchange_follows ⟨hpath, hruns, hconn⟩⟩

/-- Settles O22: the last packet of an answer frees the slot of its request, so that after the pump the slot is free or that packet
waits to be sent. -/
theorem sessionsAnswerTheirPath : Obligations.SessionsAnswerTheirPath := by
  unfold Obligations.SessionsAnswerTheirPath
  exact ⟨sessionsReadWhatTheyMay, tunnelAndKeyExchange⟩

end Sys2Proof.Machine
end

section
/-! O38, the functions. A shutdown that has ended is reported, and a queued re-enable takes effect under the next generation
(R368). -/

namespace Sys2Proof.Machine

theorem State.functionDone_switches (s : State) (kind id paddock generation phase : Nat) :
    (s.functionDone kind id paddock generation phase).host.switches = s.host.switches := State.notify_switches ..

theorem State.function_of_switches {s t : State} (h : t.host.switches = s.host.switches) (kind id : Nat) :
    t.function kind id = s.function kind id := by
  rw [State.function, (Prod.mk.inj h).1, ← State.function]

theorem State.slicesOff_of_switches {s t : State} (h : t.host.switches = s.host.switches) : t.host.slicesOff = s.host.slicesOff :=
  (Prod.mk.inj h).2

theorem State.function_putFunction {s : State} {f : Function_} {kind id : Nat} (hkind : f.kind = kind) (hid : f.id = id) :
    (s.putFunction f).function kind id = f := by
  subst hkind hid
  rw [State.function, State.putFunction]
  dsimp only
  rw [List.find?_append, List.find?_eq_none.mpr, Option.none_or]
  · simp
  · intro g hg hfound
    have hother := (List.mem_filter.mp hg).2
    simp_all

theorem State.function_named (s : State) (kind id : Nat) : (s.function kind id).kind = kind ∧ (s.function kind id).id = id := by
  rw [State.function]
  cases h : s.host.functions.find? fun f => f.kind == kind && f.id == id with
  | none => exact ⟨rfl, rfl⟩
  | some f => simpa using List.find?_some h

/-! ### Links -/

section
variable {s : State} {link at_ : Nat} {l : Link} {d : Sched}

theorem State.sched_modSched {i : Nat} {f : Sched → Sched} (h : s.sched i = some d) (hf : (f d).id = i) :
    (s.modSched i f).sched i = some (f d) := find?_updateFirst h (by simpa using hf)

theorem State.link_modLink {i : Nat} {f : Link → Link} (h : s.link i = some l) (hf : (f l).id = i) :
    (s.modLink i f).link i = some (f l) := find?_updateFirst h (by simpa using hf)

theorem State.link_id (hl : s.link link = some l) : l.id = link := by simpa using List.find?_some hl

theorem Sched.items_discard_all : ∀ q ∈ (d.discard fun _ => true).queues, q.items = [] := by
  intro q hq
  obtain ⟨x, -, rfl⟩ := List.mem_map.mp hq
  simp

theorem State.egressEmpty_iff (h : s.sched (16 + link) = some d) : s.egressEmpty link = true ↔ ∀ q ∈ d.queues, q.items = [] := by
  rw [State.egressEmpty, h]
  simp

/-- 10 ms after its disable a link's waiting frames are discarded. -/
theorem portEgressDiscard_discards (hl : s.link link = some l) (hd : s.sched (16 + link) = some d) (hat : l.shuttingDown = some at_) :
    Answers (exec (.portEgressDiscard link) s) fun t =>
      t.time = max s.time (at_ + 10000000) ∧ t.egressEmpty link = true ∧ t.net = s.net ∧ t.store = s.store := by
  have hexec : exec (.portEgressDiscard link) s =
      .next ((s.advanceTo (at_ + 10000000)).modSched (16 + link) fun d => d.discard fun _ => true) := by
    change execPortEgressDiscard link s = _
    rw [execPortEgressDiscard, hl]
    dsimp only
    rw [hat]
  rw [hexec]
  refine answers_next ⟨rfl, ?_, rfl, rfl⟩
  rw [State.egressEmpty_iff (State.sched_modSched (s := s.advanceTo (at_ + 10000000)) (f := fun d => d.discard fun _ => true) hd
    (State.sched_id hd :))]
  exact Sched.items_discard_all

theorem exec_linkShutdownComplete : exec (.functionShutdownComplete 1 (link / 4 * 16 + link % 4)) s = .next (s.linkDown link) := by
  have hlink : (link / 4 * 16 + link % 4) / 16 * 4 + (link / 4 * 16 + link % 4) % 16 = link := by omega
  change Host.Outcome.next (s.linkDown ((link / 4 * 16 + link % 4) / 16 * 4 + (link / 4 * 16 + link % 4) % 16)) = _
  rw [hlink]

theorem linkShutdown_waits (hl : s.link link = some l) (hd : s.sched (16 + link) = some d) (hwaits : ∃ q ∈ d.queues, q.items ≠ []) :
    exec (.functionShutdownComplete 1 (link / 4 * 16 + link % 4)) s = .next s := by
  have hfull : s.egressEmpty link = false := by
    obtain ⟨q, hq, hitems⟩ := hwaits
    exact Bool.eq_false_iff.mpr fun h => hitems ((State.egressEmpty_iff hd).mp h q hq)
  rw [exec_linkShutdownComplete, State.linkDown, hl]
  dsimp only
  rw [hfull]
  simp

/-- A link whose shutdown has ended (R368). -/
def Link.ended (x : Link) : Link := { x with shuttingDown := none, gen := if x.reenable then nextGen x.gen else x.gen }

/-- The link itself once it is down. -/
theorem State.link_dropLink (hl : s.link link = some l) : (s.dropLink link).link link = some l.down := by
  rw [State.link, State.dropLink_links]
  exact find?_updateFirst hl (List.find?_some hl :)

theorem linkShutdown_ends (hl : s.link link = some l) (hd : s.sched (16 + link) = some d) (hdown : l.shuttingDown ≠ none)
    (hempty : ∀ q ∈ d.queues, q.items = []) :
    Answers (exec (.functionShutdownComplete 1 (link / 4 * 16 + link % 4)) s) fun t =>
      ∃ y, t.link link = some y ∧ y.up = false ∧ y.shuttingDown = none ∧ y.reenable = l.reenable ∧
        (l.reenable = false → y.gen = l.gen) ∧ (l.reenable = true → y.gen = nextGen l.gen) := by
  have hgo : (l.shuttingDown.isNone || !s.egressEmpty link) = false := by
    rw [(State.egressEmpty_iff hd).mpr hempty]
    simpa [Option.isSome_iff_ne_none] using hdown
  rw [exec_linkShutdownComplete, State.linkDown, hl]
  dsimp only
  rw [hgo, if_neg Bool.false_ne_true]
  refine answers_next ⟨l.down.ended, ?_, rfl, rfl, rfl, fun h => ?_, fun h => ?_⟩
  · refine Eq.trans ?_ (State.link_modLink (f := Link.ended) (s.link_dropLink hl) (State.link_id hl :))
    exact congrArg (fun n : Net => n.links.find? (·.id == link)) ((State.functionDone_same ..).net.eq rfl)
  · have hkept : l.down.reenable = false := h
    rw [Link.ended, hkept]
    rfl
  · have hkept : l.down.reenable = true := h
    rw [Link.ended, hkept]
    rfl

end

/-! ### Slices -/

section
variable {s : State} {slice : Nat}

theorem exec_sliceShutdownComplete : exec (.functionShutdownComplete 2 slice) s = .next (s.sliceDown slice) := rfl

theorem sliceShutdown_waits (hops : ∃ o ∈ s.eng.ops, o.slice = slice) : exec (.functionShutdownComplete 2 slice) s = .next s := by
  have hbusy : s.eng.ops.any (·.slice == slice) = true := by simpa using hops
  rw [exec_sliceShutdownComplete, State.sliceDown, hbusy, Bool.or_true]
  rfl

/-- The node with the shutdown of a slice reported. -/
def State.sliceEnded (s : State) (slice : Nat) : State :=
  (s.putFunction { s.function 2 slice with shutting := false }).functionDone 2 slice 0 (s.function 2 slice).generation 0

theorem State.function_sliceEnded (s : State) (slice : Nat) :
    (s.sliceEnded slice).function 2 slice = { s.function 2 slice with shutting := false } := by
  obtain ⟨hkind, hid⟩ := s.function_named 2 slice
  rw [State.sliceEnded, State.function_of_switches (State.functionDone_switches ..)]
  exact State.function_putFunction hkind hid

theorem State.slicesOff_sliceEnded (s : State) (slice : Nat) : (s.sliceEnded slice).host.slicesOff = s.host.slicesOff :=
  State.slicesOff_of_switches (t := s.sliceEnded slice)
    (s := s.putFunction { s.function 2 slice with shutting := false }) (State.functionDone_switches ..)

theorem exec_sliceShutdown_ends (hdown : (s.function 2 slice).shutting = true) (hops : ∀ o ∈ s.eng.ops, o.slice ≠ slice) :
    exec (.functionShutdownComplete 2 slice) s =
      .next (if (s.function 2 slice).reenable then (s.sliceEnded slice).startSlice slice else s.sliceEnded slice) := by
  have hidle : s.eng.ops.any (·.slice == slice) = false := by simpa using hops
  rw [exec_sliceShutdownComplete, State.sliceDown, hdown, hidle]
  rfl

theorem sliceShutdown_ends (hdown : (s.function 2 slice).shutting = true) (hoff : s.host.slicesOff.contains slice = true)
    (hops : ∀ o ∈ s.eng.ops, o.slice ≠ slice) (hreenable : (s.function 2 slice).reenable = false) :
    Answers (exec (.functionShutdownComplete 2 slice) s) fun t =>
      (t.function 2 slice).shutting = false ∧ slice ∈ t.host.slicesOff ∧ t.store = s.store := by
  rw [exec_sliceShutdown_ends hdown hops, if_neg (by simp [hreenable])]
  refine answers_next ⟨by rw [State.function_sliceEnded], ?_, (State.functionDone_same ..).store.eq rfl⟩
  rw [State.slicesOff_sliceEnded]
  simpa using hoff

theorem sliceShutdown_startsAgain (hdown : (s.function 2 slice).shutting = true)
    (hops : ∀ o ∈ s.eng.ops, o.slice ≠ slice) (hreenable : (s.function 2 slice).reenable = true) :
    Answers (exec (.functionShutdownComplete 2 slice) s) fun t =>
      slice ∉ t.host.slicesOff ∧ (t.function 2 slice).generation = nextGen (s.function 2 slice).generation := by
  rw [exec_sliceShutdown_ends hdown hops, if_pos hreenable]
  refine answers_next ⟨?_, ?_⟩
  · rw [State.startSlice, State.slicesOff_of_switches (State.functionDone_switches ..)]
    exact fun hmem => by simpa using (List.mem_filter.mp hmem).2
  · obtain ⟨hkind, hid⟩ := s.function_named 2 slice
    rw [State.startSlice, State.function_of_switches (State.functionDone_switches ..), State.function_sliceEnded]
    exact congrArg Function_.generation (State.function_putFunction (f := { s.function 2 slice with
      generation := nextGen (s.function 2 slice).generation, shutting := false, reenable := false }) hkind hid)

end

end Sys2Proof.Machine
end

section
/-! O38, the ostlers that stop. A watchdog or a forbidden access restarts one ostler, and what O2 holds ends with it (R350, R353,
R354). -/

namespace Sys2Proof.Machine

/-! ### The end of an operation, but for the requests it held up (R29) -/

section
variable (s : State) (o : Op)

/-- The node without an operation: its charge, its REF and its held work are given back (R89, R167, R254). -/
def State.withoutOp : State :=
  let t := ((s.returnCharge o).unref o).dropHeld (HeldWork.of o.id)
  ({ t with
    eng := { t.eng with ops := t.eng.ops.filter (·.id != o.id) }
    sch := { t.sch with scheds := t.sch.scheds.map fun (d : Sched) => d.discard fun (i : Item) => decide (i = Item.op o.id) } }).stir

/-- The node once an operation has ended and been answered. -/
def State.opEnded (status detail hint : Nat) (body : Bytes) : State :=
  (if o.discarded then (s.withoutOp o).consume o.req.qpn o.req.msn
    else (s.withoutOp o).answerReq o.req o.slice status detail hint body).dropRemoved

theorem State.endOp_eq (status detail hint : Nat) (body : Bytes) : s.endOp o status detail hint body =
    if o.req.mutates then State.runHeldFuel o.req.orderKey ((s.opEnded o status detail hint body).eng.ops.length + 1)
      (s.opEnded o status detail hint body)
    else s.opEnded o status detail hint body := rfl

theorem State.opEnded_same (status detail hint : Nat) (body : Bytes) :
    Same { net := true, sch := true, store := true } (s.withoutOp o) (s.opEnded o status detail hint body) := by
  refine .then (State.dropRemoved_same ..) rfl ?_
  split
  · exact (State.consume_same ..).mono rfl
  · exact (State.answerReq_same ..).mono rfl

theorem State.ops_opEnded (status detail hint : Nat) (body : Bytes) :
    (s.opEnded o status detail hint body).eng.ops = s.eng.ops.filter (·.id != o.id) := by
  rw [(s.opEnded_same o status detail hint body).eng.eq rfl]
  have hheld := (State.dropHeld_same ((s.returnCharge o).unref o) (HeldWork.of o.id)).eng.eq rfl
  have hunref := (State.unref_same (s.returnCharge o) o).eng.eq rfl
  have hcharge := (State.returnCharge_same s o).eng.eq rfl
  change List.filter _ (State.dropHeld ((s.returnCharge o).unref o) (HeldWork.of o.id)).eng.ops = _
  rw [hheld, hunref, hcharge]

theorem State.runHeldFuel_of_ops_nil (h : s.eng.ops = []) (key : Nat × Nat) (fuel : Nat) : State.runHeldFuel key fuel s = s := by
  cases fuel with
  | zero => rfl
  | succ fuel => rw [State.runHeldFuel, h]; rfl

/-- Once the one operation of a node has ended, there is none. -/
theorem State.ops_endOp_of_one (h : s.eng.ops = [o]) (status detail hint : Nat) (body : Bytes) :
    (s.endOp o status detail hint body).eng.ops = [] := by
  have hnone : (s.opEnded o status detail hint body).eng.ops = [] := by
    rw [State.ops_opEnded, h]
    simp
  rw [State.endOp_eq]
  split
  · rw [State.runHeldFuel_of_ops_nil _ hnone, hnone]
  · exact hnone

end

/-! ### An ostler that restarts (R353, R354) -/

section
variable {s : State} {i : Nat} {o : Ostler}

/-- An ostler that is halted: its SRAM and registers are zeroed (R353). -/
def Ostler.halted (times : List Nat) (x : Ostler) : Ostler := { x with
  running := false, restarting := true, restarts := times, probationRestarts := x.probationRestarts + 1
  loaded := [], data := [], regs := List.replicate 32 0 }

/-- The restarts of the last 10 min, this one included. -/
def State.restartsOf (s : State) (o : Ostler) : List Nat := (o.restarts.filter fun t => s.time < t + 600000000000) ++ [s.time]

/-- The node with an ostler halted and its restart counted, before it is logged. -/
def State.ostlerHalted (s : State) (i : Nat) (o : Ostler) : State := (s.haltOstler i).modOstler i (Ostler.halted (s.restartsOf o))

/-- What logging and a failed probation may change. -/
def Mask.logging : Mask := { out := true, boot := true, regs := true, host := true, log := true }

/-- A restart that is not one too many is logged, and may fail a probation (R353). -/
theorem State.restartOstler_logs (ho : s.ostler i = some o) (hruns : o.running = true)
    (hfew : (o.restarts.filter fun t => s.time < t + 600000000000).length ≤ 3) :
    Same .logging (s.ostlerHalted i o) (s.restartOstler i) := by
  have hlen : ¬ 4 < ((o.restarts.filter fun t => s.time < t + 600000000000) ++ [s.time]).length := by
    rw [List.length_append, List.length_singleton]
    omega
  rw [State.restartOstler, ho]
  dsimp only
  rw [hruns, if_neg (by decide), if_neg hlen]
  split
  · exact ((State.note_same (s.ostlerHalted i o) _).mono rfl).trans ((State.failProbation_same ..).mono rfl)
  · exact (State.note_same (s.ostlerHalted i o) _).mono rfl

theorem State.ostler_ostlerHalted (ho : s.ostler i = some o) : (s.ostlerHalted i o).ostler i = some (o.halted (s.restartsOf o)) := by
  have hhalt : (s.haltOstler i).ostler i = some o := by
    rw [State.ostler, (State.haltOstler_same s i).ostlers.eq rfl]
    exact ho
  exact find?_updateFirst hhalt (List.find?_some hhalt :)

/-- An ostler that holds no operation takes nothing of the store and the paddocks with it (R354). -/
theorem State.ostlerHalted_of_noneHeld (h : s.noneHeld i) (o : Ostler) :
    (s.ostlerHalted i o).store = s.store ∧ (s.ostlerHalted i o).pads = s.pads := by
  rw [State.ostlerHalted, State.haltOstler]
  split
  · exact ⟨rfl, rfl⟩
  · split
    · next htwo =>
      have hnone : s.eng.ops.filter Op.needsO2 = [] := by
        rw [List.filter_eq_nil_iff]
        exact fun o ho => by simpa using h.resolve_left (by simpa using htwo) o ho
      rw [hnone]
      exact ⟨rfl, rfl⟩
    · exact ⟨rfl, rfl⟩

/-- A create or fork that O2 holds ends with it (R354). -/
theorem State.ops_ostlerHalted {x : Op} (hops : s.eng.ops = [x]) (hneeds : x.needsO2 = true) (o : Ostler) :
    (s.ostlerHalted 2 o).eng.ops = [] := by
  have hfilter : s.eng.ops.filter Op.needsO2 = [x] := by rw [hops, List.filter_cons, hneeds]; rfl
  have hop : s.op x.id = some x := by rw [State.op, hops]; simp
  have hhalt : s.haltOstler 2 = s.failOp x St.degradedRetry 0 0 := by
    rw [State.haltOstler, hfilter]
    simp [hop]
  rw [State.ostlerHalted, hhalt]
  exact s.ops_endOp_of_one x hops ..

/-- What a restart leaves of an ostler (R353). -/
theorem State.ostler_restartOstler (ho : s.ostler i = some o) (hruns : o.running = true)
    (hfew : (o.restarts.filter fun t => s.time < t + 600000000000).length ≤ 3) :
    (s.restartOstler i).ostler i = some (o.halted (s.restartsOf o)) := by
  rw [State.ostler, (State.restartOstler_logs ho hruns hfew).ostlers.eq rfl]
  exact State.ostler_ostlerHalted ho

theorem State.mem_restartsOf (s : State) (o : Ostler) : s.time ∈ s.restartsOf o :=
  List.mem_append_right _ (List.mem_singleton.mpr rfl)

/-- What an ostler's restart leaves: itself, the store and the paddocks where it holds no operation, and the memory. -/
structure Restarted (s t : State) (i : Nat) : Prop where
  ostler : ∃ x, t.ostler i = some x ∧ x.running = false ∧ x.restarting = true ∧ s.time ∈ x.restarts
  kept : s.noneHeld i → t.store = s.store ∧ t.pads = s.pads
  mem : t.mem = s.mem
  ops : ∀ x, i = 2 → s.eng.ops = [x] → x.needsO2 = true → t.eng.ops = []

theorem State.restartOstler_restarted (ho : s.ostler i = some o) (hruns : o.running = true)
    (hfew : (o.restarts.filter fun t => s.time < t + 600000000000).length ≤ 3) : Restarted s (s.restartOstler i) i := by
  have hlogs := State.restartOstler_logs ho hruns hfew
  have hhalt : (s.ostlerHalted i o).mem = s.mem := (State.haltOstler_same s i).mem.eq rfl
  refine ⟨⟨_, State.ostler_restartOstler ho hruns hfew, rfl, rfl, s.mem_restartsOf o⟩, fun hnone => ?_,
    (hlogs.mem.eq rfl).trans hhalt, fun x hi hops hneeds => ?_⟩
  · obtain ⟨hstore, hpads⟩ := State.ostlerHalted_of_noneHeld hnone o
    exact ⟨(hlogs.store.eq rfl).trans hstore, (hlogs.pads.eq rfl).trans hpads⟩
  · subst hi
    rw [hlogs.eng.eq rfl]
    exact State.ops_ostlerHalted hops hneeds o

/-- The same after a step that neither stops an ostler nor takes anything of the store. -/
theorem Restarted.of_same {t u : State} {m : Mask} (h : Restarted t u i) (hsame : Same m s t) (hm : m.ostlers = false ∧ m.time = false ∧
    m.eng = false ∧ m.store = false ∧ m.pads = false ∧ m.mem = false) : Restarted s u i := by
  obtain ⟨hostlers, htime, heng, hstore, hpads, hmem⟩ := hm
  have heng := hsame.eng.eq heng
  refine ⟨?_, fun hnone => ?_, h.mem.trans (hsame.mem.eq hmem), fun x hi hops => h.ops x hi (heng ▸ hops)⟩
  · rw [← hsame.time.eq htime]
    exact h.ostler
  · obtain ⟨hst, hpd⟩ := h.kept (hnone.imp_right fun hops => heng ▸ hops)
    exact ⟨hst.trans (hsame.store.eq hstore), hpd.trans (hsame.pads.eq hpads)⟩

/-- FAULT_SEQ has no part in it. -/
theorem Restarted.withMaps {t : State} (h : Restarted s t i) (m : Maps) : Restarted s { t with maps := m } i :=
  ⟨h.ostler, h.kept, h.mem, h.ops⟩

theorem watchdogExpiry_restarts (ho : s.ostler i = some o) (hruns : o.running = true)
    (hfew : (o.restarts.filter fun t => s.time < t + 600000000000).length ≤ 3) :
    Answers (exec (.watchdogExpiry i) s) fun t => Restarted s t i := by
  have hwake := State.wake_same s 4 0
  have ho' : (s.wake 4 0).ostler i = some o := by rw [State.ostler, hwake.ostlers.eq rfl]; exact ho
  have hfew' : (o.restarts.filter fun t => (s.wake 4 0).time < t + 600000000000).length ≤ 3 := by rwa [hwake.time.eq rfl]
  change Answers (s.finish ((s.wake 4 0).restartOstler i)) _
  refine answers_finish fun m => ?_
  exact ((State.restartOstler_restarted ho' hruns hfew').of_same hwake ⟨rfl, rfl, rfl, rfl, rfl, rfl⟩).withMaps m

/-- An access that the ostler's regions do not permit restarts it (R350). -/
theorem protectionViolation_follows (ho : s.ostler i = some o) (hruns : o.running = true)
    (hfew : (o.restarts.filter fun t => s.time < t + 600000000000).length ≤ 3) :
    (∀ a, o.permits a = true → exec (.protectionViolation i a) s = .next s) ∧
    (∀ a, o.permits a = false → Answers (exec (.protectionViolation i a) s) fun t => Restarted s t i) := by
  refine ⟨fun a hpermits => ?_, fun a hpermits => ?_⟩
  · change execProtectionViolation i a s = _
    rw [execProtectionViolation, ho]
    dsimp only
    rw [hpermits, Bool.or_true]
    rfl
  · obtain ⟨e, hexec⟩ : ∃ e, exec (.protectionViolation i a) s = s.finish (((s.wake 4 0).note e).restartOstler i) := by
      change ∃ e, execProtectionViolation i a s = _
      rw [execProtectionViolation, ho]
      dsimp only
      rw [hpermits, hruns]
      exact ⟨_, rfl⟩
    have hsame : Same { out := true, regs := true, host := true, log := true, pwr := true } s ((s.wake 4 0).note e) :=
      ((State.wake_same s 4 0).mono rfl).trans ((State.note_same ..).mono rfl)
    have ho' : ((s.wake 4 0).note e).ostler i = some o := by rw [State.ostler, hsame.ostlers.eq rfl]; exact ho
    have hfew' : (o.restarts.filter fun t => ((s.wake 4 0).note e).time < t + 600000000000).length ≤ 3 := by
      rwa [hsame.time.eq rfl]
    rw [hexec]
    refine answers_finish fun m => ?_
    exact ((State.restartOstler_restarted ho' hruns hfew').of_same hsame ⟨rfl, rfl, rfl, rfl, rfl, rfl⟩).withMaps m

end

end Sys2Proof.Machine
end

section
/-! O38, the reports. An error report is logged or waits, and one of a tag mismatch discards what made the access (R271, R353, R354,
R365). -/

namespace Sys2Proof.Machine

/-! ### Records (R365, R366) -/

theorem bit_eq_testBit (n k : Nat) : bit n k = n.testBit k := by
  rw [bit, Nat.testBit_eq_decide_div_mod_eq]
  exact (decide_eq_decide.mpr Iff.rfl).symm ▸ rfl

theorem bit_lor_two_pow (n k : Nat) : bit (Nat.lor n (2 ^ k)) k = true := by
  rw [bit_eq_testBit]
  exact (Nat.testBit_or n (2 ^ k) k).trans (by rw [Nat.testBit_two_pow_self, Bool.or_true])

theorem State.errSummary_sets (s : State) (b : Nat) : bit (s.errSummary b).log.summary b = true := by
  rw [State.errSummary]
  exact (congrArg (fun l : Log => bit l.summary b) ((State.eventBit_same ..).log.eq rfl)).trans (bit_lor_two_pow ..)

/-- What waits for O5, and the count of what was lost (R354). -/
def Log.waits (l : Log) : List (ErrRep × Nat) × Nat := (l.queue, l.lostReports)

theorem Log.waits_retain (l : Log) (r : LogRec) : (l.retain r).waits = l.waits := by
  rw [Log.retain]
  split
  · rfl
  · split <;> rfl

theorem Log.waits_count (l : Log) (severity : Nat) : (l.count severity).waits = l.waits := by
  unfold Log.count
  split <;> rfl

theorem State.errSummary_waits (s : State) (b : Nat) : (s.errSummary b).log.waits = s.log.waits := by
  rw [State.errSummary]
  exact (congrArg Log.waits ((State.eventBit_same ..).log.eq rfl)).trans rfl

/-- The record that a report becomes (R366). -/
def State.recordOf (s : State) (e : ErrRep) (detected : Nat) : LogRec :=
  ⟨detected, s.log.nextSeq, min e.severity 3, e.unitKind, e.code, e.paddock, s.sealedPad e.paddock, e.unit, 1,
    e.address, e.object, if e.data.isEmpty then Config.errorData e.code s.log.nextSeq else e.data⟩

section
variable (s : State) (e : ErrRep) (detected : Nat)

/-- The log once a report has become a record (R365, R366). -/
theorem State.addRecord_log : ∃ l : Log, (s.addRecord e detected).log = l ∧ bit l.summary (min e.severity 3) = true ∧
    l.waits = s.log.waits ∧ l.records = (if (s.log.records ++ [s.recordOf e detected]).length > 65536
      then (s.log.records ++ [s.recordOf e detected]).drop 1
      else s.log.records ++ [s.recordOf e detected]) := by
  refine ⟨_, rfl, ?_⟩
  rw [State.addRecord]
  dsimp only
  split
  · rw [(State.notify_same ..).log.eq rfl]
    refine ⟨State.errSummary_sets .., ?_, ?_⟩
    · rw [State.errSummary_waits, Log.waits_count, Log.waits_retain]
      rfl
    · rw [State.errSummary_records, Log.records_count, Log.records_retain]
      rfl
  · refine ⟨State.errSummary_sets .., ?_, ?_⟩
    · rw [State.errSummary_waits, Log.waits_count, Log.waits_retain]
      rfl
    · rw [State.errSummary_records, Log.records_count, Log.records_retain]
      rfl

theorem State.records_addRecord_last : (s.addRecord e detected).log.records.getLast? = some (s.recordOf e detected) := by
  obtain ⟨l, hl, -, -, hrecords⟩ := s.addRecord_log e detected
  rw [hl, hrecords]
  split
  · next hlong =>
    rw [List.getLast?_drop, if_neg (by omega), List.getLast?_append]
    rfl
  · rw [List.getLast?_append]
    rfl

end

/-! ### Tag mismatches (R271) -/

section
variable (s : State)

theorem State.seqs_breakStep (op status : Nat) : (s.breakStep op status).store.seqs = s.store.seqs := by
  rw [State.breakStep]
  split
  · rfl
  · next o _ =>
    split
    · rw [(State.markIdle_same ..).store.eq rfl]
      change ((s.dropHeld (HeldWork.readOf op)).dropAppend o).store.seqs = s.store.seqs
      rw [State.dropAppend]
      split
      · rfl
      · split <;> rfl
    · rfl

theorem State.seqs_breakSteps (p : Op → Bool) (status : Nat) : (s.breakSteps p status).store.seqs = s.store.seqs :=
  foldl_keeps (f := fun (t : State) (o : Op) => t.breakStep o.id status) (g := fun t : State => t.store.seqs)
    (fun _ _ => State.seqs_breakStep ..) ..

theorem State.seqs_tagMismatch (e : ErrRep) : (s.tagMismatch e).store.seqs = s.store.seqs := by
  rw [State.tagMismatch]
  dsimp only
  rw [(State.afterUnits_same ..).store.eq rfl, State.seqs_breakSteps]
  split <;> rfl

/-- A connection's packet whose tag does not match is discarded. -/
theorem State.discards_tagMismatch (e : ErrRep) :
    (s.tagMismatch e).net.discards = s.net.discards + (if e.unitKind = 9 then 1 else 0) := by
  rw [State.tagMismatch]
  dsimp only
  rw [(State.afterUnits_same ..).net.eq rfl, (State.breakSteps_same ..).net.eq rfl]
  by_cases h : e.unitKind = 9
  · simp [h]
    rfl
  · simp [h]
    rfl

/-- A step of the sequence that the report names ends. -/
theorem State.op_tagMismatch {e : ErrRep} {x : Op} (hops : s.eng.ops = [x]) (hphase : x.phase = .admitted)
    (hstep : x.step.isSome = true) (hpaddock : x.req.paddock = e.paddock) (hseq : x.req.seq = e.object) (hstatus : x.status = St.ok) :
    ∃ y, (s.tagMismatch e).op x.id = some y ∧ y.status = St.degradedRetry := by
  have hsuspect : (s.suspectUnit e.unitKind e.unit).eng.ops = [x] := hops
  rw [State.tagMismatch]
  dsimp only
  generalize hu : (if e.unitKind == 9 then _ else s.suspectUnit e.unitKind e.unit) = u
  have hops : u.eng.ops = [x] := by rw [← hu]; split <;> exact hsuspect
  have hop : u.op x.id = some x := by rw [State.op, hops]; simp
  obtain ⟨y, hy, hbroken⟩ := State.broken_of_opCores (State.opCores_afterUnits ..)
    (State.op_breakSteps (p := fun o => o.req.paddock == e.paddock && o.req.seq == e.object) (status := St.degradedRetry) hop
      hstep hphase hstatus (by simp [hpaddock, hseq]) (by decide))
  exact ⟨y, hy, hbroken.1⟩

end

/-! ### ERROR_REPORT (R365) -/

section
variable {s : State} {e : ErrRep}

theorem State.op_withMaps (t : State) (m : Maps) (i : Nat) : ({ t with maps := m } : State).op i = t.op i := rfl

theorem exec_errorReport (hkind : e.unitKind ≠ 4) : exec (.errorReport e) s =
    if s.restarting 5 then s.finish ((s.wake 4 0).report e) else s.finish ((s.wake 4 0).handleReport e) := by
  have hown : s.ownFrame e = e := by
    rw [State.ownFrame]
    exact if_neg (by simpa using hkind)
  change execErrorReport e s = _
  rw [execErrorReport, hown]

theorem State.handleReport_eq (hsev : e.severity ≤ 2) (hkind : e.unitKind ≠ 4) (detected : Nat) :
    s.handleReport e detected = (s.logReport e detected).repairUnit e := by
  have hnot : (e.unitKind == 4) = false := by simpa using hkind
  rw [State.handleReport, hnot, Bool.false_and, Bool.false_and, if_neg Bool.false_ne_true, State.handleError, if_pos (by omega)]

theorem State.repairUnit_mismatch (hsev : e.severity ≤ 2) (hkind : e.unitKind ≠ 1) (hcode : e.code = 0x5001) :
    s.repairUnit e = s.tagMismatch e := by
  have hnot : ¬ (e.severity == 3) = true := by simp; omega
  rw [State.repairUnit, if_neg hnot, if_pos (by simpa [hcode] using hkind)]

theorem State.repairUnit_none (hsev : e.severity ≤ 2) (hcluster : e.unitKind ≠ 1) (hframe : e.unitKind ≠ 4)
    (hcode : e.code ≠ 0x5001) :
    s.repairUnit e = s := by
  have hnot : ¬ (e.severity == 3) = true := by simp; omega
  rw [State.repairUnit, if_neg hnot, if_neg (by simp [hcode]), if_neg (by simpa using hframe), if_neg (by simp [hcluster])]

theorem errorReport_mismatch (hsev : e.severity ≤ 2) (hcluster : e.unitKind ≠ 1) (hframe : e.unitKind ≠ 4) (hcode : e.code = 0x5001)
    (hruns : s.restarting 5 = false) : Answers (exec (.errorReport e) s) fun t =>
      t.net.discards = s.net.discards + (if e.unitKind = 9 then 1 else 0) ∧ t.store.seqs = s.store.seqs ∧
      ∀ x, s.eng.ops = [x] → x.phase = .admitted → x.step.isSome = true → x.req.paddock = e.paddock → x.req.seq = e.object →
        x.status = St.ok → ∃ y, t.op x.id = some y ∧ y.status = St.degradedRetry := by
  have hsame : Same { out := true, regs := true, host := true, log := true, pwr := true } s
      ((s.wake 4 0).logReport e (s.wake 4 0).time) :=
    ((State.wake_same s 4 0).mono rfl).trans ((State.logReport_same ..).mono rfl)
  rw [exec_errorReport hframe, if_neg (by simp [hruns]), State.handleReport_eq hsev hframe,
    State.repairUnit_mismatch hsev hcluster hcode]
  generalize (s.wake 4 0).logReport e (s.wake 4 0).time = u at hsame ⊢
  have hdiscards := u.discards_tagMismatch e
  have hseqs := u.seqs_tagMismatch e
  rw [hsame.net.eq rfl] at hdiscards
  rw [hsame.store.eq rfl] at hseqs
  refine answers_finish fun m => ⟨hdiscards, hseqs, fun x hops hphase hstep hpaddock hseq hstatus => ?_⟩
  rw [← hsame.eng.eq rfl] at hops
  obtain ⟨y, hy, hdegraded⟩ := u.op_tagMismatch hops hphase hstep hpaddock hseq hstatus
  exact ⟨y, (State.op_withMaps ..).trans hy, hdegraded⟩

theorem errorReport_logs (hsev : e.severity ≤ 2) (hcluster : e.unitKind ≠ 1) (hframe : e.unitKind ≠ 4) (hcode : e.code ≠ 0x5001)
    (hruns : s.restarting 5 = false) (hnone : s.log.records = []) : Answers (exec (.errorReport e) s) fun t =>
      (∃ r, t.log.records = [r] ∧ r.severity = e.severity ∧ r.code = e.code ∧ r.time = s.time ∧ r.address = e.address) ∧
      bit t.log.summary e.severity = true ∧ t.store = s.store := by
  have hwake := State.wake_same s 4 0
  have hlog : (s.wake 4 0).log.records = [] := by rw [hwake.log.eq rfl]; exact hnone
  have hadds : (s.wake 4 0).logReport e (s.wake 4 0).time = (s.wake 4 0).addRecord e (s.wake 4 0).time := by
    rw [State.logReport, hlog]
    rfl
  have hmin : min e.severity 3 = e.severity := by omega
  obtain ⟨l, hl, hbit, -, hrecords⟩ := (s.wake 4 0).addRecord_log e (s.wake 4 0).time
  rw [hlog] at hrecords
  rw [exec_errorReport hframe, if_neg (by simp [hruns]), State.handleReport_eq hsev hframe,
    State.repairUnit_none hsev hcluster hframe hcode, hadds]
  refine answers_finish fun m => ⟨⟨(s.wake 4 0).recordOf e (s.wake 4 0).time, ?_, hmin, rfl, hwake.time.eq rfl, rfl⟩, ?_, ?_⟩
  · exact (congrArg Log.records hl).trans hrecords
  · rw [hmin] at hbit
    exact (congrArg (fun l : Log => bit l.summary e.severity) hl).trans hbit
  · exact ((State.addRecord_same ..).store.eq rfl).trans (hwake.store.eq rfl)

theorem errorReport_waits (hframe : e.unitKind ≠ 4) (hruns : s.restarting 5 = true) (hroom : s.log.queue.length < 1024) :
    Answers (exec (.errorReport e) s) fun t =>
      t.log.queue = s.log.queue ++ [(e, s.time)] ∧ t.log.records = s.log.records ∧ t.store = s.store := by
  have hwake := State.wake_same s 4 0
  have hruns' : (s.wake 4 0).restarting 5 = true := by rw [State.restarting, hwake.ostlers.eq rfl]; exact hruns
  have hroom' : (s.wake 4 0).log.queue.length < 1024 := by rw [hwake.log.eq rfl]; exact hroom
  rw [exec_errorReport hframe, if_pos hruns, State.report, if_pos hruns', State.queueReport, if_pos hroom']
  have hrecords := congrArg Log.records (hwake.log.eq rfl)
  refine answers_finish fun m => ⟨?_, hrecords, hwake.store.eq rfl⟩
  change (s.wake 4 0).log.queue ++ [(e, (s.wake 4 0).time)] = _
  rw [hwake.log.eq rfl, hwake.time.eq rfl]

end

theorem shutdownsEndAndErrorsAreHandled : Claims.ShutdownsEndAndErrorsAreHandled := by
  refine ⟨fun link s l d hl hd _ => ⟨fun at_ hat => portEgressDiscard_discards hl hd hat, linkShutdown_ends hl hd,
      fun _ => linkShutdown_waits hl hd⟩,
    fun slice s hdown hoff => ⟨sliceShutdown_waits, sliceShutdown_ends hdown hoff, sliceShutdown_startsAgain hdown⟩,
    fun i s o ho hruns hfew => ?_,
    fun e s hsev hcluster hframe => ⟨errorReport_mismatch hsev hcluster hframe, errorReport_logs hsev hcluster hframe,
      errorReport_waits hframe⟩⟩
  obtain ⟨t, ht, hrestarted⟩ := watchdogExpiry_restarts ho hruns hfew
  obtain ⟨hpermitted, hforbidden⟩ := protectionViolation_follows ho hruns hfew
  refine ⟨⟨t, ht, hrestarted.ostler, hrestarted.kept⟩, hpermitted, fun a ha => ?_,
    fun x hi hops hneeds => ⟨t, ht, hrestarted.ops x hi hops hneeds⟩⟩
  obtain ⟨u, hu, hviolated⟩ := hforbidden a ha
  obtain ⟨x, hx, hstops, hagain, -⟩ := hviolated.ostler
  exact ⟨u, hu, ⟨x, hx, hstops, hagain⟩, hviolated.mem, fun hnone => (hviolated.kept hnone).1⟩

end Sys2Proof.Machine
end

section
/-! O38, the ostlers that come back. An ostler runs again when its restart ends, with what O3 and O5 left undone (R353, R354,
R368). -/

namespace Sys2Proof.Machine

/-! ### Leases that returned while O3 was down (R179) -/

section
variable (s : State)

theorem State.scrubbed_keepsPads (b : BlockRef) : KeepsPads s (s.scrubbed b) := by
  rw [State.scrubbed]
  split
  · exact .refl s
  · exact State.markLost_keepsPads ..

theorem State.compacted_keepsPads (frames : List Nat) (b : BlockRef) : KeepsPads s (s.compacted frames b) := by
  rw [State.compacted]
  split
  · exact .refl s
  · split
    · exact .refl s
    · split
      · exact .refl s
      · next p t halloc =>
        have ht : KeepsPads s t := .of_frame ((State.allocWithin_same ..).of _ halloc) rfl rfl rfl rfl
        dsimp only
        split
        · exact ht.trans (State.markLost_keepsPads ..)
        · refine ht.trans (.trans (.trans ?_ (State.resealNamers_keepsPads ..)) (State.freeOld_keepsPads ..))
          exact .of_eq rfl rfl rfl rfl

theorem State.programEffect_keepsPads (l : Lease) (done : List Nat) (r : ProgramResult) : KeepsPads s (s.programEffect l done r) := by
  rw [State.programEffect]
  dsimp only
  split
  · split
    · exact .refl s
    · exact .foldl (fun _ _ => State.scrubbed_keepsPads ..) ..
  · split
    · exact .refl s
    · exact .foldl (fun _ _ => State.compacted_keepsPads ..) ..
  · split
    · exact .refl s
    · exact .foldl (fun _ _ => .of_frame (State.summarised_same ..) rfl rfl rfl rfl) ..
  · exact .of_eq rfl rfl rfl rfl
  · exact .refl s

theorem State.completeLease_keepsPads (l : Lease) : KeepsPads s (s.completeLease l) := by
  rw [State.completeLease]
  refine .trans ?_ (.foldl (fun _ _ => State.retireFrame_keepsPads ..) ..)
  split
  · exact .of_eq rfl rfl rfl rfl
  · refine .trans ?_ (.of_frame (State.rechore_same ..) rfl rfl rfl rfl)
    refine .trans (.trans ?_ (State.tally_keepsPads ..)) (State.programEffect_keepsPads ..)
    exact .of_eq rfl rfl rfl rfl

theorem State.readReturned_keepsPads : KeepsPads s s.readReturned := .foldl (fun _ _ => State.completeLease_keepsPads ..) ..

end

/-! ### An ostler that starts (R353) -/

section
variable {s : State} {o : Nat}

/-- The bundle that is staged. -/
def State.staged (s : State) : Bytes := (s.boot.bundle.map (·.2)).getD []

/-- The node with an ostler running again. -/
def State.ostlerBack (s : State) (o : Nat) : State := (s.startOstler s.staged o).stir

/-- What the ostler that is back makes up for (R354). -/
def State.madeUp (t : State) (o : Nat) : State :=
  match o with
  | 5 => t.drainErrors
  | 2 => t.restartStaging
  | 3 => t.readReturned
  | 7 => (t.serveWaiting).postNotice
  | _ => t

/-- A restart that a command asked for is reported, under the next generation (R368). -/
def State.restartReported (t : State) (o : Nat) : State :=
  let f := t.function 3 o
  if f.reenable then
    let t := if f.shutting then t.functionDone 3 o 0 f.generation 0 else t
    (t.putFunction { f with generation := nextGen f.generation, shutting := false, reenable := false }).functionDone 3 o 0
      (nextGen f.generation) 1
  else t

theorem exec_ostlerRestartComplete (h : s.restarting o = true) : exec (.ostlerRestartComplete o) s =
    s.finish (((s.ostlerBack o).madeUp o).restartReported o) := by
  change execOstlerRestartComplete o s = _
  rw [execOstlerRestartComplete, h, State.restartReported]
  dsimp only
  rw [if_neg (by decide)]
  exact (apply_ite s.finish _ _ _).symm

theorem State.restartReported_same (t : State) (o : Nat) : Same { out := true, regs := true, host := true } t (t.restartReported o) := by
  rw [State.restartReported]
  dsimp only
  split
  · refine .then (State.functionDone_same ..) rfl (Same.update ?_)
    split
    · exact State.functionDone_same ..
    · exact .refl _ t
  · exact .refl _ t

theorem State.function_restartReported {t : State} (h : (t.function 3 o).reenable = true) :
    ((t.restartReported o).function 3 o).generation = nextGen (t.function 3 o).generation ∧
    ((t.restartReported o).function 3 o).shutting = false := by
  obtain ⟨hkind, hid⟩ := t.function_named 3 o
  have hput (u : State) := State.function_putFunction (s := u) (f := { t.function 3 o with
    generation := nextGen (t.function 3 o).generation, shutting := false, reenable := false }) hkind hid
  rw [State.restartReported]
  dsimp only
  rw [if_pos h, State.function_of_switches (State.functionDone_switches ..)]
  exact ⟨congrArg Function_.generation (hput _), congrArg Function_.shutting (hput _)⟩

theorem State.ostlerBack_same (s : State) (o : Nat) : Same { ostlers := true, pwr := true } s (s.ostlerBack o) :=
  .then (State.stir_same ..) rfl ((State.startOstler_same ..).mono rfl)

/-- Where ostlers have distinct numbers, the one that started restarts no more. -/
theorem State.restarting_ostlerBack (hnodup : (s.ostlers.map (·.id)).Nodup) : (s.ostlerBack o).restarting o = false := by
  have hmap := updateFirst_eq_map (key := Ostler.id) (k := o) (f := fun x : Ostler => { x with
    regions := s.img.firmware.regions.filter (·.ostler == o), loaded := bundleParts s.staged o
    data := [], regs := List.replicate 32 0, running := true, restarting := false }) hnodup
  have hostlers : (s.ostlerBack o).ostlers = _ := hmap
  rw [State.restarting, hostlers, List.any_eq_false]
  intro x hx
  obtain ⟨y, -, rfl⟩ := List.mem_map.mp hx
  by_cases hy : (y.id == o) = true
  · simp [hy]
  · simp [hy]

/-- What a started ostler holds (R351, R353). -/
theorem State.ostler_ostlerBack (h : s.restarting o = true) : ∃ x, (s.ostlerBack o).ostler o = some x ∧ x.running = true ∧
    x.data = [] ∧ x.loaded = bundleParts s.staged o := by
  obtain ⟨y, hy, hid⟩ := List.any_eq_true.mp h
  obtain ⟨x, hx⟩ := Option.isSome_iff_exists.mp
    (List.find?_isSome.mpr ⟨y, hy, (Bool.and_eq_true_iff.mp hid).1⟩ : (s.ostlers.find? (·.id == o)).isSome = true)
  exact ⟨_, find?_updateFirst hx (List.find?_some hx :), rfl, rfl, rfl⟩

/-! ### What is made up for (R354) -/

/-- But for O5 and O7, what an ostler makes up for changes no ostler, no boot state and no function; but for O3, no sequence. -/
theorem State.madeUp_keeps (t : State) (ho : o ∉ [5, 7]) : (t.madeUp o).ostlers = t.ostlers ∧ (t.madeUp o).boot = t.boot ∧
    (t.madeUp o).host.switches = t.host.switches ∧ (o ≠ 3 → (t.madeUp o).store = t.store) := by
  unfold State.madeUp
  split
  · exact absurd (by simp) ho
  · have hsame := t.restartStaging_same
    exact ⟨hsame.ostlers.eq rfl, hsame.boot.eq rfl, congrArg Host_.switches (hsame.host.eq rfl), fun _ => hsame.store.eq rfl⟩
  · have hsame := t.readReturned_same
    exact ⟨hsame.ostlers.eq rfl, hsame.boot.eq rfl, t.readReturned_keepsPads.switches, fun h => absurd rfl h⟩
  · exact absurd (by simp) ho
  · exact ⟨rfl, rfl, rfl, fun _ => rfl⟩

theorem ostlerRestartComplete_runsAgain (hnodup : (s.ostlers.map (·.id)).Nodup) (h : s.restarting o = true) (ho : o ∉ [5, 7]) :
    Answers (exec (.ostlerRestartComplete o) s) fun t =>
      t.restarting o = false ∧ (∃ x, t.ostler o = some x ∧ x.running = true ∧ x.data = [] ∧
        x.loaded = bundleParts ((s.boot.bundle.map (·.2)).getD []) o) ∧
      (∀ k, k ≠ o → t.ostler k = s.ostler k) ∧ (o ≠ 3 → t.store.seqs = s.store.seqs) ∧ t.boot = s.boot ∧
      ((s.function 3 o).reenable = true → (t.function 3 o).generation = ((s.function 3 o).generation + 1) % 2 ^ 32 ∧
        (t.function 3 o).shutting = false) := by
  have hback := s.ostlerBack_same o
  obtain ⟨hmostlers, hmboot, hmswitches, hmstore⟩ := State.madeUp_keeps (s.ostlerBack o) ho
  have hreported := ((s.ostlerBack o).madeUp o).restartReported_same o
  have hostlers := (hreported.ostlers.eq rfl).trans hmostlers
  have hostler (k : Nat) : (((s.ostlerBack o).madeUp o).restartReported o).ostler k = (s.ostlerBack o).ostler k :=
    congrArg (List.find? fun x : Ostler => x.id == k) hostlers
  have hboot := (hreported.boot.eq rfl).trans (hmboot.trans (hback.boot.eq rfl))
  have hfunction : ((s.ostlerBack o).madeUp o).function 3 o = s.function 3 o :=
    State.function_of_switches (hmswitches.trans (congrArg Host_.switches (hback.host.eq rfl))) ..
  rw [exec_ostlerRestartComplete h]
  refine answers_finish fun m => ⟨?_, ?_, fun k hk => ?_, fun hthree => ?_, hboot, fun hreenable => ?_⟩
  · exact (congrArg (List.any · fun x : Ostler => x.id == o && x.restarting) hostlers).trans (State.restarting_ostlerBack hnodup)
  · obtain ⟨x, hx, hruns⟩ := State.ostler_ostlerBack h
    exact ⟨x, (hostler o).trans hx, hruns⟩
  · exact (hostler k).trans (State.ostler_startOstler_of_ne _ hk)
  · exact congrArg Store.seqs ((hreported.store.eq rfl).trans ((hmstore hthree).trans (hback.store.eq rfl)))
  · have hdone := State.function_restartReported (o := o) (hfunction ▸ hreenable)
    rw [hfunction] at hdone
    exact hdone

/-! ### O5 (R354, R365) -/

theorem State.logReport_uncorrected (t : State) {e : ErrRep} (hsev : e.severity ≠ 0) (detected : Nat) :
    t.logReport e detected = t.addRecord e detected := by
  have hnone : t.log.records.find? (fun r => r.coalesces e detected) = none := by
    rw [List.find?_eq_none]
    intro r _
    simp [LogRec.coalesces, hsev]
  rw [State.logReport, hnone]

/-- A report of a connection is logged when O5 is back; the repair leaves the log and the ostlers. -/
theorem State.handleReport_logs (t : State) {e : ErrRep} (hsev : e.severity = 1) (hkind : e.unitKind = 9) (detected : Nat) :
    (t.handleReport e detected).log = (t.addRecord e detected).log ∧ (t.handleReport e detected).ostlers = t.ostlers := by
  have hostlers := (State.addRecord_same t e detected).ostlers.eq rfl
  rw [State.handleReport_eq (by omega) (by omega), t.logReport_uncorrected (by omega)]
  by_cases hcode : e.code = 0x5001
  · rw [State.repairUnit_mismatch (by omega) (by omega) hcode]
    have hsame := State.tagMismatch_same (t.addRecord e detected) e
    exact ⟨hsame.log.eq rfl, (hsame.ostlers.eq rfl).trans hostlers⟩
  · rw [State.repairUnit_none (by omega) (by omega) (by omega) hcode]
    exact ⟨rfl, hostlers⟩

/-- The node when O5 has taken over what waited for it. -/
def State.waitsTaken (t : State) : State := { t with log := { t.log with queue := [], lostReports := 0 } }

theorem State.drainErrors_eq (t : State) : t.drainErrors =
    if t.log.lostReports == 0 then t.log.queue.foldl (fun t x => t.handleReport x.1 x.2) t.waitsTaken
    else (t.log.queue.foldl (fun t x => t.handleReport x.1 x.2) t.waitsTaken).note
      ⟨1, 7, 0x5006, 0, 5, 0, 0, toLe 8 t.log.lostReports⟩ := rfl

theorem State.log_ostlerBack (s : State) (o : Nat) : (s.ostlerBack o).log = s.log := (s.ostlerBack_same o).log.eq rfl

/-- What O5's return shows in the log and of the ostlers shows at the end of its restart. -/
theorem exec_ostlerRestartComplete_five {P : Log → List Ostler → Prop} (h : s.restarting 5 = true)
    (hP : P (s.ostlerBack 5).drainErrors.log (s.ostlerBack 5).drainErrors.ostlers) :
    Answers (exec (.ostlerRestartComplete 5) s) fun t => P t.log t.ostlers := by
  have hreported := ((s.ostlerBack 5).madeUp 5).restartReported_same 5
  rw [exec_ostlerRestartComplete h]
  refine answers_finish fun m => ?_
  dsimp only
  rw [hreported.log.eq rfl, hreported.ostlers.eq rfl]
  exact hP

theorem errorRestart_logsQueue {e : ErrRep} {at_ : Nat} (hnodup : (s.ostlers.map (·.id)).Nodup) (h : s.restarting 5 = true)
    (hqueue : s.log.queue = [(e, at_)]) (hlost : s.log.lostReports = 0) (hsev : e.severity = 1) (hkind : e.unitKind = 9) :
    Answers (exec (.ostlerRestartComplete 5) s) fun t =>
      t.restarting 5 = false ∧ t.log.queue = [] ∧ ∃ r, t.log.records.getLast? = some r ∧ r.code = e.code ∧
        r.severity = 1 ∧ r.time = at_ := by
  refine exec_ostlerRestartComplete_five (P := fun l os => (os.any fun x => x.id == 5 && x.restarting) = false ∧ l.queue = [] ∧
    ∃ r, l.records.getLast? = some r ∧ r.code = e.code ∧ r.severity = 1 ∧ r.time = at_) h ?_
  have hdrain : (s.ostlerBack 5).drainErrors = (s.ostlerBack 5).waitsTaken.handleReport e at_ := by
    rw [State.drainErrors_eq, s.log_ostlerBack, hqueue, hlost]
    rfl
  obtain ⟨hlog, hostlers⟩ := (s.ostlerBack 5).waitsTaken.handleReport_logs hsev hkind at_
  obtain ⟨l, hl, -, hwaits, -⟩ := (s.ostlerBack 5).waitsTaken.addRecord_log e at_
  rw [hdrain, hlog, hostlers]
  refine ⟨State.restarting_ostlerBack hnodup, ?_, _, State.records_addRecord_last .., rfl, ?_, rfl⟩
  · rw [hl]
    exact congrArg Prod.fst hwaits
  · change min e.severity 3 = 1
    omega

theorem errorRestart_logsLosses (hnodup : (s.ostlers.map (·.id)).Nodup) (h : s.restarting 5 = true) (hqueue : s.log.queue = [])
    (hlost : 0 < s.log.lostReports) : Answers (exec (.ostlerRestartComplete 5) s) fun t =>
      t.log.lostReports = 0 ∧ ∃ r, t.log.records.getLast? = some r ∧ r.code = 0x5006 ∧ r.data = toLe 8 s.log.lostReports := by
  refine exec_ostlerRestartComplete_five (P := fun l _ => l.lostReports = 0 ∧
    ∃ r, l.records.getLast? = some r ∧ r.code = 0x5006 ∧ r.data = toLe 8 s.log.lostReports) h ?_
  have hpos : (s.log.lostReports == 0) = false := by simp; omega
  have hdrain : (s.ostlerBack 5).drainErrors = (s.ostlerBack 5).waitsTaken.addRecord
      ⟨1, 7, 0x5006, 0, 5, 0, 0, toLe 8 s.log.lostReports⟩ (s.ostlerBack 5).waitsTaken.time := by
    have hruns : (s.ostlerBack 5).waitsTaken.restarting 5 = false := State.restarting_ostlerBack (o := 5) hnodup
    rw [State.drainErrors_eq, s.log_ostlerBack, hqueue, hpos, List.foldl_nil, if_neg Bool.false_ne_true, State.note, hruns,
      if_neg Bool.false_ne_true]
    exact State.logReport_uncorrected _ (Nat.one_ne_zero :) _
  obtain ⟨l, hl, -, hwaits, -⟩ := (s.ostlerBack 5).waitsTaken.addRecord_log
    ⟨1, 7, 0x5006, 0, 5, 0, 0, toLe 8 s.log.lostReports⟩ (s.ostlerBack 5).waitsTaken.time
  rw [hdrain]
  refine ⟨?_, _, State.records_addRecord_last .., rfl, ?_⟩
  · rw [hl]
    exact congrArg Prod.snd hwaits
  · rfl

end

theorem restartedOstlersRunAgain : Claims.RestartedOstlersRunAgain := by
  intro o s hnodup
  refine ⟨fun h => ?_, ostlerRestartComplete_runsAgain hnodup, fun e at_ _ h hqueue hlost hsev hkind =>
    errorRestart_logsQueue hnodup h hqueue hlost hsev hkind, fun _ h hqueue hlost => errorRestart_logsLosses hnodup h hqueue hlost⟩
  change execOstlerRestartComplete o s = _
  rw [execOstlerRestartComplete, h]
  rfl

/-- Settles O38: an ostler that halts takes the operations that O2 holds with it and nothing else of the store; an ostler that comes
back makes up for what waited, and what O3 makes up for leaves the functions. -/
theorem restartsEndAndErrorsAreHandled : Obligations.RestartsEndAndErrorsAreHandled := by
  unfold Obligations.RestartsEndAndErrorsAreHandled
  exact ⟨shutdownsEndAndErrorsAreHandled, restartedOstlersRunAgain⟩

end Sys2Proof.Machine
end

section
/-! O4, admission. What a scheduler releases is checked again and, when it passes, admitted: it is charged, its sequence is held, and a
step becomes work (R29, R89, R254). -/

namespace Sys2Proof.Machine

/-! ### What the scheduler releases -/

section
variable {s : State}

/-- Where nothing is held, nothing held runs (R29). -/
theorem State.runHeld_of_noneHeld (h : ∀ o ∈ s.eng.ops, o.phase ≠ .held) : s.runHeld = s := by
  have hnone : (s.eng.ops.filter fun o => decide (o.phase = .held)) = [] :=
    List.filter_eq_nil_iff.mpr fun o ho => by simpa using h o ho
  rw [State.runHeld, hnone]
  rfl

theorem exec_admissionServe_op {slice i cost : Nat} {d d' : Sched} {q : Queue} {o : Op} (hslice : slice < 16)
    (hheld : ∀ o ∈ s.eng.ops, o.phase ≠ .held) (hd : s.sched slice = some d)
    (hserve : s.serve (s.regate (s.recost d)) = (d', .item q (.op i) cost))
    (ho : ((s.putSched d').chargeBridle d' q (cost * 1024)).op i = some o) :
    exec (.admissionServe slice) s = ((s.putSched d').chargeBridle d' q (cost * 1024)).finish
      (((s.putSched d').chargeBridle d' q (cost * 1024)).releaseOp o).place := by
  change execAdmissionServe slice s = _
  rw [execAdmissionServe, State.runHeld_of_noneHeld hheld, if_pos hslice, hd]
  dsimp only
  rw [hserve]
  dsimp only
  rw [ho]

theorem State.releaseOp_admits {o : Op} {p : Plan} {t : State} (ht : t = s.fetchDescriptor (s.qp o.req.qpn) o.req)
    (hcheck : t.recheck o.req = .ok p) (hwaits : t.stepWaits o.req o.slice p.step = false) :
    s.releaseOp o = t.admitOp o p := by
  rw [State.releaseOp, ← ht]
  simp only [hcheck]
  rw [hwaits, if_neg Bool.false_ne_true]

end

/-! ### Schedulers and sequences that are read again -/

section
variable {s : State}

theorem State.sched_of_sch {t : State} (h : t.sch = s.sch) (i : Nat) : t.sched i = s.sched i := by rw [State.sched, h, State.sched]

theorem State.seqs_loadSlot (keep : List (Nat × Nat × Nat)) (die paddock set layer : Nat) :
    (s.loadSlot keep die paddock set layer).store.seqs = s.store.seqs := by
  rw [State.loadSlot]
  split
  · rfl
  · split <;> rfl

theorem State.seqs_loadLayer (keep : List (Nat × Nat × Nat)) (slice paddock set layer : Nat) :
    (s.loadLayer keep slice paddock set layer).store.seqs = s.store.seqs := by
  rw [State.loadLayer]
  split
  · rfl
  · exact foldl_keeps (g := fun t : State => t.store.seqs) (fun _ _ => State.seqs_loadSlot ..) ..

/-- A layer that a step uses changes slots and hints, no sequence (R62, R140). -/
theorem State.seqs_useLayer (slice paddock seq set layer : Nat) :
    (s.useLayer slice paddock seq set layer).store.seqs = s.store.seqs := by
  rw [State.useLayer]
  exact foldl_keeps (g := fun t : State => t.store.seqs) (fun _ _ => State.seqs_loadLayer ..) ..

/-- The sequence that an operation names has one REF more (R89). -/
theorem State.seqAt_holdSeq {r : Req} {p : Plan} {k : Nat} {q : Seq} (hk : p.desc = some k) (hq : s.seqAt k = some q) :
    ∃ x, (s.holdSeq r p).seqAt k = some x ∧ x.ref = q.ref + 1 := by
  have hheld : (s.modSeq k fun q => { q with ref := q.ref + 1 }).seqAt k = some { q with ref := q.ref + 1 } :=
    State.seqAt_modSeq hq rfl
  rw [State.holdSeq, hk]
  dsimp only
  rw [hheld]
  dsimp only
  split
  · exact ⟨_, hheld, rfl⟩
  · split
    · exact ⟨_, hheld, rfl⟩
    · exact ⟨_, State.seqAt_modSeq hheld rfl, rfl⟩

end

/-! ### An admission -/

section
variable (s : State) (o : Op) (p : Plan)

/-- The node with an operation's sequence held, and a STEP counted (R89, R318). -/
def State.seqHeld : State := if o.req.opcode == 1 then (s.holdSeq o.req p).countStep o.slice else s.holdSeq o.req p

/-- An operation as its admission finds it. -/
def Op.admitted (gen : Option (Nat × Nat)) : Op := { o with
  phase := .admitted, cost := p.cost, desc := gen, partner := p.partner, below := p.below, effect := p.effect,
  commit := if decide (p.effect = Effect.none) then .notNeeded else .pending, step := p.step }

/-- The sequence that an admitted operation holds, with its generation. -/
def State.heldDesc : Option (Nat × Nat) := p.desc.bind fun d => ((s.seqHeld o p).seqAt d).map fun q => (d, q.generation)

/-- The admitted operation. -/
def State.admittedOp : Op := o.admitted p (s.heldDesc o p)

/-- The node with an operation charged and among those in flight (R254). -/
def State.charged : State :=
  let t := (s.seqHeld o p).modSched o.slice fun x => { x with inUseUnits := x.inUseUnits + p.cost, inUseOps := x.inUseOps + 1 }
  { t with eng := { t.eng with ops := t.eng.ops.filter (fun x => x.id != o.id) ++ [s.admittedOp o p] } }

/-- The node with a step admitted: besides, its layer is in use (R62, R140). -/
def State.stepCharged : State :=
  match p.step.bind (·.wProj) with
  | none => s.charged o p
  | some x => (s.charged o p).useLayer o.slice o.req.paddock o.req.seq x.1 o.req.layer

variable {s o p}

/-- A step of which nothing is stored becomes work (R136). -/
theorem State.admitOp_step (hstep : o.req.opcode = 1) (heffect : p.effect = .none) : s.admitOp o p = s.stepCharged o p := by
  have hcode : (o.req.opcode == 1) = true := by simp [hstep]
  rw [State.admitOp]
  dsimp only
  rw [heffect]
  simp only [State.stepCharged, State.charged, State.admittedOp, Op.admitted, State.heldDesc, State.seqHeld, hcode, heffect,
    if_true] <;> rfl

/-- The layer that a step uses changes neither the operations nor the charges nor the sequences. -/
theorem State.stepCharged_keeps : (s.stepCharged o p).eng = (s.charged o p).eng ∧
    (s.stepCharged o p).sch = (s.charged o p).sch ∧ (s.stepCharged o p).store.seqs = (s.charged o p).store.seqs := by
  rw [State.stepCharged]
  split
  · exact ⟨rfl, rfl, rfl⟩
  · next x hx =>
    have huse := (s.charged o p).useLayer_same o.slice o.req.paddock o.req.seq x.1 o.req.layer
    exact ⟨huse.eng.eq rfl, huse.sch.eq rfl, State.seqs_useLayer ..⟩

theorem State.op_charged : (s.charged o p).op o.id = some (s.admittedOp o p) := by
  have hgone : ((s.seqHeld o p).eng.ops.filter fun x => x.id != o.id).find? (·.id == o.id) = none := by
    rw [List.find?_eq_none]
    intro x hx
    simpa using (List.mem_filter.mp hx).2
  change List.find? _ ((s.seqHeld o p).eng.ops.filter _ ++ _) = _
  rw [List.find?_append, hgone]
  simp [State.admittedOp, Op.admitted]

theorem State.seqHeld_same : Same { eng := true, store := true, maps := true } s (s.seqHeld o p) := by
  rw [State.seqHeld]
  split
  · exact .then (State.countStep_same ..) rfl ((State.holdSeq_same ..).mono rfl)
  · exact (State.holdSeq_same ..).mono rfl

theorem State.sched_charged {d : Sched} (hd : s.sched o.slice = some d) : (s.charged o p).sched o.slice =
    some { d with inUseUnits := d.inUseUnits + p.cost, inUseOps := d.inUseOps + 1 } := by
  refine State.sched_modSched (s := s.seqHeld o p) ?_ (State.sched_id (d := d) hd)
  exact (State.sched_of_sch (State.seqHeld_same.sch.eq rfl) _).trans hd

theorem State.seqAt_charged {k : Nat} {q : Seq} (hk : p.desc = some k) (hq : s.seqAt k = some q) :
    ∃ x, (s.charged o p).seqAt k = some x ∧ x.ref = q.ref + 1 := by
  have hheld := State.seqAt_holdSeq (r := o.req) hk hq
  have hseq : (s.charged o p).seqAt k = (s.holdSeq o.req p).seqAt k := by
    change (s.seqHeld o p).seqAt k = _
    rw [State.seqHeld]
    split <;> rfl
  rwa [hseq]

end

/-- The operation as an admission left it, once a layer is in use and units have their places. -/
theorem admissionServe_admits {slice i cost : Nat} {s s1 s2 : State} {d d' d2 : Sched} {q : Queue} {o : Op} {p : Plan}
    (hslice : slice < 16) (hheld : ∀ o ∈ s.eng.ops, o.phase ≠ .held) (hd : s.sched slice = some d)
    (hserve : s.serve (s.regate (s.recost d)) = (d', .item q (.op i) cost))
    (hs1 : s1 = (s.putSched d').chargeBridle d' q (cost * 1024)) (ho : s1.op i = some o) (hof : o.slice = slice)
    (hstep : o.req.opcode = 1) (hs2 : s2 = s1.fetchDescriptor (s1.qp o.req.qpn) o.req) (hd2 : s2.sched slice = some d2)
    (hcheck : s2.recheck o.req = .ok p) (heffect : p.effect = .none) (hwaits : s2.stepWaits o.req slice p.step = false) :
    Answers (exec (.admissionServe slice) s) fun t =>
      (∃ y, t.op i = some y ∧ y.phase = .admitted ∧ y.cost = p.cost ∧ y.req = o.req) ∧
      (∃ x, t.sched slice = some x ∧ x.inUseOps = d2.inUseOps + 1 ∧ x.inUseUnits = d2.inUseUnits + p.cost) ∧
      (∀ k q0, p.desc = some k → s2.seqAt k = some q0 → ∃ q1, t.seqAt k = some q1 ∧ q1.ref = q0.ref + 1) := by
  subst hs1 hof
  rw [exec_admissionServe_op hslice hheld hd hserve ho, State.releaseOp_admits hs2 hcheck hwaits,
    State.admitOp_step hstep heffect]
  obtain ⟨heng, hsch, hseqs⟩ := State.stepCharged_keeps (s := s2) (o := o) (p := p)
  generalize s2.stepCharged o p = u at heng hsch hseqs
  have hid : o.id = i := State.op_id ho
  refine answers_finish fun m => ⟨?_, ?_, fun k q0 hk hq => ?_⟩
  · have hop : u.op i = some (s2.admittedOp o p) := by
      have hown := State.op_charged (s := s2) (o := o) (p := p)
      rw [hid] at hown
      rwa [State.op, heng]
    obtain ⟨y, hy, hcore⟩ := State.op_of_opCores (by simp [State.place] : u.place.opCores = u.opCores) hop
    exact ⟨y, hy, congrArg Op.phase hcore, congrArg Op.cost hcore, (congrArg Op.req hcore :)⟩
  · refine ⟨_, (State.sched_place u o.slice).trans ((State.sched_of_sch hsch _).trans (State.sched_charged hd2)), rfl, rfl⟩
  · obtain ⟨x, hx, href⟩ := State.seqAt_charged (o := o) hk hq
    refine ⟨x, ?_, href⟩
    change u.place.seqAt k = some x
    rw [State.seqAt, (State.place_same u).store.eq rfl, hseqs]
    exact hx

end Sys2Proof.Machine
end

section
/-! O4, what only reads: admitted, answered and ended in one (R57, R59, R89, R254). An answer goes out by the egress schedulers, so that
the admission schedulers stay as they were. -/

namespace Sys2Proof.Machine

/-! ### Answers leave the admission schedulers (R246) -/

theorem Sched.enqueue_id (d : Sched) (quantum now cls paddock : Nat) (item : Item) (cost : Nat) :
    (d.enqueue quantum now cls paddock item cost).id = d.id := by
  rw [Sched.enqueue]
  cases d.queue cls paddock with
  | none => dsimp only; split <;> rfl
  | some _ => dsimp only; split <;> rfl

/-- The admission scheduler of every slice is as it was. -/
structure KeepsAdmission (s t : State) : Prop where
  sched : ∀ i, i < 16 → t.sched i = s.sched i

section
variable {s t u : State} (n : Nat)

theorem KeepsAdmission.refl (s : State) : KeepsAdmission s s := ⟨fun _ _ => rfl⟩

theorem KeepsAdmission.of_sch (h : t.sch = s.sch) : KeepsAdmission s t := ⟨fun i _ => State.sched_of_sch h i⟩

theorem KeepsAdmission.trans (h : KeepsAdmission s t) (k : KeepsAdmission t u) : KeepsAdmission s u :=
  ⟨fun i hi => (k.sched i hi).trans (h.sched i hi)⟩

/-- A frame goes to its link's egress scheduler (R246). -/
theorem State.egress_keepsAdmission (link tc paddock : Nat) (f : OutFrame) : KeepsAdmission s (s.egress link tc paddock f) := by
  refine ⟨fun i hi => find?_updateFirst_of_disjoint fun d hd => ?_⟩
  have hid : d.id = 16 + link := by simpa using hd
  have hne : (d.id == i) = false := by rw [beq_eq_false_iff_ne]; omega
  refine ⟨hne, ?_⟩
  change ((d.enqueue ..).id == i) = false
  rwa [Sched.enqueue_id]

theorem State.sendPkt_keepsAdmission (p : OutPkt) (first : Bool) : KeepsAdmission s (s.sendPkt n p first) := by
  rw [State.sendPkt]
  split
  · exact .refl s
  · next q hq =>
    dsimp only
    generalize q.seal _ _ = sealed
    obtain ⟨c, hc⟩ := (s.modQp n fun _ => sealed.2).touchContext_eq n
    rw [hc]
    refine .trans ?_ (State.egress_keepsAdmission ..)
    exact .of_sch rfl

theorem State.pumpFuel_keepsAdmission (fuel : Nat) : KeepsAdmission s (State.pumpFuel n fuel s) := by
  induction fuel generalizing s with
  | zero => exact .refl s
  | succ fuel ih =>
    rw [State.pumpFuel]
    split
    · exact .refl s
    · next q hq =>
      split
      · exact .refl s
      · split
        · exact .refl s
        · next p rest hready =>
          cases hhand : s.atHand n with
          | none =>
            obtain ⟨c, e, f, hfetch⟩ := s.startFetch_eq n (q.homePort / 4)
            exact hfetch ▸ .of_sch rfl
          | some t =>
            obtain ⟨c, e, f, rfl⟩ := State.atHand_eq hhand
            dsimp only
            refine .trans ?_ ih
            have hsent (g : Qp → Qp) (p : OutPkt) : KeepsAdmission s (((s.withPlaces c e f).modQp n g).sendPkt n p true) :=
              .trans (t := (s.withPlaces c e f).modQp n g) (.of_sch rfl) (State.sendPkt_keepsAdmission ..)
            split
            · exact hsent ..
            · exact (hsent ..).trans (.of_sch rfl)

theorem State.pumpOnce_keepsAdmission : KeepsAdmission s (s.pumpOnce n) := by
  cases hq : s.qp n with
  | none => rw [State.pumpOnce, hq]; exact .refl s
  | some q =>
    rw [State.pumpOnce_eq hq]
    exact .trans (t := s.modQp n Qp.cutAll) (.of_sch rfl) (State.pumpFuel_keepsAdmission ..)

theorem State.sendDisconnect_keepsAdmission : KeepsAdmission s (s.sendDisconnect n) := by
  cases hq : s.qp n with
  | none => rw [State.sendDisconnect, hq]; exact .refl s
  | some q =>
    rw [State.sendDisconnect_eq hq]
    split
    · exact .trans (t := s.modQp n (Qp.disconnecting (s.time + s.img.transport.errorHold))) (.of_sch rfl)
        (State.pumpOnce_keepsAdmission ..)
    · exact .refl s

theorem State.sendMsg_keepsAdmission (opcode tc : Nat) (body : Bytes) (final : Bool) (answers : Option Nat) :
    KeepsAdmission s (s.sendMsg n opcode tc body final answers) := by
  have hsent : KeepsAdmission s
      ((s.modQp n fun x => { x with tx := { x.tx with queue := x.tx.queue ++ [⟨opcode, body, final, tc, answers⟩] } }).pump n) :=
    .trans (t := s.modQp n fun x => { x with tx := { x.tx with queue := x.tx.queue ++ [⟨opcode, body, final, tc, answers⟩] } })
      (.of_sch rfl) (.trans (State.pumpOnce_keepsAdmission ..) (State.sendDisconnect_keepsAdmission ..))
  rw [State.sendMsg]
  split
  · exact .refl s
  · split
    · split
      · exact .refl s
      · exact hsent
    · split
      · exact .refl s
      · exact hsent
    · exact .refl s

theorem State.consume_keepsAdmission (msn : Nat) : KeepsAdmission s (s.consume n msn) := by
  rw [State.consume]
  refine .trans ?_ (State.sendDisconnect_keepsAdmission ..)
  exact .of_sch rfl

theorem State.answer_keepsAdmission (msn opcode : Nat) (body : Bytes) : KeepsAdmission s (s.answer n msn opcode body) := by
  have hreplying : KeepsAdmission s (s.replying n msn) := .of_sch rfl
  rcases s.answer_cases n msn opcode body with ⟨tc, h⟩ | h
  · rw [h]
    exact hreplying.trans (State.sendMsg_keepsAdmission ..)
  · rw [h]
    exact hreplying.trans (State.consume_keepsAdmission ..)

end

/-! ### The end of an operation gives its charge and its REF back (R89, R254) -/

section
variable {s : State} {o : Op} {k : Nat}

theorem State.seqs_dropRemoved : s.dropRemoved.store.seqs = s.store.seqs := by
  rw [State.dropRemoved]
  dsimp only
  split <;> rfl

/-- Of the sequences the end of an operation that held nothing up changes the one that it held (R89). -/
theorem State.seqs_opEnded (status detail hint : Nat) (body : Bytes) :
    (s.opEnded o status detail hint body).store.seqs = ((s.returnCharge o).unref o).store.seqs := by
  rw [State.opEnded, State.seqs_dropRemoved]
  split
  · exact (congrArg Store.seqs ((State.consume_same (s.withoutOp o) ..).store.eq rfl)).trans rfl
  · exact (congrArg Store.seqs ((State.answerReq_same (s.withoutOp o) ..).store.eq rfl)).trans rfl

theorem State.sched_withoutOp {i : Nat} {d : Sched} (hd : (s.returnCharge o).sched i = some d) :
    (s.withoutOp o).sched i = some (d.discard fun x => decide (x = Item.op o.id)) := by
  have hsch : (((s.returnCharge o).unref o).dropHeld (HeldWork.of o.id)).sch = (s.returnCharge o).sch :=
    (State.unref_same ..).sch.eq rfl
  change (List.map _ (((s.returnCharge o).unref o).dropHeld (HeldWork.of o.id)).sch.scheds).find? _ = _
  rw [hsch, List.find?_map]
  exact congrArg (Option.map _) hd

/-- An admitted operation that has ended and been answered is charged no more (R254). -/
theorem State.sched_opEnded {d : Sched} (hphase : o.phase = .admitted) (hdisc : o.discarded = false) (hslice : o.slice < 16)
    (hd : s.sched o.slice = some d) (status detail hint : Nat) (body : Bytes) :
    ∃ x, (s.opEnded o status detail hint body).sched o.slice = some x ∧
      x.inUseUnits = d.inUseUnits - o.cost ∧ x.inUseOps = d.inUseOps - 1 := by
  have hback : (s.returnCharge o).sched o.slice =
      some { d with inUseUnits := d.inUseUnits - o.cost, inUseOps := d.inUseOps - 1 } := by
    rw [State.returnCharge, if_pos (by simpa using hphase)]
    exact State.sched_modSched hd (State.sched_id (d := d) hd)
  refine ⟨Sched.discard { d with inUseUnits := d.inUseUnits - o.cost, inUseOps := d.inUseOps - 1 }
    fun x => decide (x = Item.op o.id), ?_, rfl, rfl⟩
  rw [State.opEnded, hdisc, if_neg Bool.false_ne_true]
  refine (State.sched_of_sch ((State.dropRemoved_same ..).sch.eq rfl) _).trans ?_
  exact ((State.answer_keepsAdmission ..).sched _ hslice).trans (State.sched_withoutOp hback)

/-- The one operation of a node has nothing that it held up. -/
theorem State.endOp_of_one (h : s.eng.ops = [o]) (status detail hint : Nat) (body : Bytes) :
    s.endOp o status detail hint body = s.opEnded o status detail hint body := by
  have hnone : (s.opEnded o status detail hint body).eng.ops = [] := by simp [State.ops_opEnded, h]
  rw [State.endOp_eq, State.runHeldFuel_of_ops_nil _ hnone, ite_self]

theorem State.seqs_unref_congr {t : State} (h : t.store = s.store) : (t.unref o).store.seqs = (s.unref o).store.seqs := by
  rw [State.unref, State.unref]
  cases o.desc with
  | none => exact congrArg Store.seqs h
  | some d =>
    change updateFirst _ _ t.store.seqs = updateFirst _ _ s.store.seqs
    rw [h]

theorem State.mem_withoutOp : (s.withoutOp o).mem = s.mem := by
  change ((s.returnCharge o).unref o).mem = _
  rw [(State.unref_same ..).mem.eq rfl, (State.returnCharge_same ..).mem.eq rfl]

end

/-! ### An operation that only reads -/

section
variable {s : State} {o : Op} {p : Plan}

theorem State.admitOp_read (hstep : o.req.opcode ≠ 1) (heffect : p.effect = .none) (hnone : p.step = none) :
    s.admitOp o p = (s.charged o p).finishOther (s.charged o p) (s.admittedOp o p) := by
  have hcode : (o.req.opcode == 1) = false := by simpa using hstep
  rw [State.admitOp]
  dsimp only
  rw [heffect]
  simp only [State.charged, State.admittedOp, Op.admitted, State.heldDesc, State.seqHeld, hcode, heffect, hnone, Option.bind_none]
  rfl

/-- A lookup and a query are counted and answered (R57, R59). -/
theorem State.finishOther_reads {pre : State} (hcode : o.req.opcode = 7 ∨ o.req.opcode = 8) :
    ∃ body, s.finishOther pre o = (s.countOk o).endOp o St.ok 0 0 body := by
  rcases hcode with h | h
  · exact ⟨(s.countOk o).lookupBody o.req, by rw [State.finishOther, h]; rfl⟩
  · exact ⟨(s.countOk o).okBody pre o, by rw [State.finishOther, h]; rfl⟩

/-- The held sequence gives its REF back, and the sequences stand as they did (R89). -/
theorem updateFirst_ref (seqs : List Seq) (d : Nat) {g : Seq → Seq}
    (hg : ∀ q, q.desc = d → seqs.find? (·.desc == d) = some q → g { q with ref := q.ref + 1 } = q) :
    updateFirst (·.desc == d) g (updateFirst (·.desc == d) (fun q => { q with ref := q.ref + 1 }) seqs) = seqs := by
  induction seqs with
  | nil => rfl
  | cons x xs ih =>
    by_cases hx : (x.desc == d) = true
    · have hback : g { x with ref := x.ref + 1 } = x := hg x (by simpa using hx) (by simp [hx])
      simp [updateFirst, hx, hback]
    · have hrest := ih fun q hq hfind => hg q hq (by simpa [hx] using hfind)
      simp [updateFirst, hx, hrest]

/-- What a query holds is the REF of its sequence alone: its deadline stands (R57, R89). -/
theorem State.store_holdSeq_query {r : Req} {k : Nat} (hcode : r.opcode = 8) (hk : p.desc = some k) :
    (s.holdSeq r p).store = (s.modSeq k fun q => { q with ref := q.ref + 1 }).store := by
  rw [State.holdSeq, hk]
  dsimp only
  split
  · rfl
  · rw [hcode, if_pos (by rfl)]

theorem State.seqs_unref_held (hcode : o.req.opcode = 7 ∧ p.desc = none ∨ o.req.opcode = 8) :
    ((s.charged o p).unref (s.admittedOp o p)).store.seqs = s.store.seqs := by
  have hone : (o.req.opcode == 1) = false := by rcases hcode with ⟨h, -⟩ | h <;> simp [h]
  have hheld : s.seqHeld o p = s.holdSeq o.req p := by rw [State.seqHeld, hone, if_neg Bool.false_ne_true]
  have hcharged : (s.charged o p).store = (s.seqHeld o p).store := rfl
  have hdesc : (s.admittedOp o p).desc = s.heldDesc o p := rfl
  rw [State.unref, hdesc, State.heldDesc, hheld]
  cases hk : p.desc with
  | none =>
    have hkept : s.holdSeq o.req p = s := by rw [State.holdSeq, hk]
    change (s.charged o p).store.seqs = _
    rw [hcharged, hheld, hkept]
  | some k =>
    have hquery : o.req.opcode = 8 := hcode.resolve_left fun h => by simp [hk] at h
    have hstore := State.store_holdSeq_query (s := s) hquery hk
    have hat : (s.holdSeq o.req p).seqAt k = (s.modSeq k fun q => { q with ref := q.ref + 1 }).seqAt k := by
      rw [State.seqAt, hstore, State.seqAt]
    rw [hheld, hstore] at hcharged
    rw [Option.bind_some, hat]
    cases hq : s.seqAt k with
    | none =>
      have hsame : (s.charged o p).store.seqs = s.store.seqs := by
        rw [hcharged]
        refine updateFirst_eq_self fun x hx hd => ?_
        exact absurd hd (List.find?_eq_none.mp hq x hx)
      have hnone : (s.modSeq k fun q => { q with ref := q.ref + 1 }).seqAt k = none := by
        rw [State.seqAt, ← hcharged, hsame]
        exact hq
      rw [hnone]
      exact hsame
    | some q =>
      have hsome : (s.modSeq k fun q => { q with ref := q.ref + 1 }).seqAt k = some { q with ref := q.ref + 1 } :=
        State.seqAt_modSeq hq rfl
      rw [hsome]
      change updateFirst _ _ (s.charged o p).store.seqs = _
      rw [hcharged]
      refine updateFirst_ref _ _ fun x _ hx => ?_
      obtain rfl : x = q := Option.some.inj (hx.symm.trans hq)
      simp

end

theorem State.ops_charged_of_one {s : State} {o : Op} {p : Plan} (h : s.eng.ops = [o]) :
    (s.charged o p).eng.ops = [s.admittedOp o p] := by
  have hseq : (s.holdSeq o.req p).eng.ops = s.eng.ops := congrArg Engine.ops ((State.holdSeq_same ..).eng.eq rfl)
  have hheld : (s.seqHeld o p).eng.ops = s.eng.ops := by
    rw [State.seqHeld]
    split <;> exact hseq
  change (s.seqHeld o p).eng.ops.filter _ ++ _ = _
  rw [hheld, h]
  simp

theorem State.ops_place_of_nil {s : State} (h : s.eng.ops = []) : s.place.eng.ops = [] := by
  have hcores : s.place.opCores = s.opCores := by simp [State.place]
  rw [State.opCores, State.opCores, h] at hcores
  simpa using hcores

/-- An operation that only reads has ended once its admission has: it was answered there. -/
theorem admissionServe_reads {slice i cost : Nat} {s s1 s2 : State} {d d' d2 : Sched} {q : Queue} {o : Op} {p : Plan}
    (hslice : slice < 16) (hops : s.eng.ops = [o]) (hphase : o.phase = .queued) (hd : s.sched slice = some d)
    (hserve : s.serve (s.regate (s.recost d)) = (d', .item q (.op i) cost))
    (hs1 : s1 = (s.putSched d').chargeBridle d' q (cost * 1024)) (ho : s1.op i = some o) (hof : o.slice = slice)
    (hdisc : o.discarded = false) (hs2 : s2 = s1.fetchDescriptor (s1.qp o.req.qpn) o.req) (hops2 : s2.eng.ops = [o])
    (hd2 : s2.sched slice = some d2) (hcode : o.req.opcode = 7 ∧ p.desc = none ∨ o.req.opcode = 8)
    (hcheck : s2.recheck o.req = .ok p) (heffect : p.effect = .none) (hstep : p.step = none) :
    Answers (exec (.admissionServe slice) s) fun t =>
      t.eng.ops = [] ∧ t.store.seqs = s2.store.seqs ∧ t.mem = s2.mem ∧
      ∃ x, t.sched slice = some x ∧ x.inUseOps = d2.inUseOps ∧ x.inUseUnits = d2.inUseUnits := by
  subst hs1 hof
  have hheld : ∀ x ∈ s.eng.ops, x.phase ≠ .held := by
    intro x hx
    obtain rfl : x = o := by simpa [hops] using hx
    rw [hphase]
    exact nofun
  have hwaits : s2.stepWaits o.req o.slice p.step = false := by rw [hstep]; rfl
  have hone : o.req.opcode ≠ 1 := by rcases hcode with ⟨h, -⟩ | h <;> simp [h]
  obtain ⟨body, hfinish⟩ := State.finishOther_reads (s := s2.charged o p) (pre := s2.charged o p) (o := s2.admittedOp o p)
    (hcode.imp_left And.left)
  rw [exec_admissionServe_op hslice hheld hd hserve ho, State.releaseOp_admits hs2 hcheck hwaits,
    State.admitOp_read hone heffect hstep, hfinish]
  have hcount := State.countOk_same (s2.charged o p) (s2.admittedOp o p)
  have hin : ((s2.charged o p).countOk (s2.admittedOp o p)).eng.ops = [s2.admittedOp o p] := by
    rw [hcount.eng.eq rfl]
    exact State.ops_charged_of_one hops2
  rw [State.endOp_of_one hin]
  have hsched : ((s2.charged o p).countOk (s2.admittedOp o p)).sched o.slice =
      some { d2 with inUseUnits := d2.inUseUnits + p.cost, inUseOps := d2.inUseOps + 1 } :=
    (State.sched_of_sch (hcount.sch.eq rfl) _).trans (State.sched_charged hd2)
  obtain ⟨x, hx, hunits, hused⟩ := State.sched_opEnded (o := s2.admittedOp o p) rfl hdisc hslice hsched St.ok 0 0 body
  have hended := State.opEnded_same ((s2.charged o p).countOk (s2.admittedOp o p)) (s2.admittedOp o p) St.ok 0 0 body
  have hplace := State.place_same (((s2.charged o p).countOk (s2.admittedOp o p)).opEnded (s2.admittedOp o p) St.ok 0 0 body)
  refine answers_finish fun m => ⟨?_, ?_, ?_, x, ?_, hused, ?_⟩
  · refine State.ops_place_of_nil ?_
    simp [State.ops_opEnded, hin]
  · change (State.place _).store.seqs = _
    rw [hplace.store.eq rfl, State.seqs_opEnded]
    refine (State.seqs_unref_congr ?_).trans (State.seqs_unref_held hcode)
    rw [(State.returnCharge_same ..).store.eq rfl, hcount.store.eq rfl]
  · change (State.place _).mem = _
    rw [hplace.mem.eq rfl, hended.mem.eq rfl, State.mem_withoutOp, hcount.mem.eq rfl]
    exact State.seqHeld_same.mem.eq rfl
  · exact (State.sched_place ..).trans hx
  · rw [hunits]
    exact Nat.add_sub_cancel ..

end Sys2Proof.Machine
end

section
/-! O4, the front end. The request whose time ends first leaves it, and is held, refused or accepted as a new operation (R29, R292,
R293). -/

namespace Sys2Proof.Machine

/-! ### The ids of the operations that a request leaves in flight -/

/-- The ids of the operations in flight. -/
def State.opIds (s : State) : List Nat := s.eng.ops.map (·.id)

section
variable {s t : State}

theorem State.opIds_of_opCores (h : t.opCores = s.opCores) : t.opIds = s.opIds := by
  have hids (x : State) : x.opIds = x.opCores.map (·.id) := by
    rw [State.opCores, List.map_map]
    rfl
  rw [hids, hids, h]

variable (s)

theorem State.opCores_fetchChecks (d : Nat) : (s.fetchChecks d).opCores = s.opCores := by
  have hlost (xs : List Seq) (a : Nat) : (xs.foldl (fun t x => t.loseSeq x a) s).opCores = s.opCores :=
    foldl_keeps (g := State.opCores) (fun t x => State.opCores_loseSeq t x a) xs s
  rw [State.fetchChecks]
  split
  · rfl
  · dsimp only
    split
    · exact (State.opCores_loseFrameOf ..).trans (hlost ..)
    · split
      · exact (State.opCores_loseFrameOf ..).trans (State.opCores_loseSeq ..)
      · split
        · exact (State.opCores_loseFrameOf ..).trans (State.opCores_loseSeq ..)
        · rfl

/-- A descriptor that is fetched may cost sequences, but no operation (R88, R119). -/
theorem State.opCores_fetchDescriptor (qp : Option Qp) (r : Req) : (s.fetchDescriptor qp r).opCores = s.opCores := by
  rw [State.fetchDescriptor]
  extract_lets found
  split
  · rfl
  · refine foldl_keeps (g := State.opCores) (fun t die => ?_) ..
    extract_lets line t' mine
    have ht : t'.opCores = t.opCores := by
      dsimp only [t']
      split
      · rfl
      · exact State.opCores_fetchChecks ..
    exact ht

theorem State.opCores_checkEffects (r : Req) (e : CheckFail) : (s.checkEffects r e).opCores = s.opCores := by
  unfold State.checkEffects
  extract_lets s1 s2 s3 s4
  have h1 : s1.opCores = s.opCores := foldl_keeps (g := State.opCores) (fun _ _ => State.opCores_markLost ..) ..
  have h2 : s2.opCores = s1.opCores := foldl_keeps (g := State.opCores) (fun t x => by
    split
    · rfl
    · exact State.opCores_restoreReq ..) ..
  have h3 : s3.opCores = s2.opCores := by
    dsimp only [s3]
    split
    · exact State.opCores_note ..
    · rfl
  have h4 : s4.opCores = s3.opCores := by
    dsimp only [s4]
    split
    · rfl
    · exact (State.opCores_note ..).trans rfl
  have hlast := h4.trans (h3.trans (h2.trans h1))
  split
  · exact (State.opCores_of_eng ((State.fetchHeader_same ..).eng.eq rfl)).trans hlast
  · exact hlast

theorem State.opIds_refuseReq (r : Req) (e : CheckFail) : (s.refuseReq r e).opIds = s.opIds :=
  State.opIds_of_opCores ((State.opCores_of_eng ((State.answerReq_same ..).eng.eq rfl)).trans (s.opCores_checkEffects r e))

theorem State.opIds_modOp (i : Nat) {f : Op → Op} (hf : ∀ x, (f x).id = x.id) : (s.modOp i f).opIds = s.opIds :=
  map_updateFirst fun x _ => hf x

theorem State.opIds_queueOp (o : Op) : (s.queueOp o).opIds = s.opIds := by
  have hput : (s.modOp o.id fun x => { x with phase := .queued }).opIds = s.opIds := s.opIds_modOp o.id fun _ => rfl
  rw [State.queueOp, State.opIds, (State.enqueue_same ..).eng.eq rfl]
  exact hput

theorem State.opIds_holdForWeights (o : Op) : (s.holdForWeights o).opIds = s.opIds := by
  have hput : (s.modOp o.id fun x => { x with phase := .weights }).opIds = s.opIds := s.opIds_modOp o.id fun _ => rfl
  rw [State.holdForWeights]
  split
  · rw [State.opIds, (State.loadLayer_same ..).eng.eq rfl]
    exact hput
  · rfl

/-- An accepted request is one operation more, of the next number. -/
theorem State.opIds_acceptReq (r : Req) (p : Plan) : (s.acceptReq r p).opIds = s.opIds ++ [s.eng.nextOp] := by
  unfold State.acceptReq
  extract_lets id o eng s1 s2
  have h1 : s1.opIds = s.opIds ++ [s.eng.nextOp] := List.map_append
  have h2 : s2.opIds = s1.opIds := by
    dsimp only [s2]
    split <;> rfl
  split
  · exact (State.opIds_holdForWeights ..).trans (h2.trans h1)
  · exact (State.opIds_queueOp ..).trans (h2.trans h1)

theorem State.opIds_parkReq (r : Req) (phase : OpPhase) : (s.parkReq r phase).opIds = s.opIds ++ [s.eng.nextOp] := List.map_append

/-- A request that reaches admission leaves the operations that are in flight, and may become one of a new number (R29). -/
theorem State.opIds_considerReq (r : Req) {i : Nat} (hi : i ∈ (s.considerReq r).opIds) : i ∈ s.opIds ∨ s.eng.nextOp ≤ i := by
  rw [State.considerReq] at hi
  split at hi
  · rw [State.opIds_parkReq, List.mem_append, List.mem_singleton] at hi
    exact hi.imp_right Eq.ge
  · rw [State.runReq] at hi
    split at hi
    · exact .inl hi
    · next q hq =>
      have hids := State.opIds_of_opCores (s.opCores_fetchDescriptor (some q) r)
      have hnext := (s.fetchDescriptor_keepsPads (some q) r).nextOp
      dsimp only at hi
      split at hi
      · rw [State.opIds_refuseReq, hids] at hi
        exact .inl hi
      · rw [State.opIds_acceptReq, hids, List.mem_append, List.mem_singleton] at hi
        exact hi.imp_right fun h => hnext.trans h.ge

/-- A parked request is an operation of the next number (R29). -/
theorem State.op_parkReq (r : Req) (phase : OpPhase) (hnew : ∀ x ∈ s.eng.ops, x.id < s.eng.nextOp) :
    ∃ y, (s.parkReq r phase).op s.eng.nextOp = some y ∧ y.req = r ∧ y.phase = phase := by
  have hnone : s.eng.ops.find? (·.id == s.eng.nextOp) = none := by
    rw [List.find?_eq_none]
    intro x hx
    simpa using (hnew x hx).ne
  refine ⟨⟨s.eng.nextOp, r, phase, s.sliceFor r.paddock r.seq, 0, 0, none, 0, 0, .none, .notNeeded, 0, St.ok, 0, 0, none, false⟩,
    ?_, rfl, rfl⟩
  change (s.eng.ops ++ [_]).find? _ = _
  rw [List.find?_append, hnone]
  simp

/-- An admitted mutation of the same sequence holds a mutation up (R29). -/
theorem State.orderBusy_of_admitted {r : Req} {x : Op} (hx : x ∈ s.eng.ops) (hmut : x.req.mutates = true)
    (hkey : x.req.orderKey = r.orderKey) (hphase : x.phase = .admitted) (hr : r.mutates = true) : s.orderBusy r = true := by
  rw [State.orderBusy, hr, Bool.true_and, List.any_eq_true]
  exact ⟨x, hx, by simp [hmut, hkey, hphase]⟩

end

/-! ### The request that leaves the front end (R292) -/

/-- The only element with the least key is the one that is found. -/
theorem minBy_eq_some {α : Type} {key : α → Nat} {xs : List α} {x : α} (hx : x ∈ xs)
    (hlt : ∀ y ∈ xs, y ≠ x → key x < key y) :
    minBy key xs = some x := by
  induction xs with
  | nil => cases hx
  | cons a xs ih =>
    rw [minBy]
    by_cases hin : x ∈ xs
    · rw [ih hin fun y hy => hlt y (List.mem_cons_of_mem a hy)]
      by_cases ha : a = x
      · rw [ha]
        simp
      · exact if_pos (hlt a (by simp) ha)
    · obtain rfl : x = a := (List.mem_cons.mp hx).resolve_right hin
      cases hmin : minBy key xs with
      | none => rfl
      | some y =>
        have hy := mem_of_minBy hmin
        have hne : y ≠ x := fun h => hin (h ▸ hy)
        exact if_neg (hlt y (List.mem_cons_of_mem x hy) hne).le.not_gt

section
variable {s : State} {o : Op} {at_ slice : Nat}

/-- The node at a deadline, without the operation that it ends for. -/
def State.takenOut (s : State) (o : Op) (at_ : Nat) : State :=
  { s.advanceTo at_ with eng := { s.eng with ops := s.eng.ops.filter (·.id != o.id) } }

/-- The node once a request has left the front end at its deadline, or too late, which is logged (R292). -/
def State.frontLeft (s : State) (o : Op) (at_ slice : Nat) : State :=
  if at_ < s.time then (s.takenOut o at_).note ⟨0, 8, 0x4001, o.req.paddock, slice, 0, o.req.seq, []⟩ else s.takenOut o at_

theorem State.frontLeft_same : Same { out := true, regs := true, host := true, log := true }
    (s.takenOut o at_) (s.frontLeft o at_ slice) := by
  rw [State.frontLeft]
  split
  · exact State.note_same ..
  · exact .refl _ _

theorem exec_frontDelayRelease (ho : o ∈ s.eng.ops) (hslice : o.slice = slice) (hphase : o.phase = .front at_)
    (hfirst : ∀ x ∈ s.eng.ops, ∀ u, x ≠ o → x.slice = slice → x.phase = .front u → at_ < u) :
    exec (.frontDelayRelease slice) s = s.finish ((s.frontLeft o at_ slice).considerReq o.req) := by
  change execFrontDelayRelease slice s = _
  unfold execFrontDelayRelease
  extract_lets due
  have hmem (x : Op) (u : Nat) : (x, u) ∈ due ↔ x ∈ s.eng.ops ∧ x.slice = slice ∧ x.phase = .front u := by
    simp only [due, List.mem_filterMap]
    constructor
    · rintro ⟨y, hy, hsome⟩
      split at hsome
      · next v hv =>
        split at hsome
        · next hys =>
          obtain ⟨rfl, rfl⟩ := Prod.mk.inj (Option.some.inj hsome)
          exact ⟨hy, by simpa using hys, hv⟩
        · cases hsome
      · cases hsome
    · rintro ⟨hx, hxs, hxp⟩
      refine ⟨x, hx, ?_⟩
      rw [hxp]
      exact if_pos (by simpa using hxs)
  have hmin : minBy (·.2) due = some (o, at_) := by
    refine minBy_eq_some ((hmem o at_).mpr ⟨ho, hslice, hphase⟩) fun y hy hne => ?_
    obtain ⟨hin, hys, hyp⟩ := (hmem y.1 y.2).mp hy
    refine hfirst y.1 hin y.2 (fun h => hne ?_) hys hyp
    rw [h, hphase, OpPhase.front.injEq] at hyp
    exact Prod.ext h hyp.symm
  rw [hmin]
  rfl

/-- The request that leaves the front end is gone from it, and is held behind an unfinished mutation (R29, R292). -/
theorem frontDelayRelease_leaves (ho : o ∈ s.eng.ops) (hslice : o.slice = slice) (hphase : o.phase = .front at_)
    (hnew : ∀ x ∈ s.eng.ops, x.id < s.eng.nextOp)
    (hfirst : ∀ x ∈ s.eng.ops, ∀ u, x ≠ o → x.slice = slice → x.phase = .front u → at_ < u) :
    Answers (exec (.frontDelayRelease slice) s) fun t =>
      t.time = max s.time at_ ∧ (∀ x ∈ t.eng.ops, x.id ≠ o.id) ∧
      ((∃ x ∈ s.eng.ops, x.id ≠ o.id ∧ x.req.mutates = true ∧ x.req.orderKey = o.req.orderKey ∧ x.phase = .admitted) →
        o.req.mutates = true →
        ∃ y, t.op s.eng.nextOp = some y ∧ y.req = o.req ∧ y.phase = .held) := by
  rw [exec_frontDelayRelease ho hslice hphase hfirst]
  have hleft := State.frontLeft_same (s := s) (o := o) (at_ := at_) (slice := slice)
  have heng := hleft.eng.eq rfl
  have hops : (s.frontLeft o at_ slice).eng.ops = s.eng.ops.filter (·.id != o.id) := congrArg Engine.ops heng
  have hnext : (s.frontLeft o at_ slice).eng.nextOp = s.eng.nextOp := (congrArg Engine.nextOp heng :)
  generalize s.frontLeft o at_ slice = u at hleft hops hnext
  refine answers_finish fun m => ⟨?_, fun x hx hid => ?_, ?_⟩
  · exact ((State.considerReq_same u o.req).time.eq rfl).trans (hleft.time.eq rfl)
  · have hmem : o.id ∈ (u.considerReq o.req).opIds := List.mem_map.mpr ⟨x, hx, hid⟩
    rcases State.opIds_considerReq u o.req hmem with hold | hlate
    · obtain ⟨y, hy, hyid⟩ := List.mem_map.mp hold
      rw [hops] at hy
      simp [hyid] at hy
    · exact absurd (hnew o ho) (by omega)
  · rintro ⟨x, hx, hne, hmut, hkey, hadm⟩ hr
    have hin : x ∈ u.eng.ops := by
      rw [hops]
      exact List.mem_filter.mpr ⟨hx, by simpa using hne⟩
    have hbusy := State.orderBusy_of_admitted u hin hmut hkey hadm hr
    have hparked := State.op_parkReq u o.req .held fun y hy => by
      rw [hops] at hy
      rw [hnext]
      exact hnew y (List.mem_filter.mp hy).1
    rw [hnext] at hparked
    rw [State.considerReq, hbusy]
    exact hparked

end

/-- Settles O4. The front end: of the due requests the first is the least by its deadline (`minBy_eq_some`), and what follows adds
operations of new numbers only (`State.opIds_considerReq`). Admission: an admitted operation is charged and holds its sequence
(`State.charged`), and the layer and the units that a step takes change neither. Reads: what the admission took, the operation's end
gives back (`State.seqs_unref_held`, `State.sched_opEnded`), and its answer leaves by the egress schedulers (`KeepsAdmission`). -/
theorem admissionFollowsTheFrontEnd : Obligations.AdmissionFollowsTheFrontEnd := by
  unfold Obligations.AdmissionFollowsTheFrontEnd
  refine ⟨?_, ?_, ?_⟩
  · intro slice s o at_ ho hslice hphase hnew hfirst
    exact frontDelayRelease_leaves ho hslice hphase hnew hfirst
  · intro slice s s1 s2 d d' d2 q i cost o p hslice hheld hd hserve hs1 ho hof hstep hs2 hd2 hcheck heffect hwaits
    exact admissionServe_admits hslice hheld hd hserve hs1 ho hof hstep hs2 hd2 hcheck heffect hwaits
  · intro slice s s1 s2 d d' d2 q i cost o p hslice hops hphase hd hserve hs1 ho hof hdisc hs2 hops2 hd2 hcode hcheck heffect hstep
    exact admissionServe_reads hslice hops hphase hd hserve hs1 ho hof hdisc hs2 hops2 hd2 hcode hcheck heffect hstep

end Sys2Proof.Machine
end
